-- ==== Sys2Proof/Word.lean ====
section
/-!
DEFINITION. Word.lean: the two words of the part: the byte and the 32-bit register (spec/00_scope.md, "Registers").
-/
namespace Sys2Proof

/-- One byte, the unit of packets, frames and memory. -/
abbrev Byte := BitVec 8

/-- One register: 32 bits (R8). -/
abbrev Word := BitVec 32

end Sys2Proof
end

