-- ==== Sys2Proof/Syntax.lean ====
section
/-!
DEFINITION. Syntax.lean: the commands of the block, one constructor per row of spec/opcode_table.json. A row that is an
opcode carries the command packet that reaches the node (04 R109); the other rows carry what the outside world gives.
-/
namespace Sys2Proof

/-- A command packet but for its OPCODE and LENGTH (04 R109): the opcode is the row's, LENGTH that of `params`.
`slot` tells a class-0 command that came in a tick frame's command slot (04 R115). -/
structure Packet where
  cls : BitVec 2 := 1
  auth : Bool := false
  mcast : Bool := false
  noReply : Bool := false
  slot : Bool := false
  /-- The lane it came in on; none for one from a port or core of the node itself. -/
  lane : Option (Fin 32) := none
  seq : BitVec 16 := 0
  target : BitVec 13 := 0
  /-- Bits [12:0] the entry node, bits [15:13] its port (04 R109). -/
  source : BitVec 16 := 0
  handle : Word := 0
  params : List Byte := []
  counter : Word := 0
  mac : List Byte := List.replicate 8 0
  /-- Session key under which the node accepted it (the model's own note, R129); none until then. -/
  ks : List Byte := []
  deriving DecidableEq, Repr

/-- What a lane in Ihluri mode carries, one code-group each but for the idle pair (03 R72): idle pair, /S/, /T/, /V/, /P/, a byte. -/
inductive Sym where
  | idle | start | term | bad | resume | data (b : Byte)
  deriving DecidableEq, Repr

/-- How a command reaches its entry node or a node on its way (04 R109, R110): a segment on a lane, or a packet from a core. -/
inductive CmdEntry where
  | lane (n : Fin 32) (segment : List Byte)
  | core (n : Fin 5) (packet : List Byte)
  deriving DecidableEq, Repr

/-- The commands of the block. -/
inductive Instr where
  /-- POWER_ON_RESET (R429): PORST_N low or a supply below its reset level asserts power-on reset, driving GO low, SO low and FAULT_OUT_N asserted. -/
  | powerOnReset
  /-- POWER_ON_RESET_RELEASE (R2): 1 ms after the last reset condition clears, the node samples ROLE, SENIOR and BOOTSRC and enters SELFTEST. -/
  | powerOnResetRelease (role : BitVec 2) (senior bootsrc : Bool)
  /-- SELFTEST_COMPLETE (R431): With REFCLK present, PLLs locked and slice and memory-guard self-tests done, the node leaves SELFTEST for LINK or LOAD. -/
  | selftestComplete (slices : List (Int × Int × List Int)) (checkerOk : BitVec 7)
  /-- SUPPLY_WINDOW_EXIT (R430): A supply leaves its warning window without falling below its reset level. -/
  | supplyWindowExit (supply : Fin 5)
  /-- IMAGE_VERIFICATION (R438): Verification of a loaded or staged firmware image completes and the image is accepted or refused with a reason code in IMG_ERR. -/
  | imageVerification
  /-- TICK_BOUNDARY (R41): Global time reaches a whole multiple of the tick length, starting a new tick number. -/
  | tickBoundary
  /-- SAMPLE (R58): The SAMPLE phase offset is reached, and the measurement unit starts the tick's sequences. -/
  | sample
  /-- UP (R58): At UP a Floret sends its up tick frame with the Tally of the tick. -/
  | up
  /-- TALLY (R61): The tally deadline passes; the parent merges, treats missing units as stale or excluded, and opens its loop window. -/
  | tally (reads : List (Fin 24576))
  /-- LOOP_END (R65): The Meadow's loop window closes and the top Yarrow allocation starts on the current or previous string demands. -/
  | loopEnd
  /-- DOWN (R162): An Umbel with no valid down tick frame by DOWN sends HOLD in every down frame to its children. -/
  | down
  /-- APPLY (R63): At the apply deadline a Floret holds when no valid frame or a HOLD frame has arrived, counting HOLD_CNT. -/
  | apply
  /-- HOLD_LIMIT_REACHED (R64): HOLD_CNT reaches HOLD_LIMIT and the Floret enters BLOCKED at that apply deadline. -/
  | holdLimitReached
  /-- DOWN_TICK_FRAME (R91): A down tick frame arrives on a lane and is checked, obeyed or used for delay, sync, safety bits, credit, trigger and the class-0 slot. -/
  | downTickFrame (lane : Fin 32) (frame : List Byte) (age : Nat)
  /-- UP_TICK_FRAME (R93): An up tick frame arrives at a parent or twin partner and its Tally, flags, slot and stamps are taken under the tally deadline. -/
  | upTickFrame (lane : Fin 32) (frame : List Byte) (age : Nat)
  /-- MERGE_COMPLETE (R58): The 38-clk merge of unit Tallies completes and an Umbel sends its up tick frame. -/
  | mergeComplete
  /-- ALLOCATION_COMPLETE (R59): The 40-clk allocation or split completes and the node's down tick frames leave. -/
  | allocationComplete
  /-- DECISION_APPLY (R160): At the boundary plus the stagger offset the Floret applies its decided changes of insertion state. -/
  | decisionApply
  /-- TRIM_END (R156): TRIM_PCLK after its insertion the trim cell is bypassed again. -/
  | trimEnd
  /-- HOLDOVER (R47): No uplink gives a usable recovered clock and the node continues on its holdover oscillator. -/
  | holdover
  /-- SYNC_TIMEOUT (R48): A node still in SYNC 500 ms after entering raises TICK_SYNC_LOSS and keeps trying. -/
  | syncTimeout
  /-- TICK_ALIGN (R49): |TICK_OFFSET| above 20 ns for 16 consecutive ticks raises TICK_ALIGN. -/
  | tickAlign
  /-- PPS_IN (R53): A PPS_IN rising edge is compared with the whole second and steers frequency or loads a pending TIME_SET. -/
  | ppsIn (width : Nat)
  /-- PPS_LOSS (R54): No PPS_IN edge within 1 s plus 1 µs of the previous one. -/
  | ppsLoss
  /-- PPS_OUT (R55): At each whole second of global time the node drives PPS_OUT high. -/
  | ppsOut
  /-- PPS_WIDTH (R55): PPS_WIDTH ms after its rise PPS_OUT returns low. -/
  | ppsWidth
  /-- TIME_SET_LOAD (R42): At the load instant of an accepted TIME_SET the value is loaded or refused and the reply is sent. -/
  | timeSetLoad
  /-- POWER_UP_SLOT (R75): A lane in PEND is granted a power-up slot and enters PWR, reading its module identifier. -/
  | powerUpSlot (answer : Option (List Byte))
  /-- SIGNAL_DETECT (R74): A lane in PWR detects signal at its receiver and enters ALIGN. -/
  | signalDetect (lane : Fin 32)
  /-- PWR_TIMEOUT (R74): A lane in PWR without signal for 50 µs enters DOWN. -/
  | pwrTimeout (lane : Fin 32)
  /-- COMMA_ALIGNMENT (R74): Four commas at one alignment with no invalid code-group move a lane from ALIGN to HELLO. -/
  | commaAlignment (lane : Fin 32)
  /-- RATE_SCAN (R76): An uplink 2 ms in ALIGN changes to the next enabled rate and re-enters PWR. -/
  | rateScan (lane : Fin 32)
  /-- HELLO_TIMER (R74): A lane sends a HELLO segment every 10 µs in HELLO and every 1 ms in UP. -/
  | helloTimer (lane : Fin 32)
  /-- HELLO (R77): A HELLO segment is received; three valid matching ones move the lane to UP, a kind mismatch sets MISWIRE. -/
  | hello (lane : Fin 32) (segment : List Byte)
  /-- SIGNAL_LOSS (R79): A lane in UP detects no signal for 1 µs and enters DOWN. -/
  | signalLoss (lane : Fin 32)
  /-- CODE_VIOLATIONS (R79): Eight invalid code-groups within 64 take a lane from UP to DOWN. -/
  | codeViolations (lane : Fin 32)
  /-- MISSING_TICK_FRAMES (R79): No valid tick frame in 4 consecutive ticks takes a lane from UP to DOWN. -/
  | missingTickFrames (lane : Fin 32)
  /-- DOWN_WAIT_END (R74): A lane 1 ms in DOWN returns to PEND. -/
  | downWaitEnd (lane : Fin 32)
  /-- PRBS_END (R84): A PRBS test reaches its duration and the lane returns to DOWN. -/
  | prbsEnd (lane : Fin 32) (bits : List Bool)
  /-- AUTONEG_COMPLETE (R105): Clause 37 auto-negotiation or synchronisation completes and the host lane's link comes up. -/
  | autonegComplete (lane : Fin 32) (fullDuplex : Bool)
  /-- HOST_SYNC_LOSS (R105): A host lane loses synchronisation, raises HOST_LINK_LOSS and restarts auto-negotiation. -/
  | hostSyncLoss (lane : Fin 32)
  /-- HOST_FRAME (R106): An Ethernet frame arrives on a host lane and is checked, dropped or passed on as a segment. -/
  | hostFrame (lane : Fin 32) (frame : List Byte)
  /-- MODULE_POLL (R87): Every 100 ms, or 1 s after a fault, the node polls its optical module diagnostics. -/
  | modulePoll (lane : Fin 32) (answer : Option (List Byte))
  /-- SCL_TIMEOUT (R88): A module device holds SCL low for more than 10 ms and the transfer ends with TIMEOUT. -/
  | sclTimeout (bus : Fin 2)
  /-- SEGMENT_TX_START (R99): A lane becomes free and starts the waiting segment of highest priority. -/
  | segmentTxStart (lane : Fin 32)
  /-- SEGMENT_FORWARD (R102): A segment not addressed to the node is forwarded by cut-through or store-and-forward toward its destination. -/
  | segmentForward (lane : Fin 32) (line : List Sym)
  /-- ASSIGN (R32): A child receives an ASSIGN segment and answers ASSIGN_ACK or ASSIGN_NAK, or handles a repeat, extension or conflict. -/
  | assign (lane : Fin 32) (segment : List Byte)
  /-- ASSIGN_REPEAT (R31): Every 100 µs the parent repeats an unanswered ASSIGN on a downlink that stays up. -/
  | assignRepeat (lane : Fin 32)
  /-- ASSIGN_ACK (R31): The parent receives ASSIGN_ACK, stops repeating and marks the unit present. -/
  | assignAck (lane : Fin 32) (segment : List Byte)
  /-- ASSIGN_NAK (R38): The parent receives ASSIGN_NAK and raises TOPO_MISMATCH. -/
  | assignNak (lane : Fin 32) (segment : List Byte)
  /-- TOPO_UNIT_ABSENT (R37): A configured unit still absent 1 s after the parent enters RUN, or lost in RUN or HOLD, is reported once. -/
  | topoUnitAbsent (lane : Fin 32)
  /-- MULTICAST (R441): A MULTICAST segment is replicated to child units and its image block staged until the image is complete. -/
  | multicast (lane : Fin 32) (segment : List Byte)
  /-- MIRROR (R383): A standby receives a MIRROR message and loads it between windows when complete and on the right base. -/
  | mirror (lane : Fin 32) (segment : List Byte)
  /-- EVENT (R341): An EVENT segment is forwarded upward or delivered by the active Meadow to its subscribers. -/
  | event (lane : Fin 32) (segment : List Byte)
  /-- LIFE (R407): A LIFE segment is forwarded upward or delivered to LIFE_SUBSCRIBE subscribers. -/
  | life (lane : Fin 32) (segment : List Byte)
  /-- COMMAND (R36): A command segment arrives and is routed, refused or queued for execution at its target. -/
  | command (entry : CmdEntry)
  /-- REPLY (R112): A reply arrives and is routed to the entry node and delivered to its port, ending tracking. -/
  | reply (lane : Fin 32) (segment : List Byte)
  /-- COMMAND_TIMEOUT (R117): A tracked command's timeout passes without a reply and a TIMEOUT reply is delivered. -/
  | commandTimeout (source seq : BitVec 16)
  /-- CMD_RETRY_EXPIRY (R119): The command interpreter is not granted within CMD_RETRY clk and ends the command with BUSY. -/
  | cmdRetryExpiry (op : BitVec 16) (written : Nat) (p : Packet)
  /-- SESSION_IDLE (R129): A session without an accepted command for CMD_AUTH.IDLE s ends. -/
  | sessionIdle (index : Fin 8)
  /-- HANDLE_DESTROY_DONE (R126): The owning subsystem stops the object at its safe point, frees its memory and index, and the FINAL OK is sent. -/
  | handleDestroyDone (handle : Word)
  /-- REG_RD (R132): A QSPI REG_RD transfer reads consecutive registers while RD_EN allows. -/
  | regRd (address : Word) (count : Nat)
  /-- REG_WR (R132): A QSPI REG_WR transfer writes consecutive registers while WR_EN allows. -/
  | regWr (address : Word) (values : List Word)
  /-- MBX_WR (R132): A QSPI MBX_WR transfer delivers a command packet to the mailbox when CS_N rises, or is dropped. -/
  | mbxWr (bytes : List Byte)
  /-- MBX_RD (R132): A QSPI MBX_RD transfer reads the reply buffer and empties it when the whole reply was clocked out. -/
  | mbxRd (count : Nat)
  /-- STATUS (R132): A QSPI STATUS transfer returns MBX_FULL, RPL_READY, RD_EN and WR_EN. -/
  | status
  /-- UNLISTED_INSTRUCTION (R133): A QSPI transfer with an unlisted instruction code is ignored until CS_N rises. -/
  | unlistedInstruction (code : Byte)
  /-- NOP (R136): Replies OK with its parameters. -/
  | nop (p : Packet)
  /-- SYS_INFO (R136): Replies with SYS_ID, CMD_NODE, state, severity, FCOUNT and CMD_TMO. -/
  | sysInfo (p : Packet)
  /-- STATE_REQ (R433): Requests CONFIG, READY or RUN, making exit checks from CONFIG and refusing disallowed transitions. -/
  | stateReq (p : Packet)
  /-- WARM_RESET (R136): Replies OK and resets the node's WARM domain, destroying live objects and closing any fault record. -/
  | warmReset (p : Packet)
  /-- SESSION_OPEN (R128): Checks the proof, draws a nonce, derives a session key and issues a session handle. -/
  | sessionOpen (p : Packet)
  /-- SESSION_CLOSE (R129): Ends the session named by the handle. -/
  | sessionClose (p : Packet)
  /-- KEY_LOAD (R136): Fills a key slot in CONFIG under a session on slot 0. -/
  | keyLoad (p : Packet)
  /-- HANDLE_INFO (R136): Replies with a handle's creator, state, bound flag and creation time. -/
  | handleInfo (p : Packet)
  /-- HANDLE_DESTROY (R126): Advances the handle's generation, replies ACCEPTED and starts stopping the object, or is refused when bound. -/
  | handleDestroy (p : Packet)
  /-- HANDLE_LIST (R136): Replies with the live handles of one type. -/
  | handleList (p : Packet)
  /-- HANDLE_POOL (R136): Replies with the free index count of each handle type. -/
  | handlePool (p : Packet)
  /-- REG_READ (R131): Reads 1 to 64 consecutive registers, refused whole on a bad range. -/
  | regRead (p : Packet)
  /-- REG_WRITE (R136): Writes 1 to 64 consecutive registers in ascending order, stopping at the first refused; also the write of any register without a row of its own. -/
  | regWrite (p : Packet)
  /-- REG_RMW (R131): Reads one register and writes the masked bits atomically, returning the prior value. -/
  | regRmw (p : Packet)
  /-- MEM_READ (R131): Reads 4 to 1,024 bytes from core SRAM, recorder or table memory. -/
  | memRead (p : Packet)
  /-- MEM_WRITE (R131): Writes 4 to 1,024 bytes to core SRAM, or to both table mirrors in CONFIG. -/
  | memWrite (p : Packet)
  /-- CMD_ALLOC_REQ (R122): A write of a thread, flow or lock type requests a handle, granted in port order into CMD_ALLOC_RES. -/
  | cmdAllocReq (requests : List (Fin 6 × BitVec 6))
  /-- TIME_SET (R42): Accepts or refuses a new global time to be loaded at the next boundary or PPS_IN edge. -/
  | timeSet (p : Packet)
  /-- TIME_READ (R70): Replies with global time at the send stamp, tick status, offset, delays and tick number. -/
  | timeRead (p : Packet)
  /-- TREE_LOAD (R29): The Meadow checks and accepts or refuses a topology record and sends extensions to assigned Umbel units. -/
  | treeLoad (p : Packet)
  /-- TREE_SURVEY (R40): Powers up the masked downlinks briefly and reports link state and far-end identity per lane. -/
  | treeSurvey (p : Packet)
  /-- TREE_READ (R40): Replies with a range of entries of the topology record in force. -/
  | treeRead (p : Packet)
  /-- LANE_READ (R108): Replies with configuration, status, load and error counts of the masked lanes. -/
  | laneRead (p : Packet)
  /-- LANE_RESTART (R108): Takes a lane to DOWN so it comes up again with any new profile. -/
  | laneRestart (p : Packet)
  /-- LANE_RATE (R108): Sets the rate of a downlink or cross-link lane. -/
  | laneRate (p : Packet)
  /-- EQ_LOAD (R82): Loads an equalisation profile table in CONFIG, applied at each lane's next entry to PWR. -/
  | eqLoad (p : Packet)
  /-- PRBS_START (R84): Moves a lane into a PRBS test for a set duration unless refused. -/
  | prbsStart (p : Packet)
  /-- PRBS_READ (R108): Replies with a lane's PRBS status, error count and elapsed time. -/
  | prbsRead (p : Packet)
  /-- MOD_READ (R108): Reads bytes from an optical module over I²C. -/
  | modRead (p : Packet)
  /-- MOD_WRITE (R88): Writes A2h bytes 110 to 127 of an optical module. -/
  | modWrite (p : Packet)
  /-- YAR_TALLY_READ (R170): Replies with the node's Tally or a string's merge with its tick number. -/
  | yarTallyRead (p : Packet)
  /-- YAR_UNIT_READ (R170): Replies with a unit's stored Tally, state and consecutive misses. -/
  | yarUnitRead (p : Packet)
  /-- YAR_CELL_EXCLUDE (R143): Excludes or readmits a cell from the next UP. -/
  | yarCellExclude (p : Packet)
  /-- YAR_CELL_READ (R170): Replies with a cell's YAR_CELL, YAR_CRATIO and YAR_DEC0. -/
  | yarCellRead (p : Packet)
  /-- YAR_DEMAND_SET (R170): Sets a string's demand and arm current for use from the next LOOP_END when SRC is 1h. -/
  | yarDemandSet (p : Packet)
  /-- FAULTIN (R192): An enabled FAULTIN input reaches its active level and forces its pairs to the safe level within 12 ns. -/
  | faultin (input : Fin 8) (level : Bool)
  /-- CLOCK_LOSS (R200): The clock monitor finds the system or pulse clock stopped or off frequency for 100 ns, sets CLK_LOST, forces every pair and asserts FAULT_OUT_N. -/
  | clockLoss
  /-- CLOCK_RETURN (R200): The system clock runs again and SWU_CLK_LOSS is recorded with its S3 action. -/
  | clockReturn
  /-- READBACK_MISMATCH (R198): A GOFB mismatch persisting 4 clk after blanking sets RB_LATCH and forces the pair. -/
  | readbackMismatch (output : Fin 8) (level : Bool)
  /-- PERIOD_START (R183): A carrier channel's period starts, taking an update point, forming the request with carry, or stopping after SWU_STOP. -/
  | periodStart (pair : Fin 4)
  /-- SHADOW_WRITE (R189): A write to SWU_Pp_PERIOD or SWU_Pp_DUTY sets the shadow and its written flag. -/
  | shadowWrite (pair : Fin 4) (period duty : Option (BitVec 24))
  /-- SWU_SAFE (R172): A write to SWU_SAFE changes the level of every pair standing at its safe level within 2 clk. -/
  | swuSafe (value : Word)
  /-- SWU_CREATE (R184): Creates a stopped carrier channel on a free pair. -/
  | swuCreate (p : Packet)
  /-- SWU_SET (R191): Writes both PERIOD and DUTY shadows in one clk after checking them. -/
  | swuSet (p : Packet)
  /-- SWU_COMMIT (R190): By command or a COMMIT bit write, makes the next update point transfer both shadows. -/
  | swuCommit (p : Packet)
  /-- SWU_START (R185): Starts a stopped channel at the first tick boundary plus START pclk. -/
  | swuStart (p : Packet)
  /-- SWU_STOP (R186): Asks a running channel to stop at the end of its current period. -/
  | swuStop (p : Packet)
  /-- SWU_STATUS_READ (R204): Replies with SWU_FLT and SWU_LEVELS. -/
  | swuStatusRead (p : Packet)
  /-- SWU_CHAN_READ (R204): Replies with a pair's channel registers without clearing. -/
  | swuChanRead (p : Packet)
  /-- SWU_FAULT_CLEAR (R196): Clears software, readback and FAULTIN latches of the masked pairs where allowed. -/
  | swuFaultClear (p : Packet)
  /-- SWU_FORCE (R193): Sets SWF_LATCH and forces the masked pairs to their safe level. -/
  | swuForce (p : Packet)
  /-- LOOP_COMMIT (R222): The last due loop completes and the run's signals, states and output ports commit in 16 clk, sending the mirror image. -/
  | loopCommit
  /-- LOOP_ABANDON (R223): A run not committing by LOOP_END minus 16 clk is abandoned with nothing committed. -/
  | loopAbandon
  /-- LOOP_CREATE (R232): Creates a disabled loop in the first fitting run of free block slots. -/
  | loopCreate (p : Packet)
  /-- LOOP_ENABLE (R234): Enables or disables a loop from the next window, checking the phase map and run length. -/
  | loopEnable (p : Packet)
  /-- LOOP_COEF_SET (R234): Writes the 16 words of a coefficient set in one clk. -/
  | loopCoefSet (p : Packet)
  /-- LOOP_PARAM_SET (R234): Writes parameter signals in one clk. -/
  | loopParamSet (p : Packet)
  /-- LOOP_SIG_READ (R234): Replies with committed signal values. -/
  | loopSigRead (p : Packet)
  /-- LOOP_INFO (R234): Replies with a loop's configuration, timing, schedule and run count. -/
  | loopInfo (p : Packet)
  /-- LOOP_BUDGET_READ (R234): Replies with the loop window, run lengths, counts and PROG_CRC. -/
  | loopBudgetRead (p : Packet)
  /-- SEQUENCE_RUN_START (R242): A started sequence's trigger event falls and a run starts, or is missed when the last run has not completed. -/
  | sequenceRunStart (sequence : Fin 4)
  /-- CONVERSION_COMPLETE (R235): A slice writes its result 100 clk after dispatch and is free for the next dispatch. -/
  | conversionComplete (slice : Fin 5) (a b : Int) (near : List (Fin 24 × Nat)) (err shadowErr : Int)
  /-- CALIBRATION_CYCLE (R250): Every CAL_PERIOD ms the spare slice starts calibrating itself on the internal reference. -/
  | calibrationCycle
  /-- CALIBRATION_DONE (R250): The spare's calibration ends, passing or marking the spare failed. -/
  | calibrationDone (gain offset : Int)
  /-- MEAS_INJ_REQ (R249): A core's write queues an injected conversion or counts it in INJ_DROP. -/
  | measInjReq (core : Fin 4) (input : BitVec 5) (diff : Bool)
  /-- MEAS_SEQ_CREATE (R241): Creates a stopped measurement sequence with fixed entries and trigger. -/
  | measSeqCreate (p : Packet)
  /-- MEAS_SEQ_START (R254): Starts a sequence, or runs a command-triggered sequence once. -/
  | measSeqStart (p : Packet)
  /-- MEAS_SEQ_STOP (R244): Stops a sequence after the run in progress completes. -/
  | measSeqStop (p : Packet)
  /-- MEAS_RESULT_READ (R254): Replies with result registers of a sequence. -/
  | measResultRead (p : Packet)
  /-- MEAS_INJECT (R249): Queues an injected conversion and replies with its result. -/
  | measInject (p : Packet)
  /-- MEAS_SLICE_READ (R254): Replies with slice status, trims and cross-check data. -/
  | measSliceRead (p : Packet)
  /-- PAGE_HEADER_REWRITE (R265): Within 100 µs of a capture ending the recorder rewrites every page header of the record. -/
  | pageHeaderRewrite (capture : Fin 16)
  /-- SEQUENCER_TRANSITION (R267): A condition of the trigger sequencer's state holds and it enters the next state, performing its actions. -/
  | sequencerTransition
  /-- SEQUENCER_TIMER (R269): A sequencer timer started from its limit expires. -/
  | sequencerTimer (timer : Fin 2)
  /-- SEQ_EN (R267): A write of SEQ_EN 1h places the sequencer in state 0 without its actions; 0h stops it. -/
  | seqEn (en : Bool)
  /-- TRIGIN_EDGE (R271): An enabled TRIGIN edge held 10 ns or more is stamped and reaches the sequencer. -/
  | triginEdge (input : Fin 4) (rising : Bool) (sub : Fin 8)
  /-- OUT_WIDTH (R271): OUT_WIDTH µs after its start a TRIGOUT pulse ends. -/
  | outWidth (output : Fin 2)
  /-- TRIG_REQ_TIMEOUT (R272): A standing system trigger request without a TRIG after 16 ticks is dropped. -/
  | trigReqTimeout
  /-- BLOCK_CLOSE (R275): A trend block closes 1 s after its first sample and DECIM is adjusted. -/
  | blockClose (stream : Fin 8)
  /-- RECORD_SEGMENT_PLACE (R278): The recorder places the next RECORD segment of a readout once the lane buffer has 4 KiB free, finishing with FINAL OK. -/
  | recordSegmentPlace (capture : Fin 16)
  /-- CAPTURE_CREATE (R280): Creates a capture with its channels and clock. -/
  | captureCreate (p : Packet)
  /-- CAPTURE_ARM (R261): Allocates pages and arms a capture, clamping POST when pages are short. -/
  | captureArm (p : Packet)
  /-- CAPTURE_TRIGGER (R262): Triggers an armed capture. -/
  | captureTrigger (p : Packet)
  /-- CAPTURE_STOP (R263): Closes the current page and ends an armed or triggered capture in STOPPED. -/
  | captureStop (p : Packet)
  /-- CAPTURE_RELEASE (R260): Returns an ended capture to IDLE and frees its pages. -/
  | captureRelease (p : Packet)
  /-- CAPTURE_READ (R278): Starts reading up to 16 pages of a record as RECORD segments. -/
  | captureRead (p : Packet)
  /-- CAPTURE_INFO (R280): Replies with a capture's state, PRE and POST. -/
  | captureInfo (p : Packet)
  /-- TREND_CREATE (R275): Creates a trend stream with its ring pages. -/
  | trendCreate (p : Packet)
  /-- TREND_START (R280): Starts a trend stream at a given tick. -/
  | trendStart (p : Packet)
  /-- TREND_STOP (R280): Stops a trend stream once its last block is closed. -/
  | trendStop (p : Packet)
  /-- TREND_INFO (R280): Replies with a trend stream's status and counts. -/
  | trendInfo (p : Packet)
  /-- SYS_TRIGGER (R272): Makes the node request a system trigger. -/
  | sysTrigger (p : Packet)
  /-- REC_POOL_READ (R280): Replies with pool, system trigger and recorder counts. -/
  | recPoolRead (p : Packet)
  /-- OPERAND_MATCH (R293): A posted operand is matched within 2 clk and the thread becomes READY when its join condition holds. -/
  | operandMatch
  /-- DISPATCH (R296): The dispatcher places the ready thread of highest effective priority on a core, pre-empting where allowed. -/
  | dispatch
  /-- THREAD_TRAP (R287): A thread takes an exception, enters FAULTED and releases its locks. -/
  | threadTrap (core : Fin 4) (mcause mepc : Word) (access : Option Word)
  /-- RUN_LIMIT (R297): A thread still RUNNING RUN_LIMIT boundaries after dispatch raises DISP_RUN_LIMIT. -/
  | runLimit (core : Fin 4)
  /-- LOCKSTEP_MISMATCH (R284): The safety pair's outputs differ and both cores are held in reset. -/
  | lockstepMismatch
  /-- DEBUG_HALT (R303): An application core is halted by the debugger, forcing pairs when DBG_SAFE is 1h. -/
  | debugHalt (core : Fin 4)
  /-- DEBUG_RESUME (R303): A halted core resumes and pairs are released when every core runs. -/
  | debugResume (hart : Fin 5)
  /-- SAFETY_PAIR_HALT (R304): The safety pair is halted while allowed and the safety unit treats channel B as lost. -/
  | safetyPairHalt
  /-- SELF_WAIT (R288): A thread's load makes it WAITING until next dispatch, or returns at once when it holds a lock. -/
  | selfWait (core : Fin 4)
  /-- SELF_POST (R288): A thread's store posts a value to a port of a thread or to a flow. -/
  | selfPost (core port : Fin 4) (target value : Word)
  /-- SELF_ACQ (R299): A thread's load acquires a lock, waits for it in LOCKWAIT, or is refused. -/
  | selfAcq (core : Fin 4) (lock : Word)
  /-- SELF_REL (R300): A thread's store releases its latest lock, passing it to the highest waiter. -/
  | selfRel (core : Fin 4) (lock : Word)
  /-- SELF_YIELD (R288): A thread's store sends it to the tail of its priority's ready list. -/
  | selfYield (core : Fin 4)
  /-- THREAD_CREATE (R285): Creates a DORMANT thread with its stack, ports and join condition. -/
  | threadCreate (p : Packet)
  /-- THREAD_START (R286): Starts a DORMANT or FAULTED thread at its entry as READY. -/
  | threadStart (p : Packet)
  /-- THREAD_STOP (R306): Stops a thread, at once or at its next wait. -/
  | threadStop (p : Packet)
  /-- THREAD_CANCEL (R294): Discards a waiting or ready thread's queue and tick operands. -/
  | threadCancel (p : Packet)
  /-- OPERAND_POST (R292): Posts an operand to a queue port or flow by command. -/
  | operandPost (p : Packet)
  /-- THREAD_INFO (R306): Replies with a thread's registers. -/
  | threadInfo (p : Packet)
  /-- FLOW_CREATE (R295): Creates a flow of a given depth. -/
  | flowCreate (p : Packet)
  /-- FLOW_INFO (R306): Replies with a flow's configuration and status. -/
  | flowInfo (p : Packet)
  /-- LOCK_CREATE (R299): Creates a lock with a priority ceiling. -/
  | lockCreate (p : Packet)
  /-- DISP_READ (R306): Replies with dispatcher status, counts, debug and core states. -/
  | dispRead (p : Packet)
  /-- IMAGE_REFETCH_DONE (R313): A line refetched from QSPI flash is delivered, written back and verified, clearing PENDING. -/
  | imageRefetchDone
  /-- SCRUB_READ (R319): Every SCRUB_INT µs the scrubber checks the next valid line, or tests a free recorder line. -/
  | scrubRead
  /-- MGRD_SCRUB_SLOW (R319): A scrub pass takes longer than SLOW_LIMIT s. -/
  | mgrdScrubSlow
  /-- MGRD_READ (R324): Replies with memory guard status, counts, last error and scrub position. -/
  | mgrdRead (p : Packet)
  /-- MGRD_REMAP_SET (R324): Sets or clears a remap entry in CONFIG. -/
  | mgrdRemapSet (p : Packet)
  /-- MGRD_INJECT (R322): Flips given bits of a stored line in CONFIG. -/
  | mgrdInject (p : Packet)
  /-- ESCALATION (R332): The reaction timer expires with the S2 record unresolved, raising it to S3 and entering BLOCKED. -/
  | escalation
  /-- OUT_MIN (R336): The OUT_MIN hold on FAULT_OUT_N ends after its record was resolved. -/
  | outMin
  /-- FHUB_OUT_MISMATCH (R337): The FAULT_OUT_N ball differs from its driven level for 1 µs. -/
  | fhubOutMismatch (level : Bool)
  /-- FHUB_RESOLVE (R334): A core's or safety pair's write resolves the open record when the ID matches. -/
  | fhubResolve (id : BitVec 16)
  /-- FAULT_READ (R344): Replies with the open record, times, merge and FIRST_SET and MERGED sets. -/
  | faultRead (p : Packet)
  /-- FAULT_RESOLVE (R334): Resolves the open S1 or S2 record of a matching ID. -/
  | faultResolve (p : Packet)
  /-- FAULT_LATCH_CLEAR (R344): Clears the masked source latches. -/
  | faultLatchClear (p : Packet)
  /-- FAULT_SRC_SET (R344): Sets a source's EVT_UP, ROUTE and FLOW. -/
  | faultSrcSet (p : Packet)
  /-- FAULT_RAISE (R344): Raises the test trip or test safety source. -/
  | faultRaise (p : Packet)
  /-- FAULT_HISTORY (R344): Replies with the last 8 closed records. -/
  | faultHistory (p : Packet)
  /-- FAULT_SUBSCRIBE (R341): Registers or ends an EVENT subscriber at the Meadow. -/
  | faultSubscribe (p : Packet)
  /-- SAFETY_INPUT (R350): A safety input channel's level stands for FILT, and the input enters or leaves demand. -/
  | safetyInput (input : Fin 4) (chanB level : Bool)
  /-- SAFE_IN_DISCREPANCY (R351): The discrepancy timer of an input expires while its channels disagree. -/
  | safeInDiscrepancy (input : Fin 4)
  /-- TEST_PULSE (R352): A test-pulse driver's off-pulse occurs and its channels are checked. -/
  | testPulse (driver : Fin 4) (reads : List (BitVec 8))
  /-- CHANNEL_B_CYCLE (R345): Channel B runs its 100 µs cycle and compares itself with channel A. -/
  | channelBCycle (ran : Bool) (demand : Fin 4) (differs fault : Bool)
  /-- SS_MAX (R359): A string's Safe Stop reaches SS_MAX and enters Safe Gate Removal. -/
  | ssMax (string : Fin 16)
  /-- GDS_DELAY (R355): GDS_DELAY ms after Safe Gate Removal the gate-driver supply outputs switch off and the credit is given up. -/
  | gdsDelay
  /-- SOFB_CHECK (R361): A safety output readback sample mismatches three times after FB_SETTLE, making a channel fault. -/
  | sofbCheck (output : Fin 4) (chanB level : Bool)
  /-- OUTPUT_TEST_PULSE (R362): A safety output channel is switched off for TP_W µs and its readback checked. -/
  | outputTestPulse (output : Fin 4) (chanB sawOff : Bool)
  /-- DEG_LIMIT (R363): A degraded output reaches DEG_LIMIT and locks. -/
  | degLimit (output : Fin 4)
  /-- BYP_DELAY (R364): BYP_DELAY ms after a Floret's own S3 action the bypass outputs with BYP_AUTO fire. -/
  | bypDelay
  /-- FIRE_MS (R364): The bypass firing pulse ends and BYPASSED is set or the output locks. -/
  | fireMs (output : Fin 4)
  /-- SEAL_OK (R349): The debounced seal loop changes, raising SAFE_PANEL when it opens outside CONFIG. -/
  | sealOk (closed : Bool)
  /-- SW (R349): The debounced configuration switches change while the seal is closed, clearing REC_MATCH. -/
  | sw (value : BitVec 16)
  /-- ACK_N (R365): A press or release of ACK_N is timed and may open or close an acknowledge window. -/
  | ackN (low : Bool)
  /-- ACK_HOLD_LIMIT (R365): ACK_N held low beyond 5 s raises SAFE_PANEL without a window. -/
  | ackHoldLimit
  /-- ACK_WINDOW_END (R365): An acknowledge window closes 10 s after it opened. -/
  | ackWindowEnd
  /-- ACK_READ_TIMEOUT (R366): A remote acknowledge read of ACK_NODE unanswered within 1 s ends SAFE_RESET with TIMEOUT. -/
  | ackReadTimeout
  /-- SAFE_STATUS_READ (R370): Replies with safety status, causes, panel, acknowledge and inputs. -/
  | safeStatusRead (p : Packet)
  /-- SAFE_CFG_LOAD (R348): Loads a safety record in CONFIG with the seal closed and matching switches. -/
  | safeCfgLoad (p : Packet)
  /-- SAFE_CFG_READ (R370): Replies with the safety record in force. -/
  | safeCfgRead (p : Packet)
  /-- SAFE_DEMAND (R353): Latches a COMMAND cause of Safe Stop or Safe Gate Removal and raises SAFE_DEMAND. -/
  | safeDemand (p : Packet)
  /-- SAFE_RESET (R367): A deliberate reset within an open window clears latched causes and releases locked outputs. -/
  | safeReset (p : Packet)
  /-- SAFE_BYPASS (R364): Fires a forced cell's bypass switch. -/
  | safeBypass (p : Packet)
  /-- SAFE_OUT_READ (R370): Replies with safety output status, record CRC and Safe Stop state. -/
  | safeOutRead (p : Packet)
  /-- START_WAIT (R372): A SENIOR 0 twin member that saw no active partner claims with epoch 1 after START_WAIT. -/
  | startWait
  /-- TWIN_HB_LOSS (R374): A third consecutive Harebell miss declares the partner's Harebell lost. -/
  | twinHbLoss
  /-- SWAP_TIMEOUT (R386): A swap whose partner has not claimed within 4 ticks ends in TIMEOUT. -/
  | swapTimeout
  /-- SWAP_DAYS (R387): SWAP_DAYS after its last role change, or 1 h after a failed attempt, an ACTIVE member starts a swap. -/
  | swapDays
  /-- EJECT_N (R389): The debounced ejector latch changes and the member swaps, enters NONE, is refused, or returns to STANDBY_SYNC. -/
  | ejectN (low : Bool)
  /-- TWIN_NO_STANDBY (R390): An ACTIVE member whose partner has not been STANDBY_READY for 1 s raises TWIN_NO_STANDBY. -/
  | twinNoStandby
  /-- TWIN_MIRROR_LAG (R383): IMG_AGE reaches 16 ticks since the last image load. -/
  | twinMirrorLag
  /-- TWIN_READ (R391): Replies with twin status, witnesses, image, counts and configuration. -/
  | twinRead (p : Packet)
  /-- DUPLEX_SWAP (R386): Asks the ACTIVE member to hand over to a ready standby. -/
  | duplexSwap (p : Packet)
  /-- TWIN_RESYNC (R391): Makes a standby member resynchronise from STANDBY_SYNC. -/
  | twinResync (p : Packet)
  /-- CAP_WINDOW_END (R398): After 2^EST_N valid intervals the capacitance estimate CEST is formed and a new window starts. -/
  | capWindowEnd (cell : Fin 2)
  /-- ESR_MEAN (R399): Every 256 ESR samples the ESR becomes their mean. -/
  | esrMean (cell : Fin 2)
  /-- SEMI_MEAN (R400): Every 4,096 accepted on-state readings MEAN, BASE and DRIFT are updated. -/
  | semiMean (switch : Fin 4)
  /-- SLACK_MEASURE (R403): Every 1 ms the unit sets SLACK from its path-delay monitors. -/
  | slackMeasure (slack : Int)
  /-- AVS_ADJUST (R404): Every AVS_INT ms the supply TARGET rises, falls or stays. -/
  | avsAdjust
  /-- AVS_EN (R405): A write of AVS_EN 1h reads VOUT_MODE and READ_VOUT and starts tracking. -/
  | avsEn (en : Bool)
  /-- PMBUS_TRANSACTION (R405): A PMBus transaction to the regulator completes or fails. -/
  | pmbusTransaction (answer : Option (BitVec 16))
  /-- VOUT_READBACK (R405): 2 ms after a VOUT_COMMAND write READ_VOUT is read and compared with TARGET. -/
  | voutReadback (answer : Option (BitVec 16))
  /-- PMBUS_RETRY (R405): 10 ms after a failed transaction it is retried once, then LIFE_PMBUS stops the unit. -/
  | pmbusRetry (answer : Option (BitVec 16))
  /-- LANE_MARGIN (R406): Once per hour the unit computes each lane's optical margin and trend. -/
  | laneMargin
  /-- LIFE_REPORT (R407): In the node's second of each report period it sends a LIFE segment. -/
  | lifeReport
  /-- LIFE_READ (R410): Replies with the lifetime report payload. -/
  | lifeRead (p : Packet)
  /-- LIFE_PLAN_SET (R393): Pins or releases a margin plan item. -/
  | lifePlanSet (p : Packet)
  /-- LIFE_BASELINE (R410): Resets baselines, counts or estimates of selected switches and cells. -/
  | lifeBaseline (p : Packet)
  /-- LIFE_RF_READ (R410): Replies with a switch's rainflow counts and damage. -/
  | lifeRfRead (p : Packet)
  /-- LIFE_STATE_READ (R408): Replies with the 296-byte lifetime state block. -/
  | lifeStateRead (p : Packet)
  /-- LIFE_RESTORE (R408): Restores the lifetime state block in CONFIG. -/
  | lifeRestore (p : Packet)
  /-- LIFE_SUBSCRIBE (R410): Registers or ends a LIFE subscriber at the Meadow. -/
  | lifeSubscribe (p : Packet)
  /-- CAN_FRAME_RECEIVED (R416): At the end of a frame's EOF the accepting mailbox is written, SEQ increments and an operand may be posted. -/
  | canFrameReceived (controller : Fin 2) (levels : List (BitVec 3)) (age : Nat)
  /-- CAN_SOF_COMMIT (R418): When the bus allows a new frame, the controller chooses a pending frame and commits to start-of-frame. -/
  | canSofCommit (controller : Fin 2)
  /-- CAN_FRAME_SENT (R417): A transmitted frame completes without error and its mailbox is no longer pending. -/
  | canFrameSent (controller : Fin 2) (delay : Nat)
  /-- CAN_BUS_ERROR (R421): A bus error or lost arbitration updates counters and error state and returns the frame to the choice. -/
  | canBusError (controller : Fin 2) (kind : Fin 7) (data exempt severe : Bool)
  /-- BOFF_DELAY (R421): BOFF_DELAY ms after bus-off with AUTO_REC the recovery sequence starts. -/
  | boffDelay (controller : Fin 2)
  /-- BUS_OFF_RECOVERY (R421): 128 occurrences of 11 recessive bits complete recovery to error-active with zero counters. -/
  | busOffRecovery (controller : Fin 2)
  /-- FBUS_BUS_STUCK (R422): CANc_RXD dominant for 1 ms sets STUCK. -/
  | fbusBusStuck (controller : Fin 2)
  /-- SLOT_OPEN (R425): A schedule slot opens and releases its mailbox's committed frame. -/
  | slotOpen (controller : Fin 2) (slot : Fin 32)
  /-- SLOT_WINDOW_END (R426): A released frame not started by START plus WINDOW is withdrawn as late. -/
  | slotWindowEnd (controller : Fin 2) (slot : Fin 32)
  /-- CAN_MODE (R413): Sets a controller off, normal or listen-only after checking bit timing. -/
  | canMode (p : Packet)
  /-- CAN_MB_CREATE (R428): Creates a receive or transmit mailbox. -/
  | canMbCreate (p : Packet)
  /-- CAN_MB_SEND (R417): By command or a STAT write with SEND, commits a frame's content and requests transmission. -/
  | canMbSend (p : Packet)
  /-- CAN_MB_CANCEL (R423): Withdraws a pending frame or reports TOO_LATE at its end. -/
  | canMbCancel (p : Packet)
  /-- CAN_MB_READ (R416): Replies with a consistent copy of a mailbox's last frame and clears OVW. -/
  | canMbRead (p : Packet)
  /-- CAN_STATUS_READ (R428): Replies with a controller's status and counts. -/
  | canStatusRead (p : Packet)
  /-- CAN_RECOVER (R421): Starts bus-off recovery on a controller. -/
  | canRecover (p : Packet)
  /-- SYS_CREDIT_WAIT (R443): A node 10 s in WAIT_CREDIT raises SYS_CREDIT_WAIT once. -/
  | sysCreditWait
  /-- MKEY (R445): The debounced maintenance key changes. -/
  | mkey (maintenance : Bool)
  /-- SYS_IDENT (R450): Starts the identify LED pattern for a number of seconds. -/
  | sysIdent (p : Packet)
  /-- FW_STATUS_READ (R450): Replies with SYS_STATE, SYS_IMG and SYS_LOAD. -/
  | fwStatusRead (p : Packet)
  /-- FW_FLASH_ERASE (R451): Erases a flash slot in maintenance. -/
  | fwFlashErase (p : Packet)
  /-- FW_FLASH_WRITE (R451): Writes data to a flash slot in maintenance. -/
  | fwFlashWrite (p : Packet)
  /-- FW_FLASH_READ (R450): Reads bytes from a flash slot. -/
  | fwFlashRead (p : Packet)
  /-- FW_FLASH_CHECK (R450): Checks the image in a flash slot. -/
  | fwFlashCheck (p : Packet)
  /-- JTAG_INSTRUCTION (R464): An instruction is loaded into the JTAG instruction register, with boundary-scan instructions replaced by BYPASS in RUN and HOLD. -/
  | jtagInstruction (code : BitVec 5)
  /-- TEST_LOGIC_RESET (R464): TRST_N low or five TCK with TMS high resets the JTAG port to IDCODE and releases the balls. -/
  | testLogicReset
  /-- SUPPLY_WINDOW_RETURN (R430): A supply that had left its warning window returns inside it and its SYS_SUPPLY.OUT bit clears. -/
  | supplyWindowReturn (supply : Fin 5)
  /-- PRBS_CHECKER_LOCK (R83): The PRBS checker locks after 64 consecutive error-free bits and starts counting bit errors. -/
  | prbsCheckerLock (lane : Fin 32) (bits : List Bool)
  /-- PRBS_LOCK_LOSS (R83): After more than 32 errors in 128 bits the checker loses lock, counts a lock loss and relocks. -/
  | prbsLockLoss (lane : Fin 32) (bits : List Bool)
  /-- TIME_SET_EDGE_TIMEOUT (R70): A mode 1h TIME_SET that sees no PPS_IN edge within 2 s ends with TIMEOUT. -/
  | timeSetEdgeTimeout
  /-- CARRIER_LOGICAL_STATE_CHANGE (R187): Within a carrier period the logical state changes at r (edge-aligned) or at a and a + r (centre-aligned), scheduling its edges. -/
  | carrierLogicalStateChange (pair : Fin 4)
  /-- REGISTER_COMPARATOR_EVALUATION (R270): Every 16 clk a comparator whose source is a KIND 2h register is evaluated again. -/
  | registerComparatorEvaluation
  /-- OUT_MISMATCH_CLEAR (R337): OUT_MISMATCH clears once the FAULT_OUT_N ball and its driven level have agreed for 1 µs. -/
  | outMismatchClear
  /-- BUS_STUCK_CLEAR (R422): STUCK clears after 11 consecutive recessive bits on CANc_RXD. -/
  | busStuckClear (controller : Fin 2)
  /-- FLASH_ERASE_DONE (R450): A flash slot erase started by FW_FLASH_ERASE completes and the FINAL OK or TIMEOUT is sent. -/
  | flashEraseDone (answered : Bool)
  /-- FLASH_CHECK_DONE (R450): The check of an image in a flash slot completes with FINAL OK carrying IMG_REV, or FINAL BAD_PARAM with a reason code. -/
  | flashCheckDone
  /-- IDENT_END (R448): The IDENT seconds count reaches 0 and the LEDs leave the identify pattern. -/
  | identEnd
  /-- EJECT_REFUSAL_DISPLAY_END (R448): 5 s after an eject refusal, LED3 stops showing TRIPLE. -/
  | ejectRefusalDisplayEnd
  /-- LED_PATTERN_CHANGE (R447): At the pattern points within each second of global time, each LED ball turns on or off as its pattern gives. -/
  | ledPatternChange
  deriving DecidableEq, Repr

end Sys2Proof
end

