-- ==== Sys2Proof/WellFormed.lean ====
section
/-!
DEFINITION. WellFormed.lean: what a command of the block must be to stand for one of the spec: a packet whose LENGTH and
trailer fit R109, a segment of the KIND its row names (03 R97), an answer of the length that was asked for (03 R87).
-/
namespace Sys2Proof

/-- A packet of R109: LENGTH at most 262,112; an 8-byte MAC, zero without AUTH; a slot packet is class 0, came in on a lane and
fits its 32 bytes (04 R115). -/
def Packet.wf (p : Packet) : Bool :=
  decide (p.params.length ≤ 262112) && p.mac.length == 8 && p.ks.isEmpty &&
    (p.auth || (p.counter == 0 && p.mac == List.replicate 8 0)) &&
    (!p.slot || (p.cls == 0 && p.lane.isSome && decide (16 + p.params.length + (if p.auth then 12 else 0) ≤ 32)))

/-- The bytes start as a segment of KIND `k` does: FTYPE 13h, then KIND (03 R96). -/
def kindIs (k : Nat) (b : List Byte) : Bool := decide (12 ≤ b.length) && b.getD 0 0 == 0x13 && (b.getD 1 0).toNat == k

/-- A command of the block is well formed. -/
def Instr.wf (i : Instr) : Bool :=
  match i with
  | .nop p | .sysInfo p | .stateReq p | .warmReset p | .sessionOpen p | .sessionClose p | .keyLoad p
  | .handleInfo p | .handleDestroy p | .handleList p | .handlePool p | .regRead p | .regWrite p | .regRmw p
  | .memRead p | .memWrite p | .timeSet p | .timeRead p | .treeLoad p | .treeSurvey p | .treeRead p | .laneRead p
  | .laneRestart p | .laneRate p | .eqLoad p | .prbsStart p | .prbsRead p | .modRead p | .modWrite p
  | .yarTallyRead p | .yarUnitRead p | .yarCellExclude p | .yarCellRead p | .yarDemandSet p | .swuCreate p
  | .swuSet p | .swuCommit p | .swuStart p | .swuStop p | .swuStatusRead p | .swuChanRead p | .swuFaultClear p
  | .swuForce p | .loopCreate p | .loopEnable p | .loopCoefSet p | .loopParamSet p | .loopSigRead p | .loopInfo p
  | .loopBudgetRead p | .measSeqCreate p | .measSeqStart p | .measSeqStop p | .measResultRead p | .measInject p
  | .measSliceRead p | .captureCreate p | .captureArm p | .captureTrigger p | .captureStop p | .captureRelease p
  | .captureRead p | .captureInfo p | .trendCreate p | .trendStart p | .trendStop p | .trendInfo p | .sysTrigger p
  | .recPoolRead p | .threadCreate p | .threadStart p | .threadStop p | .threadCancel p | .operandPost p
  | .threadInfo p | .flowCreate p | .flowInfo p | .lockCreate p | .dispRead p | .mgrdRead p | .mgrdRemapSet p
  | .mgrdInject p | .faultRead p | .faultResolve p | .faultLatchClear p | .faultSrcSet p | .faultRaise p
  | .faultHistory p | .faultSubscribe p | .safeStatusRead p | .safeCfgLoad p | .safeCfgRead p | .safeDemand p
  | .safeReset p | .safeBypass p | .safeOutRead p | .twinRead p | .duplexSwap p | .twinResync p | .lifeRead p
  | .lifePlanSet p | .lifeBaseline p | .lifeRfRead p | .lifeStateRead p | .lifeRestore p | .lifeSubscribe p
  | .canMode p | .canMbCreate p | .canMbSend p | .canMbCancel p | .canMbRead p | .canStatusRead p | .canRecover p
  | .sysIdent p | .fwStatusRead p | .fwFlashErase p | .fwFlashWrite p | .fwFlashRead p | .fwFlashCheck p => p.wf
  | .powerUpSlot answer => answer.all (fun b => b.length == 2)
  | .modulePoll _ answer => answer.all (fun b => b.length == 2 || b.length == 12)
  | .cmdRetryExpiry op written p => p.wf && decide (written = 0 ∨ ((op = 0x0201 ∨ op = 0x0211) ∧ 4 * written + 4 < p.params.length) ∨ (op = 0x0200 ∧ written < 64))
  | .hello _ b => kindIs 12 b
  | .segmentForward _ line => line.any (fun x => x == .term || x == .bad)
  | .cmdAllocReq rs => !rs.isEmpty && decide (rs.map (·.1)).Nodup
  | .assign _ b => kindIs 3 b
  | .assignAck _ b => kindIs 4 b
  | .assignNak _ b => kindIs 5 b
  | .multicast _ b => kindIs 6 b
  | .mirror _ b => kindIs 10 b
  | .event _ b => kindIs 9 b
  | .life _ b => kindIs 11 b
  | .command (.lane _ b) => kindIs 1 b
  | .command (.core _ b) => decide (16 ≤ b.length)
  | .reply _ b => kindIs 2 b
  | .powerOnReset | .powerOnResetRelease _ _ _ | .selftestComplete _ _ | .supplyWindowExit _ | .imageVerification
  | .tickBoundary | .sample | .up | .tally _ | .loopEnd | .down | .apply | .holdLimitReached | .downTickFrame _ _ _
  | .upTickFrame _ _ _ | .mergeComplete | .allocationComplete | .decisionApply | .trimEnd | .holdover
  | .syncTimeout | .tickAlign | .ppsIn _ | .ppsLoss | .ppsOut | .ppsWidth | .timeSetLoad | .signalDetect _
  | .pwrTimeout _ | .commaAlignment _ | .rateScan _ | .helloTimer _ | .signalLoss _ | .codeViolations _
  | .missingTickFrames _ | .downWaitEnd _ | .prbsEnd _ _ | .autonegComplete _ _ | .hostSyncLoss _ | .hostFrame _ _
  | .sclTimeout _ | .segmentTxStart _ | .assignRepeat _ | .topoUnitAbsent _ | .commandTimeout _ _ | .sessionIdle _
  | .handleDestroyDone _ | .regRd _ _ | .regWr _ _ | .mbxWr _ | .mbxRd _ | .status | .unlistedInstruction _
  | .faultin _ _ | .clockLoss | .clockReturn | .readbackMismatch _ _ | .periodStart _
  | .shadowWrite _ _ _ | .swuSafe _ | .loopCommit | .loopAbandon | .sequenceRunStart _ | .conversionComplete _ _ _ _ _ _
  | .calibrationCycle | .calibrationDone _ _ | .measInjReq _ _ _ | .pageHeaderRewrite _ | .sequencerTransition
  | .sequencerTimer _ | .seqEn _ | .triginEdge _ _ _ | .outWidth _ | .trigReqTimeout | .blockClose _
  | .recordSegmentPlace _ | .operandMatch | .dispatch | .threadTrap _ _ _ _ | .runLimit _ | .lockstepMismatch
  | .debugHalt _ | .debugResume _ | .safetyPairHalt | .selfWait _ | .selfPost _ _ _ _ | .selfAcq _ _ | .selfRel _ _
  | .selfYield _ | .imageRefetchDone | .scrubRead | .mgrdScrubSlow | .escalation | .outMin | .fhubOutMismatch _
  | .fhubResolve _ | .safetyInput _ _ _ | .safeInDiscrepancy _ | .testPulse _ _ | .channelBCycle _ _ _ _ | .ssMax _
  | .gdsDelay | .sofbCheck _ _ _ | .outputTestPulse _ _ _ | .degLimit _ | .bypDelay | .fireMs _ | .sealOk _ | .sw _
  | .ackN _ | .ackHoldLimit | .ackWindowEnd | .ackReadTimeout | .startWait | .twinHbLoss | .swapTimeout | .swapDays
  | .ejectN _ | .twinNoStandby | .twinMirrorLag | .capWindowEnd _ | .esrMean _ | .semiMean _ | .slackMeasure _
  | .avsAdjust | .avsEn _ | .pmbusTransaction _ | .voutReadback _ | .pmbusRetry _ | .laneMargin | .lifeReport
  | .canFrameReceived _ _ _ | .canSofCommit _ | .canFrameSent _ _ | .canBusError _ _ _ _ _
  | .boffDelay _ | .busOffRecovery _ | .fbusBusStuck _ | .slotOpen _ _ | .slotWindowEnd _ _ | .sysCreditWait
  | .mkey _ | .jtagInstruction _ | .testLogicReset | .supplyWindowReturn _ | .prbsCheckerLock _ _ | .prbsLockLoss _ _
  | .timeSetEdgeTimeout | .carrierLogicalStateChange _ | .registerComparatorEvaluation | .outMismatchClear
  | .busStuckClear _ | .flashEraseDone _ | .flashCheckDone | .identEnd | .ejectRefusalDisplayEnd
  | .ledPatternChange => true

end Sys2Proof
end

