-- ==== Sys2Proof/Decode.lean ====
section
/-!
DEFINITION. Decode.lean: the commands that words spell. No row of the spec's opcode table gives bits (a command of this block
is a packet, a frame, a level or a deadline, and no word of an instruction memory), so no word spells one.
-/
namespace Sys2Proof

/-- The command a word of `nbits` bits spells: none, for the table gives no row bits. -/
def decodeTableWord (_nbits _w : Nat) : Option Instr := none

end Sys2Proof
end

