-- ==== Sys2Proof/Config.lean ====
section
/-!
DEFINITION. Config.lean: what the spec leaves open, as constants with no body: nothing can be proved about their values,
so a claim holds whatever they are. Each is named in the assumption log.
-/
namespace Sys2Proof

/-- Outcome of a transfer with an optical module or its multiplexer (03 R87, R88). -/
inductive I2cAnswer where
  | ack | noAck | held
  deriving DecidableEq, Repr, Inhabited

/-- How the `n`-th module transfer ends. Free: the module is outside the part. -/
opaque Config.i2cAnswer : Nat → I2cAnswer
/-- Byte that a module gives in the `n`-th transfer at bus, multiplexer and channel, device, offset. Free. -/
opaque Config.moduleByte : Nat → Nat × Nat × Nat → Nat → Nat → Byte
/-- Nonce Nd of a session (04 R128), drawn from the random source. Free. -/
opaque Config.nonce : Nat → BitVec 64
/-- Steering of global time in ps and of frequency, before the spec's bounds are applied (02 R45, R49, R53). Free. -/
opaque Config.slew : Nat → Int
opaque Config.steer : Nat → Int
/-- Which of the values within 2 units in the last place the sine (0) or cosine (1) takes (07 R217). Free. -/
opaque Config.trigUlp : Nat → Word → Nat
/-- Result of a LUT whose point count, read from its coefficients, is no whole number from 2 to 64 (07 R217): input, count. Free. -/
opaque Config.lutOpen : Word → Word → Word
/-- Threshold bin and share of R151 for `n` cells where the bins of the Tallies hold only `cum` (05 R145 rules that out). Free. -/
opaque Config.noThreshold : Nat → Nat → Nat × Nat
/-- Which of the two nearest pclk a half of TRIM_PCLK goes to (05 R156): up or down, by FRAC × TICK_PERIOD × 2. Free. -/
opaque Config.halfUp : Nat → Bool
/-- Whether the verify read after the `n`-th write-back, or the `n`-th test of a free recorder line, fails (11 R313, R320). Free. -/
opaque Config.cellFails : Nat → Bool
/-- A 32-bit value that the spec leaves open. Free. -/
opaque Config.openWord : Nat → Word
/-- Hjeling's P-256 root public key in mask ROM (17 R438), X and Y. The spec gives no value. -/
opaque Config.rootKey : Nat × Nat
/-- Whether the QSPI flash leaves the `n`-th write without an answer (17 R450). Free: the flash is outside the part. -/
opaque Config.flashSilent : Nat → Bool

end Sys2Proof
end

