-- ==== Sys2Proof/Machine/Map.lean ====
section
/-!
DEFINITION. Map.lean: sparse collections by number, in one canonical form: keys strictly rising, no entry equal to
what an unlisted key reads as. Registers, memory, lanes, units, threads, flows and the like are held so.
-/
namespace Sys2Proof.Machine

variable {α : Type}

/-- What key `k` reads as: its entry, or `d` where none is listed. -/
def Map.get (d : α) : List (Nat × α) → Nat → α
  | [], _ => d
  | (j, v) :: m, k => if j = k then v else Map.get d m k

/-- The collection without key `k`. -/
def Map.erase : List (Nat × α) → Nat → List (Nat × α)
  | [], _ => []
  | (j, v) :: m, k => if j = k then Map.erase m k else (j, v) :: Map.erase m k

/-- Places an entry before the first larger key. -/
def Map.insert : List (Nat × α) → Nat → α → List (Nat × α)
  | [], k, x => [(k, x)]
  | (j, v) :: m, k, x => if k < j then (k, x) :: (j, v) :: m else (j, v) :: Map.insert m k x

/-- Key `k` set to `x`; an entry equal to what the unlisted key reads as is not listed. -/
def Map.set [DecidableEq α] (d : α) (m : List (Nat × α)) (k : Nat) (x : α) : List (Nat × α) :=
  if x = d then Map.erase m k else Map.insert (Map.erase m k) k x

/-- The canonical form: keys strictly rising, no entry equal to its unlisted value. -/
def Map.wf [DecidableEq α] (d : Nat → α) : List (Nat × α) → Bool
  | [] => true
  | [(j, v)] => decide (v ≠ d j)
  | (j, v) :: (j', v') :: m => decide (v ≠ d j) && decide (j < j') && Map.wf d ((j', v') :: m)

end Sys2Proof.Machine
end

