-- ==== Sys2Proof/Machine/RegMap.lean ====
section
/-!
DEFINITION. RegMap.lean: the register map of the spec: every register family with its address, its copies, its reset
value, its reset domain and its fields with their access codes (spec/00_scope.md R8 to R12; the families' own rules are
cited beside each). `F.<REGISTER>_<FIELD>` names one field, `A.<REGISTER>` one address.
-/
namespace Sys2Proof.Machine

/-- Access codes of R9. -/
inductive Acc where
  | rw | ro | w1c | wo | rc | lk
  deriving DecidableEq, Repr

/-- Reset domains of R12. -/
inductive Domain where
  | por | warm
  deriving DecidableEq, Repr

/-- One field of a register: its address and its bits. -/
structure Fld where
  addr : Nat
  hi : Nat
  lo : Nat
  deriving DecidableEq, Repr

/-- One register family: first address, copies as (count, stride), reset value, domain, fields as (hi, lo, access). -/
structure RegFamily where
  base : Nat
  dims : List (Nat × Nat)
  reset : Nat
  domain : Domain
  fields : List (Nat × Nat × Acc)
  deriving DecidableEq, Repr

/-- The register families of block SYS. -/
def regFamiliesSys : List RegFamily := [
  ⟨0x0, [], 0x94602000, .por, [(31, 16, .ro), (15, 12, .ro), (11, 10, .ro), (9, 9, .ro), (8, 8, .ro)]⟩, -- SYS_ID, 00 R1
  ⟨0x4, [], 0x0, .warm, [(27, 24, .ro), (21, 20, .ro), (18, 18, .ro), (17, 17, .ro), (16, 16, .ro), (7, 4, .ro), (3, 0, .ro)]⟩, -- SYS_STATE, 17 R431
  ⟨0x8, [], 0xa08, .warm, [(31, 24, .rc), (20, 16, .ro), (15, 8, .lk), (4, 0, .lk)]⟩, -- SYS_CREDIT, 17 R444
  ⟨0xc, [], 0x0, .warm, [(28, 24, .lk), (23, 16, .rw), (3, 3, .ro), (2, 2, .ro)]⟩, -- SYS_PANEL, 17 R446
  ⟨0x10, [], 0x0, .warm, [(31, 31, .rw), (15, 0, .ro)]⟩, -- SYS_LED, 17 R448
  ⟨0x14, [], 0x0, .warm, [(15, 8, .rc), (4, 0, .ro)]⟩, -- SYS_SUPPLY, 17 R430
  ⟨0x18, [], 0x0, .warm, [(31, 0, .ro)]⟩, -- SYS_IMG, 17 R450
  ⟨0x1c, [], 0x0, .warm, [(31, 16, .ro), (15, 0, .ro)]⟩] -- SYS_LOAD, 17 R441

/-- The register families of block TICK. -/
def regFamiliesTick : List RegFamily := [
  ⟨0x10000, [], 0xfa0, .warm, [(17, 16, .lk), (14, 0, .lk)]⟩, -- TICK_CFG, 02 R43
  ⟨0x10004, [], 0x0, .warm, [(9, 9, .ro), (8, 8, .ro), (5, 4, .ro), (2, 0, .ro)]⟩, -- TICK_STATUS, 02 R48
  ⟨0x10008, [], 0x0, .warm, [(31, 0, .ro)]⟩, -- TICK_TIME_LO, 02 R41
  ⟨0x1000c, [], 0x0, .warm, [(31, 0, .ro)]⟩, -- TICK_TIME_HI, 02 R41
  ⟨0x10014, [], 0x0, .warm, [(31, 0, .ro)]⟩, -- TICK_OFFSET, 02 R50
  ⟨0x10018, [], 0x0, .warm, [(31, 0, .ro)]⟩, -- TICK_DELAY_A, 02 R50
  ⟨0x1001c, [], 0x0, .warm, [(31, 0, .ro)]⟩, -- TICK_DELAY_B, 02 R50
  ⟨0x10020, [], 0x0, .warm, [(15, 0, .rw)]⟩, -- TICK_ASYM_A, 02 R51
  ⟨0x10024, [], 0x0, .warm, [(15, 0, .rw)]⟩, -- TICK_ASYM_B, 02 R51
  ⟨0x10040, [], 0xfa, .warm, [(14, 0, .lk)]⟩, -- TICK_PH_SAMPLE, 02 R58
  ⟨0x10044, [], 0x190, .warm, [(14, 0, .lk)]⟩, -- TICK_PH_UP, 02 R58
  ⟨0x10048, [], 0x370, .warm, [(14, 0, .lk)]⟩, -- TICK_PH_TALLY, 02 R58
  ⟨0x1004c, [], 0x9c4, .warm, [(14, 0, .lk)]⟩, -- TICK_PH_LOOP_END, 02 R58
  ⟨0x10050, [], 0xdac, .warm, [(14, 0, .lk)]⟩, -- TICK_PH_DOWN, 02 R58
  ⟨0x10054, [], 0xf3c, .warm, [(14, 0, .ro)]⟩, -- TICK_PH_APPLY, 02 R58
  ⟨0x10060, [], 0x10, .warm, [(22, 16, .ro), (6, 0, .lk)]⟩, -- TICK_HOLD, 02 R64
  ⟨0x10064, [], 0x0, .warm, [(31, 16, .rc), (15, 0, .rc)]⟩, -- TICK_LATE, 02 R61
  ⟨0x10070, [], 0x1000a, .warm, [(16, 16, .rw), (8, 0, .rw)]⟩] -- TICK_PPS, 02 R55

/-- The register families of block LANE. -/
def regFamiliesLane : List RegFamily := [
  ⟨0x20000, [(32, 0x400)], 0x0, .warm, [(12, 12, .lk), (11, 8, .rw), (5, 4, .rw), (1, 0, .lk)]⟩, -- LANE_CFG, 03 R76
  ⟨0x20004, [(32, 0x400)], 0x0, .warm, [(31, 24, .ro), (23, 20, .ro), (19, 18, .ro), (17, 17, .ro), (16, 15, .ro), (10, 10, .ro), (9, 9, .ro), (8, 8, .ro), (7, 7, .ro), (6, 6, .ro), (5, 4, .ro), (3, 0, .ro)]⟩, -- LANE_STATUS, 03 R74
  ⟨0x20008, [(32, 0x400)], 0x0, .warm, [(31, 16, .rc), (15, 0, .rc)]⟩, -- LANE_ERR, 03 R89
  ⟨0x2000c, [(32, 0x400)], 0x0, .warm, [(31, 16, .rc), (15, 0, .rc)]⟩, -- LANE_SEG, 03 R100
  ⟨0x20010, [(32, 0x400)], 0x0, .warm, [(25, 16, .ro), (9, 0, .ro)]⟩, -- LANE_LOAD, 04 R134
  ⟨0x20020, [(32, 0x400)], 0x0, .warm, [(31, 16, .ro), (6, 6, .ro), (5, 5, .ro), (4, 3, .ro), (1, 0, .ro)]⟩, -- LANE_PRBS, 03 R83
  ⟨0x20024, [(32, 0x400)], 0x0, .warm, [(31, 0, .ro)]⟩, -- LANE_PRBS_ERR, 03 R83
  ⟨0x20028, [(32, 0x400)], 0x0, .warm, [(31, 0, .ro)]⟩, -- LANE_PRBS_TIME, 03 R84
  ⟨0x20030, [(32, 0x400)], 0x0, .warm, [(19, 19, .ro), (18, 18, .ro), (17, 17, .ro), (16, 16, .ro), (13, 13, .rw), (12, 12, .rw), (10, 8, .rw), (6, 0, .rw)]⟩, -- LANE_MOD, 03 R86
  ⟨0x20034, [(32, 0x400)], 0x0, .warm, [(31, 16, .ro), (15, 0, .ro)]⟩, -- LANE_DDM0, 03 R87
  ⟨0x20038, [(32, 0x400)], 0x0, .warm, [(31, 16, .ro), (15, 0, .ro)]⟩, -- LANE_DDM1, 03 R87
  ⟨0x20040, [(32, 0x400)], 0x3820, .warm, [(17, 16, .ro), (15, 12, .ro), (11, 8, .ro), (7, 4, .ro), (2, 0, .ro)]⟩, -- LANE_EQ, 03 R82
  ⟨0x28000, [], 0x0, .warm, [(1, 1, .rw), (0, 0, .rw)]⟩, -- LANE_COMMON, 03 R86
  ⟨0x28010, [], 0x0, .warm, [(31, 0, .lk)]⟩, -- LANE_HOST_MAC_LO, 03 R104
  ⟨0x28014, [], 0x0, .warm, [(15, 0, .lk)]⟩] -- LANE_HOST_MAC_HI, 03 R104

/-- The register families of block CMD. -/
def regFamiliesCmd : List RegFamily := [
  ⟨0x30000, [], 0x640410, .warm, [(31, 16, .rw), (15, 8, .rw), (7, 0, .rw)]⟩, -- CMD_TMO, 04 R117
  ⟨0x30004, [], 0xffff0258, .warm, [(31, 16, .lk), (15, 0, .rw)]⟩, -- CMD_AUTH, 04 R127
  ⟨0x30008, [], 0x0, .warm, [(31, 24, .rc), (23, 16, .rc), (15, 8, .rc), (7, 0, .rc)]⟩, -- CMD_STAT, 04 R117
  ⟨0x3000c, [], 0x1, .warm, [(31, 16, .rc), (3, 3, .ro), (2, 2, .ro), (1, 1, .lk), (0, 0, .lk)]⟩, -- CMD_QSPI, 04 R132
  ⟨0x30010, [], 0x0, .warm, [(28, 24, .ro), (21, 16, .ro), (13, 8, .ro), (6, 0, .ro)]⟩, -- CMD_LOAD, 04 R118
  ⟨0x30014, [], 0x0, .warm, [(11, 8, .ro), (3, 0, .ro)]⟩, -- CMD_KEY, 04 R467
  ⟨0x30028, [(5, 0x8)], 0x0, .warm, [(5, 0, .wo)]⟩, -- CMD_ALLOC_REQ, 04 R122
  ⟨0x3002c, [(5, 0x8)], 0x0, .warm, [(31, 0, .ro)]⟩, -- CMD_ALLOC_RES, 04 R122
  ⟨0x30100, [], 0x0, .warm, [(25, 24, .ro), (23, 23, .ro), (22, 22, .ro), (21, 21, .ro), (20, 20, .ro), (19, 16, .ro), (15, 13, .ro), (12, 0, .ro)]⟩, -- CMD_NODE, 01 R39
  ⟨0x30104, [], 0x0, .warm, [(28, 24, .ro), (20, 16, .ro), (15, 0, .ro)]⟩, -- CMD_CAP, 01 R39
  ⟨0x30140, [(32, 0x4)], 0x0, .warm, [(28, 16, .ro), (9, 9, .ro), (8, 8, .ro), (7, 3, .ro), (2, 0, .ro)]⟩, -- CMD_DL, 01 R39
  ⟨0x301c0, [(32, 0x4)], 0x0, .warm, [(28, 16, .ro), (12, 0, .ro)]⟩] -- CMD_RANGE, 01 R39

/-- The register families of block DISP. -/
def regFamiliesDisp : List RegFamily := [
  ⟨0x40000, [], 0x0, .warm, [(31, 24, .ro), (22, 11, .ro), (10, 0, .ro)]⟩, -- DISP_STAT, 10 R289
  ⟨0x40004, [], 0x0, .warm, [(31, 16, .rc), (15, 8, .rc), (7, 0, .rc)]⟩, -- DISP_CNT, 10 R294
  ⟨0x40008, [], 0x0, .warm, [(8, 8, .ro), (7, 4, .ro), (0, 0, .lk)]⟩, -- DISP_DBG, 10 R303
  ⟨0x40010, [(4, 0x4)], 0x0, .warm, [(22, 16, .ro), (12, 8, .ro), (1, 0, .ro)]⟩, -- DISP_CORE, 10 R296
  ⟨0x41000, [(128, 0x10)], 0x0, .warm, [(31, 31, .ro), (30, 28, .ro), (27, 24, .ro), (23, 20, .ro), (19, 19, .ro), (16, 12, .ro), (9, 5, .ro)]⟩, -- DISP_T_CFG, 10 R286
  ⟨0x41004, [(128, 0x10)], 0x0, .warm, [(31, 24, .ro), (23, 16, .ro), (15, 8, .ro), (7, 0, .ro)]⟩, -- DISP_T_PORTS, 10 R289
  ⟨0x41008, [(128, 0x10)], 0x0, .warm, [(31, 24, .ro), (23, 16, .ro), (15, 0, .ro)]⟩, -- DISP_T_STAT, 10 R297
  ⟨0x4100c, [(128, 0x10)], 0x0, .warm, [(31, 0, .ro)]⟩, -- DISP_T_TRAP, 10 R287
  ⟨0x41800, [(64, 0x8)], 0x0, .warm, [(31, 31, .ro), (30, 30, .ro), (23, 16, .ro), (14, 8, .ro), (1, 0, .ro)]⟩, -- DISP_F_CFG, 10 R295
  ⟨0x41804, [(64, 0x8)], 0x0, .warm, [(31, 16, .rc), (8, 0, .ro)]⟩, -- DISP_F_STAT, 10 R295
  ⟨0x41c00, [(64, 0x4)], 0x0, .warm, [(31, 31, .ro), (30, 30, .ro), (23, 16, .ro), (14, 8, .ro), (4, 0, .ro)]⟩] -- DISP_L, 10 R299

/-- The register families of block YAR. -/
def regFamiliesYar : List RegFamily := [
  ⟨0x50000, [], 0x202, .warm, [(11, 8, .lk), (4, 4, .lk), (1, 0, .lk)]⟩, -- YAR_CFG, 05 R137
  ⟨0x50004, [], 0x0, .warm, [(31, 16, .lk), (14, 0, .lk)]⟩, -- YAR_VNOM, 05 R137
  ⟨0x50008, [], 0x1000, .warm, [(31, 20, .ro), (18, 12, .lk), (7, 0, .lk)]⟩, -- YAR_STAG, 05 R160
  ⟨0x50010, [(2, 0x4)], 0x0, .warm, [(31, 31, .rw), (30, 30, .ro), (29, 29, .ro), (28, 28, .ro), (27, 27, .ro), (26, 26, .ro), (25, 25, .ro), (24, 24, .ro), (23, 16, .ro), (15, 15, .ro), (14, 13, .lk), (12, 8, .lk), (7, 0, .ro)]⟩, -- YAR_CELL, 05 R142
  ⟨0x50018, [(2, 0x4)], 0x4000, .warm, [(15, 0, .ro)]⟩, -- YAR_CRATIO, 05 R138
  ⟨0x50020, [], 0x0, .warm, [(23, 12, .ro), (7, 7, .ro), (6, 6, .ro), (5, 5, .ro), (4, 0, .ro)]⟩, -- YAR_DEC0, 05 R158
  ⟨0x50024, [], 0x0, .warm, [(31, 20, .ro), (15, 0, .ro)]⟩, -- YAR_DEC1, 05 R156
  ⟨0x50028, [], 0x0, .warm, [(31, 16, .rc), (15, 0, .rc)]⟩, -- YAR_FCNT, 05 R143
  ⟨0x50040, [], 0x0, .warm, [(31, 16, .ro), (15, 0, .ro)]⟩, -- YAR_UTALLY, 05 R145
  ⟨0x50044, [], 0x0, .warm, [(31, 16, .rc), (15, 8, .rc), (4, 0, .ro)]⟩, -- YAR_USTAT, 05 R153
  ⟨0x50048, [], 0x0, .warm, [(15, 0, .ro)]⟩, -- YAR_USTALE, 05 R145
  ⟨0x50100, [(16, 0x20)], 0x0, .warm, [(2, 2, .lk), (1, 1, .lk), (0, 0, .lk)]⟩, -- YAR_S_CFG, 05 R150
  ⟨0x50104, [(16, 0x20)], 0x0, .warm, [(25, 0, .rw)]⟩, -- YAR_S_DEM, 05 R147
  ⟨0x50108, [(16, 0x20)], 0x0, .warm, [(23, 0, .rw)]⟩, -- YAR_S_IARM, 05 R148
  ⟨0x5010c, [(16, 0x20)], 0x0, .warm, [(31, 16, .ro), (15, 0, .ro)]⟩, -- YAR_S_TALLY, 05 R145
  ⟨0x50110, [(16, 0x20)], 0x0, .warm, [(15, 0, .ro)]⟩, -- YAR_S_STALE, 05 R145
  ⟨0x50114, [(16, 0x20)], 0x0, .warm, [(31, 20, .ro), (19, 8, .ro), (7, 7, .ro), (6, 6, .ro), (5, 5, .ro), (4, 0, .ro)]⟩, -- YAR_S_ALLOC, 05 R151
  ⟨0x50118, [(16, 0x20)], 0x0, .warm, [(31, 16, .rc), (0, 0, .ro)]⟩, -- YAR_S_SAT, 05 R164
  ⟨0x5011c, [(16, 0x20)], 0x0, .warm, [(4, 0, .ro)]⟩] -- YAR_S_PTR, 05 R153

/-- The register families of block SWU. -/
def regFamiliesSwu : List RegFamily := [
  ⟨0x60000, [], 0x1, .warm, [(15, 12, .ro), (11, 8, .ro), (2, 1, .lk), (0, 0, .lk)]⟩, -- SWU_CTRL, 06 R178
  ⟨0x60004, [], 0x0, .por, [(7, 0, .lk)]⟩, -- SWU_SAFE, 06 R172
  ⟨0x60008, [], 0x22222121, .warm, [(29, 29, .lk), (28, 28, .lk), (27, 24, .lk), (21, 21, .lk), (20, 20, .lk), (19, 16, .lk), (13, 13, .lk), (12, 12, .lk), (11, 8, .lk), (5, 5, .lk), (4, 4, .lk), (3, 0, .lk)]⟩, -- SWU_FIN_CFG0, 06 R192
  ⟨0x6000c, [], 0x28282424, .warm, [(29, 29, .lk), (28, 28, .lk), (27, 24, .lk), (21, 21, .lk), (20, 20, .lk), (19, 16, .lk), (13, 13, .lk), (12, 12, .lk), (11, 8, .lk), (5, 5, .lk), (4, 4, .lk), (3, 0, .lk)]⟩, -- SWU_FIN_CFG1, 06 R192
  ⟨0x60010, [], 0x0, .warm, [(26, 23, .ro), (22, 22, .ro), (21, 21, .ro), (20, 20, .ro), (19, 16, .w1c), (15, 12, .w1c), (7, 0, .w1c)]⟩, -- SWU_FLT, 06 R193
  ⟨0x60014, [], 0x0, .warm, [(23, 16, .ro), (15, 8, .ro), (7, 0, .ro)]⟩, -- SWU_LEVELS, 06 R198
  ⟨0x60018, [], 0x0, .warm, [(3, 0, .wo)]⟩, -- SWU_COMMIT, 06 R190
  ⟨0x60040, [(8, 0x4)], 0x0, .warm, [(25, 16, .lk), (9, 0, .lk)]⟩, -- SWU_O_DLY, 06 R179
  ⟨0x60100, [(4, 0x20)], 0x0, .warm, [(25, 16, .lk), (13, 12, .ro), (9, 9, .lk), (8, 8, .lk), (5, 5, .ro), (4, 3, .ro), (2, 2, .ro), (1, 0, .ro)]⟩, -- SWU_P_CFG, 06 R184
  ⟨0x60104, [(4, 0x20)], 0x0, .warm, [(27, 16, .lk), (11, 0, .lk)]⟩, -- SWU_P_DT, 06 R181
  ⟨0x60108, [(4, 0x20)], 0x0, .warm, [(23, 0, .rw)]⟩, -- SWU_P_PERIOD, 06 R189
  ⟨0x6010c, [(4, 0x20)], 0x0, .warm, [(23, 0, .rw)]⟩, -- SWU_P_DUTY, 06 R189
  ⟨0x60110, [(4, 0x20)], 0x0, .warm, [(23, 0, .ro)]⟩, -- SWU_P_ACTP, 06 R189
  ⟨0x60114, [(4, 0x20)], 0x0, .warm, [(23, 0, .ro)]⟩, -- SWU_P_ACTD, 06 R189
  ⟨0x60118, [(4, 0x20)], 0x0, .warm, [(31, 16, .rc), (15, 8, .rc), (5, 5, .ro), (4, 3, .ro), (2, 2, .ro), (1, 1, .ro), (0, 0, .ro)]⟩, -- SWU_P_STAT, 06 R181
  ⟨0x6011c, [(4, 0x20)], 0x0, .warm, [(31, 28, .rc), (24, 0, .ro)]⟩] -- SWU_P_CARRY, 06 R182

/-- The register families of block LOOP. -/
def regFamiliesLoop : List RegFamily := [
  ⟨0x70000, [], 0x0, .warm, [(0, 0, .rw)]⟩, -- LOOP_CTRL, 07 R205
  ⟨0x70004, [], 0x0, .warm, [(31, 16, .rc), (15, 0, .ro)]⟩, -- LOOP_STAT, 07 R222
  ⟨0x70008, [], 0x0, .warm, [(31, 16, .rc), (15, 0, .rc)]⟩, -- LOOP_CNT, 07 R223
  ⟨0x7000c, [], 0x4000400, .warm, [(26, 16, .ro), (10, 0, .ro)]⟩, -- LOOP_USE, 07 R232
  ⟨0x70010, [], 0x654, .warm, [(31, 16, .ro), (15, 0, .ro)]⟩, -- LOOP_WIN, 07 R229
  ⟨0x70014, [], 0x0, .warm, [(31, 0, .ro)]⟩, -- LOOP_PROG, 07 R230
  ⟨0x70040, [(16, 0x4)], 0x0, .warm, [(17, 17, .ro), (16, 16, .lk), (11, 0, .lk)]⟩, -- LOOP_SS, 07 R228
  ⟨0x70080, [(40, 0x4)], 0x0, .warm, [(15, 15, .rw), (11, 0, .rw)]⟩, -- LOOP_PORT, 07 R225
  ⟨0x70120, [(8, 0x4)], 0x0, .warm, [(7, 7, .lk), (4, 0, .lk)]⟩, -- LOOP_RELAY_SRC, 07 R212
  ⟨0x70140, [(2, 0x4)], 0x0, .warm, [(31, 24, .lk), (23, 16, .lk), (15, 8, .lk), (7, 0, .lk)]⟩, -- LOOP_RELAY_SEL, 07 R211
  ⟨0x70200, [(32, 0x10)], 0x0, .warm, [(25, 25, .ro), (24, 24, .ro), (22, 21, .ro), (20, 10, .ro), (9, 0, .ro)]⟩, -- LOOP_L_CFG, 07 R213
  ⟨0x70204, [(32, 0x10)], 0x0, .warm, [(31, 16, .ro), (15, 8, .ro), (7, 0, .ro)]⟩, -- LOOP_L_TIM, 07 R213
  ⟨0x70208, [(32, 0x10)], 0x0, .warm, [(21, 16, .ro), (15, 12, .ro), (11, 0, .ro)]⟩, -- LOOP_L_SCHED, 07 R220
  ⟨0x7020c, [(32, 0x10)], 0x0, .warm, [(31, 0, .ro)]⟩, -- LOOP_L_RUNS, 07 R222
  ⟨0x74000, [(64, 0x40), (16, 0x4)], 0x0, .warm, [(31, 0, .rw)]⟩, -- LOOP_COEF, 07 R220
  ⟨0x78000, [(256, 0x4)], 0x0, .warm, [(31, 0, .ro)]⟩, -- LOOP_SIG_SNAP, 07 R209
  ⟨0x78400, [(256, 0x4)], 0x0, .warm, [(31, 0, .rw)]⟩, -- LOOP_SIG_PARAM, 07 R209
  ⟨0x78800, [(3584, 0x4)], 0x0, .warm, [(31, 0, .ro)]⟩] -- LOOP_SIG_WORK, 07 R209

/-- The register families of block MEAS. -/
def regFamiliesMeas : List RegFamily := [
  ⟨0x80000, [], 0x8000a, .warm, [(23, 16, .lk), (9, 0, .lk)]⟩, -- MEAS_CTRL, 08 R250
  ⟨0x80004, [], 0x1e4, .warm, [(31, 16, .ro), (14, 10, .ro), (9, 5, .ro), (4, 4, .ro), (2, 0, .ro)]⟩, -- MEAS_SLICE, 08 R250
  ⟨0x80010, [(5, 0x4)], 0x0, .warm, [(31, 16, .ro), (15, 0, .ro)]⟩, -- MEAS_SCAL, 08 R250
  ⟨0x80030, [], 0x0, .warm, [(31, 16, .rc), (15, 0, .rc)]⟩, -- MEAS_CNT, 08 R238
  ⟨0x80034, [], 0x0, .warm, [(31, 24, .rc), (15, 0, .ro)]⟩, -- MEAS_XCHK, 08 R249
  ⟨0x80040, [], 0x0, .warm, [(5, 5, .wo), (4, 0, .wo)]⟩, -- MEAS_INJ_REQ, 08 R249
  ⟨0x80044, [], 0x0, .warm, [(31, 24, .ro), (22, 20, .ro), (19, 19, .ro), (17, 17, .ro), (16, 16, .ro), (15, 0, .ro)]⟩, -- MEAS_INJ_RES, 08 R249
  ⟨0x80100, [(4, 0x10)], 0x0, .warm, [(31, 31, .ro), (30, 30, .ro), (29, 29, .ro), (28, 28, .ro), (27, 26, .ro), (25, 24, .ro), (20, 16, .ro), (15, 8, .ro)]⟩, -- MEAS_Q_CFG, 08 R241
  ⟨0x80104, [(4, 0x10)], 0x0, .warm, [(14, 0, .ro)]⟩, -- MEAS_Q_OFS, 08 R242
  ⟨0x80108, [(4, 0x10)], 0x0, .warm, [(31, 0, .ro)]⟩, -- MEAS_Q_T0, 08 R243
  ⟨0x8010c, [(4, 0x10)], 0x0, .warm, [(31, 16, .ro), (15, 0, .rc)]⟩, -- MEAS_Q_STAT, 08 R243
  ⟨0x81000, [(4, 0x80), (32, 0x4)], 0x0, .warm, [(5, 5, .ro), (4, 0, .ro)]⟩, -- MEAS_Q_E, 08 R237
  ⟨0x82000, [(4, 0x80), (32, 0x4)], 0x0, .warm, [(31, 24, .ro), (22, 20, .ro), (19, 19, .ro), (17, 17, .ro), (16, 16, .ro), (15, 0, .ro)]⟩] -- MEAS_RES, 08 R248

/-- The register families of block REC. -/
def regFamiliesRec : List RegFamily := [
  ⟨0x90000, [], 0x100000, .warm, [(23, 16, .lk), (0, 0, .rw)]⟩, -- REC_CTRL, 09 R267
  ⟨0x90004, [], 0x2000200, .warm, [(25, 16, .ro), (9, 0, .ro)]⟩, -- REC_POOL, 09 R255
  ⟨0x90008, [], 0x0, .warm, [(31, 24, .rc), (23, 16, .rc), (15, 8, .rc), (7, 0, .rc)]⟩, -- REC_STAT, 09 R264
  ⟨0x9000c, [], 0x0, .warm, [(31, 16, .ro), (11, 8, .ro), (0, 0, .ro)]⟩, -- REC_SYS, 09 R272
  ⟨0x90010, [], 0xa0000, .warm, [(31, 16, .lk), (9, 8, .lk), (7, 4, .lk), (3, 0, .lk)]⟩, -- REC_TRIGIO, 09 R271
  ⟨0x90014, [], 0x0, .warm, [(2, 0, .ro)]⟩, -- REC_TSTATE, 09 R267
  ⟨0x90020, [(2, 0x8)], 0x0, .warm, [(31, 0, .ro)]⟩, -- REC_CNT_VAL, 09 R269
  ⟨0x90024, [(2, 0x8)], 0x0, .warm, [(31, 0, .lk)]⟩, -- REC_CNT_LIM, 09 R269
  ⟨0x90030, [(2, 0x4)], 0x0, .warm, [(23, 0, .lk)]⟩, -- REC_TMR, 09 R269
  ⟨0x90040, [(4, 0x10)], 0x0, .warm, [(31, 0, .lk)]⟩, -- REC_CMP_SRC, 09 R270
  ⟨0x90044, [(4, 0x10)], 0x0, .warm, [(3, 3, .lk), (2, 0, .lk)]⟩, -- REC_CMP_OP, 09 R270
  ⟨0x90048, [(4, 0x10)], 0x0, .warm, [(31, 0, .lk)]⟩, -- REC_CMP_A, 09 R270
  ⟨0x9004c, [(4, 0x10)], 0x0, .warm, [(31, 0, .lk)]⟩, -- REC_CMP_B, 09 R270
  ⟨0x90080, [(8, 0x8)], 0x0, .warm, [(26, 24, .lk), (23, 16, .lk), (10, 8, .lk), (7, 0, .lk)]⟩, -- REC_TS_CND, 09 R268
  ⟨0x90084, [(8, 0x8)], 0x0, .warm, [(24, 0, .lk)]⟩, -- REC_TS_ACT, 09 R269
  ⟨0x90100, [(16, 0x10)], 0x0, .warm, [(24, 16, .ro), (4, 4, .ro), (2, 0, .ro)]⟩, -- REC_CAP_STAT, 09 R260
  ⟨0x90104, [(16, 0x10)], 0x0, .warm, [(31, 0, .ro)]⟩, -- REC_CAP_PRE, 09 R262
  ⟨0x90108, [(16, 0x10)], 0x0, .warm, [(31, 0, .ro)]⟩, -- REC_CAP_POST, 09 R262
  ⟨0x90200, [(8, 0x10)], 0x0, .warm, [(11, 8, .ro), (7, 4, .ro), (3, 3, .ro), (0, 0, .ro)]⟩, -- REC_TR_STAT, 09 R275
  ⟨0x90204, [(8, 0x10)], 0x0, .warm, [(31, 0, .ro)]⟩, -- REC_TR_BLOCKS, 09 R275
  ⟨0x90208, [(8, 0x10)], 0x0, .warm, [(31, 0, .rc)]⟩] -- REC_TR_LOST, 09 R277

/-- The register families of block MGRD. -/
def regFamiliesMgrd : List RegFamily := [
  ⟨0xa0000, [], 0x803c0002, .warm, [(31, 31, .lk), (23, 16, .rw), (9, 0, .rw)]⟩, -- MGRD_CTRL, 11 R319
  ⟨0xa0004, [], 0x0, .warm, [(8, 8, .ro), (6, 0, .ro)]⟩, -- MGRD_ST, 11 R321
  ⟨0xa0010, [], 0x0, .warm, [(31, 16, .rc), (15, 8, .rc), (7, 0, .rc)]⟩, -- MGRD_CNT_SRAM, 11 R314
  ⟨0xa0014, [], 0x0, .warm, [(31, 16, .rc), (15, 8, .rc), (7, 0, .rc)]⟩, -- MGRD_CNT_TBL, 11 R314
  ⟨0xa0018, [], 0x0, .warm, [(31, 16, .rc), (9, 0, .ro)]⟩, -- MGRD_CNT_REC, 11 R317
  ⟨0xa0020, [], 0x0, .warm, [(31, 0, .ro)]⟩, -- MGRD_LAST, 11 R314
  ⟨0xa0024, [], 0x0, .warm, [(7, 7, .ro), (6, 4, .ro), (1, 0, .ro)]⟩, -- MGRD_LAST_INFO, 11 R314
  ⟨0xa0028, [], 0x0, .warm, [(31, 30, .ro), (29, 29, .ro), (28, 19, .ro), (18, 0, .ro)]⟩, -- MGRD_SCRUB, 11 R319
  ⟨0xa0030, [], 0x0, .warm, [(31, 0, .ro)]⟩, -- MGRD_IMG_BASE, 11 R312
  ⟨0xa0034, [], 0x0, .warm, [(31, 0, .ro)]⟩, -- MGRD_IMG_LIMIT, 11 R312
  ⟨0xa0100, [(3, 0x20), (8, 0x4)], 0x0, .por, [(31, 31, .ro), (30, 30, .ro), (18, 0, .ro)]⟩] -- MGRD_REMAP, 11 R316

/-- The register families of block FHUB. -/
def regFamiliesFhub : List RegFamily := [
  ⟨0xb0000, [], 0xa03e8, .warm, [(31, 31, .rw), (25, 16, .lk), (15, 0, .lk)]⟩, -- FHUB_CTRL, 12 R332
  ⟨0xb0004, [], 0x0, .por, [(31, 16, .ro), (14, 8, .ro), (6, 6, .ro), (5, 5, .ro), (4, 4, .ro), (3, 2, .ro), (0, 0, .ro)]⟩, -- FHUB_REC, 12 R330
  ⟨0xb0008, [], 0x0, .por, [(31, 0, .ro)]⟩, -- FHUB_REC_TIME_LO, 12 R330
  ⟨0xb000c, [], 0x0, .por, [(31, 0, .ro)]⟩, -- FHUB_REC_TIME_HI, 12 R330
  ⟨0xb0010, [], 0x0, .por, [(31, 16, .ro), (15, 0, .ro)]⟩, -- FHUB_REC_MERGE, 12 R331
  ⟨0xb0020, [(4, 0x4)], 0x0, .por, [(31, 0, .ro)]⟩, -- FHUB_FIRST_SET, 12 R330
  ⟨0xb0030, [(4, 0x4)], 0x0, .por, [(31, 0, .ro)]⟩, -- FHUB_MERGED, 12 R331
  ⟨0xb0040, [], 0x0, .warm, [(15, 0, .wo)]⟩, -- FHUB_RESOLVE, 12 R334
  ⟨0xb0044, [], 0x0, .warm, [(31, 24, .rc), (23, 16, .rc), (3, 3, .ro), (2, 2, .ro), (1, 1, .ro)]⟩, -- FHUB_STAT, 12 R337
  ⟨0xb0050, [(4, 0x4)], 0x0, .warm, [(31, 0, .w1c)]⟩, -- FHUB_LATCH, 12 R329
  ⟨0xb0400, [(128, 0x4)], 0x0, .warm, [(31, 30, .ro), (29, 28, .ro), (23, 16, .rc), (9, 9, .rw), (8, 8, .rw), (5, 0, .rw)]⟩] -- FHUB_SRC, 12 R327

/-- The register families of block SAFE. -/
def regFamiliesSafe : List RegFamily := [
  ⟨0xc0000, [], 0x0, .warm, [(29, 29, .ro), (28, 28, .ro), (27, 27, .ro), (26, 26, .ro), (25, 25, .ro), (24, 24, .ro), (23, 20, .ro), (19, 16, .ro), (15, 12, .ro), (11, 8, .ro), (7, 4, .ro)]⟩, -- SAFE_STAT, 13 R349
  ⟨0xc0004, [], 0x2001, .por, [(13, 12, .ro), (9, 9, .ro), (8, 8, .ro), (7, 7, .ro), (6, 6, .ro), (5, 5, .ro), (4, 4, .ro), (3, 3, .ro), (2, 2, .ro), (1, 1, .ro), (0, 0, .ro)]⟩, -- SAFE_CAUSE, 13 R353
  ⟨0xc0010, [(4, 0x4)], 0x0, .warm, [(19, 19, .ro), (18, 18, .ro), (17, 15, .ro), (14, 12, .ro), (11, 10, .ro), (7, 7, .ro), (6, 6, .ro), (5, 5, .ro), (4, 4, .ro), (1, 1, .ro), (0, 0, .ro)]⟩, -- SAFE_IN, 13 R350
  ⟨0xc0020, [(4, 0x4)], 0x0, .warm, [(21, 12, .ro), (11, 10, .ro), (9, 9, .ro), (8, 8, .ro), (7, 7, .ro), (6, 6, .ro), (5, 5, .ro), (4, 4, .ro), (3, 3, .ro), (2, 2, .ro), (1, 1, .ro), (0, 0, .ro)]⟩, -- SAFE_OUT, 13 R363
  ⟨0xc0030, [], 0x0, .warm, [(31, 16, .ro), (15, 8, .ro), (2, 2, .ro), (1, 1, .ro), (0, 0, .ro)]⟩, -- SAFE_PANEL, 13 R365
  ⟨0xc0034, [], 0x0, .por, [(31, 16, .ro), (15, 14, .ro), (12, 0, .ro)]⟩, -- SAFE_ACK, 13 R365
  ⟨0xc0038, [], 0x0, .warm, [(15, 0, .ro)]⟩, -- SAFE_REC, 13 R347
  ⟨0xc0040, [(16, 0x4)], 0x0, .warm, [(31, 16, .ro), (3, 3, .ro), (2, 0, .ro)]⟩] -- SAFE_SS, 13 R359

/-- The register families of block TWIN. -/
def regFamiliesTwin : List RegFamily := [
  ⟨0xd0000, [], 0xa07, .warm, [(15, 8, .lk), (7, 0, .lk)]⟩, -- TWIN_CFG, 14 R372
  ⟨0xd0004, [], 0x0, .warm, [(31, 16, .ro), (10, 9, .ro), (8, 8, .ro), (7, 7, .ro), (6, 4, .ro), (3, 2, .ro), (1, 0, .ro)]⟩, -- TWIN_STAT, 14 R371
  ⟨0xd0008, [], 0x0, .warm, [(20, 16, .ro), (12, 8, .ro), (4, 0, .ro)]⟩, -- TWIN_WIT, 14 R378
  ⟨0xd000c, [], 0x0, .warm, [(31, 0, .ro)]⟩, -- TWIN_IMG, 14 R382
  ⟨0xd0010, [], 0x0, .warm, [(15, 0, .ro)]⟩, -- TWIN_AGE, 14 R383
  ⟨0xd0014, [], 0x0, .warm, [(31, 24, .rc), (23, 16, .rc), (15, 8, .rc), (7, 0, .rc)]⟩, -- TWIN_CNT, 14 R380
  ⟨0xd0018, [], 0x0, .warm, [(31, 0, .ro)]⟩, -- TWIN_LAST_LO, 14 R387
  ⟨0xd001c, [], 0x0, .warm, [(31, 0, .ro)]⟩, -- TWIN_LAST_HI, 14 R387
  ⟨0xd0020, [], 0x0, .warm, [(31, 16, .ro), (3, 3, .ro), (2, 2, .ro), (1, 1, .ro), (0, 0, .ro)]⟩] -- TWIN_CHILD, 14 R376

/-- The register families of block LIFE. -/
def regFamiliesLife : List RegFamily := [
  ⟨0xe0000, [], 0x3c0000, .warm, [(27, 24, .ro), (23, 16, .rw), (15, 8, .lk), (4, 4, .lk), (3, 3, .lk), (2, 2, .lk), (1, 1, .lk), (0, 0, .rw)]⟩, -- LIFE_CTRL, 15 R394
  ⟨0xe0004, [], 0x3c1e0a0a, .warm, [(31, 24, .lk), (23, 16, .lk), (15, 8, .lk), (7, 0, .lk)]⟩, -- LIFE_AVS_CFG, 15 R404
  ⟨0xe0008, [], 0x40, .warm, [(15, 15, .lk), (14, 14, .lk), (6, 0, .lk)]⟩, -- LIFE_PMB, 15 R405
  ⟨0xe000c, [], 0x0, .warm, [(31, 30, .ro), (29, 16, .ro), (9, 0, .ro)]⟩, -- LIFE_AVS_STAT, 15 R404
  ⟨0xe0010, [], 0x1e, .warm, [(7, 0, .rw)]⟩, -- LIFE_LANE_CFG, 15 R406
  ⟨0xe0020, [], 0x0, .warm, [(31, 24, .ro), (23, 16, .ro), (15, 8, .ro), (7, 0, .ro)]⟩, -- LIFE_DTX, 15 R394
  ⟨0xe0040, [(32, 0x4)], 0xfff08000, .warm, [(31, 20, .ro), (16, 16, .ro), (15, 0, .ro)]⟩, -- LIFE_LANE, 15 R406
  ⟨0xe0100, [(2, 0x20)], 0x0, .warm, [(31, 0, .lk)]⟩, -- LIFE_C_CNOM, 15 R398
  ⟨0xe0104, [(2, 0x20)], 0xa10000a, .warm, [(27, 24, .lk), (23, 16, .lk), (14, 13, .lk), (12, 8, .lk), (7, 0, .lk)]⟩, -- LIFE_C_EST, 15 R398
  ⟨0xe0108, [(2, 0x20)], 0x33333999, .warm, [(31, 16, .lk), (15, 0, .lk)]⟩, -- LIFE_C_CLIM, 15 R395
  ⟨0xe010c, [(2, 0x20)], 0x0, .warm, [(31, 16, .lk), (15, 0, .lk)]⟩, -- LIFE_C_ELIM, 15 R395
  ⟨0xe0110, [(2, 0x20)], 0x0, .por, [(31, 16, .ro), (15, 0, .ro)]⟩, -- LIFE_C_CEST, 15 R398
  ⟨0xe0114, [(2, 0x20)], 0x0, .por, [(31, 16, .ro), (15, 0, .ro)]⟩, -- LIFE_C_ESR, 15 R399
  ⟨0xe0118, [(2, 0x20)], 0x4000, .warm, [(31, 31, .ro), (30, 30, .ro), (29, 29, .ro), (28, 28, .ro), (15, 0, .ro)]⟩, -- LIFE_C_PLAN, 15 R393
  ⟨0xe0200, [(4, 0x20)], 0x3214, .warm, [(31, 31, .lk), (30, 30, .lk), (29, 28, .lk), (27, 23, .lk), (22, 21, .lk), (20, 16, .lk), (15, 8, .lk), (7, 0, .lk)]⟩, -- LIFE_W_CFG, 15 R400
  ⟨0xe0204, [(4, 0x20)], 0x7d, .warm, [(31, 16, .lk), (15, 8, .lk), (7, 0, .lk)]⟩, -- LIFE_W_IREF, 15 R400
  ⟨0xe0208, [(4, 0x20)], 0x0, .warm, [(31, 16, .lk), (15, 0, .lk)]⟩, -- LIFE_W_TREF, 15 R400
  ⟨0xe020c, [(4, 0x20)], 0x0, .warm, [(31, 16, .lk), (15, 0, .lk)]⟩, -- LIFE_W_RF, 15 R401
  ⟨0xe0210, [(4, 0x20)], 0x0, .por, [(31, 16, .ro), (15, 0, .ro)]⟩, -- LIFE_W_MEAN, 15 R400
  ⟨0xe0214, [(4, 0x20)], 0x0, .por, [(31, 16, .ro), (15, 0, .ro)]⟩, -- LIFE_W_DRIFT, 15 R400
  ⟨0xe0218, [(4, 0x20)], 0x0, .por, [(31, 0, .ro)]⟩, -- LIFE_W_DAMAGE, 15 R402
  ⟨0xe021c, [(4, 0x20)], 0x0, .warm, [(31, 16, .rc), (1, 1, .ro), (0, 0, .ro)]⟩, -- LIFE_W_STAT, 15 R400
  ⟨0xe1000, [(4, 0x40), (16, 0x4)], 0x0, .por, [(31, 0, .ro)]⟩, -- LIFE_RF, 15 R401
  ⟨0xe1400, [(16, 0x4)], 0x0, .warm, [(31, 0, .lk)]⟩] -- LIFE_RFW, 15 R402

/-- The register families of block FBUS. -/
def regFamiliesFbus : List RegFamily := [
  ⟨0xf0000, [(2, 0x200)], 0x0, .warm, [(15, 8, .lk), (4, 4, .lk), (3, 3, .lk), (2, 2, .lk), (1, 0, .ro)]⟩, -- FBUS_C_CTRL, 16 R413
  ⟨0xf0004, [(2, 0x200)], 0x0, .warm, [(31, 24, .lk), (23, 16, .lk), (14, 8, .lk), (6, 0, .lk)]⟩, -- FBUS_C_NBT, 16 R413
  ⟨0xf0008, [(2, 0x200)], 0x0, .warm, [(28, 24, .lk), (20, 16, .lk), (11, 8, .lk), (3, 0, .lk)]⟩, -- FBUS_C_DBT, 16 R413
  ⟨0xf000c, [(2, 0x200)], 0x0, .warm, [(22, 16, .ro), (15, 15, .lk), (14, 8, .lk)]⟩, -- FBUS_C_TDC, 16 R415
  ⟨0xf0010, [(2, 0x200)], 0x0, .warm, [(31, 24, .ro), (23, 16, .ro), (7, 7, .ro), (6, 6, .w1c), (5, 4, .ro), (3, 0, .ro)]⟩, -- FBUS_C_STAT, 16 R421
  ⟨0xf0014, [(2, 0x200)], 0x0, .warm, [(31, 24, .rc), (23, 16, .rc), (15, 8, .rc), (7, 0, .rc)]⟩, -- FBUS_C_CNT, 16 R421
  ⟨0xf0018, [(2, 0x200)], 0x0, .warm, [(28, 0, .ro)]⟩, -- FBUS_C_DUP, 16 R424
  ⟨0xf001c, [(2, 0x200)], 0x0, .warm, [(31, 31, .lk), (27, 24, .lk), (23, 0, .lk)]⟩, -- FBUS_C_SCHED, 16 R425
  ⟨0xf0040, [(2, 0x200), (32, 0x8)], 0x0, .warm, [(31, 31, .lk), (21, 16, .lk), (15, 0, .lk)]⟩, -- FBUS_C_SLOTA, 16 R425
  ⟨0xf0044, [(2, 0x200), (32, 0x8)], 0x0, .warm, [(31, 24, .lk), (23, 0, .lk)]⟩, -- FBUS_C_SLOTB, 16 R426
  ⟨0xf2000, [(64, 0x80)], 0x0, .warm, [(31, 31, .ro), (30, 30, .ro), (29, 29, .ro), (28, 28, .ro), (27, 27, .ro), (26, 26, .ro), (25, 25, .ro), (24, 24, .ro), (15, 15, .ro), (5, 0, .ro)]⟩, -- FBUS_M_CFG, 16 R416
  ⟨0xf2004, [(64, 0x80)], 0x0, .warm, [(28, 0, .ro)]⟩, -- FBUS_M_ID, 16 R416
  ⟨0xf2008, [(64, 0x80)], 0x0, .warm, [(28, 0, .ro)]⟩, -- FBUS_M_MASK, 16 R416
  ⟨0xf200c, [(64, 0x80)], 0x0, .warm, [(31, 31, .ro), (30, 30, .ro), (29, 29, .ro), (28, 0, .ro)]⟩, -- FBUS_M_FRAME, 16 R416
  ⟨0xf2010, [(64, 0x80)], 0x0, .warm, [(31, 16, .ro), (15, 15, .ro), (14, 14, .wo), (13, 13, .ro), (12, 12, .ro), (7, 7, .w1c), (6, 0, .rw)]⟩, -- FBUS_M_STAT, 16 R416
  ⟨0xf2014, [(64, 0x80)], 0x0, .warm, [(31, 0, .ro)]⟩, -- FBUS_M_STAMP_LO, 16 R419
  ⟨0xf2018, [(64, 0x80)], 0x0, .warm, [(31, 0, .ro)]⟩, -- FBUS_M_STAMP_HI, 16 R419
  ⟨0xf2020, [(64, 0x80), (16, 0x4)], 0x0, .warm, [(31, 0, .rw)]⟩] -- FBUS_M_DATA, 16 R417

/-- Every register family of the part. -/
def regFamilies : List RegFamily :=
  regFamiliesSys ++ regFamiliesTick ++ regFamiliesLane ++ regFamiliesCmd ++ regFamiliesDisp ++ regFamiliesYar ++ regFamiliesSwu ++ regFamiliesLoop ++ regFamiliesMeas ++ regFamiliesRec ++ regFamiliesMgrd ++ regFamiliesFhub ++ regFamiliesSafe ++ regFamiliesTwin ++ regFamiliesLife ++ regFamiliesFbus

abbrev A.SYS_ID : Nat := 0x0
abbrev A.SYS_STATE : Nat := 0x4
abbrev A.SYS_CREDIT : Nat := 0x8
abbrev A.SYS_PANEL : Nat := 0xc
abbrev A.SYS_LED : Nat := 0x10
abbrev A.SYS_SUPPLY : Nat := 0x14
abbrev A.SYS_IMG : Nat := 0x18
abbrev A.SYS_LOAD : Nat := 0x1c
abbrev A.TICK_CFG : Nat := 0x10000
abbrev A.TICK_STATUS : Nat := 0x10004
abbrev A.TICK_TIME_LO : Nat := 0x10008
abbrev A.TICK_TIME_HI : Nat := 0x1000c
abbrev A.TICK_OFFSET : Nat := 0x10014
abbrev A.TICK_DELAY_A : Nat := 0x10018
abbrev A.TICK_DELAY_B : Nat := 0x1001c
abbrev A.TICK_ASYM_A : Nat := 0x10020
abbrev A.TICK_ASYM_B : Nat := 0x10024
abbrev A.TICK_PH_SAMPLE : Nat := 0x10040
abbrev A.TICK_PH_UP : Nat := 0x10044
abbrev A.TICK_PH_TALLY : Nat := 0x10048
abbrev A.TICK_PH_LOOP_END : Nat := 0x1004c
abbrev A.TICK_PH_DOWN : Nat := 0x10050
abbrev A.TICK_PH_APPLY : Nat := 0x10054
abbrev A.TICK_HOLD : Nat := 0x10060
abbrev A.TICK_LATE : Nat := 0x10064
abbrev A.TICK_PPS : Nat := 0x10070
abbrev A.LANE_CFG (i : Nat) : Nat := 0x20000 + 0x400 * i
abbrev A.LANE_STATUS (i : Nat) : Nat := 0x20004 + 0x400 * i
abbrev A.LANE_ERR (i : Nat) : Nat := 0x20008 + 0x400 * i
abbrev A.LANE_SEG (i : Nat) : Nat := 0x2000c + 0x400 * i
abbrev A.LANE_LOAD (i : Nat) : Nat := 0x20010 + 0x400 * i
abbrev A.LANE_PRBS (i : Nat) : Nat := 0x20020 + 0x400 * i
abbrev A.LANE_PRBS_ERR (i : Nat) : Nat := 0x20024 + 0x400 * i
abbrev A.LANE_PRBS_TIME (i : Nat) : Nat := 0x20028 + 0x400 * i
abbrev A.LANE_MOD (i : Nat) : Nat := 0x20030 + 0x400 * i
abbrev A.LANE_DDM0 (i : Nat) : Nat := 0x20034 + 0x400 * i
abbrev A.LANE_DDM1 (i : Nat) : Nat := 0x20038 + 0x400 * i
abbrev A.LANE_EQ (i : Nat) : Nat := 0x20040 + 0x400 * i
abbrev A.LANE_COMMON : Nat := 0x28000
abbrev A.LANE_HOST_MAC_LO : Nat := 0x28010
abbrev A.LANE_HOST_MAC_HI : Nat := 0x28014
abbrev A.CMD_TMO : Nat := 0x30000
abbrev A.CMD_AUTH : Nat := 0x30004
abbrev A.CMD_STAT : Nat := 0x30008
abbrev A.CMD_QSPI : Nat := 0x3000c
abbrev A.CMD_LOAD : Nat := 0x30010
abbrev A.CMD_KEY : Nat := 0x30014
abbrev A.CMD_ALLOC_REQ (i : Nat) : Nat := 0x30028 + 0x8 * i
abbrev A.CMD_ALLOC_RES (i : Nat) : Nat := 0x3002c + 0x8 * i
abbrev A.CMD_NODE : Nat := 0x30100
abbrev A.CMD_CAP : Nat := 0x30104
abbrev A.CMD_DL (i : Nat) : Nat := 0x30140 + 0x4 * i
abbrev A.CMD_RANGE (i : Nat) : Nat := 0x301c0 + 0x4 * i
abbrev A.DISP_STAT : Nat := 0x40000
abbrev A.DISP_CNT : Nat := 0x40004
abbrev A.DISP_DBG : Nat := 0x40008
abbrev A.DISP_CORE (i : Nat) : Nat := 0x40010 + 0x4 * i
abbrev A.DISP_T_CFG (i : Nat) : Nat := 0x41000 + 0x10 * i
abbrev A.DISP_T_PORTS (i : Nat) : Nat := 0x41004 + 0x10 * i
abbrev A.DISP_T_STAT (i : Nat) : Nat := 0x41008 + 0x10 * i
abbrev A.DISP_T_TRAP (i : Nat) : Nat := 0x4100c + 0x10 * i
abbrev A.DISP_F_CFG (i : Nat) : Nat := 0x41800 + 0x8 * i
abbrev A.DISP_F_STAT (i : Nat) : Nat := 0x41804 + 0x8 * i
abbrev A.DISP_L (i : Nat) : Nat := 0x41c00 + 0x4 * i
abbrev A.YAR_CFG : Nat := 0x50000
abbrev A.YAR_VNOM : Nat := 0x50004
abbrev A.YAR_STAG : Nat := 0x50008
abbrev A.YAR_CELL (i : Nat) : Nat := 0x50010 + 0x4 * i
abbrev A.YAR_CRATIO (i : Nat) : Nat := 0x50018 + 0x4 * i
abbrev A.YAR_DEC0 : Nat := 0x50020
abbrev A.YAR_DEC1 : Nat := 0x50024
abbrev A.YAR_FCNT : Nat := 0x50028
abbrev A.YAR_UTALLY : Nat := 0x50040
abbrev A.YAR_USTAT : Nat := 0x50044
abbrev A.YAR_USTALE : Nat := 0x50048
abbrev A.YAR_S_CFG (i : Nat) : Nat := 0x50100 + 0x20 * i
abbrev A.YAR_S_DEM (i : Nat) : Nat := 0x50104 + 0x20 * i
abbrev A.YAR_S_IARM (i : Nat) : Nat := 0x50108 + 0x20 * i
abbrev A.YAR_S_TALLY (i : Nat) : Nat := 0x5010c + 0x20 * i
abbrev A.YAR_S_STALE (i : Nat) : Nat := 0x50110 + 0x20 * i
abbrev A.YAR_S_ALLOC (i : Nat) : Nat := 0x50114 + 0x20 * i
abbrev A.YAR_S_SAT (i : Nat) : Nat := 0x50118 + 0x20 * i
abbrev A.YAR_S_PTR (i : Nat) : Nat := 0x5011c + 0x20 * i
abbrev A.SWU_CTRL : Nat := 0x60000
abbrev A.SWU_SAFE : Nat := 0x60004
abbrev A.SWU_FIN_CFG0 : Nat := 0x60008
abbrev A.SWU_FIN_CFG1 : Nat := 0x6000c
abbrev A.SWU_FLT : Nat := 0x60010
abbrev A.SWU_LEVELS : Nat := 0x60014
abbrev A.SWU_COMMIT : Nat := 0x60018
abbrev A.SWU_O_DLY (i : Nat) : Nat := 0x60040 + 0x4 * i
abbrev A.SWU_P_CFG (i : Nat) : Nat := 0x60100 + 0x20 * i
abbrev A.SWU_P_DT (i : Nat) : Nat := 0x60104 + 0x20 * i
abbrev A.SWU_P_PERIOD (i : Nat) : Nat := 0x60108 + 0x20 * i
abbrev A.SWU_P_DUTY (i : Nat) : Nat := 0x6010c + 0x20 * i
abbrev A.SWU_P_ACTP (i : Nat) : Nat := 0x60110 + 0x20 * i
abbrev A.SWU_P_ACTD (i : Nat) : Nat := 0x60114 + 0x20 * i
abbrev A.SWU_P_STAT (i : Nat) : Nat := 0x60118 + 0x20 * i
abbrev A.SWU_P_CARRY (i : Nat) : Nat := 0x6011c + 0x20 * i
abbrev A.LOOP_CTRL : Nat := 0x70000
abbrev A.LOOP_STAT : Nat := 0x70004
abbrev A.LOOP_CNT : Nat := 0x70008
abbrev A.LOOP_USE : Nat := 0x7000c
abbrev A.LOOP_WIN : Nat := 0x70010
abbrev A.LOOP_PROG : Nat := 0x70014
abbrev A.LOOP_SS (i : Nat) : Nat := 0x70040 + 0x4 * i
abbrev A.LOOP_PORT (i : Nat) : Nat := 0x70080 + 0x4 * i
abbrev A.LOOP_RELAY_SRC (i : Nat) : Nat := 0x70120 + 0x4 * i
abbrev A.LOOP_RELAY_SEL (i : Nat) : Nat := 0x70140 + 0x4 * i
abbrev A.LOOP_L_CFG (i : Nat) : Nat := 0x70200 + 0x10 * i
abbrev A.LOOP_L_TIM (i : Nat) : Nat := 0x70204 + 0x10 * i
abbrev A.LOOP_L_SCHED (i : Nat) : Nat := 0x70208 + 0x10 * i
abbrev A.LOOP_L_RUNS (i : Nat) : Nat := 0x7020c + 0x10 * i
abbrev A.LOOP_COEF (i j : Nat) : Nat := 0x74000 + 0x40 * i + 0x4 * j
abbrev A.LOOP_SIG_SNAP (i : Nat) : Nat := 0x78000 + 0x4 * i
abbrev A.LOOP_SIG_PARAM (i : Nat) : Nat := 0x78400 + 0x4 * i
abbrev A.LOOP_SIG_WORK (i : Nat) : Nat := 0x78800 + 0x4 * i
abbrev A.MEAS_CTRL : Nat := 0x80000
abbrev A.MEAS_SLICE : Nat := 0x80004
abbrev A.MEAS_SCAL (i : Nat) : Nat := 0x80010 + 0x4 * i
abbrev A.MEAS_CNT : Nat := 0x80030
abbrev A.MEAS_XCHK : Nat := 0x80034
abbrev A.MEAS_INJ_REQ : Nat := 0x80040
abbrev A.MEAS_INJ_RES : Nat := 0x80044
abbrev A.MEAS_Q_CFG (i : Nat) : Nat := 0x80100 + 0x10 * i
abbrev A.MEAS_Q_OFS (i : Nat) : Nat := 0x80104 + 0x10 * i
abbrev A.MEAS_Q_T0 (i : Nat) : Nat := 0x80108 + 0x10 * i
abbrev A.MEAS_Q_STAT (i : Nat) : Nat := 0x8010c + 0x10 * i
abbrev A.MEAS_Q_E (i j : Nat) : Nat := 0x81000 + 0x80 * i + 0x4 * j
abbrev A.MEAS_RES (i j : Nat) : Nat := 0x82000 + 0x80 * i + 0x4 * j
abbrev A.REC_CTRL : Nat := 0x90000
abbrev A.REC_POOL : Nat := 0x90004
abbrev A.REC_STAT : Nat := 0x90008
abbrev A.REC_SYS : Nat := 0x9000c
abbrev A.REC_TRIGIO : Nat := 0x90010
abbrev A.REC_TSTATE : Nat := 0x90014
abbrev A.REC_CNT_VAL (i : Nat) : Nat := 0x90020 + 0x8 * i
abbrev A.REC_CNT_LIM (i : Nat) : Nat := 0x90024 + 0x8 * i
abbrev A.REC_TMR (i : Nat) : Nat := 0x90030 + 0x4 * i
abbrev A.REC_CMP_SRC (i : Nat) : Nat := 0x90040 + 0x10 * i
abbrev A.REC_CMP_OP (i : Nat) : Nat := 0x90044 + 0x10 * i
abbrev A.REC_CMP_A (i : Nat) : Nat := 0x90048 + 0x10 * i
abbrev A.REC_CMP_B (i : Nat) : Nat := 0x9004c + 0x10 * i
abbrev A.REC_TS_CND (i : Nat) : Nat := 0x90080 + 0x8 * i
abbrev A.REC_TS_ACT (i : Nat) : Nat := 0x90084 + 0x8 * i
abbrev A.REC_CAP_STAT (i : Nat) : Nat := 0x90100 + 0x10 * i
abbrev A.REC_CAP_PRE (i : Nat) : Nat := 0x90104 + 0x10 * i
abbrev A.REC_CAP_POST (i : Nat) : Nat := 0x90108 + 0x10 * i
abbrev A.REC_TR_STAT (i : Nat) : Nat := 0x90200 + 0x10 * i
abbrev A.REC_TR_BLOCKS (i : Nat) : Nat := 0x90204 + 0x10 * i
abbrev A.REC_TR_LOST (i : Nat) : Nat := 0x90208 + 0x10 * i
abbrev A.MGRD_CTRL : Nat := 0xa0000
abbrev A.MGRD_ST : Nat := 0xa0004
abbrev A.MGRD_CNT_SRAM : Nat := 0xa0010
abbrev A.MGRD_CNT_TBL : Nat := 0xa0014
abbrev A.MGRD_CNT_REC : Nat := 0xa0018
abbrev A.MGRD_LAST : Nat := 0xa0020
abbrev A.MGRD_LAST_INFO : Nat := 0xa0024
abbrev A.MGRD_SCRUB : Nat := 0xa0028
abbrev A.MGRD_IMG_BASE : Nat := 0xa0030
abbrev A.MGRD_IMG_LIMIT : Nat := 0xa0034
abbrev A.MGRD_REMAP (i j : Nat) : Nat := 0xa0100 + 0x20 * i + 0x4 * j
abbrev A.FHUB_CTRL : Nat := 0xb0000
abbrev A.FHUB_REC : Nat := 0xb0004
abbrev A.FHUB_REC_TIME_LO : Nat := 0xb0008
abbrev A.FHUB_REC_TIME_HI : Nat := 0xb000c
abbrev A.FHUB_REC_MERGE : Nat := 0xb0010
abbrev A.FHUB_FIRST_SET (i : Nat) : Nat := 0xb0020 + 0x4 * i
abbrev A.FHUB_MERGED (i : Nat) : Nat := 0xb0030 + 0x4 * i
abbrev A.FHUB_RESOLVE : Nat := 0xb0040
abbrev A.FHUB_STAT : Nat := 0xb0044
abbrev A.FHUB_LATCH (i : Nat) : Nat := 0xb0050 + 0x4 * i
abbrev A.FHUB_SRC (i : Nat) : Nat := 0xb0400 + 0x4 * i
abbrev A.SAFE_STAT : Nat := 0xc0000
abbrev A.SAFE_CAUSE : Nat := 0xc0004
abbrev A.SAFE_IN (i : Nat) : Nat := 0xc0010 + 0x4 * i
abbrev A.SAFE_OUT (i : Nat) : Nat := 0xc0020 + 0x4 * i
abbrev A.SAFE_PANEL : Nat := 0xc0030
abbrev A.SAFE_ACK : Nat := 0xc0034
abbrev A.SAFE_REC : Nat := 0xc0038
abbrev A.SAFE_SS (i : Nat) : Nat := 0xc0040 + 0x4 * i
abbrev A.TWIN_CFG : Nat := 0xd0000
abbrev A.TWIN_STAT : Nat := 0xd0004
abbrev A.TWIN_WIT : Nat := 0xd0008
abbrev A.TWIN_IMG : Nat := 0xd000c
abbrev A.TWIN_AGE : Nat := 0xd0010
abbrev A.TWIN_CNT : Nat := 0xd0014
abbrev A.TWIN_LAST_LO : Nat := 0xd0018
abbrev A.TWIN_LAST_HI : Nat := 0xd001c
abbrev A.TWIN_CHILD : Nat := 0xd0020
abbrev A.LIFE_CTRL : Nat := 0xe0000
abbrev A.LIFE_AVS_CFG : Nat := 0xe0004
abbrev A.LIFE_PMB : Nat := 0xe0008
abbrev A.LIFE_AVS_STAT : Nat := 0xe000c
abbrev A.LIFE_LANE_CFG : Nat := 0xe0010
abbrev A.LIFE_DTX : Nat := 0xe0020
abbrev A.LIFE_LANE (i : Nat) : Nat := 0xe0040 + 0x4 * i
abbrev A.LIFE_C_CNOM (i : Nat) : Nat := 0xe0100 + 0x20 * i
abbrev A.LIFE_C_EST (i : Nat) : Nat := 0xe0104 + 0x20 * i
abbrev A.LIFE_C_CLIM (i : Nat) : Nat := 0xe0108 + 0x20 * i
abbrev A.LIFE_C_ELIM (i : Nat) : Nat := 0xe010c + 0x20 * i
abbrev A.LIFE_C_CEST (i : Nat) : Nat := 0xe0110 + 0x20 * i
abbrev A.LIFE_C_ESR (i : Nat) : Nat := 0xe0114 + 0x20 * i
abbrev A.LIFE_C_PLAN (i : Nat) : Nat := 0xe0118 + 0x20 * i
abbrev A.LIFE_W_CFG (i : Nat) : Nat := 0xe0200 + 0x20 * i
abbrev A.LIFE_W_IREF (i : Nat) : Nat := 0xe0204 + 0x20 * i
abbrev A.LIFE_W_TREF (i : Nat) : Nat := 0xe0208 + 0x20 * i
abbrev A.LIFE_W_RF (i : Nat) : Nat := 0xe020c + 0x20 * i
abbrev A.LIFE_W_MEAN (i : Nat) : Nat := 0xe0210 + 0x20 * i
abbrev A.LIFE_W_DRIFT (i : Nat) : Nat := 0xe0214 + 0x20 * i
abbrev A.LIFE_W_DAMAGE (i : Nat) : Nat := 0xe0218 + 0x20 * i
abbrev A.LIFE_W_STAT (i : Nat) : Nat := 0xe021c + 0x20 * i
abbrev A.LIFE_RF (i j : Nat) : Nat := 0xe1000 + 0x40 * i + 0x4 * j
abbrev A.LIFE_RFW (i : Nat) : Nat := 0xe1400 + 0x4 * i
abbrev A.FBUS_C_CTRL (i : Nat) : Nat := 0xf0000 + 0x200 * i
abbrev A.FBUS_C_NBT (i : Nat) : Nat := 0xf0004 + 0x200 * i
abbrev A.FBUS_C_DBT (i : Nat) : Nat := 0xf0008 + 0x200 * i
abbrev A.FBUS_C_TDC (i : Nat) : Nat := 0xf000c + 0x200 * i
abbrev A.FBUS_C_STAT (i : Nat) : Nat := 0xf0010 + 0x200 * i
abbrev A.FBUS_C_CNT (i : Nat) : Nat := 0xf0014 + 0x200 * i
abbrev A.FBUS_C_DUP (i : Nat) : Nat := 0xf0018 + 0x200 * i
abbrev A.FBUS_C_SCHED (i : Nat) : Nat := 0xf001c + 0x200 * i
abbrev A.FBUS_C_SLOTA (i j : Nat) : Nat := 0xf0040 + 0x200 * i + 0x8 * j
abbrev A.FBUS_C_SLOTB (i j : Nat) : Nat := 0xf0044 + 0x200 * i + 0x8 * j
abbrev A.FBUS_M_CFG (i : Nat) : Nat := 0xf2000 + 0x80 * i
abbrev A.FBUS_M_ID (i : Nat) : Nat := 0xf2004 + 0x80 * i
abbrev A.FBUS_M_MASK (i : Nat) : Nat := 0xf2008 + 0x80 * i
abbrev A.FBUS_M_FRAME (i : Nat) : Nat := 0xf200c + 0x80 * i
abbrev A.FBUS_M_STAT (i : Nat) : Nat := 0xf2010 + 0x80 * i
abbrev A.FBUS_M_STAMP_LO (i : Nat) : Nat := 0xf2014 + 0x80 * i
abbrev A.FBUS_M_STAMP_HI (i : Nat) : Nat := 0xf2018 + 0x80 * i
abbrev A.FBUS_M_DATA (i j : Nat) : Nat := 0xf2020 + 0x80 * i + 0x4 * j

abbrev F.SYS_ID_PART : Fld := ⟨0x0, 31, 16⟩
abbrev F.SYS_ID_STEPPING : Fld := ⟨0x0, 15, 12⟩
abbrev F.SYS_ID_ROLE : Fld := ⟨0x0, 11, 10⟩
abbrev F.SYS_ID_SENIOR : Fld := ⟨0x0, 9, 9⟩
abbrev F.SYS_ID_BOOTSRC : Fld := ⟨0x0, 8, 8⟩
abbrev F.SYS_STATE_IMG_ERR : Fld := ⟨0x4, 27, 24⟩
abbrev F.SYS_STATE_BOOT : Fld := ⟨0x4, 21, 20⟩
abbrev F.SYS_STATE_BLK_HOLD : Fld := ⟨0x4, 18, 18⟩
abbrev F.SYS_STATE_CREDIT : Fld := ⟨0x4, 17, 17⟩
abbrev F.SYS_STATE_IMG_OK : Fld := ⟨0x4, 16, 16⟩
abbrev F.SYS_STATE_PREV : Fld := ⟨0x4, 7, 4⟩
abbrev F.SYS_STATE_STATE : Fld := ⟨0x4, 3, 0⟩
abbrev F.SYS_CREDIT_GRANTS : Fld := ⟨0x8, 31, 24⟩
abbrev F.SYS_CREDIT_PENDING : Fld := ⟨0x8, 20, 16⟩
abbrev F.SYS_CREDIT_CREDIT_WIN : Fld := ⟨0x8, 15, 8⟩
abbrev F.SYS_CREDIT_CREDIT_N : Fld := ⟨0x8, 4, 0⟩
abbrev F.SYS_PANEL_SVC_LANE : Fld := ⟨0xc, 28, 24⟩
abbrev F.SYS_PANEL_IDENT : Fld := ⟨0xc, 23, 16⟩
abbrev F.SYS_PANEL_MKEY : Fld := ⟨0xc, 3, 3⟩
abbrev F.SYS_PANEL_EJECT : Fld := ⟨0xc, 2, 2⟩
abbrev F.SYS_LED_TEST : Fld := ⟨0x10, 31, 31⟩
abbrev F.SYS_LED_PATTERN : Fld := ⟨0x10, 15, 0⟩
abbrev F.SYS_SUPPLY_EVENTS : Fld := ⟨0x14, 15, 8⟩
abbrev F.SYS_SUPPLY_OUT : Fld := ⟨0x14, 4, 0⟩
abbrev F.SYS_IMG_IMG_REV : Fld := ⟨0x18, 31, 0⟩
abbrev F.SYS_LOAD_MISSING : Fld := ⟨0x1c, 31, 16⟩
abbrev F.SYS_LOAD_TOTAL : Fld := ⟨0x1c, 15, 0⟩
abbrev F.TICK_CFG_PPS_MODE : Fld := ⟨0x10000, 17, 16⟩
abbrev F.TICK_CFG_TICK_PERIOD : Fld := ⟨0x10000, 14, 0⟩
abbrev F.TICK_STATUS_PPS_VALID : Fld := ⟨0x10004, 9, 9⟩
abbrev F.TICK_STATUS_ALIGNED : Fld := ⟨0x10004, 8, 8⟩
abbrev F.TICK_STATUS_SOURCE : Fld := ⟨0x10004, 5, 4⟩
abbrev F.TICK_STATUS_LOCK : Fld := ⟨0x10004, 2, 0⟩
abbrev F.TICK_TIME_LO_TIME : Fld := ⟨0x10008, 31, 0⟩
abbrev F.TICK_TIME_HI_TIME : Fld := ⟨0x1000c, 31, 0⟩
abbrev F.TICK_OFFSET_OFFSET : Fld := ⟨0x10014, 31, 0⟩
abbrev F.TICK_DELAY_A_DELAY : Fld := ⟨0x10018, 31, 0⟩
abbrev F.TICK_DELAY_B_DELAY : Fld := ⟨0x1001c, 31, 0⟩
abbrev F.TICK_ASYM_A_ASYM : Fld := ⟨0x10020, 15, 0⟩
abbrev F.TICK_ASYM_B_ASYM : Fld := ⟨0x10024, 15, 0⟩
abbrev F.TICK_PH_SAMPLE_PHASE : Fld := ⟨0x10040, 14, 0⟩
abbrev F.TICK_PH_UP_PHASE : Fld := ⟨0x10044, 14, 0⟩
abbrev F.TICK_PH_TALLY_PHASE : Fld := ⟨0x10048, 14, 0⟩
abbrev F.TICK_PH_LOOP_END_PHASE : Fld := ⟨0x1004c, 14, 0⟩
abbrev F.TICK_PH_DOWN_PHASE : Fld := ⟨0x10050, 14, 0⟩
abbrev F.TICK_PH_APPLY_PHASE : Fld := ⟨0x10054, 14, 0⟩
abbrev F.TICK_HOLD_HOLD_CNT : Fld := ⟨0x10060, 22, 16⟩
abbrev F.TICK_HOLD_HOLD_LIMIT : Fld := ⟨0x10060, 6, 0⟩
abbrev F.TICK_LATE_EXCLUDED : Fld := ⟨0x10064, 31, 16⟩
abbrev F.TICK_LATE_STALE : Fld := ⟨0x10064, 15, 0⟩
abbrev F.TICK_PPS_PPS_OUT_EN : Fld := ⟨0x10070, 16, 16⟩
abbrev F.TICK_PPS_PPS_WIDTH : Fld := ⟨0x10070, 8, 0⟩
abbrev F.LANE_CFG_AN_EN (i : Nat) : Fld := ⟨0x20000 + 0x400 * i, 12, 12⟩
abbrev F.LANE_CFG_RATES (i : Nat) : Fld := ⟨0x20000 + 0x400 * i, 11, 8⟩
abbrev F.LANE_CFG_RATE (i : Nat) : Fld := ⟨0x20000 + 0x400 * i, 5, 4⟩
abbrev F.LANE_CFG_MODE (i : Nat) : Fld := ⟨0x20000 + 0x400 * i, 1, 0⟩
abbrev F.LANE_STATUS_LOSSES (i : Nat) : Fld := ⟨0x20004 + 0x400 * i, 31, 24⟩
abbrev F.LANE_STATUS_FAR_STATE (i : Nat) : Fld := ⟨0x20004 + 0x400 * i, 23, 20⟩
abbrev F.LANE_STATUS_FAR_KIND (i : Nat) : Fld := ⟨0x20004 + 0x400 * i, 19, 18⟩
abbrev F.LANE_STATUS_FAR_SENIOR (i : Nat) : Fld := ⟨0x20004 + 0x400 * i, 17, 17⟩
abbrev F.LANE_STATUS_FAR_ROLE (i : Nat) : Fld := ⟨0x20004 + 0x400 * i, 16, 15⟩
abbrev F.LANE_STATUS_MISWIRE (i : Nat) : Fld := ⟨0x20004 + 0x400 * i, 10, 10⟩
abbrev F.LANE_STATUS_AN_DONE (i : Nat) : Fld := ⟨0x20004 + 0x400 * i, 9, 9⟩
abbrev F.LANE_STATUS_DEGRADED (i : Nat) : Fld := ⟨0x20004 + 0x400 * i, 8, 8⟩
abbrev F.LANE_STATUS_ALIGNED (i : Nat) : Fld := ⟨0x20004 + 0x400 * i, 7, 7⟩
abbrev F.LANE_STATUS_SIGNAL (i : Nat) : Fld := ⟨0x20004 + 0x400 * i, 6, 6⟩
abbrev F.LANE_STATUS_RATE_NOW (i : Nat) : Fld := ⟨0x20004 + 0x400 * i, 5, 4⟩
abbrev F.LANE_STATUS_STATE (i : Nat) : Fld := ⟨0x20004 + 0x400 * i, 3, 0⟩
abbrev F.LANE_ERR_FCRC (i : Nat) : Fld := ⟨0x20008 + 0x400 * i, 31, 16⟩
abbrev F.LANE_ERR_CV (i : Nat) : Fld := ⟨0x20008 + 0x400 * i, 15, 0⟩
abbrev F.LANE_SEG_DROP (i : Nat) : Fld := ⟨0x2000c + 0x400 * i, 31, 16⟩
abbrev F.LANE_SEG_SCRC (i : Nat) : Fld := ⟨0x2000c + 0x400 * i, 15, 0⟩
abbrev F.LANE_LOAD_RX (i : Nat) : Fld := ⟨0x20010 + 0x400 * i, 25, 16⟩
abbrev F.LANE_LOAD_TX (i : Nat) : Fld := ⟨0x20010 + 0x400 * i, 9, 0⟩
abbrev F.LANE_PRBS_LOCK_LOSS (i : Nat) : Fld := ⟨0x20020 + 0x400 * i, 31, 16⟩
abbrev F.LANE_PRBS_LOCKED (i : Nat) : Fld := ⟨0x20020 + 0x400 * i, 6, 6⟩
abbrev F.LANE_PRBS_RUN (i : Nat) : Fld := ⟨0x20020 + 0x400 * i, 5, 5⟩
abbrev F.LANE_PRBS_TMODE (i : Nat) : Fld := ⟨0x20020 + 0x400 * i, 4, 3⟩
abbrev F.LANE_PRBS_PATTERN (i : Nat) : Fld := ⟨0x20020 + 0x400 * i, 1, 0⟩
abbrev F.LANE_PRBS_ERR_COUNT (i : Nat) : Fld := ⟨0x20024 + 0x400 * i, 31, 0⟩
abbrev F.LANE_PRBS_TIME_COUNT (i : Nat) : Fld := ⟨0x20028 + 0x400 * i, 31, 0⟩
abbrev F.LANE_MOD_RX_LOW (i : Nat) : Fld := ⟨0x20030 + 0x400 * i, 19, 19⟩
abbrev F.LANE_MOD_NO_ANSWER (i : Nat) : Fld := ⟨0x20030 + 0x400 * i, 18, 18⟩
abbrev F.LANE_MOD_EXT_CAL (i : Nat) : Fld := ⟨0x20030 + 0x400 * i, 17, 17⟩
abbrev F.LANE_MOD_ID_OK (i : Nat) : Fld := ⟨0x20030 + 0x400 * i, 16, 16⟩
abbrev F.LANE_MOD_POLL_EN (i : Nat) : Fld := ⟨0x20030 + 0x400 * i, 13, 13⟩
abbrev F.LANE_MOD_BUS (i : Nat) : Fld := ⟨0x20030 + 0x400 * i, 12, 12⟩
abbrev F.LANE_MOD_MUX_CH (i : Nat) : Fld := ⟨0x20030 + 0x400 * i, 10, 8⟩
abbrev F.LANE_MOD_MUX_ADDR (i : Nat) : Fld := ⟨0x20030 + 0x400 * i, 6, 0⟩
abbrev F.LANE_DDM0_TEMP (i : Nat) : Fld := ⟨0x20034 + 0x400 * i, 31, 16⟩
abbrev F.LANE_DDM0_RX_POWER (i : Nat) : Fld := ⟨0x20034 + 0x400 * i, 15, 0⟩
abbrev F.LANE_DDM1_TX_POWER (i : Nat) : Fld := ⟨0x20038 + 0x400 * i, 31, 16⟩
abbrev F.LANE_DDM1_VCC (i : Nat) : Fld := ⟨0x20038 + 0x400 * i, 15, 0⟩
abbrev F.LANE_EQ_POL (i : Nat) : Fld := ⟨0x20040 + 0x400 * i, 17, 16⟩
abbrev F.LANE_EQ_RX_CTLE (i : Nat) : Fld := ⟨0x20040 + 0x400 * i, 15, 12⟩
abbrev F.LANE_EQ_TX_SWING (i : Nat) : Fld := ⟨0x20040 + 0x400 * i, 11, 8⟩
abbrev F.LANE_EQ_TX_POST (i : Nat) : Fld := ⟨0x20040 + 0x400 * i, 7, 4⟩
abbrev F.LANE_EQ_TX_PRE (i : Nat) : Fld := ⟨0x20040 + 0x400 * i, 2, 0⟩
abbrev F.LANE_COMMON_I2C1_FAST : Fld := ⟨0x28000, 1, 1⟩
abbrev F.LANE_COMMON_I2C0_FAST : Fld := ⟨0x28000, 0, 0⟩
abbrev F.LANE_HOST_MAC_LO_MAC : Fld := ⟨0x28010, 31, 0⟩
abbrev F.LANE_HOST_MAC_HI_MAC : Fld := ⟨0x28014, 15, 0⟩
abbrev F.CMD_TMO_TMO_BE : Fld := ⟨0x30000, 31, 16⟩
abbrev F.CMD_TMO_CMD_RETRY : Fld := ⟨0x30000, 15, 8⟩
abbrev F.CMD_TMO_TMO_C0 : Fld := ⟨0x30000, 7, 0⟩
abbrev F.CMD_AUTH_REQ : Fld := ⟨0x30004, 31, 16⟩
abbrev F.CMD_AUTH_IDLE : Fld := ⟨0x30004, 15, 0⟩
abbrev F.CMD_STAT_AUTH_DENIED : Fld := ⟨0x30008, 31, 24⟩
abbrev F.CMD_STAT_TIMEOUTS : Fld := ⟨0x30008, 23, 16⟩
abbrev F.CMD_STAT_BUSY_SENT : Fld := ⟨0x30008, 15, 8⟩
abbrev F.CMD_STAT_LATE_REPLY : Fld := ⟨0x30008, 7, 0⟩
abbrev F.CMD_QSPI_QSPI_DROP : Fld := ⟨0x3000c, 31, 16⟩
abbrev F.CMD_QSPI_RPL_READY : Fld := ⟨0x3000c, 3, 3⟩
abbrev F.CMD_QSPI_MBX_FULL : Fld := ⟨0x3000c, 2, 2⟩
abbrev F.CMD_QSPI_WR_EN : Fld := ⟨0x3000c, 1, 1⟩
abbrev F.CMD_QSPI_RD_EN : Fld := ⟨0x3000c, 0, 0⟩
abbrev F.CMD_LOAD_C0_QUEUE : Fld := ⟨0x30010, 28, 24⟩
abbrev F.CMD_LOAD_Q3 : Fld := ⟨0x30010, 21, 16⟩
abbrev F.CMD_LOAD_Q2 : Fld := ⟨0x30010, 13, 8⟩
abbrev F.CMD_LOAD_TRACKED : Fld := ⟨0x30010, 6, 0⟩
abbrev F.CMD_KEY_SESSIONS : Fld := ⟨0x30014, 11, 8⟩
abbrev F.CMD_KEY_KEY_VALID : Fld := ⟨0x30014, 3, 0⟩
abbrev F.CMD_ALLOC_REQ_TYPE (i : Nat) : Fld := ⟨0x30028 + 0x8 * i, 5, 0⟩
abbrev F.CMD_ALLOC_RES_HANDLE (i : Nat) : Fld := ⟨0x3002c + 0x8 * i, 31, 0⟩
abbrev F.CMD_NODE_KIND : Fld := ⟨0x30100, 25, 24⟩
abbrev F.CMD_NODE_ASSIGNED : Fld := ⟨0x30100, 23, 23⟩
abbrev F.CMD_NODE_MEMBER : Fld := ⟨0x30100, 22, 22⟩
abbrev F.CMD_NODE_TWIN : Fld := ⟨0x30100, 21, 21⟩
abbrev F.CMD_NODE_STRING_VALID : Fld := ⟨0x30100, 20, 20⟩
abbrev F.CMD_NODE_STRING : Fld := ⟨0x30100, 19, 16⟩
abbrev F.CMD_NODE_LEVEL : Fld := ⟨0x30100, 15, 13⟩
abbrev F.CMD_NODE_ADDR : Fld := ⟨0x30100, 12, 0⟩
abbrev F.CMD_CAP_ABSENT : Fld := ⟨0x30104, 28, 24⟩
abbrev F.CMD_CAP_UNITS : Fld := ⟨0x30104, 20, 16⟩
abbrev F.CMD_CAP_CELLS : Fld := ⟨0x30104, 15, 0⟩
abbrev F.CMD_DL_FAR_ADDR (i : Nat) : Fld := ⟨0x30140 + 0x4 * i, 28, 16⟩
abbrev F.CMD_DL_NAK (i : Nat) : Fld := ⟨0x30140 + 0x4 * i, 9, 9⟩
abbrev F.CMD_DL_PRESENT (i : Nat) : Fld := ⟨0x30140 + 0x4 * i, 8, 8⟩
abbrev F.CMD_DL_PARTNER (i : Nat) : Fld := ⟨0x30140 + 0x4 * i, 7, 3⟩
abbrev F.CMD_DL_USE (i : Nat) : Fld := ⟨0x30140 + 0x4 * i, 2, 0⟩
abbrev F.CMD_RANGE_HI (i : Nat) : Fld := ⟨0x301c0 + 0x4 * i, 28, 16⟩
abbrev F.CMD_RANGE_LO (i : Nat) : Fld := ⟨0x301c0 + 0x4 * i, 12, 0⟩
abbrev F.DISP_STAT_READY : Fld := ⟨0x40000, 31, 24⟩
abbrev F.DISP_STAT_FLOW_RSVD : Fld := ⟨0x40000, 22, 11⟩
abbrev F.DISP_STAT_STORE_RSVD : Fld := ⟨0x40000, 10, 0⟩
abbrev F.DISP_CNT_CANCELLED_READY : Fld := ⟨0x40004, 31, 16⟩
abbrev F.DISP_CNT_DROP : Fld := ⟨0x40004, 15, 8⟩
abbrev F.DISP_CNT_TICK_MISS : Fld := ⟨0x40004, 7, 0⟩
abbrev F.DISP_DBG_SAFE_HALTED : Fld := ⟨0x40008, 8, 8⟩
abbrev F.DISP_DBG_HALTED : Fld := ⟨0x40008, 7, 4⟩
abbrev F.DISP_DBG_EN : Fld := ⟨0x40008, 0, 0⟩
abbrev F.DISP_CORE_THREAD (i : Nat) : Fld := ⟨0x40010 + 0x4 * i, 22, 16⟩
abbrev F.DISP_CORE_EPRIO (i : Nat) : Fld := ⟨0x40010 + 0x4 * i, 12, 8⟩
abbrev F.DISP_CORE_STATE (i : Nat) : Fld := ⟨0x40010 + 0x4 * i, 1, 0⟩
abbrev F.DISP_T_CFG_LIVE (i : Nat) : Fld := ⟨0x41000 + 0x10 * i, 31, 31⟩
abbrev F.DISP_T_CFG_STATE (i : Nat) : Fld := ⟨0x41000 + 0x10 * i, 30, 28⟩
abbrev F.DISP_T_CFG_AFFINITY (i : Nat) : Fld := ⟨0x41000 + 0x10 * i, 27, 24⟩
abbrev F.DISP_T_CFG_MASK (i : Nat) : Fld := ⟨0x41000 + 0x10 * i, 23, 20⟩
abbrev F.DISP_T_CFG_MODE (i : Nat) : Fld := ⟨0x41000 + 0x10 * i, 19, 19⟩
abbrev F.DISP_T_CFG_PRIO (i : Nat) : Fld := ⟨0x41000 + 0x10 * i, 16, 12⟩
abbrev F.DISP_T_CFG_EPRIO (i : Nat) : Fld := ⟨0x41000 + 0x10 * i, 9, 5⟩
abbrev F.DISP_T_PORTS_PORT3 (i : Nat) : Fld := ⟨0x41004 + 0x10 * i, 31, 24⟩
abbrev F.DISP_T_PORTS_PORT2 (i : Nat) : Fld := ⟨0x41004 + 0x10 * i, 23, 16⟩
abbrev F.DISP_T_PORTS_PORT1 (i : Nat) : Fld := ⟨0x41004 + 0x10 * i, 15, 8⟩
abbrev F.DISP_T_PORTS_PORT0 (i : Nat) : Fld := ⟨0x41004 + 0x10 * i, 7, 0⟩
abbrev F.DISP_T_STAT_RUN_LIMIT (i : Nat) : Fld := ⟨0x41008 + 0x10 * i, 31, 24⟩
abbrev F.DISP_T_STAT_CAUSE (i : Nat) : Fld := ⟨0x41008 + 0x10 * i, 23, 16⟩
abbrev F.DISP_T_STAT_ACTIVATIONS (i : Nat) : Fld := ⟨0x41008 + 0x10 * i, 15, 0⟩
abbrev F.DISP_T_TRAP_TRAP_PC (i : Nat) : Fld := ⟨0x4100c + 0x10 * i, 31, 0⟩
abbrev F.DISP_F_CFG_LIVE (i : Nat) : Fld := ⟨0x41800 + 0x8 * i, 31, 31⟩
abbrev F.DISP_F_CFG_ATTACHED (i : Nat) : Fld := ⟨0x41800 + 0x8 * i, 30, 30⟩
abbrev F.DISP_F_CFG_DEPTH_M1 (i : Nat) : Fld := ⟨0x41800 + 0x8 * i, 23, 16⟩
abbrev F.DISP_F_CFG_THREAD (i : Nat) : Fld := ⟨0x41800 + 0x8 * i, 14, 8⟩
abbrev F.DISP_F_CFG_PORT (i : Nat) : Fld := ⟨0x41800 + 0x8 * i, 1, 0⟩
abbrev F.DISP_F_STAT_DROP (i : Nat) : Fld := ⟨0x41804 + 0x8 * i, 31, 16⟩
abbrev F.DISP_F_STAT_COUNT (i : Nat) : Fld := ⟨0x41804 + 0x8 * i, 8, 0⟩
abbrev F.DISP_L_LIVE (i : Nat) : Fld := ⟨0x41c00 + 0x4 * i, 31, 31⟩
abbrev F.DISP_L_HELD (i : Nat) : Fld := ⟨0x41c00 + 0x4 * i, 30, 30⟩
abbrev F.DISP_L_WAITERS (i : Nat) : Fld := ⟨0x41c00 + 0x4 * i, 23, 16⟩
abbrev F.DISP_L_HOLDER (i : Nat) : Fld := ⟨0x41c00 + 0x4 * i, 14, 8⟩
abbrev F.DISP_L_CEILING (i : Nat) : Fld := ⟨0x41c00 + 0x4 * i, 4, 0⟩
abbrev F.YAR_CFG_BONUS : Fld := ⟨0x50000, 11, 8⟩
abbrev F.YAR_CFG_KEY_MODE : Fld := ⟨0x50000, 4, 4⟩
abbrev F.YAR_CFG_KSCALE : Fld := ⟨0x50000, 1, 0⟩
abbrev F.YAR_VNOM_VGAIN : Fld := ⟨0x50004, 31, 16⟩
abbrev F.YAR_VNOM_VNOM : Fld := ⟨0x50004, 14, 0⟩
abbrev F.YAR_STAG_OFFSET : Fld := ⟨0x50008, 31, 20⟩
abbrev F.YAR_STAG_SLOTS : Fld := ⟨0x50008, 18, 12⟩
abbrev F.YAR_STAG_STEP : Fld := ⟨0x50008, 7, 0⟩
abbrev F.YAR_CELL_EXCL (i : Nat) : Fld := ⟨0x50010 + 0x4 * i, 31, 31⟩
abbrev F.YAR_CELL_BYPASSED (i : Nat) : Fld := ⟨0x50010 + 0x4 * i, 30, 30⟩
abbrev F.YAR_CELL_FAILED (i : Nat) : Fld := ⟨0x50010 + 0x4 * i, 29, 29⟩
abbrev F.YAR_CELL_RETIRED (i : Nat) : Fld := ⟨0x50010 + 0x4 * i, 28, 28⟩
abbrev F.YAR_CELL_NO_MEAS (i : Nat) : Fld := ⟨0x50010 + 0x4 * i, 27, 27⟩
abbrev F.YAR_CELL_AVAIL (i : Nat) : Fld := ⟨0x50010 + 0x4 * i, 26, 26⟩
abbrev F.YAR_CELL_INSERTED (i : Nat) : Fld := ⟨0x50010 + 0x4 * i, 25, 25⟩
abbrev F.YAR_CELL_NEG (i : Nat) : Fld := ⟨0x50010 + 0x4 * i, 24, 24⟩
abbrev F.YAR_CELL_KEY (i : Nat) : Fld := ⟨0x50010 + 0x4 * i, 23, 16⟩
abbrev F.YAR_CELL_TRIM (i : Nat) : Fld := ⟨0x50010 + 0x4 * i, 15, 15⟩
abbrev F.YAR_CELL_SEQ (i : Nat) : Fld := ⟨0x50010 + 0x4 * i, 14, 13⟩
abbrev F.YAR_CELL_ENTRY (i : Nat) : Fld := ⟨0x50010 + 0x4 * i, 12, 8⟩
abbrev F.YAR_CELL_KEY_RAW (i : Nat) : Fld := ⟨0x50010 + 0x4 * i, 7, 0⟩
abbrev F.YAR_CRATIO_CRATIO (i : Nat) : Fld := ⟨0x50018 + 0x4 * i, 15, 0⟩
abbrev F.YAR_DEC0_SHARE : Fld := ⟨0x50020, 23, 12⟩
abbrev F.YAR_DEC0_HELD : Fld := ⟨0x50020, 7, 7⟩
abbrev F.YAR_DEC0_TOKEN : Fld := ⟨0x50020, 6, 6⟩
abbrev F.YAR_DEC0_DIR : Fld := ⟨0x50020, 5, 5⟩
abbrev F.YAR_DEC0_THRESH : Fld := ⟨0x50020, 4, 0⟩
abbrev F.YAR_DEC1_FRAC : Fld := ⟨0x50024, 31, 20⟩
abbrev F.YAR_DEC1_TRIM_PCLK : Fld := ⟨0x50024, 15, 0⟩
abbrev F.YAR_FCNT_SHORT : Fld := ⟨0x50028, 31, 16⟩
abbrev F.YAR_FCNT_KEY_OVR : Fld := ⟨0x50028, 15, 0⟩
abbrev F.YAR_UTALLY_UNAVAIL : Fld := ⟨0x50040, 31, 16⟩
abbrev F.YAR_UTALLY_AVAIL : Fld := ⟨0x50040, 15, 0⟩
abbrev F.YAR_USTAT_SHORTFALL : Fld := ⟨0x50044, 31, 16⟩
abbrev F.YAR_USTAT_TOK_LOST : Fld := ⟨0x50044, 15, 8⟩
abbrev F.YAR_USTAT_PTR : Fld := ⟨0x50044, 4, 0⟩
abbrev F.YAR_USTALE_STALE : Fld := ⟨0x50048, 15, 0⟩
abbrev F.YAR_S_CFG_SRC (i : Nat) : Fld := ⟨0x50100 + 0x20 * i, 2, 2⟩
abbrev F.YAR_S_CFG_FB (i : Nat) : Fld := ⟨0x50100 + 0x20 * i, 1, 1⟩
abbrev F.YAR_S_CFG_EN (i : Nat) : Fld := ⟨0x50100 + 0x20 * i, 0, 0⟩
abbrev F.YAR_S_DEM_DEM (i : Nat) : Fld := ⟨0x50104 + 0x20 * i, 25, 0⟩
abbrev F.YAR_S_IARM_IARM (i : Nat) : Fld := ⟨0x50108 + 0x20 * i, 23, 0⟩
abbrev F.YAR_S_TALLY_UNAVAIL (i : Nat) : Fld := ⟨0x5010c + 0x20 * i, 31, 16⟩
abbrev F.YAR_S_TALLY_AVAIL (i : Nat) : Fld := ⟨0x5010c + 0x20 * i, 15, 0⟩
abbrev F.YAR_S_STALE_STALE (i : Nat) : Fld := ⟨0x50110 + 0x20 * i, 15, 0⟩
abbrev F.YAR_S_ALLOC_INSERTED (i : Nat) : Fld := ⟨0x50114 + 0x20 * i, 31, 20⟩
abbrev F.YAR_S_ALLOC_SHARE (i : Nat) : Fld := ⟨0x50114 + 0x20 * i, 19, 8⟩
abbrev F.YAR_S_ALLOC_NEG (i : Nat) : Fld := ⟨0x50114 + 0x20 * i, 7, 7⟩
abbrev F.YAR_S_ALLOC_TOKEN (i : Nat) : Fld := ⟨0x50114 + 0x20 * i, 6, 6⟩
abbrev F.YAR_S_ALLOC_DIR (i : Nat) : Fld := ⟨0x50114 + 0x20 * i, 5, 5⟩
abbrev F.YAR_S_ALLOC_THRESH (i : Nat) : Fld := ⟨0x50114 + 0x20 * i, 4, 0⟩
abbrev F.YAR_S_SAT_SAT_TICKS (i : Nat) : Fld := ⟨0x50118 + 0x20 * i, 31, 16⟩
abbrev F.YAR_S_SAT_SAT (i : Nat) : Fld := ⟨0x50118 + 0x20 * i, 0, 0⟩
abbrev F.YAR_S_PTR_PTR (i : Nat) : Fld := ⟨0x5011c + 0x20 * i, 4, 0⟩
abbrev F.SWU_CTRL_CHAN : Fld := ⟨0x60000, 15, 12⟩
abbrev F.SWU_CTRL_YPAIRS : Fld := ⟨0x60000, 11, 8⟩
abbrev F.SWU_CTRL_BYP_LEG : Fld := ⟨0x60000, 2, 1⟩
abbrev F.SWU_CTRL_DBG_SAFE : Fld := ⟨0x60000, 0, 0⟩
abbrev F.SWU_SAFE_SAFE : Fld := ⟨0x60004, 7, 0⟩
abbrev F.SWU_FIN_CFG0_EN3 : Fld := ⟨0x60008, 29, 29⟩
abbrev F.SWU_FIN_CFG0_POL3 : Fld := ⟨0x60008, 28, 28⟩
abbrev F.SWU_FIN_CFG0_PAIRS3 : Fld := ⟨0x60008, 27, 24⟩
abbrev F.SWU_FIN_CFG0_EN2 : Fld := ⟨0x60008, 21, 21⟩
abbrev F.SWU_FIN_CFG0_POL2 : Fld := ⟨0x60008, 20, 20⟩
abbrev F.SWU_FIN_CFG0_PAIRS2 : Fld := ⟨0x60008, 19, 16⟩
abbrev F.SWU_FIN_CFG0_EN1 : Fld := ⟨0x60008, 13, 13⟩
abbrev F.SWU_FIN_CFG0_POL1 : Fld := ⟨0x60008, 12, 12⟩
abbrev F.SWU_FIN_CFG0_PAIRS1 : Fld := ⟨0x60008, 11, 8⟩
abbrev F.SWU_FIN_CFG0_EN0 : Fld := ⟨0x60008, 5, 5⟩
abbrev F.SWU_FIN_CFG0_POL0 : Fld := ⟨0x60008, 4, 4⟩
abbrev F.SWU_FIN_CFG0_PAIRS0 : Fld := ⟨0x60008, 3, 0⟩
abbrev F.SWU_FIN_CFG1_EN7 : Fld := ⟨0x6000c, 29, 29⟩
abbrev F.SWU_FIN_CFG1_POL7 : Fld := ⟨0x6000c, 28, 28⟩
abbrev F.SWU_FIN_CFG1_PAIRS7 : Fld := ⟨0x6000c, 27, 24⟩
abbrev F.SWU_FIN_CFG1_EN6 : Fld := ⟨0x6000c, 21, 21⟩
abbrev F.SWU_FIN_CFG1_POL6 : Fld := ⟨0x6000c, 20, 20⟩
abbrev F.SWU_FIN_CFG1_PAIRS6 : Fld := ⟨0x6000c, 19, 16⟩
abbrev F.SWU_FIN_CFG1_EN5 : Fld := ⟨0x6000c, 13, 13⟩
abbrev F.SWU_FIN_CFG1_POL5 : Fld := ⟨0x6000c, 12, 12⟩
abbrev F.SWU_FIN_CFG1_PAIRS5 : Fld := ⟨0x6000c, 11, 8⟩
abbrev F.SWU_FIN_CFG1_EN4 : Fld := ⟨0x6000c, 5, 5⟩
abbrev F.SWU_FIN_CFG1_POL4 : Fld := ⟨0x6000c, 4, 4⟩
abbrev F.SWU_FIN_CFG1_PAIRS4 : Fld := ⟨0x6000c, 3, 0⟩
abbrev F.SWU_FLT_FORCED : Fld := ⟨0x60010, 26, 23⟩
abbrev F.SWU_FLT_DBG_FORCE : Fld := ⟨0x60010, 22, 22⟩
abbrev F.SWU_FLT_BLOCK_REQ : Fld := ⟨0x60010, 21, 21⟩
abbrev F.SWU_FLT_CLK_LOST : Fld := ⟨0x60010, 20, 20⟩
abbrev F.SWU_FLT_SWF_LATCH : Fld := ⟨0x60010, 19, 16⟩
abbrev F.SWU_FLT_RB_LATCH : Fld := ⟨0x60010, 15, 12⟩
abbrev F.SWU_FLT_FIN_LATCH : Fld := ⟨0x60010, 7, 0⟩
abbrev F.SWU_LEVELS_FAULTIN : Fld := ⟨0x60014, 23, 16⟩
abbrev F.SWU_LEVELS_GOFB : Fld := ⟨0x60014, 15, 8⟩
abbrev F.SWU_LEVELS_GO : Fld := ⟨0x60014, 7, 0⟩
abbrev F.SWU_COMMIT_COMMIT : Fld := ⟨0x60018, 3, 0⟩
abbrev F.SWU_O_DLY_FDLY (i : Nat) : Fld := ⟨0x60040 + 0x4 * i, 25, 16⟩
abbrev F.SWU_O_DLY_RDLY (i : Nat) : Fld := ⟨0x60040 + 0x4 * i, 9, 0⟩
abbrev F.SWU_P_CFG_FBWIN (i : Nat) : Fld := ⟨0x60100 + 0x20 * i, 25, 16⟩
abbrev F.SWU_P_CFG_HIDX (i : Nat) : Fld := ⟨0x60100 + 0x20 * i, 13, 12⟩
abbrev F.SWU_P_CFG_FB_INV (i : Nat) : Fld := ⟨0x60100 + 0x20 * i, 9, 9⟩
abbrev F.SWU_P_CFG_FB_EN (i : Nat) : Fld := ⟨0x60100 + 0x20 * i, 8, 8⟩
abbrev F.SWU_P_CFG_RUN (i : Nat) : Fld := ⟨0x60100 + 0x20 * i, 5, 5⟩
abbrev F.SWU_P_CFG_UPD (i : Nat) : Fld := ⟨0x60100 + 0x20 * i, 4, 3⟩
abbrev F.SWU_P_CFG_CMODE (i : Nat) : Fld := ⟨0x60100 + 0x20 * i, 2, 2⟩
abbrev F.SWU_P_CFG_MODE (i : Nat) : Fld := ⟨0x60100 + 0x20 * i, 1, 0⟩
abbrev F.SWU_P_DT_MINPW (i : Nat) : Fld := ⟨0x60104 + 0x20 * i, 27, 16⟩
abbrev F.SWU_P_DT_DT (i : Nat) : Fld := ⟨0x60104 + 0x20 * i, 11, 0⟩
abbrev F.SWU_P_PERIOD_VALUE (i : Nat) : Fld := ⟨0x60108 + 0x20 * i, 23, 0⟩
abbrev F.SWU_P_DUTY_VALUE (i : Nat) : Fld := ⟨0x6010c + 0x20 * i, 23, 0⟩
abbrev F.SWU_P_ACTP_VALUE (i : Nat) : Fld := ⟨0x60110 + 0x20 * i, 23, 0⟩
abbrev F.SWU_P_ACTD_VALUE (i : Nat) : Fld := ⟨0x60114 + 0x20 * i, 23, 0⟩
abbrev F.SWU_P_STAT_SUPPRESS_CNT (i : Nat) : Fld := ⟨0x60118 + 0x20 * i, 31, 16⟩
abbrev F.SWU_P_STAT_OVERLAP_CNT (i : Nat) : Fld := ⟨0x60118 + 0x20 * i, 15, 8⟩
abbrev F.SWU_P_STAT_BAD_SET (i : Nat) : Fld := ⟨0x60118 + 0x20 * i, 5, 5⟩
abbrev F.SWU_P_STAT_HALF_CNT (i : Nat) : Fld := ⟨0x60118 + 0x20 * i, 4, 3⟩
abbrev F.SWU_P_STAT_HALF_UPD (i : Nat) : Fld := ⟨0x60118 + 0x20 * i, 2, 2⟩
abbrev F.SWU_P_STAT_DW (i : Nat) : Fld := ⟨0x60118 + 0x20 * i, 1, 1⟩
abbrev F.SWU_P_STAT_PW (i : Nat) : Fld := ⟨0x60118 + 0x20 * i, 0, 0⟩
abbrev F.SWU_P_CARRY_CARRY_LOST (i : Nat) : Fld := ⟨0x6011c + 0x20 * i, 31, 28⟩
abbrev F.SWU_P_CARRY_ACC (i : Nat) : Fld := ⟨0x6011c + 0x20 * i, 24, 0⟩
abbrev F.LOOP_CTRL_ENG_EN : Fld := ⟨0x70000, 0, 0⟩
abbrev F.LOOP_STAT_PEAK_CLK : Fld := ⟨0x70004, 31, 16⟩
abbrev F.LOOP_STAT_LAST_CLK : Fld := ⟨0x70004, 15, 0⟩
abbrev F.LOOP_CNT_OVERRUN_CNT : Fld := ⟨0x70008, 31, 16⟩
abbrev F.LOOP_CNT_NUMERIC_CNT : Fld := ⟨0x70008, 15, 0⟩
abbrev F.LOOP_USE_LARGEST : Fld := ⟨0x7000c, 26, 16⟩
abbrev F.LOOP_USE_FREE : Fld := ⟨0x7000c, 10, 0⟩
abbrev F.LOOP_WIN_ESTIMATE : Fld := ⟨0x70010, 31, 16⟩
abbrev F.LOOP_WIN_WINDOW : Fld := ⟨0x70010, 15, 0⟩
abbrev F.LOOP_PROG_PROG_CRC : Fld := ⟨0x70014, 31, 0⟩
abbrev F.LOOP_SS_ACTIVE (i : Nat) : Fld := ⟨0x70040 + 0x4 * i, 17, 17⟩
abbrev F.LOOP_SS_EN (i : Nat) : Fld := ⟨0x70040 + 0x4 * i, 16, 16⟩
abbrev F.LOOP_SS_ADDR (i : Nat) : Fld := ⟨0x70040 + 0x4 * i, 11, 0⟩
abbrev F.LOOP_PORT_EN (i : Nat) : Fld := ⟨0x70080 + 0x4 * i, 15, 15⟩
abbrev F.LOOP_PORT_ADDR (i : Nat) : Fld := ⟨0x70080 + 0x4 * i, 11, 0⟩
abbrev F.LOOP_RELAY_SRC_EN (i : Nat) : Fld := ⟨0x70120 + 0x4 * i, 7, 7⟩
abbrev F.LOOP_RELAY_SRC_LANE (i : Nat) : Fld := ⟨0x70120 + 0x4 * i, 4, 0⟩
abbrev F.LOOP_RELAY_SEL_SEL3 (i : Nat) : Fld := ⟨0x70140 + 0x4 * i, 31, 24⟩
abbrev F.LOOP_RELAY_SEL_SEL2 (i : Nat) : Fld := ⟨0x70140 + 0x4 * i, 23, 16⟩
abbrev F.LOOP_RELAY_SEL_SEL1 (i : Nat) : Fld := ⟨0x70140 + 0x4 * i, 15, 8⟩
abbrev F.LOOP_RELAY_SEL_SEL0 (i : Nat) : Fld := ⟨0x70140 + 0x4 * i, 7, 0⟩
abbrev F.LOOP_L_CFG_LIVE (i : Nat) : Fld := ⟨0x70200 + 0x10 * i, 25, 25⟩
abbrev F.LOOP_L_CFG_EN (i : Nat) : Fld := ⟨0x70200 + 0x10 * i, 24, 24⟩
abbrev F.LOOP_L_CFG_NEST (i : Nat) : Fld := ⟨0x70200 + 0x10 * i, 22, 21⟩
abbrev F.LOOP_L_CFG_COUNT (i : Nat) : Fld := ⟨0x70200 + 0x10 * i, 20, 10⟩
abbrev F.LOOP_L_CFG_FIRST (i : Nat) : Fld := ⟨0x70200 + 0x10 * i, 9, 0⟩
abbrev F.LOOP_L_TIM_COST (i : Nat) : Fld := ⟨0x70204 + 0x10 * i, 31, 16⟩
abbrev F.LOOP_L_TIM_PHASE (i : Nat) : Fld := ⟨0x70204 + 0x10 * i, 15, 8⟩
abbrev F.LOOP_L_TIM_RATE_M1 (i : Nat) : Fld := ⟨0x70204 + 0x10 * i, 7, 0⟩
abbrev F.LOOP_L_SCHED_SET (i : Nat) : Fld := ⟨0x70208 + 0x10 * i, 21, 16⟩
abbrev F.LOOP_L_SCHED_REGION (i : Nat) : Fld := ⟨0x70208 + 0x10 * i, 15, 12⟩
abbrev F.LOOP_L_SCHED_VAR (i : Nat) : Fld := ⟨0x70208 + 0x10 * i, 11, 0⟩
abbrev F.LOOP_L_RUNS_RUNS (i : Nat) : Fld := ⟨0x7020c + 0x10 * i, 31, 0⟩
abbrev F.LOOP_COEF_VALUE (i j : Nat) : Fld := ⟨0x74000 + 0x40 * i + 0x4 * j, 31, 0⟩
abbrev F.LOOP_SIG_SNAP_VALUE (i : Nat) : Fld := ⟨0x78000 + 0x4 * i, 31, 0⟩
abbrev F.LOOP_SIG_PARAM_VALUE (i : Nat) : Fld := ⟨0x78400 + 0x4 * i, 31, 0⟩
abbrev F.LOOP_SIG_WORK_VALUE (i : Nat) : Fld := ⟨0x78800 + 0x4 * i, 31, 0⟩
abbrev F.MEAS_CTRL_XCHK_TOL : Fld := ⟨0x80000, 23, 16⟩
abbrev F.MEAS_CTRL_CAL_PERIOD : Fld := ⟨0x80000, 9, 0⟩
abbrev F.MEAS_SLICE_ROTATIONS : Fld := ⟨0x80004, 31, 16⟩
abbrev F.MEAS_SLICE_FAILED : Fld := ⟨0x80004, 14, 10⟩
abbrev F.MEAS_SLICE_ACTIVE : Fld := ⟨0x80004, 9, 5⟩
abbrev F.MEAS_SLICE_NOSPARE : Fld := ⟨0x80004, 4, 4⟩
abbrev F.MEAS_SLICE_SPARE : Fld := ⟨0x80004, 2, 0⟩
abbrev F.MEAS_SCAL_GAIN (i : Nat) : Fld := ⟨0x80010 + 0x4 * i, 31, 16⟩
abbrev F.MEAS_SCAL_OFFSET (i : Nat) : Fld := ⟨0x80010 + 0x4 * i, 15, 0⟩
abbrev F.MEAS_CNT_OVR_CNT : Fld := ⟨0x80030, 31, 16⟩
abbrev F.MEAS_CNT_SETTLE_CNT : Fld := ⟨0x80030, 15, 0⟩
abbrev F.MEAS_XCHK_INJ_DROP : Fld := ⟨0x80034, 31, 24⟩
abbrev F.MEAS_XCHK_MAXDIFF : Fld := ⟨0x80034, 15, 0⟩
abbrev F.MEAS_INJ_REQ_DIFF : Fld := ⟨0x80040, 5, 5⟩
abbrev F.MEAS_INJ_REQ_INPUT : Fld := ⟨0x80040, 4, 0⟩
abbrev F.MEAS_INJ_RES_TICK : Fld := ⟨0x80044, 31, 24⟩
abbrev F.MEAS_INJ_RES_SLICE : Fld := ⟨0x80044, 22, 20⟩
abbrev F.MEAS_INJ_RES_VALID : Fld := ⟨0x80044, 19, 19⟩
abbrev F.MEAS_INJ_RES_SETTLE : Fld := ⟨0x80044, 17, 17⟩
abbrev F.MEAS_INJ_RES_OVR : Fld := ⟨0x80044, 16, 16⟩
abbrev F.MEAS_INJ_RES_CODE : Fld := ⟨0x80044, 15, 0⟩
abbrev F.MEAS_Q_CFG_LIVE (i : Nat) : Fld := ⟨0x80100 + 0x10 * i, 31, 31⟩
abbrev F.MEAS_Q_CFG_STARTED (i : Nat) : Fld := ⟨0x80100 + 0x10 * i, 30, 30⟩
abbrev F.MEAS_Q_CFG_LOCKINJ (i : Nat) : Fld := ⟨0x80100 + 0x10 * i, 29, 29⟩
abbrev F.MEAS_Q_CFG_LEVEL (i : Nat) : Fld := ⟨0x80100 + 0x10 * i, 28, 28⟩
abbrev F.MEAS_Q_CFG_PAIR (i : Nat) : Fld := ⟨0x80100 + 0x10 * i, 27, 26⟩
abbrev F.MEAS_Q_CFG_TRIG (i : Nat) : Fld := ⟨0x80100 + 0x10 * i, 25, 24⟩
abbrev F.MEAS_Q_CFG_COUNT_M1 (i : Nat) : Fld := ⟨0x80100 + 0x10 * i, 20, 16⟩
abbrev F.MEAS_Q_CFG_DIV_M1 (i : Nat) : Fld := ⟨0x80100 + 0x10 * i, 15, 8⟩
abbrev F.MEAS_Q_OFS_OFS (i : Nat) : Fld := ⟨0x80104 + 0x10 * i, 14, 0⟩
abbrev F.MEAS_Q_T0_T0 (i : Nat) : Fld := ⟨0x80108 + 0x10 * i, 31, 0⟩
abbrev F.MEAS_Q_STAT_RUNS (i : Nat) : Fld := ⟨0x8010c + 0x10 * i, 31, 16⟩
abbrev F.MEAS_Q_STAT_MISSED (i : Nat) : Fld := ⟨0x8010c + 0x10 * i, 15, 0⟩
abbrev F.MEAS_Q_E_DIFF (i j : Nat) : Fld := ⟨0x81000 + 0x80 * i + 0x4 * j, 5, 5⟩
abbrev F.MEAS_Q_E_INPUT (i j : Nat) : Fld := ⟨0x81000 + 0x80 * i + 0x4 * j, 4, 0⟩
abbrev F.MEAS_RES_TICK (i j : Nat) : Fld := ⟨0x82000 + 0x80 * i + 0x4 * j, 31, 24⟩
abbrev F.MEAS_RES_SLICE (i j : Nat) : Fld := ⟨0x82000 + 0x80 * i + 0x4 * j, 22, 20⟩
abbrev F.MEAS_RES_VALID (i j : Nat) : Fld := ⟨0x82000 + 0x80 * i + 0x4 * j, 19, 19⟩
abbrev F.MEAS_RES_SETTLE (i j : Nat) : Fld := ⟨0x82000 + 0x80 * i + 0x4 * j, 17, 17⟩
abbrev F.MEAS_RES_OVR (i j : Nat) : Fld := ⟨0x82000 + 0x80 * i + 0x4 * j, 16, 16⟩
abbrev F.MEAS_RES_CODE (i j : Nat) : Fld := ⟨0x82000 + 0x80 * i + 0x4 * j, 15, 0⟩
abbrev F.REC_CTRL_SYS_HOLDOFF : Fld := ⟨0x90000, 23, 16⟩
abbrev F.REC_CTRL_SEQ_EN : Fld := ⟨0x90000, 0, 0⟩
abbrev F.REC_POOL_USABLE : Fld := ⟨0x90004, 25, 16⟩
abbrev F.REC_POOL_FREE : Fld := ⟨0x90004, 9, 0⟩
abbrev F.REC_STAT_OVF_CNT : Fld := ⟨0x90008, 31, 24⟩
abbrev F.REC_STAT_TREND_LOST : Fld := ⟨0x90008, 23, 16⟩
abbrev F.REC_STAT_IGNORED : Fld := ⟨0x90008, 15, 8⟩
abbrev F.REC_STAT_PERR : Fld := ⟨0x90008, 7, 0⟩
abbrev F.REC_SYS_SYS_TRIGS : Fld := ⟨0x9000c, 31, 16⟩
abbrev F.REC_SYS_LAST_ID : Fld := ⟨0x9000c, 11, 8⟩
abbrev F.REC_SYS_REQ : Fld := ⟨0x9000c, 0, 0⟩
abbrev F.REC_TRIGIO_OUT_WIDTH : Fld := ⟨0x90010, 31, 16⟩
abbrev F.REC_TRIGIO_OUT_SYS : Fld := ⟨0x90010, 9, 8⟩
abbrev F.REC_TRIGIO_POL : Fld := ⟨0x90010, 7, 4⟩
abbrev F.REC_TRIGIO_EN : Fld := ⟨0x90010, 3, 0⟩
abbrev F.REC_TSTATE_STATE : Fld := ⟨0x90014, 2, 0⟩
abbrev F.REC_CNT_VAL_VALUE (i : Nat) : Fld := ⟨0x90020 + 0x8 * i, 31, 0⟩
abbrev F.REC_CNT_LIM_VALUE (i : Nat) : Fld := ⟨0x90024 + 0x8 * i, 31, 0⟩
abbrev F.REC_TMR_LIMIT (i : Nat) : Fld := ⟨0x90030 + 0x4 * i, 23, 0⟩
abbrev F.REC_CMP_SRC_SRC (i : Nat) : Fld := ⟨0x90040 + 0x10 * i, 31, 0⟩
abbrev F.REC_CMP_OP_FMT (i : Nat) : Fld := ⟨0x90044 + 0x10 * i, 3, 3⟩
abbrev F.REC_CMP_OP_OP (i : Nat) : Fld := ⟨0x90044 + 0x10 * i, 2, 0⟩
abbrev F.REC_CMP_A_A (i : Nat) : Fld := ⟨0x90048 + 0x10 * i, 31, 0⟩
abbrev F.REC_CMP_B_B (i : Nat) : Fld := ⟨0x9004c + 0x10 * i, 31, 0⟩
abbrev F.REC_TS_CND_NEXT_B (i : Nat) : Fld := ⟨0x90080 + 0x8 * i, 26, 24⟩
abbrev F.REC_TS_CND_CND_B (i : Nat) : Fld := ⟨0x90080 + 0x8 * i, 23, 16⟩
abbrev F.REC_TS_CND_NEXT_A (i : Nat) : Fld := ⟨0x90080 + 0x8 * i, 10, 8⟩
abbrev F.REC_TS_CND_CND_A (i : Nat) : Fld := ⟨0x90080 + 0x8 * i, 7, 0⟩
abbrev F.REC_TS_ACT_ACT (i : Nat) : Fld := ⟨0x90084 + 0x8 * i, 24, 0⟩
abbrev F.REC_CAP_STAT_PAGES (i : Nat) : Fld := ⟨0x90100 + 0x10 * i, 24, 16⟩
abbrev F.REC_CAP_STAT_LIVE (i : Nat) : Fld := ⟨0x90100 + 0x10 * i, 4, 4⟩
abbrev F.REC_CAP_STAT_STATE (i : Nat) : Fld := ⟨0x90100 + 0x10 * i, 2, 0⟩
abbrev F.REC_CAP_PRE_COUNT (i : Nat) : Fld := ⟨0x90104 + 0x10 * i, 31, 0⟩
abbrev F.REC_CAP_POST_COUNT (i : Nat) : Fld := ⟨0x90108 + 0x10 * i, 31, 0⟩
abbrev F.REC_TR_STAT_PAGES (i : Nat) : Fld := ⟨0x90200 + 0x10 * i, 11, 8⟩
abbrev F.REC_TR_STAT_DECIM (i : Nat) : Fld := ⟨0x90200 + 0x10 * i, 7, 4⟩
abbrev F.REC_TR_STAT_LIVE (i : Nat) : Fld := ⟨0x90200 + 0x10 * i, 3, 3⟩
abbrev F.REC_TR_STAT_RUN (i : Nat) : Fld := ⟨0x90200 + 0x10 * i, 0, 0⟩
abbrev F.REC_TR_BLOCKS_SENT (i : Nat) : Fld := ⟨0x90204 + 0x10 * i, 31, 0⟩
abbrev F.REC_TR_LOST_LOST (i : Nat) : Fld := ⟨0x90208 + 0x10 * i, 31, 0⟩
abbrev F.MGRD_CTRL_SCRUB_EN : Fld := ⟨0xa0000, 31, 31⟩
abbrev F.MGRD_CTRL_SLOW_LIMIT : Fld := ⟨0xa0000, 23, 16⟩
abbrev F.MGRD_CTRL_SCRUB_INT : Fld := ⟨0xa0000, 9, 0⟩
abbrev F.MGRD_ST_DONE : Fld := ⟨0xa0004, 8, 8⟩
abbrev F.MGRD_ST_PASS : Fld := ⟨0xa0004, 6, 0⟩
abbrev F.MGRD_CNT_SRAM_CORR : Fld := ⟨0xa0010, 31, 16⟩
abbrev F.MGRD_CNT_SRAM_UE : Fld := ⟨0xa0010, 15, 8⟩
abbrev F.MGRD_CNT_SRAM_DIFF : Fld := ⟨0xa0010, 7, 0⟩
abbrev F.MGRD_CNT_TBL_CORR : Fld := ⟨0xa0014, 31, 16⟩
abbrev F.MGRD_CNT_TBL_UE : Fld := ⟨0xa0014, 15, 8⟩
abbrev F.MGRD_CNT_TBL_DIFF : Fld := ⟨0xa0014, 7, 0⟩
abbrev F.MGRD_CNT_REC_PERR : Fld := ⟨0xa0018, 31, 16⟩
abbrev F.MGRD_CNT_REC_RETIRED : Fld := ⟨0xa0018, 9, 0⟩
abbrev F.MGRD_LAST_ADDR : Fld := ⟨0xa0020, 31, 0⟩
abbrev F.MGRD_LAST_INFO_MIRROR : Fld := ⟨0xa0024, 7, 7⟩
abbrev F.MGRD_LAST_INFO_OUTCOME : Fld := ⟨0xa0024, 6, 4⟩
abbrev F.MGRD_LAST_INFO_CLASS : Fld := ⟨0xa0024, 1, 0⟩
abbrev F.MGRD_SCRUB_CLASS : Fld := ⟨0xa0028, 31, 30⟩
abbrev F.MGRD_SCRUB_MIRROR : Fld := ⟨0xa0028, 29, 29⟩
abbrev F.MGRD_SCRUB_PASSES : Fld := ⟨0xa0028, 28, 19⟩
abbrev F.MGRD_SCRUB_LINE : Fld := ⟨0xa0028, 18, 0⟩
abbrev F.MGRD_IMG_BASE_ADDR : Fld := ⟨0xa0030, 31, 0⟩
abbrev F.MGRD_IMG_LIMIT_ADDR : Fld := ⟨0xa0034, 31, 0⟩
abbrev F.MGRD_REMAP_VALID (i j : Nat) : Fld := ⟨0xa0100 + 0x20 * i + 0x4 * j, 31, 31⟩
abbrev F.MGRD_REMAP_MIRROR (i j : Nat) : Fld := ⟨0xa0100 + 0x20 * i + 0x4 * j, 30, 30⟩
abbrev F.MGRD_REMAP_LINE (i j : Nat) : Fld := ⟨0xa0100 + 0x20 * i + 0x4 * j, 18, 0⟩
abbrev F.FHUB_CTRL_SW_ASSERT : Fld := ⟨0xb0000, 31, 31⟩
abbrev F.FHUB_CTRL_OUT_MIN : Fld := ⟨0xb0000, 25, 16⟩
abbrev F.FHUB_CTRL_REACT : Fld := ⟨0xb0000, 15, 0⟩
abbrev F.FHUB_REC_ID : Fld := ⟨0xb0004, 31, 16⟩
abbrev F.FHUB_REC_SOURCE : Fld := ⟨0xb0004, 14, 8⟩
abbrev F.FHUB_REC_ESCALATED : Fld := ⟨0xb0004, 6, 6⟩
abbrev F.FHUB_REC_S3_ACTED : Fld := ⟨0xb0004, 5, 5⟩
abbrev F.FHUB_REC_OUT_HOLD : Fld := ⟨0xb0004, 4, 4⟩
abbrev F.FHUB_REC_SEV : Fld := ⟨0xb0004, 3, 2⟩
abbrev F.FHUB_REC_OPEN : Fld := ⟨0xb0004, 0, 0⟩
abbrev F.FHUB_REC_TIME_LO_TIME : Fld := ⟨0xb0008, 31, 0⟩
abbrev F.FHUB_REC_TIME_HI_TIME : Fld := ⟨0xb000c, 31, 0⟩
abbrev F.FHUB_REC_MERGE_TIMER : Fld := ⟨0xb0010, 31, 16⟩
abbrev F.FHUB_REC_MERGE_MERGE_CNT : Fld := ⟨0xb0010, 15, 0⟩
abbrev F.FHUB_FIRST_SET_SET (i : Nat) : Fld := ⟨0xb0020 + 0x4 * i, 31, 0⟩
abbrev F.FHUB_MERGED_SET (i : Nat) : Fld := ⟨0xb0030 + 0x4 * i, 31, 0⟩
abbrev F.FHUB_RESOLVE_ID : Fld := ⟨0xb0040, 15, 0⟩
abbrev F.FHUB_STAT_ESCALATIONS : Fld := ⟨0xb0044, 31, 24⟩
abbrev F.FHUB_STAT_EVT_DROP : Fld := ⟨0xb0044, 23, 16⟩
abbrev F.FHUB_STAT_OUT_MISMATCH : Fld := ⟨0xb0044, 3, 3⟩
abbrev F.FHUB_STAT_OUT_BALL : Fld := ⟨0xb0044, 2, 2⟩
abbrev F.FHUB_STAT_OUT_DRIVEN : Fld := ⟨0xb0044, 1, 1⟩
abbrev F.FHUB_LATCH_LATCH (i : Nat) : Fld := ⟨0xb0050 + 0x4 * i, 31, 0⟩
abbrev F.FHUB_SRC_SEV (i : Nat) : Fld := ⟨0xb0400 + 0x4 * i, 31, 30⟩
abbrev F.FHUB_SRC_S3ACT (i : Nat) : Fld := ⟨0xb0400 + 0x4 * i, 29, 28⟩
abbrev F.FHUB_SRC_COUNT (i : Nat) : Fld := ⟨0xb0400 + 0x4 * i, 23, 16⟩
abbrev F.FHUB_SRC_EVT_UP (i : Nat) : Fld := ⟨0xb0400 + 0x4 * i, 9, 9⟩
abbrev F.FHUB_SRC_ROUTE (i : Nat) : Fld := ⟨0xb0400 + 0x4 * i, 8, 8⟩
abbrev F.FHUB_SRC_FLOW (i : Nat) : Fld := ⟨0xb0400 + 0x4 * i, 5, 0⟩
abbrev F.SAFE_STAT_REC_MATCH : Fld := ⟨0xc0000, 29, 29⟩
abbrev F.SAFE_STAT_REC_OK : Fld := ⟨0xc0000, 28, 28⟩
abbrev F.SAFE_STAT_SEAL : Fld := ⟨0xc0000, 27, 27⟩
abbrev F.SAFE_STAT_CHB_OK : Fld := ⟨0xc0000, 26, 26⟩
abbrev F.SAFE_STAT_SGR : Fld := ⟨0xc0000, 25, 25⟩
abbrev F.SAFE_STAT_SS : Fld := ⟨0xc0000, 24, 24⟩
abbrev F.SAFE_STAT_SO_DEG : Fld := ⟨0xc0000, 23, 20⟩
abbrev F.SAFE_STAT_SO_LOCK : Fld := ⟨0xc0000, 19, 16⟩
abbrev F.SAFE_STAT_SO_ON : Fld := ⟨0xc0000, 15, 12⟩
abbrev F.SAFE_STAT_SI_FLT : Fld := ⟨0xc0000, 11, 8⟩
abbrev F.SAFE_STAT_SI_DEM : Fld := ⟨0xc0000, 7, 4⟩
abbrev F.SAFE_CAUSE_LEVEL : Fld := ⟨0xc0004, 13, 12⟩
abbrev F.SAFE_CAUSE_OUT_LOCK : Fld := ⟨0xc0004, 9, 9⟩
abbrev F.SAFE_CAUSE_ENVELOPE : Fld := ⟨0xc0004, 8, 8⟩
abbrev F.SAFE_CAUSE_CHANNEL : Fld := ⟨0xc0004, 7, 7⟩
abbrev F.SAFE_CAUSE_FRAME_SGR : Fld := ⟨0xc0004, 6, 6⟩
abbrev F.SAFE_CAUSE_FRAME_BLOCK : Fld := ⟨0xc0004, 5, 5⟩
abbrev F.SAFE_CAUSE_FHUB_LOCKOUT : Fld := ⟨0xc0004, 4, 4⟩
abbrev F.SAFE_CAUSE_FHUB_BLOCK : Fld := ⟨0xc0004, 3, 3⟩
abbrev F.SAFE_CAUSE_COMMAND : Fld := ⟨0xc0004, 2, 2⟩
abbrev F.SAFE_CAUSE_INPUT : Fld := ⟨0xc0004, 1, 1⟩
abbrev F.SAFE_CAUSE_POWERUP : Fld := ⟨0xc0004, 0, 0⟩
abbrev F.SAFE_IN_TEST (i : Nat) : Fld := ⟨0xc0010 + 0x4 * i, 19, 19⟩
abbrev F.SAFE_IN_MODE (i : Nat) : Fld := ⟨0xc0010 + 0x4 * i, 18, 18⟩
abbrev F.SAFE_IN_DISC (i : Nat) : Fld := ⟨0xc0010 + 0x4 * i, 17, 15⟩
abbrev F.SAFE_IN_FILT (i : Nat) : Fld := ⟨0xc0010 + 0x4 * i, 14, 12⟩
abbrev F.SAFE_IN_FUNC (i : Nat) : Fld := ⟨0xc0010 + 0x4 * i, 11, 10⟩
abbrev F.SAFE_IN_REARM (i : Nat) : Fld := ⟨0xc0010 + 0x4 * i, 7, 7⟩
abbrev F.SAFE_IN_TFAIL (i : Nat) : Fld := ⟨0xc0010 + 0x4 * i, 6, 6⟩
abbrev F.SAFE_IN_DISCF (i : Nat) : Fld := ⟨0xc0010 + 0x4 * i, 5, 5⟩
abbrev F.SAFE_IN_DEM (i : Nat) : Fld := ⟨0xc0010 + 0x4 * i, 4, 4⟩
abbrev F.SAFE_IN_LVL_B (i : Nat) : Fld := ⟨0xc0010 + 0x4 * i, 1, 1⟩
abbrev F.SAFE_IN_LVL_A (i : Nat) : Fld := ⟨0xc0010 + 0x4 * i, 0, 0⟩
abbrev F.SAFE_OUT_DEG_LEFT (i : Nat) : Fld := ⟨0xc0020 + 0x4 * i, 21, 12⟩
abbrev F.SAFE_OUT_FUNC (i : Nat) : Fld := ⟨0xc0020 + 0x4 * i, 11, 10⟩
abbrev F.SAFE_OUT_CLASS (i : Nat) : Fld := ⟨0xc0020 + 0x4 * i, 9, 9⟩
abbrev F.SAFE_OUT_CELL (i : Nat) : Fld := ⟨0xc0020 + 0x4 * i, 8, 8⟩
abbrev F.SAFE_OUT_BYP_AUTO (i : Nat) : Fld := ⟨0xc0020 + 0x4 * i, 7, 7⟩
abbrev F.SAFE_OUT_LOCK (i : Nat) : Fld := ⟨0xc0020 + 0x4 * i, 6, 6⟩
abbrev F.SAFE_OUT_DEG (i : Nat) : Fld := ⟨0xc0020 + 0x4 * i, 5, 5⟩
abbrev F.SAFE_OUT_FIRED (i : Nat) : Fld := ⟨0xc0020 + 0x4 * i, 4, 4⟩
abbrev F.SAFE_OUT_FB_B (i : Nat) : Fld := ⟨0xc0020 + 0x4 * i, 3, 3⟩
abbrev F.SAFE_OUT_FB_A (i : Nat) : Fld := ⟨0xc0020 + 0x4 * i, 2, 2⟩
abbrev F.SAFE_OUT_ON_B (i : Nat) : Fld := ⟨0xc0020 + 0x4 * i, 1, 1⟩
abbrev F.SAFE_OUT_ON_A (i : Nat) : Fld := ⟨0xc0020 + 0x4 * i, 0, 0⟩
abbrev F.SAFE_PANEL_SW : Fld := ⟨0xc0030, 31, 16⟩
abbrev F.SAFE_PANEL_WIN_LEFT : Fld := ⟨0xc0030, 15, 8⟩
abbrev F.SAFE_PANEL_WIN : Fld := ⟨0xc0030, 2, 2⟩
abbrev F.SAFE_PANEL_ACK : Fld := ⟨0xc0030, 1, 1⟩
abbrev F.SAFE_PANEL_SEAL_OK : Fld := ⟨0xc0030, 0, 0⟩
abbrev F.SAFE_ACK_WIN_ID : Fld := ⟨0xc0034, 31, 16⟩
abbrev F.SAFE_ACK_ACK_MODE : Fld := ⟨0xc0034, 15, 14⟩
abbrev F.SAFE_ACK_ACK_NODE : Fld := ⟨0xc0034, 12, 0⟩
abbrev F.SAFE_REC_CRC : Fld := ⟨0xc0038, 15, 0⟩
abbrev F.SAFE_SS_LIMIT (i : Nat) : Fld := ⟨0xc0040 + 0x4 * i, 31, 16⟩
abbrev F.SAFE_SS_EN (i : Nat) : Fld := ⟨0xc0040 + 0x4 * i, 3, 3⟩
abbrev F.SAFE_SS_STATE (i : Nat) : Fld := ⟨0xc0040 + 0x4 * i, 2, 0⟩
abbrev F.TWIN_CFG_START_WAIT : Fld := ⟨0xd0000, 15, 8⟩
abbrev F.TWIN_CFG_SWAP_DAYS : Fld := ⟨0xd0000, 7, 0⟩
abbrev F.TWIN_STAT_EPOCH : Fld := ⟨0xd0004, 31, 16⟩
abbrev F.TWIN_STAT_EJECT : Fld := ⟨0xd0004, 10, 9⟩
abbrev F.TWIN_STAT_CFG_MATCH : Fld := ⟨0xd0004, 8, 8⟩
abbrev F.TWIN_STAT_XLINK_UP : Fld := ⟨0xd0004, 7, 7⟩
abbrev F.TWIN_STAT_HB_MISS : Fld := ⟨0xd0004, 6, 4⟩
abbrev F.TWIN_STAT_PARTNER : Fld := ⟨0xd0004, 3, 2⟩
abbrev F.TWIN_STAT_ROLE : Fld := ⟨0xd0004, 1, 0⟩
abbrev F.TWIN_WIT_FOLLOW_P : Fld := ⟨0xd0008, 20, 16⟩
abbrev F.TWIN_WIT_NOSEE_P : Fld := ⟨0xd0008, 12, 8⟩
abbrev F.TWIN_WIT_REPORTING : Fld := ⟨0xd0008, 4, 0⟩
abbrev F.TWIN_IMG_IMG_SEQ : Fld := ⟨0xd000c, 31, 0⟩
abbrev F.TWIN_AGE_IMG_AGE : Fld := ⟨0xd0010, 15, 0⟩
abbrev F.TWIN_CNT_CLAIMS : Fld := ⟨0xd0014, 31, 24⟩
abbrev F.TWIN_CNT_REVERTS : Fld := ⟨0xd0014, 23, 16⟩
abbrev F.TWIN_CNT_SWAP_FAIL : Fld := ⟨0xd0014, 15, 8⟩
abbrev F.TWIN_CNT_FOLLOW_SW : Fld := ⟨0xd0014, 7, 0⟩
abbrev F.TWIN_LAST_LO_TIME : Fld := ⟨0xd0018, 31, 0⟩
abbrev F.TWIN_LAST_HI_TIME : Fld := ⟨0xd001c, 31, 0⟩
abbrev F.TWIN_CHILD_EPOCH : Fld := ⟨0xd0020, 31, 16⟩
abbrev F.TWIN_CHILD_OBEYED : Fld := ⟨0xd0020, 3, 3⟩
abbrev F.TWIN_CHILD_WIT_B : Fld := ⟨0xd0020, 2, 2⟩
abbrev F.TWIN_CHILD_WIT_A : Fld := ⟨0xd0020, 1, 1⟩
abbrev F.TWIN_CHILD_FOLLOW : Fld := ⟨0xd0020, 0, 0⟩
abbrev F.LIFE_CTRL_DT_PIN : Fld := ⟨0xe0000, 27, 24⟩
abbrev F.LIFE_CTRL_REPORT_M : Fld := ⟨0xe0000, 23, 16⟩
abbrev F.LIFE_CTRL_DT_STEP : Fld := ⟨0xe0000, 15, 8⟩
abbrev F.LIFE_CTRL_RETIRE_AUTO : Fld := ⟨0xe0000, 4, 4⟩
abbrev F.LIFE_CTRL_SEMI_EN : Fld := ⟨0xe0000, 3, 3⟩
abbrev F.LIFE_CTRL_ESR_EN : Fld := ⟨0xe0000, 2, 2⟩
abbrev F.LIFE_CTRL_CAP_EN : Fld := ⟨0xe0000, 1, 1⟩
abbrev F.LIFE_CTRL_AVS_EN : Fld := ⟨0xe0000, 0, 0⟩
abbrev F.LIFE_AVS_CFG_SLACK_HIGH : Fld := ⟨0xe0004, 31, 24⟩
abbrev F.LIFE_AVS_CFG_SLACK_LOW : Fld := ⟨0xe0004, 23, 16⟩
abbrev F.LIFE_AVS_CFG_SLACK_CRIT : Fld := ⟨0xe0004, 15, 8⟩
abbrev F.LIFE_AVS_CFG_AVS_INT : Fld := ⟨0xe0004, 7, 0⟩
abbrev F.LIFE_PMB_PEC : Fld := ⟨0xe0008, 15, 15⟩
abbrev F.LIFE_PMB_FAST : Fld := ⟨0xe0008, 14, 14⟩
abbrev F.LIFE_PMB_PMB_ADDR : Fld := ⟨0xe0008, 6, 0⟩
abbrev F.LIFE_AVS_STAT_STATE : Fld := ⟨0xe000c, 31, 30⟩
abbrev F.LIFE_AVS_STAT_SLACK : Fld := ⟨0xe000c, 29, 16⟩
abbrev F.LIFE_AVS_STAT_TARGET : Fld := ⟨0xe000c, 9, 0⟩
abbrev F.LIFE_LANE_CFG_TREND_DAYS : Fld := ⟨0xe0010, 7, 0⟩
abbrev F.LIFE_DTX_DTX3 : Fld := ⟨0xe0020, 31, 24⟩
abbrev F.LIFE_DTX_DTX2 : Fld := ⟨0xe0020, 23, 16⟩
abbrev F.LIFE_DTX_DTX1 : Fld := ⟨0xe0020, 15, 8⟩
abbrev F.LIFE_DTX_DTX0 : Fld := ⟨0xe0020, 7, 0⟩
abbrev F.LIFE_LANE_DAYS (i : Nat) : Fld := ⟨0xe0040 + 0x4 * i, 31, 20⟩
abbrev F.LIFE_LANE_TREND (i : Nat) : Fld := ⟨0xe0040 + 0x4 * i, 16, 16⟩
abbrev F.LIFE_LANE_MARGIN (i : Nat) : Fld := ⟨0xe0040 + 0x4 * i, 15, 0⟩
abbrev F.LIFE_C_CNOM_CNOM (i : Nat) : Fld := ⟨0xe0100 + 0x20 * i, 31, 0⟩
abbrev F.LIFE_C_EST_EST_N (i : Nat) : Fld := ⟨0xe0104 + 0x20 * i, 27, 24⟩
abbrev F.LIFE_C_EST_CSTEP (i : Nat) : Fld := ⟨0xe0104 + 0x20 * i, 23, 16⟩
abbrev F.LIFE_C_EST_ESR_SEQ (i : Nat) : Fld := ⟨0xe0104 + 0x20 * i, 14, 13⟩
abbrev F.LIFE_C_EST_ESR_ENTRY (i : Nat) : Fld := ⟨0xe0104 + 0x20 * i, 12, 8⟩
abbrev F.LIFE_C_EST_IMIN_ESR (i : Nat) : Fld := ⟨0xe0104 + 0x20 * i, 7, 0⟩
abbrev F.LIFE_C_CLIM_CRETIRE (i : Nat) : Fld := ⟨0xe0108 + 0x20 * i, 31, 16⟩
abbrev F.LIFE_C_CLIM_CWARN (i : Nat) : Fld := ⟨0xe0108 + 0x20 * i, 15, 0⟩
abbrev F.LIFE_C_ELIM_ESR_RETIRE (i : Nat) : Fld := ⟨0xe010c + 0x20 * i, 31, 16⟩
abbrev F.LIFE_C_ELIM_ESR_WARN (i : Nat) : Fld := ⟨0xe010c + 0x20 * i, 15, 0⟩
abbrev F.LIFE_C_CEST_CEST (i : Nat) : Fld := ⟨0xe0110 + 0x20 * i, 31, 16⟩
abbrev F.LIFE_C_CEST_WINDOWS (i : Nat) : Fld := ⟨0xe0110 + 0x20 * i, 15, 0⟩
abbrev F.LIFE_C_ESR_SAMPLES (i : Nat) : Fld := ⟨0xe0114 + 0x20 * i, 31, 16⟩
abbrev F.LIFE_C_ESR_ESR (i : Nat) : Fld := ⟨0xe0114 + 0x20 * i, 15, 0⟩
abbrev F.LIFE_C_PLAN_PIN_C (i : Nat) : Fld := ⟨0xe0118 + 0x20 * i, 31, 31⟩
abbrev F.LIFE_C_PLAN_PIN_R (i : Nat) : Fld := ⟨0xe0118 + 0x20 * i, 30, 30⟩
abbrev F.LIFE_C_PLAN_RETIRE_DUE (i : Nat) : Fld := ⟨0xe0118 + 0x20 * i, 29, 29⟩
abbrev F.LIFE_C_PLAN_RETIRED (i : Nat) : Fld := ⟨0xe0118 + 0x20 * i, 28, 28⟩
abbrev F.LIFE_C_PLAN_CRATIO (i : Nat) : Fld := ⟨0xe0118 + 0x20 * i, 15, 0⟩
abbrev F.LIFE_W_CFG_EN (i : Nat) : Fld := ⟨0xe0200 + 0x20 * i, 31, 31⟩
abbrev F.LIFE_W_CFG_SIGN (i : Nat) : Fld := ⟨0xe0200 + 0x20 * i, 30, 30⟩
abbrev F.LIFE_W_CFG_SENSE_SEQ (i : Nat) : Fld := ⟨0xe0200 + 0x20 * i, 29, 28⟩
abbrev F.LIFE_W_CFG_SENSE_ENTRY (i : Nat) : Fld := ⟨0xe0200 + 0x20 * i, 27, 23⟩
abbrev F.LIFE_W_CFG_TEMP_SEQ (i : Nat) : Fld := ⟨0xe0200 + 0x20 * i, 22, 21⟩
abbrev F.LIFE_W_CFG_TEMP_ENTRY (i : Nat) : Fld := ⟨0xe0200 + 0x20 * i, 20, 16⟩
abbrev F.LIFE_W_CFG_VCE_RETIRE (i : Nat) : Fld := ⟨0xe0200 + 0x20 * i, 15, 8⟩
abbrev F.LIFE_W_CFG_VCE_WARN (i : Nat) : Fld := ⟨0xe0200 + 0x20 * i, 7, 0⟩
abbrev F.LIFE_W_IREF_IREF (i : Nat) : Fld := ⟨0xe0204 + 0x20 * i, 31, 16⟩
abbrev F.LIFE_W_IREF_IBAND (i : Nat) : Fld := ⟨0xe0204 + 0x20 * i, 15, 8⟩
abbrev F.LIFE_W_IREF_RF_DIV (i : Nat) : Fld := ⟨0xe0204 + 0x20 * i, 7, 0⟩
abbrev F.LIFE_W_TREF_TREF (i : Nat) : Fld := ⟨0xe0208 + 0x20 * i, 31, 16⟩
abbrev F.LIFE_W_TREF_TBAND (i : Nat) : Fld := ⟨0xe0208 + 0x20 * i, 15, 0⟩
abbrev F.LIFE_W_RF_RF_BIN (i : Nat) : Fld := ⟨0xe020c + 0x20 * i, 31, 16⟩
abbrev F.LIFE_W_RF_RF_HYST (i : Nat) : Fld := ⟨0xe020c + 0x20 * i, 15, 0⟩
abbrev F.LIFE_W_MEAN_BASE (i : Nat) : Fld := ⟨0xe0210 + 0x20 * i, 31, 16⟩
abbrev F.LIFE_W_MEAN_MEAN (i : Nat) : Fld := ⟨0xe0210 + 0x20 * i, 15, 0⟩
abbrev F.LIFE_W_DRIFT_DRIFT (i : Nat) : Fld := ⟨0xe0214 + 0x20 * i, 31, 16⟩
abbrev F.LIFE_W_DRIFT_READINGS (i : Nat) : Fld := ⟨0xe0214 + 0x20 * i, 15, 0⟩
abbrev F.LIFE_W_DAMAGE_DAMAGE (i : Nat) : Fld := ⟨0xe0218 + 0x20 * i, 31, 0⟩
abbrev F.LIFE_W_STAT_RF_OVF (i : Nat) : Fld := ⟨0xe021c + 0x20 * i, 31, 16⟩
abbrev F.LIFE_W_STAT_WARN (i : Nat) : Fld := ⟨0xe021c + 0x20 * i, 1, 1⟩
abbrev F.LIFE_W_STAT_DUE (i : Nat) : Fld := ⟨0xe021c + 0x20 * i, 0, 0⟩
abbrev F.LIFE_RF_COUNT (i j : Nat) : Fld := ⟨0xe1000 + 0x40 * i + 0x4 * j, 31, 0⟩
abbrev F.LIFE_RFW_WEIGHT (i : Nat) : Fld := ⟨0xe1400 + 0x4 * i, 31, 0⟩
abbrev F.FBUS_C_CTRL_BOFF_DELAY (i : Nat) : Fld := ⟨0xf0000 + 0x200 * i, 15, 8⟩
abbrev F.FBUS_C_CTRL_AUTO_REC (i : Nat) : Fld := ⟨0xf0000 + 0x200 * i, 4, 4⟩
abbrev F.FBUS_C_CTRL_TRIPLE (i : Nat) : Fld := ⟨0xf0000 + 0x200 * i, 3, 3⟩
abbrev F.FBUS_C_CTRL_FD_EN (i : Nat) : Fld := ⟨0xf0000 + 0x200 * i, 2, 2⟩
abbrev F.FBUS_C_CTRL_MODE (i : Nat) : Fld := ⟨0xf0000 + 0x200 * i, 1, 0⟩
abbrev F.FBUS_C_NBT_NBRP (i : Nat) : Fld := ⟨0xf0004 + 0x200 * i, 31, 24⟩
abbrev F.FBUS_C_NBT_NTSEG1_M1 (i : Nat) : Fld := ⟨0xf0004 + 0x200 * i, 23, 16⟩
abbrev F.FBUS_C_NBT_NTSEG2_M1 (i : Nat) : Fld := ⟨0xf0004 + 0x200 * i, 14, 8⟩
abbrev F.FBUS_C_NBT_NSJW_M1 (i : Nat) : Fld := ⟨0xf0004 + 0x200 * i, 6, 0⟩
abbrev F.FBUS_C_DBT_DBRP (i : Nat) : Fld := ⟨0xf0008 + 0x200 * i, 28, 24⟩
abbrev F.FBUS_C_DBT_DTSEG1_M1 (i : Nat) : Fld := ⟨0xf0008 + 0x200 * i, 20, 16⟩
abbrev F.FBUS_C_DBT_DTSEG2_M1 (i : Nat) : Fld := ⟨0xf0008 + 0x200 * i, 11, 8⟩
abbrev F.FBUS_C_DBT_DSJW_M1 (i : Nat) : Fld := ⟨0xf0008 + 0x200 * i, 3, 0⟩
abbrev F.FBUS_C_TDC_TDCV (i : Nat) : Fld := ⟨0xf000c + 0x200 * i, 22, 16⟩
abbrev F.FBUS_C_TDC_TDC_EN (i : Nat) : Fld := ⟨0xf000c + 0x200 * i, 15, 15⟩
abbrev F.FBUS_C_TDC_SSPOFS (i : Nat) : Fld := ⟨0xf000c + 0x200 * i, 14, 8⟩
abbrev F.FBUS_C_STAT_TEC (i : Nat) : Fld := ⟨0xf0010 + 0x200 * i, 31, 24⟩
abbrev F.FBUS_C_STAT_REC (i : Nat) : Fld := ⟨0xf0010 + 0x200 * i, 23, 16⟩
abbrev F.FBUS_C_STAT_STUCK (i : Nat) : Fld := ⟨0xf0010 + 0x200 * i, 7, 7⟩
abbrev F.FBUS_C_STAT_DUP_SUSPECT (i : Nat) : Fld := ⟨0xf0010 + 0x200 * i, 6, 6⟩
abbrev F.FBUS_C_STAT_ESTATE (i : Nat) : Fld := ⟨0xf0010 + 0x200 * i, 5, 4⟩
abbrev F.FBUS_C_STAT_LAST_ERR (i : Nat) : Fld := ⟨0xf0010 + 0x200 * i, 3, 0⟩
abbrev F.FBUS_C_CNT_BUSOFF_CNT (i : Nat) : Fld := ⟨0xf0014 + 0x200 * i, 31, 24⟩
abbrev F.FBUS_C_CNT_SLOT_LATE (i : Nat) : Fld := ⟨0xf0014 + 0x200 * i, 23, 16⟩
abbrev F.FBUS_C_CNT_RX_LOST (i : Nat) : Fld := ⟨0xf0014 + 0x200 * i, 15, 8⟩
abbrev F.FBUS_C_CNT_LOM_SKIP (i : Nat) : Fld := ⟨0xf0014 + 0x200 * i, 7, 0⟩
abbrev F.FBUS_C_DUP_DUP_ID (i : Nat) : Fld := ⟨0xf0018 + 0x200 * i, 28, 0⟩
abbrev F.FBUS_C_SCHED_SCHED_EN (i : Nat) : Fld := ⟨0xf001c + 0x200 * i, 31, 31⟩
abbrev F.FBUS_C_SCHED_CYCLES_M1 (i : Nat) : Fld := ⟨0xf001c + 0x200 * i, 27, 24⟩
abbrev F.FBUS_C_SCHED_CYCLE_US (i : Nat) : Fld := ⟨0xf001c + 0x200 * i, 23, 0⟩
abbrev F.FBUS_C_SLOTA_EN (i j : Nat) : Fld := ⟨0xf0040 + 0x200 * i + 0x8 * j, 31, 31⟩
abbrev F.FBUS_C_SLOTA_MB (i j : Nat) : Fld := ⟨0xf0040 + 0x200 * i + 0x8 * j, 21, 16⟩
abbrev F.FBUS_C_SLOTA_CMASK (i j : Nat) : Fld := ⟨0xf0040 + 0x200 * i + 0x8 * j, 15, 0⟩
abbrev F.FBUS_C_SLOTB_WINDOW (i j : Nat) : Fld := ⟨0xf0044 + 0x200 * i + 0x8 * j, 31, 24⟩
abbrev F.FBUS_C_SLOTB_START (i j : Nat) : Fld := ⟨0xf0044 + 0x200 * i + 0x8 * j, 23, 0⟩
abbrev F.FBUS_M_CFG_LIVE (i : Nat) : Fld := ⟨0xf2000 + 0x80 * i, 31, 31⟩
abbrev F.FBUS_M_CFG_CTRL (i : Nat) : Fld := ⟨0xf2000 + 0x80 * i, 30, 30⟩
abbrev F.FBUS_M_CFG_DIR (i : Nat) : Fld := ⟨0xf2000 + 0x80 * i, 29, 29⟩
abbrev F.FBUS_M_CFG_SCHED (i : Nat) : Fld := ⟨0xf2000 + 0x80 * i, 28, 28⟩
abbrev F.FBUS_M_CFG_FDF (i : Nat) : Fld := ⟨0xf2000 + 0x80 * i, 27, 27⟩
abbrev F.FBUS_M_CFG_BRS (i : Nat) : Fld := ⟨0xf2000 + 0x80 * i, 26, 26⟩
abbrev F.FBUS_M_CFG_IDE (i : Nat) : Fld := ⟨0xf2000 + 0x80 * i, 25, 25⟩
abbrev F.FBUS_M_CFG_RTR (i : Nat) : Fld := ⟨0xf2000 + 0x80 * i, 24, 24⟩
abbrev F.FBUS_M_CFG_ROUTE (i : Nat) : Fld := ⟨0xf2000 + 0x80 * i, 15, 15⟩
abbrev F.FBUS_M_CFG_FLOW (i : Nat) : Fld := ⟨0xf2000 + 0x80 * i, 5, 0⟩
abbrev F.FBUS_M_ID_ID (i : Nat) : Fld := ⟨0xf2004 + 0x80 * i, 28, 0⟩
abbrev F.FBUS_M_MASK_MASK (i : Nat) : Fld := ⟨0xf2008 + 0x80 * i, 28, 0⟩
abbrev F.FBUS_M_FRAME_IDE (i : Nat) : Fld := ⟨0xf200c + 0x80 * i, 31, 31⟩
abbrev F.FBUS_M_FRAME_FDF (i : Nat) : Fld := ⟨0xf200c + 0x80 * i, 30, 30⟩
abbrev F.FBUS_M_FRAME_BRS (i : Nat) : Fld := ⟨0xf200c + 0x80 * i, 29, 29⟩
abbrev F.FBUS_M_FRAME_ID (i : Nat) : Fld := ⟨0xf200c + 0x80 * i, 28, 0⟩
abbrev F.FBUS_M_STAT_SEQ (i : Nat) : Fld := ⟨0xf2010 + 0x80 * i, 31, 16⟩
abbrev F.FBUS_M_STAT_PEND (i : Nat) : Fld := ⟨0xf2010 + 0x80 * i, 15, 15⟩
abbrev F.FBUS_M_STAT_SEND (i : Nat) : Fld := ⟨0xf2010 + 0x80 * i, 14, 14⟩
abbrev F.FBUS_M_STAT_ESI (i : Nat) : Fld := ⟨0xf2010 + 0x80 * i, 13, 13⟩
abbrev F.FBUS_M_STAT_RTR_RX (i : Nat) : Fld := ⟨0xf2010 + 0x80 * i, 12, 12⟩
abbrev F.FBUS_M_STAT_OVW (i : Nat) : Fld := ⟨0xf2010 + 0x80 * i, 7, 7⟩
abbrev F.FBUS_M_STAT_LEN (i : Nat) : Fld := ⟨0xf2010 + 0x80 * i, 6, 0⟩
abbrev F.FBUS_M_STAMP_LO_STAMP (i : Nat) : Fld := ⟨0xf2014 + 0x80 * i, 31, 0⟩
abbrev F.FBUS_M_STAMP_HI_STAMP (i : Nat) : Fld := ⟨0xf2018 + 0x80 * i, 31, 0⟩
abbrev F.FBUS_M_DATA_DATA (i j : Nat) : Fld := ⟨0xf2020 + 0x80 * i + 0x4 * j, 31, 0⟩

/-! Fault sources of R325 by name and number. -/
abbrev FS.FHUB_OUT_MISMATCH : Nat := 0
abbrev FS.FHUB_EVENT_DROP : Nat := 1
abbrev FS.FHUB_TEST_TRIP : Nat := 2
abbrev FS.FHUB_TEST_SAFETY : Nat := 3
abbrev FS.SYS_SUPPLY : Nat := 4
abbrev FS.SYS_IMAGE : Nat := 5
abbrev FS.SYS_CREDIT_WAIT : Nat := 6
abbrev FS.SYS_MKEY : Nat := 7
abbrev FS.LIFE_SLACK : Nat := 8
abbrev FS.LIFE_AVS_LIMIT : Nat := 9
abbrev FS.LIFE_PMBUS : Nat := 10
abbrev FS.LIFE_LANE_TREND : Nat := 11
abbrev FS.LIFE_CAP : Nat := 12
abbrev FS.LIFE_ESR : Nat := 13
abbrev FS.LIFE_SEMI : Nat := 14
abbrev FS.LIFE_RETIRE : Nat := 15
abbrev FS.TICK_OVERRUN : Nat := 16
abbrev FS.TICK_HOLDOVER : Nat := 17
abbrev FS.TICK_SYNC_LOSS : Nat := 18
abbrev FS.TICK_ALIGN : Nat := 19
abbrev FS.TALLY_STALE : Nat := 20
abbrev FS.TALLY_EXCLUDED : Nat := 21
abbrev FS.DOWN_HOLD : Nat := 22
abbrev FS.HOLD_LIMIT_REACHED : Nat := 23
abbrev FS.PPS_LOSS : Nat := 24
abbrev FS.PPS_OFFSET : Nat := 25
abbrev FS.FBUS_BUS_OFF : Nat := 26
abbrev FS.FBUS_ERR_PASSIVE : Nat := 27
abbrev FS.FBUS_DUP_ID : Nat := 28
abbrev FS.FBUS_SLOT_MISSED : Nat := 29
abbrev FS.FBUS_RX_OVERRUN : Nat := 30
abbrev FS.FBUS_BUS_STUCK : Nat := 31
abbrev FS.LANE_LOSS : Nat := 32
abbrev FS.LANE_CRC : Nat := 33
abbrev FS.LANE_DEGRADED : Nat := 34
abbrev FS.LANE_OPT_LOW : Nat := 35
abbrev FS.LANE_MOD_FAULT : Nat := 36
abbrev FS.HOST_LINK_LOSS : Nat := 37
abbrev FS.SEG_DROP : Nat := 38
abbrev FS.CMD_AUTH_FAIL : Nat := 40
abbrev FS.CMD_TIMEOUT : Nat := 41
abbrev FS.CMD_QUEUE_FULL : Nat := 42
abbrev FS.HANDLE_EXHAUSTED : Nat := 43
abbrev FS.YAR_SATURATED : Nat := 48
abbrev FS.YAR_SHORTFALL : Nat := 49
abbrev FS.YAR_POLARITY : Nat := 50
abbrev FS.YAR_KEY_OVR : Nat := 51
abbrev FS.YAR_NO_MEAS : Nat := 52
abbrev FS.YAR_CELL_SHORT : Nat := 53
abbrev FS.SWU_FAULTIN : Nat := 56
abbrev FS.SWU_READBACK : Nat := 57
abbrev FS.SWU_CLK_LOSS : Nat := 58
abbrev FS.SWU_HALF_UPDATE : Nat := 59
abbrev FS.SWU_BAD_SET : Nat := 60
abbrev FS.LOOP_OVERRUN : Nat := 64
abbrev FS.LOOP_NUMERIC : Nat := 65
abbrev FS.LOOP_RELAY_STALE : Nat := 66
abbrev FS.LOOP_SS_UNMAPPED : Nat := 67
abbrev FS.MEAS_OVR : Nat := 72
abbrev FS.MEAS_XCHECK : Nat := 73
abbrev FS.MEAS_CAL : Nat := 74
abbrev FS.MEAS_LATE : Nat := 75
abbrev FS.MEAS_SLICE_LOSS : Nat := 76
abbrev FS.REC_OVERFLOW : Nat := 80
abbrev FS.REC_TREND_LOST : Nat := 81
abbrev FS.REC_TRIG_MISSED : Nat := 82
abbrev FS.REC_CAPTURE_DONE : Nat := 83
abbrev FS.DISP_THREAD_TRAP : Nat := 88
abbrev FS.DISP_PORT_FULL : Nat := 89
abbrev FS.DISP_FLOW_FULL : Nat := 90
abbrev FS.DISP_LOCK_ERR : Nat := 91
abbrev FS.DISP_RUN_LIMIT : Nat := 92
abbrev FS.DISP_LOCKSTEP : Nat := 93
abbrev FS.DISP_TICK_MISS : Nat := 94
abbrev FS.TOPO_MISMATCH : Nat := 96
abbrev FS.TOPO_CONFLICT : Nat := 97
abbrev FS.TOPO_UNIT_ABSENT : Nat := 98
abbrev FS.MGRD_CORRECTED : Nat := 104
abbrev FS.MGRD_SRAM_UE : Nat := 105
abbrev FS.MGRD_TABLE_UE : Nat := 106
abbrev FS.MGRD_MIRROR_DIFF : Nat := 107
abbrev FS.MGRD_PARITY : Nat := 108
abbrev FS.MGRD_REMAP_FULL : Nat := 109
abbrev FS.MGRD_SCRUB_SLOW : Nat := 110
abbrev FS.MGRD_SELFTEST : Nat := 111
abbrev FS.SAFE_DEMAND : Nat := 112
abbrev FS.SAFE_IN_DISCREPANCY : Nat := 113
abbrev FS.SAFE_IN_TEST : Nat := 114
abbrev FS.SAFE_OUT_DEGRADED : Nat := 115
abbrev FS.SAFE_OUT_LOCKOUT : Nat := 116
abbrev FS.SAFE_SS_ENVELOPE : Nat := 117
abbrev FS.SAFE_CHANNEL : Nat := 118
abbrev FS.SAFE_PANEL : Nat := 119
abbrev FS.TWIN_HB_LOSS : Nat := 120
abbrev FS.TWIN_CLAIM : Nat := 121
abbrev FS.TWIN_REVERT : Nat := 122
abbrev FS.TWIN_NO_STANDBY : Nat := 123
abbrev FS.TWIN_CFG_MISMATCH : Nat := 124
abbrev FS.TWIN_MIRROR_LAG : Nat := 125
abbrev FS.TWIN_SWAP_FAIL : Nat := 126
abbrev FS.TWIN_NO_ACTIVE : Nat := 127

/-- Severity of every assigned source (R325, R326 and each chapter's own table of sources). -/
def sourceSeverities : List (Nat × Nat) := [
  (0, 1), (1, 0), (2, 2), (3, 3), (4, 2), (5, 1), (6, 0), (7, 0), (8, 2), (9, 1),
  (10, 1), (11, 0), (12, 1), (13, 1), (14, 1), (15, 1), (16, 2), (17, 1), (18, 2), (19, 1),
  (20, 0), (21, 1), (22, 0), (23, 2), (24, 0), (25, 0), (26, 1), (27, 0), (28, 1), (29, 0),
  (30, 0), (31, 1), (32, 1), (33, 0), (34, 1), (35, 0), (36, 1), (37, 0), (38, 0), (40, 1),
  (41, 0), (42, 0), (43, 0), (48, 1), (49, 0), (50, 1), (51, 0), (52, 1), (53, 0), (56, 2),
  (57, 2), (58, 3), (59, 1), (60, 1), (64, 1), (65, 2), (66, 0), (67, 2), (72, 1), (73, 1),
  (74, 1), (75, 1), (76, 2), (80, 1), (81, 0), (82, 0), (83, 0), (88, 1), (89, 1), (90, 0),
  (91, 1), (92, 1), (93, 3), (94, 0), (96, 1), (97, 1), (98, 0), (104, 0), (105, 2), (106, 2),
  (107, 2), (108, 1), (109, 1), (110, 0), (111, 3), (112, 1), (113, 3), (114, 3), (115, 1), (116, 3),
  (117, 3), (118, 3), (119, 1), (120, 1), (121, 1), (122, 1), (123, 1), (124, 1), (125, 0), (126, 1),
  (127, 3)]

/-- Severity of source `n`; `none` for a reserved number, which is never raised (R325). -/
def sourceSeverity (n : Nat) : Option Nat := (sourceSeverities.find? (fun p => p.1 == n)).map (·.2)

/-- S3ACT of source `n` (R327): 0 for a source that is not S3, 2 for DISP_LOCKSTEP and MGRD_SELFTEST, 3 for the safety
unit's and the twin unit's S3 sources, 1 for the other S3 sources. -/
def sourceS3Act (n : Nat) : Nat :=
  if sourceSeverity n ≠ some 3 then 0
  else if n = FS.DISP_LOCKSTEP ∨ n = FS.MGRD_SELFTEST then 2
  else if 112 ≤ n ∧ n ≤ 127 then 3 else 1

/-- Whether address `a` is one of the copies of a family that starts at `b`. -/
def inCopies : List (Nat × Nat) → Nat → Nat → Bool
  | [], b, a => a == b
  | (n, st) :: ds, b, a =>
    match ds with
    | [] => decide (b ≤ a) && (a - b) % st == 0 && decide ((a - b) / st < n)
    | _ => decide (b ≤ a) && decide ((a - b) / st < n) && inCopies ds b (b + (a - b) % st)

/-- The family that a register address belongs to; `none` where no register stands (R8). -/
def regFamilyAt (a : Nat) : Option RegFamily := regFamilies.find? (fun f => inCopies f.dims f.base a)

/-- Reset value of the register at `a`: the families' own, with the per-lane and per-source values of R82, R86, R327. -/
def regReset (a : Nat) : Word :=
  if a = 0x20000 ∨ a = 0x20400 then 0x0F10
  else if 0x20000 ≤ a ∧ a < 0x28000 ∧ a % 0x400 = 0 then 0x0010
  else if a = 0x20430 then 0x3000
  else if 0x20000 ≤ a ∧ a < 0x28000 ∧ a % 0x400 = 0x30 then 0x2000
  else if 0xB0400 ≤ a ∧ a < 0xB0600 ∧ a % 4 = 0 then
    let n := (a - 0xB0400) / 4
    match sourceSeverity n with
    | none => 0
    | some v => BitVec.ofNat 32 (v * 2 ^ 30 + sourceS3Act n * 2 ^ 28 + (if 2 ≤ v then 2 ^ 9 else 0))
  else match regFamilyAt a with
    | some f => BitVec.ofNat 32 f.reset
    | none => 0

end Sys2Proof.Machine
end

