-- ==== Sys2Proof/Machine/State.lean ====
section
/-!
DEFINITION. State.lean: every piece of state the spec gives the EPL9460, as plain data. Registers are held by address
(`regs`, R8) and read through the register map; what a register only shows of other state is computed when it is read.
Each field's comment gives the file and rule that names it and its value after reset.
-/
namespace Sys2Proof.Machine
open Sys2Proof

/-- Stops of the machine. No meaning of this model raises one: every command of the table has an effect the spec gives,
so every step goes on (safe: a stop would only leave claims unprovable). -/
inductive Fault where
  /-- Raised by nobody; kept so that the outcome type has a fault reason. Safe. -/
  | none
  deriving DecidableEq, Repr

/-- Refusals of the machine. -/
inductive Refusal where
  /-- Raised by an arm of `exec` whose command has no meaning yet; safe. -/
  | notModelled (mnemonic : String)
  deriving DecidableEq, Repr

/-- The clock and the tick (02_tick_and_time.md). Times in ps; `nowPs` is elapsed time since power, `timePs` global time. -/
structure Clk where
  /-- Power-on reset asserted (17 R429); true at reset. -/
  por : Bool := true
  /-- The clock monitor sees the system or pulse clock stopped (06 R200); false. -/
  stopped : Bool := false
  /-- REFCLK present and PLLs locked (17 R431); false. -/
  refclk : Bool := false
  /-- Elapsed time, ps (the model's own clock for durations, 00 R5); 0. -/
  nowPs : Nat := 0
  /-- Global time, ps (00 R6, 02 R42); 0. -/
  timePs : Nat := 0
  /-- Time of the pulse clock, ps (00 R5, 06 R180): it slews with global time but never steps; 0. -/
  pulsePs : Nat := 0
  /-- Tick boundaries met (06 R188); 0. -/
  bounds : Nat := 0
  /-- Tick length in use, clk (02 R43); 4,000. -/
  tickLen : Nat := 4000
  /-- Phase map in use, clk: SAMPLE, UP, TALLY, LOOP_END, DOWN (02 R43, R58); the registers' reset values. -/
  phSample : Nat := 250
  phUp : Nat := 400
  phTally : Nat := 880
  phLoopEnd : Nat := 2500
  phDown : Nat := 3500
  /-- Global time in ps of the boundary of the tick in progress (02 R41); 0. -/
  tickStart : Nat := 0
  /-- Tick number (02 R41) and the global time in ps of the next boundary (02 R41, R43); 0, 8 µs. -/
  tickNum : Nat := 0
  nextAt : Nat := 8000000
  /-- Whether this tick's TALLY merge has been made, the elapsed ps at which it was, and whether the up frame it leads to
  has left (02 R58); false. -/
  merged : Bool := false
  mergeAt : Nat := 0
  upSent : Bool := false
  /-- An allocation or split under way: elapsed ps of its start (02 R58, R59); none. -/
  allocAt : Option Nat := none
  /-- Whether this tick's down tick frames have been formed (02 R59); false. -/
  allocated : Bool := false
  /-- HI latch of TICK_TIME (02 R41 register table); 0. -/
  timeLatch : Nat := 0
  /-- An accepted TIME_SET waiting for its load instant: the command, the value in ns, its mode, time of acceptance (02 R42, R70); none. -/
  timeSet : Option (Packet × Nat × Nat × Nat) := none
  /-- Elapsed time of the last counted PPS_IN edge, ns (02 R54); none. -/
  ppsEdge : Option Nat := none
  /-- Whether PPS_LOSS has been raised since the last edge (02 R54); false. -/
  ppsLost : Bool := false
  /-- Frequency correction in parts per 10^12 (02 R45, R53); 0. -/
  freq : Int := 0
  /-- Global time passed and not yet counted, in 10^-12 ps, and the elapsed ns of the last change of frequency (02 R45, R53); 0. -/
  freqRem : Nat := 0
  freqAt : Nat := 0
  /-- End of the PPS_OUT pulse, elapsed ns (02 R55); none. -/
  ppsOutUntil : Option Nat := none
  /-- Consecutive ticks with |TICK_OFFSET| at most 2 ns (02 R48); 0. -/
  goodTicks : Nat := 0
  /-- Consecutive ticks with |TICK_OFFSET| above 20 ns (02 R49); 0. -/
  badTicks : Nat := 0
  /-- The node has stepped to its parent in this SYNC (02 R48); false. -/
  stepped : Bool := false
  /-- TICK_SYNC_LOSS raised in this stay in SYNC (02 R48); false. -/
  syncRaised : Bool := false
  /-- A Floret holds because its offset is above 1 µs (02 R49); false. -/
  farOff : Bool := false
  deriving DecidableEq, Repr

/-- The node as a whole: start-up, image, credit, panel, pins (17, 18). -/
structure Node where
  /-- Elapsed time at which the node entered its state, ns (17 R431); 0. -/
  since : Nat := 0
  /-- Elapsed time of the last entry to RUN, ns (01 R37); 0. -/
  runAt : Nat := 0
  /-- Last byte written to an I²C multiplexer, by bus: its address and the byte (03 R86); none. -/
  mux : List (Nat × (Nat × Nat)) := []
  /-- A LOCKOUT action taken before CONFIG, carried out on entry to CONFIG (12 R328); false. -/
  lockoutDue : Bool := false
  /-- The node met R48 in this start-up, so LOAD and later states keep tick alignment (02 R49); false. -/
  synced : Bool := false
  /-- SYS_CREDIT_WAIT raised in this wait (17 R443); false. -/
  creditWaitRaised : Bool := false
  /-- Elapsed times of the budget's last events, ns (17 R444); none. -/
  credits : List Nat := []
  /-- Elapsed times at which lanes last left PEND, ns (03 R75); none. -/
  pendAt : List Nat := []
  /-- Consecutive clean ticks for BLK_HOLD (17 R434); 0. -/
  blkClean : Nat := 0
  /-- Consecutive clean frames for the frame causes and POWERUP (13 R357); 0. -/
  frameClean : Nat := 0
  /-- This tick's obeyed frame carried BLOCK or SGR, or none was obeyed (13 R357); false. -/
  frameDirty : Bool := false
  /-- Flash contents beyond FFh, by flash offset (17 R440); erased. -/
  flash : List (Nat × Byte) := []
  /-- A flash erase or check under way: command, slot, true for an erase (17 R450); none. -/
  flashOp : Option (Packet × Nat × Bool) := none
  /-- Staged image: IMG_ID, LENGTH, blocks taken, time of the last block (17 R441); none. -/
  imgId : Option Nat := none
  imgLen : Nat := 0
  imgBlocks : List (Nat × List Byte) := []
  imgLast : Nat := 0
  /-- Recorder pages that hold the staged blocks (17 R441); none. -/
  imgPages : List Nat := []
  /-- A whole image waits for its verification (17 R438): its bytes and the BOOT code of its source; none. -/
  imgPend : Option (List Byte × Nat) := none
  /-- Slots of the flash already refused in this LOAD (17 R440); 0. -/
  slotsTried : Nat := 0
  /-- Elapsed end of the IDENT pattern, ns (17 R448); 0. -/
  identEnd : Nat := 0
  /-- Elapsed end of the eject-refused display, ns (17 R448); 0. -/
  ejectRefused : Nat := 0
  /-- Level of the LED balls (17 R447); all dark. -/
  leds : BitVec 4 := 0
  /-- Level of the PPS_OUT ball (02 R55); low. -/
  ppsOut : Bool := false
  /-- Key slots (04 R467): slot and its key; empty. -/
  keys : List (Nat × List Byte) := []
  /-- JTAG instruction register, boundary scan in use (18 R464); IDCODE, no. -/
  jtagIr : BitVec 5 := 2
  bscan : Bool := false
  /-- BOARD of the profile table in force (03 R81); 0. -/
  board : Nat := 0
  /-- Supplies outside their window, bit per supply as SYS_SUPPLY.OUT (17 R430); none. -/
  supplyOut : BitVec 5 := 0
  deriving DecidableEq, Repr

/-- One item in a lane's transmit buffer: its priority under R99, the lane it came in on (32: the node itself), whether
it is an Ethernet frame of a host port (R106), and its bytes. -/
structure TxItem where
  prio : Nat := 6
  inLane : Nat := 32
  /-- Elapsed clk in which it became ready (03 R99). -/
  ready : Nat := 0
  eth : Bool := false
  /-- A cut-through copy whose input CRC failed ends with /V/ (R102). -/
  bad : Bool := false
  bytes : List Byte := []
  deriving DecidableEq, Repr

/-- A message under assembly from fragments (03 R96). -/
structure RxMsg where
  next : Nat := 0
  mcast : Bool := false
  data : List Byte := []
  deriving DecidableEq, Repr

/-- One lane beyond its registers (03_ihluri_link.md). -/
structure Lane where
  /-- Elapsed time of entry to the present lane state, ns (03 R74); 0. -/
  since : Nat := 0
  /-- Number of the image whose MIRROR message is leaving (14 R382); 0. -/
  mirrorNo : Nat := 0
  /-- Waiting segments in order of arrival (03 R99, R100); none. -/
  txq : List TxItem := []
  /-- Segment in progress (03 R98), and the elapsed ps at which it started; none. -/
  txNow : Option TxItem := none
  txAt : Nat := 0
  /-- Last tick frame sent (03 R98); none. -/
  txFrame : List Byte := []
  /-- Code-groups of the last frame or segment sent, with those of a segment suspended for the frame (03 R72, R98); none. -/
  line : List Sym := []
  /-- Messages under assembly by KIND, class and DEST (03 R96, R99); none. -/
  rx : List (Nat × RxMsg) := []
  /-- Consecutive valid matching HELLO segments (03 R77); 0. -/
  hellos : Nat := 0
  /-- Elapsed time of the last HELLO sent, ns (03 R74); 0. -/
  helloAt : Nat := 0
  /-- Elapsed times of the last losses at the present rate, of failing tick frames and of dropped segments (03 R79, R80, R89, R100); none. -/
  lossAt : List Nat := []
  badAt : List Nat := []
  dropAt : List Nat := []
  /-- Down frames on this downlink: 0 none, 1 from the next tick, 2 sent (03 R78); 0. -/
  sends : Nat := 0
  /-- The lane has carried tick frames; consecutive ticks without a valid one (03 R79); false, 0. -/
  carried : Bool := false
  miss : Nat := 0
  /-- A valid tick frame arrived in this tick (03 R79, R89); false. -/
  got : Bool := false
  /-- This tick's valid frame, in the order received (03 R91, R93); none. -/
  frame : List Byte := []
  /-- Stamps in 125 ps of the last down frames sent, newest first (02 R50); none. -/
  t1 : List Nat := []
  /-- Stamp in 125 ps of the last down frame received since the last up frame sent (02 R50, 03 R93 TURN); none. -/
  t2 : Option Nat := none
  /-- Measured one-way down delay, ps (02 R50); none. -/
  delay : Option Nat := none
  /-- Offset measured on this uplink or cross-link by its last frame, ps (02 R46, R50); none. -/
  offset : Option Int := none
  /-- ASSIGN payload repeated on this downlink until it is answered (01 R31); none. -/
  assign : List Byte := []
  assignAt : Nat := 0
  /-- Fragments of that ASSIGN which wait for room in the transmit buffer (03 R100); none. -/
  assignRest : List (List Byte) := []
  /-- The uplink is not used again until warm reset (01 R33); false. -/
  banned : Bool := false
  /-- Profile loaded for each rate code: TX_PRE, TX_POST, TX_SWING, RX_CTLE, POL as LANE_EQ (03 R82); defaults. -/
  eq : List (Nat × Nat) := []
  /-- PRBS test: elapsed end in ns, start (03 R84); 0. -/
  prbsEnd : Nat := 0
  prbsStart : Nat := 0
  /-- Generator (03 R83): its register at the start of the test, as the pattern's latest bits, newest in bit 0; 0. -/
  prbsSeed : Nat := 0
  /-- Checker (03 R83): the latest bits, newest first, that it predicts from; consecutive error-free bits; which of the
  last 128 bits were errors, newest first; none. -/
  prbsPast : List Bool := []
  prbsGood : Nat := 0
  prbsWin : List Bool := []
  /-- Clause 37 base page being sent (03 R105); 0. -/
  anPage : BitVec 16 := 0
  /-- Module polls: consecutive low polls, low warning level, failed attempts, external calibration known (03 R87); 0. -/
  lowPolls : Nat := 0
  /-- The module has been read since the lane left OFF; elapsed ns of the last read (03 R87); false, 0. -/
  modRead : Bool := false
  polledAt : Nat := 0
  lowWarn : Nat := 0
  modFail : Bool := false
  /-- Module transfer held by a device: the command (03 R88); none. -/
  i2c : Option Packet := none
  i2cAt : Nat := 0
  /-- Powered up by TREE_SURVEY only (01 R40); false. -/
  survey : Bool := false
  /-- The far end of this uplink reports RX_OK (03 R77, R97); false. -/
  rxOk : Bool := false
  /-- Far address from HELLO (01 R40); FFFFh. -/
  farAddr : Nat := 0xFFFF
  /-- Sum and number of the received powers polled in this hour; hourly margins in 0.01 dB, oldest first (15 R406); none. -/
  powSum : Nat := 0
  powN : Nat := 0
  marginHist : List Int := []
  /-- Code-groups sent and received other than idle: elapsed ns and how many, over the last 1 ms (03 LANE_LOAD); none. -/
  txLog : List (Nat × Nat) := []
  rxLog : List (Nat × Nat) := []
  deriving DecidableEq, Repr

/-- One pool of handles (04 R121 to R126): free indices in the order they were freed, generations, live objects. -/
structure Handle where
  /-- SOURCE of the creator, time of creation (04 R136 HANDLE_INFO). -/
  source : BitVec 16 := 0
  created : Nat := 0
  /-- The destroy command while the object is being stopped (04 R126); none. -/
  dying : Option Packet := none
  deriving DecidableEq, Repr

structure Pool where
  free : List Nat := []
  /-- Generations other than 1 (04 R124). -/
  gens : List (Nat × Nat) := []
  live : List (Nat × Handle) := []
  deriving DecidableEq, Repr

/-- Number of indices of each handle type (04 R121). -/
def poolSize (ty : Nat) : Nat :=
  ([0, 32, 4, 4, 16, 8, 128, 64, 64, 8, 64] : List Nat).getD ty 0

/-- A pool after power-on reset: indices free in ascending order, generation 1 (04 R122, R124). -/
def Pool.fresh (ty : Nat) : Pool := { free := List.range (poolSize ty) }

/-- A session (04 R128): requester, TARGET, key slot, key, last counter, time of the last accepted command. -/
structure Session where
  source : BitVec 16 := 0
  target : BitVec 13 := 0
  slot : Nat := 0
  key : List Byte := []
  counter : Nat := 0
  last : Nat := 0
  deriving DecidableEq, Repr

/-- A tracked command at its entry node (04 R117): SOURCE, SEQ, deadline in elapsed ns, class, and for a class-0
command in the slots the tick of its entry and its target. -/
structure Tracked where
  source : BitVec 16 := 0
  seq : BitVec 16 := 0
  opcode : BitVec 16 := 0
  cls : Nat := 1
  deadline : Nat := 0
  slotTick : Option Nat := none
  unit : Nat := 0
  /-- The command has no reply (NO_REPLY or MCAST, 04 R112). -/
  silent : Bool := false
  deriving DecidableEq, Repr

/-- A command that asked its node for segments of a KIND (09 R275, R278; 12 R341; 15 R407): its requester, where that
requester's answers go (Ethernet address of the port's frame, or the core's number), the node and handle it named. -/
structure Stream where
  kind : Nat := 0
  source : BitVec 16 := 0
  mac : Nat := 0
  target : BitVec 13 := 0
  handle : Word := 0
  seq : BitVec 16 := 0
  /-- Lane on which the page being read out comes in, and its next fragment (03 R96, 09 R278); none, 0. -/
  lane : Option Nat := none
  next : Nat := 0
  deriving DecidableEq, Repr

/-- The command interpreter (04_commands_and_handles.md). -/
structure Cmd where
  /-- Waiting commands with their opcode, classes 1 to 3 (04 R118); none. -/
  q1 : List (Nat × Packet) := []
  q2 : List (Nat × Packet) := []
  q3 : List (Nat × Packet) := []
  /-- Class-0 commands waiting at the Meadow (04 R116): packet bytes; none. -/
  c0q : List (List Byte) := []
  /-- Slots to place in the next down frames by unit's first lane (04 R115); none. -/
  slots : List (Nat × List Byte) := []
  /-- Slots of this tick's down frames (04 R115); none. -/
  slotsOut : List (Nat × List Byte) := []
  /-- Reply slot of the next tick's up frame and of this tick's (04 R115); none. -/
  replySlot : List Byte := []
  replyOut : List Byte := []
  /-- Bytes of the last reply the node sent (the model's own record of its output); none. -/
  sent : List Byte := []
  /-- A command holds execution until its reply (04 R118); none. -/
  busy : Option (Nat × Packet) := none
  tracked : List Tracked := []
  /-- Commands whose TIMEOUT reply has been delivered, by SOURCE and SEQ (04 R117); none. -/
  timedOut : List Nat := []
  /-- Pools of handles by type (04 R121 to R124); fresh. -/
  pools : List (Nat × Pool) := []
  sessions : List (Nat × Session) := []
  /-- Elapsed times of the last authentication refusals, ns (04 R129); none. -/
  denyAt : List Nat := []
  /-- The last packet taken from the QSPI port's mailbox, and its reply buffer (04 R132); none. -/
  mbx : List Byte := []
  qspiReply : List Byte := []
  /-- Bytes last driven to the QSPI master (04 R132); none. -/
  qspiOut : List Byte := []
  /-- Replies for the node's own cores, oldest first, each with its core (4: the safety pair) (04 R112); none. -/
  coreReplies : List (Nat × List Byte) := []
  /-- Subscriptions and readouts entered at this node (03 R106, 12 R341, 09 R278); none. -/
  streams : List Stream := []
  /-- By SOURCE and SEQ of a tracked or running command: source MAC of the frame that carried it (03 R106), or the core
  that gave it (04 R112); none. -/
  hostSrc : List (Nat × Nat) := []
  /-- Session keys of TIME_READ replies that wait to leave, by SOURCE and SEQ (02 R70, 04 R129); none. -/
  stampKeys : List (Nat × List Byte) := []
  /-- Handle granted to the safety pair at allocator port 0 (04 R123); 0. -/
  pairHandle : Word := 0
  /-- Segments that left each lane before a warm reset began (04 R136, R109); none. -/
  flushed : List (Nat × List Byte) := []
  deriving DecidableEq, Repr

/-- A closed first-fault record (12 R334, R344). -/
structure HubRec where
  id : Nat := 0
  source : Nat := 0
  flags : Nat := 0
  merges : Nat := 0
  opened : Nat := 0
  closed : Nat := 0
  firstSet : List Nat := []
  merged : List Nat := []
  deriving DecidableEq, Repr

/-- A subscriber of EVENT or LIFE segments: SOURCE and the source MAC of its subscription (12 R341, 15 R410). -/
structure Subscriber where
  source : BitVec 16 := 0
  mac : Nat := 0
  deriving DecidableEq, Repr

/-- The fault hub (12_fault_hub.md). -/
structure Hub where
  /-- Sources raised in this step and not yet evaluated (12 R329); none. -/
  raised : List Nat := []
  /-- Global time at which the reaction timer expires, ns (12 R332); none. -/
  react : Option Nat := none
  /-- Elapsed end of OUT_MIN, ns (12 R336); 0. -/
  outMin : Nat := 0
  /-- Closed records, newest first (12 R335); none. -/
  history : List HubRec := []
  subs : List Subscriber := []
  /-- Elapsed times of the last EVENT segments sent, ns (12 R340); none. -/
  eventAt : List Nat := []
  /-- HI latch of FHUB_REC_TIME (12, register table); 0. -/
  timeLatch : Nat := 0
  /-- Level of the FAULT_OUT_N ball as an outside driver sets it against the part (12 R337); none. -/
  ball : Option Bool := none
  deriving DecidableEq, Repr

/-- A Tally (05 R144, R145, 03 R93). -/
structure Tally where
  bins : List Nat := List.replicate 32 0
  avail : Nat := 0
  unavail : Nat := 0
  stale : Nat := 0
  vsum : Nat := 0
  tmax : Nat := 0
  fcount : Nat := 0
  deriving DecidableEq, Repr

/-- A child unit, held under its first lane (01 R20, 05 R146). -/
structure UnitSt where
  /-- Configured capacity, string (16: none), twin unit (01 R21, R25). -/
  capacity : Nat := 0
  string : Nat := 16
  twin : Bool := false
  /-- Tally used in the last merge, and the last one received on time (02 R61). -/
  used : Tally := {}
  last : Tally := {}
  /-- 0 on time, 1 stale, 2 excluded, 3 absent (05 R170); consecutive misses. -/
  status : Nat := 3
  misses : Nat := 0
  /-- This tick's selected up frame (01 R22); none. -/
  frame : List Byte := []
  /-- Member selected last: false A, true B; whether any up frame of it was taken (14 R377). -/
  memberB : Bool := false
  known : Bool := false
  takenB : Bool := false
  /-- Share, token, HOLD of this tick's down frame (05 R152, 02 R61). -/
  share : Nat := 0
  token : Bool := false
  hold : Bool := false
  /-- Threshold bin, direction, fraction and IARM of this tick's down frame (05 R148, R151, R152). -/
  thresh : Nat := 0
  dir : Nat := 0
  frac : Nat := 0
  iarm : Nat := 0
  /-- CREDIT is set in its frames until CREDIT_REQ clears; its bring-up has been spent (17 R444). -/
  credit : Bool := false
  raised : Bool := false
  /-- TOPO_UNIT_ABSENT raised (01 R37). -/
  absentRaised : Bool := false
  /-- It lost its last assigned member in RUN or HOLD (01 R37). -/
  lost : Bool := false
  deriving DecidableEq, Repr

/-- A Floret's decision (05 R158): cells inserted, polarity, trim cell and time. -/
structure Decision where
  thresh : Nat := 0
  dir : Nat := 0
  share : Nat := 0
  token : Bool := false
  frac : Nat := 0
  neg : Bool := false
  insert : List Nat := []
  trim : Option Nat := none
  trimPclk : Nat := 0
  /-- IARM of the frame decided on, 24 bits (15 R399). -/
  iarm : Nat := 0
  deriving DecidableEq, Repr

/-- Yarrow (05_yarrow_balancing.md). -/
structure Yar where
  /-- Last Tally of the node and the tick it was made in (05 R144, R145); zeros. -/
  own : Tally := {}
  ownTick : Nat := 0
  /-- Last merge of each string at the Meadow (05 R145); zeros. -/
  strings : List (Nat × Tally) := []
  /-- Decision made in this tick, and the one applied at the last boundary (05 R157, R160); none. -/
  pend : Option Decision := none
  cur : Option Decision := none
  /-- A decision has been applied since entry to RUN (05 R141); false. -/
  applied : Bool := false
  /-- IARM of the last valid frame, 24 bits (05 R162); 0. -/
  iarm : Nat := 0
  /-- Pclk at which the trim pulse in progress ends (05 R156); none. -/
  trimEnd : Option Nat := none
  /-- The node held in the last tick (03 R93 HELD), and sends HOLD in every down frame of this one (05 R162); false. -/
  held : Bool := false
  allHold : Bool := false
  /-- An Umbel's pointer before the split of this tick (05 R152); 0. -/
  ptr0 : Nat := 0
  /-- What the split of this tick counted in SHORTFALL and in TOK_LOST, and whether YAR_SHORTFALL was raised (05 R154, R155);
  0, false. -/
  short0 : Nat := 0
  lost0 : Nat := 0
  shortSaid : Bool := false
  deriving DecidableEq, Repr

/-- The tree below and above the node (01_converter_tree.md). -/
structure Tree where
  /-- Topology record in force at a Meadow: STRINGS, entries of 16 bytes in record order (01 R28); none. -/
  strings : Nat := 0
  record : List (List Byte) := []
  /-- ASSIGN payload taken by an Umbel or Floret, and the uplink it came on (01 R33); none. -/
  taken : List Byte := []
  takenLane : Nat := 0
  /-- Elapsed clk in which that ASSIGN was complete (01 R33); none. -/
  takenAt : Option Nat := none
  /-- Up frames: 0 none, 1 from the next tick, 2 sent (03 R78); 0. -/
  upSends : Nat := 0
  /-- TREE_SURVEY under way: command, lanes, elapsed end (01 R40); none. -/
  survey : Option (Packet × Nat × Nat) := none
  deriving DecidableEq, Repr

/-- A carrier channel on a pair (06 R184 to R191). Times are pclk. -/
structure Chan where
  /-- Pclk of the first period's start while SWU_START waits, and its command; none. -/
  startAt : Option Nat := none
  startCmd : Option Packet := none
  /-- SWU_STOP asked for at the end of the period; none. -/
  stopCmds : List Packet := []
  /-- Pclk of the start of the period in progress, and of the next one. -/
  periodAt : Nat := 0
  nextAt : Nat := 0
  /-- Changes of logical state still to come in the period: time, true for even (06 R187). -/
  changes : List (Nat × Bool) := []
  /-- SWU_COMMIT given for the next update point (06 R190). -/
  commit : Bool := false
  /-- Boundaries met at the last update point (06 R188). -/
  updTick : Nat := 0
  halfRaised : Bool := false
  deriving DecidableEq, Repr

/-- A pair of gate outputs (06 R171). -/
structure PairSt where
  /-- Logical state: none at the safe level, some true for even, some false for odd (06 R177); none. -/
  logical : Option Bool := none
  /-- Edges in order of their times in pclk: even output or not, on or off (06 R179); none. -/
  edges : List (Nat × Bool × Bool) := []
  /-- It is forced, the pclk at which that began, and that of the last edge of the even and of the odd output among those no longer
  listed (06 R198); false, 0. -/
  isForced : Bool := false
  forcedAt : Nat := 0
  evenAt : Nat := 0
  oddAt : Nat := 0
  /-- The pair stays at its safe level until its next point of application (06 R197); false. -/
  waits : Bool := false
  /-- Elapsed ns of the last change of logical state (15 R397); 0. -/
  changed : Nat := 0
  chan : Chan := {}
  deriving DecidableEq, Repr

/-- The switching unit beyond its registers (06_cell_switching.md). -/
structure Swu where
  pairs : List (Nat × PairSt) := []
  /-- Levels of the FAULTIN and GOFB balls (06 R192, R198); low. -/
  faultin : BitVec 8 := 0
  gofb : BitVec 8 := 0
  /-- Next alternate bypass uses the upper switches (06 R178); false. -/
  bypUpper : Bool := false
  deriving DecidableEq, Repr

/-- A live loop (07 R213, R232). -/
structure LoopSt where
  /-- The 88-byte descriptor and the block slots of 16 bytes each (07 R216, R232). -/
  desc : List Byte := []
  blocks : List (List Byte) := []
  /-- The next run takes the region of VAR with no hysteresis (07 R220). -/
  fresh : Bool := false
  deriving DecidableEq, Repr

/-- What a run leaves to be committed (07 R222): signals, state words, regions, ramps, substituted results. -/
structure LoopRun where
  sigs : List (Nat × Word) := []
  words : List (Nat × Word) := []
  regions : List (Nat × Nat) := []
  ran : List Nat := []
  ramps : List (Nat × Word) := []
  numeric : Nat := 0
  /-- Elapsed ns at which the window opened, and clk the run takes, commit included. -/
  opened : Nat := 0
  clks : Nat := 0
  deriving DecidableEq, Repr

/-- The loop engine beyond its registers (07_loop_engine.md). -/
structure LoopEng where
  loops : List (Nat × LoopSt) := []
  /-- State words: slot k has words 2k and 2k + 1 (07 R216); 0. -/
  words : List (Nat × Word) := []
  /-- A run that has not committed yet (07 R222); none. -/
  run : Option LoopRun := none
  /-- Safe Stop ramp values by string (07 R228); none. -/
  ramps : List (Nat × Word) := []
  /-- Strings whose Safe Stop has been seen at a window (07 R228); none. -/
  ssSeen : List Nat := []
  /-- PERIOD and DUTY values of ports 32 on, written at the next boundary (07 R227); none. -/
  portWrites : List (Nat × Nat) := []
  /-- Bits seen set in each relay slot's byte 108 (07 R211, R212); 0. -/
  relaySeen : List (Nat × Nat) := []
  /-- The loop program of this tick has completed (02 R65); true. -/
  done : Bool := true
  deriving DecidableEq, Repr

/-- A bypass output that is firing (13 R364): start in elapsed ns, its command, readbacks seen on. -/
structure Fire where
  since : Nat := 0
  cmd : Option Packet := none
  fbA : Bool := false
  fbB : Bool := false
  /-- Its outcome is known (13 R364). -/
  decided : Bool := false
  deriving DecidableEq, Repr

/-- The safety unit beyond its registers (13_safety_unit.md). Channels are numbered 2n for A and 2n + 1 for B. -/
structure Safe where
  /-- The record in force (13 R347, R348); none. -/
  record : List Byte := []
  /-- Input channels whose level has stood FILT since power-on or warm reset (13 R350); none. -/
  known : List (Nat × Bool) := []
  /-- Start of the discrepancy timer of each input, elapsed ns (13 R351); not running. -/
  disc : List (Nat × Option Nat) := []
  /-- The discrepancy that stands at an input has run out its timer (13 R351); false. -/
  discOver : List (Nat × Bool) := []
  /-- REARM progress: 1 both channels have still to stand at demand, 2 both at normal (13 R351); 0. -/
  rearm : List (Nat × Nat) := []
  /-- Consecutive failed test pulse checks, by channel and kind of check (13 R352); 0. -/
  tp : List (Nat × Nat) := []
  /-- Levels that the INPUT and COMMAND causes carry (13 R353); 0. -/
  inputLvl : Nat := 0
  commandLvl : Nat := 0
  /-- Elapsed ps at which each cause was last set, by its SAFE_CAUSE bit (13 R354); none. -/
  setAt : List (Nat × Nat) := []
  /-- Consecutive cycles of channel B with a difference, and missed (13 R346); 0. -/
  diffs : Nat := 0
  missed : Nat := 0
  /-- Channel B has been lost (13 R346); false. -/
  chbLost : Bool := false
  /-- Highest level that channel B formed in its last cycle, POWERUP apart (13 R345); 0. -/
  chbLevel : Nat := 0
  /-- Elapsed ns of channel B's last cycle, and of the last SOFB sample of each output channel (13 R345, R361); 0. -/
  cycleAt : Nat := 0
  sampleAt : List (Nat × Nat) := []
  /-- Safe Stop by string: start in elapsed ns, merge instants above the limit and not fresh, start of settling (13 R359). -/
  ssAt : List (Nat × Nat) := []
  ssOver : List (Nat × Nat) := []
  ssStale : List (Nat × Nat) := []
  ssSettle : List (Nat × Option Nat) := []
  /-- Strings in Safe Gate Removal, bit per string (13 R356, R358); none. -/
  ssSgr : Nat := 0
  /-- Safe Stop has ended and the level-1 causes count 3 (13 R359); false. -/
  ssEnded : Bool := false
  /-- Elapsed ns since which a cause of level 3 stands (13 R355, 17 R442); none. -/
  sgrSince : Option Nat := none
  /-- GDS_DELAY has run out while it stands (13 R355, R360); false. -/
  gdsOff : Bool := false
  /-- Elapsed ns of the last change of each output channel, consecutive mismatches, channel faults (13 R361, R363). -/
  changeAt : List (Nat × Nat) := []
  mism : List (Nat × Nat) := []
  chFault : List (Nat × Bool) := []
  /-- End of the degraded time of each output, elapsed ns (13 R363); none. -/
  degEnd : List (Nat × Option Nat) := []
  /-- Outputs that are firing (13 R364); none. -/
  fire : List (Nat × Option Fire) := []
  /-- Elapsed ns at which BYP_AUTO outputs fire (13 R364); none. -/
  bypAt : Option Nat := none
  /-- ACK_N: elapsed ns since which it is low or high, and whether a long press bars presses until 1 s high (13 R365). -/
  ackLow : Option Nat := none
  ackHigh : Nat := 0
  ackBarred : Bool := false
  /-- The present press went beyond 5 s (13 R365); false. -/
  ackLong : Bool := false
  /-- End of the acknowledge window, elapsed ns (13 R365); none. -/
  winEnd : Option Nat := none
  /-- SAFE_RESET that waits for the read of ACK_NODE: command, elapsed ns, SEQ of the read (13 R366); none. -/
  remote : Option (Packet × Nat × Nat) := none
  /-- SEQ of the safety pair's next read (13 R366); 0. -/
  readSeq : Nat := 0
  deriving DecidableEq, Repr

/-- A conversion in progress on a slice (08 R235): input byte (bits [4:0] INPUT, bit 5 DIFF), who asked, when dispatched. -/
structure Conversion where
  input : Nat := 0
  /-- Sequence and entry; none for an injection. -/
  entry : Option (Nat × Nat) := none
  /-- The command of an injection; none for a register request. -/
  cmd : Option Packet := none
  /-- Elapsed ns of dispatch; tick number and global time of the sampling instant. -/
  since : Nat := 0
  tick : Nat := 0
  sampled : Nat := 0
  /-- The spare shadows this conversion (08 R250). -/
  shadowed : Bool := false
  deriving DecidableEq, Repr

/-- One converter slice: its conversion, and SETTLE conversions still to come (08 R239). -/
structure Slice where
  conv : Option Conversion := none
  settle : Nat := 0
  deriving DecidableEq, Repr

/-- A sequence: its run in progress as entries dispatched and results written, its waiting commands (08 R243, R244). -/
structure SeqSt where
  running : Bool := false
  /-- Elapsed ns of the start of the run in progress (08 R246); 0. -/
  startAt : Nat := 0
  /-- Runs of TRIG 1h and 3h to come, in pclk (08 R242); none. -/
  dues : List Nat := []
  /-- TRIG 0h: the tick whose trigger has been taken; TRIG 3h: the tick whose first change has been taken, and whether its run falls in
  the next tick. Ticks are counted from 1 by their boundaries (08 R242); 0, false. -/
  seen : Nat := 0
  carried : Bool := false
  /-- A trigger event has fallen in the clk in which the run completes (08 R243), with the command that waits for its run; false, none. -/
  again : Bool := false
  nextCmd : Option Packet := none
  next : Nat := 0
  written : Nat := 0
  startCmd : Option Packet := none
  stopCmds : List Packet := []
  stopping : Bool := false
  deriving DecidableEq, Repr

/-- A waiting injection (08 R249): its command or none, input byte, elapsed ns of the request, place in a clk's order (0 the
interpreter, 1 + n core n). -/
structure Inject where
  cmd : Option Packet := none
  input : Nat := 0
  since : Nat := 0
  rank : Nat := 0
  deriving DecidableEq, Repr

/-- The measurement unit beyond its registers (08_measurement.md). -/
structure Meas where
  slices : List (Nat × Slice) := []
  seqs : List (Nat × SeqSt) := []
  /-- Waiting injections (08 R249); none. -/
  inj : List Inject := []
  /-- Elapsed ns of the unit's last event: the work that waits since then is dispatched once that clk is over (08 R245, R246); 0. -/
  last : Nat := 0
  /-- The spare is calibrating, and the elapsed ns at which its cycle began (08 R250); false, 0. -/
  calibrating : Bool := false
  calAt : Nat := 0
  /-- Cross-check in progress: slice shadowed, comparisons made, largest difference, slice first failed against; none. -/
  shadow : Option (Nat × Nat × Nat × Option Nat) := none
  /-- Tick in which MEAS_OVR was last raised (08 R253); none. -/
  ovrTick : Option Nat := none
  deriving DecidableEq, Repr


/-- An operand: value, global time bits [31:0] at the post (10 R289). -/
structure Operand where
  value : Word := 0
  stamp : Word := 0
  deriving DecidableEq, Repr

/-- A thread: its hardware context and dispatcher state (10_cores_and_dispatch.md). -/
structure Thread where
  entry : Word := 0
  /-- Stack in KiB and its first KiB in the stack pool (10 R285). -/
  stackKb : Nat := 0
  stackAt : Nat := 0
  /-- Context: x1 to x31, f0 to f31, fcsr, pc and the two argument registers (10 R288); zeros. -/
  x : List (Nat × Word) := []
  f : List (Nat × Word) := []
  fcsr : Word := 0
  pc : Word := 0
  postArg : Word := 0
  lockArg : Word := 0
  /-- Value that the thread's last load of the thread interface returned (10 R288). -/
  loaded : Word := 0
  /-- Operands held on queue and tick ports, oldest first, by port (10 R289). -/
  held : List (Nat × List Operand) := []
  /-- Operands delivered at the last dispatch by port (10 R288 SELF_OPND, SELF_STAMP). -/
  delivered : List (Nat × Operand) := []
  /-- Locks held, latest first (10 R300). -/
  locks : List Nat := []
  /-- The next dispatch is an activation from WAITING (operands are taken) or from START (10 R290, R286). -/
  fresh : Bool := false
  started : Bool := false
  /-- Boundaries since the dispatch, and whether RUN_LIMIT was reported for it (10 R297). -/
  ran : Nat := 0
  limitSaid : Bool := false
  /-- THREAD_STOP waiting for the next wait (10 R306). -/
  stopCmds : List Packet := []
  deriving DecidableEq, Repr

/-- The dispatcher (10_cores_and_dispatch.md). -/
structure Disp where
  threads : List (Nat × Thread) := []
  /-- READY threads, the one ready longest first; a pre-empted one goes to the head (10 R296). -/
  ready : List Nat := []
  /-- Thread on each core as thread + 1; 0 none. -/
  cores : List (Nat × Nat) := []
  /-- Flow entries, oldest first (10 R295). -/
  flows : List (Nat × List Operand) := []
  /-- Threads in LOCKWAIT by lock, longest waiting first (10 R300). -/
  waiters : List (Nat × List Nat) := []
  /-- The safety pair is held in reset after DISP_LOCKSTEP, until warm reset (10 R284); false. -/
  pairReset : Bool := false
  deriving DecidableEq, Repr

/-- A line of core SRAM that waits for its refetch from the image (11 R313, R315): whether the scrubber waits for it, and the MEM_READ
(0210h) and MEM_WRITE (0211h) commands that do, first first. -/
structure PendLine where
  line : Nat := 0
  scrub : Bool := false
  cmds : List (Nat × Packet) := []
  deriving DecidableEq, Repr

/-- The memory guard beyond its registers (11_memory_guard.md). Lines are named by the key of their first byte. -/
structure Guard where
  /-- Valid bits (11 R310); none. -/
  valid : List (Nat × Bool) := []
  /-- Stored line checks that differ from the one that fits the line's bytes (11 R308, R322). -/
  checks : List (Nat × Nat) := []
  /-- Recorder bytes whose stored parity is wrong (11 R317, R322). -/
  parity : List (Nat × Bool) := []
  /-- Lines with the IMG flag (11 R312). -/
  img : List (Nat × Bool) := []
  /-- Lines PENDING an image refetch, in the order in which the flash gives them (11 R313); none. -/
  pending : List PendLine := []
  /-- Elapsed ns of the scrubber's last read (11 R319); 0. -/
  scrubAt : Nat := 0
  /-- Elapsed ns of the last MGRD_CORRECTED (11 R314); none. -/
  corrAt : Option Nat := none
  /-- MGRD_REMAP_FULL has been raised by class (11 R318). -/
  fullSaid : List Nat := []
  /-- Start of the present pass, elapsed ns, and whether MGRD_SCRUB_SLOW was raised in it (11 R319). -/
  passStart : Nat := 0
  slowSaid : Bool := false
  /-- Retired recorder pages (11 R318). -/
  retired : List Nat := []
  deriving DecidableEq, Repr

/-- A page of a capture's ring: number, sample number and time of its first sample, samples in it (09 R260, R266). -/
structure RecPage where
  page : Nat := 0
  first : Nat := 0
  tFirst : Nat := 0
  count : Nat := 0
  deriving DecidableEq, Repr

/-- The trigger of a capture: sample number of the trigger sample (from -1), instant, sub-ns part, TRIG_ID, CAUSE, and
the elapsed ps at which it acted (09 R262, R266). -/
structure RecTrig where
  sample : Int := 0
  time : Nat := 0
  tsub : Nat := 0
  trigId : Nat := 0
  cause : Nat := 0
  actedAt : Nat := 0
  deriving DecidableEq, Repr

/-- A readout (09 R278): its command and Ethernet source, first page and count, next page and segment, pages with a parity error. -/
structure RecRead where
  cmd : Packet := {}
  mac : Nat := 0
  first : Nat := 0
  count : Nat := 0
  page : Nat := 0
  frag : Nat := 0
  bad : Nat := 0
  deriving DecidableEq, Repr

/-- A capture (09 R260 to R265). -/
structure CapSt where
  chans : List Nat := []
  clock : Nat := 0
  div : Nat := 1
  pre : Nat := 0
  post : Nat := 0
  tmask : Nat := 0
  /-- Pages in the ring, oldest first, and pages held but not in use. -/
  ring : List RecPage := []
  spare : List Nat := []
  /-- Samples taken since arming, and the global ps at which the last eight were latched, newest first (09 R262). -/
  taken : Nat := 0
  latched : List Nat := []
  trig : Option RecTrig := none
  /-- Elapsed ps of the CAPTURE_STOP that ended it without a trigger (09 R263); none. -/
  stopAt : Option Nat := none
  /-- The headers wait for their rewrite (09 R265). -/
  headersDue : Bool := false
  reading : Option RecRead := none
  deriving DecidableEq, Repr

/-- A closed block of a trend stream: its place in the ring and its length (09 R275). -/
structure TrBlock where
  place : Nat := 0
  len : Nat := 0
  deriving DecidableEq, Repr

/-- A trend stream (09 R275 to R277). -/
structure TrendSt where
  chans : List Nat := []
  clock : Nat := 0
  div : Nat := 1
  route : BitVec 16 := 0
  mac : Nat := 0
  handle : Word := 0
  pages : List Nat := []
  /-- Tick at which it starts, and the command that waits for its first event (09 R280). -/
  startTick : Option Nat := none
  startCmd : Option Packet := none
  /-- Sample clock events since TREND_START. -/
  index : Nat := 0
  /-- Block being filled: samples, time and index of the first, elapsed ns of the first. -/
  fill : List (List Byte) := []
  fillTime : Nat := 0
  fillIndex : Nat := 0
  fillAt : Nat := 0
  /-- Closed blocks that wait for the lane, oldest first, and blocks in the transmit buffer. -/
  closed : List TrBlock := []
  flying : Nat := 0
  /-- BLOCK_SEQ and place in the ring of the next block. -/
  seq : Nat := 0
  place : Nat := 0
  /-- Blocks lost since the previous block sent. -/
  lost : Nat := 0
  /-- A condition of R276 held while the block filled; elapsed ns at which one last held. -/
  tight : Bool := false
  tightAt : Nat := 0
  deriving DecidableEq, Repr

/-- A recorded TRIGIN edge (09 R268, R271): input, rising, its stamp in global ns and 125 ps, elapsed ps at which it reached the
sequencer. -/
structure TrigEdge where
  input : Nat := 0
  rising : Bool := false
  time : Nat := 0
  sub : Nat := 0
  seenAt : Nat := 0
  deriving DecidableEq, Repr

/-- The recorder beyond its registers (09_recorder.md). -/
structure Rec where
  caps : List (Nat × CapSt) := []
  trends : List (Nat × TrendSt) := []
  /-- Bytes in the write buffer and the elapsed ns at which they were counted (09 R264); 0. -/
  buf : Nat := 0
  bufAt : Nat := 0
  /-- Elapsed ns of the last REC_TREND_LOST (09 R277); none. -/
  lostAt : Option Nat := none
  /-- Comparator results, the elapsed ps at which each became true, and previous values (09 R270); false, 0. -/
  cmpTrue : List (Nat × Bool) := []
  cmpAt : List (Nat × Nat) := []
  cmpPrev : List (Nat × Word) := []
  /-- Elapsed ps of the entry to the sequencer's state (09 R267); 0. -/
  seqAt : Nat := 0
  /-- TRIGIN edges recorded since entry to the state (09 R268, R271); none. -/
  edges : List TrigEdge := []
  /-- Conditions of one clk, 14h to 16h, with the elapsed ps at which they fell (09 R268); none. -/
  pulses : List (Nat × Nat) := []
  /-- Timers: global ns at which a running one expires, plus 1; expired since last started; elapsed ps of that (09 R269). -/
  timerEnd : List (Nat × Nat) := []
  timerDone : List (Nat × Bool) := []
  timerAt : List (Nat × Nat) := []
  /-- Levels of TRIGOUT0, 1 and the elapsed ns at which their pulses end (09 R271); low. -/
  outEnd : List (Nat × Nat) := []
  /-- Tick of the standing request (09 R272). -/
  reqTick : Nat := 0
  /-- TRIG_ID received or issued in this tick, acted on at the next boundary (09 R274); none. -/
  trig : Option Nat := none
  /-- Ticks still to run of SYS_HOLDOFF (09 R273); 0. -/
  holdoff : Nat := 0
  deriving DecidableEq, Repr

/-- What the last cross-link frame showed of the partner (14 R373). -/
structure Partner where
  seen : Bool := false
  active : Bool := false
  epoch : Nat := 0
  role : Nat := 0
  handover : Bool := false
  parentOk : Bool := false
  hb : Nat := 0
  safeCrc : Nat := 0
  progCrc : Nat := 0
  img : Nat := 0
  period : Nat := 0
  deriving DecidableEq, Repr

/-- A swap in progress (14 R386): its command, the tick it began in, whether the ejector asked for it. -/
structure Swap where
  cmd : Option Packet := none
  tick : Nat := 0
  eject : Bool := false
  /-- Started under SWAP_DAYS (14 R387). -/
  planned : Bool := false
  deriving DecidableEq, Repr

/-- A word of the mirrored image (14 R382): SPACE, OFFSET, word. -/
structure ImgWord where
  space : Nat := 0
  ofs : Nat := 0
  w : Word := 0
  deriving DecidableEq, Repr

/-- The twin unit beyond its registers (14_twins_and_failover.md). -/
structure Twin where
  /-- Own Harebell counter (14 R374); 0. -/
  hb : Nat := 0
  /-- A frame with a new HB has come since the last merge instant (14 R374); false. -/
  hbFresh : Bool := false
  partner : Partner := {}
  /-- Highest epoch seen (14 R378); 0. -/
  epochSeen : Nat := 0
  /-- The majorities of R378 and R380 held at the last merge; false. -/
  noSee : Bool := false
  follow : Bool := false
  noActiveSaid : Bool := false
  /-- Claim that takes effect at the next boundary, with its epoch (14 R378); none. -/
  claim : Option Nat := none
  /-- Revert that takes effect at the next boundary (14 R380); false. -/
  revert : Bool := false
  /-- HANDOVER received in this tick, and to be set in the next cross-link frame (14 R386); false. -/
  handoverIn : Bool := false
  handoverOut : Bool := false
  swap : Option Swap := none
  /-- Elapsed ns of the last change of role, and of the next attempt at a planned swap (14 R387). -/
  changedAt : Nat := 0
  retryAt : Option Nat := none
  /-- Consecutive ticks that meet R388; 0. -/
  parentBad : Nat := 0
  /-- Elapsed ns since which the partner is not STANDBY_READY (14 R390); its source raised. -/
  notReadyAt : Nat := 0
  noStandbySaid : Bool := false
  cfgSaid : Bool := false
  lagSaid : Bool := false
  /-- The wait of START_WAIT began, elapsed ns (14 R372); none. -/
  waitAt : Option Nat := none
  /-- Number of the last commit, images by number, newest first (14 R382). -/
  commits : Nat := 0
  images : List (Nat × List ImgWord) := []
  /-- TWIN_RESYNC waiting for STANDBY_READY (14 R391); none. -/
  resync : List Packet := []
  /-- EJECT_N low, debounced; the member is in NONE because of it (14 R389). -/
  ejected : Bool := false
  /-- HI latch of TWIN_LAST; 0. -/
  lastLatch : Nat := 0
  deriving DecidableEq, Repr

/-- A dual-homed child: the frames with ACTIVE 1 of this tick by uplink (14 R375, R376). -/
structure Child where
  /-- Frames considered in this tick: uplink and bytes. -/
  frames : List (Nat × List Byte) := []
  /-- The frame obeyed in this tick, with its uplink; none. -/
  obeyed : Option (Nat × List Byte) := none
  /-- Elapsed ps at which it arrived; the deadline of this tick has passed. -/
  obeyedAt : Nat := 0
  closed : Bool := false
  /-- HAREBELL of the last frame obeyed (03 R93); uplink and epoch obeyed as of the last boundary (14 R376). -/
  hb : Nat := 0
  lastFollow : Nat := 0
  lastEpoch : Nat := 0
  deriving DecidableEq, Repr

/-- A key result of a cell as the lifetime unit keeps it (15 R397): tick, code, free of OVR and SETTLE, elapsed ns of its
sampling instant, polarity while inserted and not trimmed (true negative), last change of its pairs before it. -/
structure KeySample where
  tick : Nat := 0
  code : Int := 0
  good : Bool := false
  instant : Nat := 0
  pol : Option Bool := none
  changed : Nat := 0
  deriving DecidableEq, Repr

/-- A change of a cell between bypass and insertion that waits for its second voltage (15 R399): time in elapsed ns,
inserted, negative, IARM in mA, code before it and when that was sampled. -/
structure EsrEdge where
  instant : Nat := 0
  ins : Bool := false
  neg : Bool := false
  iarm : Int := 0
  before : Int := 0
  beforeAt : Nat := 0
  deriving DecidableEq, Repr

/-- A cell in the lifetime unit beyond its registers (15 R394 to R399). -/
structure CellLife where
  key : Option KeySample := none
  /-- Last key result with the IARM in mA of the frame obeyed in its tick. -/
  prev : Option (KeySample × Int) := none
  /-- SQV, SQQ and the valid intervals of the window. -/
  sqv : Int := 0
  sqq : Nat := 0
  n : Nat := 0
  /-- CEST has been restored and is taken whole at the next evaluation (15 R408). -/
  restored : Bool := false
  /-- Last result of the ESR sequence: elapsed ns, code, free of OVR and SETTLE. -/
  esrLast : Option (Nat × Int × Bool) := none
  esrEdge : Option EsrEdge := none
  /-- Sum of the ESR samples as a fraction, and how many. -/
  esrNum : Int := 0
  esrDen : Nat := 1
  esrN : Nat := 0
  deriving DecidableEq, Repr

/-- A switch in the lifetime unit beyond its registers (15 R400 to R402). -/
structure SwitchLife where
  /-- Sum and number of the readings of the block. -/
  sum : Nat := 0
  n : Nat := 0
  /-- DAMAGE below its last bit, in 2^-41. -/
  frac : Nat := 0
  /-- Largest and smallest signal since the last turning point; none before the first sample; true while rising. -/
  hi : Int := 0
  lo : Int := 0
  rising : Option Bool := none
  seen : Bool := false
  /-- Turning points, latest first. -/
  stack : List Int := []
  deriving DecidableEq, Repr

/-- A transaction with the regulator (15 R405). -/
inductive PmbOp where
  | voutMode | readStart | write (mv : Nat) | readBack
  deriving DecidableEq, Repr

/-- The lifetime unit beyond its registers (15_lifetime_and_margins.md). -/
structure Life where
  cells : List (Nat × CellLife) := []
  switches : List (Nat × SwitchLife) := []
  /-- IARM in mA of the frame without HOLD obeyed in this tick (15 R397); none. -/
  frame : Option Int := none
  /-- An input of the plan has changed since the last evaluation (15 R394); false. -/
  dirty : Bool := false
  /-- LIFE_PLAN_SET requests not yet in force: item, index, pin, value (15 R394). -/
  requests : List (Nat × Nat × Bool × Nat) := []
  /-- The plan or RETIRE_DUE has changed since the last report; elapsed ns of the last report; its second (15 R407). -/
  changed : Bool := false
  reportAt : Option Nat := none
  reportSec : Option Nat := none
  /-- The last 100 SLACK values, latest first (15 R404). -/
  slacks : List Int := []
  /-- Elapsed ns of the last SLACK measurement and of the last adjustment; last hour of global time of the lane margins
  (15 R403, R404, R406); 0. -/
  slackAt : Nat := 0
  avsAt : Nat := 0
  hour : Nat := 0
  /-- Transactions to come, the first in progress; whether it is a retry; elapsed ns of the retry and of the readback. -/
  pmb : List PmbOp := []
  retrying : Bool := false
  retryAt : Option Nat := none
  readAt : Option Nat := none
  /-- Exponent N of VOUT_MODE, and the last word written with VOUT_COMMAND (15 R405). -/
  expo : Int := 0
  vout : Nat := 0
  subs : List Subscriber := []
  deriving DecidableEq, Repr

/-- A mailbox beyond its registers (16 R416, R417, R423, R425). -/
structure Mailbox where
  /-- Content last committed: LEN and bytes. -/
  content : Nat × List Byte := (0, [])
  /-- Slot that released its frame and the global ns at which it is late; none. -/
  slot : Option (Nat × Nat) := none
  /-- A slot opened while its frame was on the bus. -/
  again : Bool := false
  /-- CAN_MB_CANCEL waiting for the end of the frame. -/
  cancel : List Packet := []
  /-- A received frame has not been read. -/
  unread : Bool := false
  /-- Latch of the stamp's upper half. -/
  hi : Nat := 0
  deriving DecidableEq, Repr

/-- A CAN controller beyond its registers (16_field_bus.md). -/
structure Can where
  /-- The mailbox whose frame is on the bus, its content and its SOF stamp in global ns; none. -/
  sending : Option (Nat × (Nat × List Byte) × Nat) := none
  /-- Identifiers tracked for R424 with the global ns of their errors, oldest first. -/
  errors : List (Nat × List Nat) := []
  /-- Elapsed ns of the last entry to bus-off, and of the last FBUS_RX_OVERRUN. -/
  offAt : Nat := 0
  overrunAt : Option Nat := none
  /-- Global ns at which each slot last opened. -/
  opened : List (Nat × Nat) := []
  deriving DecidableEq, Repr

/-- The field bus controllers beyond their registers (16_field_bus.md). -/
structure FBus where
  ctls : List (Nat × Can) := []
  boxes : List (Nat × Mailbox) := []
  deriving DecidableEq, Repr
/-- The state of the block. -/
structure State where
  /-- Commands waiting, first in first out (the model's own queue); empty. -/
  pending : List Instr := []
  /-- Registers that differ from their reset value, by address (00 R8, R12); none. -/
  regs : List (Nat × Word) := []
  /-- Memory bytes that differ from 0 (11 R310); none. -/
  bytes : List Host.Cell := []
  clk : Clk := {}
  node : Node := {}
  lanes : List (Nat × Lane) := []
  cmd : Cmd := {}
  hub : Hub := {}
  unitSts : List (Nat × UnitSt) := []
  yar : Yar := {}
  tree : Tree := {}
  swu : Swu := {}
  loop : LoopEng := {}
  safe : Safe := {}
  meas : Meas := {}
  disp : Disp := {}
  guard : Guard := {}
  recorder : Rec := {}
  twin : Twin := {}
  child : Child := {}
  life : Life := {}
  fbus : FBus := {}
  /-- Index of the next free value (the model's own); 0. -/
  freeCount : Nat := 0
  deriving DecidableEq, Repr

/-- The machine right after reset: power-on reset asserted, every register at its reset value. -/
def State.reset : State := {}

end Sys2Proof.Machine
end

