-- ==== Sys2Proof/Machine/Ops.lean ====
section
/-!
DEFINITION. Ops.lean: the named operations every meaning uses: reading and writing registers, fields and bytes of
memory, time, little-endian numbers (00 R7), counters, raising a fault source, lanes.
-/
namespace Sys2Proof.Machine
open Sys2Proof

/-! Numbers and bytes. -/

/-- Little-endian value of bytes (R7). -/
def leNat : List Byte → Nat
  | [] => 0
  | b :: bs => b.toNat + 256 * leNat bs

/-- `n` little-endian bytes of `v` (R7). -/
def leBytes : Nat → Nat → List Byte
  | 0, _ => []
  | n + 1, v => BitVec.ofNat 8 v :: leBytes n (v / 256)

/-- Big-endian value of bytes, for the standards that fix that order. -/
def beNat (bs : List Byte) : Nat := bs.foldl (fun a b => 256 * a + b.toNat) 0

/-- `n` big-endian bytes of `v`. -/
def beBytes (n v : Nat) : List Byte := (leBytes n v).reverse

/-- Bytes `o` to `o + n - 1`. -/
def slice (bs : List Byte) (o n : Nat) : List Byte := (bs.drop o).take n

/-- Little-endian number at offset `o`, `n` bytes. -/
def numAt (bs : List Byte) (o n : Nat) : Nat := leNat (slice bs o n)

/-- Bits `hi` to `lo` of `v`. -/
def bits (v hi lo : Nat) : Nat := v / 2 ^ lo % 2 ^ (hi - lo + 1)

/-- Bit `i` of `v`. -/
def bit (v i : Nat) : Bool := v / 2 ^ i % 2 == 1

/-- Two's complement reading of an `n`-bit value. -/
def signed (n v : Nat) : Int := if 2 ^ (n - 1) ≤ v % 2 ^ n then (v % 2 ^ n : Nat) - (2 ^ n : Nat) else (v % 2 ^ n : Nat)

/-- Two's complement encoding in `n` bits. -/
def unsigned (n : Nat) (v : Int) : Nat := (v % (2 ^ n : Nat)).toNat

/-- `v` held between `lo` and `hi`. -/
def clampInt (lo hi v : Int) : Int := max lo (min hi v)

/-- Bits set in the lowest `n` bits of `v`. -/
def bitList (n v : Nat) : List Nat := (List.range n).filter (fun i => bit v i)

/-- Value with exactly the listed bits set. -/
def ofBits (l : List Nat) : Nat := l.foldl (fun a i => a ||| 2 ^ i) 0

/-- Bool as a bit. -/
def b2n (b : Bool) : Nat := if b then 1 else 0

/-! Time. -/

/-- Elapsed time, ns. -/
def State.now (s : State) : Nat := s.clk.nowPs / 1000

/-- Global time, ns, 64 bits (R6). -/
def State.time (s : State) : Nat := s.clk.timePs / 1000 % 2 ^ 64

/-- Tick length in ps. -/
def State.tickPs (s : State) : Nat := s.clk.tickLen * 2000

/-- Tick number (R41). -/
def State.tickNo (s : State) : Nat := s.clk.tickNum

/-- Global time per ps of elapsed time, in 10^-12 ps: 1 with the frequency correction in force (02 R45, R53). -/
def Clk.rate (c : Clk) : Nat := ((10 ^ 12 : Nat) + c.freq).toNat

/-- Both clocks move on by `d` ps of elapsed time. -/
def State.pass (s : State) (d : Nat) : State :=
  let x := d * s.clk.rate + s.clk.freqRem
  { s with clk.nowPs := s.clk.nowPs + d, clk.timePs := (s.clk.timePs + x / 10 ^ 12) % (2 ^ 64 * 1000)
           clk.pulsePs := s.clk.pulsePs + x / 10 ^ 12, clk.freqRem := x % 10 ^ 12 }

/-- Elapsed ps in which global time moves on by `d` ps. -/
def State.lasts (s : State) (d : Nat) : Nat := (d * 10 ^ 12 - s.clk.freqRem + s.clk.rate - 1) / s.clk.rate

/-- Moves on to global time `t` in ps; nothing when it has passed. -/
def State.reachTime (s : State) (t : Nat) : State :=
  if s.clk.timePs < t then
    let d := s.lasts (t - s.clk.timePs)
    { s with clk.nowPs := s.clk.nowPs + d, clk.timePs := t % (2 ^ 64 * 1000), clk.pulsePs := s.clk.pulsePs + (t - s.clk.timePs)
             clk.freqRem := d * s.clk.rate + s.clk.freqRem - (t - s.clk.timePs) * 10 ^ 12 }
  else s

/-- Moves on to elapsed time `t` in ns; nothing when it has passed. -/
def State.reachNow (s : State) (t : Nat) : State := if s.clk.nowPs < t * 1000 then s.pass (t * 1000 - s.clk.nowPs) else s

/-- The present pclk (06 R179, R180): edges are placed on it, so a slew of the node's time moves them with its boundaries. -/
def State.pclk (s : State) : Nat := s.clk.pulsePs / 1000

/-- The pclk of an elapsed time in ns. -/
def State.pclkAt (s : State) (t : Nat) : Nat := s.pclk + t - s.now

/-- Moves on to pclk `t`; nothing when it has passed. -/
def State.reachPclk (s : State) (t : Nat) : State :=
  if s.clk.pulsePs < t * 1000 then s.reachTime (s.clk.timePs + (t * 1000 - s.clk.pulsePs)) else s

/-- Moves on to an offset of `c` clk in the tick in progress. -/
def State.reachPhase (s : State) (c : Nat) : State := s.reachTime (s.clk.tickStart + c * 2000)

/-- An offset of `c` clk falls in the tick in progress, which may be shorter than a normal one (02 R43). -/
def State.phaseFalls (s : State) (c : Nat) : Bool := decide (s.clk.tickStart + c * 2000 < s.clk.nextAt)

/-- A deadline at an offset of `c` clk is the last event of its clk (02 R56): once it is taken, that clk is over. -/
def State.clkOver (s : State) (c : Nat) : State := s.reachTime (min (s.clk.tickStart + (c + 1) * 2000) s.clk.nextAt)

/-! Registers. -/

/-- The register at address `a` as it is held. -/
def State.reg (s : State) (a : Nat) : Word := Map.get (regReset a) s.regs a

/-- Sets the register at `a`. -/
def State.setReg (s : State) (a : Nat) (w : Word) : State := { s with regs := Map.set (regReset a) s.regs a w }

/-- Field of a register value. -/
def Fld.of (x : Fld) (w : Nat) : Nat := w / 2 ^ x.lo % 2 ^ (x.hi + 1 - x.lo)

/-- A register value with one field replaced. -/
def Fld.put (x : Fld) (w v : Nat) : Nat :=
  w / 2 ^ (x.hi + 1) * 2 ^ (x.hi + 1) + v % 2 ^ (x.hi + 1 - x.lo) * 2 ^ x.lo + w % 2 ^ x.lo

/-- Reads a field. -/
def State.f (s : State) (x : Fld) : Nat := x.of (s.reg x.addr).toNat

/-- Writes a field; the register's other fields keep their values. -/
def State.setF (s : State) (x : Fld) (v : Nat) : State :=
  s.setReg x.addr (BitVec.ofNat 32 (x.put (s.reg x.addr).toNat v))

/-- Reads a field as a two's complement number. -/
def State.fi (s : State) (x : Fld) : Int := signed (x.hi + 1 - x.lo) (s.f x)

/-- Reads a one-bit field. -/
def State.on (s : State) (x : Fld) : Bool := s.f x == 1

/-- Counts up by `n`, saturating at the field's largest value. -/
def State.bumpBy (s : State) (x : Fld) (n : Nat) : State := s.setF x (min (s.f x + n) (2 ^ (x.hi + 1 - x.lo) - 1))

/-- Counts up by one, saturating. -/
def State.bump (s : State) (x : Fld) : State := s.bumpBy x 1

/-- Sets bit `i` of a field. -/
def State.setBit (s : State) (x : Fld) (i : Nat) : State := s.setF x (s.f x ||| 2 ^ i)

/-- Clears bit `i` of a field. -/
def State.clrBit (s : State) (x : Fld) (i : Nat) : State := s.setF x (if bit (s.f x) i then s.f x - 2 ^ i else s.f x)

/-! Memory bytes. An unlisted byte reads 0 (11 R310). -/

/-- The canonical form of memory: addresses strictly rising, no listed byte 0. -/
abbrev Memory.wf (m : List Host.Cell) : Bool := Map.wf (fun _ => 0) m

/-- The byte at a memory key. -/
def State.mem (s : State) (a : Nat) : Byte := Map.get 0 s.bytes a

/-- Writes one byte. -/
def State.setMem (s : State) (a : Nat) (b : Byte) : State := { s with bytes := Map.set 0 s.bytes a b }

/-- Reads `n` bytes from `a`. -/
def State.memRead (s : State) (a : Nat) : Nat → List Byte
  | 0 => []
  | n + 1 => s.mem a :: s.memRead (a + 1) n

/-- Writes bytes from `a` on. -/
def State.memWrite (s : State) (a : Nat) : List Byte → State
  | [] => s
  | b :: bs => (s.setMem a b).memWrite (a + 1) bs

/-! The node. -/

abbrev ST.OFF : Nat := 0
abbrev ST.SELFTEST : Nat := 1
abbrev ST.LINK : Nat := 2
abbrev ST.SYNC : Nat := 3
abbrev ST.LOAD : Nat := 4
abbrev ST.CONFIG : Nat := 5
abbrev ST.WAIT_CREDIT : Nat := 6
abbrev ST.READY : Nat := 7
abbrev ST.RUN : Nat := 8
abbrev ST.HOLD : Nat := 9
abbrev ST.BLOCKED : Nat := 10
abbrev ST.LOCKOUT : Nat := 11

/-- Node state code (R93, R431). -/
def State.st (s : State) : Nat := s.f F.SYS_STATE_STATE

/-- Enters a node state: PREV takes the one left (17, SYS_STATE). -/
def State.enter (s : State) (st : Nat) : State :=
  { (s.setF F.SYS_STATE_PREV s.st).setF F.SYS_STATE_STATE st with node.since := s.now }

/-- Role strap (R2): 0 Floret, 1 Umbel, 2 Meadow, 3 factory test. -/
def State.role (s : State) : Nat := s.f F.SYS_ID_ROLE
def State.isFloret (s : State) : Bool := s.role == 0
def State.isUmbel (s : State) : Bool := s.role == 1
def State.isMeadow (s : State) : Bool := s.role == 2

/-- The node's own address (R39). -/
def State.addr (s : State) : Nat := s.f F.CMD_NODE_ADDR

/-- Twin role (14 R371): 0 NONE, 1 ACTIVE, 2 STANDBY_READY, 3 STANDBY_SYNC. -/
def State.twinRole (s : State) : Nat := s.f F.TWIN_STAT_ROLE

/-- The node is a member of a twin pair (14): every Meadow, and an Umbel assigned as one. -/
def State.isTwin (s : State) : Bool := s.isMeadow || (s.isUmbel && s.on F.CMD_NODE_TWIN)

/-- The node acts for its place in the tree: it is no twin member, or the ACTIVE one. -/
def State.acting (s : State) : Bool := !s.isTwin || s.twinRole == 1

/-- The active Meadow. -/
def State.activeMeadow (s : State) : Bool := s.isMeadow && s.twinRole == 1

/-- Adds a source to those raised in this step (12 R329). -/
def State.raise (s : State) (src : Nat) : State := { s with hub.raised := s.hub.raised ++ [src] }

/-- Raises a source when a condition holds. -/
def State.raiseIf (s : State) (c : Bool) (src : Nat) : State := if c then s.raise src else s

/-- Applies `g` when `c` holds. -/
def State.when (s : State) (c : Bool) (g : State → State) : State := if c then g s else s

/-- Applies `g` for each element in turn. -/
def State.each {α : Type} (s : State) (l : List α) (g : State → α → State) : State := l.foldl g s

/-- The next free value: its index, and the state with the counter moved on. -/
def State.free (s : State) : Nat × State := (s.freeCount, { s with freeCount := s.freeCount + 1 })

/-! Lanes. -/

/-- Lane `n` beyond its registers. -/
def State.lane (s : State) (n : Nat) : Lane := Map.get {} s.lanes n

/-- Replaces lane `n`. -/
def State.setLane (s : State) (n : Nat) (l : Lane) : State := { s with lanes := Map.set {} s.lanes n l }

/-- Changes lane `n`. -/
def State.updLane (s : State) (n : Nat) (g : Lane → Lane) : State := s.setLane n (g (s.lane n))

/-- Every lane number. -/
def laneNumbers : List Nat := List.range 32

/-- Lane state code (R74). -/
def State.laneSt (s : State) (n : Nat) : Nat := s.f (F.LANE_STATUS_STATE n)

/-- The lane is UP. -/
def State.laneUp (s : State) (n : Nat) : Bool := s.laneSt n == 5

/-- Times of a sliding window: those within `w` ns before now, with now added. -/
def slide (w now : Nat) (l : List Nat) : List Nat := l.filter (fun t => decide (now < t + w)) ++ [now]

end Sys2Proof.Machine
end

