-- ==== Sys2Proof/Machine/Fp32.lean ====
section
/-!
DEFINITION. Fp32.lean: IEEE 754 binary32 with round to nearest, ties to even; subnormal inputs and results are flushed
to zero and keep their sign (07 R208). Values are exact dyadic or rational numbers, rounded once per operation.
-/
namespace Sys2Proof.Machine
open Sys2Proof

namespace Fp

/-- Sign bit. -/
def neg (w : Word) : Bool := w.getLsbD 31
def expo (w : Word) : Nat := bits w.toNat 30 23
def frac (w : Word) : Nat := bits w.toNat 22 0
def isNan (w : Word) : Bool := expo w == 255 && frac w != 0
def isInf (w : Word) : Bool := expo w == 255 && frac w == 0
/-- NaN or infinite. -/
def bad (w : Word) : Bool := expo w == 255

def zero (sg : Bool) : Word := if sg then 0x80000000 else 0
def inf (sg : Bool) : Word := if sg then 0xFF800000 else 0x7F800000
def nan : Word := 0x7FC00000

/-- Mantissa as an integer; 0 for zero and for a subnormal, which is flushed. -/
def mant (w : Word) : Nat := if expo w = 0 then 0 else 2 ^ 23 + frac w
/-- Exponent of the mantissa's last place. -/
def scale (w : Word) : Int := (expo w : Int) - 150
def isZero (w : Word) : Bool := expo w == 0

/-- `n / d * 2^e` as a quotient and remainder at last place `k`. -/
def scaled (n d : Nat) (sh : Int) : Nat × Nat :=
  if 0 ≤ sh then (n * 2 ^ sh.toNat, d) else (n, d * 2 ^ (-sh).toNat)

/-- Last place exponent at which `n / d * 2^e` has a 24-bit integer part. -/
def place (n d : Nat) (e : Int) : Int :=
  let k := (Nat.log2 n : Int) - Nat.log2 d + e - 23
  let (a, b) := scaled n d (e - k)
  if 2 ^ 24 ≤ a / b then k + 1 else if a / b < 2 ^ 23 then k - 1 else k

/-- Packs mantissa `q` (24 bits, or 2^24) at last place `k`. -/
def assemble (sg : Bool) (q : Nat) (k : Int) : Word :=
  let (q, k) := if 2 ^ 24 ≤ q then (2 ^ 23, k + 1) else (q, k)
  let e := k + 150
  if e ≤ 0 then zero sg
  else if 255 ≤ e then inf sg
  else BitVec.ofNat 32 (2 ^ 31 * b2n sg + e.toNat * 2 ^ 23 + (q - 2 ^ 23))

/-- `n / d * 2^e` rounded to nearest, ties to even. -/
def round (sg : Bool) (n d : Nat) (e : Int) : Word :=
  if n = 0 then zero sg
  else
    let k := place n d e
    let (a, b) := scaled n d (e - k)
    let q := a / b
    let r := a % b
    assemble sg (if b < 2 * r ∨ (2 * r = b ∧ q % 2 = 1) then q + 1 else q) k

/-- Rounds an integer times 2^e. -/
def ofScaled (v : Int) (e : Int) : Word := round (decide (v < 0)) v.natAbs 1 e

/-- An integer as binary32. -/
def ofInt (v : Int) : Word := ofScaled v 0

/-- Signed mantissa. -/
def sm (w : Word) : Int := if neg w then -(mant w : Int) else mant w

def fneg (w : Word) : Word := w ^^^ 0x80000000

/-- Addition. -/
def add (a b : Word) : Word :=
  if isNan a || isNan b then nan
  else if isInf a then (if isInf b && neg a != neg b then nan else inf (neg a))
  else if isInf b then inf (neg b)
  else if isZero a && isZero b then zero (neg a && neg b)
  else
    let e := min (scale a) (scale b)
    ofScaled (sm a * (2 ^ (scale a - e).toNat : Nat) + sm b * (2 ^ (scale b - e).toNat : Nat)) e

def sub (a b : Word) : Word := add a (fneg b)

/-- Multiplication. -/
def mul (a b : Word) : Word :=
  let sg := neg a != neg b
  if isNan a || isNan b then nan
  else if isInf a || isInf b then (if isZero a || isZero b then nan else inf sg)
  else round sg (mant a * mant b) 1 (scale a + scale b)

/-- Division. -/
def div (a b : Word) : Word :=
  let sg := neg a != neg b
  if isNan a || isNan b then nan
  else if isInf a then (if isInf b then nan else inf sg)
  else if isInf b then zero sg
  else if isZero b then (if isZero a then nan else inf sg)
  else round sg (mant a) (mant b) (scale a - scale b)

/-- Order of two values as numbers, infinities included; false with a NaN. -/
def key (w : Word) : Int :=
  let m : Int := if isZero w then 0 else (w.toNat % 2 ^ 31 : Nat)
  if neg w then -m else m
def lt (a b : Word) : Bool := !isNan a && !isNan b && decide (key a < key b)
def le (a b : Word) : Bool := !isNan a && !isNan b && decide (key a ≤ key b)
def abs (w : Word) : Word := w &&& 0x7FFFFFFF

/-- A subnormal value is flushed to zero and keeps its sign (R208). -/
def flush (w : Word) : Word := if expo w = 0 then zero (neg w) else w

/-- clamp(x, lo, hi). -/
def clamp (x lo hi : Word) : Word := flush (if lt x lo then lo else if lt hi x then hi else x)

/-- floor as an integer; 0 for a value that is no number. -/
def floorInt (w : Word) : Int :=
  if bad w then 0
  else if 0 ≤ scale w then sm w * (2 ^ (scale w).toNat : Nat) else sm w / (2 ^ (-(scale w)).toNat : Nat)

def floor (w : Word) : Word := if bad w then w else if isZero w then flush w else ofInt (floorInt w)

/-- Nearest integer of `w * m`, halves away from zero (R225). -/
def roundInt (w : Word) (m : Nat) : Int :=
  let v := sm w * m
  if 0 ≤ scale w then v * (2 ^ (scale w).toNat : Nat)
  else
    let d : Nat := 2 ^ (-(scale w)).toNat
    if 0 ≤ v then (2 * v + d) / (2 * d) else -((2 * (-v) + d) / (2 * d))

/-! Sine and cosine: fixed point at 2^-400, then any binary32 value within 2 units in the last place (R217). -/

/-- 2π × 2^400, rounded down. -/
def twoPi : Nat := 16224754493461942477724542702601789038322303200358530407182382075230461810747980997491046721853633630855133559454655152472

/-- Fixed-point angle in [0, 2π) at 2^-400 of a finite `w`. -/
def angle (w : Word) : Int :=
  let v := if 0 ≤ scale w + 400 then sm w * (2 ^ (scale w + 400).toNat : Nat) else sm w / (2 ^ (-(scale w + 400)).toNat : Nat)
  v % (twoPi : Int)

/-- Taylor sum: term, next index, terms left. -/
def taylor (x2 : Int) : Nat → Int → Nat → Int
  | 0, _, _ => 0
  | n + 1, t, i => t + taylor x2 n (-(t * x2 / (2 ^ 400 : Nat)) / ((i + 1) * (i + 2) : Nat)) (i + 2)

/-- sin and cos at 2^-400 of an angle at 2^-400, taken about 0 for short sums. -/
def sinFix (x : Int) : Int :=
  let x := if x * 2 > twoPi then x - twoPi else x
  taylor (x * x / (2 ^ 400 : Nat)) 80 x 1
def cosFix (x : Int) : Int :=
  let x := if x * 2 > twoPi then x - twoPi else x
  taylor (x * x / (2 ^ 400 : Nat)) 80 (2 ^ 400 : Nat) 0

/-- A binary32 value within 2 units in the last place of `v × 2^-400`, chosen by the free `pick`. -/
def near (v : Int) (pick : Nat) : Word :=
  if v = 0 then 0
  else
    let n := v.natAbs
    let k := place n 1 (-400)
    let (a, b) := scaled n 1 (-400 - k)
    assemble (decide (v < 0)) (max (2 ^ 23) (a / b + pick % 4 - 1)) k

def sin (w : Word) : Word := if bad w then nan else near (sinFix (angle w)) (Config.trigUlp 0 w)
def cos (w : Word) : Word := if bad w then nan else near (cosFix (angle w)) (Config.trigUlp 1 w)

end Fp

end Sys2Proof.Machine
end

