-- ==== Sys2Proof/Machine/Aes.lean ====
section
/-!
DEFINITION. Aes.lean: AES-128 and CMAC (NIST SP 800-38B), which sessions are authenticated with (04 R127 to R129).
-/
namespace Sys2Proof.Machine
open Sys2Proof

/-- Multiplication by x in GF(2^8). -/
def gfDouble (a : Byte) : Byte := if a.getLsbD 7 then (a <<< 1) ^^^ 0x1B else a <<< 1

/-- Multiplication in GF(2^8). -/
def gfMul (a b : Byte) : Byte :=
  ((List.range 8).foldl (fun (acc : Byte × Byte) i =>
    (if b.getLsbD i then acc.1 ^^^ acc.2 else acc.1, gfDouble acc.2)) ((0 : Byte), a)).1

/-- Inverse in GF(2^8): the 254th power, 0 for 0. -/
def gfInv (a : Byte) : Byte :=
  let a2 := gfMul a a
  let a4 := gfMul a2 a2
  let a8 := gfMul a4 a4
  let a16 := gfMul a8 a8
  let a32 := gfMul a16 a16
  let a64 := gfMul a32 a32
  let a128 := gfMul a64 a64
  gfMul a2 (gfMul a4 (gfMul a8 (gfMul a16 (gfMul a32 (gfMul a64 a128)))))

/-- AES S-box: inverse, then the affine map. -/
def sbox (a : Byte) : Byte :=
  let b := gfInv a
  b ^^^ b.rotateLeft 1 ^^^ b.rotateLeft 2 ^^^ b.rotateLeft 3 ^^^ b.rotateLeft 4 ^^^ 0x63

def xorBytes (a b : List Byte) : List Byte := List.zipWith (· ^^^ ·) a b

/-- One round of the key schedule: the next 16 bytes. -/
def nextRoundKey (k : List Byte) (rcon : Byte) : List Byte :=
  let w i := slice k (4 * i) 4
  let rot := ((w 3).drop 1 ++ (w 3).take 1).map sbox
  let t := xorBytes rot [rcon, 0, 0, 0]
  let w0 := xorBytes (w 0) t
  let w1 := xorBytes (w 1) w0
  let w2 := xorBytes (w 2) w1
  let w3 := xorBytes (w 3) w2
  w0 ++ w1 ++ w2 ++ w3

/-- ShiftRows of a state held column by column. -/
def shiftRows (st : List Byte) : List Byte :=
  (List.range 16).map (fun i => st.getD ((i % 4 + 4 * ((i / 4 + i % 4) % 4))) 0)

/-- MixColumns of one column. -/
def mixColumn : List Byte → List Byte
  | [a, b, c, d] =>
    [gfDouble a ^^^ gfDouble b ^^^ b ^^^ c ^^^ d, a ^^^ gfDouble b ^^^ gfDouble c ^^^ c ^^^ d,
     a ^^^ b ^^^ gfDouble c ^^^ gfDouble d ^^^ d, gfDouble a ^^^ a ^^^ b ^^^ c ^^^ gfDouble d]
  | l => l

def mixColumns (st : List Byte) : List Byte :=
  mixColumn (slice st 0 4) ++ mixColumn (slice st 4 4) ++ mixColumn (slice st 8 4) ++ mixColumn (slice st 12 4)

/-- Rounds 1 to 10: state, key and round constants still to come. -/
def aesRounds (st key : List Byte) : List Byte → List Byte
  | [] => st
  | [rc] => xorBytes (shiftRows (st.map sbox)) (nextRoundKey key rc)
  | rc :: rcs => aesRounds (xorBytes (mixColumns (shiftRows (st.map sbox))) (nextRoundKey key rc)) (nextRoundKey key rc) rcs

/-- AES-128 of one block. -/
def aes128 (key block : List Byte) : List Byte :=
  aesRounds (xorBytes block key) key [0x01, 0x02, 0x04, 0x08, 0x10, 0x20, 0x40, 0x80, 0x1B, 0x36]

/-- Doubling of a 16-byte block for the CMAC subkeys. -/
def cmacDouble (b : List Byte) : List Byte :=
  let v := beNat b
  beBytes 16 ((if bit v 127 then (2 * v % 2 ^ 128) ^^^ 0x87 else 2 * v))

/-- CBC chain of whole blocks. -/
def cbcMac (key : List Byte) : Nat → List Byte → List Byte → List Byte
  | 0, x, _ => x
  | n + 1, x, m => cbcMac key n (aes128 key (xorBytes x (m.take 16))) (m.drop 16)

/-- AES-128-CMAC. -/
def cmac (key msg : List Byte) : List Byte :=
  let k1 := cmacDouble (aes128 key (List.replicate 16 0))
  let k2 := cmacDouble k1
  let n := (msg.length - 1) / 16
  let last := msg.drop (16 * n)
  let mlast := if last.length = 16 then xorBytes last k1
    else xorBytes (last ++ [0x80] ++ List.replicate (15 - last.length) 0) k2
  aes128 key (xorBytes (cbcMac key n (List.replicate 16 0) msg) mlast)

end Sys2Proof.Machine
end

