-- ==== Sys2Proof/Machine/Operands.lean ====
section
/-!
DEFINITION. Operands.lean: the byte layouts that cross the part's ports: tick frames (03 R91, R93), segments (R96),
Ethernet frames (R106), command and reply packets (04 R109, R111), topology entries (01 R28).
-/
namespace Sys2Proof.Machine
open Sys2Proof

/-! Segments. -/

/-- A segment as received (R96). -/
structure Segment where
  kind : Nat
  ctl : Nat
  frag : Nat
  dest : Nat
  payload : List Byte
  deriving DecidableEq, Repr

namespace KIND
abbrev COMMAND : Nat := 1
abbrev REPLY : Nat := 2
abbrev ASSIGN : Nat := 3
abbrev ASSIGN_ACK : Nat := 4
abbrev ASSIGN_NAK : Nat := 5
abbrev MULTICAST : Nat := 6
abbrev RECORD : Nat := 7
abbrev TREND : Nat := 8
abbrev EVENT : Nat := 9
abbrev MIRROR : Nat := 10
abbrev LIFE : Nat := 11
abbrev HELLO : Nat := 12
end KIND

/-- Bytes of a segment before its CRC. -/
def segBody (g : Segment) : List Byte :=
  [0x13, BitVec.ofNat 8 g.kind, BitVec.ofNat 8 g.ctl, BitVec.ofNat 8 g.frag] ++ leBytes 2 g.payload.length ++
    leBytes 2 g.dest ++ g.payload

/-- Bytes of a segment (R96). -/
def segBytes (g : Segment) : List Byte := segBody g ++ leBytes 4 (crc32 (segBody g))

/-- Reads a segment: FTYPE, length and CRC right (R96); reserved bits are ignored. -/
def parseSeg (b : List Byte) : Option Segment :=
  let len := numAt b 4 2
  if b.length = len + 12 ∧ b.getD 0 0 = 0x13 ∧ len ≤ 1024 ∧ numAt b (8 + len) 4 = crc32 (b.take (8 + len)) then
    some { kind := numAt b 1 1, ctl := numAt b 2 1 % 32, frag := numAt b 3 1, dest := numAt b 6 2 % 8192, payload := slice b 8 len }
  else none

/-- The KIND is listed in R97. -/
def kindListed (k : Nat) : Bool := decide (1 ≤ k) && decide (k ≤ 12)

/-- Priority of R99, 1 the highest. -/
def segPrio (kind cls : Nat) : Nat :=
  if kind = KIND.HELLO ∨ kind = KIND.ASSIGN ∨ kind = KIND.ASSIGN_ACK ∨ kind = KIND.ASSIGN_NAK ∨ kind = KIND.MIRROR then 1
  else if kind = KIND.COMMAND ∨ kind = KIND.REPLY then 1 + max 1 (min 3 cls)
  else if kind = KIND.MULTICAST then 5 else 6

/-- Fragments of a message of up to 256 KiB, numbered from 0, FIRST on the first and LAST on the last (R96). -/
def fragments (kind cls dest : Nat) (mcast : Bool) : Nat → Nat → List Byte → List (List Byte)
  | 0, _, _ => []
  | fuel + 1, n, data =>
    let last := decide (data.length ≤ 1024)
    let ctl := cls + (if n = 0 then 4 else 0) + (if last then 8 else 0) + (if mcast then 16 else 0)
    segBytes { kind := kind, ctl := ctl, frag := n, dest := dest, payload := data.take 1024 } ::
      (if last then [] else fragments kind cls dest mcast fuel (n + 1) (data.drop 1024))

/-- The segments of a message. -/
def message (kind cls dest : Nat) (mcast : Bool) (data : List Byte) : List (List Byte) :=
  fragments kind cls dest mcast (data.length / 1024 + 1) 0 data

/-! Code-groups of a lane (R72, R98, R102). -/

/-- A frame or segment as code-groups: between /S/ and /T/, or /V/ when it is known to be bad, with one idle pair after it. -/
def framed (bad : Bool) (b : List Byte) : List Sym := .start :: b.map .data ++ [if bad then .bad else .term, .idle]

/-- A receiver part way: the bytes since /S/, those of a segment suspended for a tick frame, and what has ended (true: with /V/). -/
structure RxLine where
  cur : Option (List Byte) := none
  held : Option (List Byte) := none
  done : List (List Byte × Bool) := []
  deriving DecidableEq, Repr

/-- One code-group at a receiver: /S/ inside a segment begins a tick frame, /P/ goes on with the segment, idle pairs inside a
segment are ignored. -/
def RxLine.take (r : RxLine) : Sym → RxLine
  | .idle => r
  | .start => { r with cur := some [], held := if r.cur.isSome then r.cur else r.held }
  | .data b => { r with cur := r.cur.map (· ++ [b]) }
  | .term => { r with cur := none, done := r.done ++ (r.cur.map (·, false)).toList }
  | .bad => { r with cur := none, done := r.done ++ (r.cur.map (·, true)).toList }
  | .resume => { r with cur := r.held, held := none }

/-- The frames and segments that end in a run of code-groups, each with whether it ended with /V/. -/
def received (l : List Sym) : List (List Byte × Bool) := (l.foldl RxLine.take {}).done

/-! Tick frames. -/

/-- A down tick frame is valid (R89). -/
def downValid (b : List Byte) : Bool := b.length == 64 && b.getD 0 0 == 0x11 && numAt b 60 4 == crc32 (b.take 60)

/-- An up tick frame is valid (R89). -/
def upValid (b : List Byte) : Bool := b.length == 128 && b.getD 0 0 == 0x12 && numAt b 124 4 == crc32 (b.take 124)

/-- The fields of a down tick frame (R91). -/
structure DownFrame where
  active : Bool := false
  block : Bool := false
  hold : Bool := false
  sgr : Bool := false
  credit : Bool := false
  slotOn : Bool := false
  trig : Bool := false
  epoch : Nat := 0
  harebell : Nat := 0
  period : Nat := 0
  t1 : Nat := 0
  delay : Nat := 0xFFFFFF
  tfrac : Nat := 0
  trigId : Nat := 0
  iarm : Nat := 0
  thresh : Nat := 0
  dir : Nat := 0
  token : Bool := false
  share : Nat := 0
  frac : Nat := 0
  slot : List Byte := List.replicate 32 0
  deriving DecidableEq, Repr

/-- Bytes of a down tick frame before its CRC (R91). -/
def DownFrame.body (d : DownFrame) : List Byte :=
  [0x11, BitVec.ofNat 8 (b2n d.active + 2 * b2n d.block + 4 * b2n d.hold + 8 * b2n d.sgr + 16 * b2n d.credit +
    32 * b2n d.slotOn + 64 * b2n d.trig)] ++ leBytes 2 d.epoch ++ leBytes 2 d.harebell ++ leBytes 2 (d.period % 2 ^ 15) ++
  leBytes 8 d.t1 ++ leBytes 3 d.delay ++ [BitVec.ofNat 8 (d.tfrac % 8 + 8 * (d.trigId % 16))] ++ leBytes 3 d.iarm ++
  [BitVec.ofNat 8 (d.thresh % 32 + 32 * (d.dir % 2) + 64 * b2n d.token)] ++ leBytes 2 (d.share % 4096) ++
  leBytes 2 (d.frac % 4096) ++ d.slot

/-- Bytes of a down tick frame. -/
def DownFrame.bytes (d : DownFrame) : List Byte := d.body ++ leBytes 4 (crc32 d.body)

/-- Reads the fields of a down tick frame. -/
def parseDown (b : List Byte) : DownFrame :=
  let fl := numAt b 1 1
  let y := numAt b 23 1
  { active := bit fl 0, block := bit fl 1, hold := bit fl 2, sgr := bit fl 3, credit := bit fl 4, slotOn := bit fl 5
    trig := bit fl 6, epoch := numAt b 2 2, harebell := numAt b 4 2, period := numAt b 6 2 % 2 ^ 15, t1 := numAt b 8 8
    delay := numAt b 16 3, tfrac := numAt b 19 1 % 8, trigId := numAt b 19 1 / 8 % 16, iarm := numAt b 20 3
    thresh := y % 32, dir := y / 32 % 2, token := bit y 6, share := numAt b 24 2 % 4096, frac := numAt b 26 2 % 4096
    slot := slice b 28 32 }

/-- The fields of an up tick frame (R93), but for the Tally itself. -/
structure UpFrame where
  active : Bool := false
  slotOn : Bool := false
  creditReq : Bool := false
  fault : Bool := false
  trigReq : Bool := false
  held : Bool := false
  epoch : Nat := 0
  addr : Nat := 0
  hbEcho : Nat := 0
  tally : List Nat := List.replicate 32 0
  avail : Nat := 0
  unavail : Nat := 0
  stale : Nat := 0
  follow : Bool := false
  witA : Bool := false
  witB : Bool := false
  state : Nat := 0
  sev : Nat := 0
  turn : Nat := 0xFFFFFF
  asym : Nat := 0
  tmax : Nat := 0
  vsum : Nat := 0
  fcount : Nat := 0
  slot : List Byte := List.replicate 32 0
  deriving DecidableEq, Repr

/-- Bytes of an up tick frame before its CRC (R93). -/
def UpFrame.body (u : UpFrame) : List Byte :=
  [0x12, BitVec.ofNat 8 (b2n u.active + 2 * b2n u.slotOn + 4 * b2n u.creditReq + 8 * b2n u.fault + 16 * b2n u.trigReq +
    32 * b2n u.held)] ++ leBytes 2 u.epoch ++ leBytes 2 (u.addr % 8192) ++ leBytes 2 u.hbEcho ++
  (u.tally.map (leBytes 2)).flatten ++ leBytes 2 u.avail ++ leBytes 2 u.unavail ++ leBytes 2 u.stale ++
  [BitVec.ofNat 8 (b2n u.follow + 2 * b2n u.witA + 4 * b2n u.witB), BitVec.ofNat 8 (u.state % 16 + 16 * (u.sev % 4))] ++
  leBytes 3 u.turn ++ leBytes 2 u.asym ++ [BitVec.ofNat 8 u.tmax] ++ leBytes 4 u.vsum ++ leBytes 2 u.fcount ++ u.slot

/-- Bytes of an up tick frame. -/
def UpFrame.bytes (u : UpFrame) : List Byte := u.body ++ leBytes 4 (crc32 u.body)

/-- Reads the fields of an up tick frame. -/
def parseUp (b : List Byte) : UpFrame :=
  let fl := numAt b 1 1
  let w := numAt b 78 1
  let st := numAt b 79 1
  { active := bit fl 0, slotOn := bit fl 1, creditReq := bit fl 2, fault := bit fl 3, trigReq := bit fl 4, held := bit fl 5
    epoch := numAt b 2 2, addr := numAt b 4 2 % 8192, hbEcho := numAt b 6 2
    tally := (List.range 32).map (fun i => numAt b (8 + 2 * i) 2)
    avail := numAt b 72 2, unavail := numAt b 74 2, stale := numAt b 76 2
    follow := bit w 0, witA := bit w 1, witB := bit w 2, state := st % 16, sev := st / 16 % 4, turn := numAt b 80 3
    asym := numAt b 83 2, tmax := numAt b 85 1, vsum := numAt b 86 4, fcount := numAt b 90 2, slot := slice b 92 32 }

/-- The Tally an up frame carries. -/
def UpFrame.toTally (u : UpFrame) : Tally :=
  { bins := u.tally, avail := u.avail, unavail := u.unavail, stale := u.stale, vsum := u.vsum, tmax := u.tmax, fcount := u.fcount }

/-! Command and reply packets. -/

/-- FLAGS of a command (R109). -/
def pktFlags (p : Packet) : Nat :=
  p.cls.toNat + 4 * b2n p.auth + 16 * b2n p.mcast + 32 * b2n p.noReply

/-- Header of a command (R109). -/
def pktHeader (op : Nat) (p : Packet) : List Byte :=
  leBytes 2 op ++ [BitVec.ofNat 8 (pktFlags p)] ++ leBytes 3 p.params.length ++ leBytes 2 p.seq.toNat ++
    leBytes 2 p.target.toNat ++ leBytes 2 p.source.toNat ++ leBytes 4 p.handle.toNat

/-- Bytes of a command packet (R109). -/
def pktBytes (op : Nat) (p : Packet) : List Byte :=
  pktHeader op p ++ p.params ++ (if p.auth then leBytes 4 p.counter.toNat ++ p.mac else [])

/-- Bytes a command packet of this header has in all: 16 + LENGTH, plus 12 when AUTH is set (R132). -/
def packetLength (b : List Byte) : Nat := 16 + numAt b 3 3 + (if bit (numAt b 2 1) 2 then 12 else 0)

/-- Reads a command packet: its opcode and the rest (R109). -/
def parsePacket (b : List Byte) : Option (Nat × Packet) :=
  let fl := numAt b 2 1
  let len := numAt b 3 3
  if b.length < 16 ∨ b.length < packetLength b ∨ 262112 < len then none
  else some (numAt b 0 2,
    { cls := BitVec.ofNat 2 fl, auth := bit fl 2, mcast := bit fl 4, noReply := bit fl 5
      seq := BitVec.ofNat 16 (numAt b 6 2), target := BitVec.ofNat 13 (numAt b 8 2), source := BitVec.ofNat 16 (numAt b 10 2)
      handle := BitVec.ofNat 32 (numAt b 12 4), params := slice b 16 len
      counter := BitVec.ofNat 32 (if bit fl 2 then numAt b (16 + len) 4 else 0)
      mac := if bit fl 2 then slice b (20 + len) 8 else List.replicate 8 0 })

/-- Header of a reply (R111); AUTH when the command was authenticated. -/
def replyHeader (op : Nat) (p : Packet) (final : Bool) (responder status len : Nat) : List Byte :=
  leBytes 2 op ++ [BitVec.ofNat 8 (p.cls.toNat + 4 * b2n (p.ks != []) + 8 * b2n final)] ++ leBytes 3 len ++ leBytes 2 p.seq.toNat ++
    leBytes 2 p.source.toNat ++ leBytes 2 responder ++ [BitVec.ofNat 8 status, 0, 0, 0]

namespace Stat
abbrev OK : Nat := 0x00
abbrev ACCEPTED : Nat := 0x01
abbrev BAD_OPCODE : Nat := 0x10
abbrev BAD_PARAM : Nat := 0x11
abbrev STALE_HANDLE : Nat := 0x12
abbrev NO_RESOURCE : Nat := 0x13
abbrev BUSY : Nat := 0x14
abbrev DENIED : Nat := 0x15
abbrev CLAMPED : Nat := 0x16
abbrev TOO_LATE : Nat := 0x17
abbrev ROUTE_FAIL : Nat := 0x20
abbrev TIMEOUT : Nat := 0x21
abbrev FAULTED : Nat := 0x30
end Stat

/-! Ethernet frames (R106). -/

/-- An Ethernet frame carrying a segment, padded to 64 bytes with its FCS. -/
def etherBytes (dst src : Nat) (seg : List Byte) : List Byte :=
  let b := beBytes 6 dst ++ beBytes 6 src ++ [0x88, 0xB5] ++ seg
  let b := b ++ List.replicate (60 - b.length) 0
  b ++ leBytes 4 (crc32 b)

/-! Topology entries (R28), held as their 16 bytes. -/

abbrev Entry := List Byte
def eAddr (e : Entry) : Nat := numAt e 0 2
def eHi (e : Entry) : Nat := numAt e 2 2
def eParent (e : Entry) : Nat := numAt e 4 2
def eRole (e : Entry) : Nat := numAt e 6 1
def eFlags (e : Entry) : Nat := numAt e 7 1
def eTwin (e : Entry) : Bool := bit (eFlags e) 0
def eMemberB (e : Entry) : Bool := bit (eFlags e) 1
def eStringValid (e : Entry) : Bool := bit (eFlags e) 2
def eString (e : Entry) : Nat := numAt e 8 1
def eKind (e : Entry) : Nat := numAt e 9 1
def eLaneA (e : Entry) : Nat := numAt e 10 1
def eLaneB (e : Entry) : Nat := numAt e 11 1
def eXlane (e : Entry) : Nat := numAt e 12 1
def eLevel (e : Entry) : Nat := numAt e 13 1

/-- The 16-byte entries of a byte list. -/
def entriesOf (b : List Byte) : List Entry := (List.range (b.length / 16)).map (fun i => slice b (16 * i) 16)

end Sys2Proof.Machine
end

