-- ==== Sys2Proof/Machine/Link.lean ====
section
/-!
DEFINITION. Link.lean: placing segments in transmit buffers (03 R99 to R101), routing (01 R36), replies (04 R111, R112).
-/
namespace Sys2Proof.Machine
open Sys2Proof

/-! Transmit buffers. -/

/-- Bytes waiting in a lane's buffer, class 1 apart. -/
def TxItem.size (t : TxItem) : Nat := t.bytes.length
def queued (q : List TxItem) : Nat := (q.map TxItem.size).foldl (· + ·) 0

/-- Room of R100: 16 KiB, of which 2 KiB is held for class 1 (priority 2). -/
def roomFor (q : List TxItem) (t : TxItem) : Bool :=
  decide (queued q + t.size ≤ 16384) &&
    (t.prio == 2 || decide (queued (q.filter (fun x => x.prio != 2)) + t.size ≤ 14336))

/-- A discarded segment: DROP, and SEG_DROP at the sixteenth within 1 s (R100). -/
def State.dropSegment (s : State) (n : Nat) : State :=
  let at' := slide 1000000000 s.now (s.lane n).dropAt
  let s := (s.bump (F.LANE_SEG_DROP n)).updLane n (fun l => { l with dropAt := if 16 ≤ at'.length then [] else at' })
  s.raiseIf (decide (16 ≤ at'.length)) FS.SEG_DROP

/-- A discarded bad segment: SCRC. -/
def State.badSegment (s : State) (n : Nat) : State := s.bump (F.LANE_SEG_SCRC n)

/-- The present elapsed clk (R5). -/
def State.clkNo (s : State) : Nat := s.clk.nowPs / 2000

/-- Places an item that becomes ready in this clk in a lane's transmit buffer (R99, R100). -/
def State.queueTx (s : State) (n : Nat) (t : TxItem) : State :=
  if roomFor (s.lane n).txq t then s.updLane n (fun l => { l with txq := l.txq ++ [{ t with ready := s.clkNo }] }) else s.dropSegment n

/-- Sends a segment the node itself originates on a tree lane. -/
def State.sendSeg (s : State) (n kind cls dest : Nat) (payload : List Byte) : State :=
  s.queueTx n { prio := segPrio kind cls, bytes := segBytes { kind := kind, ctl := cls + 12, frag := 0, dest := dest, payload := payload } }

/-- Sends a whole message the node itself originates. -/
def State.sendMessage (s : State) (n kind cls dest : Nat) (mcast : Bool) (data : List Byte) (bad : Bool := false) : State :=
  s.each (message kind cls dest mcast data) (fun s b => s.queueTx n { prio := segPrio kind cls, bad := bad, bytes := b })

/-! Code-groups on the lane (R72, R98). -/

/-- Code-groups that a lane sends from elapsed `t` ps until now: 8 ns each at rate code 0. -/
def State.groupsSince (s : State) (n t : Nat) : Nat := (s.clk.nowPs - t) * 2 ^ s.f (F.LANE_STATUS_RATE_NOW n) / 8000

/-- A segment or Ethernet frame begins to leave. -/
def State.startItem (s : State) (n : Nat) (t : TxItem) : State :=
  s.updLane n (fun l => { l with txNow := some t, txAt := s.clk.nowPs, line := framed t.bad t.bytes })

/-- A tick frame leaves at once: a segment in progress is suspended, and goes on with /P/ after the frame and its idle pair. -/
def State.putFrame (s : State) (n : Nat) (frame : List Byte) : State :=
  let l := s.lane n
  let own := framed false frame
  let rest := match l.txNow with
    | none => ([], [])
    | some t =>
      let b := framed t.bad t.bytes
      (b.take (s.groupsSince n l.txAt), b.drop (s.groupsSince n l.txAt))
  let cut := rest.1 != [] && rest.2 != []
  s.updLane n (fun l => { l with
    txFrame := frame
    line := if cut then rest.1 ++ own ++ [.resume] ++ rest.2 else own ++ rest.2
    txAt := l.txAt + (own.length + 1) * 8000 / 2 ^ s.f (F.LANE_STATUS_RATE_NOW n) })

/-! The tree's lanes. -/

abbrev USE.UPLINK : Nat := 1
abbrev USE.XLINK : Nat := 5
abbrev USE.HOST : Nat := 6

/-- USE of a lane (R39). -/
def State.use (s : State) (n : Nat) : Nat := s.f (F.CMD_DL_USE n)

/-- Uplinks of a Floret or Umbel that may be used (R16, R33). -/
def State.uplinks (s : State) : List Nat :=
  if s.isMeadow then [] else [0, 1].filter (fun n => !(s.lane n).banned)

/-- The node's two uplinks lead to two parent members: their HELLOs name different far nodes (R95). -/
def State.dualHomed (s : State) : Bool :=
  !s.isMeadow && (s.lane 0).farAddr != 0xFFFF && (s.lane 1).farAddr != 0xFFFF && (s.lane 0).farAddr != (s.lane 1).farAddr

/-- The uplink a node sends segments to its parent on (R101). -/
def State.upLane (s : State) : Option Nat :=
  let up n := s.uplinks.contains n && s.laneUp n
  if s.dualHomed then
    let n := s.f F.TWIN_CHILD_FOLLOW
    if up n then some n else none
  else if up 0 then some 0 else if up 1 then some 1 else none

/-- Cross-link lanes (R16, R17). -/
def State.xlinks (s : State) : List Nat :=
  if s.isMeadow then [0, 1] else laneNumbers.filter (fun n => s.use n == USE.XLINK)

/-- The cross-link lane segments go on: the first that is UP (R101). -/
def State.xLane (s : State) : Option Nat := s.xlinks.find? s.laneUp

/-- First lanes of the child units, ascending (R39, R152). -/
def State.units (s : State) : List Nat := laneNumbers.filter (fun n => s.use n == 2 || s.use n == 3)

/-- Lanes of the unit whose first lane is `n`. -/
def State.unitLanes (s : State) (n : Nat) : List Nat := if s.use n = 3 then [n, s.f (F.CMD_DL_PARTNER n)] else [n]

def State.unit (s : State) (n : Nat) : UnitSt := Map.get {} s.unitSts n
def State.setUnit (s : State) (n : Nat) (u : UnitSt) : State := { s with unitSts := Map.set {} s.unitSts n u }
def State.updUnit (s : State) (n : Nat) (g : UnitSt → UnitSt) : State := s.setUnit n (g (s.unit n))

/-- First lane of the unit a downlink belongs to. -/
def State.unitOf (s : State) (n : Nat) : Nat := if s.use n = 4 then s.f (F.CMD_DL_PARTNER n) else n

/-- The unit has an assigned member (R37). -/
def State.unitPresent (s : State) (n : Nat) : Bool := (s.unitLanes n).any (fun l => s.on (F.CMD_DL_PRESENT l))

/-- The lane a segment to a unit goes on (R101; R36 rule 4 for a twin unit): of the active member, else of the other. -/
def State.unitLane (s : State) (n : Nat) : Option Nat :=
  let ls := s.unitLanes n
  let u := s.unit n
  let memberOf l := s.f (F.CMD_DL_FAR_ADDR l) % 2 == 1
  if u.twin then (ls.find? (fun l => s.laneUp l && memberOf l == u.memberB)).or (ls.find? s.laneUp)
  else ls.find? s.laneUp

/-- Highest address of the node's own subtree. -/
def State.ownHi (s : State) : Nat := if s.isMeadow then 8191 else numAt s.tree.taken 2 2

/-- Outcome of routing (R36). -/
inductive Route where
  | here
  | lane (n : Nat)
  | fail
  deriving DecidableEq, Repr

/-- R36: where a command or reply for an address goes. The rule does not say what follows when the lane it names is not UP:
the model answers ROUTE_FAIL for a partner or a parent (rules 2 and 5), and tries rule 4 for a far node (rule 3); nor what a
node without an assignment takes as its own address: the model takes ADDR as it stands at reset, 0 (DESIGN CHOICE, log entry 36). -/
def State.route (s : State) (dest : Nat) : Route :=
  let ofLane : Option Nat → Route := fun o => match o with
    | some n => .lane n
    | none => .fail
  if dest = s.addr then .here
  else if s.on F.CMD_NODE_TWIN ∧ dest = s.addr ^^^ 1 then ofLane s.xLane
  else
    let downs := laneNumbers.filter (fun n => decide (2 ≤ s.use n) && decide (s.use n ≤ 4))
    match (downs.filter (fun n => s.f (F.CMD_DL_FAR_ADDR n) == dest && s.laneUp n)).head? with
    | some n => .lane n
    | none =>
      match s.units.find? (fun n => decide (s.f (F.CMD_RANGE_LO n) ≤ dest) && decide (dest ≤ s.f (F.CMD_RANGE_HI n))) with
      | some n => ofLane (s.unitLane n)
      | none =>
        if !s.isMeadow ∧ (dest < s.addr ∨ s.ownHi < dest) then ofLane s.upLane
        else .fail

/-! Replies. -/

/-- The host-mode lanes (R104) and the lane of a port: the service port is SVC_LANE, the host port the other (17 R446). -/
def State.hostLanes (s : State) : List Nat := laneNumbers.filter (fun n => s.f (F.LANE_CFG_MODE n) == 1)
def State.portLane (s : State) (port : Nat) : Option Nat :=
  let svc := s.f F.SYS_PANEL_SVC_LANE
  if port = 2 then s.hostLanes.find? (· == svc) else s.hostLanes.find? (· != svc)

/-- LANE_HOST_MAC. -/
def State.hostMac (s : State) : Nat := s.f F.LANE_HOST_MAC_LO_MAC + s.f F.LANE_HOST_MAC_HI_MAC * 2 ^ 32

/-- Sends segments on a host or service port to an Ethernet address (R106); a port not in HOST sends nothing. -/
def State.sendHost (s : State) (port mac : Nat) (prio : Nat) (segs : List (List Byte)) (bad : Bool := false) : State :=
  match s.portLane port with
  | none => s
  | some n =>
    if s.laneSt n = 8 then
      s.each segs (fun s b => s.queueTx n { prio := prio, eth := true, bad := bad, bytes := etherBytes mac s.hostMac b })
    else s

/-- Key of a command's requester. -/
def srcKey (p : Packet) : Nat := p.source.toNat * 65536 + p.seq.toNat

/-- Where the command with this SOURCE and SEQ came from: the Ethernet address of its frame, or its core. -/
def State.srcMac (s : State) (key : Nat) : Nat := Map.get 0 s.cmd.hostSrc key

/-- A reply or report for a core of this node, in that core's own order (R112). -/
def State.toCore (s : State) (core : Nat) (bytes : List Byte) : State :=
  { s with cmd.coreReplies := s.cmd.coreReplies ++ [(core, bytes)] }

/-- The queue of the replies for one core (R112). -/
def State.coreQueue (s : State) (core : Nat) : List (List Byte) := (s.cmd.coreReplies.filter (fun x => x.1 == core)).map (·.2)

/-- Delivers a reply at its entry node to its port (R112). A reply for the QSPI port takes the place of one that has not been
read: the spec does not say what becomes of either (DESIGN CHOICE, log entry 17). -/
def State.deliver (s : State) (source : BitVec 16) (key cls : Nat) (bytes : List Byte) : State :=
  match source.toNat / 8192 with
  | 0 => s.toCore (s.srcMac key) bytes
  | 3 => ({ s with cmd.qspiReply := bytes }).setF F.CMD_QSPI_RPL_READY 1
  | 1 => s.sendHost 1 (s.srcMac key) (segPrio KIND.REPLY cls) (message KIND.REPLY (max 1 cls) (source.toNat % 8192) false bytes)
  | 2 => s.sendHost 2 (s.srcMac key) (segPrio KIND.REPLY cls) (message KIND.REPLY (max 1 cls) (source.toNat % 8192) false bytes)
  | _ => s

/-- The session held for a requester. -/
def State.sessionOf (s : State) (source : BitVec 16) : Option (Nat × Session) :=
  s.cmd.sessions.find? (fun x => x.2.source == source)

/-- Bytes of a reply with the trailer of an authenticated command (R111, R129). -/
def State.replyBytes (s : State) (op : Nat) (p : Packet) (final : Bool) (status : Nat) (payload : List Byte) : List Byte :=
  let h := replyHeader op p final s.addr status payload.length
  h ++ payload ++ (if p.ks ≠ [] then
    let c := leBytes 4 p.counter.toNat
    c ++ (cmac p.ks (h ++ payload ++ c)).take 8 else [])

/-- Sends reply bytes towards their DEST (R112): delivered here, in the reply slot of the next up frame, or as a segment. -/
def State.routeReply (s : State) (p : Packet) (bytes : List Byte) : State :=
  if p.source.toNat % 8192 = s.addr then s.deliver p.source (srcKey p) p.cls.toNat bytes
  else if p.slot then { s with cmd.replySlot := bytes }
  else match s.route (p.source.toNat % 8192) with
    | .lane n => s.sendMessage n KIND.REPLY (max 1 p.cls.toNat) (p.source.toNat % 8192) false bytes
    | _ => s

/-- Sends a reply, unless NO_REPLY or MCAST leaves it out (R112). -/
def State.reply (s : State) (op : Nat) (p : Packet) (final : Bool) (status : Nat) (payload : List Byte) : State :=
  if (p.noReply || p.mcast) && !(status == Stat.DENIED || status == Stat.BAD_OPCODE || status == Stat.ROUTE_FAIL) then s
  else
    let s := s.when (status == Stat.BUSY) (fun s => s.bump F.CMD_STAT_BUSY_SENT)
    let b := s.replyBytes op p final status payload
    { s with cmd.sent := b }.routeReply p b

/-- The FINAL reply of a command first answered ACCEPTED (R111). -/
def State.finalReply (s : State) (op : Nat) (p : Packet) (status : Nat) (payload : List Byte) : State :=
  s.reply op p true status payload

/-- The reply of a command that held execution, which it releases (R118). -/
def State.release (s : State) (op : Nat) (p : Packet) (status : Nat) (payload : List Byte) : State :=
  ({ s with cmd.busy := if s.cmd.busy = some (op, p) then none else s.cmd.busy }).reply op p false status payload

/-- Four bytes of a register as it is held. -/
def State.reg4 (s : State) (a : Nat) : List Byte := leBytes 4 (s.reg a).toNat

/-! What an opcode answers. -/

/-- Outcome of an opcode: the state, the status and payload of its first reply; `hold` when the reply comes later (R118). -/
structure Out where
  s : State
  status : Nat := 0
  payload : List Byte := []
  hold : Bool := false
  /-- FINAL reply that follows an ACCEPTED one at once. -/
  final : Option (Nat × List Byte) := none
  /-- The meaning has sent its reply itself. -/
  replied : Bool := false
  deriving Repr

def ok (s : State) (payload : List Byte := []) : Out := { s := s, payload := payload }
def refuse (s : State) (status : Nat) (payload : List Byte := []) : Out := { s := s, status := status, payload := payload }
def accepted (s : State) : Out := { s := s, status := Stat.ACCEPTED }
/-- ACCEPTED, and the work is already done: FINAL OK follows. -/
def acceptedDone (s : State) : Out := { s := s, status := Stat.ACCEPTED, final := some (Stat.OK, []) }
def holding (s : State) : Out := { s := s, hold := true }

end Sys2Proof.Machine
end

