-- ==== Sys2Proof/Machine/Loop.lean ====
section
/-!
DEFINITION. Loop.lean: the loop engine: snapshot, blocks, schedules, commit, ports, Safe Stop ramp, opcodes
(07_loop_engine.md).
-/
namespace Sys2Proof.Machine
open Sys2Proof

/-- Register address of a signal. -/
def sigAddr (i : Nat) : Nat := 0x78000 + 4 * i

/-- The string's Safe Stop is in progress (13, SAFE_SS.STATE ramping or settling). -/
def State.ssActive (s : State) (k : Nat) : Bool := s.f (F.SAFE_SS_STATE k) == 1 || s.f (F.SAFE_SS_STATE k) == 2

/-- A committed signal; in roles other than the Meadow 080h to 0FFh and 200h to 21Fh read 0.0 (R209). 210h + s reads 1.0 for a string in
Safe Stop, whether the engine makes a run or not (13 R358). -/
def State.sig (s : State) (i : Nat) : Word :=
  if decide (0x210 ≤ i) && decide (i < 0x220) && s.isMeadow && s.ssActive (i - 0x210) then 0x3F800000 else s.reg (sigAddr i)

/-- Live loops by handle index. -/
def State.loopSt (s : State) (n : Nat) : LoopSt := Map.get {} s.loop.loops n
def State.setLoopSt (s : State) (n : Nat) (l : LoopSt) : State := { s with loop.loops := Map.set {} s.loop.loops n l }
def State.word (s : State) (k : Nat) : Word := Map.get 0 s.loop.words k
def loopNumbers : List Nat := List.range 32

/-! Descriptors (R232). -/

def lNest (d : List Byte) : Nat := numAt d 0 1
def lRate (d : List Byte) : Nat := numAt d 1 1 + 1
def lPhase (d : List Byte) : Nat := numAt d 2 1
def lNreg (d : List Byte) : Nat := numAt d 3 1
def lCount (d : List Byte) : Nat := numAt d 4 2
def lVar (d : List Byte) : Nat := numAt d 6 2
def lHyst (d : List Byte) : Word := BitVec.ofNat 32 (numAt d 8 4)
def lSet (d : List Byte) (j : Nat) : Nat := numAt d (12 + j) 1
/-- thr[j], j from 1. -/
def lThr (d : List Byte) (j : Nat) : Word := BitVec.ofNat 32 (numAt d (28 + 4 * (j - 1)) 4)

/-! Block slots (R216, R217). -/

def bType (b : List Byte) : Nat := numAt b 0 1
def bSched (b : List Byte) : Bool := bit (numAt b 1 1) 0
def bOut (b : List Byte) : Nat := numAt b 2 2 % 4096
def bIn (b : List Byte) (i : Nat) : Nat := numAt b (4 + 2 * i) 2
def bCoef (b : List Byte) : Nat := numAt b 12 2

/-- Coefficients of a block type; a LUT's count depends on its n. -/
def typeCoefs (t : Nat) : Nat := ([0, 5, 2, 1, 2, 3, 3, 4, 6, 5, 3, 0, 0] : List Nat).getD t 0
/-- Inputs of a block type. -/
def typeInputs (t : Nat) : Nat := ([0, 4, 1, 2, 3, 1, 1, 3, 3, 1, 1, 4, 4] : List Nat).getD t 0
/-- Cost in clk (R217). -/
def typeCost (t : Nat) : Nat := ([0, 1, 1, 1, 3, 1, 1, 2, 3, 2, 2, 3, 3] : List Nat).getD t 0
/-- Outputs of a block type. -/
def typeOuts (t : Nat) : Nat := if t = 11 ∨ t = 12 then 3 else 1
/-- State words of a block type. -/
def typeWords (t : Nat) : Nat := if t = 7 then 1 else if t = 8 ∨ t = 9 then 2 else 0

/-- Cost of a loop: 4 plus its blocks' (R229). -/
def loopCost (l : LoopSt) : Nat := 4 + (l.blocks.map (fun b => typeCost (bType b))).foldl (· + ·) 0

/-- Enabled loops. -/
def State.enabledLoops (s : State) : List Nat := loopNumbers.filter (fun n => s.on (F.LOOP_L_CFG_EN n))

/-- E of R229; 0 when no loop is enabled. -/
def State.loopEstimate (s : State) (ls : List Nat) : Nat :=
  if ls = [] then 0 else 56 + (ls.map (fun n => loopCost (s.loopSt n))).foldl (· + ·) 0

/-- LOOP_WIN.WINDOW of a phase map. -/
def State.loopWindow (s : State) : Nat := s.f F.TICK_PH_LOOP_END_PHASE - s.f F.TICK_PH_TALLY_PHASE

/-- PROG_CRC (R230 register table). -/
def State.progCrc (s : State) : Nat :=
  let live := loopNumbers.filter (fun n => s.on (F.LOOP_L_CFG_LIVE n))
  if live = [] then 0
  else
    let regs (b n : Nat) := ((List.range n).map (fun k => leBytes 4 (s.reg (b + 4 * k)).toNat)).flatten
    crc32 ((live.map (fun n => (s.loopSt n).desc ++ (s.loopSt n).blocks.flatten)).flatten ++
      regs 0x70080 40 ++ regs 0x70040 16 ++ regs 0x70120 8)

/-- The derived registers of the engine follow a change of the loaded program. -/
def State.loopRegs (s : State) : State :=
  ((s.setF F.LOOP_WIN_ESTIMATE (s.loopEstimate s.enabledLoops)).setF F.LOOP_WIN_WINDOW s.loopWindow).setReg
    A.LOOP_PROG (BitVec.ofNat 32 s.progCrc)

/-! A run (R206, R210 to R224). -/

/-- The working copy. -/
structure Work where
  sigs : List (Nat × Word) := []
  words : List (Nat × Word) := []
  regions : List (Nat × Nat) := []
  /-- Signals whose block writes are discarded: the ramps' (R228). -/
  locked : List Nat := []
  numeric : Nat := 0

/-- A signal in the working copy. -/
def Work.sig (w : Work) (s : State) (i : Nat) : Word := ((w.sigs.find? (fun p => p.1 == i)).map (·.2)).getD (s.sig i)
def Work.word (w : Work) (s : State) (k : Nat) : Word := ((w.words.find? (fun p => p.1 == k)).map (·.2)).getD (s.word k)
def Work.setSig (w : Work) (i : Nat) (v : Word) : Work := { w with sigs := (i, v) :: w.sigs.filter (fun p => p.1 != i) }
def Work.setWord (w : Work) (k : Nat) (v : Word) : Work := { w with words := (k, v) :: w.words.filter (fun p => p.1 != k) }

/-- Result of a block: outputs and state words. -/
structure BlockOut where
  ys : List Word
  ws : List Word := []

/-- Sample time N × TICK_PERIOD × 2 ns in binary32 seconds (R213). -/
def sampleTime (rate len : Nat) : Word := Fp.round false (rate * len * 2) 1000000000 0

/-- BIQUAD in transposed direct form II (R217): output and new states. -/
def biquad (b0 b1 b2 a1 a2 x s1 s2 : Word) : Word × Word × Word :=
  let y := Fp.add (Fp.mul b0 x) s1
  (y, Fp.add (Fp.sub (Fp.mul b1 x) (Fp.mul a1 y)) s2, Fp.sub (Fp.mul b2 x) (Fp.mul a2 y))

/-- PI of R219: output and integrator; `i` is the integrator it starts from. -/
def piBlock (kp ki lo hi ts ref fb frz i : Word) : Word × Word :=
  let e := Fp.sub ref fb
  let p := Fp.mul kp e
  let u := Fp.add p i
  let stop := !Fp.isZero frz || (Fp.le hi u && Fp.lt 0 e) || (Fp.le u lo && Fp.lt e 0)
  let i' := if stop then i else Fp.clamp (Fp.add i (Fp.mul (Fp.mul ki ts) e)) lo hi
  (Fp.clamp (Fp.add p i') lo hi, i')

/-- Constants √3 and √3 ÷ 2 in binary32. -/
def fpRoot3 : Word := 0x3FDDB3D7
def fpHalfRoot3 : Word := 0x3F5DB3D7

/-- One block's results (R217): inputs `x`, coefficients `c`, previous output `y0`, states, bumpless restart of a PI (R221). -/
def evalBlock (t : Nat) (x c : Nat → Word) (y0 s1 s2 ts : Word) (bumpless : Bool) : BlockOut :=
  let two : Word := 0x40000000
  let three : Word := 0x40400000
  let half : Word := 0x3F000000
  match t with
  | 1 => ⟨[Fp.add (Fp.add (Fp.add (Fp.add (Fp.mul (c 0) (x 0)) (Fp.mul (c 1) (x 1))) (Fp.mul (c 2) (x 2))) (Fp.mul (c 3) (x 3))) (c 4)], []⟩
  | 2 => ⟨[Fp.add (Fp.mul (c 0) (x 0)) (c 1)], []⟩
  | 3 => ⟨[Fp.mul (Fp.mul (c 0) (x 0)) (x 1)], []⟩
  | 4 => ⟨[if Fp.le (Fp.abs (x 2)) (c 1) then Fp.flush y0 else Fp.div (Fp.mul (Fp.mul (c 0) (x 0)) (x 1)) (x 2)], []⟩
  | 5 =>
    let z := Fp.clamp (x 0) (c 0) (c 1)
    ⟨[if Fp.lt 0 (c 2) then Fp.clamp (Fp.add y0 (Fp.clamp (Fp.sub z y0) (Fp.fneg (c 2)) (c 2))) (c 0) (c 1) else z], []⟩
  | 6 =>
    let v := Fp.add y0 (Fp.mul (Fp.mul (c 0) ts) (x 0))
    ⟨[if Fp.lt 0 (c 2) then Fp.sub v (Fp.mul (c 2) (Fp.floor (Fp.div (Fp.sub v (c 1)) (c 2)))) else v], []⟩
  | 7 =>
    let i := if bumpless then Fp.clamp (Fp.sub y0 (Fp.mul (c 0) (Fp.sub (x 0) (x 1)))) (c 2) (c 3) else s1
    let (y, i') := piBlock (c 0) (c 1) (c 2) (c 3) ts (x 0) (x 1) (x 2) i
    ⟨[y], [i', s2]⟩
  | 8 =>
    let e := Fp.sub (x 0) (x 1)
    let (r, n1, n2) := biquad (c 1) (c 2) (c 3) (c 4) (c 5) e s1 s2
    ⟨[Fp.add (Fp.mul (c 0) e) r], if Fp.isZero (x 2) then [n1, n2] else [s1, s2]⟩
  | 9 =>
    let (y, n1, n2) := biquad (c 0) (c 1) (c 2) (c 3) (c 4) (x 0) s1 s2
    ⟨[y], [n1, n2]⟩
  | 10 =>
    let n := (Fp.floorInt (c 2)).toNat
    let u := Fp.clamp (Fp.div (Fp.sub (x 0) (c 0)) (c 1)) 0 (Fp.ofInt (n - 1 : Nat))
    let i := min (Fp.floorInt u).toNat (n - 2)
    let yi := c (3 + i)
    ⟨[if n < 2 ∨ 64 < n ∨ Fp.ofInt (n : Nat) ≠ c 2 then Config.lutOpen (x 0) (c 2) else if Fp.bad u then Fp.nan else Fp.add yi (Fp.mul (Fp.sub u (Fp.ofInt i)) (Fp.sub (c (4 + i)) yi))], []⟩
  | 11 =>
    let al := Fp.div (Fp.sub (Fp.sub (Fp.mul two (x 0)) (x 1)) (x 2)) three
    let be := Fp.div (Fp.sub (x 1) (x 2)) fpRoot3
    let z := Fp.div (Fp.add (Fp.add (x 0) (x 1)) (x 2)) three
    let co := Fp.cos (x 3)
    let si := Fp.sin (x 3)
    ⟨[Fp.add (Fp.mul al co) (Fp.mul be si), Fp.add (Fp.mul (Fp.fneg al) si) (Fp.mul be co), z], []⟩
  | 12 =>
    let co := Fp.cos (x 3)
    let si := Fp.sin (x 3)
    let al := Fp.sub (Fp.mul (x 0) co) (Fp.mul (x 1) si)
    let be := Fp.add (Fp.mul (x 0) si) (Fp.mul (x 1) co)
    let ha := Fp.mul (Fp.fneg al) half
    let hb := Fp.mul fpHalfRoot3 be
    ⟨[Fp.add al (x 2), Fp.add (Fp.add ha hb) (x 2), Fp.add (Fp.sub ha hb) (x 2)], []⟩
  | _ => ⟨[], []⟩

/-- Runs one block on the working copy (R214, R218, R221, R224). -/
def runBlock (s : State) (ts : Word) (set : Nat) (changed : Bool) (slotNo : Nat) (w : Work) (b : List Byte) : Work :=
  let t := bType b
  let x i := if bit (bIn b i) 15 then (0 : Word) else w.sig s (bIn b i % 4096)
  let c k := if bSched b then s.reg (A.LOOP_COEF set (bCoef b % 16 + k)) else w.sig s (bCoef b % 4096 + k)
  let o := evalBlock t x c (w.sig s (bOut b)) (w.word s (2 * slotNo)) (w.word s (2 * slotNo + 1)) ts
    (changed && bSched b && t == 7)
  let badN := (o.ys.filter Fp.bad).length
  let w := { w with numeric := w.numeric + badN }
  let w := (o.ys.mapIdx (fun i y => (i, y))).foldl (fun (w : Work) (iy : Nat × Word) =>
    let a := bOut b + iy.1
    if w.locked.contains a then w else if Fp.bad iy.2 then w.setSig a (s.sig a) else w.setSig a iy.2) w
  if badN = 0 then (o.ws.mapIdx (fun i v => (i, v))).foldl (fun (w : Work) iv => w.setWord (2 * slotNo + iv.1) iv.2) w else w

/-- The region of R220: upward moves, then downward. -/
def regionUp (d : List Byte) (v : Word) (hyst : Word) : Nat → Nat → Nat
  | 0, j => j
  | n + 1, j => if j + 1 < lNreg d ∧ Fp.le (Fp.add (lThr d (j + 1)) hyst) v then regionUp d v hyst n (j + 1) else j
def regionDown (d : List Byte) (v : Word) (hyst : Word) : Nat → Nat → Nat
  | 0, j => j
  | n + 1, j => if 0 < j ∧ Fp.lt v (Fp.sub (lThr d j) hyst) then regionDown d v hyst n (j - 1) else j
def regionOf (d : List Byte) (v hyst : Word) (j : Nat) : Nat := regionDown d v hyst 16 (regionUp d v hyst 16 j)

/-- Runs one loop on the working copy. -/
def runLoop (s : State) (w : Work) (n : Nat) : Work :=
  let l := s.loopSt n
  let ts := sampleTime (lRate l.desc) s.clk.tickLen
  let old := s.f (F.LOOP_L_SCHED_REGION n)
  let v := w.sig s (lVar l.desc % 4096)
  let j := if lNreg l.desc = 0 then 0 else if l.fresh then regionOf l.desc v 0 0 else regionOf l.desc v (lHyst l.desc) old
  let w := { w with regions := (n, j) :: w.regions }
  let first := s.f (F.LOOP_L_CFG_FIRST n)
  let changed := decide (j ≠ old) && !l.fresh && lNreg l.desc != 0
  (l.blocks.mapIdx (fun i b => (i, b))).foldl (fun w ib => runBlock s ts (lSet l.desc j) changed (first + ib.1) w ib.2) w

/-- Due loops in the order of R214: NEST descending, then index ascending. -/
def State.dueLoops (s : State) : List Nat :=
  let due := s.enabledLoops.filter (fun n =>
    s.tickNo % lRate (s.loopSt n).desc == lPhase (s.loopSt n).desc)
  ([3, 2, 1, 0].map (fun k => due.filter (fun n => lNest (s.loopSt n).desc == k))).flatten

/-- SLOPE of a string in the safety record (13 R347). -/
def State.ssSlope (s : State) (k : Nat) : Word := BitVec.ofNat 32 (numAt s.safe.record (48 + 16 * k) 4)

def stringNumbers : List Nat := List.range 16

/-- Relay slot `r`: the bytes of the unit's up frame, and whether they are fresh (R212). -/
def State.relay (s : State) (r : Nat) : List Byte × Nat × Bool :=
  let n := s.f (F.LOOP_RELAY_SRC_LANE r)
  let fr := (s.unit n).frame
  let got := numAt fr 108 1
  let usable := fr.length == 128 && !bit (numAt fr 1 1) 1 && (s.unit n).capacity == 0 && (s.unit n).status == 0 &&
    s.f (F.LANE_STATUS_FAR_ROLE n) == 0
  let seen := Map.get 0 s.loop.relaySeen r ||| got
  (if usable then fr else [], if usable then got else 0, usable && got != 0 && got == seen)

/-- Snapshot into the working copy (R210, R212). -/
def State.snapshot (s : State) : State × Work :=
  let w : Work := {}
  let w := (List.range 128).foldl (fun (w : Work) i =>
    w.setSig i (Fp.ofInt (s.fi (F.MEAS_RES_CODE (i / 32) (i % 32))))) w
  if !s.isMeadow then (s, w)
  else
    let w := stringNumbers.foldl (fun (w : Work) k =>
      let t := Map.get {} s.yar.strings k
      (((w.setSig (0xC0 + 4 * k) (Fp.ofInt t.avail)).setSig (0xC1 + 4 * k) (Fp.round false t.vsum 10 0)).setSig
        (0xC2 + 4 * k) (if s.on (F.YAR_S_SAT_SAT k) then 0x3F800000 else 0)).setSig (0xC3 + 4 * k) (Fp.ofInt t.stale)) w
    (List.range 8).foldl (fun (sw : State × Work) r =>
      let (s, w) := sw
      if !s.on (F.LOOP_RELAY_SRC_EN r) then sw
      else
        let (fr, got, fresh) := s.relay r
        let s := { s with loop.relaySeen := Map.set 0 s.loop.relaySeen r (Map.get 0 s.loop.relaySeen r ||| got) }
        let w := (List.range 8).foldl (fun (w : Work) v =>
          if bit got v then w.setSig (0x80 + 8 * r + v) (Fp.ofInt (signed 16 (numAt fr (92 + 2 * v) 2))) else w) w
        (s.raiseIf (!fresh) FS.LOOP_RELAY_STALE, w.setSig (0x200 + r) (if fresh then 0x3F800000 else 0))) (s, w)

/-- Safe Stop ramps of a run: overrides and active flags (R228). -/
def State.ramps (s : State) (w : Work) : State × Work × List (Nat × Word) :=
  stringNumbers.foldl (fun (acc : State × Work × List (Nat × Word)) k =>
    let (s, w, rs) := acc
    let active := s.ssActive k
    let first := active && !s.loop.ssSeen.contains k
    let s := { s with loop.ssSeen := if active then (if first then k :: s.loop.ssSeen else s.loop.ssSeen)
                                     else s.loop.ssSeen.filter (· != k) }
    if active && !s.on (F.LOOP_SS_EN k) then (s.raiseIf first FS.LOOP_SS_UNMAPPED, w.setSig (0x210 + k) 0x3F800000, rs)
    else if active then
      let a := s.f (F.LOOP_SS_ADDR k)
      let step := Fp.mul (s.ssSlope k) (sampleTime 1 s.clk.tickLen)
      let from_ := if first then s.sig a else ((s.loop.ramps.find? (fun p => p.1 == k)).map (·.2)).getD (s.sig a)
      let r := if Fp.lt step from_ then Fp.sub from_ step
        else if Fp.lt from_ (Fp.fneg step) then Fp.add from_ step else 0
      (s, { (w.setSig a r).setSig (0x210 + k) 0x3F800000 with locked := a :: w.locked }, (k, r) :: rs)
    else (s, w.setSig (0x210 + k) 0, rs)) (s, w, [])

/-- The engine runs in this tick (R205). -/
def State.engineRuns (s : State) : Bool :=
  s.on F.LOOP_CTRL_ENG_EN && (s.st == ST.READY || s.st == ST.RUN || s.st == ST.HOLD) &&
    s.acting && s.dueLoops != []

/-- The loop window opens: the run is made on a copy (R206, R222). -/
def State.loopRun (s : State) : State :=
  if !s.engineRuns then { s with loop.done := true }
  else
    let (s, w) := s.snapshot
    let (s, w, rs) := if s.isMeadow then s.ramps w else (s, w, [])
    let due := s.dueLoops
    let w := due.foldl (runLoop s) w
    let run : LoopRun := { sigs := w.sigs, words := w.words, regions := w.regions, ran := due, ramps := rs, numeric := w.numeric
                           opened := s.now, clks := 56 + (due.map (fun n => loopCost (s.loopSt n))).foldl (· + ·) 0 }
    { s with loop.run := some run, loop.done := false }

/-! Commit (R222 to R227). -/

/-- Value of port `k` from its signal; none when the port is off or its signal is not finite (R225). -/
def State.portValue (s : State) (k : Nat) : Option Word :=
  let v := s.sig (s.f (F.LOOP_PORT_ADDR k))
  if s.on (F.LOOP_PORT_EN k) && !Fp.bad v then some v else none

/-- The string ports of a Meadow (R225, R226). -/
def State.stringPorts (s : State) : State :=
  if !s.isMeadow then s
  else s.each stringNumbers (fun s k =>
    if s.on (F.YAR_S_CFG_SRC k) then s
    else
      let s := match s.portValue k with
        | some v => s.setF (F.YAR_S_DEM_DEM k) (unsigned 26 (clampInt (-33554432) 33554431 (Fp.roundInt v 4096)))
        | none => s
      match s.portValue (16 + k) with
      | some v => s.setF (F.YAR_S_IARM_IARM k) (unsigned 24 (clampInt (-8388608) 8388607 (Fp.roundInt v 1000)))
      | none => s)

/-- Values for the PERIOD and DUTY ports at the next boundary (R227). -/
def State.pairPorts (s : State) : List (Nat × Nat) :=
  ((List.range 8).map (fun i => (32 + i, s.portValue (32 + i)))).filterMap (fun kv =>
    kv.2.map (fun v => (kv.1, (clampInt 0 16777215 (Fp.roundInt v 1)).toNat)))

/-- The commit of a run. -/
def State.commitRun (s : State) (r : LoopRun) : State :=
  let s := s.each r.sigs (fun s p => s.setReg (sigAddr p.1) p.2)
  let s := s.each r.words (fun s p => { s with loop.words := Map.set 0 s.loop.words p.1 p.2 })
  let s := s.each r.regions (fun s p =>
    let l := s.loopSt p.1
    ((s.setF (F.LOOP_L_SCHED_REGION p.1) p.2).setF (F.LOOP_L_SCHED_SET p.1) (lSet l.desc p.2)).setLoopSt p.1 { l with fresh := false })
  let s := s.each r.ran (fun s n => s.setReg (A.LOOP_L_RUNS n) (s.reg (A.LOOP_L_RUNS n) + 1))
  let s := { s with loop.ramps := r.ramps, loop.run := none, loop.done := true }
  let s := (s.bumpBy F.LOOP_CNT_NUMERIC_CNT r.numeric).raiseIf (decide (0 < r.numeric)) FS.LOOP_NUMERIC
  let len := min r.clks 0xFFFE
  let s := (s.setF F.LOOP_STAT_LAST_CLK len).setF F.LOOP_STAT_PEAK_CLK (max len (s.f F.LOOP_STAT_PEAK_CLK))
  let s := s.stringPorts
  { s with loop.portWrites := s.pairPorts }

/-- A run is abandoned (R223): nothing is committed. -/
def State.abandonRun (s : State) : State :=
  let s := { s with loop.run := none, loop.done := false }
  ((s.bump F.LOOP_CNT_OVERRUN_CNT).setF F.LOOP_STAT_LAST_CLK 0xFFFF).raiseIf (!s.isMeadow) FS.LOOP_OVERRUN

/-! Opcodes (R232 to R234). -/

/-- Word `i` of a parameter list. -/
def wordAt (b : List Byte) (i : Nat) : Word := BitVec.ofNat 32 (numAt b i 4)

/-- Number of points of a LUT whose third coefficient sits in parameter memory. -/
def lutPoints (s : State) (b : List Byte) : Nat := (Fp.floorInt (s.sig (bCoef b % 4096 + 2))).toNat

/-- One block slot is well formed (R216, R218). -/
def State.blockOk (s : State) (b : List Byte) : Bool :=
  let t := bType b
  let resIn := (List.range 4).all (fun i => bits (bIn b i) 14 12 == 0)
  let pts := lutPoints s b
  let n := if t = 10 then (if 2 ≤ pts ∧ pts ≤ 64 then 3 + pts else 3) else typeCoefs t
  decide (1 ≤ t) && decide (t ≤ 12) && numAt b 1 1 ≤ 1 && bits (numAt b 2 2) 15 12 == 0 && resIn && numAt b 14 2 == 0 &&
    decide (0x220 ≤ bOut b) && decide (bOut b + typeOuts t ≤ 0x1000) &&
    (if bSched b then bCoef b ≤ 15 && t != 10 && bCoef b + typeCoefs t ≤ 16
     else decide (bCoef b < 4096) && (n == 0 || (decide (0x100 ≤ bCoef b) && decide (bCoef b + n ≤ 0x200))))

/-- Outputs of a loop's blocks. -/
def loopOuts (l : LoopSt) : List Nat :=
  (l.blocks.map (fun b => (List.range (typeOuts (bType b))).map (fun i => bOut b + i))).flatten

/-- First free run of `k` slots (R232). -/
def State.freeSlots (s : State) : List Bool :=
  let live := loopNumbers.filter (fun n => s.on (F.LOOP_L_CFG_LIVE n))
  (List.range 1024).map (fun i => !live.any (fun n =>
    decide (s.f (F.LOOP_L_CFG_FIRST n) ≤ i) && decide (i < s.f (F.LOOP_L_CFG_FIRST n) + s.f (F.LOOP_L_CFG_COUNT n))))

/-- Longest run of free slots ending anywhere, and the first start of a run of `k`: walked once. -/
def freeWalk (k : Nat) : List Bool → Nat → Nat → Nat → Option Nat → Nat × Option Nat
  | [], _, _, best, first => (best, first)
  | b :: bs, i, len, best, first =>
    if b then
      let len := len + 1
      freeWalk k bs (i + 1) len (max best len) (first.or (if len = k then some (i + 1 - k) else none))
    else freeWalk k bs (i + 1) 0 best first

def State.firstFit (s : State) (k : Nat) : Option Nat := (freeWalk k s.freeSlots 0 0 0 none).2

/-- LOOP_USE follows the live loops. -/
def State.loopUse (s : State) : State :=
  let fr := s.freeSlots
  (s.setF F.LOOP_USE_FREE (fr.filter id).length).setF F.LOOP_USE_LARGEST (freeWalk 0 fr 0 0 0 none).1

/-- A descriptor is within its ranges (R232). -/
def State.loopDescOk (s : State) (b : List Byte) : Bool :=
  let d := b.take 88
  let thr := (List.range (lNreg d - 1)).map (fun i => lThr d (i + 1))
  let blocks := (List.range (lCount d)).map (fun i => slice b (88 + 16 * i) 16)
  let outs := loopOuts { desc := d, blocks := blocks }
  let others := (loopNumbers.filter (fun n => s.on (F.LOOP_L_CFG_LIVE n))).map (fun n => loopOuts (s.loopSt n))
  decide (88 ≤ b.length) && decide (1 ≤ lCount d) && decide (lCount d ≤ 1024) && b.length == 88 + 16 * lCount d &&
    decide (lNest d ≤ 3) && decide (lPhase d < lRate d) && decide (lNreg d ≤ 16) && decide (lVar d < 4096) &&
    Fp.le 0 (lHyst d) && (List.range 16).all (fun j => decide (lSet d j ≤ 63)) &&
    (List.zipWith (fun a b => Fp.lt a b) thr (thr.drop 1)).all id &&
    blocks.all s.blockOk && !others.any (fun o => o.any outs.contains)

/-- LOOP_CREATE once its handle index is known: places the loop (R232). -/
def State.placeLoop (s : State) (n first : Nat) (b : List Byte) : State :=
  let d := b.take 88
  let l : LoopSt := { fresh := true, desc := d, blocks := (List.range (lCount d)).map (fun i => slice b (88 + 16 * i) 16) }
  let s := s.setLoopSt n l
  let s := ((((s.setF (F.LOOP_L_CFG_LIVE n) 1).setF (F.LOOP_L_CFG_EN n) 0).setF (F.LOOP_L_CFG_NEST n) (lNest d)).setF
    (F.LOOP_L_CFG_COUNT n) (lCount d)).setF (F.LOOP_L_CFG_FIRST n) first
  let s := ((s.setF (F.LOOP_L_TIM_COST n) (loopCost l)).setF (F.LOOP_L_TIM_PHASE n) (lPhase d)).setF (F.LOOP_L_TIM_RATE_M1 n) (lRate d - 1)
  let s := (((s.setF (F.LOOP_L_SCHED_SET n) 0).setF (F.LOOP_L_SCHED_REGION n) 0).setF (F.LOOP_L_SCHED_VAR n)
    (if lNreg d = 0 then 0 else lVar d)).setReg (A.LOOP_L_RUNS n) 0
  (s.loopUse).loopRegs

/-- The state words of a loop. -/
def State.loopWords (s : State) (n : Nat) : List Nat :=
  (List.range (2 * (s.loopSt n).blocks.length)).map (fun k => 2 * s.f (F.LOOP_L_CFG_FIRST n) + k)

/-- A run that has not committed yet leaves a loop out, because it has been reset or destroyed since the window opened (R233, R234). -/
def State.leaveOut (s : State) (n : Nat) : State :=
  let outs := loopOuts (s.loopSt n)
  let words := s.loopWords n
  { s with loop.run := s.loop.run.map (fun r => { r with
      sigs := r.sigs.filter (fun p => !outs.contains p.1), words := r.words.filter (fun p => !words.contains p.1)
      regions := r.regions.filter (fun p => p.1 != n), ran := r.ran.filter (· != n) }) }

/-- A destroyed loop's slots are free; its signals keep their values (R233). -/
def State.freeLoop (s : State) (n : Nat) : State :=
  let s := (s.leaveOut n).setLoopSt n {}
  let s := s.each [A.LOOP_L_CFG n, A.LOOP_L_TIM n, A.LOOP_L_SCHED n, A.LOOP_L_RUNS n] (fun s a => s.setReg a 0)
  (s.loopUse).loopRegs

/-- The phase map lets a loop run (R207). -/
def State.loopPhaseOk (s : State) : Bool :=
  let ta := s.f F.TICK_PH_TALLY_PHASE
  let le := s.f F.TICK_PH_LOOP_END_PHASE
  s.isMeadow || (decide (ta < le) && decide (le + 140 ≤ s.f F.TICK_CFG_TICK_PERIOD) &&
    (!s.isFloret || decide (s.f F.TICK_PH_SAMPLE_PHASE + 150 ≤ ta)))

/-- Exit checks of R207 and R229. -/
def State.loopExitOk (s : State) : Bool :=
  s.enabledLoops == [] || (s.loopPhaseOk && decide (s.loopEstimate s.enabledLoops ≤ s.loopWindow))

/-- LOOP_ENABLE on loop `n` (R234). -/
def opLoopEnable (n : Nat) (p : Packet) (s : State) : Out :=
  let mode := numAt p.params 0 1
  if p.params.length ≠ 1 ∨ 2 < mode then refuse s Stat.BAD_PARAM
  else if mode = 0 then ok ((s.setF (F.LOOP_L_CFG_EN n) 0).loopRegs)
  else if !s.loopPhaseOk then refuse s Stat.BAD_PARAM
  else
    let e := s.loopEstimate (if s.on (F.LOOP_L_CFG_EN n) then s.enabledLoops else s.enabledLoops ++ [n])
    if s.loopWindow < e then refuse s Stat.NO_RESOURCE (leBytes 2 e)
    else
      let l := s.loopSt n
      let s := if mode = 1 then
          let s := (s.leaveOut n).each (loopOuts l) (fun s a => s.setReg (sigAddr a) 0)
          (s.each (s.loopWords n) (fun s k => { s with loop.words := Map.set 0 s.loop.words k 0 })).setF (F.LOOP_L_SCHED_REGION n) 0
        else s
      let s := s.setLoopSt n { l with fresh := mode == 1 || l.fresh }
      ok (((s.setF (F.LOOP_L_CFG_EN n) 1).setReg (A.LOOP_L_RUNS n) 0).loopRegs)

/-- LOOP_COEF_SET (R234). -/
def opLoopCoefSet (p : Packet) (s : State) : Out :=
  let c := numAt p.params 0 1
  if p.params.length ≠ 65 ∨ 63 < c then refuse s Stat.BAD_PARAM
  else ok (s.each (List.range 16) (fun s w => s.setReg (A.LOOP_COEF c w) (wordAt p.params (1 + 4 * w))))

/-- LOOP_PARAM_SET (R234). -/
def opLoopParamSet (p : Packet) (s : State) : Out :=
  let a := numAt p.params 0 2
  let n := numAt p.params 2 1
  if p.params.length ≠ 3 + 4 * n ∨ n < 1 ∨ 64 < n ∨ a < 0x100 ∨ 0x200 < a + n then refuse s Stat.BAD_PARAM
  else ok (s.each (List.range n) (fun s i => s.setReg (sigAddr (a + i)) (wordAt p.params (3 + 4 * i))))

/-- LOOP_SIG_READ (R234). -/
def opLoopSigRead (p : Packet) (s : State) : Out :=
  let a := numAt p.params 0 2
  let n := numAt p.params 2 1
  if p.params.length ≠ 3 ∨ n < 1 ∨ 64 < n ∨ 0x1000 < a + n then refuse s Stat.BAD_PARAM
  else ok s ((List.range n).map (fun i => leBytes 4 (s.sig (a + i)).toNat)).flatten




/-- LOOP_INFO on loop `n` (R234). -/
def opLoopInfo (n : Nat) (p : Packet) (s : State) : Out :=
  if p.params ≠ [] then refuse s Stat.BAD_PARAM
  else ok s (s.reg4 (A.LOOP_L_CFG n) ++ s.reg4 (A.LOOP_L_TIM n) ++ s.reg4 (A.LOOP_L_SCHED n) ++ s.reg4 (A.LOOP_L_RUNS n))

/-- LOOP_BUDGET_READ (R234). -/
def opLoopBudgetRead (p : Packet) (s : State) : Out :=
  if p.params ≠ [] then refuse s Stat.BAD_PARAM
  else ok s (s.reg4 A.LOOP_WIN ++ s.reg4 A.LOOP_STAT ++ s.reg4 A.LOOP_CNT ++ s.reg4 A.LOOP_PROG)

/-! Events. -/

/-- LOOP_COMMIT (R222): the last due loop completes; when 16 clk no longer remain before LOOP_END, R223 applies instead. -/
def onLoopCommit (s : State) : State :=
  match s.loop.run with
  | none => s
  | some r =>
    let s' := s.reachNow (r.opened + 2 * r.clks)
    if s.clk.tickStart + s.clk.phLoopEnd * 2000 < s'.clk.timePs then (s.reachPhase (s.clk.phLoopEnd - 16)).abandonRun
    else s'.commitRun r

/-- LOOP_ABANDON (R223). -/
def onLoopAbandon (s : State) : State :=
  match s.loop.run with
  | none => s
  | some _ => (s.reachPhase (s.clk.phLoopEnd - 16)).abandonRun

end Sys2Proof.Machine
end

