-- ==== Sys2Proof/Machine/Yarrow.lean ====
section
/-!
DEFINITION. Yarrow.lean: energy keys, Tallies, merging, top allocation, split and decision (05_yarrow_balancing.md).
-/
namespace Sys2Proof.Machine
open Sys2Proof

/-- `n / d` rounded to the nearest integer, halves away from zero (R137). -/
def roundAway (n : Int) (d : Nat) : Int :=
  if 0 ≤ n then (2 * n + d) / (2 * d) else -((2 * (-n) + d) / (2 * d))

/-- key_raw (R137) for code `v`, nominal code `vnom`, `cratio` in 2^-14, scale `ks`. -/
def keyRaw (ks cratio v vnom : Nat) : Nat :=
  (clampInt 0 255 (128 + roundAway ((ks : Int) * ((cratio * v * v : Nat) - (0x4000 * vnom * vnom : Nat))) (0x4000 * vnom * vnom))).toNat

/-- key_eff (R141): the stay bonus of a cell inserted by the last decision, in the direction of that decision. -/
def keyEff (raw bonus : Nat) (inserted : Bool) (dir : Nat) : Nat :=
  if inserted then (if dir = 0 then raw - bonus else min 255 (raw + bonus)) else raw

/-- Cells a Floret of a KIND drives (R21). -/
def kindCells (kind : Nat) : Nat := if kind = 3 then 2 else if kind = 0 then 0 else 1

/-- The Floret's cells. -/
def State.cells (s : State) : List Nat := List.range (if s.isFloret then kindCells (s.f F.CMD_NODE_KIND) else 0)

/-- Adds `n` to bin `b`. -/
def addBin (bins : List Nat) (b n : Nat) : List Nat := bins.mapIdx (fun i v => if i = b then v + n else v)

/-- A cell is available at UP (R142): RUN or HOLD, and no flag set. -/
def State.cellAvail (s : State) (c : Nat) : Bool :=
  (s.st == ST.RUN || s.st == ST.HOLD) && s.f (F.YAR_CELL_EXCL c) == 0 && s.f (F.YAR_CELL_BYPASSED c) == 0 &&
  s.f (F.YAR_CELL_FAILED c) == 0 && s.f (F.YAR_CELL_RETIRED c) == 0 && s.f (F.YAR_CELL_NO_MEAS c) == 0

/-- Measurement result word of the entry a cell names (R137). -/
def State.cellResult (s : State) (c : Nat) : Nat × Nat := (s.f (F.YAR_CELL_SEQ c), s.f (F.YAR_CELL_ENTRY c))

/-- The entry produced a result in this tick (R139). -/
def State.resultFresh (s : State) (q e : Nat) : Bool :=
  s.on (F.MEAS_RES_VALID q e) && s.f (F.MEAS_RES_TICK q e) == s.tickNo % 256

/-- One cell's key at UP (R137 to R142), with its flags and counts. -/
def State.cellKey (s : State) (c : Nat) : State :=
  let (q, e) := s.cellResult c
  if !s.resultFresh q e then
    let s := (s.setF (F.YAR_CELL_NO_MEAS c) 1).raise FS.YAR_NO_MEAS
    s.setF (F.YAR_CELL_AVAIL c) 0
  else
    let s := s.setF (F.YAR_CELL_NO_MEAS c) 0
    let v := (max 0 (s.fi (F.MEAS_RES_CODE q e))).toNat
    let ks := 128 * 2 ^ s.f F.YAR_CFG_KSCALE
    let cr := if s.on F.YAR_CFG_KEY_MODE then 0x4000 else s.f (F.YAR_CRATIO_CRATIO c)
    let s := if s.on (F.MEAS_RES_SETTLE q e) then s
      else s.setF (F.YAR_CELL_KEY_RAW c) (keyRaw ks cr v (s.f F.YAR_VNOM_VNOM))
    let s := s.when (s.on (F.MEAS_RES_OVR q e)) (fun s => (s.bump F.YAR_FCNT_KEY_OVR).raise FS.YAR_KEY_OVR)
    let ins := s.yar.applied && s.on (F.YAR_CELL_INSERTED c) && s.f (F.YAR_CELL_TRIM c) == 0
    let dir := (s.yar.cur.map (·.dir)).getD 0
    let s := s.setF (F.YAR_CELL_KEY c) (keyEff (s.f (F.YAR_CELL_KEY_RAW c)) (s.f F.YAR_CFG_BONUS) ins dir)
    s.setF (F.YAR_CELL_AVAIL c) (b2n (s.cellAvail c))

/-- Cells counted available in the last Tally. -/
def State.availCells (s : State) : List Nat := s.cells.filter (fun c => s.on (F.YAR_CELL_AVAIL c))

/-- A Floret's Tally (R144, R26). -/
def State.floretTally (s : State) : State :=
  let s := s.each s.cells State.cellKey
  let av := s.availCells
  let volt c := (max 0 (s.fi (F.MEAS_RES_CODE (s.cellResult c).1 (s.cellResult c).2))).toNat
  let vsum := (av.map volt).foldl (· + ·) 0 * s.f F.YAR_VNOM_VGAIN / 65536
  let t : Tally := {
    bins := av.foldl (fun b c => addBin b (s.f (F.YAR_CELL_KEY c) / 8) 1) (List.replicate 32 0)
    avail := av.length, unavail := s.cells.length - av.length, stale := 0, vsum := vsum }
  { s with yar.own := t, yar.ownTick := s.tickNo }

/-- Sum of two Tallies bin by bin; VSUM and FCOUNT saturate (R145, 12 R338). -/
def Tally.add (a b : Tally) : Tally :=
  { bins := List.zipWith (· + ·) a.bins b.bins
    avail := a.avail + b.avail, unavail := a.unavail + b.unavail, stale := a.stale + b.stale
    vsum := min (a.vsum + b.vsum) 0xFFFFFFFF, tmax := max a.tmax b.tmax
    fcount := min (a.fcount + b.fcount) 0xFFFF }

/-- What a unit adds to the merge (R145): its Tally on time; its Tally as stale; its capacity as unavailable. -/
def UnitSt.contrib (u : UnitSt) : Tally :=
  if u.status = 0 then u.used
  else if u.status = 1 then { u.used with stale := u.used.avail, fcount := 0 }
  else { unavail := u.capacity }

/-- Merge of units (R145). -/
def mergeUnits (us : List UnitSt) : Tally := us.foldl (fun t u => t.add u.contrib) {}

/-- Bins in the preferred order of a direction. -/
def preferred (dir : Nat) : List Nat := if dir = 0 then List.range 32 else (List.range 32).reverse

/-- Bin `a` is before bin `b` in the preferred order of `dir`. -/
def before (dir a b : Nat) : Bool := if dir = 0 then decide (a < b) else decide (b < a)

/-- Walk of R151: the threshold bin and the share of it for `n` cells; open where the bins hold fewer (a Tally that breaks R145). -/
def threshold (bins : List Nat) (n : Nat) : List Nat → Nat → Nat × Nat
  | [], cum => ((Config.noThreshold n cum).1 % 32, (Config.noThreshold n cum).2 % 4096)
  | b :: bs, cum => if n ≤ cum + bins.getD b 0 then (b, n - cum) else threshold bins n bs (cum + bins.getD b 0)

/-- The top allocation of one string (R147 to R151): demand in 1/4096 cell, arm current, full-bridge string. -/
structure TopAlloc where
  n : Nat := 0
  frac : Nat := 0
  neg : Bool := false
  dir : Nat := 0
  thresh : Nat := 0
  share : Nat := 0
  sat : Bool := false
  deriving DecidableEq, Repr

/-- R151. -/
def topAllocate (bins : List Nat) (avail : Nat) (dem iarm : Int) (fb : Bool) : TopAlloc :=
  let cut := decide (dem < 0) && !fb
  let d := if cut then 0 else dem
  let n0 := d.natAbs / 4096
  let f0 := d.natAbs % 4096
  let neg := decide (d < 0)
  let dir := if decide (iarm < 0) == neg then 0 else 1
  let ovr := decide (avail < n0)
  let n := if ovr then avail else n0
  let f1 := if ovr then 0 else f0
  let top := n == avail && decide (0 < f1)
  let f := if top then 0 else f1
  let (t, sh) := threshold bins n (preferred dir) 0
  { n := n, frac := f, neg := neg, dir := dir, thresh := t, share := sh, sat := cut || ovr || top }

/-- Unit numbers once round from `start` (R152). -/
def onceRound (k start : Nat) : List Nat := (List.range k).map (fun i => (start + i) % k)

/-- Shares of R152 walked once round: unit number and share, and what is left. -/
def walkShares (c : List (List Nat)) (t : Nat) : List Nat → Nat → List (Nat × Nat) × Nat
  | [], rem => ([], rem)
  | u :: us, rem =>
    let sh := min rem ((c.getD u []).getD t 0)
    let (l, r) := walkShares c t us (rem - sh)
    ((u, sh) :: l, r)

/-- Outcome of a split (R152). -/
structure SplitOut where
  shares : List (Nat × Nat) := []
  holder : Option Nat := none
  ptr : Nat := 0
  rem : Nat := 0
  lost : Bool := false
  deriving DecidableEq, Repr

/-- R152: `c` holds each unit's bins in order of first lane. -/
def split (c : List (List Nat)) (ptr t dir share : Nat) (token : Bool) : SplitOut :=
  let k := c.length
  let (sh, rem) := walkShares c t (onceRound k ptr) share
  let got u := ((sh.find? (fun p => p.1 == u)).map (·.2)).getD 0
  let last := (sh.filter (fun p => p.2 != 0)).getLast?.map (·.1)
  let start := last.getD ptr
  let inT := (onceRound k start).find? (fun u => decide (got u < (c.getD u []).getD t 0))
  let later := (preferred dir).filter (fun b => before dir t b)
  let inLater := later.findSome? (fun b => (onceRound k start).find? (fun u => decide (0 < (c.getD u []).getD b 0)))
  let holder := if token then inT.or inLater else none
  { shares := sh, holder := holder, rem := rem, lost := token && holder.isNone
    ptr := match last with
      | some u => (u + 1) % k
      | none => ptr }

/-- Polarity of a decision (R157): the sign of IARM in direction 0, the opposite in direction 1. -/
def decisionNeg (iarm : Int) (dir : Nat) : Bool := if dir = 0 then decide (iarm < 0) else decide (0 ≤ iarm)

/-- Cells in the order of R158: by key, then cell 0 first. -/
def cellOrder (dir : Nat) (keys : List (Nat × Nat)) : List Nat :=
  match keys with
  | [(c, k), (c', k')] =>
    if (if dir = 0 then decide (k' < k) else decide (k < k')) then [c', c] else [c, c']
  | l => l.map (·.1)

/-- Walk of R158: cells to insert. -/
def decideCells (t dir : Nat) (key : Nat → Nat) : List Nat → Nat → List Nat
  | [], _ => []
  | c :: cs, share =>
    if before dir (key c / 8) t then c :: decideCells t dir key cs share
    else if key c / 8 = t ∧ 0 < share then c :: decideCells t dir key cs (share - 1)
    else decideCells t dir key cs share

/-- TRIM_PCLK (R156), rounded to the nearest pclk; between two that are equally near it is open. -/
def trimPclk (frac tickLen : Nat) : Nat :=
  let x := frac * tickLen * 2
  if x % 4096 = 2048 then x / 4096 + b2n (Config.halfUp x) else (x + 2048) / 4096

/-- A Floret's decision on a frame's Yarrow fields (R156 to R159). -/
def State.decideFrame (s : State) (thresh dir share : Nat) (token : Bool) (frac iarm : Nat) : State :=
  let neg := decisionNeg (signed 24 iarm) dir
  let half := s.f F.CMD_NODE_KIND != 2
  let key c := s.f (F.YAR_CELL_KEY c)
  let order := cellOrder dir (s.availCells.map (fun c => (c, key c)))
  let bad := half && neg && s.cells.length != 0
  let ins := if bad then [] else decideCells thresh dir key order share
  let trim := if token && decide (0 < frac) && !bad then order.find? (fun c => !ins.contains c) else none
  let d : Decision := { thresh := thresh, dir := dir, share := share, token := token, frac := frac, neg := neg
                        iarm := iarm, insert := ins, trim := trim, trimPclk := if trim.isSome then trimPclk frac s.clk.tickLen else 0 }
  let s := { s with yar.pend := some d }
  let s := ((((s.setF F.YAR_DEC0_SHARE share).setF F.YAR_DEC0_TOKEN (b2n token)).setF F.YAR_DEC0_DIR dir).setF
    F.YAR_DEC0_THRESH thresh).setF F.YAR_DEC1_FRAC frac
  s.raiseIf bad FS.YAR_POLARITY

/-- 70 bytes of a Tally: bins, AVAIL, UNAVAIL, STALE (R170). -/
def Tally.bytes70 (t : Tally) : List Byte :=
  (t.bins.map (leBytes 2)).flatten ++ leBytes 2 t.avail ++ leBytes 2 t.unavail ++ leBytes 2 t.stale

end Sys2Proof.Machine
end

