-- ==== Sys2Proof/Machine/Switching.lean ====
section
/-!
DEFINITION. Switching.lean: pairs, edges, forcing, trim and carrier channels (06_cell_switching.md). Times are those of
the pulse clock, pclk (1 ns).
-/
namespace Sys2Proof.Machine
open Sys2Proof

/-- The four pairs. -/
def pairNumbers : List Nat := [0, 1, 2, 3]

def State.pair (s : State) (p : Nat) : PairSt := Map.get {} s.swu.pairs p
def State.setPair (s : State) (p : Nat) (x : PairSt) : State := { s with swu.pairs := Map.set {} s.swu.pairs p x }
def State.updPair (s : State) (p : Nat) (g : PairSt → PairSt) : State := s.setPair p (g (s.pair p))

/-- The four sequences of the measurement unit (08 R241). -/
def seqNumbers : List Nat := List.range 4
def State.seq (s : State) (q : Nat) : SeqSt := Map.get {} s.meas.seqs q
def State.setSeq (s : State) (q : Nat) (x : SeqSt) : State := { s with meas.seqs := Map.set {} s.meas.seqs q x }
def State.updSeq (s : State) (q : Nat) (g : SeqSt → SeqSt) : State := s.setSeq q (g (s.seq q))

/-- The last edge of one output at or before time `t`: true when it left the output on. -/
def lastEdge (edges : List (Nat × Bool × Bool)) (even : Bool) (t : Nat) : Option (Nat × Bool) :=
  ((edges.filter (fun e => e.2.1 == even && decide (e.1 ≤ t))).getLast?).map (fun e => (e.1, e.2.2))

/-- The output is at its on level at time `t`. -/
def PairSt.outOn (x : PairSt) (even : Bool) (t : Nat) : Bool := ((lastEdge x.edges even t).map (·.2)).getD false

/-- Level driven on GO[n] (R171, R172): low under power-on reset, the safe level under boundary scan (18 R464), else the safe level or its opposite. -/
def State.goLevel (s : State) (n : Nat) : Bool :=
  if s.clk.por then false
  else if s.node.bscan then bit (s.f F.SWU_SAFE_SAFE) n
  else bit (s.f F.SWU_SAFE_SAFE) n != (s.pair (n / 2)).outOn (n % 2 == 0) s.pclk

/-- Yarrow pairs of the role and KIND (R175). -/
def State.yarPairs (s : State) : List Nat :=
  if s.isFloret then
    match s.f F.CMD_NODE_KIND with
    | 1 => [0]
    | 2 => [0, 1]
    | 3 => [0, 1]
    | _ => []
  else []

/-- Gate driver faults, EN, POL and PAIRS of FAULTIN[n] (R192). -/
def finField (n lo : Nat) (w : Nat) : Fld :=
  let a := if n < 4 then A.SWU_FIN_CFG0 else A.SWU_FIN_CFG1
  ⟨a, 8 * (n % 4) + lo + w - 1, 8 * (n % 4) + lo⟩
def State.finEn (s : State) (n : Nat) : Bool := s.f (finField n 5 1) == 1
def State.finPol (s : State) (n : Nat) : Bool := s.f (finField n 4 1) == 1
def State.finPairs (s : State) (n : Nat) : Nat := s.f (finField n 0 4)

/-- Node in BLOCKED or LOCKOUT, or Safe Gate Removal requested (R193), or a demand of level 2 or 3 that channel B places whatever
channel A does (13 R345). -/
def State.blockReq (s : State) : Bool :=
  s.st == ST.BLOCKED || s.st == ST.LOCKOUT || s.on F.SAFE_STAT_SGR || decide (2 ≤ s.safe.chbLevel)

/-- A core is halted by the debugger while DBG_SAFE is 1 (R199). -/
def State.dbgForce (s : State) : Bool := s.on F.SWU_CTRL_DBG_SAFE && s.f F.DISP_DBG_HALTED != 0

/-- A cause of R193 stands for pair `p` itself. -/
def State.pairCause (s : State) (p : Nat) : Bool :=
  (bitList 8 (s.f F.SWU_FLT_FIN_LATCH)).any (fun n => bit (s.finPairs n) p) || s.on F.SWU_FLT_CLK_LOST ||
  bit (s.f F.SWU_FLT_RB_LATCH) p || bit (s.f F.SWU_FLT_SWF_LATCH) p || s.blockReq || s.dbgForce

/-- Pair `p` is forced (R193); in a full-bridge Floret P0 and P1 force each other (R194). -/
def State.forced (s : State) (p : Nat) : Bool :=
  s.pairCause p ||
    (s.isFloret && s.f F.CMD_NODE_KIND == 2 && ((p == 0 && s.pairCause 1) || (p == 1 && s.pairCause 0)))

/-- Pclk of an output's last edge so far. -/
def PairSt.edgeAt (x : PairSt) (even : Bool) (t : Nat) : Nat :=
  ((lastEdge x.edges even t).map (·.1)).getD (if even then x.evenAt else x.oddAt)

/-- Both outputs off at once at pclk `t`: edges still scheduled are cancelled, an output that was on makes its off edge. -/
def PairSt.off (x : PairSt) (t now : Nat) : PairSt :=
  let at' (even : Bool) : Nat := if x.outOn even t then t else x.edgeAt even t
  { x with logical := none, edges := [], evenAt := at' true, oddAt := at' false, changed := if x.logical.isSome then now else x.changed }

/-- A pair drops to its safe level and the carry is cleared (R181, R192); readback is blanked from the start of the force (R198). -/
def State.dropPair (s : State) (p : Nat) : State :=
  (s.updPair p (fun x => { x.off s.pclk s.now with
    waits := true, isForced := true, forcedAt := if x.isForced then x.forcedAt else s.pclk })).setF (F.SWU_P_CARRY_ACC p) 0

/-- First pair of a cell. -/
def cellPair (kind c : Nat) : Nat := if kind = 3 then c else 0

/-- The FAILED flags follow the forces on the cells' pairs (R195). -/
def State.failedFlags (s : State) : State :=
  s.each s.cells (fun s c => s.setF (F.YAR_CELL_FAILED c) (b2n (s.forced (cellPair (s.f F.CMD_NODE_KIND) c))))

/-- Every forced pair stands at its safe level, and the FAILED flags follow (R193, R195). -/
def State.applyForces (s : State) : State :=
  let free := pairNumbers.filter (fun p => !s.forced p && (s.pair p).isForced)
  let s := s.each (pairNumbers.filter s.forced) State.dropPair
  (s.each free (fun s p => s.updPair p (fun x => { x with isForced := false }))).failedFlags

/-- DT_EXTRA of pair `p` in the margin plan (15 R394). -/
def State.dtExtra (s : State) (p : Nat) : Nat := (s.reg A.LIFE_DTX).toNat / 2 ^ (8 * p) % 256

/-- TRIG 3h (08 R242): the first change of pair `p` to a sequence's LEVEL in a tick sets its run OFS clk after the change, at pclk `t`. A
run that falls past the next boundary takes the next tick's place, so that tick's own first change is ignored. -/
def State.noteChange (s : State) (p : Nat) (even : Bool) (t : Nat) : State :=
  s.each seqNumbers (fun s q =>
    let x := s.seq q
    let tick := s.clk.bounds + 1
    if !s.on (F.MEAS_Q_CFG_STARTED q) ∨ x.stopping ∨ s.f (F.MEAS_Q_CFG_TRIG q) ≠ 3 ∨ s.f (F.MEAS_Q_CFG_PAIR q) ≠ p ∨
        s.on (F.MEAS_Q_CFG_LEVEL q) = even ∨ x.seen = tick then s
    else if x.carried ∧ x.seen + 1 = tick then s.setSeq q { x with seen := tick, carried := false }
    else
      let due := t + 2 * s.f (F.MEAS_Q_OFS_OFS q)
      let past := decide (s.clk.nextAt + s.clk.pulsePs ≤ due * 1000 + s.clk.timePs)
      s.setSeq q { x with dues := x.dues ++ [due], seen := tick, carried := past })

/-- Places an on edge at `on` (and an off edge at `off`) on a pair's outputs, with the interlock of R174. -/
def State.placeEdges (s : State) (p : Nat) (toEven : Bool) (t : Nat) : State :=
  let x := s.pair p
  let rdly n := s.f (F.SWU_O_DLY_RDLY n)
  let fdly n := s.f (F.SWU_O_DLY_FDLY n)
  let nOn := if toEven then 2 * p else 2 * p + 1
  let nOff := if toEven then 2 * p + 1 else 2 * p
  let onAt := t + s.f (F.SWU_P_DT_DT p) + s.dtExtra p + rdly nOn
  let leaving := x.logical.isSome
  let offAt := t + fdly nOff
  let overlap := leaving && decide (onAt ≤ offAt)
  let onAt := if overlap then offAt + 1 else onAt
  let kept := x.edges.filter (fun e => !(e.2.1 != toEven && e.2.2 && leaving && decide (offAt ≤ e.1)))
  let edges := kept ++ (if leaving then [(offAt, !toEven, false)] else []) ++ [(onAt, toEven, true)]
  let old := edges.filter (fun e => decide (e.1 ≤ s.pclk))
  let new := edges.filter (fun e => decide (s.pclk < e.1))
  let keepOld := (old.filter (fun e => e.2.1)).getLast?.toList ++ (old.filter (fun e => !e.2.1)).getLast?.toList
  let s := s.setPair p { x with logical := some toEven, edges := keepOld ++ new, waits := false, changed := s.now }
  (s.when overlap (fun s => s.bump (F.SWU_P_STAT_OVERLAP_CNT p))).noteChange p toEven t

/-- A pair takes a logical state at pclk `t`; a pair that keeps its state makes no edge, a forced one changes nothing (R179, R195). -/
def State.setLogical (s : State) (p : Nat) (even : Bool) (t : Nat) : State :=
  if s.forced p ∨ (s.pair p).logical = some even then s else s.placeEdges p even t

/-- Both outputs of a pair go off at once, without R179's delays (R186). -/
def State.pairOff (s : State) (p : Nat) : State := s.updPair p (fun x => x.off s.pclk s.now)

/-! Yarrow cells. -/

/-- A cell takes its bypass or inserted state on its pairs at pclk `t` (R177, R178). -/
def State.cellState (s : State) (c : Nat) (inserted neg : Bool) (t : Nat) : State :=
  let kind := s.f F.CMD_NODE_KIND
  if kind ≠ 2 then s.setLogical (cellPair kind c) inserted t
  else if inserted then (s.setLogical 0 (!neg) t).setLogical 1 neg t
  else
    let already := (s.pair 0).logical.isSome && (s.pair 0).logical == (s.pair 1).logical
    match s.f F.SWU_CTRL_BYP_LEG with
    | 1 => (s.setLogical 0 true t).setLogical 1 true t
    | 2 =>
      if already then s
      else
        let s' := (s.setLogical 0 s.swu.bypUpper t).setLogical 1 s.swu.bypUpper t
        if s.forced 0 then s else { s' with swu.bypUpper := !s.swu.bypUpper }
    | _ => (s.setLogical 0 false t).setLogical 1 false t

/-- Accumulator ACC of a pair, signed pclk. -/
def State.acc (s : State) (p : Nat) : Int := s.fi (F.SWU_P_CARRY_ACC p)
def State.setAcc (s : State) (p : Nat) (v : Int) : State := s.setF (F.SWU_P_CARRY_ACC p) (unsigned 25 v)

/-- Window W of a pair (R181). -/
def State.window (s : State) (p : Nat) : Nat := s.f (F.SWU_P_DT_DT p) + s.f (F.SWU_P_DT_MINPW p)

/-- The minimum-pulse walk shared by R182 and R183: request, new carry, suppressed. `upper` is the largest request below
the whole period that is made. -/
def formRequest (want acc : Int) (period w upper : Nat) : Nat × Int × Bool :=
  let r0 := want + acc
  let (r, a) := if r0 < 0 then ((0 : Int), r0) else if (period : Int) < r0 then ((period : Int), r0 - period) else (r0, 0)
  if 0 < r ∧ r < w then (0, a + r, true)
  else if (upper : Int) < r ∧ r < period then (period, a - (period - r), true)
  else (r.toNat, a, false)

/-- Request of a period or a trim on pair `p`, its counts and the carry it leaves (R182, R183). -/
def State.request (s : State) (p want period upper : Nat) : Nat × State :=
  let (r, a, sup) := formRequest want (s.acc p) period (s.window p) upper
  let s := s.when sup (fun s => s.bump (F.SWU_P_STAT_SUPPRESS_CNT p))
  if a.natAbs > period then
    (r, (s.setAcc p (if a < 0 then -(period : Int) else period)).bump (F.SWU_P_CARRY_CARRY_LOST p))
  else (r, s.setAcc p a)

/-- A carry left on a cell that is not the trim cell of the next tick is discarded (R182). -/
def State.discardCarry (s : State) (c : Nat) : State :=
  let p := cellPair (s.f F.CMD_NODE_KIND) c
  if s.acc p = 0 then s else (s.setAcc p 0).bump (F.SWU_P_CARRY_CARRY_LOST p)

/-- Applies a decision (fresh, or repeated in a held tick) at the boundary plus OFFSET (R160, R162, R182, R143). A pair that
waits at its safe level leaves it by a fresh decision only (R197). -/
def State.applyDecision (s : State) (d : Decision) (fresh : Bool) : State :=
  let t := s.pclk
  let tt := s.clk.tickLen * 2
  let s := s.each s.cells (fun s c => if d.trim = some c then s else s.discardCarry c)
  let s := s.each s.cells (fun s c =>
    let p := cellPair (s.f F.CMD_NODE_KIND) c
    let (r, s) := if d.trim = some c then s.request p d.trimPclk tt (tt - s.window p) else (0, s)
    let ins := d.insert.contains c
    let short := fresh && (ins || decide (0 < r)) && s.forced p
    let s := s.when short (fun s => (s.bump F.YAR_FCNT_SHORT).raise FS.YAR_CELL_SHORT)
    let s := if !fresh && (s.pair p).waits then s else s.cellState c (ins || decide (0 < r)) d.neg t
    let s := if d.trim = some c then
        { s with yar.trimEnd := if 0 < r ∧ r < tt then some (t + r) else none } else s
    ((s.setF (F.YAR_CELL_INSERTED c) (b2n ins)).setF (F.YAR_CELL_NEG c) (b2n (ins && d.neg))).setF
      (F.YAR_CELL_TRIM c) (b2n (d.trim == some c)))
  { (s.setF F.YAR_DEC1_TRIM_PCLK d.trimPclk) with yar.cur := some d, yar.applied := true }

/-- The stagger offset, pclk (R160). -/
def State.stagOffset (s : State) : Nat := s.addr % s.f F.YAR_STAG_SLOTS * s.f F.YAR_STAG_STEP

/-- DECISION_APPLY (R160, R63, R436): the decision of the tick, or the last one again while the Floret holds. -/
def onDecisionApply (s : State) : State :=
  if !s.isFloret then s
  else
    let s := s.reachTime (s.clk.tickStart + s.stagOffset * 1000)
    if s.st = ST.RUN ∨ s.st = ST.HOLD then
      match s.yar.pend with
      | some d =>
        let s := { s with yar.pend := none }
        let s := (s.when (s.st == ST.HOLD) (fun s => s.enter ST.RUN)).setF F.TICK_HOLD_HOLD_CNT 0
        s.applyDecision d true
      | none =>
        match s.yar.cur with
        | some d => if s.st = ST.HOLD then s.applyDecision d false else s
        | none => s
    else s

/-- TRIM_END (R156): the trim cell is bypassed again. -/
def onTrimEnd (s : State) : State :=
  match s.yar.trimEnd, s.yar.cur with
  | some e, some d =>
    let s := { (s.reachPclk e) with yar.trimEnd := none }
    match d.trim with
    | some c => if (s.pair (cellPair (s.f F.CMD_NODE_KIND) c)).waits then s else s.cellState c false d.neg s.pclk
    | none => s
  | _, _ => s

/-- Yarrow pairs and their cells stand at the safe level; no decision stays applied (R176, R433). A carry left over on a pair that no
force has cleared has no trim to go to: it is discarded (R182). -/
def State.yarrowSafe (s : State) : State :=
  let s := s.each s.yarPairs State.pairOff
  let s := s.each (s.cells.filter (fun c => !s.forced (cellPair (s.f F.CMD_NODE_KIND) c))) State.discardCarry
  let s := s.each s.cells (fun s c => ((s.setF (F.YAR_CELL_INSERTED c) 0).setF (F.YAR_CELL_NEG c) 0).setF (F.YAR_CELL_TRIM c) 0)
  { (s.setF F.YAR_DEC1_TRIM_PCLK 0) with yar.pend := none, yar.cur := none, yar.applied := false, yar.trimEnd := none }

/-! Carrier channels. -/

/-- Pair `p` carries a channel. -/
def State.hasChan (s : State) (p : Nat) : Bool := s.f (F.SWU_P_CFG_MODE p) == 2

/-- Values of R184 for CMODE and W. -/
def chanValuesOk (cmode w period duty : Nat) : Bool :=
  decide (16 ≤ period) && decide ((if cmode = 0 then 2 else 4) * w ≤ period) && decide (duty ≤ period)

/-- The two gap checks of R201 for a pair. -/
def State.gapsOk (s : State) (p : Nat) : Bool :=
  let dt := s.f (F.SWU_P_DT_DT p)
  decide (s.f (F.SWU_O_DLY_FDLY (2 * p + 1)) < dt + s.f (F.SWU_O_DLY_RDLY (2 * p))) &&
  decide (s.f (F.SWU_O_DLY_FDLY (2 * p)) < dt + s.f (F.SWU_O_DLY_RDLY (2 * p + 1)))

/-- Exit checks of R201. -/
def State.swuExitOk (s : State) : Bool :=
  s.yarPairs.all (fun p => decide (s.window p ≤ s.f F.TICK_CFG_TICK_PERIOD) && s.gapsOk p)

/-- Writes of the shadows (R189): a write without a channel is ignored. -/
def State.shadowWrite (s : State) (p : Nat) (period duty : Option Nat) : State :=
  if !s.hasChan p then s
  else
    let s := match period with
      | some v => (s.setF (F.SWU_P_PERIOD_VALUE p) v).setF (F.SWU_P_STAT_PW p) 1
      | none => s
    match duty with
    | some v => (s.setF (F.SWU_P_DUTY_VALUE p) v).setF (F.SWU_P_STAT_DW p) 1
    | none => s

/-- Transfer of both shadows at an update point, refused when they break R184 (R189 to R191). -/
def State.transfer (s : State) (p : Nat) : State :=
  let per := s.f (F.SWU_P_PERIOD_VALUE p)
  let dut := s.f (F.SWU_P_DUTY_VALUE p)
  let s' := (s.setF (F.SWU_P_STAT_PW p) 0).setF (F.SWU_P_STAT_DW p) 0
  let s' := (s'.setF (F.SWU_P_STAT_HALF_UPD p) 0).setF (F.SWU_P_STAT_HALF_CNT p) 0
  let s' := s'.updPair p (fun x => { x with chan.commit := false, chan.halfRaised := false })
  if chanValuesOk (s.f (F.SWU_P_CFG_CMODE p)) (s.window p) per dut then
    ((s'.setF (F.SWU_P_ACTP_VALUE p) per).setF (F.SWU_P_ACTD_VALUE p) dut).setF (F.SWU_P_STAT_BAD_SET p) 0
  else (s'.setF (F.SWU_P_STAT_BAD_SET p) 1).raise FS.SWU_BAD_SET

/-- An update point (R189, R190). -/
def State.updatePoint (s : State) (p : Nat) : State :=
  let pw := s.on (F.SWU_P_STAT_PW p)
  let dw := s.on (F.SWU_P_STAT_DW p)
  let s := s.updPair p (fun x => { x with chan.updTick := s.clk.bounds })
  if (s.pair p).chan.commit || (pw && dw) then s.transfer p
  else if pw || dw then
    let n := min 3 (s.f (F.SWU_P_STAT_HALF_CNT p) + 1)
    let s := (s.setF (F.SWU_P_STAT_HALF_UPD p) 1).setF (F.SWU_P_STAT_HALF_CNT p) n
    if n = 2 ∧ !(s.pair p).chan.halfRaised then
      (s.updPair p (fun x => { x with chan.halfRaised := true })).raise FS.SWU_HALF_UPDATE
    else s
  else s.setF (F.SWU_P_STAT_HALF_CNT p) 0

/-- The changes of logical state in a period from `t0` with request `r` (R187). -/
def periodChanges (cmode t0 period r : Nat) : List (Nat × Bool) :=
  if r = 0 then [(t0, false)]
  else if r = period then [(t0, true)]
  else if cmode = 0 then [(t0, true), (t0 + r, false)]
  else
    let a := (period - r) / 2
    if a = 0 then [(t0, true), (t0 + r, false)] else [(t0, false), (t0 + a, true), (t0 + a + r, false)]

/-- Begins a period at `t0`: update point, request with carry, first logical state (R183, R187, R188). -/
def State.beginPeriod (s : State) (p t0 : Nat) (first : Bool) : State :=
  let upd := s.f (F.SWU_P_CFG_UPD p)
  let s := if upd = 0 ∨ first ∨ (s.pair p).chan.updTick ≠ s.clk.bounds then s.updatePoint p else s
  let per := s.f (F.SWU_P_ACTP_VALUE p)
  let cm := s.f (F.SWU_P_CFG_CMODE p)
  let w := s.window p
  let (r, s) := s.request p (s.f (F.SWU_P_ACTD_VALUE p)) per (if cm = 0 then per - w else per - 2 * w)
  let s := match periodChanges cm t0 per r with
    | (_, e) :: rest =>
      (s.setLogical p e t0).updPair p (fun x => { x with chan.changes := rest })
    | [] => s
  s.updPair p (fun x => { x with chan.periodAt := t0, chan.nextAt := t0 + per, chan.startAt := none })

/-- A running or waiting channel stands stopped with its pair off (R186). -/
def State.haltChan (s : State) (p : Nat) : State :=
  ((s.pairOff p).setF (F.SWU_P_CFG_RUN p) 0).updPair p (fun x =>
    { x with chan.startAt := none, chan.startCmd := none, chan.stopCmds := [], chan.changes := [] })

end Sys2Proof.Machine
end

