-- ==== Sys2Proof/Machine/Measure.lean ====
section
/-!
DEFINITION. Measure.lean: slices, sequences, dispatch, results, injections, calibration and cross-check
(08_measurement.md).
-/
namespace Sys2Proof.Machine
open Sys2Proof

def sliceNumbers : List Nat := List.range 5

def State.adc (s : State) (n : Nat) : Slice := Map.get {} s.meas.slices n
def State.setSlice (s : State) (n : Nat) (x : Slice) : State := { s with meas.slices := Map.set {} s.meas.slices n x }

/-- INPUT and DIFF that R237 allows. -/
def inputOk (i : Nat) : Bool :=
  let n := i % 32
  if bit i 5 then decide (n ≤ 22) && n % 2 == 0 else decide (n ≤ 27)

/-- Entries of a sequence. -/
def State.seqCount (s : State) (q : Nat) : Nat := s.f (F.MEAS_Q_CFG_COUNT_M1 q) + 1

/-- Active slices that are free, ascending (R245). -/
def State.freeSlices (s : State) : List Nat :=
  sliceNumbers.filter (fun n => bit (s.f F.MEAS_SLICE_ACTIVE) n && (s.adc n).conv.isNone)

/-- A running sequence of which entries wait for dispatch. -/
def State.entryWaits (s : State) (q : Nat) : Bool := (s.seq q).running && decide ((s.seq q).next < s.seqCount q)

/-- MeasWork for a free slice: an entry of a sequence's run, or an injection. -/
inductive MeasWork where
  | run (q : Nat)
  | injection (x : Inject)
  deriving DecidableEq, Repr

/-- The work waiting in the clk of elapsed time `t`, in the order of R245. A run that starts in that clk goes before every injection
(R246); one of TRIG 1h only when no other entry waits. An injection waits from the clk after its request. -/
def State.nextWork (s : State) (t : Nat) : Option MeasWork :=
  let waits := seqNumbers.filter s.entryWaits
  let triggered := waits.filter (fun q => s.f (F.MEAS_Q_CFG_TRIG q) != 1)
  let starts q := (s.seq q).startAt / 2 == t / 2
  let first := (if triggered = [] then waits else triggered).find? starts
  let locked := waits.any (fun q => s.on (F.MEAS_Q_CFG_LOCKINJ q))
  let inj := if locked then none else s.meas.inj.head?.filter (fun x => decide (x.since / 2 < t / 2))
  (first.map .run).or ((inj.map .injection).or ((triggered.head?.or waits.head?).map .run))

/-- Dispatches slice `n` on a piece of work at elapsed time `t` (R235, R250). -/
def State.dispatchOn (s : State) (n t : Nat) (work : MeasWork) : State :=
  let shadowed := match s.meas.shadow with
    | some (x, k, _, _) => x == n && decide (k < 16)
    | none => false
  let at' := s.clk.timePs + (t + 40) * 1000 - s.now * 1000
  let c : Conversion := { since := t, tick := at' / s.tickPs, sampled := at' / 1000, shadowed := shadowed }
  match work with
  | .run q =>
    let e := (s.seq q).next
    let s := s.when (e == 0) (fun s => s.setF (F.MEAS_Q_T0_T0 q) (at' / 1000 % 2 ^ 32))
    let i := s.f (F.MEAS_Q_E_INPUT q e) + 32 * s.f (F.MEAS_Q_E_DIFF q e)
    (s.updSeq q (fun x => { x with next := e + 1 })).setSlice n { s.adc n with conv := some { c with input := i, entry := some (q, e) } }
  | .injection x =>
    { s with meas.inj := s.meas.inj.tail }.setSlice n { s.adc n with conv := some { c with input := x.input, cmd := x.cmd } }

/-- Dispatch of R245 over the free slices in the clk of elapsed time `t`. -/
def State.dispatch (s : State) (t : Nat) : State :=
  s.each s.freeSlices (fun s n =>
    match s.nextWork t with
    | some w => s.dispatchOn n t w
    | none => s)

/-- What the clks before that of elapsed time `t` dispatched: that of the unit's last event, whose triggers and completions are then all
known (R56, R246), and the one after it, for an injection requested in it (R249). -/
def State.measSettle (s : State) (t : Nat) : State :=
  if s.meas.last / 2 < t / 2 then
    let s := s.dispatch s.meas.last
    if s.meas.last / 2 + 1 < t / 2 then s.dispatch (s.meas.last + 2) else s
  else s

/-- An event of the unit falls at elapsed time `t`. -/
def State.measAt (s : State) (t : Nat) : State := { s.measSettle t with meas.last := max s.meas.last t }

/-- Conversions in progress for sequence `q`. -/
def State.adcs (s : State) (q : Nat) : List Conversion :=
  (sliceNumbers.filterMap (fun n => (s.adc n).conv)).filter (fun c => (c.entry.map (·.1)) == some q)

/-- The run of sequence `q` completes in this clk: all it still waits for are results written in it. -/
def State.endsNow (s : State) (q : Nat) : Bool :=
  !s.entryWaits q && (s.adcs q).all (fun c => (c.since + 200) / 2 == s.now / 2)

/-- A trigger event of sequence `q` (R242, R243): its run starts, or is missed because the last one has not completed; one that completes
in this same clk does so first. -/
def State.startRun (s : State) (q : Nat) (cmd : Option Packet := none) : State :=
  let s := s.measAt s.now
  if !(s.seq q).running then
    s.updSeq q (fun x => { x with running := true, startAt := s.now, next := 0, written := 0, startCmd := cmd })
  else if s.endsNow q then s.updSeq q (fun x => { x with again := true, nextCmd := cmd })
  else (s.bump (F.MEAS_Q_STAT_MISSED q)).raise FS.MEAS_LATE

/-- A run completes: its count, its waiting commands, the run that starts in the same clk, and a continuous sequence's next run
(R242 to R244). -/
def State.completeRun (s : State) (q : Nat) : State :=
  let x := s.seq q
  let s := s.setF (F.MEAS_Q_STAT_RUNS q) (s.f (F.MEAS_Q_STAT_RUNS q) + 1)
  let s := s.setSeq q { x with running := false, startCmd := none, again := false, nextCmd := none }
  let s := match x.startCmd with
    | some p => s.release 0x0601 p Stat.OK []
    | none => s
  if x.again then s.startRun q x.nextCmd
  else if x.stopping then
    let s := (s.setF (F.MEAS_Q_CFG_STARTED q) 0).updSeq q (fun x => { x with stopping := false, stopCmds := [] })
    s.each x.stopCmds (fun s p => s.finalReply 0x0602 p Stat.OK [])
  else if s.f (F.MEAS_Q_CFG_TRIG q) = 1 ∧ s.on (F.MEAS_Q_CFG_STARTED q) then s.updSeq q (fun x => { x with dues := [s.pclk + 2] })
  else if s.f (F.MEAS_Q_CFG_TRIG q) = 2 then s.setF (F.MEAS_Q_CFG_STARTED q) 0
  else s

/-- Result word of R248. -/
def resultWord (tick slice : Nat) (settle ovr : Bool) (code : Int) : Nat :=
  tick % 256 * 2 ^ 24 + slice * 2 ^ 20 + 2 ^ 19 + b2n settle * 2 ^ 17 + b2n ovr * 2 ^ 16 + unsigned 16 code

/-- Next active slice after `n` in the rotation of R250. -/
def State.nextActive (s : State) (n : Nat) : Option Nat :=
  ((List.range 5).map (fun i => (n + 1 + i) % 5)).find? (fun k => bit (s.f F.MEAS_SLICE_ACTIVE) k && k != n)

/-- The spare takes the place of active slice `t` (R250, R251). -/
def State.swapSpare (s : State) (t : Nat) (keep : Bool) : State :=
  let sp := s.f F.MEAS_SLICE_SPARE
  let s := (s.clrBit F.MEAS_SLICE_ACTIVE t).setBit F.MEAS_SLICE_ACTIVE sp
  if keep then (s.setF F.MEAS_SLICE_SPARE t).setF F.MEAS_SLICE_ROTATIONS (s.f F.MEAS_SLICE_ROTATIONS + 1)
  else (s.setBit F.MEAS_SLICE_FAILED t).setF F.MEAS_SLICE_NOSPARE 1

/-- The spare is marked failed (R251). -/
def State.failSpare (s : State) : State :=
  (s.setBit F.MEAS_SLICE_FAILED (s.f F.MEAS_SLICE_SPARE)).setF F.MEAS_SLICE_NOSPARE 1

/-- One shadow comparison, and the end of the cross-check after 16 (R250, R251). -/
def State.compareShadow (s : State) (code shadow : Int) (discard : Bool) : State :=
  match s.meas.shadow with
  | none => s
  | some (t, k, mx, first) =>
    if discard then s
    else
      let mx := max mx (code - shadow).natAbs
      if k + 1 < 16 then { s with meas.shadow := some (t, k + 1, mx, first) }
      else
        let s := { s with meas.shadow := none }.setF F.MEAS_XCHK_MAXDIFF (min mx 0xFFFF)
        let pass := decide (mx ≤ s.f F.MEAS_CTRL_XCHK_TOL)
        match first, pass with
        | none, true => s.swapSpare t true
        | none, false =>
          match s.nextActive t with
          | some t' => { s with meas.shadow := some (t', 0, 0, some t) }
          | none => s.failSpare.raise FS.MEAS_XCHECK
        | some t0, true => (s.swapSpare t0 false).raise FS.MEAS_XCHECK
        | some _, false => s.failSpare.raise FS.MEAS_XCHECK

/-! Codes (R237 to R240). -/

/-- Nearest integer to `n / d`, halves away from zero as 05 R137 and 07 R225 round. -/
def roundDiv (n : Int) (d : Nat) : Int :=
  if n < 0 then -((2 * -n + (d : Int)) / (2 * d)) else (2 * n + d) / (2 * d)

/-- The code that R237's formula gives for an input byte: `a` and `b` are the voltages of the two balls, or of the monitor, in nV; the
die temperature in 10^-9 °C. -/
def inputCode (i : Nat) (a b : Int) : Int :=
  let n := i % 32
  if bit i 5 then roundDiv ((a - b) * 32768) 1800000000
  else if n ≤ 23 then roundDiv ((a - 900000000) * 32768) 900000000
  else if n = 24 then roundDiv a 10000000
  else if n ≤ 26 then roundDiv (a * 16384) 1800000000
  else roundDiv (a * 32768) 1800000000

/-- A ball's voltage lies outside 0 to 1.8 V (R240). -/
def overRange (v : Int) : Bool := decide (v < 0) || decide (1800000000 < v)

/-- Exposure (R240): a ball the conversion uses is next to one that is over range at the sampling instant or came back less than 400 ns
before it. `near` lists such balls with the ns since their return, 0 while over range; the conversion's own balls speak for themselves. -/
def exposed (i : Nat) (a b : Int) (near : List (Fin 24 × Nat)) : Bool :=
  let n := i % 32
  let own := if bit i 5 then [n, n + 1] else [n]
  let outs := (near.filter (fun x => decide (x.2 < 400))).map (·.1.val) ++ (if overRange a then [n] else []) ++
    (if bit i 5 && overRange b then [n + 1] else [])
  decide (n ≤ 23) && own.any (fun m => outs.any (fun k => k + 1 == m || m + 1 == k))

/-- Largest error of a conversion that carries no flag: 64 codes when exposed (R240), else the accuracy of 18 R460: integral
non-linearity 2, offset 4 and 0.05 % gain on the AIN balls, 3 °C on the die temperature, 1 % on the monitors. -/
def errorBound (i : Nat) (code : Int) (expo : Bool) : Nat :=
  let n := i % 32
  if expo then 64
  else if n = 24 then 300
  else if n = 25 ∨ n = 26 then (code.natAbs + 99) / 100
  else 6 + (code.natAbs + 1999) / 2000

/-- A slice's code and OVR for a sample (R238 to R240): the code of the formula with its error `err`, which R239 and a unit that no longer
calibrates (R251) leave unbounded. Beyond the range the code is its end, with OVR. -/
def sampleCode (i : Nat) (a b : Int) (expo loose : Bool) (err : Int) : Int × Bool :=
  let c := inputCode i a b
  let lim : Int := errorBound i c expo
  if c < -32768 ∨ 32767 < c then (clampInt (-32768) 32767 c, true)
  else (clampInt (-32768) 32767 (c + if loose then err else clampInt (-lim) lim err), false)

/-- One slice writes its result (R235, R238, R239, R248): `err` its error and `shErr` that of the spare that shadows it. Also gives the
sequence entry written and whether its run completed. -/
def State.convert (s : State) (n : Nat) (a b : Int) (near : List (Fin 24 × Nat)) (err shErr : Int) : State × Option (Nat × Nat) × Bool :=
  match (s.adc n).conv with
  | none => (s, none, false)
  | some c =>
    let s := (s.reachNow (c.since + 200)).measAt (c.since + 200)
    let x := s.adc n
    let settle := decide (0 < x.settle)
    let expo := exposed c.input a b near
    let unseen := s.on F.MEAS_SLICE_NOSPARE
    let (code, ovr) := sampleCode c.input a b expo (settle || unseen) err
    let s := s.setSlice n { conv := none, settle := if ovr then 2 else x.settle - 1 }
    let w := resultWord c.tick n settle ovr code
    let s := (s.when ovr (fun s => s.bump F.MEAS_CNT_OVR_CNT)).when settle (fun s => s.bump F.MEAS_CNT_SETTLE_CNT)
    let sp := s.adc (s.f F.MEAS_SLICE_SPARE)
    let s := if c.shadowed then
        let (sh, shOvr) := sampleCode c.input a b expo (decide (0 < sp.settle)) shErr
        (s.setSlice (s.f F.MEAS_SLICE_SPARE) { sp with settle := if shOvr then 2 else sp.settle - 1 }).compareShadow code sh
          (ovr || settle || shOvr || decide (0 < sp.settle))
      else s
    match c.entry with
    | some (q, e) =>
      let s := s.setReg (A.MEAS_RES q e) (BitVec.ofNat 32 w)
      let s := if ovr && s.meas.ovrTick != some s.tickNo then { s with meas.ovrTick := some s.tickNo }.raise FS.MEAS_OVR else s
      let s := s.updSeq q (fun x => { x with written := x.written + 1 })
      let fin := decide (s.seqCount q ≤ (s.seq q).written)
      (if fin then s.completeRun q else s, some (q, e), fin)
    | none =>
      let s := match c.cmd with
        | some p => s.release 0x0604 p Stat.OK (leBytes 4 w)
        | none => s.setReg A.MEAS_INJ_RES (BitVec.ofNat 32 w)
      (s, none, false)

/-! Events. -/

/-- The tick in progress holds a trigger of a TRIG 0h sequence that has not been taken (R242). -/
def State.phaseTrigger (s : State) (q : Nat) : Bool :=
  s.tickNo % (s.f (F.MEAS_Q_CFG_DIV_M1 q) + 1) == 0 && (s.seq q).seen != s.clk.bounds + 1

/-- A trigger event of a started sequence is taken: at SAMPLE + OFS of the tick, or at the time set for it (R242). -/
def State.takeTrigger (s : State) (q : Nat) : State :=
  let ofs := s.clk.phSample + s.f (F.MEAS_Q_OFS_OFS q)
  match s.f (F.MEAS_Q_CFG_TRIG q) with
  | 0 =>
    if !s.phaseTrigger q then s
    else
      let took (s : State) := s.updSeq q (fun x => { x with seen := s.clk.bounds + 1 })
      if s.clk.tickLen ≤ ofs then ((took s).bump (F.MEAS_Q_STAT_MISSED q)).raise FS.MEAS_LATE
      else if !s.phaseFalls ofs then s
      else (took (s.reachPhase ofs)).startRun q
  | _ =>
    match (s.seq q).dues with
    | [] => s
    | d :: ds => ((s.reachPclk d).updSeq q (fun x => { x with dues := ds })).startRun q

/-- SEQUENCE_RUN_START (R242): the trigger event of a started sequence falls. -/
def onSequenceRunStart (q : Nat) (s : State) : State :=
  if !s.on (F.MEAS_Q_CFG_STARTED q) ∨ (s.seq q).stopping then s else s.takeTrigger q

/-- A trigger event of sequence `q` falls in this clk and has not been taken yet (R244). -/
def State.triggerNow (s : State) (q : Nat) : Bool :=
  let ofs := s.clk.phSample + s.f (F.MEAS_Q_OFS_OFS q)
  match s.f (F.MEAS_Q_CFG_TRIG q) with
  | 0 => s.phaseTrigger q && decide (ofs < s.clk.tickLen) && s.phaseFalls ofs && decide (s.clk.tickStart + ofs * 2000 < s.clk.timePs + 2000) &&
      decide (s.clk.timePs < s.clk.tickStart + (ofs + 1) * 2000)
  | _ => (s.seq q).dues.any (fun d => decide (d / 2 ≤ s.pclk / 2))

/-- CALIBRATION_CYCLE (R250): CAL_PERIOD after the last cycle the spare starts to calibrate itself, unless it is still busy with it. -/
def onCalibrationCycle (s : State) : State :=
  if s.on F.MEAS_SLICE_NOSPARE then s
  else
    let s := s.reachNow (s.meas.calAt + s.f F.MEAS_CTRL_CAL_PERIOD * 1000000)
    let s := { s with meas.calAt := s.now }
    if s.meas.shadow.isSome then s else { s with meas.calibrating := true }

/-- A trim within its field (R250). -/
def trimFits (v : Int) : Bool := decide (-32768 ≤ v) && decide (v ≤ 32767)

/-- The trims of slice `n` (R250). -/
def State.setTrims (s : State) (n : Nat) (gain offset : Int) : State :=
  (s.setF (F.MEAS_SCAL_GAIN n) (unsigned 16 gain)).setF (F.MEAS_SCAL_OFFSET n) (unsigned 16 offset)

/-- CALIBRATION_DONE (R250, R251): trims within their fields pass, and the spare starts shadowing the next active slice. -/
def onCalibrationDone (gain offset : Int) (s : State) : State :=
  if !s.meas.calibrating then s
  else
    let s := { (s.measAt s.now) with meas.calibrating := false }
    let sp := s.f F.MEAS_SLICE_SPARE
    if trimFits gain && trimFits offset then
      let s := s.setTrims sp gain offset
      match s.nextActive sp with
      | some t => { s with meas.shadow := some (t, 0, 0, none) }
      | none => s
    else s.failSpare.raise FS.MEAS_CAL

/-- Requests already in the queue that come before one of place `rank` in the present clk (R249). -/
def State.before (s : State) (rank : Nat) (x : Inject) : Bool := decide (x.since / 2 < s.now / 2) || decide (x.rank ≤ rank)

/-- Queues an injection in its place (R249); none when the queue of 4 holds no room for it. A register request that comes after it in
the same clk's order loses its place and is counted. -/
def State.inject (s : State) (x : Inject) : Option State :=
  let s := s.measAt s.now
  let ahead := s.meas.inj.takeWhile (s.before x.rank)
  let q := ahead ++ [{ x with since := s.now }] ++ s.meas.inj.drop ahead.length
  if 4 ≤ ahead.length then none
  else some ({ s with meas.inj := q.take 4 }.bumpBy F.MEAS_XCHK_INJ_DROP (q.length - 4))

/-- MEAS_INJ_REQ (R249): a core's write queues an injection, or counts it in INJ_DROP. -/
def onMeasInjReq (core : Nat) (input : Nat) (diff : Bool) (s : State) : State :=
  let i := input % 32 + 32 * b2n diff
  if !inputOk i then s
  else (s.inject { input := i, rank := core + 1 }).getD (s.bump F.MEAS_XCHK_INJ_DROP)

/-- A slice's start-up check (R252): its calibration fits its trims (R250) and each of its sixteen codes of INPUT 27 lies within XCHK_TOL
of 16,384. -/
def sliceQualifies (tol : Nat) (x : Int × Int × List Int) : Bool :=
  trimFits x.1 && trimFits x.2.1 && x.2.2.length == 16 && x.2.2.all (fun c => decide ((c - 16384).natAbs ≤ tol))

/-- Slices qualify in SELFTEST (R252): gain, offset and the sixteen codes of each slice, 0 first. -/
def State.qualifySlices (s : State) (slices : List (Int × Int × List Int)) : State :=
  let good := sliceNumbers.filter (fun n => (slices[n]?.map (sliceQualifies (s.f F.MEAS_CTRL_XCHK_TOL))).getD false)
  let s := s.each (slices.take 5).zipIdx (fun s x => if trimFits x.1.1 && trimFits x.1.2.1 then s.setTrims x.2 x.1.1 x.1.2.1 else s)
  let s := (s.setF F.MEAS_SLICE_ACTIVE (ofBits (good.take 4))).setF F.MEAS_SLICE_FAILED (31 - ofBits good)
  let s := match good.drop 4 with
    | sp :: _ => (s.setF F.MEAS_SLICE_SPARE sp).setF F.MEAS_SLICE_NOSPARE 0
    | [] => s.setF F.MEAS_SLICE_NOSPARE 1
  { s with meas.calAt := s.now }.raiseIf (decide (good.length < 4)) FS.MEAS_SLICE_LOSS

/-! Opcodes (R254). -/

/-- Trigger parameters within R237 and R242 for the phase map in use. -/
def State.seqParamsOk (s : State) (b : List Byte) : Bool :=
  let trig := numAt b 0 1
  let ofs := numAt b 2 2
  let n := numAt b 6 1
  decide (7 ≤ b.length) && b.length == 7 + n && decide (trig ≤ 3) && decide (ofs < s.clk.tickLen) &&
    (trig != 0 || decide (s.clk.phSample + ofs < s.clk.tickLen)) && decide (numAt b 4 1 < 8) && decide (numAt b 5 1 ≤ 1) &&
    decide (1 ≤ n) && decide (n ≤ 32) && (b.drop 7).all (fun e => decide (e.toNat < 64) && inputOk e.toNat)

/-- A new sequence at index `q` (R241): stopped, no result valid. -/
def State.placeSeq (s : State) (q : Nat) (b : List Byte) : State :=
  let n := numAt b 6 1
  let cfg := 2 ^ 31 + numAt b 5 1 * 2 ^ 29 + bits (numAt b 4 1) 2 2 * 2 ^ 28 + numAt b 4 1 % 4 * 2 ^ 26 + numAt b 0 1 * 2 ^ 24 +
    (n - 1) * 2 ^ 16 + numAt b 1 1 * 2 ^ 8
  let s := ((s.setReg (A.MEAS_Q_CFG q) (BitVec.ofNat 32 cfg)).setF (F.MEAS_Q_OFS_OFS q) (numAt b 2 2)).setReg (A.MEAS_Q_STAT q) 0
  let s := (s.setReg (A.MEAS_Q_T0 q) 0).setSeq q {}
  let s := s.each (List.range 32) (fun s e => s.setReg (A.MEAS_RES q e) 0)
  s.each (List.range 32) (fun s e => s.setReg (A.MEAS_Q_E q e) (if e < n then BitVec.ofNat 32 (numAt b (7 + e) 1) else 0))

/-- A destroyed sequence: its results read 0 (R241). -/
def State.freeSeq (s : State) (q : Nat) : State :=
  let s := s.each [A.MEAS_Q_CFG q, A.MEAS_Q_OFS q, A.MEAS_Q_T0 q, A.MEAS_Q_STAT q] (fun s a => s.setReg a 0)
  (s.each (List.range 32) (fun s e => (s.setReg (A.MEAS_RES q e) 0).setReg (A.MEAS_Q_E q e) 0)).setSeq q {}

/-- MEAS_SEQ_START on sequence `q` (R242, R254). -/
def opMeasSeqStart (q : Nat) (p : Packet) (s : State) : Out :=
  if p.params ≠ [] then refuse s Stat.BAD_PARAM
  else
    match s.f (F.MEAS_Q_CFG_TRIG q) with
    | 2 =>
      if (s.seq q).running ∧ (!s.endsNow q ∨ (s.seq q).again) then refuse s Stat.DENIED
      else holding ((s.setF (F.MEAS_Q_CFG_STARTED q) 1).startRun q (some p))
    | 1 =>
      let s := s.setF (F.MEAS_Q_CFG_STARTED q) 1
      ok (if (s.seq q).running ∨ (s.seq q).dues ≠ [] then s else s.updSeq q (fun x => { x with dues := [s.pclk + 2] }))
    | _ => ok (s.setF (F.MEAS_Q_CFG_STARTED q) 1)

/-- MEAS_SEQ_STOP on sequence `q` (R244, R254): a trigger event of this clk still starts its run. -/
def opMeasSeqStop (q : Nat) (p : Packet) (s : State) : Out :=
  if p.params ≠ [] then refuse s Stat.BAD_PARAM
  else if !s.on (F.MEAS_Q_CFG_STARTED q) then ok s
  else
    let s := if s.triggerNow q ∧ !(s.seq q).stopping then s.takeTrigger q else s
    let s := s.updSeq q (fun x => { x with dues := [], carried := false })
    if (s.seq q).running then
      accepted (s.updSeq q (fun x => { x with stopping := true, stopCmds := x.stopCmds ++ [p] }))
    else acceptedDone (s.setF (F.MEAS_Q_CFG_STARTED q) 0)

/-- MEAS_RESULT_READ (R254). -/
def opMeasResultRead (p : Packet) (s : State) : Out :=
  let q := numAt p.params 0 1
  let e := numAt p.params 1 1
  let n := numAt p.params 2 1
  if p.params.length ≠ 3 ∨ 3 < q ∨ !s.on (F.MEAS_Q_CFG_LIVE q) ∨ n < 1 ∨ 32 < n ∨ s.seqCount q < e + n then refuse s Stat.BAD_PARAM
  else ok s ((List.range n).map (fun i => s.reg4 (A.MEAS_RES q (e + i)))).flatten

/-- MEAS_INJECT (R249, R254): the reply comes with the result. -/
def opMeasInject (p : Packet) (s : State) : Out :=
  let i := numAt p.params 0 1
  if p.params.length ≠ 1 ∨ 63 < i ∨ !inputOk i then refuse s Stat.BAD_PARAM
  else
    match s.inject { cmd := some p, input := i } with
    | some s => holding s
    | none => refuse s Stat.BUSY

/-- MEAS_SLICE_READ (R254). -/
def opMeasSliceRead (p : Packet) (s : State) : Out :=
  if p.params ≠ [] then refuse s Stat.BAD_PARAM
  else ok s (s.reg4 A.MEAS_CTRL ++ s.reg4 A.MEAS_SLICE ++ (sliceNumbers.map (fun n => s.reg4 (A.MEAS_SCAL n))).flatten ++
    s.reg4 A.MEAS_XCHK)

/-- Exit checks of R242 (every live sequence) and R247 (the cells' sequences). -/
def State.measExitOk (s : State) : Bool :=
  let per := s.f F.TICK_CFG_TICK_PERIOD
  let sam := s.f F.TICK_PH_SAMPLE_PHASE
  let live := seqNumbers.filter (fun q => s.on (F.MEAS_Q_CFG_LIVE q))
  let ofs q := s.f (F.MEAS_Q_OFS_OFS q)
  let trig q := s.f (F.MEAS_Q_CFG_TRIG q)
  live.all (fun q => decide (ofs q < per) && (trig q != 0 || decide (sam + ofs q < per))) &&
  s.cells.all (fun c =>
    let q := s.f (F.YAR_CELL_SEQ c)
    let n := ((live.filter (fun r => r == q || (decide (r < q) && trig r == 0 && decide (ofs r ≤ ofs q)))).map s.seqCount).foldl (· + ·) 0
    live.contains q && trig q == 0 && s.f (F.MEAS_Q_CFG_DIV_M1 q) == 0 &&
      decide (ofs q + 100 * ((n + 3) / 4) + 12 + sam ≤ s.f F.TICK_PH_UP_PHASE))

end Sys2Proof.Machine
end

