-- ==== Sys2Proof/Machine/Handles.lean ====
section
/-!
DEFINITION. Handles.lean: handles, pools and the allocator (04 R120 to R126).
-/
namespace Sys2Proof.Machine
open Sys2Proof

namespace TY
abbrev LOOP : Nat := 1
abbrev CHANNEL : Nat := 2
abbrev SEQUENCE : Nat := 3
abbrev CAPTURE : Nat := 4
abbrev TREND : Nat := 5
abbrev THREAD : Nat := 6
abbrev FLOW : Nat := 7
abbrev MAILBOX : Nat := 8
abbrev SESSION : Nat := 9
abbrev LOCK : Nat := 10
end TY

/-- A handle value (R120). -/
def handleWord (ty idx gen : Nat) : Word := BitVec.ofNat 32 (ty * 2 ^ 26 + idx * 2 ^ 12 + gen)
def hType (h : Word) : Nat := bits h.toNat 31 26
def hIndex (h : Word) : Nat := bits h.toNat 25 12
def hGen (h : Word) : Nat := bits h.toNat 11 0

/-- The pool of a type. -/
def State.pool (s : State) (ty : Nat) : Pool := Map.get (Pool.fresh ty) s.cmd.pools ty
def State.setPool (s : State) (ty : Nat) (p : Pool) : State := { s with cmd.pools := Map.set (Pool.fresh ty) s.cmd.pools ty p }

/-- Generation of an index (R124). -/
def Pool.gen (p : Pool) (i : Nat) : Nat := Map.get 1 p.gens i

/-- The generation after this one: FFFh wraps to 001h. -/
def nextGen (g : Nat) : Nat := if 4095 ≤ g then 1 else g + 1

/-- The object at an index, unless it is being destroyed. -/
def Pool.object (p : Pool) (i : Nat) : Option Handle := (p.live.find? (fun x => x.1 == i && x.2.dying.isNone)).map (·.2)

/-- Handle of a live index. -/
def State.handleAt (s : State) (ty i : Nat) : Word := handleWord ty i ((s.pool ty).gen i)

/-- R125: status of a handle for an opcode of type `ty`. -/
def State.handleStatus (s : State) (ty : Nat) (h : Word) : Nat :=
  if hType h ≠ ty then Stat.BAD_PARAM
  else if poolSize ty ≤ hIndex h then Stat.BAD_PARAM
  else if ((s.pool ty).object (hIndex h)).isNone ∨ (s.pool ty).gen (hIndex h) ≠ hGen h then Stat.STALE_HANDLE
  else Stat.OK

/-- The handle is valid on this node. -/
def State.handleLive (s : State) (ty : Nat) (h : Word) : Bool := s.handleStatus ty h == Stat.OK

/-- Runs `g` on the index of the command's handle when R125 passes it. -/
def withHandle (ty : Nat) (g : Nat → Packet → State → Out) (p : Packet) (s : State) : Out :=
  if s.handleStatus ty p.handle = Stat.OK then g (hIndex p.handle) p s else refuse s (s.handleStatus ty p.handle)

/-- Takes the index that has been free the longest (R122). -/
def State.takeIndex (s : State) (ty : Nat) (source : BitVec 16) : Option (Nat × State) :=
  match (s.pool ty).free with
  | [] => none
  | i :: rest => some (i, s.setPool ty { s.pool ty with free := rest, live := (s.pool ty).live ++ [(i, { source := source, created := s.time })] })

/-- A create: BAD_PARAM, or NO_RESOURCE with HANDLE_EXHAUSTED, or the object at its index and OK with the handle (R122).
The owner says whether its memory suffices. -/
def createObj (ty : Nat) (valid : Bool) (fits : State → Bool) (place : Nat → State → State) (p : Packet) (s : State) : Out :=
  if !valid then refuse s Stat.BAD_PARAM
  else match s.takeIndex ty p.source with
    | none => refuse (s.raise FS.HANDLE_EXHAUSTED) Stat.NO_RESOURCE
    | some (i, s') =>
      if fits s then ok (place i s') (leBytes 4 (s'.handleAt ty i).toNat)
      else refuse (s.raise FS.HANDLE_EXHAUSTED) Stat.NO_RESOURCE

/-- The generation of an index moves on, and its object is being destroyed for command `p` (R126). -/
def State.startDestroy (s : State) (ty i : Nat) (p : Packet) : State :=
  let q := s.pool ty
  s.setPool ty { q with gens := Map.set 1 q.gens i (nextGen (q.gen i)),
                        live := q.live.map (fun x => if x.1 = i then (i, { x.2 with dying := some p }) else x) }

/-- The index goes back on the free list (R126). -/
def State.freeIndex (s : State) (ty i : Nat) : State :=
  let q := s.pool ty
  s.setPool ty { q with free := q.free ++ [i], live := q.live.filter (fun x => x.1 != i) }

/-- The index of a live object moves on and is free again at once. -/
def State.dropIndex (s : State) (ty i : Nat) : State :=
  let q := s.pool ty
  s.setPool ty { free := q.free ++ [i], gens := Map.set 1 q.gens i (nextGen (q.gen i)), live := q.live.filter (fun x => x.1 != i) }

/-- Live handles of a type, ascending by index. -/
def State.liveHandles (s : State) (ty : Nat) : List Word :=
  ((List.range (poolSize ty)).filter (fun i => ((s.pool ty).object i).isSome)).map (s.handleAt ty)

/-- HANDLE_LIST (R136). -/
def opHandleList (p : Packet) (s : State) : Out :=
  let ty := numAt p.params 0 1
  if p.params.length ≠ 1 ∨ ty < 1 ∨ 10 < ty then refuse s Stat.BAD_PARAM
  else ok s ((s.liveHandles ty).map (fun h => leBytes 4 h.toNat)).flatten

/-- HANDLE_POOL (R136). -/
def opHandlePool (p : Packet) (s : State) : Out :=
  if p.params ≠ [] then refuse s Stat.BAD_PARAM
  else ok s ((List.range 10).map (fun i => BitVec.ofNat 8 (s.pool (i + 1)).free.length))

end Sys2Proof.Machine
end

