-- ==== Sys2Proof/Machine/Dispatcher.lean ====
section
/-!
DEFINITION. Dispatcher.lean: threads, operands, flows, locks, dispatch, debug halts (10_cores_and_dispatch.md).
-/
namespace Sys2Proof.Machine
open Sys2Proof

namespace TS
abbrev DORMANT : Nat := 0
abbrev WAITING : Nat := 1
abbrev READY : Nat := 2
abbrev RUNNING : Nat := 3
abbrev LOCKWAIT : Nat := 4
abbrev FAULTED : Nat := 5
end TS

def State.thread (s : State) (n : Nat) : Thread := Map.get {} s.disp.threads n
def State.setThread (s : State) (n : Nat) (t : Thread) : State := { s with disp.threads := Map.set {} s.disp.threads n t }
def State.updThread (s : State) (n : Nat) (g : Thread → Thread) : State := s.setThread n (g (s.thread n))
def State.tst (s : State) (n : Nat) : Nat := s.f (F.DISP_T_CFG_STATE n)
def State.setTst (s : State) (n v : Nat) : State := s.setF (F.DISP_T_CFG_STATE n) v
def threadNumbers : List Nat := List.range 128
/-- A thread stands at index `n`: its handle may be live before THREAD_CREATE (R285). -/
def State.made (s : State) (n : Nat) : Bool := (s.thread n).stackKb != 0
def State.liveThreads (s : State) : List Nat := s.disp.threads.filterMap (fun x => if x.2.stackKb != 0 then some x.1 else none)

/-- KIND and ARG of a thread's port (R289). -/
def State.portByte (s : State) (n p : Nat) : Nat := (s.reg (A.DISP_T_PORTS n)).toNat / 2 ^ (8 * p) % 256
def State.portKind (s : State) (n p : Nat) : Nat := s.portByte n p / 64
def State.portArg (s : State) (n p : Nat) : Nat := s.portByte n p % 64

def State.flow (s : State) (f : Nat) : List Operand := Map.get [] s.disp.flows f
def State.setFlow (s : State) (f : Nat) (l : List Operand) : State :=
  ({ s with disp.flows := Map.set [] s.disp.flows f l }).setF (F.DISP_F_STAT_COUNT f) l.length

/-- Operands that a port holds. -/
def State.portHeld (s : State) (n p : Nat) : List Operand :=
  if s.portKind n p = 2 then s.flow (s.portArg n p) else Map.get [] (s.thread n).held p

/-- Replaces the operands of a port. -/
def State.setPort (s : State) (n p : Nat) (l : List Operand) : State :=
  if s.portKind n p = 2 then s.setFlow (s.portArg n p) l
  else s.updThread n (fun t => { t with held := Map.set [] t.held p l })

/-- Ports in MASK. -/
def State.joined (s : State) (n : Nat) : List Nat := bitList 4 (s.f (F.DISP_T_CFG_MASK n))

/-- The join condition (R290). An empty MASK joins nothing. -/
def State.joins (s : State) (n : Nat) : Bool :=
  let full p := s.portHeld n p != []
  if s.on (F.DISP_T_CFG_MODE n) then (s.joined n).any full else s.joined n != [] && (s.joined n).all full

/-- Effective priority (R296). -/
def State.eprio (s : State) (n : Nat) : Nat :=
  ((s.thread n).locks.map (fun l => s.f (F.DISP_L_CEILING l))).foldl min (s.f (F.DISP_T_CFG_PRIO n))

/-- The core a thread is on. -/
def State.coreThread (s : State) (c : Nat) : Option Nat :=
  match Map.get 0 s.disp.cores c with
  | 0 => none
  | k + 1 => some k
def coreNumbers : List Nat := List.range 4
def State.coreOf (s : State) (n : Nat) : Option Nat := coreNumbers.find? (fun c => s.coreThread c == some n)
def State.halted (s : State) (c : Nat) : Bool := bit (s.f F.DISP_DBG_HALTED) c

/-- DISP_CORE[c] follows the core (register table). -/
def State.coreReg (s : State) (c : Nat) : State :=
  let th := s.coreThread c
  let st := if s.halted c then 2 else if th.isSome then 1 else 0
  s.setReg (A.DISP_CORE c) (BitVec.ofNat 32 ((th.getD 0) * 2 ^ 16 + (th.map s.eprio).getD 0 * 2 ^ 8 + st))

def State.setCore (s : State) (c : Nat) (th : Option Nat) : State :=
  ({ s with disp.cores := Map.set 0 s.disp.cores c ((th.map (· + 1)).getD 0) }).coreReg c

/-- EPRIO follows a change of locks. -/
def State.eprioReg (s : State) (n : Nat) : State :=
  let s := s.setF (F.DISP_T_CFG_EPRIO n) (s.eprio n)
  match s.coreOf n with
  | some c => s.coreReg c
  | none => s

/-- Makes a thread READY, behind those already ready. -/
def State.makeReady (s : State) (n : Nat) : State :=
  ({ s with disp.ready := s.disp.ready.filter (· != n) ++ [n] }).setTst n TS.READY
def State.unready (s : State) (n : Nat) : State := { s with disp.ready := s.disp.ready.filter (· != n) }

/-- Threads READY; queue depths and flow depths reserved (DISP_STAT). -/
def State.storeRsvd (s : State) : Nat :=
  (s.liveThreads.map (fun n => ((List.range 4).map (fun p => if s.portKind n p = 0 then s.portArg n p % 16 + 1 else 0)).foldl (· + ·) 0)).foldl (· + ·) 0
def State.liveFlows (s : State) : List Nat := (List.range 64).filter (fun f => s.on (F.DISP_F_CFG_LIVE f))
def State.flowRsvd (s : State) : Nat := (s.liveFlows.map (fun f => s.f (F.DISP_F_CFG_DEPTH_M1 f) + 1)).foldl (· + ·) 0

/-! Operands (R289 to R295). -/

/-- How a post ends. -/
inductive Post where
  | done | full | dropped
  deriving DecidableEq, Repr

/-- An operand posted now. -/
def State.operand (s : State) (v : Word) : Operand := { value := v, stamp := BitVec.ofNat 32 s.time }

/-- Posts to a flow; a full one keeps what it has (R295). -/
def State.postFlow (s : State) (f : Nat) (v : Word) : State × Post :=
  if s.f (F.DISP_F_CFG_DEPTH_M1 f) + 1 ≤ (s.flow f).length then (s, .full)
  else (s.setFlow f (s.flow f ++ [s.operand v]), .done)

/-- A post to a full flow by a producer other than OPERAND_POST (R295). -/
def State.flowDrop (s : State) (f : Nat) : State := (s.bump (F.DISP_F_STAT_DROP f)).raise FS.DISP_FLOW_FULL

/-- Posts to a thread's port (R289, R291, R292). -/
def State.postPort (s : State) (n p : Nat) (v : Word) : State × Post :=
  match s.portKind n p with
  | 0 =>
    if s.portArg n p % 16 + 1 ≤ (s.portHeld n p).length then ((s.bump F.DISP_CNT_DROP).raise FS.DISP_PORT_FULL, .full)
    else (s.setPort n p (s.portHeld n p ++ [s.operand v]), .done)
  | 1 => (s.bump F.DISP_CNT_DROP, .dropped)
  | 2 => s.postFlow (s.portArg n p) v
  | _ => (s, .dropped)

/-- A post by a thread or the safety pair to a handle (R288, R292, R295). -/
def State.postHandle (s : State) (h : Word) (p : Nat) (v : Word) : State :=
  if hType h = TY.FLOW then
    if s.handleLive TY.FLOW h then
      match s.postFlow (hIndex h) v with
      | (s, .full) => s.flowDrop (hIndex h)
      | (s, _) => s
    else s.bump F.DISP_CNT_DROP
  else if s.handleLive TY.THREAD h then
    let n := hIndex h
    match s.postPort n p v with
    | (s, .full) => if s.portKind n p = 2 then s.flowDrop (s.portArg n p) else s
    | (s, _) => s
  else s.bump F.DISP_CNT_DROP

/-- An operand of the fault hub, CAN controller or another producer to a flow index (12 R338, 16 R416): false when dropped. -/
def State.postFlowIndex (s : State) (f : Nat) (v : Word) : State × Bool :=
  if !s.on (F.DISP_F_CFG_LIVE f) then (s, false)
  else match s.postFlow f v with
    | (s, .full) => (s.flowDrop f, false)
    | (s, _) => (s, true)

/-- TICK_OPERAND_POST (R291): phase 0 boundary to 6 APPLY. -/
def State.tickOperands (s : State) (phase : Nat) : State :=
  s.each s.liveThreads (fun s n => s.each (List.range 4) (fun s p =>
    if s.portKind n p = 1 ∧ s.portArg n p = phase then
      let missed := s.portHeld n p != []
      let s := s.setPort n p [s.operand (BitVec.ofNat 32 s.tickNo)]
      if missed then (s.bump F.DISP_CNT_TICK_MISS).raise FS.DISP_TICK_MISS else s
    else s))

/-! Dispatch (R296). -/

/-- The core the dispatcher would give thread `n`. -/
def State.chooseCore (s : State) (n : Nat) : Option Nat :=
  let cs := coreNumbers.filter (fun c => bit (s.f (F.DISP_T_CFG_AFFINITY n)) c && !s.halted c)
  match cs.find? (fun c => (s.coreThread c).isNone) with
  | some c => some c
  | none =>
    let prio c := ((s.coreThread c).map s.eprio).getD 0
    let worst := (cs.map prio).foldl max 0
    if s.eprio n < worst then (cs.filter (fun c => prio c == worst)).getLast? else none

/-- The ready threads in the order the dispatcher considers them. -/
def State.readyOrder (s : State) : List Nat := s.disp.ready.mergeSort (fun a b => decide (s.eprio a ≤ s.eprio b))

/-- Operands a dispatch takes, by port (R290). -/
def State.taken (s : State) (n : Nat) : List Nat :=
  if s.on (F.DISP_T_CFG_MODE n) then ((s.joined n).filter (fun p => s.portHeld n p != [])).take 1 else s.joined n

/-- Places thread `n` on core `c`. -/
def State.place (s : State) (n c : Nat) : State :=
  let s := match s.coreThread c with
    | some m => ({ s with disp.ready := m :: s.disp.ready }).setTst m TS.READY
    | none => s
  let s := ((s.unready n).setTst n TS.RUNNING)
  let t := s.thread n
  let s :=
    if t.fresh then
      let ps := s.taken n
      let got := ps.filterMap (fun p => (s.portHeld n p).head?.map (fun o => (p, o)))
      let s := s.each ps (fun s p => s.setPort n p ((s.portHeld n p).drop 1))
      s.updThread n (fun t => { t with delivered := got, loaded := BitVec.ofNat 32 (ofBits (got.map (·.1))) })
    else if t.started then s.updThread n (fun t => { t with delivered := [] })
    else s
  let s := s.when (t.fresh || t.started) (fun s =>
    (s.setF (F.DISP_T_STAT_ACTIVATIONS n) (s.f (F.DISP_T_STAT_ACTIVATIONS n) + 1)).updThread n (fun t => { t with ran := 0, limitSaid := false }))
  (s.updThread n (fun t => { t with fresh := false, started := false })).setCore c (some n)

/-- One dispatch: the first ready thread in order that a core can take. -/
def State.dispatchThread (s : State) : State :=
  match s.readyOrder.find? (fun n => (s.chooseCore n).isSome) with
  | some n => match s.chooseCore n with
    | some c => s.place n c
    | none => s
  | none => s

/-! Locks (R299, R300). -/

def State.lockWaiters (s : State) (l : Nat) : List Nat := Map.get [] s.disp.waiters l
def State.setWaiters (s : State) (l : Nat) (ws : List Nat) : State :=
  ({ s with disp.waiters := Map.set [] s.disp.waiters l ws }).setF (F.DISP_L_WAITERS l) ws.length

def State.giveLock (s : State) (l n : Nat) : State :=
  (((s.setF (F.DISP_L_HELD l) 1).setF (F.DISP_L_HOLDER l) n).updThread n (fun t => { t with locks := l :: t.locks, loaded := 0 })).eprioReg n

/-- A lock leaves thread `n` and passes to the waiter of highest effective priority, the longest waiting first. -/
def State.releaseLock (s : State) (n l : Nat) : State :=
  let s := ((s.updThread n (fun t => { t with locks := t.locks.filter (· != l) })).setF (F.DISP_L_HELD l) 0).eprioReg n
  match (s.lockWaiters l).mergeSort (fun a b => decide (s.eprio a ≤ s.eprio b)) with
  | [] => s
  | w :: _ => ((s.setWaiters l ((s.lockWaiters l).filter (· != w))).giveLock l w).makeReady w

/-! Events. -/

/-- OPERAND_MATCH (R293): every WAITING thread whose join condition holds becomes READY, in index order. -/
def onOperandMatch (s : State) : State :=
  s.each s.liveThreads (fun s n =>
    if s.tst n = TS.WAITING ∧ s.joins n then (s.updThread n (fun t => { t with fresh := true })).makeReady n else s)

/-- DISPATCH (R296). -/
def onDispatch (s : State) : State := s.dispatchThread

/-- Ends a THREAD_STOP that waited (R306). -/
def State.endStop (s : State) (n : Nat) : State :=
  (s.updThread n (fun t => { t with stopCmds := [] })).each (s.thread n).stopCmds (fun s p => s.finalReply 0x0E02 p Stat.OK [])

/-- Discards what the queue and tick ports hold (R294); also gives the number discarded. -/
def State.discardHeld (s : State) (n : Nat) : State × Nat :=
  let k := ((s.thread n).held.map (fun x => x.2.length)).foldl (· + ·) 0
  (s.updThread n (fun t => { t with held := [] }), k)

/-- The thread on a core takes an exception and enters FAULTED (R287). -/
def State.trapThread (s : State) (core : Nat) (mcause mepc : Word) : State :=
  match s.coreThread core with
  | none => s
  | some n =>
    let s := ((s.setTst n TS.FAULTED).setF (F.DISP_T_STAT_CAUSE n) (mcause.toNat % 256)).setReg (A.DISP_T_TRAP n) mepc
    let s := s.each (s.thread n).locks (fun s l => s.releaseLock n l)
    ((s.setCore core none).raise FS.DISP_THREAD_TRAP).endStop n |>.dispatchThread

/-- Each running thread counts the tick boundary (R297). -/
def State.countBoundary (s : State) : State :=
  s.each coreNumbers (fun s c => match s.coreThread c with
    | some n => s.updThread n (fun t => { t with ran := t.ran + 1 })
    | none => s)

/-- RUN_LIMIT (R297): raised once for an activation that has lasted RUN_LIMIT boundaries. -/
def onRunLimit (core : Fin 4) (s : State) : State :=
  match s.coreThread core with
  | some n =>
    let lim := s.f (F.DISP_T_STAT_RUN_LIMIT n)
    if lim = 0 ∨ (s.thread n).ran < lim ∨ (s.thread n).limitSaid then s
    else (s.updThread n (fun t => { t with limitSaid := true })).raise FS.DISP_RUN_LIMIT
  | none => s

/-- DEBUG_HALT of an application core while EN is 1h (R303). -/
def onDebugHalt (core : Fin 4) (s : State) : State :=
  if s.on F.DISP_DBG_EN then ((s.setBit F.DISP_DBG_HALTED core).coreReg core).applyForces else s

/-- SELF_WAIT (R288). -/
def onSelfWait (core : Fin 4) (s : State) : State :=
  match s.coreThread core with
  | some n =>
    if s.halted core then s
    else if (s.thread n).locks ≠ [] then s.updThread n (fun t => { t with loaded := 0x80000000 })
    else if (s.thread n).stopCmds ≠ [] then
      ((s.discardHeld n).1.setTst n TS.DORMANT).setCore core none |>.endStop n
    else (s.setTst n TS.WAITING).setCore core none
  | none => s

/-- SELF_POST (R288): the target stands in SELF_POST_ARG. -/
def onSelfPost (core : Fin 4) (port : Fin 4) (target value : Word) (s : State) : State :=
  match s.coreThread core with
  | some n => if s.halted core then s else (s.updThread n (fun t => { t with postArg := target })).postHandle target port value
  | none => s

/-- SELF_ACQ (R288, R299). -/
def onSelfAcq (core : Fin 4) (lock : Word) (s : State) : State :=
  match s.coreThread core with
  | none => s
  | some n =>
    if s.halted core then s
    else
      let s := s.updThread n (fun t => { t with lockArg := lock })
      let l := hIndex lock
      if !s.handleLive TY.LOCK lock then s.updThread n (fun t => { t with loaded := 0x12 })
      else if s.f (F.DISP_T_CFG_PRIO n) < s.f (F.DISP_L_CEILING l) ∨ 4 ≤ (s.thread n).locks.length ∨ (s.thread n).locks.contains l then
        (s.updThread n (fun t => { t with loaded := 0x15 })).raise FS.DISP_LOCK_ERR
      else if s.on (F.DISP_L_HELD l) then ((s.setWaiters l (s.lockWaiters l ++ [n])).setTst n TS.LOCKWAIT).setCore core none
      else s.giveLock l n

/-- SELF_REL (R288, R300). -/
def onSelfRel (core : Fin 4) (lock : Word) (s : State) : State :=
  match s.coreThread core with
  | none => s
  | some n =>
    if s.halted core then s
    else
      let s := s.updThread n (fun t => { t with lockArg := lock })
      if s.handleLive TY.LOCK lock ∧ (s.thread n).locks.head? = some (hIndex lock) then s.releaseLock n (hIndex lock)
      else s.raise FS.DISP_LOCK_ERR

/-- SELF_YIELD (R288): to the tail of its priority's ready list. -/
def onSelfYield (core : Fin 4) (s : State) : State :=
  match s.coreThread core with
  | some n => if s.halted core then s else (s.setCore core none).makeReady n
  | none => s

/-- What a thread's load of the thread interface at `ofs` in DISP returns (R288): its handle, the values delivered at the last dispatch (0 where a
port delivered nothing), their stamps, and what its last SELF_WAIT or SELF_ACQ gave. The spec gives no stamp for a port that delivered
nothing: a free value. `none` where no load stands. -/
def State.selfLoad (s : State) (core ofs : Nat) : Option Word :=
  (s.coreThread core).bind (fun n =>
    let t := s.thread n
    let came (p : Nat) : Option Operand := (t.delivered.find? (fun x => x.1 == p)).map (·.2)
    if ofs = 0x100 then some (s.handleAt TY.THREAD n)
    else if ofs = 0x104 ∨ ofs = 0x144 then some t.loaded
    else if 0x110 ≤ ofs ∧ ofs ≤ 0x11C ∧ ofs % 4 = 0 then some (((came ((ofs - 0x110) / 4)).map (·.value)).getD 0)
    else if 0x150 ≤ ofs ∧ ofs ≤ 0x15C ∧ ofs % 4 = 0 then some (((came ((ofs - 0x150) / 4)).map (·.stamp)).getD (Config.openWord s.freeCount))
    else none)

/-! Opcodes (R306). -/

/-- First free stretch of the stack pool for `kb` KiB: the KiB at which it begins (R285, R283). -/
def State.stackFit (s : State) (kb : Nat) : Option Nat :=
  let used := s.liveThreads.map (fun n => ((s.thread n).stackAt, (s.thread n).stackKb))
  (List.range (1024 - kb + 1)).find? (fun a => used.all (fun u => decide (a + kb ≤ u.1) || decide (u.1 + u.2 ≤ a)))

/-- Parameters of THREAD_CREATE within R285 and R289. -/
def State.threadParamsOk (s : State) (b : List Byte) : Bool :=
  let entry := numAt b 0 4
  b.length == 13 && decide (0x10000000 ≤ entry) && decide (entry < 0x10280000) && decide (1 ≤ numAt b 4 1) && decide (numAt b 4 1 ≤ 64) &&
    decide (numAt b 5 1 ≤ 31) && decide (1 ≤ numAt b 6 1) && decide (numAt b 6 1 ≤ 15) && decide (numAt b 7 1 ≤ 31) &&
    (List.range 4).all (fun p =>
      let k := numAt b (8 + p) 1 / 64
      let a := numAt b (8 + p) 1 % 64
      match k with
      | 0 => decide (a ≤ 15)
      | 1 => decide (a ≤ 6)
      | 2 => s.on (F.DISP_F_CFG_LIVE a) && !s.on (F.DISP_F_CFG_ATTACHED a) &&
          (List.range p).all (fun q => numAt b (8 + q) 1 != numAt b (8 + p) 1)
      | _ => a == 0)

/-- The stack pool and the matching store have room (R285, R289). -/
def State.threadFits (s : State) (b : List Byte) : Bool :=
  let depth := ((List.range 4).map (fun p => if numAt b (8 + p) 1 / 64 = 0 then numAt b (8 + p) 1 % 16 + 1 else 0)).foldl (· + ·) 0
  (s.stackFit (numAt b 4 1)).isSome && decide (s.storeRsvd + depth ≤ 1024)

/-- A new thread at index `n`, DORMANT. -/
def State.placeThread (s : State) (n : Nat) (b : List Byte) : State :=
  let kb := numAt b 4 1
  let at' := (s.stackFit kb).getD 0
  let m := numAt b 7 1
  let cfg := 2 ^ 31 + numAt b 6 1 * 2 ^ 24 + (m % 16) * 2 ^ 20 + (m / 16) * 2 ^ 19 + numAt b 5 1 * 2 ^ 12 + numAt b 5 1 * 2 ^ 5
  let s := (s.setReg (A.DISP_T_CFG n) (BitVec.ofNat 32 cfg)).setReg (A.DISP_T_PORTS n) (BitVec.ofNat 32 (numAt b 8 4))
  let s := (s.setReg (A.DISP_T_STAT n) (BitVec.ofNat 32 (numAt b 12 1 * 2 ^ 24))).setReg (A.DISP_T_TRAP n) 0
  let s := s.setThread n { entry := BitVec.ofNat 32 (numAt b 0 4), stackKb := kb, stackAt := at' }
  s.each (List.range 4) (fun s p =>
    if s.portKind n p = 2 then
      let f := s.portArg n p
      ((s.setF (F.DISP_F_CFG_ATTACHED f) 1).setF (F.DISP_F_CFG_THREAD f) n).setF (F.DISP_F_CFG_PORT f) p
    else s)

/-- A destroyed thread returns its stack and queue depths, and its flows stand detached (R306). -/
def State.freeThread (s : State) (n : Nat) : State :=
  let s := s.each (List.range 4) (fun s p =>
    if s.portKind n p = 2 then
      let f := s.portArg n p
      ((s.setF (F.DISP_F_CFG_ATTACHED f) 0).setF (F.DISP_F_CFG_THREAD f) 0).setF (F.DISP_F_CFG_PORT f) 0
    else s)
  (s.each [A.DISP_T_CFG n, A.DISP_T_PORTS n, A.DISP_T_STAT n, A.DISP_T_TRAP n] (fun s a => s.setReg a 0)).setThread n {}

/-- THREAD_CREATE (R306): HANDLE 0 takes an index; else the handle is one reserved through CMD_ALLOC_REQ. -/
def opThreadCreate (p : Packet) (s : State) : Out :=
  let b := p.params
  if p.handle = 0 then createObj TY.THREAD (s.threadParamsOk b) (fun s => s.threadFits b) (fun n s => s.placeThread n b) p s
  else if s.handleStatus TY.THREAD p.handle ≠ Stat.OK then refuse s (s.handleStatus TY.THREAD p.handle)
  else if s.made (hIndex p.handle) ∨ !s.threadParamsOk b then refuse s Stat.BAD_PARAM
  else if !s.threadFits b then refuse (s.raise FS.HANDLE_EXHAUSTED) Stat.NO_RESOURCE
  else ok (s.placeThread (hIndex p.handle) b) (leBytes 4 p.handle.toNat)

/-- THREAD_START (R286). -/
def opThreadStart (n : Nat) (p : Packet) (s : State) : Out :=
  if p.params ≠ [] then refuse s Stat.BAD_PARAM
  else if s.tst n ≠ TS.DORMANT ∧ s.tst n ≠ TS.FAULTED ∨ !s.made n then refuse s Stat.DENIED
  else
    let s := s.updThread n (fun t => { t with
      pc := t.entry, held := [], delivered := [], started := true, fresh := false
      x := Map.set 0 (Map.set 0 t.x 2 (BitVec.ofNat 32 (0x10280000 + (t.stackAt + t.stackKb) * 1024))) 10 p.handle })
    ok (s.makeReady n)

/-- THREAD_STOP (R306). -/
def opThreadStop (n : Nat) (p : Packet) (s : State) : Out :=
  if p.params ≠ [] then refuse s Stat.BAD_PARAM
  else if s.tst n = TS.RUNNING ∨ s.tst n = TS.LOCKWAIT then accepted (s.updThread n (fun t => { t with stopCmds := t.stopCmds ++ [p] }))
  else
    let s := ((s.discardHeld n).1.unready n).updThread n (fun t => { t with fresh := false, started := false })
    ok (if s.tst n = TS.FAULTED then s else s.setTst n TS.DORMANT)

/-- THREAD_CANCEL (R294). A thread DORMANT or FAULTED holds nothing and keeps its state. -/
def opThreadCancel (n : Nat) (p : Packet) (s : State) : Out :=
  if p.params ≠ [] then refuse s Stat.BAD_PARAM
  else if s.tst n = TS.RUNNING ∨ s.tst n = TS.LOCKWAIT then refuse s Stat.TOO_LATE
  else
    let (s', k) := s.discardHeld n
    let s' := s'.when (s.tst n == TS.READY) (fun s => s.bump F.DISP_CNT_CANCELLED_READY)
    let s' := if s.tst n = TS.READY then ((s'.unready n).setTst n TS.WAITING).updThread n (fun t => { t with fresh := false, started := false }) else s'
    ok s' (leBytes 2 k)

/-- OPERAND_POST (R292, R295, R306). -/
def opOperandPost (p : Packet) (s : State) : Out :=
  let port := numAt p.params 0 1
  let v := BitVec.ofNat 32 (numAt p.params 1 4)
  if hType p.handle = TY.FLOW then
    if s.handleStatus TY.FLOW p.handle ≠ Stat.OK then
      refuse (s.when (s.handleStatus TY.FLOW p.handle == Stat.STALE_HANDLE) (fun s => s.bump F.DISP_CNT_DROP)) (s.handleStatus TY.FLOW p.handle)
    else if p.params.length ≠ 5 ∨ 3 < port then refuse s Stat.BAD_PARAM
    else match s.postFlow (hIndex p.handle) v with
      | (s, .done) => ok s
      | (s, _) => refuse s Stat.BUSY
  else if s.handleStatus TY.THREAD p.handle ≠ Stat.OK then
    refuse (s.when (s.handleStatus TY.THREAD p.handle == Stat.STALE_HANDLE) (fun s => s.bump F.DISP_CNT_DROP)) (s.handleStatus TY.THREAD p.handle)
  else
    let n := hIndex p.handle
    if p.params.length ≠ 5 ∨ 3 < port then refuse s Stat.BAD_PARAM
    else if s.portKind n port = 1 then refuse (s.bump F.DISP_CNT_DROP) Stat.BAD_PARAM
    else if s.portKind n port = 3 then refuse s Stat.BAD_PARAM
    else match s.postPort n port v with
      | (s, .done) => ok s
      | (s, _) => refuse s Stat.BUSY

/-- THREAD_INFO (R306). -/
def opThreadInfo (n : Nat) (p : Packet) (s : State) : Out :=
  if p.params ≠ [] then refuse s Stat.BAD_PARAM
  else ok s (s.reg4 (A.DISP_T_CFG n) ++ s.reg4 (A.DISP_T_PORTS n) ++ s.reg4 (A.DISP_T_STAT n) ++ s.reg4 (A.DISP_T_TRAP n))

/-- FLOW_CREATE (R295, R306). -/
def opFlowCreate (p : Packet) (s : State) : Out :=
  let d := numAt p.params 0 2
  createObj TY.FLOW (p.params.length == 2 && decide (1 ≤ d) && decide (d ≤ 256)) (fun s => decide (s.flowRsvd + d ≤ 2048))
    (fun f s => (s.setReg (A.DISP_F_CFG f) (BitVec.ofNat 32 (2 ^ 31 + (d - 1) * 2 ^ 16))).setReg (A.DISP_F_STAT f) 0) p s

def State.freeFlow (s : State) (f : Nat) : State := ((s.setFlow f []).setReg (A.DISP_F_CFG f) 0).setReg (A.DISP_F_STAT f) 0

/-- FLOW_INFO (R306). -/
def opFlowInfo (f : Nat) (p : Packet) (s : State) : Out :=
  if p.params ≠ [] then refuse s Stat.BAD_PARAM else ok s (s.reg4 (A.DISP_F_CFG f) ++ s.reg4 (A.DISP_F_STAT f))

/-- LOCK_CREATE (R299, R306). -/
def opLockCreate (p : Packet) (s : State) : Out :=
  let c := numAt p.params 0 1
  createObj TY.LOCK (p.params.length == 1 && decide (c ≤ 31)) (fun _ => true)
    (fun l s => s.setReg (A.DISP_L l) (BitVec.ofNat 32 (2 ^ 31 + c))) p s

/-- DISP_STAT as it reads. -/
def State.dispStat (s : State) : Nat := s.disp.ready.length % 256 * 2 ^ 24 + s.flowRsvd * 2 ^ 11 + s.storeRsvd

/-- DISP_READ (R306): as class 0, the first 8 bytes. -/
def opDispRead (p : Packet) (s : State) : Out :=
  if p.params ≠ [] then refuse s Stat.BAD_PARAM
  else
    let b := leBytes 4 s.dispStat ++ s.reg4 A.DISP_CNT
    ok s (if p.cls = 0 then b else b ++ s.reg4 A.DISP_DBG ++ (coreNumbers.map (fun c => s.reg4 (A.DISP_CORE c))).flatten)

/-- The allocator's answer at a port: CMD_ALLOC_RES of ports 1 to 5; port 0, the safety pair's, has no register. -/
def State.allocAnswer (s : State) (port : Fin 6) (h : Word) : State :=
  if port = 0 then { s with cmd.pairHandle := h } else s.setReg (A.CMD_ALLOC_RES (port.val - 1)) h

/-- One request at an allocator port (04 R122): a thread, flow or lock index, its creator the node itself. -/
def State.allocAt (s : State) (port : Fin 6) (ty : BitVec 6) : State :=
  let ty := ty.toNat
  if ty ≠ TY.THREAD ∧ ty ≠ TY.FLOW ∧ ty ≠ TY.LOCK then s
  else match s.takeIndex ty (BitVec.ofNat 16 s.addr) with
    | none => (s.allocAnswer port 0).raise FS.HANDLE_EXHAUSTED
    | some (i, s) =>
      let s := s.allocAnswer port (s.handleAt ty i)
      if ty = TY.THREAD then s.setReg (A.DISP_T_CFG i) 0x80000000
      else if ty = TY.FLOW then s.setReg (A.DISP_F_CFG i) 0x80000000
      else s.setReg (A.DISP_L i) 0x80000000

/-- CMD_ALLOC_REQ (04 R122, R123): the requests of one clk, each with its port (0: the safety pair), granted in port order. -/
def onCmdAllocReq (requests : List (Fin 6 × BitVec 6)) (s : State) : State :=
  s.each (List.finRange 6) (fun s port => s.each (requests.filter (fun r => r.1 == port)) (fun s r => s.allocAt r.1 r.2))

/-- A thread, flow or lock is bound (R286, R295, R300). -/
def State.threadBound (s : State) (n : Nat) : Bool := s.tst n != TS.DORMANT && s.tst n != TS.FAULTED
def State.flowBound (s : State) (f : Nat) : Bool := s.on (F.DISP_F_CFG_ATTACHED f) && s.threadBound (s.f (F.DISP_F_CFG_THREAD f))
def State.lockBound (s : State) (l : Nat) : Bool := s.on (F.DISP_L_HELD l) || s.lockWaiters l != []

end Sys2Proof.Machine
end

