-- ==== Sys2Proof/Machine/MemGuard.lean ====
section
/-!
DEFINITION. MemGuard.lean: the three memories behind the memory guard: lines, checks, correction, remap, scrubber, self-test,
injection (11_memory_guard.md, 04 R130, R131).
-/
namespace Sys2Proof.Machine
open Sys2Proof

/-! Lines. A line is named by the key of its first byte: its address for core SRAM, the recorder and table mirror A;
mirror B and the spares lie above the 32-bit addresses. -/

/-- Lines of a class (R307). -/
def classLines (c : Nat) : Nat := if c = 0 then 65536 else if c = 1 then 24576 else 524288
def classBase (c : Nat) : Nat := if c = 0 then 0x10000000 else if c = 1 then 0x30000000 else 0x20000000

/-- The class that an address lies in. -/
def classOf (a : Nat) : Option Nat :=
  [0, 1, 2].find? (fun c => decide (classBase c ≤ a) && decide (a < classBase c + 64 * classLines c))

/-- Key of the spare line `i` of class `c`. -/
def spareKey (c i : Nat) : Nat := 0x200000000 + c * 512 + i * 64

/-- Key of a line's own place; `m` 1 for table mirror B. -/
def placeKey (c m line : Nat) : Nat := classBase c + m * 0x100000000 + line * 64

/-- The remap entry in force for a line (R316). -/
def State.remapOf (s : State) (c m line : Nat) : Option Nat :=
  (List.range 8).find? (fun i => s.on (F.MGRD_REMAP_VALID c i) && s.f (F.MGRD_REMAP_LINE c i) == line && s.f (F.MGRD_REMAP_MIRROR c i) == m)

/-- Key of a line as every access finds it. -/
def State.lineKey (s : State) (c m line : Nat) : Nat :=
  match s.remapOf c m line with
  | some i => spareKey c i
  | none => placeKey c m line

def State.lineValid (s : State) (k : Nat) : Bool := Map.get false s.guard.valid k
def State.setValid (s : State) (k : Nat) (v : Bool) : State := { s with guard.valid := Map.set false s.guard.valid k v }

/-- Bytes stored at a line. -/
def State.lineBytes (s : State) (k : Nat) : List Byte := s.memRead k 64

/-- R308: the check of a line's bytes at its byte address in the window. -/
def lineCheck (line : Nat) (data : List Byte) : Nat := crc16 (data ++ leBytes 4 (line * 64))

/-- The stored check. -/
def State.storedCheck (s : State) (k line : Nat) : Nat :=
  ((s.guard.checks.find? (fun x => x.1 == k)).map (·.2)).getD (lineCheck line (s.lineBytes k))

/-- The check of a line passes; one that is not valid makes no check (R310). -/
def State.lineGood (s : State) (k line : Nat) : Bool :=
  !s.lineValid k || s.storedCheck k line == lineCheck line (s.lineBytes k)

/-- Flips one of the 528 bits of data and check: bits 0 to 511 the data, 512 on the check. -/
def flipBit (data : List Byte) (chk i : Nat) : List Byte × Nat :=
  if i < 512 then (data.mapIdx (fun j b => if j = i / 8 then b ^^^ BitVec.ofNat 8 (2 ^ (i % 8)) else b), chk)
  else (data, chk ^^^ 2 ^ (i - 512))

/-- Recompute (R311): the single-bit error whose correction makes the check pass. -/
def recompute (line : Nat) (data : List Byte) (chk : Nat) : Option (List Byte) :=
  ((List.range 528).find? (fun i => let (d, c) := flipBit data chk i; lineCheck line d == c)).map (fun i => (flipBit data chk i).1)

/-- Puts whole bytes into a line with a check that fits. -/
def State.putLine (s : State) (k : Nat) (data : List Byte) : State :=
  let s := (s.memWrite k data).setValid k true
  { s with guard.checks := s.guard.checks.filter (fun x => x.1 != k)
           guard.parity := s.guard.parity.filter (fun x => decide (x.1 < k) || decide (k + 64 ≤ x.1)) }

/-- Writes bytes within one line: the rest of a line that was not valid is zeros (R310), and the check and the parity of
every byte written are formed anew (R317). -/
def State.putBytes (s : State) (k o : Nat) (bs : List Byte) : State :=
  let s := if s.lineValid k then s else s.putLine k (List.replicate 64 0)
  let s := (s.memWrite (k + o) bs).setValid k true
  { s with guard.checks := s.guard.checks.filter (fun x => x.1 != k),
           guard.parity := s.guard.parity.filter (fun x => decide (x.1 < k + o) || decide (k + o + bs.length ≤ x.1)) }

/-- A write to memory (R309, R310, R312): table memory in both mirrors; the IMG flag goes unless the loader writes. -/
def State.guardWrite (s : State) (loader : Bool) : Nat → List Byte → State :=
  fun a bs =>
    match classOf a with
    | none => s
    | some c =>
      let lines := (List.range ((a % 64 + bs.length + 63) / 64)).map (fun i => (a - classBase c) / 64 + i)
      s.each lines (fun s line =>
        let la := classBase c + line * 64
        let o := a - la
        let part := if la < a then bs.take (64 - o) else slice bs (la - a) 64
        let s := (if c = 1 then [0, 1] else [0]).foldl (fun s m => s.putBytes (s.lineKey c m line) (a - la) part) s
        let img := loader && decide (s.f F.MGRD_IMG_BASE_ADDR < max a la + part.length) && decide (max a la ≤ s.f F.MGRD_IMG_LIMIT_ADDR)
        if c = 0 then { s with guard.img := Map.set false s.guard.img la img } else s)

/-! Correction (R311 to R318). -/

/-- What a checked read of a line gives. -/
inductive Checked where
  | data (b : List Byte)
  | bad
  | pending
  deriving DecidableEq, Repr

/-- Notes the last error found. -/
def State.noteError (s : State) (c m line outcome : Nat) : State :=
  ((s.setReg A.MGRD_LAST (BitVec.ofNat 32 (classBase c + line * 64))).setF F.MGRD_LAST_INFO_MIRROR m).setF F.MGRD_LAST_INFO_OUTCOME outcome
    |>.setF F.MGRD_LAST_INFO_CLASS c

/-- MGRD_REMAP_FULL is raised once for a class (R318). -/
def State.remapFull (s : State) (c : Nat) : State :=
  if s.guard.fullSaid.contains c then s else { s with guard.fullSaid := c :: s.guard.fullSaid }.raise FS.MGRD_REMAP_FULL

/-- Copies a line to a free spare and sets its entry (R318); none when no entry is free. The entry of a spare that has failed in turn is
cleared, for a line has one. -/
def State.remapLine (s : State) (c m line : Nat) (data : List Byte) : Option (Nat × State) :=
  match (List.range 8).find? (fun i => !s.on (F.MGRD_REMAP_VALID c i)) with
  | none => none
  | some i =>
    let s := match s.remapOf c m line with
      | some old => s.setReg (A.MGRD_REMAP c old) 0
      | none => s
    some (i, (s.setReg (A.MGRD_REMAP c i) (BitVec.ofNat 32 (2 ^ 31 + m * 2 ^ 30 + line))).putLine (spareKey c i) data)

/-- MGRD_CORRECTED, at most once per second (R314). -/
def State.sayCorrected (s : State) : State :=
  match s.guard.corrAt with
  | some t => if s.now < t + 1000000000 then s else { s with guard.corrAt := some s.now }.raise FS.MGRD_CORRECTED
  | none => { s with guard.corrAt := some s.now }.raise FS.MGRD_CORRECTED

/-- A corrected line is counted, written back and verified; a failing verify remaps it, and with no entry free the line stays as it is, to be
corrected on each read (R313, R314, R318). -/
def State.settleLine (s : State) (c m line outcome : Nat) (data : List Byte) : State :=
  let s := (s.noteError c m line outcome).sayCorrected
  let s := s.bump (if c = 0 then F.MGRD_CNT_SRAM_CORR else F.MGRD_CNT_TBL_CORR)
  let (n, s) := s.free
  if !Config.cellFails n then s.putLine (s.lineKey c m line) data
  else match s.remapLine c m line data with
    | some (_, s) => s
    | none => s.remapFull c

/-- An uncorrectable read of class 0 or 1 (R314). -/
def State.uncorrectable (s : State) (c m line : Nat) : State :=
  ((s.noteError c m line 3).bump (if c = 0 then F.MGRD_CNT_SRAM_UE else F.MGRD_CNT_TBL_UE)).raise
    (if c = 0 then FS.MGRD_SRAM_UE else FS.MGRD_TABLE_UE)

/-- A read of one line of class 0 or 1 through its check (R311), for mirror `m` of table memory. -/
def State.checkedLine (s : State) (c m line : Nat) : State × Checked :=
  let k := s.lineKey c m line
  if !s.lineValid k then (s, .data (List.replicate 64 0))
  else if s.lineGood k line then (s, .data (s.lineBytes k))
  else if c = 0 then
    match recompute line (s.lineBytes k) (s.storedCheck k line) with
    | some d => (s.settleLine 0 0 line 0 d, .data d)
    | none =>
      if Map.get false s.guard.img (classBase 0 + line * 64) && s.on F.SYS_ID_BOOTSRC && !s.isFloret then (s, .pending)
      else (s.uncorrectable 0 0 line, .bad)
  else
    let o := s.lineKey c (1 - m) line
    if s.lineValid o ∧ s.lineGood o line then (s.settleLine c m line 1 (s.lineBytes o), .data (s.lineBytes o))
    else match recompute line (s.lineBytes k) (s.storedCheck k line) with
      | some d => (s.settleLine c m line 0 d, .data d)
      | none =>
        match (if s.lineValid o then recompute line (s.lineBytes o) (s.storedCheck o line) else none) with
        | some d => (s.settleLine c m line 0 d, .data d)
        | none => (s.uncorrectable c m line, .bad)

/-- Bytes of `n` from `a` in the recorder: as stored, with the number of parity errors (R317). -/
def State.readRecorder (s : State) (a n : Nat) : State × List Byte × Nat :=
  let keys := (List.range n).map (fun i =>
    let line := (a + i - classBase 2) / 64
    (s.lineKey 2 0 line, (a + i) % 64, line))
  let data := keys.map (fun x => if s.lineValid x.1 then s.mem (x.1 + x.2.1) else 0)
  let errs := keys.filter (fun x => s.lineValid x.1 && Map.get false s.guard.parity (x.1 + x.2.1))
  let s := match errs.getLast? with
    | some x => ((s.bumpBy F.MGRD_CNT_REC_PERR errs.length).noteError 2 0 x.2.2 4).raise FS.MGRD_PARITY
    | none => s
  (s, data, errs.length)

/-- A read of a line of core SRAM has to wait for its refetch (R313): from now on the line is PENDING. -/
def State.pend (s : State) (line : Nat) (scrub : Bool) : State :=
  if s.guard.pending.any (fun x => x.line == line) then
    { s with guard.pending := s.guard.pending.map (fun x => if x.line = line then { x with scrub := x.scrub || scrub } else x) }
  else { s with guard.pending := s.guard.pending ++ [{ line := line, scrub := scrub }] }

/-- A command waits for a PENDING line (R313, R315). -/
def State.waitLine (s : State) (line op : Nat) (p : Packet) : State :=
  { s with guard.pending := s.guard.pending.map (fun x => if x.line = line then { x with cmds := x.cmds ++ [(op, p)] } else x) }

/-- The first PENDING line among some lines of core SRAM. -/
def State.firstPending (s : State) (lines : List Nat) : Option Nat := lines.find? (fun l => s.guard.pending.any (fun x => x.line == l))

/-- A read over lines of class 0 or 1, in ascending order, until one is bad or pending; also gives that line. -/
def State.readLines (s : State) (c : Nat) : List Nat → State × Checked × Nat
  | [] => (s, .data [], 0)
  | line :: rest =>
    if c = 0 ∧ s.firstPending [line] = some line then (s, .pending, line)
    else match s.checkedLine c 0 line with
      | (s, .data d) =>
        match s.readLines c rest with
        | (s, .data e, l) => (s, .data (d ++ e), l)
        | r => r
      | (s, .bad) => (s, .bad, line)
      | (s, .pending) => (s.pend line false, .pending, line)

/-- Lines that `n` bytes from `a` lie in. -/
def linesOf (c a n : Nat) : List Nat := (List.range ((a % 64 + n + 63) / 64)).map ((a - classBase c) / 64 + ·)

/-- THREAD_TRAP (10 R287). An access fault of a load or fetch at `access` comes from an uncorrectable read (R314): the line is read
through its check, and the thread traps only when that finds it so; a line that is corrected is delivered, one that waits for its refetch
makes the core wait. -/
def onThreadTrap (core : Fin 4) (mcause mepc : Word) (access : Option Word) (s : State) : State :=
  match access with
  | none => s.trapThread core mcause mepc
  | some a =>
    match classOf a.toNat with
    | none => s.trapThread core mcause mepc
    | some c =>
      if (s.coreThread core).isNone then s
      else if c = 2 then
        match s.readRecorder a.toNat 1 with
        | (s, _, errs) => if errs = 0 then s else s.trapThread core mcause mepc
      else match s.readLines c (linesOf c a.toNat 1) with
        | (s, .bad, _) => s.trapThread core mcause mepc
        | (s, _) => s

/-- Clk for which a table memory line holds up its requester until it is settled (R313): none for a good line; by its path, longer with a
remap. -/
def State.lineStall (before after : State) (line : Nat) : Nat :=
  if before.lineGood (before.lineKey 1 0 line) line then 0
  else (if after.f F.MGRD_LAST_INFO_OUTCOME = 1 then 68 else 84) + (if after.remapOf 1 0 line = before.remapOf 1 0 line then 0 else 16)

/-- The loop engine reads lines of table memory (R314): the clk they cost, and whether all could be read. -/
def State.engineReads (s : State) : List Nat → State × Nat × Bool
  | [] => (s, 0, true)
  | line :: rest =>
    match s.checkedLine 1 0 line with
    | (s', .data _) =>
      match s'.engineReads rest with
      | (t, k, ok) => (t, k + s.lineStall s' line, ok)
    | (s', _) => (s', 0, false)

/-! Opcodes. -/

/-- Address and length of a memory command within R131: one window, aligned to 4. -/
def memRangeOk (a n : Nat) : Bool :=
  a % 4 == 0 && n % 4 == 0 && decide (4 ≤ n) && decide (n ≤ 1024) && (classOf a).isSome && classOf (a + n - 1) == classOf a

/-- MEM_READ (04 R131, R136; 11 R314). -/
def opMemRead (p : Packet) (s : State) : Out :=
  let a := numAt p.params 0 4
  let n := numAt p.params 4 2
  if p.params.length ≠ 6 ∨ !memRangeOk a n then refuse s Stat.BAD_PARAM
  else
    let c := (classOf a).getD 0
    if c = 2 then
      match s.readRecorder a n with
      | (s, data, errs) => if 0 < errs then refuse s Stat.FAULTED [BitVec.ofNat 8 FS.MGRD_PARITY] else ok s data
    else
      match s.readLines c (linesOf c a n) with
      | (s, .data d, _) => ok s (slice d (a % 64) n)
      | (s, .bad, _) => refuse s Stat.FAULTED [BitVec.ofNat 8 (if c = 0 then FS.MGRD_SRAM_UE else FS.MGRD_TABLE_UE)]
      | (s, .pending, l) => holding (s.waitLine l 0x0210 p)

/-- MEM_WRITE (04 R130, R131, R136; 10 R284). A write to a PENDING line waits until the line is settled, and then replaces what it holds
(11 R315). -/
def opMemWrite (p : Packet) (s : State) : Out :=
  let a := numAt p.params 0 4
  let d := p.params.drop 4
  if p.params.length < 8 ∨ !memRangeOk a d.length then refuse s Stat.BAD_PARAM
  else
    let c := (classOf a).getD 0
    if c = 2 ∨ (c = 1 ∧ s.st ≠ ST.CONFIG) ∨ (c = 0 ∧ 0x10380000 < a + d.length) then refuse s Stat.DENIED
    else match (if c = 0 then s.firstPending (linesOf c a d.length) else none) with
      | some l => holding (s.waitLine l 0x0211 p)
      | none => ok (s.guardWrite false a d)

/-- MGRD_READ (R324): as class 0, the first 16 bytes. -/
def opMgrdRead (p : Packet) (s : State) : Out :=
  if p.params ≠ [] then refuse s Stat.BAD_PARAM
  else
    let b := s.reg4 A.MGRD_ST ++ s.reg4 A.MGRD_CNT_SRAM ++ s.reg4 A.MGRD_CNT_TBL ++ s.reg4 A.MGRD_CNT_REC
    ok s (if p.cls = 0 then b else b ++ s.reg4 A.MGRD_LAST ++ s.reg4 A.MGRD_LAST_INFO ++ s.reg4 A.MGRD_SCRUB)

/-- MGRD_REMAP_SET (R316, R324). -/
def opMgrdRemapSet (p : Packet) (s : State) : Out :=
  let c := numAt p.params 0 1
  let act := numAt p.params 1 1
  let m := numAt p.params 2 1
  let line := numAt p.params 3 4
  if p.params.length ≠ 7 ∨ 2 < c ∨ 1 < act ∨ 1 < m ∨ (m = 1 ∧ c ≠ 1) ∨ classLines c ≤ line then refuse s Stat.BAD_PARAM
  else if s.st ≠ ST.CONFIG then refuse s Stat.DENIED
  else
    let had := s.remapOf c m line
    if act = 0 then
      match had with
      | none => refuse s Stat.BAD_PARAM
      | some i => ok (s.setReg (A.MGRD_REMAP c i) 0) [BitVec.ofNat 8 i]
    else match had with
      | some i => ok s [BitVec.ofNat 8 i]
      | none =>
        let k := s.lineKey c m line
        let valid := s.lineValid k
        match s.remapLine c m line (s.lineBytes k) with
        | none => refuse s Stat.NO_RESOURCE
        | some (i, s) =>
          let s := s.setValid (spareKey c i) valid
          let s := match s.guard.checks.find? (fun x => x.1 == k) with
            | some x => { s with guard.checks := (spareKey c i, x.2) :: s.guard.checks }
            | none => s
          ok s [BitVec.ofNat 8 i]

/-- MGRD_INJECT (R322, R324). -/
def opMgrdInject (p : Packet) (s : State) : Out :=
  let c := numAt p.params 0 1
  let m := numAt p.params 1 1
  let a := numAt p.params 2 4
  let rest := p.params.drop 6
  if p.params.length < 7 ∨ 2 < c ∨ 1 < m ∨ (m = 1 ∧ c ≠ 1) ∨ classOf a ≠ some c then refuse s Stat.BAD_PARAM
  else if s.st ≠ ST.CONFIG then refuse s Stat.DENIED
  else
    let line := (a - classBase c) / 64
    let k := s.lineKey c m line
    if c = 2 then
      let o := numAt rest 0 1
      if rest.length ≠ 1 ∨ 63 < o then refuse s Stat.BAD_PARAM
      else ok { s with guard.parity := Map.set false s.guard.parity (k + o) (!Map.get false s.guard.parity (k + o)) }
    else
      let ps := (List.range (rest.length / 2)).map (fun i => numAt rest (2 * i) 2)
      if (rest.length ≠ 2 ∧ rest.length ≠ 4) ∨ ps.any (fun b => decide (527 < b)) then refuse s Stat.BAD_PARAM
      else
        let (d, chk) := ps.foldl (fun x b => flipBit x.1 x.2 b) (s.lineBytes k, s.storedCheck k line)
        let s := s.memWrite k d
        ok { s with guard.checks := (k, chk) :: s.guard.checks.filter (fun x => x.1 != k) }

/-! Scrubber (R319, R320). -/

/-- The next valid line of a class and mirror from `start` on. -/
def State.nextScrub (s : State) (c m start : Nat) : Option Nat :=
  let byKey : List (Nat × Bool) := s.guard.valid
  let own := (byKey.filterMap (fun x =>
    if placeKey c m 0 ≤ x.1 ∧ x.1 < placeKey c m 0 + 64 * classLines c then
      let line := (x.1 - placeKey c m 0) / 64
      if start ≤ line ∧ (s.remapOf c m line).isNone then some line else none
    else none))
  let spared := (List.range 8).filterMap (fun i =>
    let line := s.f (F.MGRD_REMAP_LINE c i)
    if s.on (F.MGRD_REMAP_VALID c i) ∧ s.f (F.MGRD_REMAP_MIRROR c i) = m ∧ start ≤ line ∧ s.lineValid (spareKey c i) then some line else none)
  (own ++ spared).foldl (fun acc l => match acc with
    | none => some l
    | some b => some (min b l)) none

/-- Recorder pages that an object holds. -/
def State.heldPages (s : State) : List Nat :=
  (s.recorder.caps.map (fun x => x.2.ring.map (·.page) ++ x.2.spare)).flatten ++ (s.recorder.trends.map (fun x => x.2.pages)).flatten ++
    s.node.imgPages

/-- The free-page test of a recorder line (R320, R318). -/
def State.testLine (s : State) (line : Nat) : State :=
  let k := s.lineKey 2 0 line
  let s := (s.memWrite k (List.replicate 64 0)).setValid k false
  let s := { s with guard.parity := s.guard.parity.filter (fun x => decide (x.1 < k) || decide (k + 64 ≤ x.1)) }
  let (n, s) := s.free
  if !Config.cellFails n then s
  else match s.remapLine 2 0 line (List.replicate 64 0) with
    | some (i, s) => s.setValid (spareKey 2 i) false
    | none =>
      let s := { s with guard.retired := s.guard.retired ++ [line / 1024] }
      let s := (s.setF F.MGRD_CNT_REC_RETIRED (s.f F.MGRD_CNT_REC_RETIRED + 1)).setF F.REC_POOL_USABLE (s.f F.REC_POOL_USABLE - 1)
      (s.setF F.REC_POOL_FREE (s.f F.REC_POOL_FREE - 1)).raise FS.MGRD_REMAP_FULL

/-- The scrubber's read of one line. -/
def State.scrubLine (s : State) (c m line : Nat) : State :=
  if c = 2 then
    if s.heldPages.contains (line / 1024) ∨ s.guard.retired.contains (line / 1024) then (s.readRecorder (classBase 2 + line * 64) 64).1
    else s.testLine line
  else
    let goodA := s.lineGood (s.lineKey 1 0 line) line
    let goodB := s.lineGood (s.lineKey 1 1 line) line
    let differ := c == 1 && m == 1 && goodA && goodB && s.lineValid (s.lineKey 1 0 line) && s.lineValid (s.lineKey 1 1 line) &&
      s.lineBytes (s.lineKey 1 0 line) != s.lineBytes (s.lineKey 1 1 line)
    match s.checkedLine c m line with
    | (s, .pending) => s.pend line true
    | (s, _) =>
      if differ then ((s.bump F.MGRD_CNT_TBL_DIFF).noteError 1 1 line 5).raise FS.MGRD_MIRROR_DIFF else s

/-- Scrub position: class and mirror in turn. -/
def scrubNext (c m : Nat) : Option (Nat × Nat) :=
  if c = 0 then some (1, 0) else if c = 1 ∧ m = 0 then some (1, 1) else if c = 1 then some (2, 0) else none

/-- The next pass starts. -/
def State.newPass (s : State) : State :=
  let s := ((s.setF F.MGRD_SCRUB_CLASS 0).setF F.MGRD_SCRUB_MIRROR 0).setF F.MGRD_SCRUB_LINE 0
  { s.setF F.MGRD_SCRUB_PASSES (s.f F.MGRD_SCRUB_PASSES + 1) with guard.passStart := s.now, guard.slowSaid := false }

/-- Goes on to the next part of the pass, or to the next pass. -/
def State.nextPart (s : State) (c m : Nat) : State :=
  match scrubNext c m with
  | some (c', m') => ((s.setF F.MGRD_SCRUB_CLASS c').setF F.MGRD_SCRUB_MIRROR m').setF F.MGRD_SCRUB_LINE 0
  | none => s.newPass

/-- Skips lines that are not valid, over at most the four parts of a pass, and scrubs the next one that is. -/
def State.scrubFrom (s : State) : Nat → State
  | 0 => s
  | fuel + 1 =>
    let c := s.f F.MGRD_SCRUB_CLASS
    let m := s.f F.MGRD_SCRUB_MIRROR
    match s.nextScrub c m (s.f F.MGRD_SCRUB_LINE) with
    | some l =>
      let s := (s.setF F.MGRD_SCRUB_LINE ((l + 1) % 2 ^ 19)).scrubLine c m l
      if l + 1 < classLines c then s else s.nextPart c m
    | none => (s.nextPart c m).scrubFrom fuel

/-- SCRUB_READ (R319): SCRUB_INT µs after the last one; a read that still waits for its line lets none follow. -/
def onScrubRead (s : State) : State :=
  if s.on F.MGRD_CTRL_SCRUB_EN ∧ s.guard.pending.all (fun x => !x.scrub) then
    let s := s.reachNow (s.guard.scrubAt + s.f F.MGRD_CTRL_SCRUB_INT * 1000)
    { s with guard.scrubAt := s.now }.scrubFrom 5
  else s

/-- MGRD_SCRUB_SLOW (R319): SLOW_LIMIT s after the pass began, once for it. -/
def onMgrdScrubSlow (s : State) : State :=
  if s.on F.MGRD_CTRL_SCRUB_EN ∧ !s.guard.slowSaid then
    { s.reachNow (s.guard.passStart + s.f F.MGRD_CTRL_SLOW_LIMIT * 1000000000) with guard.slowSaid := true }.raise FS.MGRD_SCRUB_SLOW
  else s

/-- The start-up self-test (R321): bit n of `okMask` set when check n passes. The scrubber's first pass begins with it (R319). -/
def State.guardSelfTest (s : State) (okMask : Nat) : State :=
  let s := { (s.setF F.MGRD_ST_PASS okMask).setF F.MGRD_ST_DONE 1 with guard.passStart := s.now, guard.scrubAt := s.now }
  s.raiseIf (okMask % 128 != 127) FS.MGRD_SELFTEST

end Sys2Proof.Machine
end

