-- ==== Sys2Proof/Machine/Node.lean ====
section
/-!
DEFINITION. Node.lean: entering node states with what follows for pairs and channels (17 R431 to R436, 06 R176).
-/
namespace Sys2Proof.Machine
open Sys2Proof

/-- States in which a carrier channel may run (06 R176). -/
def chanState (st : Nat) : Bool := st == ST.READY || st == ST.RUN || st == ST.HOLD
/-- States in which a Yarrow pair is driven (06 R176). -/
def yarState (st : Nat) : Bool := st == ST.RUN || st == ST.HOLD

/-- A channel stops because the node left the states of R176: a start still waiting is refused, a stop is done. -/
def State.dropChan (s : State) (p : Nat) : State :=
  let x := (s.pair p).chan
  let s' := match x.startCmd with
    | some c => s.release 0x0403 c Stat.DENIED []
    | none => s
  (s'.each x.stopCmds (fun s c => s.finalReply 0x0404 c Stat.OK [])).haltChan p

/-- Leaving CONFIG puts the written tick length (of a Meadow) and phase map in force; the tick in progress ends at the
next whole multiple of the new length (02 R43). -/
def State.loadTick (s : State) : State :=
  let len := if s.isMeadow then s.f F.TICK_CFG_TICK_PERIOD else s.clk.tickLen
  let n := s.clk.timePs / (len * 2000)
  let s := if len = s.clk.tickLen then s
    else { s with clk.tickLen := len, clk.tickNum := n, clk.nextAt := (n + 1) * (len * 2000) }
  { s with clk.phSample := s.f F.TICK_PH_SAMPLE_PHASE, clk.phUp := s.f F.TICK_PH_UP_PHASE, clk.phTally := s.f F.TICK_PH_TALLY_PHASE
           clk.phLoopEnd := s.f F.TICK_PH_LOOP_END_PHASE, clk.phDown := s.f F.TICK_PH_DOWN_PHASE }

/-- Enters a node state; the same state changes nothing. -/
def State.go (s : State) (st : Nat) : State :=
  let old := s.st
  if old = st then s
  else
    let s := (s.enter st).when (old == ST.CONFIG) State.loadTick
    let s := s.when (st == ST.RUN && old != ST.HOLD) (fun s => { s with node.runAt := s.now })
    let s := s.when (yarState old && !yarState st) State.yarrowSafe
    let s := s.when (chanState old && !chanState st) (fun s =>
      s.each (pairNumbers.filter (fun p => s.hasChan p)) State.dropChan)
    s.when (decide (ST.BLOCKED ≤ st) || old == ST.BLOCKED) State.applyForces

/-- The start credit (17 R442). -/
def State.credit (s : State) : Bool := s.on F.SYS_STATE_CREDIT

/-- WAIT_CREDIT is entered; a Meadow takes its own credit at once (17 R443). -/
def State.goWaitCredit (s : State) : State :=
  let s := { s.go ST.WAIT_CREDIT with node.creditWaitRaised := false }
  if s.isMeadow then (s.setF F.SYS_STATE_CREDIT 1).go ST.READY else s

end Sys2Proof.Machine
end

