-- ==== Sys2Proof/Machine/SafetyUnit.lean ====
section
/-!
DEFINITION. SafetyUnit.lean: safety record, inputs, causes of demand, Safe Stop, safety outputs, deliberate reset
(13_safety_unit.md).
-/
namespace Sys2Proof.Machine
open Sys2Proof

/-! Causes (R353, R354). -/

namespace CAUSE
abbrev POWERUP : Nat := 0
abbrev INPUT : Nat := 1
abbrev COMMAND : Nat := 2
abbrev FHUB_BLOCK : Nat := 3
abbrev FHUB_LOCKOUT : Nat := 4
abbrev FRAME_BLOCK : Nat := 5
abbrev FRAME_SGR : Nat := 6
abbrev CHANNEL : Nat := 7
abbrev ENVELOPE : Nat := 8
abbrev OUT_LOCK : Nat := 9
end CAUSE

/-- Latched causes, bit per cause. -/
def State.causes (s : State) : Nat := (s.reg A.SAFE_CAUSE).toNat % 1024
def State.cause (s : State) (c : Nat) : Bool := bit s.causes c

/-- Level of each cause (R353). A level 1 counts 3 once Safe Stop has ended (R359); ENVELOPE is of level 3 on its string only. -/
def State.causeLevel (s : State) (c : Nat) : Nat :=
  let one l := if l = 1 ∧ s.safe.ssEnded then 3 else l
  match c with
  | 0 => 2 | 1 => one s.safe.inputLvl | 2 => one s.safe.commandLvl | 3 => 2 | 4 => 3 | 5 => 2 | 6 => 3 | 7 => 2
  | 8 => if s.safe.ssEnded then 3 else 1
  | _ => 2

/-- Highest level standing, over the causes of `mask`. -/
def State.levelOf (s : State) (mask : Nat) : Nat := ((bitList 10 (s.causes &&& mask)).map s.causeLevel).foldl max 0
def State.level (s : State) : Nat := s.levelOf 1023

/-- The active record's string fields (R347). -/
def State.ssField (s : State) (k o n : Nat) : Nat := numAt s.safe.record (48 + 16 * k + o) n
def State.ssEn (s : State) (k : Nat) : Bool := bit (s.ssField k 12 1) 7
/-- Strings of the topology record in force. -/
def State.strings (s : State) : List Nat := List.range (min 16 s.tree.strings)

/-- String `k` enters Safe Gate Removal with a Safe Stop state (R359). -/
def State.stringSgr (s : State) (k st : Nat) : State :=
  { s.setF (F.SAFE_SS_STATE k) st with safe.ssSgr := s.safe.ssSgr ||| 2 ^ k }

/-- Safe Stop of the masked strings starts (R358). -/
def State.startSafeStop (s : State) (mask : Nat) : State :=
  (s.setF F.SAFE_STAT_SS 1).each (s.strings.filter (bit mask)) (fun s k =>
    if bit s.safe.ssSgr k ∨ s.ssActive k then s
    else if s.ssEn k then
      { s.setF (F.SAFE_SS_STATE k) 1 with
        safe.ssAt := Map.set 0 s.safe.ssAt k s.now, safe.ssOver := Map.set 0 s.safe.ssOver k 0,
        safe.ssStale := Map.set 0 s.safe.ssStale k 0, safe.ssSettle := Map.set none s.safe.ssSettle k none }
    else s.stringSgr k 0)

/-- Safe Stop ends at once: its strings stand idle and the ramps end (R358). -/
def State.endSafeStop (s : State) : State :=
  (s.each (stringNumbers.filter s.ssActive) (fun s k => s.setF (F.SAFE_SS_STATE k) 0)).setF F.SAFE_STAT_SS 0

/-- Safe Stop has ended when every string has entered Safe Gate Removal; the level then rises to 3 (R359). -/
def State.checkSafeStopEnd (s : State) : State :=
  if s.on F.SAFE_STAT_SS ∧ s.strings.all (bit s.safe.ssSgr) then
    { s.setF F.SAFE_STAT_SS 0 with safe.ssEnded := true }
  else s

/-- What the level of the causes asks of the node (R353, R355, R358; 17 R434). POWERUP alone enters no BLOCKED. -/
def State.obeyLevel (s : State) : State :=
  let s := s.checkSafeStopEnd
  let s := s.setF F.SAFE_CAUSE_LEVEL s.level
  let s := s.setF F.SAFE_STAT_SGR (b2n (decide (3 ≤ s.level)))
  let s := if 2 ≤ s.level then s.when (s.on F.SAFE_STAT_SS) State.endSafeStop else s
  let s := if 3 ≤ s.level then { s with safe.sgrSince := some (s.safe.sgrSince.getD s.now) }
    else { s with safe.sgrSince := none, safe.gdsOff := false }
  let s := s.when (decide (2 ≤ s.levelOf 1022) && decide (ST.WAIT_CREDIT ≤ s.st) && decide (s.st ≤ ST.HOLD)) (fun s => s.go ST.BLOCKED)
  s.applyForces

/-- A cause is latched with its level (R354). -/
def State.setCause (s : State) (c lvl : Nat) : State :=
  let old := if s.cause c then s.causeLevel c else 0
  let s := { s with safe.setAt := Map.set 0 s.safe.setAt c s.clk.nowPs }
  let s := if c = CAUSE.INPUT then { s with safe.inputLvl := max s.safe.inputLvl lvl }
    else if c = CAUSE.COMMAND then { s with safe.commandLvl := max s.safe.commandLvl lvl } else s
  let s := s.setReg A.SAFE_CAUSE (BitVec.ofNat 32 ((s.reg A.SAFE_CAUSE).toNat ||| 2 ^ c))
  (s.raiseIf (old < s.causeLevel c) FS.SAFE_DEMAND).obeyLevel

/-- Causes cleared, bit per cause. The release holds for both channels: channel B forms its demand anew in its next cycle. -/
def State.clearCauses (s : State) (mask : Nat) : State :=
  let w := (s.reg A.SAFE_CAUSE).toNat
  let s := s.setReg A.SAFE_CAUSE (BitVec.ofNat 32 (ofBits ((List.range 32).filter (fun i => bit w i && !(bit mask i && decide (i < 10))))))
  let s := if bit mask CAUSE.INPUT then { s with safe.inputLvl := 0 } else s
  let s := if bit mask CAUSE.COMMAND then { s with safe.commandLvl := 0 } else s
  let s := { s with safe.chbLevel := 0 }
  let s := if s.levelOf 0x106 = 0 then
      { (s.each stringNumbers (fun s k => s.setF (F.SAFE_SS_STATE k) 0)).setF F.SAFE_STAT_SS 0 with safe.ssSgr := 0, safe.ssEnded := false }
    else s
  s.obeyLevel

/-- BLOCK and SGR of the down tick frames to a unit on string `k` (16: none) (R353, R355, R356): either channel's demand places
them, whatever the other channel does (R345). -/
def State.frameBits (s : State) (k : Nat) : Bool × Bool :=
  let str := s.isMeadow && decide (k < 16) && bit s.safe.ssSgr k
  let lvl := max s.level s.safe.chbLevel
  (decide (2 ≤ lvl) || str, decide (3 ≤ lvl) || str)

/-- BLOCK and SGR of a frame (R353, R356). -/
def State.takeFrameBits (s : State) (block sgr : Bool) : State :=
  if s.isMeadow then s
  else
    let s := s.when block (fun s => s.setCause CAUSE.FRAME_BLOCK 2)
    let s := s.when sgr (fun s => s.setCause CAUSE.FRAME_SGR 3)
    if block || sgr then { s with node.frameDirty := true, node.frameClean := 0 } else s

/-- What 16 consecutive clean frames clear (R357, 17 R437). -/
def State.clearFrameCauses (s : State) : State :=
  let mask := 0x60 + b2n (s.f F.SAFE_ACK_ACK_MODE == 2 || !s.on F.SAFE_STAT_REC_OK)
  if 16 ≤ s.node.frameClean ∧ s.causes &&& mask ≠ 0 then s.clearCauses mask else s

/-- BLOCK and SGR of an obeyed frame, and the count of clean ones (R357): `again` when it is obeyed in place of an earlier
frame of the tick, and counts in its stead. -/
def State.obeyFrameBits (s : State) (block sgr again : Bool) : State :=
  if s.isMeadow then s
  else
    let s := s.takeFrameBits block sgr
    if s.node.frameDirty || again then s
    else { s with node.frameClean := min 16 (s.node.frameClean + 1) }.clearFrameCauses

/-! Outputs (R360 to R364). -/

def outNumbers : List Nat := [0, 1, 2, 3]
def State.outFunc (s : State) (n : Nat) : Nat := s.f (F.SAFE_OUT_FUNC n)
def State.firing (s : State) (n : Nat) : Option Fire := Map.get none s.safe.fire n
def State.locked (s : State) (n : Nat) : Bool := s.on (F.SAFE_OUT_LOCK n)
def State.chFaulty (s : State) (c : Nat) : Bool := Map.get false s.safe.chFault c

/-- Both pairs' forcing that R364 asks for: every pair of the cell is forced. -/
def State.cellForced (s : State) (c : Nat) : Bool :=
  let kind := s.f F.CMD_NODE_KIND
  let ps := if kind = 3 then [c] else if kind = 2 then [0, 1] else [0]
  ps.all s.forced

/-- The condition of an output's function (R360, R364). -/
def State.outWanted (s : State) (n : Nat) : Bool :=
  match s.outFunc n with
  | 1 => s.credit && !(s.st == ST.LOCKOUT) && !(decide (3 ≤ s.level) && s.safe.gdsOff)
  | 2 => (s.firing n).isSome && s.cellForced (s.f (F.SAFE_OUT_CELL n))
  | 3 => s.causes == 0 && chanState s.st
  | _ => false

/-- A demand of channel B's own keeps output `n` off in channel B (R345, R360): one of level 3 a gate-driver supply enable without
GDS_DELAY, any demand a ready permissive. -/
def State.chbBars (s : State) (n : Nat) : Bool :=
  match s.outFunc n with
  | 1 => decide (3 ≤ s.safe.chbLevel) && numAt s.safe.record 4 1 == 0
  | 3 => s.safe.chbLevel != 0
  | _ => false

/-- One channel as it is commanded. -/
def State.chanWanted (s : State) (n ch : Nat) : Bool :=
  s.outWanted n && !s.locked n && !s.chFaulty (2 * n + ch) && (ch == 0 || (s.on F.SAFE_STAT_CHB_OK && !s.chbBars n))

/-- An output locks (R363). -/
def State.lockOut (s : State) (n : Nat) : State :=
  if s.locked n then s
  else
    let s := ((s.setF (F.SAFE_OUT_LOCK n) 1).setF (F.SAFE_OUT_DEG n) 0).setF (F.SAFE_OUT_DEG_LEFT n) 0
    let s := { s with safe.degEnd := Map.set none s.safe.degEnd n none }
    let s := s.raise FS.SAFE_OUT_LOCKOUT
    if s.outFunc n = 1 ∨ s.outFunc n = 2 then s.setCause CAUSE.OUT_LOCK 2 else s

/-- A channel fault of output `n` (R363). A degradable output that is off, or already degraded, locks. -/
def State.channelFault (s : State) (n ch : Nat) : State :=
  if s.chFaulty (2 * n + ch) then s
  else
    let other := s.chFaulty (2 * n + (1 - ch))
    let s := { s with safe.chFault := Map.set false s.safe.chFault (2 * n + ch) true }
    if s.on (F.SAFE_OUT_CLASS n) && !other && s.outWanted n && !s.locked n then
      let lim := numAt s.safe.record (34 + 4 * n) 2
      let s := (s.setF (F.SAFE_OUT_DEG n) 1).setF (F.SAFE_OUT_DEG_LEFT n) lim
      { s with safe.degEnd := Map.set none s.safe.degEnd n (some (s.now + lim * 100000000)) }.raise FS.SAFE_OUT_DEGRADED
    else s.lockOut n

/-- The output balls and their registers follow the commands; a degraded output that is turned off locks (R360, R363). -/
def State.driveOutputs (s : State) : State :=
  let s := s.each outNumbers (fun s n =>
    let s := if s.on (F.SAFE_OUT_DEG n) ∧ !s.outWanted n then s.lockOut n else s
    [0, 1].foldl (fun s ch =>
      let fld := if ch = 0 then F.SAFE_OUT_ON_A n else F.SAFE_OUT_ON_B n
      let want := s.chanWanted n ch
      if s.on fld = want then s
      else { s.setF fld (b2n want) with safe.changeAt := Map.set 0 s.safe.changeAt (2 * n + ch) s.now,
                                        safe.mism := Map.set 0 s.safe.mism (2 * n + ch) 0 }) s)
  let mask (g : Nat → Bool) := ofBits (outNumbers.filter g)
  let s := s.setF F.SAFE_STAT_SO_ON (mask (fun n => s.on (F.SAFE_OUT_ON_A n) || s.on (F.SAFE_OUT_ON_B n)))
  let s := s.setF F.SAFE_STAT_SO_DEG (mask (fun n => s.on (F.SAFE_OUT_DEG n)))
  s.setF F.SAFE_STAT_SO_LOCK (mask s.locked)

/-- Channel as commanded. -/
def State.outOn (s : State) (n ch : Nat) : Bool := s.on (if ch = 0 then F.SAFE_OUT_ON_A n else F.SAFE_OUT_ON_B n)

/-- TP_W of the record in force, ns (R347). -/
def State.tpWidth (s : State) : Nat := numAt s.safe.record 8 2 * 1000

/-- Global ns since the last instant `ms` milliseconds into a second (R352, R362). -/
def State.sinceSlot (s : State) (ms : Nat) : Nat := (s.time + 1000000000 - ms * 1000000) % 1000000000

/-- Moves on to the end of the off-pulse that starts `ms` milliseconds into a second of global time: the pulse in progress, or else
the next (R352, R362). -/
def State.reachPulseEnd (s : State) (ms : Nat) : State :=
  let since := s.sinceSlot ms
  let left := if since ≤ s.tpWidth then s.tpWidth - since else s.tpWidth + 1000000000 - since
  s.reachTime ((s.clk.timePs / 1000 + left) * 1000)

/-- Start of the off-pulse of a channel, ms into the second (R362). -/
def outSlot (n ch : Nat) : Nat := 100 + 500 * ch + 100 * n

/-- A channel's off-pulse is in progress (R362): a channel commanded on during the slot waits for its next one. -/
def State.outPulse (s : State) (n ch : Nat) : Bool :=
  (s.outFunc n == 1 || s.outFunc n == 3) && s.outOn n ch && decide (s.sinceSlot (outSlot n ch) < s.tpWidth) &&
    decide (Map.get 0 s.safe.changeAt (2 * n + ch) + s.sinceSlot (outSlot n ch) ≤ s.now)

/-- SO ball levels (R360): low while power-on reset is asserted or boundary scan drives the balls (18 R464), and in the channel's
off-pulse (R362). -/
def State.soLevel (s : State) (n ch : Nat) : Bool := !s.clk.por && !s.node.bscan && s.outOn n ch && !s.outPulse n ch

/-! Channel B (R345, R346). -/

/-- Channel B is lost: SAFE_CHANNEL, cause CHANNEL, a channel fault on every output (R346, R353, R363). -/
def State.loseChannelB (s : State) : State :=
  if s.safe.chbLost then s
  else
    let s := ({ s with safe.chbLost := true, safe.chbLevel := 0 }.setF F.SAFE_STAT_CHB_OK 0).raise FS.SAFE_CHANNEL
    let s := s.setCause CAUSE.CHANNEL 2
    s.each outNumbers (fun s n => s.channelFault n 1)

/-- Channel B's cycles are 100 µs apart (R345). -/
def State.nextCycle (s : State) : State :=
  let s := s.reachNow (s.safe.cycleAt + 100000)
  { s with safe.cycleAt := s.now }

/-- CHANNEL_B_CYCLE (R345, R346), 100 µs after the last one: whether the cycle ran, the level that channel B formed in it (POWERUP apart), whether its inputs
or output commands differ from channel A's, and whether the safety pair took an access fault. Another level than channel A's is a
difference too. -/
def onChannelBCycle (ran : Bool) (demand : Fin 4) (differs fault : Bool) (s : State) : State :=
  if s.safe.chbLost ∨ !s.on F.SYS_STATE_IMG_OK then s
  else
    let s := s.nextCycle
    let ran := ran && !s.disp.pairReset
    let missed := if ran then 0 else s.safe.missed + 1
    let differs := differs || s.levelOf 0x3FE != demand.val
    let diffs := if ran && differs then s.safe.diffs + 1 else if ran then 0 else s.safe.diffs
    let s := { s with safe.missed := missed, safe.diffs := diffs, safe.chbLevel := if ran then demand.val else s.safe.chbLevel }
    if fault ∨ 2 ≤ missed ∨ 3 ≤ diffs then s.loseChannelB else (s.setF F.SAFE_STAT_CHB_OK 1).applyForces

/-- SAFETY_PAIR_HALT (10 R304): accepted while EN is 1h outside RUN and HOLD; channel B is then lost. -/
def onSafetyPairHalt (s : State) : State :=
  if s.on F.DISP_DBG_EN ∧ !yarState s.st then (s.setF F.DISP_DBG_SAFE_HALTED 1).loseChannelB else s

/-- LOCKSTEP_MISMATCH (10 R284): DISP_LOCKSTEP, and both cores held in reset. -/
def onLockstepMismatch (s : State) : State := { s with disp.pairReset := true }.raise FS.DISP_LOCKSTEP

/-- DEBUG_RESUME of a core, or of the safety pair as hart 4 (10 R303, R304). -/
def onDebugResumeHart (hart : Fin 5) (s : State) : State :=
  if !s.on F.DISP_DBG_EN then s
  else if hart = 4 then
    if s.on F.DISP_DBG_SAFE_HALTED then
      { s.setF F.DISP_DBG_SAFE_HALTED 0 with safe.chbLost := s.disp.pairReset, safe.diffs := 0, safe.missed := 0 }.setF
        F.SAFE_STAT_CHB_OK (b2n (!s.disp.pairReset))
    else s
  else ((s.clrBit F.DISP_DBG_HALTED hart).coreReg hart).applyForces

/-! Inputs (R350 to R352). -/

def State.inFunc (s : State) (n : Nat) : Nat := s.f (F.SAFE_IN_FUNC n)
def lvlField (n ch : Nat) : Fld := if ch = 0 then F.SAFE_IN_LVL_A n else F.SAFE_IN_LVL_B n

/-- Level at which a channel demands: low; high on channel B in MODE 1h. -/
def State.demandLevel (s : State) (n ch : Nat) : Bool := ch == 1 && s.on (F.SAFE_IN_MODE n)

/-- The channel stands at its demand level. -/
def State.chDemand (s : State) (n ch : Nat) : Bool :=
  Map.get false s.safe.known (2 * n + ch) && (s.on (lvlField n ch) == s.demandLevel n ch)
/-- The channel stands at its normal level. -/
def State.chNormal (s : State) (n ch : Nat) : Bool :=
  Map.get false s.safe.known (2 * n + ch) && (s.on (lvlField n ch) != s.demandLevel n ch)

/-- The level an input's FUNC asks for (R353). -/
def State.inputLevel (s : State) (n : Nat) : Nat := if s.inFunc n = 1 ∧ s.isMeadow then 1 else 3

/-- An input enters demand: INPUT is latched, and level 1 at a Meadow starts Safe Stop (R350, R353, R358). -/
def State.inputDemand (s : State) (n : Nat) : State :=
  if s.inFunc n = 0 then s
  else
    let s := s.setCause CAUSE.INPUT (s.inputLevel n)
    if s.level = 1 then (s.startSafeStop 0xFFFF).obeyLevel else s

/-- SI_FLT follows DISCF and TFAIL. -/
def State.inputFlags (s : State) : State :=
  s.setF F.SAFE_STAT_SI_FLT (ofBits (outNumbers.filter (fun n => s.on (F.SAFE_IN_DISCF n) || s.on (F.SAFE_IN_TFAIL n))))

/-- Whether an input is in demand, from its levels and REARM. -/
def State.evalInput (s : State) (n : Nat) : State :=
  let both := s.chDemand n 0 && s.chDemand n 1
  let normal := s.chNormal n 0 && s.chNormal n 1
  let stage := Map.get 0 s.safe.rearm n
  let stage' := if stage = 1 && both then 2 else if stage = 2 && normal then 0 else stage
  let s := { s with safe.rearm := Map.set 0 s.safe.rearm n stage' }
  let s := if stage ≠ 0 ∧ stage' = 0 then
      (((s.setF (F.SAFE_IN_REARM n) 0).setF (F.SAFE_IN_DISCF n) 0).setF (F.SAFE_IN_TFAIL n) 0).inputFlags else s
  let dis := (s.chDemand n 0 && s.chNormal n 1) || (s.chNormal n 0 && s.chDemand n 1)
  let s := { s with safe.disc := Map.set none s.safe.disc n (if dis then some ((Map.get none s.safe.disc n).getD s.now) else none)
                    safe.discOver := Map.set false s.safe.discOver n (dis && Map.get false s.safe.discOver n) }
  let dem := s.chDemand n 0 || s.chDemand n 1 || stage' != 0
  let rise := dem && !s.on (F.SAFE_IN_DEM n)
  let s := (s.setF (F.SAFE_IN_DEM n) (b2n dem))
  let s := if dem then s.setBit F.SAFE_STAT_SI_DEM n else s.clrBit F.SAFE_STAT_SI_DEM n
  if rise then s.inputDemand n else s

/-- SAFETY_INPUT (R350): the level of a channel has stood for FILT. -/
def onSafetyInput (input : Fin 4) (chanB level : Bool) (s : State) : State :=
  let ch := b2n chanB
  let s := { s with safe.known := Map.set false s.safe.known (2 * input + ch) true }
  (s.setF (lvlField input ch) (b2n level)).evalInput input

/-- REARM, demand and a source for a fault of an input (R351, R352). -/
def State.inputFault (s : State) (n : Nat) (flag : Fld) (src : Nat) : State :=
  let s := ((s.setF flag 1).setF (F.SAFE_IN_REARM n) 1).inputFlags
  let s := { s with safe.rearm := Map.set 0 s.safe.rearm n 1 }
  let was := s.on (F.SAFE_IN_DEM n)
  let s := s.evalInput n
  let s := s.when was (fun s => s.inputDemand n)
  s.raise src

/-- DISC codes in ms (R347). -/
def discMs (c : Nat) : Nat := ([10, 20, 50, 100, 200, 500, 1000, 2000] : List Nat).getD c 0

/-- SAFE_IN_DISCREPANCY (R351): the discrepancy timer expires while the channels disagree, also in a rearm, and at an input that is
not used (whose demand R350 ignores). The expiry ends its clk, so that an agreement of that clk counts first. -/
def onSafeInDiscrepancy (input : Fin 4) (s : State) : State :=
  match Map.get none s.safe.disc input with
  | some t =>
    if Map.get false s.safe.discOver input then s
    else
      let s := s.reachNow (t + discMs (s.f (F.SAFE_IN_DISC input)) * 1000000 + 2)
      { s with safe.discOver := Map.set false s.safe.discOver input true }.inputFault input (F.SAFE_IN_DISCF input) FS.SAFE_IN_DISCREPANCY
  | none => s

/-- Driver of an input channel (R352). -/
def inputDriver (n ch : Nat) : Nat := n / 2 * 2 + ch

/-- Inputs that take their contact supply from a driver or from its partner (R352). -/
def State.testedBy (s : State) (driver : Nat) : List Nat :=
  [driver / 2 * 2, driver / 2 * 2 + 1].filter (fun n => s.on (F.SAFE_IN_TEST n))

/-- Start of a driver's off-pulse, ms into the second (R352). -/
def driverSlot (driver : Nat) : Nat := 50 + 250 * driver

/-- TPO ball levels (R352): a driver in use is high but for its off-pulse; low while power-on reset is asserted or boundary scan
drives the balls (18 R454, R464). -/
def State.tpoLevel (s : State) (driver : Nat) : Bool :=
  !s.clk.por && !s.node.bscan && s.testedBy driver != [] && !decide (s.sinceSlot (driverSlot driver) < s.tpWidth)

/-- A channel fails its check in an off-pulse (R352), `reads` its levels in the 10 µs samples of the pulse: in a pulse of its own
driver it must read its demand level at least once, in one of the other driver it must not change. -/
def State.pulseFails (s : State) (n ch driver : Nat) (reads : List Bool) : Bool :=
  if inputDriver n ch = driver then !reads.any (· == s.demandLevel n ch) else reads.any (· != s.on (lvlField n ch))

/-- TEST_PULSE (R352): a driver's off-pulse to its end, with the levels of the channels (bit 2n + ch) in each 10 µs sample. -/
def onTestPulse (driver : Fin 4) (reads : List (BitVec 8)) (s : State) : State :=
  let ns := s.testedBy driver
  let s := s.when (ns != []) (fun s => s.reachPulseEnd (driverSlot driver))
  s.each ns (fun s n => [0, 1].foldl (fun s ch =>
    let key := (2 * n + ch) * 2 + b2n (inputDriver n ch == driver.val)
    if s.pulseFails n ch driver (reads.map (fun r => bit r.toNat (2 * n + ch))) then
      let k := Map.get 0 s.safe.tp key + 1
      let s := { s with safe.tp := Map.set 0 s.safe.tp key (if 2 ≤ k then 0 else k) }
      if 2 ≤ k then s.inputFault n (F.SAFE_IN_TFAIL n) FS.SAFE_IN_TEST else s
    else { s with safe.tp := Map.set 0 s.safe.tp key 0 }) s)

/-! Safe Stop envelope (R359). -/

/-- Limit L(t) of string `k` at elapsed ns `t` since the start: max(IMAX - SLOPE t, 0) + BAND in binary32. -/
def State.ssLimit (s : State) (k t : Nat) : Word :=
  let slope := BitVec.ofNat 32 (s.ssField k 0 4)
  let fall := Fp.sub (Fp.ofInt (s.ssField k 8 2)) (Fp.mul slope (Fp.round false t 1000000000 0))
  Fp.add (if Fp.lt fall 0 then 0 else fall) (Fp.ofInt (s.ssField k 10 2))

/-- One string at a merge instant. -/
def State.envelope (s : State) (k : Nat) : State :=
  let t := s.now - Map.get 0 s.safe.ssAt k
  let slot := s.ssField k 12 1 % 8
  let v := s.ssField k 12 1 / 8 % 8
  let (fr, got, all) := s.relay slot
  let fresh := s.on (F.LOOP_RELAY_SRC_EN slot) && all && bit got v
  let cur := Fp.abs (Fp.mul (Fp.ofInt (signed 16 (numAt fr (92 + 2 * v) 2))) (BitVec.ofNat 32 (s.ssField k 4 4)))
  let lim := s.ssLimit k t
  let s := s.setF (F.SAFE_SS_LIMIT k) (min 0xFFFF (Fp.floorInt lim).toNat)
  let above := if fresh && Fp.lt lim cur then Map.get 0 s.safe.ssOver k + 1 else 0
  let stale := if fresh then 0 else Map.get 0 s.safe.ssStale k + 1
  let inBand := fresh && Fp.le cur (Fp.ofInt (s.ssField k 10 2))
  let since := if inBand then some ((Map.get none s.safe.ssSettle k).getD s.now) else none
  let s := { s with safe.ssOver := Map.set 0 s.safe.ssOver k above, safe.ssStale := Map.set 0 s.safe.ssStale k stale,
                    safe.ssSettle := Map.set none s.safe.ssSettle k since }
  if 2 ≤ above ∨ 2 ≤ stale then ((s.stringSgr k 4).raise FS.SAFE_SS_ENVELOPE).setCause CAUSE.ENVELOPE 3
  else match since with
    | some a => if a + numAt s.safe.record 5 1 * 1000000 ≤ s.now then s.stringSgr k 3 else s.setF (F.SAFE_SS_STATE k) 2
    | none => s.setF (F.SAFE_SS_STATE k) 1

/-- ENVELOPE_CHECK at each merge instant. -/
def State.envelopeCheck (s : State) : State :=
  if s.isMeadow ∧ s.on F.SAFE_STAT_SS then (s.each (stringNumbers.filter s.ssActive) State.envelope).obeyLevel else s

/-- SS_MAX (R359): the Safe Stop of a string has lasted SS_MAX. -/
def onSsMax (string : Fin 16) (s : State) : State :=
  if !s.ssActive string then s
  else ((s.reachNow (Map.get 0 s.safe.ssAt string + numAt s.safe.record 6 2 * 1000000)).stringSgr string 5).obeyLevel

/-- GDS_DELAY (R355, R360; 17 R442). -/
def onGdsDelay (s : State) : State :=
  match s.safe.sgrSince with
  | some t => { s.reachNow (t + numAt s.safe.record 4 1 * 1000000) with safe.gdsOff := true }.setF F.SYS_STATE_CREDIT 0
  | none => s

/-- A fire that has ended, well or not (R364, R370): BYPASSED of the cell and FIRED, or the lock of the output; its command's reply.
`left` is what stays of it. -/
def State.fireResult (s : State) (n : Nat) (x : Fire) (good : Bool) (left : Option Fire) : State :=
  let s := { s with safe.fire := Map.set none s.safe.fire n left }
  let s := if good then (s.setF (F.SAFE_OUT_FIRED n) 1).setF (F.YAR_CELL_BYPASSED (s.f (F.SAFE_OUT_CELL n))) 1 else s.lockOut n
  match x.cmd with
  | some p => if good then s.finalReply 0x0905 p Stat.OK [] else s.finalReply 0x0905 p Stat.FAULTED [0x74]
  | none => s

/-- A readback sample of an output that fires (R364): both channels must read on within FB_SETTLE (`early`). -/
def State.fireSample (s : State) (n ch : Nat) (early level : Bool) : State :=
  match s.firing n with
  | some x =>
    if x.decided then s
    else
      let hit := early && level && s.outOn n ch
      let x := if ch = 0 then { x with fbA := x.fbA || hit } else { x with fbB := x.fbB || hit }
      let past := some { x with cmd := none, decided := true }
      if x.fbA && x.fbB then s.fireResult n x true past
      else if s.outOn n ch && !early then s.fireResult n x false past
      else { s with safe.fire := Map.set none s.safe.fire n (some x) }
  | none => s

/-- A channel's off-pulse or the FB_SETTLE after it is in progress: no mismatch counts (R361, R362). -/
def State.pulseSettles (s : State) (n ch settle : Nat) : Bool :=
  (s.outFunc n == 1 || s.outFunc n == 3) && decide (s.sinceSlot (outSlot n ch) < s.tpWidth + settle)

/-- A readback sample that differs from the channel's command three times in a row is a channel fault (R361, R363). -/
def State.countReadback (s : State) (n ch : Nat) (early level : Bool) : State :=
  let c := 2 * n + ch
  if s.outFunc n = 0 ∨ s.chFaulty c ∨ early ∨ s.pulseSettles n ch (numAt s.safe.record 10 2 * 1000) then s
  else if level = s.outOn n ch then { s with safe.mism := Map.set 0 s.safe.mism c 0 }
  else
    let k := Map.get 0 s.safe.mism c + 1
    let s := { s with safe.mism := Map.set 0 s.safe.mism c k }
    if 3 ≤ k then s.channelFault n ch else s

/-- SOFB_CHECK (R361): one sample of a channel's readback, 10 µs after its last. -/
def onSofbCheck (output : Fin 4) (chanB level : Bool) (s : State) : State :=
  let ch := b2n chanB
  let c := 2 * output.val + ch
  let s := s.reachNow (Map.get 0 s.safe.sampleAt c + 10000)
  let s := { s with safe.sampleAt := Map.set 0 s.safe.sampleAt c s.now }
  let s := s.setF (if ch = 0 then F.SAFE_OUT_FB_A output else F.SAFE_OUT_FB_B output) (b2n level)
  let early := decide (s.now < Map.get 0 s.safe.changeAt c + numAt s.safe.record 10 2 * 1000)
  (s.countReadback output ch early level).fireSample output ch early level

/-- OUTPUT_TEST_PULSE (R362): a channel's off-pulse to its end, and whether SOFB read off in a sample of it. A demand that falls in
the pulse, or a command that came after its start, leaves no result. -/
def onOutputTestPulse (output : Fin 4) (chanB sawOff : Bool) (s : State) : State :=
  let ch := b2n chanB
  if (s.outFunc output ≠ 1 ∧ s.outFunc output ≠ 3) ∨ s.safe.record = [] then s
  else
    let s := s.reachPulseEnd (outSlot output ch)
    if !s.chanWanted output ch ∨ s.now < Map.get 0 s.safe.changeAt (2 * output + ch) + s.tpWidth ∨ sawOff then s
    else s.channelFault output ch

/-- DEG_LIMIT (R363). -/
def onDegLimit (output : Fin 4) (s : State) : State :=
  match Map.get none s.safe.degEnd output with
  | some t => (s.reachNow t).lockOut output
  | none => s

/-- An output starts to fire. -/
def State.startFire (s : State) (n : Nat) (cmd : Option Packet) : State :=
  { s with safe.fire := Map.set none s.safe.fire n (some { since := s.now, cmd := cmd }) }

/-- BYP_DELAY (R364): the automatic bypass of a Floret. -/
def onBypDelay (s : State) : State :=
  match s.safe.bypAt with
  | none => s
  | some t =>
    let s := { s.reachNow t with safe.bypAt := none }
    s.each outNumbers (fun s n =>
      if s.outFunc n = 2 && s.on (F.SAFE_OUT_BYP_AUTO n) && !s.locked n && s.cellForced (s.f (F.SAFE_OUT_CELL n)) && (s.firing n).isNone then
        s.startFire n none else s)

/-- FIRE_MS (R364): the firing pulse ends; one whose channels have not both read on by then has failed. -/
def onFireMs (output : Fin 4) (s : State) : State :=
  match s.firing output with
  | none => s
  | some x =>
    let s := s.reachNow (x.since + numAt s.safe.record 12 1 * 1000000)
    if x.decided then { s with safe.fire := Map.set none s.safe.fire output none } else s.fireResult output x false none

/-! Panel (R349, R365). -/

/-- REC_MATCH is lost and SAFE_PANEL raised (R349). -/
def State.panelFault (s : State) : State := (s.setF F.SAFE_STAT_REC_MATCH 0).raise FS.SAFE_PANEL

/-- REC_MATCH (SAFE_STAT): a record is in force, its CRC equals SW and the seal is closed. -/
def State.recMatches (s : State) : Bool :=
  s.on F.SAFE_STAT_REC_OK && s.on F.SAFE_PANEL_SEAL_OK && s.f F.SAFE_REC_CRC == s.f F.SAFE_PANEL_SW

/-- SEAL_OK (R349): the debounced loop changes. -/
def onSealOk (closed : Bool) (s : State) : State :=
  let was := s.on F.SAFE_PANEL_SEAL_OK
  let s := (s.setF F.SAFE_PANEL_SEAL_OK (b2n closed)).setF F.SAFE_STAT_SEAL (b2n closed)
  let s := s.setF F.SAFE_STAT_REC_MATCH (b2n s.recMatches)
  if was && !closed && s.st != ST.CONFIG then s.panelFault else s

/-- SW (R349): the debounced switches change. -/
def onSw (value : BitVec 16) (s : State) : State :=
  let changed := s.f F.SAFE_PANEL_SW != value.toNat
  let s := s.setF F.SAFE_PANEL_SW value.toNat
  if changed && s.on F.SAFE_PANEL_SEAL_OK then s.panelFault else s

def State.closeWindow (s : State) : State := { (s.setF F.SAFE_PANEL_WIN 0).setF F.SAFE_PANEL_WIN_LEFT 0 with safe.winEnd := none }

/-- ACK_N (R365): a debounced press (`low`) or release. -/
def onAckN (low : Bool) (s : State) : State :=
  if low then
    if s.safe.ackLow.isSome then s
    else
      let counts := !s.safe.ackBarred || decide (s.safe.ackHigh + 1000000000 ≤ s.now)
      let s := { s.setF F.SAFE_PANEL_ACK 1 with safe.ackLow := some s.now, safe.ackLong := !counts,
                                                safe.ackBarred := !counts }
      if counts then s.closeWindow else s
  else match s.safe.ackLow with
    | none => s
    | some t =>
      let held := s.now - t
      let s := { s.setF F.SAFE_PANEL_ACK 0 with safe.ackLow := none, safe.ackHigh := s.now }
      if s.safe.ackLong ∨ s.f F.SAFE_ACK_ACK_MODE ≠ 1 ∨ held < 1000000000 ∨ 5000000000 < held then s
      else
        let s := s.setF F.SAFE_ACK_WIN_ID (s.f F.SAFE_ACK_WIN_ID + 1)
        { (s.setF F.SAFE_PANEL_WIN 1).setF F.SAFE_PANEL_WIN_LEFT 10 with safe.winEnd := some (s.now + 10000000000) }

/-- ACK_HOLD_LIMIT (R365): held low beyond 5 s. -/
def onAckHoldLimit (s : State) : State :=
  match s.safe.ackLow with
  | some t =>
    if s.safe.ackLong then s
    else { s.reachNow (t + 5000000000) with safe.ackLong := true, safe.ackBarred := true }.raise FS.SAFE_PANEL
  | none => s

/-- ACK_WINDOW_END (R365). -/
def onAckWindowEnd (s : State) : State :=
  match s.safe.winEnd with
  | some t => (s.reachNow t).closeWindow
  | none => s

/-! Deliberate reset (R366, R367). -/

/-- Conditions of R366 other than the window. -/
def State.resetAllowed (s : State) : Bool :=
  outNumbers.all (fun n => s.inFunc n == 0 || (!s.on (F.SAFE_IN_DEM n) && !s.on (F.SAFE_IN_REARM n))) &&
    s.on F.SAFE_STAT_CHB_OK && !s.cause CAUSE.FHUB_LOCKOUT

/-- An accepted reset (R354, R367): the state and its status. -/
def State.acceptReset (s : State) : State × Nat :=
  let late := (bitList 10 s.causes).filter (fun c => c != 4 && c != 5 && c != 6 &&
    (s.safe.setAt.any (fun x => x.1 == c && x.2 / 2000 == s.clk.nowPs / 2000)))
  let s := s.closeWindow
  let s := s.each outNumbers (fun s n =>
    { (s.setF (F.SAFE_OUT_LOCK n) 0).setF (F.SAFE_OUT_DEG n) 0 with
      safe.chFault := Map.set false (Map.set false s.safe.chFault (2 * n) false) (2 * n + 1) false
      safe.degEnd := Map.set none s.safe.degEnd n none })
  let s := s.clearCauses (0x38F - ofBits (late.filter (fun c => decide (c ≤ 9))))
  (s, if late = [] then Stat.OK else Stat.DENIED)

/-- A reset on the node's own window (R366). -/
def State.ownReset (s : State) (id : Nat) : Out :=
  if s.on F.SAFE_PANEL_WIN ∧ id = s.f F.SAFE_ACK_WIN_ID then
    let (s, st) := s.acceptReset
    { s := s, status := st }
  else refuse s Stat.DENIED

/-- SAFE_RESET (R366): with ACK_MODE 2h the safety pair first reads ACK_NODE. -/
def opSafeReset (p : Packet) (s : State) : Out :=
  let id := numAt p.params 0 2
  if p.params.length ≠ 2 then refuse s Stat.BAD_PARAM
  else if !s.resetAllowed then refuse s Stat.DENIED
  else match s.f F.SAFE_ACK_ACK_MODE with
    | 1 => s.ownReset id
    | 2 =>
      if s.route (s.f F.SAFE_ACK_ACK_NODE) = .here then s.ownReset id
      else if s.safe.remote.isSome then refuse s Stat.DENIED
      else
        let seq := s.safe.readSeq
        let q : Packet := { seq := BitVec.ofNat 16 seq, target := BitVec.ofNat 13 (s.f F.SAFE_ACK_ACK_NODE), source := BitVec.ofNat 16 s.addr }
        let s := { s with safe.remote := some (p, s.now, seq), safe.readSeq := (seq + 1) % 65536 }
        match s.route (s.f F.SAFE_ACK_ACK_NODE) with
        | .lane n => holding (s.sendMessage n KIND.COMMAND 1 (s.f F.SAFE_ACK_ACK_NODE) false (pktBytes 0x0900 q))
        | _ => holding s
    | _ => refuse s Stat.DENIED

/-- The answer to the read of ACK_NODE (R366): the reply's status, SEQ and payload. -/
def State.ackAnswer (s : State) (status seq : Nat) (payload : List Byte) : State :=
  match s.safe.remote with
  | some (p, _, q) =>
    if q ≠ seq ∨ status ≠ Stat.OK then s
    else
      let s := { s with safe.remote := none }
      let win := bit (numAt payload 8 1) 2
      let id := numAt payload 14 2
      if s.resetAllowed && win && id == numAt p.params 0 2 then
        let (s, st) := s.acceptReset
        s.release 0x0904 p st []
      else s.release 0x0904 p Stat.DENIED []
  | none => s

/-- ACK_READ_TIMEOUT (R366). -/
def onAckReadTimeout (s : State) : State :=
  match s.safe.remote with
  | some (p, t, _) => ({ s.reachNow (t + 1000000000) with safe.remote := none }).release 0x0904 p Stat.TIMEOUT []
  | none => s

/-! The record (R347, R348). -/

/-- The fields of a record in order: offset, and whether the field is bad. -/
def recordChecks (b : List Byte) : List (Nat × Bool) :=
  let u o n := numAt b o n
  let out l v h := decide (v < l) || decide (h < v)
  [(0, b.length != 306 || u 0 1 != 1), (1, u 1 1 != 1 && u 1 1 != 2), (2, decide (8192 ≤ u 2 2)), (5, u 5 1 == 0),
   (6, decide (u 6 2 < 10)), (8, out 100 (u 8 2) 400), (10, out 10 (u 10 2) 2000), (12, out 1 (u 12 1) 100), (14, u 14 2 != 0)] ++
  ((List.range 4).map (fun n =>
    let o := 16 + 4 * n
    [(o, decide (2 < u o 1)), (o + 1, decide (32 ≤ u (o + 1) 1) || (bit (u (o + 1) 1) 4 && bit (u (o + 1) 1) 3)),
     (o + 2, decide (4 < u (o + 2) 1)), (o + 3, u (o + 3) 1 != 0)])).flatten ++
  ((List.range 4).map (fun n =>
    let o := 32 + 4 * n
    let cell k := bit (u (33 + 4 * k) 1) 2
    [(o, decide (3 < u o 1)),
     (o + 1, decide (8 ≤ u (o + 1) 1) || (u o 1 == 2 && (bit (u (o + 1) 1) 0 ||
       (List.range n).any (fun k => u (32 + 4 * k) 1 == 2 && cell k == cell n)))),
     (o + 2, out 1 (u (o + 2) 2) 600)])).flatten ++
  ((List.range 16).map (fun k =>
    let o := 48 + 16 * k
    let slope := BitVec.ofNat 32 (u o 4)
    [(o, Fp.bad slope || !Fp.lt 0 slope), (o + 12, bit (u (o + 12) 1) 6), (o + 13, u (o + 13) 3 != 0)])).flatten ++
  [(304, u 304 2 != crc16 (b.take 304))]

/-- The record's fields are shown in the registers (register tables). -/
def State.showRecord (s : State) : State :=
  let b := s.safe.record
  if b = [] then s
  else
    let s := s.each (List.range 4) (fun s n =>
      let x := numAt b (17 + 4 * n) 1
      (((((s.setF (F.SAFE_IN_FUNC n) (numAt b (16 + 4 * n) 1)).setF (F.SAFE_IN_DISC n) (x % 8)).setF (F.SAFE_IN_MODE n) (x / 8)).setF
        (F.SAFE_IN_TEST n) (x / 16)).setF (F.SAFE_IN_FILT n) (numAt b (18 + 4 * n) 1)))
    let s := s.each (List.range 4) (fun s n =>
      let x := numAt b (33 + 4 * n) 1
      (((s.setF (F.SAFE_OUT_FUNC n) (numAt b (32 + 4 * n) 1)).setF (F.SAFE_OUT_CLASS n) x).setF (F.SAFE_OUT_BYP_AUTO n) (x / 2)).setF
        (F.SAFE_OUT_CELL n) (x / 4))
    let s := s.each stringNumbers (fun s k => s.setF (F.SAFE_SS_EN k) (b2n (s.ssEn k)))
    let s := (s.setF F.SAFE_ACK_ACK_MODE (numAt b 1 1)).setF F.SAFE_ACK_ACK_NODE (numAt b 2 2)
    (s.setF F.SAFE_REC_CRC (numAt b 304 2)).setF F.SAFE_STAT_REC_OK 1

/-! Opcodes (R370). -/

/-- SAFE_CFG_LOAD (R348): an input that stands in demand latches INPUT under the FUNC that the record gives it (R353). -/
def opSafeCfgLoad (p : Packet) (s : State) : Out :=
  let b := p.params
  if s.st ≠ ST.CONFIG ∨ !s.on F.SAFE_PANEL_SEAL_OK then refuse s Stat.DENIED
  else match (recordChecks b).find? (fun x => x.2) with
    | some (o, _) => refuse s Stat.BAD_PARAM (leBytes 2 o)
    | none =>
      if numAt b 304 2 ≠ s.f F.SAFE_PANEL_SW then refuse s Stat.DENIED
      else
        let s := { s with safe.record := b, safe.disc := [], safe.discOver := [] }
        let s := s.showRecord
        let s := (s.setF F.SAFE_STAT_REC_MATCH (b2n s.recMatches)).each outNumbers State.evalInput
        ok (s.each (outNumbers.filter (fun n => s.on (F.SAFE_IN_DEM n))) State.inputDemand)

def opSafeCfgRead (p : Packet) (s : State) : Out := if p.params ≠ [] then refuse s Stat.BAD_PARAM else ok s s.safe.record

/-- SAFE_DEMAND (R353, R358): the string mask may be left out outside a Meadow's level 1h, and then means every string. -/
def opSafeDemand (p : Packet) (s : State) : Out :=
  let l := numAt p.params 0 1
  if (p.params.length ≠ 1 ∧ p.params.length ≠ 3) ∨ (l ≠ 1 ∧ l ≠ 3) then refuse s Stat.BAD_PARAM
  else
    let mask := if p.params.length = 3 then numAt p.params 1 2 else 0xFFFF
    let lvl := if l = 1 ∧ s.isMeadow then 1 else 3
    let s := s.setCause CAUSE.COMMAND lvl
    ok (if s.level = 1 then (s.startSafeStop mask).obeyLevel else s)

/-- SAFE_BYPASS (R364). -/
def opSafeBypass (p : Packet) (s : State) : Out :=
  let c := numAt p.params 0 1
  if p.params.length ≠ 1 ∨ !s.cells.contains c then refuse s Stat.BAD_PARAM
  else match outNumbers.find? (fun n => s.outFunc n == 2 && s.f (F.SAFE_OUT_CELL n) == c && !s.locked n && (s.firing n).isNone) with
    | none => refuse s Stat.DENIED
    | some n => if s.cellForced c then accepted (s.startFire n (some p)) else refuse s Stat.DENIED

end Sys2Proof.Machine
end

