-- ==== Sys2Proof/Machine/TwinUnit.lean ====
section
/-!
DEFINITION. TwinUnit.lean: roles, Harebells, claims, reverts, swaps and mirroring of twin pairs (14_twins_and_failover.md).
-/
namespace Sys2Proof.Machine
open Sys2Proof

namespace ROLE
abbrev NONE : Nat := 0
abbrev ACTIVE : Nat := 1
abbrev READY : Nat := 2
abbrev SYNC : Nat := 3
end ROLE

/-- R375: epoch `a` is higher than epoch `b`. -/
def epochHigher (a b : Nat) : Bool :=
  let d := (a + 65536 - b) % 65536
  decide (1 ≤ d) && decide (d ≤ 32767)

/-- The node is member B of its pair: its address is odd (01 R23). -/
def State.memberB (s : State) : Bool := s.addr % 2 == 1
def State.epoch (s : State) : Nat := s.f F.TWIN_STAT_EPOCH

/-- The highest epoch seen takes in one more. -/
def State.seeEpoch (s : State) (e : Nat) : State :=
  if epochHigher e s.twin.epochSeen then { s with twin.epochSeen := e } else s

/-- A change of role (R371, TWIN_LAST). -/
def State.setRole (s : State) (r : Nat) : State :=
  let s := s.setF F.TWIN_STAT_ROLE r
  { (s.setReg A.TWIN_LAST_LO (BitVec.ofNat 32 s.time)).setReg A.TWIN_LAST_HI (BitVec.ofNat 32 (s.time / 2 ^ 32)) with
    twin.changedAt := s.now, twin.notReadyAt := s.now, twin.noStandbySaid := false, twin.retryAt := none }

/-- The member resynchronises (R384): it reports no image. -/
def State.goStandbySync (s : State) : State :=
  { (s.setRole ROLE.SYNC).setReg A.TWIN_IMG 0 with twin.lagSaid := false, twin.cfgSaid := false }

/-- The values of R384 that the partner's status block must equal. -/
def State.cfgMatches (s : State) : Bool :=
  s.twin.partner.progCrc == s.progCrc && s.twin.partner.safeCrc == s.f F.SAFE_REC_CRC && s.twin.partner.period == s.clk.tickLen

/-- STANDBY_READY and STANDBY_SYNC follow the values of R384. -/
def State.checkStandby (s : State) : State :=
  if !s.isTwin ∨ !s.twin.partner.seen then s
  else
    let good := s.cfgMatches
    let s := s.setF F.TWIN_STAT_CFG_MATCH (b2n good)
    if s.twinRole = ROLE.SYNC ∨ s.twinRole = ROLE.READY then
      if !good then
        let s := if s.twinRole = ROLE.READY then s.setRole ROLE.SYNC else s
        if s.twin.cfgSaid then s else { s with twin.cfgSaid := true }.raise FS.TWIN_CFG_MISMATCH
      else
        let s := { s with twin.cfgSaid := false }
        if s.twinRole = ROLE.SYNC ∧ s.f F.TWIN_IMG_IMG_SEQ ≠ 0 ∧ chanState s.st then
          let s := s.setRole ROLE.READY
          ({ s with twin.resync := [] }).each s.twin.resync (fun s p => s.finalReply 0x0A02 p Stat.OK [])
        else s
    else s

/-- First role of a member (R372). -/
def State.firstRole (s : State) : State :=
  if s.twin.partner.seen && s.twin.partner.active then s.goStandbySync
  else if s.on F.SYS_ID_SENIOR then { s with twin.claim := some 1 }
  else { s with twin.waitAt := some s.now }

/-- The status block of the cross-link frames (R373); a member in STANDBY_SYNC reports IMG_SEQ 0 (R384). -/
def State.statusBlock (s : State) : List Byte :=
  let parentOk := s.isUmbel && s.child.obeyed.isSome
  let img := if s.twinRole = ROLE.SYNC then 0 else s.f F.TWIN_IMG_IMG_SEQ
  [BitVec.ofNat 8 (s.twinRole + 4 * b2n s.twin.handoverOut + 8 * b2n parentOk), 0] ++ leBytes 2 s.twin.hb ++ leBytes 2 s.epoch ++
    leBytes 2 (s.f F.SAFE_REC_CRC) ++ leBytes 4 s.progCrc ++ leBytes 4 img ++ leBytes 4 (s.clk.tickLen % 2 ^ 15) ++
    List.replicate 12 0

/-- A swap fails (R386, R387): counted and raised; one of the schedule is tried again in 1 h. -/
def State.swapFails (s : State) (planned : Bool) : State :=
  let s := (s.bump F.TWIN_CNT_SWAP_FAIL).raise FS.TWIN_SWAP_FAIL
  if planned then { s with twin.retryAt := some (s.now + 3600000000000) } else s

/-- A swap ends: its reply, the ejector's outcome, a failure counted (R386, R389). -/
def State.endSwap (s : State) (good : Bool) : State :=
  match s.twin.swap with
  | none => s
  | some w =>
    let s := { s with twin.swap := none, twin.handoverOut := false }
    let s := s.setF F.TWIN_STAT_EJECT (if w.eject then (if good then 2 else 3) else 0)
    let s := s.when (!good) (fun s => s.swapFails w.planned)
    match w.cmd with
    | some p => s.finalReply 0x0A01 p (if good then Stat.OK else Stat.TIMEOUT) []
    | none => s

/-- What a status block shows of the partner (R373, R390). -/
def State.notePartner (s : State) (q : Partner) (new : Bool) : State :=
  let wasReady := s.twin.partner.role == ROLE.READY
  let s := { s with twin.partner := q, twin.hbFresh := s.twin.hbFresh || new, twin.handoverIn := s.twin.handoverIn || q.handover }
  let s := s.when (q.role == ROLE.READY) (fun s => { s with twin.noStandbySaid := false })
  let s := s.when (wasReady && q.role != ROLE.READY) (fun s => { s with twin.notReadyAt := s.now })
  (s.setF F.TWIN_STAT_PARTNER q.role).seeEpoch q.epoch

/-- A valid cross-link frame is taken (R373, R374, R380, R384, R386). -/
def State.takeStatus (s : State) (active : Bool) (slot : List Byte) : State :=
  let x := numAt slot 0 1
  let hb := numAt slot 2 2
  let new := !s.twin.partner.seen || s.twin.partner.hb != hb
  let q : Partner := { seen := true, active := active, epoch := numAt slot 4 2, role := x % 4, handover := bit x 2, parentOk := bit x 3, hb := hb
                       safeCrc := numAt slot 6 2, progCrc := numAt slot 8 4, img := numAt slot 12 4, period := numAt slot 16 4 % 2 ^ 15 }
  let s := s.notePartner q new
  let s := if s.twinRole = ROLE.ACTIVE ∧ active ∧ (epochHigher q.epoch s.epoch ∨ (q.epoch = s.epoch ∧ s.memberB)) then
      { s with twin.revert := true } else s
  let s := if s.twinRole = ROLE.ACTIVE ∧ active ∧ s.twin.swap.isSome then s.endSwap true else s
  let s := if s.twinRole = ROLE.NONE ∧ active ∧ !s.twin.ejected ∧ (s.twin.waitAt.isSome ∨ s.twin.claim.isSome) then
      ({ s with twin.waitAt := none, twin.claim := none }).goStandbySync else s
  s.checkStandby

/-- Units whose selected up frame of this tick can be read, with their fields (R376, R378). -/
def State.reporting (s : State) : List UpFrame :=
  s.units.filterMap (fun n => if (s.unit n).frame.length = 128 then some (parseUp (s.unit n).frame) else none)

/-- Harebell, claim and revert at the merge instant (R374, R378 to R380). -/
def State.twinMerge (s : State) : State :=
  if !s.isTwin then s
  else
    let us := s.reporting
    let n := us.length
    let sees (u : UpFrame) : Bool := if s.memberB then u.witA else u.witB
    let follows (u : UpFrame) : Bool := u.follow != s.memberB
    let k := (us.filter (fun u => !sees u)).length
    let fp := (us.filter follows).length
    let s := ((s.setF F.TWIN_WIT_REPORTING n).setF F.TWIN_WIT_NOSEE_P k).setF F.TWIN_WIT_FOLLOW_P fp
    let s := s.each us (fun s u => s.seeEpoch u.epoch)
    let miss := if s.twin.hbFresh then 0 else min 3 (s.f F.TWIN_STAT_HB_MISS + 1)
    let third := miss == 3 && s.f F.TWIN_STAT_HB_MISS == 2
    let s := { s.setF F.TWIN_STAT_HB_MISS miss with twin.hbFresh := false }
    let s := s.when third (fun s =>
      let s := s.raise FS.TWIN_HB_LOSS
      if s.twinRole = ROLE.ACTIVE ∧ !s.twin.noStandbySaid then { s with twin.noStandbySaid := true }.raise FS.TWIN_NO_STANDBY else s)
    let unseen := decide (1 ≤ n) && decide (n < 2 * k)
    let both := unseen && s.twin.noSee
    let away := decide (n < 2 * fp)
    let back := s.twinRole == ROLE.ACTIVE && away && s.twin.follow
    let s := { s with twin.noSee := unseen, twin.follow := away, twin.revert := s.twin.revert || back }
    if miss = 3 && both && s.twinRole == ROLE.READY then { s with twin.claim := some (s.twin.epochSeen + 1) }
    else if miss = 3 && both && s.twinRole != ROLE.ACTIVE && !s.twin.noActiveSaid then { s with twin.noActiveSaid := true }.raise FS.TWIN_NO_ACTIVE
    else if miss = 3 && both then s
    else { s with twin.noActiveSaid := false }

/-- The claimer's clock goes on at the frequency that it was syntonised to, a free value within the tolerance of REFCLK on both
Meadows, 2 × 20 ppm (02 R45, 18 R462). -/
def State.keepFrequency (s : State) : State :=
  if !s.isMeadow then s
  else
    let (i, s) := s.free
    { s with clk.freq := clampInt (-40000000) 40000000 (Config.steer i), clk.freqAt := s.now }

/-- The member becomes ACTIVE (R378, R382). -/
def State.becomeActive (s : State) (epoch : Nat) : State :=
  let s := s.when (decide (2 ≤ s.twinRole)) State.keepFrequency
  let s := (s.setRole ROLE.ACTIVE).setF F.TWIN_STAT_EPOCH epoch
  let s := ({ s with twin.claim := none, twin.waitAt := none, twin.handoverIn := false, twin.commits := s.f F.TWIN_IMG_IMG_SEQ
                     twin.images := [], twin.swap := none, twin.parentBad := 0 }).seeEpoch epoch
  (s.bump F.TWIN_CNT_CLAIMS).raise FS.TWIN_CLAIM

/-- TWIN_MIRROR_LAG (R383): a standby whose IMG_AGE has reached 16 raises it, once for an image. -/
def State.mirrorLag (s : State) : State :=
  if (s.twinRole = ROLE.READY ∨ s.twinRole = ROLE.SYNC) ∧ 16 ≤ s.f F.TWIN_AGE_IMG_AGE ∧ !s.twin.lagSaid then
    { s with twin.lagSaid := true }.raise FS.TWIN_MIRROR_LAG
  else s

/-- ROLE_CHANGE at a tick boundary (R374, R378, R380, R383, R386). -/
def State.roleChange (s : State) : State :=
  if !s.isTwin then s
  else
    let s := { s with twin.hb := (s.twin.hb + 1) % 65536 }
    let s := (s.setF F.TWIN_AGE_IMG_AGE (min 0xFFFF (s.f F.TWIN_AGE_IMG_AGE + 1))).mirrorLag
    let s := match s.twin.claim with
      | some e => s.becomeActive (e % 65536)
      | none =>
        if s.twin.handoverIn ∧ (s.twinRole = ROLE.READY) then s.becomeActive ((s.twin.epochSeen + 1) % 65536)
        else if s.twin.revert ∧ s.twinRole = ROLE.ACTIVE then
          let eject := s.f F.TWIN_STAT_EJECT == 2
          let s := ((s.bump F.TWIN_CNT_REVERTS).raise FS.TWIN_REVERT).endSwap true
          if eject ∨ s.f F.TWIN_STAT_EJECT = 2 then { s.setRole ROLE.NONE with twin.ejected := true } else s.goStandbySync
        else s
    { s with twin.revert := false, twin.handoverIn := false }

/-- R386: the ACTIVE member may start a swap: the partner stands ready on an image at most 1 tick old. -/
def State.swapAllowed (s : State) : Bool :=
  s.twinRole == ROLE.ACTIVE && s.twin.partner.role == ROLE.READY && s.twin.swap.isNone && s.twin.partner.img != 0 &&
    decide (s.twin.commits ≤ s.twin.partner.img + 1)

/-- A swap begins (R386): of a command, of the ejector or the schedule, or a handover. The next cross-link frame carries HANDOVER. -/
def State.startSwap (s : State) (cmd : Option Packet) (eject planned : Bool) : State :=
  { s.setF F.TWIN_STAT_EJECT 1 with twin.swap := some { cmd := cmd, tick := s.tickNo, eject := eject, planned := planned }, twin.handoverOut := true }

/-- UPLINK_HANDOVER at an Umbel's DOWN (R388): on the partner's status block of this tick. -/
def State.uplinkHandover (s : State) : State :=
  if !s.isUmbel ∨ s.twinRole ≠ ROLE.ACTIVE then s
  else if s.child.obeyed.isNone ∧ s.twin.partner.role = ROLE.READY ∧ s.twin.partner.parentOk ∧ s.f F.TWIN_STAT_HB_MISS = 0 then
    if s.twin.parentBad = 0 then { s with twin.parentBad := 1 }
    else { (if s.twin.swap.isNone then s.startSwap none false false else s) with twin.parentBad := 0 }
  else { s with twin.parentBad := 0 }

/-! Mirroring (R382, R383). -/

/-- Block slots of the loop engine. -/
def blockSlots : Nat := 1024

/-- The image of the committed loop state and the Yarrow pointers (07 R230, R382). -/
def State.image (s : State) : List ImgWord :=
  (List.range 0xF00).map (fun i => { space := 0, ofs := i, w := s.sig (0x100 + i) }) ++
  (List.range (2 * blockSlots)).map (fun i => { space := 1, ofs := i, w := s.word i }) ++
  (List.range 1024).map (fun i => { space := 2, ofs := i, w := s.reg (A.LOOP_COEF (i / 16) (i % 16)) }) ++
  (List.range 32).map (fun i => { space := 3, ofs := i, w := BitVec.ofNat 32 (s.f (F.LOOP_L_SCHED_REGION i)) }) ++
  [{ space := 3, ofs := 32, w := BitVec.ofNat 32 (s.f F.YAR_USTAT_PTR) }] ++
  stringNumbers.map (fun i => { space := 3, ofs := 33 + i, w := BitVec.ofNat 32 (s.f (F.YAR_S_PTR_PTR i)) }) ++
  stringNumbers.map (fun i => { space := 4, ofs := i, w := (((s.loop.ramps.find? (fun p => p.1 == i)).map (·.2)).getD 0) })

/-- Records of runs of consecutive words, at most 255 each (R382). -/
def packWords : List ImgWord → List (Nat × Nat × List Word)
  | [] => []
  | x :: rest =>
    match packWords rest with
    | (sp, o, ws) :: more => if sp = x.space ∧ o = x.ofs + 1 ∧ ws.length < 255 then (sp, x.ofs, x.w :: ws) :: more else (x.space, x.ofs, [x.w]) :: (sp, o, ws) :: more
    | [] => [(x.space, x.ofs, [x.w])]

def recordBytes (r : Nat × Nat × List Word) : List Byte :=
  [BitVec.ofNat 8 r.1, BitVec.ofNat 8 r.2.2.length] ++ leBytes 2 r.2.1 ++ (r.2.2.map (fun w => leBytes 4 w.toNat)).flatten

/-- A MIRROR segment still waits or runs on lane `n`. -/
def State.mirroring (s : State) (n : Nat) : Bool :=
  let own (t : TxItem) : Bool := t.inLane == 32 && numAt t.bytes 1 1 == KIND.MIRROR
  (s.lane n).txq.any own || (s.lane n).txNow.any own

/-- The ACTIVE member takes an image at a commit and sends it (R382, R383). -/
def State.sendMirror (s : State) : State :=
  if !s.isTwin ∨ s.twinRole ≠ ROLE.ACTIVE then s
  else
    let seq := if s.twin.commits = 0xFFFFFFFF then 1 else s.twin.commits + 1
    let img := s.image
    let s := { s with twin.commits := seq, twin.images := ((seq, img) :: s.twin.images).take 16 }
    match s.xLane with
    | none => s
    | some n =>
      if s.mirroring n then s
      else
        let base := s.twin.partner.img
        let old := if base = 0 then none else (s.twin.images.find? (fun x => x.1 == base)).map (·.2)
        let (b, ws) := match old with
          | some o => (base, ((img.zip o).filter (fun p => p.1.w != p.2.w)).map (·.1))
          | none => (0, img)
        let data := leBytes 4 seq ++ leBytes 4 b ++ ((packWords ws).map recordBytes).flatten
        s.sendMessage n KIND.MIRROR 0 0 false data

/-- Reads the records of a MIRROR message. -/
def unpackWords : Nat → List Byte → List ImgWord
  | 0, _ => []
  | fuel + 1, b =>
    if b.length < 4 then []
    else
      let c := numAt b 1 1
      let o := numAt b 2 2
      (List.range c).map (fun i => { space := numAt b 0 1, ofs := o + i, w := BitVec.ofNat 32 (numAt b (4 + 4 * i) 4) }) ++
        unpackWords fuel (b.drop (4 + 4 * c))

/-- Loads one word of an image; a loop whose region it holds runs on from that region (07 R230). -/
def State.loadWord (s : State) (x : ImgWord) : State :=
  match x.space with
  | 0 => if x.ofs < 0xF00 then s.setReg (sigAddr (0x100 + x.ofs)) x.w else s
  | 1 => { s with loop.words := Map.set 0 s.loop.words x.ofs x.w }
  | 2 => if x.ofs < 1024 then s.setReg (A.LOOP_COEF (x.ofs / 16) (x.ofs % 16)) x.w else s
  | 3 =>
    if x.ofs < 32 then
      let s := s.setLoopSt x.ofs { s.loopSt x.ofs with fresh := false }
      (s.setF (F.LOOP_L_SCHED_REGION x.ofs) x.w.toNat).setF (F.LOOP_L_SCHED_SET x.ofs) (lSet (s.loopSt x.ofs).desc (x.w.toNat % 16))
    else if x.ofs = 32 then s.setF F.YAR_USTAT_PTR x.w.toNat
    else if x.ofs < 49 then s.setF (F.YAR_S_PTR_PTR (x.ofs - 33)) x.w.toNat else s
  | 4 => { s with loop.ramps := (x.ofs, x.w) :: s.loop.ramps.filter (fun p => p.1 != x.ofs) }
  | _ => s

/-- A standby takes a complete MIRROR message on its base (R383). -/
def State.loadMirror (s : State) (data : List Byte) : State :=
  let base := numAt data 4 4
  if !s.isTwin ∨ (s.twinRole ≠ ROLE.READY ∧ s.twinRole ≠ ROLE.SYNC) ∨ data.length < 8 ∨ (base ≠ 0 ∧ base ≠ s.f F.TWIN_IMG_IMG_SEQ) then s
  else
    let s := s.each (unpackWords data.length (data.drop 8)) State.loadWord
    let s := (s.setReg A.TWIN_IMG (BitVec.ofNat 32 (numAt data 0 4))).setF F.TWIN_AGE_IMG_AGE 0
    { s with twin.lagSaid := false }.checkStandby

/-! Events. -/

/-- START_WAIT (R372). -/
def onStartWait (s : State) : State :=
  match s.twin.waitAt with
  | some t => { s.reachNow (t + s.f F.TWIN_CFG_START_WAIT * 100000000) with twin.waitAt := none, twin.claim := some 1 }
  | none => s

/-- TWIN_HB_LOSS (R374): the third consecutive miss, at a merge instant without a new Harebell. -/
def onTwinHbLoss (s : State) : State := if s.isTwin ∧ s.f F.TWIN_STAT_HB_MISS = 2 ∧ !s.twin.hbFresh then s.twinMerge else s

/-- SWAP_TIMEOUT (R386). -/
def onSwapTimeout (s : State) : State :=
  match s.twin.swap with
  | some w => if w.tick + 4 ≤ s.tickNo ∧ s.twinRole = ROLE.ACTIVE then s.endSwap false else s
  | none => s

/-- SWAP_DAYS (R387). -/
def onSwapDays (s : State) : State :=
  let days := s.f F.TWIN_CFG_SWAP_DAYS
  if days = 0 ∨ s.twinRole ≠ ROLE.ACTIVE ∨ s.twin.swap.isSome then s
  else
    let s := match s.twin.retryAt with
      | some t => s.reachNow t
      | none => s.reachNow (s.twin.changedAt + days * 86400000000000)
    if s.swapAllowed then { s.startSwap none false true with twin.retryAt := none }
    else s.swapFails true

/-- A swap that the ejector no longer asks for. -/
def Swap.noEject (w : Swap) : Swap := { w with eject := false }

/-- EJECT_N (R389): the debounced latch changes. Closed again before its swap has ended, the member goes to STANDBY_SYNC at its end. -/
def onEjectN (low : Bool) (s : State) : State :=
  let s := s.setF F.SYS_PANEL_EJECT (b2n low)
  if low then
    if s.swapAllowed then s.startSwap none true false
    else if s.isTwin ∧ (s.twinRole = ROLE.READY ∨ s.twinRole = ROLE.SYNC) then
      { (s.setRole ROLE.NONE).setF F.TWIN_STAT_EJECT 2 with twin.ejected := true }
    else
      { (s.setF F.TWIN_STAT_EJECT 3).swapFails false with node.ejectRefused := s.now + 5000000000 }
  else
    let s := s.when (s.f F.TWIN_STAT_EJECT == 2 || s.f F.TWIN_STAT_EJECT == 3) (fun s => s.setF F.TWIN_STAT_EJECT 0)
    let s := { s with twin.swap := s.twin.swap.map Swap.noEject }
    if s.twin.ejected then ({ s with twin.ejected := false }).goStandbySync else s

/-- TWIN_NO_STANDBY (R390). -/
def onTwinNoStandby (s : State) : State :=
  if s.twinRole ≠ ROLE.ACTIVE ∨ s.twin.partner.role = ROLE.READY ∨ s.twin.noStandbySaid then s
  else { s.reachNow (s.twin.notReadyAt + 1000000000) with twin.noStandbySaid := true }.raise FS.TWIN_NO_STANDBY

/-- TWIN_MIRROR_LAG (R383) as an event of its own. -/
def onTwinMirrorLag (s : State) : State := s.mirrorLag

/-! Opcodes (R391). -/

def opDuplexSwap (p : Packet) (s : State) : Out :=
  if p.params ≠ [] then refuse s Stat.BAD_PARAM
  else if s.swapAllowed then accepted (s.startSwap (some p) false false) else refuse s Stat.DENIED

def opTwinResync (p : Packet) (s : State) : Out :=
  if p.params ≠ [] then refuse s Stat.BAD_PARAM
  else if s.twinRole = ROLE.ACTIVE then refuse s Stat.DENIED
  else
    let s := s.when s.twin.ejected (fun s => s.setF F.TWIN_STAT_EJECT 0)
    let s := { s with twin.ejected := false, twin.waitAt := none, twin.claim := none }.goStandbySync
    accepted { s with twin.resync := s.twin.resync ++ [p] }

end Sys2Proof.Machine
end

