-- ==== Sys2Proof/Machine/Flags.lean ====
section
/-!
DEFINITION. Flags.lean: the fault hub (12_fault_hub.md): latches, the first-fault record, reaction timer, FAULT_OUT_N,
EVENT segments; and what ends every command: settling the raised sources, safety outputs, leaving BLOCKED.
-/
namespace Sys2Proof.Machine
open Sys2Proof

/-! Reports to the Meadow and its subscribers (R341, 15 R407). -/

/-- Delivers a segment of `kind` to a SOURCE as R112 delivers a reply; `mac` is the Ethernet address of its port, or its core.
A `bad` one ends with /V/ on its lane. -/
def State.deliverTo (s : State) (kind : Nat) (sub : Subscriber) (payload : List Byte) (bad : Bool := false) : State :=
  let dest := sub.source.toNat % 8192
  if dest = s.addr then
    match sub.source.toNat / 8192 with
    | 0 => s.toCore sub.mac payload
    | 3 => ({ s with cmd.qspiReply := payload }).setF F.CMD_QSPI_RPL_READY 1
    | 1 => s.sendHost 1 sub.mac (segPrio kind 0) (message kind 0 dest false payload) bad
    | 2 => s.sendHost 2 sub.mac (segPrio kind 0) (message kind 0 dest false payload) bad
    | _ => s
  else match s.route dest with
    | .lane n => s.sendMessage n kind 0 dest false payload bad
    | _ => s

/-- A dropped operand or segment (R339 to R341). -/
def State.eventDrop (s : State) : State := (s.bump F.FHUB_STAT_EVT_DROP).raise FS.FHUB_EVENT_DROP

/-- Lane on which a node passes EVENT and LIFE segments on: the uplink, or a standby Meadow's cross-link (R341). -/
def State.reportLane (s : State) : Option Nat := if s.isMeadow then s.xLane else s.upLane

/-- Subscribers of a kind of report. -/
def State.subscribers (s : State) (kind : Nat) : List Subscriber := if kind = KIND.EVENT then s.hub.subs else s.life.subs

/-- Sends or delivers a report: the active Meadow to its subscribers, any other node upwards (R341). -/
def State.report (s : State) (kind : Nat) (payload : List Byte) : State :=
  if s.activeMeadow then s.each (s.subscribers kind) (fun s u => s.deliverTo kind u payload)
  else match s.reportLane with
    | some n => s.sendSeg n kind 0 0 payload
    | none => s.eventDrop

/-- Payload of an EVENT segment (R340). -/
def State.eventPayload (s : State) (src flags rec mcnt : Nat) : List Byte :=
  leBytes 2 s.addr ++ [BitVec.ofNat 8 src, BitVec.ofNat 8 flags] ++ leBytes 2 rec ++ leBytes 2 mcnt ++ leBytes 8 s.time

/-- A report of this node goes out: the active Meadow has a subscriber for it, another node its uplink (R341). -/
def State.canReport (s : State) (kind : Nat) : Bool := if s.activeMeadow then s.subscribers kind != [] else s.reportLane.isSome

/-- Sends an EVENT segment, at most 64 in any 1 s (R340); one that is discarded is not sent. -/
def State.event (s : State) (src flags rec mcnt : Nat) : State :=
  let win := s.hub.eventAt.filter (fun t => decide (s.now < t + 1000000000))
  if 64 ≤ win.length then s.eventDrop
  else ({ s with hub.eventAt := win ++ (if s.canReport KIND.EVENT then [s.now] else []) }).report KIND.EVENT (s.eventPayload src flags rec mcnt)

/-! The record. -/

/-- Bit `n` of a set held in four registers. -/
def setBitOf (s : State) (base : Nat → Nat) (n : Nat) : Bool := bit (s.reg (base (n / 32))).toNat (n % 32)
def State.addToSet (s : State) (base : Nat → Nat) (n : Nat) : State :=
  s.setReg (base (n / 32)) (s.reg (base (n / 32)) ||| BitVec.ofNat 32 (2 ^ (n % 32)))
def State.clearSet (s : State) (base : Nat → Nat) : State := s.each (List.range 4) (fun s w => s.setReg (base w) 0)
/-- Sources in a set. -/
def State.setMembers (s : State) (base : Nat → Nat) : List Nat := (List.range 128).filter (setBitOf s base)

def sev (n : Nat) : Nat := (sourceSeverity n).getD 0

/-- The record is open (R330). -/
def State.recOpen (s : State) : Bool := s.on F.FHUB_REC_OPEN
/-- Standing severity (R338). -/
def State.standing (s : State) : Nat := if s.recOpen then s.f F.FHUB_REC_SEV else 0
/-- RECORD and MERGE_CNT of an EVENT payload. -/
def State.recordFields (s : State) : Nat × Nat :=
  if s.recOpen then (s.f F.FHUB_REC_ID, s.f F.FHUB_REC_MERGE_MERGE_CNT) else (0xFFFF, 0)

/-- The record reaches S2 or S3: FAULT_OUT_N with its minimum hold, the reaction timer, sequencer conditions 15h and 16h
(R331, R332, R336, R341). -/
def State.reachSev (s : State) (v : Nat) : State :=
  let s := s.setF F.FHUB_REC_SEV v
  if v < 2 then s
  else
    let s := { s.setF F.FHUB_REC_OUT_HOLD 1 with
      hub.outMin := if s.on F.FHUB_REC_OUT_HOLD then s.hub.outMin else s.now + s.f F.FHUB_CTRL_OUT_MIN * 1000
      recorder.pulses := s.recorder.pulses ++ [(0x15, s.clk.nowPs)] ++ (if v = 3 then [(0x16, s.clk.nowPs)] else []) }
    { s with hub.react := if v = 2 then some (s.time + s.f F.FHUB_CTRL_REACT * 1000) else none }

/-- Opens a record on the S1 to S3 sources of a clk (R330). -/
def State.openRecord (s : State) (srcs : List Nat) : State :=
  let top := (srcs.map sev).foldl max 0
  let first := ((srcs.filter (fun n => sev n == top)).min?).getD 0
  let s := s.setReg A.FHUB_REC (BitVec.ofNat 32 ((s.f F.FHUB_REC_ID + 1) % 65536 * 65536 + first * 256 + s.f F.FHUB_REC_OUT_HOLD * 16 + 1))
  let s := (s.setReg A.FHUB_REC_TIME_LO (BitVec.ofNat 32 s.time)).setReg A.FHUB_REC_TIME_HI (BitVec.ofNat 32 (s.time / 2 ^ 32))
  let s := ((s.clearSet A.FHUB_FIRST_SET).clearSet A.FHUB_MERGED).setReg A.FHUB_REC_MERGE 0
  (s.each srcs (fun s n => s.addToSet A.FHUB_FIRST_SET n)).reachSev top

/-- Merges a raise into the open record (R331). -/
def State.mergeRaise (s : State) (n : Nat) : State :=
  let s := (s.addToSet A.FHUB_MERGED n).bump F.FHUB_REC_MERGE_MERGE_CNT
  if s.f F.FHUB_REC_SEV < sev n then s.reachSev (sev n) else s

/-- The S3 action of a source (R327, R328): a 2h raised before the node has entered CONFIG, which it does once its image is accepted, waits; a Floret's own action of 1h or 2h starts BYP_DELAY (13 R364). TWIN_NO_ACTIVE
acts as 1h (14 R379). -/
def State.s3Action (s : State) (act : Nat) : State :=
  let s := s.setF F.FHUB_REC_S3_ACTED 1
  let s := if s.isFloret ∧ (act = 1 ∨ act = 2) ∧ s.safe.bypAt.isNone then
    { s with safe.bypAt := some (s.now + numAt s.safe.record 13 1 * 1000000) } else s
  if act = 2 then
    let s := s.setCause CAUSE.FHUB_LOCKOUT 3
    if s.on F.SYS_STATE_IMG_OK then s.go ST.LOCKOUT else { s with node.lockoutDue := true }
  else if act = 1 then s.setCause CAUSE.FHUB_BLOCK 2
  else s

/-- S3ACT of a source, with what the twin chapter gives TWIN_NO_ACTIVE. -/
def s3ActOf (n : Nat) : Nat := if n = FS.TWIN_NO_ACTIVE then 1 else sourceS3Act n

/-- Reports one raise: its operand and its EVENT segment (R339, R340). -/
def State.reportRaise (s : State) (opened fresh : Bool) (n : Nat) : State :=
  let first := opened && decide (1 ≤ sev n)
  let merged := !opened && decide (1 ≤ sev n) && s.recOpen
  let s := if s.on (F.FHUB_SRC_ROUTE n) then
      let v := n + sev n * 256 + b2n first * 1024 + b2n merged * 2048 + b2n (sev n == 3) * 4096
      let f := s.f (F.FHUB_SRC_FLOW n)
      if s.on (F.DISP_F_CFG_LIVE f) then (s.postFlowIndex f (BitVec.ofNat 32 v)).1 else s.eventDrop
    else s
  if fresh && s.on (F.FHUB_SRC_EVT_UP n) then
    let (r, m) := s.recordFields
    s.event n (sev n + b2n first * 4 + b2n merged * 8) r m
  else s

/-- Evaluates the sources raised in one clk (R329 to R331, R333). -/
def State.evalRaises (s : State) : State :=
  let srcs := ((List.range 128).filter (fun n => s.hub.raised.contains n && (sourceSeverity n).isSome))
  let s := { s with hub.raised := [] }
  let fresh := srcs.filter (fun n => !setBitOf s A.FHUB_LATCH n)
  let s := s.each srcs (fun s n => (s.addToSet A.FHUB_LATCH n).bump (F.FHUB_SRC_COUNT n))
  let grave := srcs.filter (fun n => decide (1 ≤ sev n))
  let opened := !s.recOpen && grave != []
  let s := if opened then s.openRecord grave else s.each grave State.mergeRaise
  let s := s.each srcs (fun s n => s.reportRaise opened (fresh.contains n) n)
  s.each (grave.filter (fun n => sev n == 3)) (fun s n => s.s3Action (s3ActOf n))

/-- Settles raised sources, each round one clk; a source that its own report raises again without end stays raised. -/
def State.settle : Nat → State → State
  | 0, s => s
  | n + 1, s => if s.hub.raised = [] then s else State.settle n s.evalRaises

/-- Closes the open record into the history of 8 (R334, R335). -/
def State.closeRecord (s : State) (warm : Bool) : State :=
  let r : HubRec := {
    id := s.f F.FHUB_REC_ID, source := s.f F.FHUB_REC_SOURCE
    flags := s.f F.FHUB_REC_SEV + s.f F.FHUB_REC_ESCALATED * 4 + b2n warm * 8
    merges := s.f F.FHUB_REC_MERGE_MERGE_CNT
    opened := (s.reg A.FHUB_REC_TIME_LO).toNat + (s.reg A.FHUB_REC_TIME_HI).toNat * 2 ^ 32, closed := s.time
    firstSet := s.setMembers A.FHUB_FIRST_SET, merged := s.setMembers A.FHUB_MERGED }
  let s := { s with hub.history := (r :: s.hub.history).take 8, hub.react := none }
  s.setF F.FHUB_REC_OPEN 0

/-- The hold on FAULT_OUT_N ends when no record of S2 or S3 is open and OUT_MIN has passed (R336). -/
def State.releaseOut (s : State) : State :=
  if s.standing < 2 ∧ s.hub.outMin ≤ s.now then s.setF F.FHUB_REC_OUT_HOLD 0 else s

/-- Resolves the open record (R334). -/
def State.resolveRecord (s : State) : State :=
  let id := s.f F.FHUB_REC_ID
  let m := s.f F.FHUB_REC_MERGE_MERGE_CNT
  let src := s.f F.FHUB_REC_SOURCE
  let v := s.f F.FHUB_REC_SEV
  ((s.closeRecord false).event src (v + 32) id m).releaseOut

/-- A resolve by software: status of FAULT_RESOLVE (R334, R344). -/
def State.softResolve (s : State) (id : Nat) : State × Nat :=
  if !s.recOpen ∨ s.f F.FHUB_REC_ID ≠ id then (s, Stat.BAD_PARAM)
  else if s.f F.FHUB_REC_SEV = 3 ∧ (s.st = ST.BLOCKED ∨ s.st = ST.LOCKOUT) then (s, Stat.DENIED)
  else (s.resolveRecord, Stat.OK)

/-- Level driven on FAULT_OUT_N: true when asserted (R336). -/
def State.faultOut (s : State) : Bool :=
  s.clk.por || decide (s.st ≤ ST.SELFTEST) || s.on F.FHUB_REC_OUT_HOLD || s.on F.FHUB_CTRL_SW_ASSERT || s.on F.SWU_FLT_CLK_LOST

/-- Level of the FAULT_OUT_N ball, true high (R337). -/
def State.faultBall (s : State) : Bool := s.hub.ball.getD (!s.faultOut)

/-- The node leaves BLOCKED once no cause of level 2 or 3 stands and BLK_HOLD is clear; the hub resolves its S3 record (17 R434). -/
def State.leaveBlocked (s : State) : State :=
  if s.st = ST.BLOCKED ∧ s.level < 2 ∧ s.f F.SYS_STATE_BLK_HOLD = 0 then
    let s := if s.recOpen ∧ s.f F.FHUB_REC_SEV = 3 then s.resolveRecord else s
    if s.credit then s.go ST.READY else s.goWaitCredit
  else s

/-- What follows a command in the same and the next clks: raised sources, safety outputs, leaving BLOCKED. -/
def State.finish (s : State) : State :=
  ((State.settle 16 s).driveOutputs.leaveBlocked).settle 16

/-! Events. -/

/-- ESCALATION (R332): the reaction timer expires with the record unresolved. -/
def onEscalation (s : State) : State :=
  match s.hub.react with
  | none => s
  | some t =>
    let s := { s.reachTime (t * 1000) with hub.react := none }
    let s := ((s.setF F.FHUB_REC_ESCALATED 1).bump F.FHUB_STAT_ESCALATIONS).reachSev 3
    let (r, m) := s.recordFields
    (s.event (s.f F.FHUB_REC_SOURCE) (3 + 16) r m).s3Action 1

/-- OUT_MIN (R336): the minimum hold ends. -/
def onOutMin (s : State) : State := (s.reachNow s.hub.outMin).releaseOut

/-- FHUB_OUT_MISMATCH (R337): the ball has stood at `level` for 1 µs against the level driven. -/
def onFhubOutMismatch (level : Bool) (s : State) : State :=
  if level = !s.faultOut then s
  else ({ s with hub.ball := some level }.setF F.FHUB_STAT_OUT_MISMATCH 1).raise FS.FHUB_OUT_MISMATCH

/-- OUT_MISMATCH_CLEAR (R337): ball and driven level have agreed for 1 µs. -/
def onOutMismatchClear (s : State) : State := { s with hub.ball := none }.setF F.FHUB_STAT_OUT_MISMATCH 0

/-- FHUB_RESOLVE (R334): a write from a core or the safety pair. -/
def onFhubResolve (id : BitVec 16) (s : State) : State := (s.softResolve id.toNat).1

/-! Opcodes (R344). -/

/-- The bytes that FAULT_READ answers. -/
def State.faultBytes (s : State) (mergeWord stat : Word) : List Byte :=
  s.reg4 A.FHUB_REC ++ s.reg4 A.FHUB_REC_TIME_LO ++ s.reg4 A.FHUB_REC_TIME_HI ++ leBytes 4 mergeWord.toNat ++
    ((List.range 4).map (fun w => s.reg4 (A.FHUB_FIRST_SET w))).flatten ++
    ((List.range 4).map (fun w => s.reg4 (A.FHUB_MERGED w))).flatten ++ leBytes 4 stat.toNat

/-- FHUB_REC_MERGE as it reads: the reaction time left in µs above MERGE_CNT. -/
def State.mergeWord (s : State) : Word :=
  let left := match s.hub.react with
    | some t => (t - s.time + 999) / 1000
    | none => 0
  BitVec.ofNat 32 (left * 65536 + s.f F.FHUB_REC_MERGE_MERGE_CNT)

/-- FHUB_STAT as it reads. -/
def State.hubStat (s : State) : Word :=
  BitVec.ofNat 32 (s.f F.FHUB_STAT_ESCALATIONS * 2 ^ 24 + s.f F.FHUB_STAT_EVT_DROP * 2 ^ 16 + s.f F.FHUB_STAT_OUT_MISMATCH * 8 +
    b2n s.faultBall * 4 + b2n (!s.faultOut) * 2)

/-- FAULT_READ (R344). -/
def opFaultRead (p : Packet) (s : State) : Out :=
  if p.params ≠ [] then refuse s Stat.BAD_PARAM else ok s (s.faultBytes s.mergeWord s.hubStat)

/-- FAULT_RESOLVE. -/
def opFaultResolve (p : Packet) (s : State) : Out :=
  if p.params.length ≠ 2 then refuse s Stat.BAD_PARAM
  else
    let (s, st) := s.softResolve (numAt p.params 0 2)
    { s := s, status := st }

/-- FAULT_LATCH_CLEAR. -/
def opFaultLatchClear (p : Packet) (s : State) : Out :=
  if p.params.length ≠ 16 then refuse s Stat.BAD_PARAM
  else ok (s.each (List.range 4) (fun s w =>
    s.setReg (A.FHUB_LATCH w) (s.reg (A.FHUB_LATCH w) &&& ~~~(BitVec.ofNat 32 (numAt p.params (4 * w) 4)))))

/-- FAULT_SRC_SET. -/
def opFaultSrcSet (p : Packet) (s : State) : Out :=
  let n := numAt p.params 0 1
  let v := numAt p.params 1 2
  if p.params.length ≠ 3 ∨ (sourceSeverity n).isNone ∨ bits v 15 10 ≠ 0 ∨ bits v 7 6 ≠ 0 then refuse s Stat.BAD_PARAM
  else ok (((s.setF (F.FHUB_SRC_EVT_UP n) (bits v 9 9)).setF (F.FHUB_SRC_ROUTE n) (bits v 8 8)).setF (F.FHUB_SRC_FLOW n) (bits v 5 0))

/-- FAULT_RAISE. -/
def opFaultRaise (p : Packet) (s : State) : Out :=
  let n := numAt p.params 0 1
  if p.params.length ≠ 1 ∨ (n ≠ 2 ∧ n ≠ 3) then refuse s Stat.BAD_PARAM
  else if n = 3 ∧ yarState s.st then refuse s Stat.DENIED
  else ok (s.raise n)

/-- A set of sources as 16 bytes. -/
def maskBytes (l : List Nat) : List Byte := leBytes 16 (ofBits l)

/-- A closed record as FAULT_HISTORY answers it. -/
def historyBytes (r : HubRec) : List Byte :=
  leBytes 2 r.id ++ [BitVec.ofNat 8 r.source, BitVec.ofNat 8 r.flags] ++ leBytes 2 r.merges ++ [0, 0] ++
    leBytes 8 r.opened ++ leBytes 8 r.closed ++ maskBytes r.firstSet ++ maskBytes r.merged

/-- FAULT_HISTORY. -/
def opFaultHistory (p : Packet) (s : State) : Out :=
  if p.params ≠ [] then refuse s Stat.BAD_PARAM
  else ok s ((s.hub.history.map historyBytes).flatten ++ List.replicate (56 * (8 - s.hub.history.length)) 0)

/-- FAULT_SUBSCRIBE and LIFE_SUBSCRIBE: the list of subscribers after a request, or the status that refuses it (R344, 15 R410). -/
def subscribe (subs : List Subscriber) (p : Packet) (mac : Nat) : List Subscriber × Nat :=
  let rest := subs.filter (fun u => u.source != p.source)
  if p.params = [0] then (rest, Stat.OK)
  else if p.params = [1] then
    if 2 ≤ rest.length then (subs, Stat.NO_RESOURCE) else (rest ++ [{ source := p.source, mac := mac }], Stat.OK)
  else (subs, Stat.BAD_PARAM)

def opFaultSubscribe (p : Packet) (s : State) : Out :=
  let (subs, st) := subscribe s.hub.subs p (s.srcMac (srcKey p))
  { s := { s with hub.subs := subs }, status := st }

end Sys2Proof.Machine
end

