-- ==== Sys2Proof/Machine/Lifetime.lean ====
section
/-!
DEFINITION. Lifetime.lean: the lifetime unit: margin plan, capacitance, ESR, semiconductors, silicon and supply, lanes,
reports (15_lifetime_and_margins.md).
-/
namespace Sys2Proof.Machine
open Sys2Proof

def State.cellLife (s : State) (c : Nat) : CellLife := Map.get {} s.life.cells c
def State.updCellLife (s : State) (c : Nat) (g : CellLife → CellLife) : State :=
  { s with life.cells := Map.set {} s.life.cells c (g (s.cellLife c)) }
def State.switchLife (s : State) (n : Nat) : SwitchLife := Map.get {} s.life.switches n
def State.updSwitchLife (s : State) (n : Nat) (g : SwitchLife → SwitchLife) : State :=
  { s with life.switches := Map.set {} s.life.switches n (g (s.switchLife n)) }

/-- Capacitor and semiconductor functions run: a Floret of capacity 1 or 2 in RUN or HOLD (R392). -/
def State.agingRuns (s : State) : Bool := s.isFloret && s.cells != [] && yarState s.st
/-- Silicon and lane functions run: from CONFIG on (R392). -/
def State.siliconRuns (s : State) : Bool := decide (ST.CONFIG ≤ s.st)

/-- The integer a real value `n / d` becomes where the spec names no rounding: one of its two neighbours, free. -/
def State.roundOpen (s : State) (n : Int) (d : Nat) : Int × State :=
  if n % (d : Int) = 0 then (n / d, s)
  else
    let (k, s) := s.free
    (n / d + (Config.openWord k).toNat % 2, s)

/-- A value that may fall outside a field: itself inside `lo` to `hi`, else a free value of the field. -/
def State.fit (s : State) (lo hi v : Int) : Int × State :=
  if lo ≤ v ∧ v ≤ hi then (v, s)
  else
    let (k, s) := s.free
    (lo + ((Config.openWord k).toNat : Int) % (hi - lo + 1), s)

/-- Nearest integer, halves up. -/
def nearest (n : Int) (d : Nat) : Int := (2 * n + d) / (2 * d)

/-! Capacitance and ESR (R397 to R399). -/

/-- Pairs of a cell. -/
def cellPairs (kind c : Nat) : List Nat := if kind = 3 then [c] else if kind = 2 then [0, 1] else [0]

/-- Cell state seen on its pairs: some true inserted, some false bypassed, none at the safe level (06 R177). -/
def State.cellShown (s : State) (c : Nat) : Option Bool :=
  let kind := s.f F.CMD_NODE_KIND
  if kind = 2 then
    match (s.pair 0).logical, (s.pair 1).logical with
    | some a, some b => some (a != b)
    | _, _ => none
  else (s.pair (cellPair kind c)).logical

/-- Polarity of a cell inserted and not trimmed. -/
def State.cellPol (s : State) (c : Nat) : Option Bool :=
  if s.cellShown c = some true ∧ s.f (F.YAR_CELL_TRIM c) = 0 then some (s.on (F.YAR_CELL_NEG c)) else none

/-- A voltage of the cell's ESR sequence: it ends a sample that waits for it, or stands as the next V_before (R399). -/
def State.esrResult (s : State) (c instant : Nat) (code : Int) (good : Bool) : State :=
  let x := s.cellLife c
  let s := s.updCellLife c (fun x => { x with esrLast := some (instant, code, good) })
  match x.esrEdge with
  | none => s
  | some e =>
    if instant < e.instant + s.f (F.SWU_P_DT_DT (cellPair (s.f F.CMD_NODE_KIND) c)) + 400 then s
    else
      let s := s.updCellLife c (fun x => { x with esrEdge := none })
      if !good ∨ e.instant + 2000 < instant ∨ 256 ≤ x.esrN then s
      else
        let sg : Int := if e.ins then 1 else -1
        let pol : Int := if e.neg then -1 else 1
        let t := if e.ins then instant - e.instant else e.instant - e.beforeAt
        let cap := s.f (F.LIFE_C_CEST_CEST c) * s.f (F.LIFE_C_CNOM_CNOM c)
        let (num, den, s) : Int × Nat × State :=
          if cap = 0 ∨ e.iarm = 0 then
            let (k, s) := s.free
            (((Config.openWord k).toNat : Int), 1, s)
          else
            let a : Int := sg * pol * (code - e.before) * (s.f F.YAR_VNOM_VGAIN : Nat) * 100000000 * (if e.iarm < 0 then -1 else 1)
            let b := 655360 * e.iarm.natAbs
            (a * cap - ((t * 100 * 16384 * b : Nat) : Int), b * cap, s)
        let y := s.cellLife c
        let num' := y.esrNum * den + num * y.esrDen
        let den' := y.esrDen * den
        let g := Nat.gcd num'.natAbs den'
        let s := s.updCellLife c (fun y => { y with esrNum := num' / (g : Int), esrDen := den' / g, esrN := y.esrN + 1 })
        s.setF (F.LIFE_C_ESR_SAMPLES c) (s.f (F.LIFE_C_ESR_SAMPLES c) + 1)

/-- On-state reading of switch `n` (R400). -/
def State.onStateReading (s : State) (n : Nat) (instant : Nat) (code : Int) (good : Bool) : State :=
  let i := signed 24 s.yar.iarm
  let ref := s.f (F.LIFE_W_IREF_IREF n) * 1000
  let band := s.f (F.LIFE_W_IREF_IBAND n) * 1000
  let q := s.f (F.LIFE_W_CFG_TEMP_SEQ n)
  let e := s.f (F.LIFE_W_CFG_TEMP_ENTRY n)
  let temp := s.fi (F.MEAS_RES_CODE q e)
  if s.on (F.LIFE_W_CFG_EN n) && good && decide (0 ≤ code) && (s.pair (n / 2)).outOn (n % 2 == 0) (s.pclkAt instant) &&
      (if s.on (F.LIFE_W_CFG_SIGN n) then decide (i < 0) else decide (0 < i)) && decide (ref ≤ i.natAbs + band) && decide (i.natAbs ≤ ref + band) &&
      s.resultFresh q e && decide ((temp - s.fi (F.LIFE_W_TREF_TREF n)).natAbs ≤ s.f (F.LIFE_W_TREF_TBAND n)) &&
      decide ((s.switchLife n).n < 4096) then
    let s := s.updSwitchLife n (fun x => { x with sum := x.sum + code.toNat, n := x.n + 1 })
    s.setF (F.LIFE_W_DRIFT_READINGS n) (s.f (F.LIFE_W_DRIFT_READINGS n) + 1)
  else s

/-- What a result means to the lifetime unit (R397, R399, R400): the entry written, elapsed ns of its sampling instant. -/
def State.lifeResult (s : State) (q e instant : Nat) : State :=
  if !s.agingRuns then s
  else
    let code := s.fi (F.MEAS_RES_CODE q e)
    let good := !s.on (F.MEAS_RES_OVR q e) && !s.on (F.MEAS_RES_SETTLE q e)
    let kind := s.f F.CMD_NODE_KIND
    let s := s.each (s.cells.filter (fun c => s.cellResult c == (q, e))) (fun s c =>
      let ch := ((cellPairs kind c).map (fun p => (s.pair p).changed)).foldl max 0
      let k : KeySample := { tick := s.f (F.MEAS_RES_TICK q e), code := code, good := good, instant := instant, pol := s.cellPol c, changed := ch }
      s.updCellLife c (fun x => { x with key := some k }))
    let s := s.each (s.cells.filter (fun c => s.on F.LIFE_CTRL_ESR_EN && s.f (F.LIFE_C_EST_ESR_SEQ c) == q &&
      s.f (F.LIFE_C_EST_ESR_ENTRY c) == e)) (fun s c => s.esrResult c instant code good)
    s.each ((List.range 4).filter (fun n => s.f (F.LIFE_W_CFG_SENSE_SEQ n) == q && s.f (F.LIFE_W_CFG_SENSE_ENTRY n) == e))
      (fun s n => s.onStateReading n instant code good)

/-- Changes of cells between bypass and insertion since state `old` start ESR samples (R399). -/
def State.noteEdges (old s : State) : State :=
  if !s.agingRuns ∨ !s.on F.LIFE_CTRL_ESR_EN then s
  else s.each s.cells (fun s c =>
    match old.cellShown c, s.cellShown c, (s.cellLife c).esrLast, s.yar.cur with
    | some a, some b, some (at0, v, good), some d =>
      let i := signed 24 d.iarm
      if a ≠ b ∧ good ∧ s.now ≤ at0 + 2000 ∧ s.f (F.LIFE_C_EST_IMIN_ESR c) * 10000 ≤ i.natAbs then
        let g : EsrEdge := { instant := s.now, ins := b, neg := d.neg, iarm := i, before := v, beforeAt := at0 }
        s.updCellLife c (fun x => { x with esrEdge := some g })
      else s
    | _, _, _, _ => s)

/-- The interval of two ticks is valid (R397). -/
def intervalOk (a b : KeySample) : Bool :=
  a.good && b.good && (a.tick + 1) % 256 == b.tick && a.pol.isSome && a.pol == b.pol && decide (b.changed < a.instant)

/-- One cell at the end of a tick: its valid interval enters the window (R397, R398). -/
def State.capInterval (s : State) (c : Nat) : State :=
  let x := s.cellLife c
  match x.key, s.life.frame with
  | some b, some i1 =>
    let s := s.updCellLife c (fun x => { x with key := none, prev := some (b, i1) })
    match x.prev with
    | some (a, i0) =>
      if intervalOk a b && s.on F.LIFE_CTRL_CAP_EN && s.f (F.LIFE_C_CNOM_CNOM c) != 0 &&
          decide (x.n < 2 ^ s.f (F.LIFE_C_EST_EST_N c)) then
        let pol : Int := if a.pol = some true then -1 else 1
        let q : Int := pol * (i0 + i1) * s.clk.tickLen
        let dv : Int := (b.code - a.code) * (s.f F.YAR_VNOM_VGAIN : Nat) * 10000000 - pol * (s.f (F.LIFE_C_ESR_ESR c) : Nat) * (i1 - i0) * 65536
        s.updCellLife c (fun x => { x with sqv := x.sqv + q * dv, sqq := x.sqq + (q * q).natAbs, n := x.n + 1 })
      else s
    | none => s
  | _, _ => s.updCellLife c (fun x => { x with key := none, prev := none })

/-- CAP_WINDOW_END (R398). Q is held in 10^-12 C, the voltage in 10^-8/65,536 V. -/
def onCapWindowEnd (cell : Fin 2) (s : State) : State :=
  let c := cell.val
  let x := s.cellLife c
  if !s.cells.contains c ∨ x.n < 2 ^ s.f (F.LIFE_C_EST_EST_N c) then s
  else
    let s := s.updCellLife c (fun x => { x with sqv := 0, sqq := 0, n := 0 })
    let cnom := s.f (F.LIFE_C_CNOM_CNOM c)
    if x.sqv ≤ 0 ∨ cnom = 0 then { s with life.dirty := true }
    else
      let old := s.f (F.LIFE_C_CEST_CEST c)
      let new := (clampInt 1 65535 (nearest (x.sqq * 65536 * 100 * 16384 : Nat) (x.sqv.natAbs * cnom))).toNat
      let s := s.setF (F.LIFE_C_CEST_CEST c) new
      let s := s.setF (F.LIFE_C_CEST_WINDOWS c) (s.f (F.LIFE_C_CEST_WINDOWS c) + 1)
      let w := s.f (F.LIFE_C_CLIM_CWARN c)
      { s with life.dirty := true }.raiseIf (decide (new < w) && (old == 0 || decide (w ≤ old))) FS.LIFE_CAP

/-- ESR_MEAN (R399). -/
def onEsrMean (cell : Fin 2) (s : State) : State :=
  let c := cell.val
  let x := s.cellLife c
  if x.esrN < 256 then s
  else
    let (v, s) := s.roundOpen x.esrNum (x.esrDen * 256)
    let (v, s) := s.fit 0 65535 v
    let s := (s.setF (F.LIFE_C_ESR_ESR c) v.toNat).updCellLife c (fun x => { x with esrNum := 0, esrDen := 1, esrN := 0 })
    let w := s.f (F.LIFE_C_ELIM_ESR_WARN c)
    { s with life.dirty := true }.raiseIf (w != 0 && decide (w < v.toNat)) FS.LIFE_ESR

/-! Semiconductors (R400 to R402). -/

/-- WARN and DUE of switch `n` follow DRIFT and DAMAGE; each setting of WARN raises LIFE_SEMI (R395, R400). -/
def State.switchFlags (s : State) (n : Nat) : State :=
  let drift := s.fi (F.LIFE_W_DRIFT_DRIFT n)
  let dmg := s.f (F.LIFE_W_DAMAGE_DAMAGE n)
  let warn := decide ((s.f (F.LIFE_W_CFG_VCE_WARN n) : Int) ≤ drift) || decide (0xCCCCCD ≤ dmg)
  let due := decide ((s.f (F.LIFE_W_CFG_VCE_RETIRE n) : Int) ≤ drift) || decide (0x1000000 ≤ dmg)
  let rose := warn && !s.on (F.LIFE_W_STAT_WARN n)
  { ((s.setF (F.LIFE_W_STAT_WARN n) (b2n warn)).setF (F.LIFE_W_STAT_DUE n) (b2n due)) with life.dirty := true }.raiseIf rose FS.LIFE_SEMI

/-- SEMI_MEAN (R400). -/
def onSemiMean (switch : Fin 4) (s : State) : State :=
  let n := switch.val
  let x := s.switchLife n
  if x.n < 4096 then s
  else
    let (m, s) := s.roundOpen x.sum 4096
    let s := (s.setF (F.LIFE_W_MEAN_MEAN n) m.toNat).updSwitchLife n (fun x => { x with sum := 0, n := 0 })
    let s := s.when (s.f (F.LIFE_W_MEAN_BASE n) == 0) (fun s => s.setF (F.LIFE_W_MEAN_BASE n) m.toNat)
    let base := s.f (F.LIFE_W_MEAN_BASE n)
    let (d, s) : Int × State := if base = 0 then s.fit (-32768) 32767 40000 else s.fit (-32768) 32767 (Int.tdiv ((m - base) * 1000) base)
    (s.setF (F.LIFE_W_DRIFT_DRIFT n) (unsigned 16 d)).switchFlags n

/-- One cycle (2 halves) or half-cycle (1) of a range is counted (R401). -/
def State.countCycle (s : State) (n range halves : Nat) : State :=
  let b := min 15 (range / s.f (F.LIFE_W_RF_RF_BIN n))
  let s := s.bumpBy (F.LIFE_RF_COUNT n b) halves
  let total := (s.switchLife n).frac + s.f (F.LIFE_RFW_WEIGHT b) * halves
  (s.updSwitchLife n (fun x => { x with frac := total % 2 ^ 17 })).bumpBy (F.LIFE_W_DAMAGE_DAMAGE n) (total / 2 ^ 17)

/-- The four-point rule on a stack, latest first: ranges of the full cycles extracted, and what is left. -/
def fourPoint : Nat → List Int → List Nat × List Int
  | fuel + 1, d :: c :: b :: a :: rest =>
    let inner := (c - b).natAbs
    if inner ≤ (b - a).natAbs ∧ inner ≤ (d - c).natAbs then
      let (rs, st) := fourPoint fuel (d :: a :: rest)
      (inner :: rs, st)
    else ([], d :: c :: b :: a :: rest)
  | _, l => ([], l)

/-- A turning point enters the stack of switch `n` (R401). -/
def State.turningPoint (s : State) (n : Nat) (v : Int) : State :=
  let st := (s.switchLife n).stack
  let s := if 32 ≤ st.length then
      let oldest := st.getLastD 0
      let next := st.dropLast.getLastD 0
      ((s.countCycle n (oldest - next).natAbs 1).bump (F.LIFE_W_STAT_RF_OVF n)).updSwitchLife n (fun x => { x with stack := x.stack.dropLast })
    else s
  let (rs, st) := fourPoint 32 (v :: (s.switchLife n).stack)
  (s.each rs (fun s r => s.countCycle n r 2)).updSwitchLife n (fun x => { x with stack := st })

/-- One temperature sample of switch `n`: a turning point is confirmed once the signal has moved RF_HYST codes back (R401). -/
def State.rainflowSample (s : State) (n : Nat) (v : Int) : State :=
  let x := s.switchLife n
  let h : Int := max 1 (s.f (F.LIFE_W_RF_RF_HYST n))
  if !x.seen then s.updSwitchLife n (fun x => { x with seen := true, hi := v, lo := v })
  else
    let hi := max x.hi v
    let lo := min x.lo v
    if x.rising ≠ some false ∧ v ≤ hi - h then
      (s.turningPoint n hi).updSwitchLife n (fun x => { x with hi := v, lo := v, rising := some false })
    else if x.rising ≠ some true ∧ lo + h ≤ v then
      (s.turningPoint n lo).updSwitchLife n (fun x => { x with hi := v, lo := v, rising := some true })
    else s.updSwitchLife n (fun x => { x with hi := hi, lo := lo })

/-- The rainflow counters at APPLY of a tick (R401). -/
def State.rainflow (s : State) : State :=
  if !s.agingRuns ∨ !s.on F.LIFE_CTRL_SEMI_EN then s
  else s.each (List.range 4) (fun s n =>
    let q := s.f (F.LIFE_W_CFG_TEMP_SEQ n)
    let e := s.f (F.LIFE_W_CFG_TEMP_ENTRY n)
    let dv := s.f (F.LIFE_W_IREF_RF_DIV n)
    if s.f (F.LIFE_W_RF_RF_BIN n) ≠ 0 ∧ dv ≠ 0 ∧ s.tickNo % dv = 0 ∧ s.resultFresh q e ∧ !s.on (F.MEAS_RES_OVR q e) ∧ !s.on (F.MEAS_RES_SETTLE q e) then
      (s.rainflowSample n (s.fi (F.MEAS_RES_CODE q e))).switchFlags n
    else s)

/-! The margin plan (R393 to R396). -/

/-- Switches of a cell (R395). -/
def cellSwitches (kind c : Nat) : List Nat :=
  if kind = 3 then [2 * c, 2 * c + 1] else if kind = 2 then [0, 1, 2, 3] else [0, 1]

/-- RETIRE_DUE of a cell (R395). -/
def State.retireDue (s : State) (c : Nat) : Bool :=
  let cest := s.f (F.LIFE_C_CEST_CEST c)
  let er := s.f (F.LIFE_C_ELIM_ESR_RETIRE c)
  (cest != 0 && decide (cest < s.f (F.LIFE_C_CLIM_CRETIRE c))) || (er != 0 && decide (er < s.f (F.LIFE_C_ESR_ESR c))) ||
    (cellSwitches (s.f F.CMD_NODE_KIND) c).any (fun n => s.on (F.LIFE_W_STAT_DUE n))

/-- Sets DT_EXTRA of pair `p` in the plan. -/
def State.setDtExtra (s : State) (p v : Nat) : State :=
  s.setF ⟨A.LIFE_DTX, 8 * p + 7, 8 * p⟩ v

/-- CRATIO of a cell in the plan, with the value Yarrow uses (R394). -/
def State.setCratio (s : State) (c v : Nat) : State := (s.setF (F.LIFE_C_PLAN_CRATIO c) v).setF (F.YAR_CRATIO_CRATIO c) v

/-- RETIRED of a cell in the plan, with the flag of YAR_CELL. -/
def State.setRetired (s : State) (c : Nat) (v : Bool) : State :=
  (s.setF (F.LIFE_C_PLAN_RETIRED c) (b2n v)).setF (F.YAR_CELL_RETIRED c) (b2n v)

/-- Largest DT_EXTRA of pair `p` (R394). -/
def State.dtRoom (s : State) (p : Nat) : Nat := s.clk.tickLen - s.window p

/-- A LIFE_PLAN_SET takes effect (R394, R396). -/
def State.applyRequest (s : State) (r : Nat × Nat × Bool × Nat) : State :=
  let (item, i, pin, v) := r
  match item with
  | 0 => (s.setF (F.LIFE_C_PLAN_PIN_C i) (b2n pin)).when pin (fun s => s.setCratio i v)
  | 1 => (s.setF (F.LIFE_C_PLAN_PIN_R i) (b2n pin)).when pin (fun s => s.setRetired i (v != 0))
  | _ => ((if pin then s.setBit F.LIFE_CTRL_DT_PIN i else s.clrBit F.LIFE_CTRL_DT_PIN i)).when pin (fun s => s.setDtExtra i v)

/-- Evaluates the automatic items of a cell (R394 to R396). -/
def State.planCell (s : State) (c : Nat) : State :=
  let x := s.cellLife c
  let cest := s.f (F.LIFE_C_CEST_CEST c)
  let s := if s.on (F.LIFE_C_PLAN_PIN_C c) ∨ cest = 0 then s
    else
      let cur := s.f (F.LIFE_C_PLAN_CRATIO c)
      let step := s.f (F.LIFE_C_EST_CSTEP c)
      let new := if x.restored then cest else if cur < cest then min cest (cur + step) else max cest (cur - step)
      (s.setCratio c new).updCellLife c (fun x => { x with restored := false })
  let due := s.retireDue c
  let rose := due && !s.on (F.LIFE_C_PLAN_RETIRE_DUE c)
  let s := s.setF (F.LIFE_C_PLAN_RETIRE_DUE c) (b2n due)
  let takes := due && s.on F.LIFE_CTRL_RETIRE_AUTO && !s.on (F.LIFE_C_PLAN_PIN_R c) && !s.on (F.LIFE_C_PLAN_RETIRED c)
  (s.when takes (fun s => s.setRetired c true)).raiseIf (rose || takes) FS.LIFE_RETIRE

/-- Evaluates the automatic DT_EXTRA of pair `p` (R394). -/
def State.planPair (s : State) (p : Nat) : State :=
  if bit (s.f F.LIFE_CTRL_DT_PIN) p then s
  else
    let warn := s.on (F.LIFE_W_STAT_WARN (2 * p)) || s.on (F.LIFE_W_STAT_WARN (2 * p + 1))
    s.setDtExtra p (if warn then min (s.f F.LIFE_CTRL_DT_STEP) (s.dtRoom p) else 0)

/-- The items of the plan, compared for R407. -/
def State.planItems (s : State) : List Nat :=
  s.cells.map (fun c => (s.reg (A.LIFE_C_PLAN c)).toNat) ++ [(s.reg A.LIFE_DTX).toNat, s.f F.LIFE_CTRL_DT_PIN]

/-- The plan is evaluated at a tick boundary after an input has changed (R394). -/
def State.evalPlan (s : State) : State :=
  if !s.isFloret ∨ !s.life.dirty then s
  else
    let old := s.planItems
    let reqs := s.life.requests
    let s := { s with life.dirty := false, life.requests := [] }
    let s := ((s.each reqs State.applyRequest).each s.cells State.planCell).each s.yarPairs State.planPair
    if s.planItems = old then s else { s with life.changed := true }

/-- The lifetime unit at a tick boundary: intervals of the tick that ends, then the plan (R394, R397). -/
def State.lifeBoundary (s : State) : State :=
  let s := if s.agingRuns then s.each s.cells State.capInterval else s
  { s.evalPlan with life.frame := none }

/-! Silicon and supply (R403 to R405). -/

/-- Measurements of SLACK are 1 ms apart (R403). -/
def State.nextSlack (s : State) : State :=
  let s := s.reachNow (s.life.slackAt + 1000000)
  { s with life.slackAt := s.now }

/-- Adjustments are AVS_INT ms apart (R404). -/
def State.nextAdjust (s : State) : State :=
  let s := s.reachNow (s.life.avsAt + s.f F.LIFE_AVS_CFG_AVS_INT * 1000000)
  { s with life.avsAt := s.now }

/-- SLACK_MEASURE (R403): 1 ms after the last one. -/
def onSlackMeasure (slack : Int) (s : State) : State :=
  if !s.siliconRuns then s
  else
    let s := s.nextSlack
    let v := clampInt (-8192) 8191 slack
    let s := { s.setF F.LIFE_AVS_STAT_SLACK (unsigned 14 v) with life.slacks := (v :: s.life.slacks).take 100 }
    s.raiseIf (decide (v < s.f F.LIFE_AVS_CFG_SLACK_CRIT)) FS.LIFE_SLACK

/-- TARGET changes and is written to the regulator (R404, R405). -/
def State.setTarget (s : State) (mv : Nat) : State :=
  { s.setF F.LIFE_AVS_STAT_TARGET mv with life.pmb := s.life.pmb ++ [.write mv] }

/-- AVS_ADJUST (R404): AVS_INT ms after the last adjustment, or after tracking began. -/
def onAvsAdjust (s : State) : State :=
  let t := s.f F.LIFE_AVS_STAT_TARGET
  let st := s.f F.LIFE_AVS_STAT_STATE
  let slack := s.fi F.LIFE_AVS_STAT_SLACK
  if !s.siliconRuns ∨ !s.on F.LIFE_CTRL_AVS_EN ∨ (st ≠ 1 ∧ st ≠ 2) ∨ t = 0 then s
  else
    let s := s.nextAdjust
    let low := decide (slack < s.f F.LIFE_AVS_CFG_SLACK_LOW)
    let high := decide (100 ≤ s.life.slacks.length) && s.life.slacks.all (fun v => decide ((s.f F.LIFE_AVS_CFG_SLACK_HIGH : Int) < v))
    let s := if low && decide (t < 900) then s.setTarget (t + 5) else if high && decide (760 < t) then s.setTarget (t - 5) else s
    let limit := low && t == 900
    (s.setF F.LIFE_AVS_STAT_STATE (if limit then 2 else 1)).raiseIf (limit && st != 2) FS.LIFE_AVS_LIMIT

/-- AVS_EN is written 1h or 0h (R405): tracking starts with VOUT_MODE and READ_VOUT, or no further transaction follows. -/
def State.setAvs (s : State) (en : Bool) : State :=
  let was := s.on F.LIFE_CTRL_AVS_EN
  let s := s.setF F.LIFE_CTRL_AVS_EN (b2n en)
  if en then
    if was ∧ s.f F.LIFE_AVS_STAT_STATE ≠ 3 then s
    else { s.setF F.LIFE_AVS_STAT_STATE 1 with
      life.pmb := (if s.life.retrying then [] else s.life.pmb.take 1) ++ [.voutMode, .readStart], life.retrying := false, life.retryAt := none, life.readAt := none
      life.avsAt := s.now }
  else { s.setF F.LIFE_AVS_STAT_STATE 0 with life.pmb := s.life.pmb.take 1, life.retryAt := none, life.readAt := none }

/-- AVS_EN (R405): the write as an event of its own. -/
def onAvsEn (en : Bool) (s : State) : State := s.setAvs en

/-- Millivolts of a linear word: value × 2^N V, as a fraction. -/
def linearMv (w : Nat) (n : Int) : Nat × Nat := if 0 ≤ n then (w * 1000 * 2 ^ n.toNat, 1) else (w * 1000, 2 ^ (-n).toNat)

/-- A transaction has failed: one retry 10 ms later, then LIFE_PMBUS (R405). -/
def State.pmbFail (s : State) : State :=
  if s.life.retrying then
    { s.setF F.LIFE_AVS_STAT_STATE 3 with life.pmb := [], life.retrying := false, life.retryAt := none, life.readAt := none }.raise FS.LIFE_PMBUS
  else { s with life.retrying := true, life.retryAt := some (s.now + 10000000) }

/-- The transaction at the head of the queue ends with an answer, or `none` for a failure on the bus (R405). -/
def State.pmbDone (s : State) (answer : Option (BitVec 16)) : State :=
  match s.life.pmb with
  | [] => s
  | op :: rest =>
    let done (s : State) : State := { s with life.pmb := rest, life.retrying := false, life.retryAt := none }
    match answer with
    | none => s.pmbFail
    | some a =>
      let a := a.toNat
      match op with
      | .voutMode => if bits a 7 5 = 0 then { done s with life.expo := signed 5 (a % 32) } else s.pmbFail
      | .readStart =>
        let (n, d) := linearMv a s.life.expo
        (done s).setF F.LIFE_AVS_STAT_TARGET (max 760 (min 900 (5 * (nearest n (5 * d)).toNat)))
      | .write mv =>
        let w := if s.life.expo ≤ 0 then nearest ((mv * 2 ^ (-s.life.expo).toNat : Nat)) 1000
          else nearest mv (1000 * 2 ^ s.life.expo.toNat)
        { done s with life.vout := w.toNat, life.readAt := some (s.now + 2000000) }
      | .readBack =>
        let (n, d) := linearMv a s.life.expo
        let t := s.f F.LIFE_AVS_STAT_TARGET
        if n ≤ (t + 10) * d ∧ t * d ≤ n + 10 * d then done s else s.pmbFail

/-- PMBUS_TRANSACTION (R405): the transaction in progress completes with an answer, or fails. -/
def onPmbusTransaction (answer : Option (BitVec 16)) (s : State) : State :=
  if s.life.retryAt.isSome then s else s.pmbDone answer

/-- VOUT_READBACK (R405): READ_VOUT 2 ms after a write. -/
def onVoutReadback (answer : Option (BitVec 16)) (s : State) : State :=
  match s.life.readAt with
  | none => s
  | some t =>
    if s.life.retryAt.isSome then s
    else ({ s.reachNow t with life.readAt := none, life.pmb := .readBack :: s.life.pmb }).pmbDone answer

/-- PMBUS_RETRY (R405): the retry 10 ms after a failure. -/
def onPmbusRetry (answer : Option (BitVec 16)) (s : State) : State :=
  match s.life.retryAt with
  | none => s
  | some t => ({ s.reachNow t with life.retryAt := none }).pmbDone answer

/-! Lanes (R406). -/

/-- 1,000 × log10 (a / b) rounded down, for a and b not 0. -/
def log10Milli (a b : Nat) : Int :=
  if b ≤ a then (Nat.log 10 (a ^ 1000 / b ^ 1000) : Nat) else -(Nat.clog 10 ((b ^ 1000 + a ^ 1000 - 1) / a ^ 1000) : Nat)

/-- Sums of the least-squares fit over hours 0, 1, …: n, Σx, Σx², Σy, Σxy. -/
def fitSums (ys : List Int) : Int × Int × Int × Int × Int :=
  ys.zipIdx.foldl (fun (n, x, xx, y, xy) (v, i) => (n + 1, x + i, xx + i * i, y + v, xy + i * v)) (0, 0, 0, 0, 0)

/-- DAYS of a margin history (R406). -/
def marginDays (ys : List Int) (m : Int) : Nat :=
  let (n, x, xx, y, xy) := fitSums ys
  let num := n * xy - x * y
  let den := n * xx - x * x
  if ys.length < 8 ∨ 0 ≤ num then 0xFFF else (min 4094 (max 0 (m * den / (-num * 24)))).toNat

/-- Moves on to the next hour of global time whose margins are to come (R406). -/
def State.reachHour (s : State) : State :=
  let h := s.time / 3600000000000
  let due := if s.life.hour < h then h else h + 1
  { s.reachTime (due * 3600000000000000) with life.hour := due }

/-- LANE_MARGIN (R406): the margins and trends, once per hour of global time. -/
def onLaneMargin (s : State) : State :=
  if !s.siliconRuns then s
  else s.reachHour.each laneNumbers (fun s n =>
    let l := s.lane n
    if s.laneUp n && s.on (F.LANE_MOD_ID_OK n) && !s.on (F.LANE_MOD_EXT_CAL n) && l.powN != 0 then
      let (m, s) : Int × State := if l.powSum = 0 ∨ l.lowWarn = 0 then s.fit (-32767) 32767 40000
        else
          let v := log10Milli l.powSum (l.powN * l.lowWarn)
          let (k, s) := s.free
          s.fit (-32767) 32767 (if l.powSum = l.powN * l.lowWarn then 0 else v + (Config.openWord k).toNat % 2)
      let hist := (l.marginHist ++ [m]).drop (l.marginHist.length + 1 - 32)
      let days := marginDays hist m
      let s := s.updLane n (fun l => { l with marginHist := hist, powSum := 0, powN := 0 })
      let trend := decide (days < s.f F.LIFE_LANE_CFG_TREND_DAYS)
      (((s.setF (F.LIFE_LANE_MARGIN n) (unsigned 16 m)).setF (F.LIFE_LANE_DAYS n) days).setF (F.LIFE_LANE_TREND n) (b2n trend)).raiseIf
        trend FS.LIFE_LANE_TREND
    else s.updLane n (fun l => { l with powSum := 0, powN := 0 }))

/-! Reports (R407, R408). -/

/-- The lane of smallest DAYS, and its DAYS. -/
def State.worstLane (s : State) : Nat × Nat :=
  laneNumbers.foldl (fun best n => let d := s.f (F.LIFE_LANE_DAYS n); if d < best.2 then (n, d) else best) (0xFF, 0xFFF)

/-- Payload of a LIFE segment (R407). -/
def State.lifePayload (s : State) : List Byte :=
  let sw := if s.isFloret then List.range 4 else []
  let any (g : Nat → Bool) := s.cells.any g
  let cw c := s.f (F.LIFE_C_CEST_CEST c) != 0 && decide (s.f (F.LIFE_C_CEST_CEST c) < s.f (F.LIFE_C_CLIM_CWARN c))
  let ew c := s.f (F.LIFE_C_ELIM_ESR_WARN c) != 0 && decide (s.f (F.LIFE_C_ELIM_ESR_WARN c) < s.f (F.LIFE_C_ESR_ESR c))
  let flags := b2n (any (fun c => s.on (F.LIFE_C_PLAN_RETIRE_DUE c))) + 2 * b2n (any cw) + 4 * b2n (any ew) +
    8 * b2n (sw.any (fun n => s.on (F.LIFE_W_STAT_WARN n))) + 16 * b2n (s.f F.LIFE_AVS_STAT_STATE == 2) +
    32 * b2n (laneNumbers.any (fun n => s.on (F.LIFE_LANE_TREND n))) + 64 * b2n s.life.changed
  let pad n (l : List Byte) := l ++ List.replicate (n - l.length) 0
  leBytes 2 s.addr ++ [BitVec.ofNat 8 flags, BitVec.ofNat 8 (ofBits (s.cells.filter (fun c => s.on (F.LIFE_C_PLAN_RETIRED c))))] ++
    leBytes 2 (if s.on F.LIFE_CTRL_AVS_EN then s.f F.LIFE_AVS_STAT_TARGET else 0) ++ leBytes 2 (unsigned 16 (s.fi F.LIFE_AVS_STAT_SLACK)) ++
    pad 4 (s.cells.map (fun c => leBytes 2 (s.f (F.LIFE_C_PLAN_CRATIO c)))).flatten ++
    pad 4 (s.cells.map (fun c => leBytes 2 (s.f (F.LIFE_C_ESR_ESR c)))).flatten ++
    pad 8 (sw.map (fun n => leBytes 2 (s.f (F.LIFE_W_DRIFT_DRIFT n)))).flatten ++
    pad 16 (sw.map (fun n => leBytes 4 (s.f (F.LIFE_W_DAMAGE_DAMAGE n)))).flatten ++
    leBytes 4 (if s.isFloret then (s.reg A.LIFE_DTX).toNat else 0) ++
    [BitVec.ofNat 8 s.worstLane.1, 0] ++ leBytes 2 s.worstLane.2 ++ leBytes 8 s.time ++ List.replicate 8 0

/-- Sends the report. -/
def State.sendLife (s : State) : State :=
  let s' := s.report KIND.LIFE s.lifePayload
  { s' with life.changed := false, life.reportAt := some s.now, life.reportSec := some (s.time / 1000000000) }

/-- LIFE_REPORT (R407): the report of a change, at most once per 10 s, or of the node's second of the period. -/
def onLifeReport (s : State) : State :=
  if !s.siliconRuns then s
  else if s.life.changed then
    ((match s.life.reportAt with
      | some t => s.reachNow (t + 10000000000)
      | none => s)).sendLife
  else
    let per := s.f F.LIFE_CTRL_REPORT_M * 60
    if per = 0 then s
    else
      let sec := s.time / 1000000000
      let first := if s.life.reportSec = some sec then sec + 1 else sec
      let due := first + (s.addr % per + per - first % per) % per
      (s.reachTime (due * 1000000000000)).sendLife

/-! Opcodes (R410). -/

def opLifeRead (p : Packet) (s : State) : Out :=
  if p.params ≠ [] then refuse s Stat.BAD_PARAM else ok s s.lifePayload

/-- LIFE_PLAN_SET. -/
def opLifePlanSet (p : Packet) (s : State) : Out :=
  let item := numAt p.params 0 1
  let i := numAt p.params 1 1
  let act := numAt p.params 2 1
  let v := numAt p.params 3 2
  let bad := decide (p.params.length ≠ 5) || decide (2 < item) || decide (1 < act) ||
    (if item = 2 then !s.yarPairs.contains i || (act == 1 && (decide (255 < v) || decide (s.dtRoom i < v)))
     else !s.cells.contains i || (item == 0 && act == 1 && v == 0))
  if bad then refuse s Stat.BAD_PARAM
  else ok { s with life.requests := s.life.requests ++ [(item, i, act == 1, v)], life.dirty := true }

/-- LIFE_BASELINE. -/
def opLifeBaseline (p : Packet) (s : State) : Out :=
  if p.params.length ≠ 2 then refuse s Stat.BAD_PARAM
  else
    let mask := numAt p.params 0 1
    let fl := numAt p.params 1 1
    let s := s.each (bitList 4 mask) (fun s n =>
      let s := s.when (bit fl 0) (fun s => s.setF (F.LIFE_W_MEAN_BASE n) 0)
      let s := s.when (bit fl 1) (fun s =>
        ((s.setF (F.LIFE_W_DAMAGE_DAMAGE n) 0).each (List.range 16) (fun s b => s.setReg (A.LIFE_RF n b) 0)).updSwitchLife n
          (fun x => { x with frac := 0, stack := [], seen := false, rising := none }))
      s.switchFlags n)
    let s := s.when (bit fl 2) (fun s => s.each s.cells (fun s c =>
      (((s.setReg (A.LIFE_C_CEST c) 0).setF (F.LIFE_C_ESR_ESR c) 0)).updCellLife c
        (fun x => { x with sqv := 0, sqq := 0, n := 0, esrNum := 0, esrDen := 1, esrN := 0 })))
    ok { s with life.dirty := true }

/-- The counts of a switch, 64 bytes. -/
def State.rfBytes (s : State) (n : Nat) : List Byte := ((List.range 16).map (fun b => s.reg4 (A.LIFE_RF n b))).flatten

/-- LIFE_RF_READ. -/
def opLifeRfRead (p : Packet) (s : State) : Out :=
  let n := numAt p.params 0 1
  if p.params.length ≠ 1 ∨ 3 < n then refuse s Stat.BAD_PARAM
  else ok s (s.rfBytes n ++ s.reg4 (A.LIFE_W_DAMAGE n))

/-- LIFE_STATE_READ (R408). -/
def opLifeStateRead (p : Packet) (s : State) : Out :=
  if p.params ≠ [] then refuse s Stat.BAD_PARAM
  else ok s (leBytes 2 (s.f (F.LIFE_C_CEST_CEST 0)) ++ leBytes 2 (s.f (F.LIFE_C_CEST_CEST 1)) ++ leBytes 2 (s.f (F.LIFE_C_ESR_ESR 0)) ++
    leBytes 2 (s.f (F.LIFE_C_ESR_ESR 1)) ++ ((List.range 4).map (fun n =>
      leBytes 2 (s.f (F.LIFE_W_MEAN_BASE n)) ++ [0, 0] ++ s.reg4 (A.LIFE_W_DAMAGE n) ++ s.rfBytes n)).flatten)

/-- LIFE_RESTORE (R408). -/
def opLifeRestore (p : Packet) (s : State) : Out :=
  let b := p.params
  if b.length ≠ 296 then refuse s Stat.BAD_PARAM
  else if s.st ≠ ST.CONFIG then refuse s Stat.DENIED
  else
    let s := s.each (List.range 2) (fun s c =>
      ((s.setF (F.LIFE_C_CEST_CEST c) (numAt b (2 * c) 2)).setF (F.LIFE_C_ESR_ESR c) (numAt b (4 + 2 * c) 2)).updCellLife c
        (fun x => { x with restored := true }))
    let s := s.each (List.range 4) (fun s n =>
      let o := 8 + 72 * n
      let s := ((s.setF (F.LIFE_W_MEAN_BASE n) (numAt b o 2)).setF (F.LIFE_W_MEAN_MEAN n) 0).setF (F.LIFE_W_DRIFT_DRIFT n) 0
      let s := s.setReg (A.LIFE_W_DAMAGE n) (BitVec.ofNat 32 (numAt b (o + 4) 4))
      let s := s.each (List.range 16) (fun s k => s.setReg (A.LIFE_RF n k) (BitVec.ofNat 32 (numAt b (o + 8 + 4 * k) 4)))
      (s.updSwitchLife n (fun x => { x with sum := 0, n := 0, frac := 0 })).switchFlags n)
    ok { s with life.dirty := true }

/-- LIFE_SUBSCRIBE. -/
def opLifeSubscribe (p : Packet) (s : State) : Out :=
  let (subs, st) := subscribe s.life.subs p (s.srcMac (srcKey p))
  { s := { s with life.subs := subs }, status := st }

end Sys2Proof.Machine
end

