-- ==== Sys2Proof/Machine/FieldBus.lean ====
section
/-!
DEFINITION. FieldBus.lean: the CAN FD controllers: modes, mailboxes, choice, errors, schedule (16_field_bus.md). A frame on the
bus comes in as a command with the levels of its bits; stuffing, CRC and acknowledge are outside the model, an error or a quiet bus
comes in as a command.
-/
namespace Sys2Proof.Machine
open Sys2Proof

def State.can (s : State) (c : Nat) : Can := Map.get {} s.fbus.ctls c
def State.updCan (s : State) (c : Nat) (g : Can → Can) : State := { s with fbus.ctls := Map.set {} s.fbus.ctls c (g (s.can c)) }
def State.box (s : State) (m : Nat) : Mailbox := Map.get {} s.fbus.boxes m
def State.updBox (s : State) (m : Nat) (g : Mailbox → Mailbox) : State := { s with fbus.boxes := Map.set {} s.fbus.boxes m (g (s.box m)) }
def boxNumbers : List Nat := List.range 64

/-- MODE of a controller (R412). -/
def State.canMode (s : State) (c : Nat) : Nat := s.f (F.FBUS_C_CTRL_MODE c)
/-- The controller runs: its MODE is not off, and the node is in CONFIG or a later state, or back in SYNC with its image
accepted (R412, 17 R432). -/
def State.canRuns (s : State) (c : Nat) : Bool :=
  s.canMode c != 0 && (decide (ST.CONFIG ≤ s.st) || (s.st == ST.SYNC && s.on F.SYS_STATE_IMG_OK))
/-- Live mailbox `m` of controller `c` and direction `d`. -/
def State.boxOf (s : State) (c d m : Nat) : Bool :=
  s.on (F.FBUS_M_CFG_LIVE m) && s.f (F.FBUS_M_CFG_CTRL m) == c && s.f (F.FBUS_M_CFG_DIR m) == d
def State.boxPend (s : State) (m : Nat) : Bool := s.on (F.FBUS_M_STAT_PEND m)
/-- The frame of mailbox `m` is past start-of-frame. -/
def State.boxOnBus (s : State) (m : Nat) : Bool := ((s.can (s.f (F.FBUS_M_CFG_CTRL m))).sending.map (·.1)) == some m

/-- Posts the operand of a frame received or sent (R416). -/
def State.boxOperand (s : State) (m : Nat) (sent : Bool) : State :=
  if !s.on (F.FBUS_M_CFG_ROUTE m) then s
  else
    let v := m + s.f (F.FBUS_M_STAT_OVW m) * 64 + b2n sent * 128 + s.f (F.FBUS_M_STAT_SEQ m) * 65536
    let f := s.f (F.FBUS_M_CFG_FLOW m)
    if s.on (F.DISP_F_CFG_LIVE f) then (s.postFlowIndex f (BitVec.ofNat 32 v)).1 else s.bump F.DISP_CNT_DROP

/-- Stores a stamp in global ns. -/
def State.boxStamp (s : State) (m t : Nat) : State :=
  (s.setReg (A.FBUS_M_STAMP_LO m) (BitVec.ofNat 32 t)).setReg (A.FBUS_M_STAMP_HI m) (BitVec.ofNat 32 (t / 2 ^ 32))

/-- Writes bytes over the DATA words of a mailbox from its first byte on. -/
def State.boxData (s : State) (m : Nat) (data : List Byte) : State :=
  s.each (List.range ((data.length + 3) / 4)) (fun s w =>
    let old := s.reg4 (A.FBUS_M_DATA m w)
    let new := (data.drop (4 * w)).take 4
    s.setReg (A.FBUS_M_DATA m w) (BitVec.ofNat 32 (leNat (new ++ old.drop new.length))))

/-- The first `n` bytes of the DATA words. -/
def State.boxBytes (s : State) (m n : Nat) : List Byte := (((List.range 16).map (fun w => s.reg4 (A.FBUS_M_DATA m w))).flatten).take n

/-- Base identifiers stand in bits [28:18] (R424, DUP_ID). -/
def identOf (ide : Bool) (ident : Nat) : Nat := if ide then ident % 2 ^ 29 else ident % 2 ^ 11 * 2 ^ 18

/-! Error counters and states (R421). -/

/-- ESTATE after the counters have changed: error-passive above 127; error-passive is raised on entry. -/
def State.canState (s : State) (c : Nat) : State :=
  let passive := decide (128 ≤ s.f (F.FBUS_C_STAT_TEC c)) || decide (128 ≤ s.f (F.FBUS_C_STAT_REC c))
  match s.f (F.FBUS_C_STAT_ESTATE c), passive with
  | 0, true => (s.setF (F.FBUS_C_STAT_ESTATE c) 1).raise FS.FBUS_ERR_PASSIVE
  | 1, false => s.setF (F.FBUS_C_STAT_ESTATE c) 0
  | _, _ => s

/-- TEC rises; beyond 255 the controller enters bus-off. -/
def State.tecUp (s : State) (c n : Nat) : State :=
  let t := s.f (F.FBUS_C_STAT_TEC c) + n
  let s := s.setF (F.FBUS_C_STAT_TEC c) (min t 255)
  if 255 < t then
    (((s.setF (F.FBUS_C_STAT_ESTATE c) 2).bump (F.FBUS_C_CNT_BUSOFF_CNT c)).updCan c (fun x => { x with offAt := s.now })).raise FS.FBUS_BUS_OFF
  else s.canState c

/-- A frame has been received without error: REC falls by 1, from above 127 to a value from 119 to 127 (ISO 11898-1; free). -/
def State.recDown (s : State) (c : Nat) : State :=
  let r := s.f (F.FBUS_C_STAT_REC c)
  if 127 < r then
    let (k, s) := s.free
    (s.setF (F.FBUS_C_STAT_REC c) (119 + (Config.openWord k).toNat % 9)).canState c
  else s.setF (F.FBUS_C_STAT_REC c) (r - 1)

/-- Lengths a FD or a classical frame may have (R417). -/
def canLenOk (fd : Bool) (n : Nat) : Bool :=
  decide (n ≤ 8) || (fd && [12, 16, 20, 24, 32, 48, 64].contains n)

/-! Reception (R411, R414, R416, R419, R420). -/

/-- A bit as the controller reads it (R414): `level` holds CANc_RXD at the sample point (bit 2) and at the 2 tq before it. With
TRIPLE the majority counts, otherwise the sample point. -/
def sampledBit (triple : Bool) (level : BitVec 3) : Bool :=
  let l := level.toNat
  if triple then decide (2 ≤ ([0, 1, 2].filter (bit l)).length) else bit l 2

/-- Number spelt by bits, most significant first. -/
def canNum (bs : List Bool) : Nat := bs.foldl (fun n b => 2 * n + b2n b) 0

/-- Bytes that a DLC code stands for in a classical and in a FD frame (ISO 11898-1). -/
def dlcBytes (fd : Bool) (dlc : Nat) : Nat :=
  if dlc ≤ 8 then dlc else if fd then ([12, 16, 20, 24, 32, 48, 64] : List Nat).getD (dlc - 9) 64 else 8

/-- A frame as the controller has read it. -/
structure CanFrame where
  ide : Bool
  fdf : Bool
  brs : Bool := false
  esi : Bool := false
  rtr : Bool := false
  ident : Nat
  len : Nat
  data : List Byte
  deriving DecidableEq, Repr

/-- `n` bytes spelt by bits, most significant bit of each first; none where the bits do not reach. -/
def canBytes : Nat → List Bool → Option (List Byte)
  | 0, _ => some []
  | n + 1, bs => if bs.length < 8 then none else (canBytes n (bs.drop 8)).map (BitVec.ofNat 8 (canNum (bs.take 8)) :: ·)

/-- DLC and data of a frame whose fields up to them have been read. -/
def canTail (f : CanFrame) (bs : List Bool) : Option CanFrame :=
  if bs.length < 4 then none
  else
    let n := dlcBytes f.fdf (canNum (bs.take 4))
    (canBytes (if f.rtr then 0 else n) (bs.drop 4)).map (fun d => { f with len := n, data := d })

/-- From the bit after RTR or RRS (`r`), in a base frame after IDE: FDF, then either DLC and data of a classical frame, with r0
before them in an extended one, or res, BRS, ESI and the rest of a FD frame, whose data phase, with BRS recessive, is sampled once
(`once`) (R411, R414; ISO 11898-1). A recessive res is a form error. -/
def canControl (ide r : Bool) (ident : Nat) (bs once : List Bool) : Option CanFrame :=
  match bs with
  | [] => none
  | fdf :: rest =>
    if fdf then
      match rest with
      | res :: brs :: rest' =>
        let phase := if brs then once.drop 3 else rest'
        match phase with
        | esi :: tail => if res then none else canTail { ide := ide, fdf := true, brs := brs, esi := esi, ident := ident, len := 0, data := [] } tail
        | [] => none
      | _ => none
    else canTail { ide := ide, fdf := false, rtr := r, ident := ident, len := 0, data := [] } (if ide then rest.drop 1 else rest)

/-- The frame that bits spell from the first bit of its identifier to the end of its data field, without stuff bits: `bs` as read in
the nominal phase, `once` as sampled once (R411; ISO 11898-1). -/
def canDecode (bs once : List Bool) : Option CanFrame :=
  match bs.drop 11 with
  | r :: ide :: rest =>
    if ide then
      match rest.drop 18 with
      | rtr :: rest' => canControl true rtr (canNum (bs.take 11 ++ rest.take 18)) rest' (once.drop 32)
      | [] => none
    else canControl false r (canNum (bs.take 11)) rest (once.drop 13)
  | _ => none

/-- The frame that controller `c` reads from the levels of its bits (R414). -/
def State.canReads (s : State) (c : Nat) (levels : List (BitVec 3)) : Option CanFrame :=
  canDecode (levels.map (sampledBit (s.on (F.FBUS_C_CTRL_TRIPLE c)))) (levels.map (sampledBit false))

/-- A frame that has been read without error (R416, R419, R420); `age`: the ns from its start-of-frame to the end of its last EOF
bit. -/
def State.takeCanFrame (s : State) (c : Nat) (x : CanFrame) (age : Nat) : State :=
  if s.canMode c = 2 ∧ x.fdf ∧ x.brs then s.bump (F.FBUS_C_CNT_LOM_SKIP c)
  else
    let s := if s.canMode c = 1 then s.recDown c else s
    let id := identOf x.ide x.ident
    let takes m := s.boxOf c 0 m && s.on (F.FBUS_M_CFG_IDE m) == x.ide &&
      (id ^^^ s.f (F.FBUS_M_ID_ID m)) &&& s.f (F.FBUS_M_MASK_MASK m) == 0
    match boxNumbers.find? takes with
    | none => s.bump (F.FBUS_C_CNT_RX_LOST c)
    | some m =>
      let ovw := (s.box m).unread
      let s := s.boxData m x.data
      let s := s.setReg (A.FBUS_M_FRAME m) (BitVec.ofNat 32 (b2n x.ide * 2 ^ 31 + b2n x.fdf * 2 ^ 30 + b2n x.brs * 2 ^ 29 + id))
      let s := (((s.setF (F.FBUS_M_STAT_SEQ m) (s.f (F.FBUS_M_STAT_SEQ m) + 1)).setF (F.FBUS_M_STAT_ESI m) (b2n (x.fdf && x.esi))).setF
        (F.FBUS_M_STAT_RTR_RX m) (b2n (!x.fdf && x.rtr))).setF (F.FBUS_M_STAT_LEN m) x.len
      let s := (s.boxStamp m (s.time - age)).updBox m (fun x => { x with unread := true })
      let s := if ovw then
          let s := s.setF (F.FBUS_M_STAT_OVW m) 1
          let said := match (s.can c).overrunAt with
            | some t => decide (s.now < t + 1000000000)
            | none => false
          if said then s else (s.updCan c (fun x => { x with overrunAt := some s.now })).raise FS.FBUS_RX_OVERRUN
        else s
      s.boxOperand m false

/-- CAN_FRAME_RECEIVED (R414, R416): a frame on the bus, by the levels of its bits. What the controller reads as no frame is none. -/
def onCanFrameReceived (controller : Fin 2) (levels : List (BitVec 3)) (age : Nat) (s : State) : State :=
  if !s.canRuns controller ∨ 2 ≤ s.f (F.FBUS_C_STAT_ESTATE controller) then s
  else match s.canReads controller levels with
    | some x => s.takeCanFrame controller x age
    | none => s

/-! Transmission (R417, R418, R423). -/

/-- Rank of an identifier as a mailbox holds it: a base identifier counts as its 11 bits followed by 18 zero bits (R418). -/
def identRank (ide : Bool) (id : Nat) : Nat := if ide then id else id / 2 ^ 18 * 2 ^ 18

/-- Rank of a pending frame in the choice of R418: scheduled frames by slot, then identifiers, then mailbox index. -/
def State.txRank (s : State) (m : Nat) : Nat × Nat × Nat :=
  match (s.box m).slot with
  | some (k, _) => (0, k, m)
  | none => (1, identRank (s.on (F.FBUS_M_CFG_IDE m)) (s.f (F.FBUS_M_ID_ID m)), m)

def rankLe (a b : Nat × Nat × Nat) : Bool :=
  decide (a.1 < b.1) || (a.1 == b.1 && (decide (a.2.1 < b.2.1) || (a.2.1 == b.2.1 && decide (a.2.2 ≤ b.2.2))))

/-- CAN_SOF_COMMIT (R418, R419): the bus allows a new frame. -/
def onCanSofCommit (controller : Fin 2) (s : State) : State :=
  let c := controller.val
  if !s.canRuns c ∨ s.canMode c ≠ 1 ∨ 2 ≤ s.f (F.FBUS_C_STAT_ESTATE c) ∨ (s.can c).sending.isSome then s
  else
    let ms := boxNumbers.filter (fun m => s.boxOf c 1 m && s.boxPend m)
    match ms.find? (fun m => ms.all (fun k => rankLe (s.txRank m) (s.txRank k))) with
    | none => s
    | some m => s.updCan c (fun x => { x with sending := some (m, (s.box m).content, s.time) })

/-- A frame is withdrawn: no longer pending. -/
def State.withdraw (s : State) (m : Nat) : State :=
  (s.setF (F.FBUS_M_STAT_PEND m) 0).updBox m (fun x => { x with slot := none, again := false })

/-- A scheduled frame is withdrawn as late (R426). -/
def State.slotLate (s : State) (c m : Nat) : State :=
  ((s.withdraw m).bump (F.FBUS_C_CNT_SLOT_LATE c)).raise FS.FBUS_SLOT_MISSED

/-- Answers a waiting CAN_MB_CANCEL (R423). -/
def State.endCancel (s : State) (m status : Nat) (payload : List Byte) : State :=
  (s.updBox m (fun x => { x with cancel := [] })).each (s.box m).cancel (fun s p => s.release 0x0C03 p status payload)

/-- CAN_FRAME_SENT (R415, R417, R419): the frame on the bus completes; `delay` is the transceiver delay measured in it. -/
def onCanFrameSent (controller : Fin 2) (delay : Nat) (s : State) : State :=
  let c := controller.val
  match (s.can c).sending with
  | none => s
  | some (m, (_, _), t) =>
    let s := s.updCan c (fun x => { x with sending := none })
    let fdf := s.on (F.FBUS_M_CFG_FDF m)
    let s := s.when (fdf && s.on (F.FBUS_C_TDC_TDC_EN c)) (fun s => s.setF (F.FBUS_C_TDC_TDCV c) (min 127 delay))
    let s := (s.setF (F.FBUS_C_STAT_TEC c) (s.f (F.FBUS_C_STAT_TEC c) - 1)).canState c
    let s := s.setReg (A.FBUS_M_FRAME m) (BitVec.ofNat 32 (s.f (F.FBUS_M_CFG_IDE m) * 2 ^ 31 + b2n fdf * 2 ^ 30 +
      s.f (F.FBUS_M_CFG_BRS m) * 2 ^ 29 + s.f (F.FBUS_M_ID_ID m)))
    let s := ((s.boxStamp m t).setF (F.FBUS_M_STAT_SEQ m) (s.f (F.FBUS_M_STAT_SEQ m) + 1)).setF (F.FBUS_M_STAT_ESI m)
      (b2n (fdf && s.f (F.FBUS_C_STAT_ESTATE c) == 1))
    let s := if (s.box m).again then s.updBox m (fun x => { x with again := false }) else s.withdraw m
    (s.boxOperand m true).endCancel m Stat.TOO_LATE (leBytes 8 t)

/-- The tracker of data-field bit errors (R424). -/
def State.trackError (s : State) (c id : Nat) : State :=
  let now := s.time
  let old := (s.can c).errors
  let times := ((old.find? (fun x => x.1 == id)).map (·.2)).getD []
  let times := times.filter (fun t => decide (now ≤ t + 1000000000)) ++ [now]
  let hit := decide (3 ≤ times.length)
  let entry := (id, if hit then [] else times)
  let new := if old.any (fun x => x.1 == id) then old.map (fun x => if x.1 = id then entry else x)
    else (if 4 ≤ old.length then old.drop 1 else old) ++ [entry]
  let s := s.updCan c (fun x => { x with errors := new })
  if hit then ((s.setF (F.FBUS_C_STAT_DUP_SUSPECT c) 1).setF (F.FBUS_C_DUP_DUP_ID c) id).raise FS.FBUS_DUP_ID else s

/-- CAN_BUS_ERROR (R421, R423, R424): `kind` 0 lost arbitration, else as LAST_ERR. `data`: in the data field sent. `exempt`:
one of the cases in which ISO 11898-1 leaves a transmitter's count unchanged. `severe`: a receiver's count rises by 8. -/
def onCanBusError (controller : Fin 2) (kind : Fin 7) (data exempt severe : Bool) (s : State) : State :=
  let c := controller.val
  if !s.canRuns c ∨ 2 ≤ s.f (F.FBUS_C_STAT_ESTATE c) then s
  else
    let cur := (s.can c).sending
    let s := s.updCan c (fun x => { x with sending := none })
    let s := if kind.val = 0 then s
      else
        let s := s.setF (F.FBUS_C_STAT_LAST_ERR c) kind
        if s.canMode c = 2 then s
        else match cur with
          | some (m, _, _) =>
            let s := if exempt then s else s.tecUp c 8
            if data ∧ (kind.val = 4 ∨ kind.val = 5) then s.trackError c (s.f (F.FBUS_M_ID_ID m)) else s
          | none => (s.bumpBy (F.FBUS_C_STAT_REC c) (if severe then 8 else 1)).canState c
    match cur with
    | some (m, _, _) =>
      let s := if (s.box m).again then s.updBox m (fun x => { x with again := false }) else s
      if (s.box m).cancel ≠ [] then (s.withdraw m).endCancel m Stat.OK [] else s
    | none => s

/-- BOFF_DELAY (R421): automatic recovery starts. -/
def onBoffDelay (controller : Fin 2) (s : State) : State :=
  let c := controller.val
  if s.f (F.FBUS_C_STAT_ESTATE c) = 2 ∧ s.on (F.FBUS_C_CTRL_AUTO_REC c) then
    (s.reachNow ((s.can c).offAt + s.f (F.FBUS_C_CTRL_BOFF_DELAY c) * 1000000)).setF (F.FBUS_C_STAT_ESTATE c) 3
  else s

/-- BUS_OFF_RECOVERY (R421): 128 occurrences of 11 recessive bits. -/
def onBusOffRecovery (controller : Fin 2) (s : State) : State :=
  let c := controller.val
  if s.f (F.FBUS_C_STAT_ESTATE c) = 3 then
    ((s.setF (F.FBUS_C_STAT_ESTATE c) 0).setF (F.FBUS_C_STAT_TEC c) 0).setF (F.FBUS_C_STAT_REC c) 0
  else s

/-- FBUS_BUS_STUCK (R422). -/
def onFbusBusStuck (controller : Fin 2) (s : State) : State :=
  if s.canRuns controller ∧ !s.on (F.FBUS_C_STAT_STUCK controller) then
    (s.setF (F.FBUS_C_STAT_STUCK controller) 1).raise FS.FBUS_BUS_STUCK
  else s

/-- BUS_STUCK_CLEAR (R422). -/
def onBusStuckClear (controller : Fin 2) (s : State) : State := s.setF (F.FBUS_C_STAT_STUCK controller) 0

/-! Schedule (R425, R426). -/

/-- Global ns at which a slot next opens, not before now and after its last opening (R425). -/
def State.nextSlot (s : State) (c k : Nat) : Option Nat :=
  let cyc := s.f (F.FBUS_C_SCHED_CYCLE_US c)
  let n := s.f (F.FBUS_C_SCHED_CYCLES_M1 c) + 1
  let start := s.f (F.FBUS_C_SLOTB_START c k)
  let len := n * cyc * 1000
  let last := Map.get 0 (s.can c).opened k
  let t0 := max s.time (last + 1)
  if cyc ≤ start ∨ len = 0 then none
  else
    let cand := ((bitList n (s.f (F.FBUS_C_SLOTA_CMASK c k))).map (fun i =>
      let o := (i * cyc + start) * 1000
      t0 + (o + len - t0 % len) % len))
    cand.min?

/-- SLOT_OPEN (R425, R426). -/
def onSlotOpen (controller : Fin 2) (slot : Fin 32) (s : State) : State :=
  let c := controller.val
  let k := slot.val
  let m := s.f (F.FBUS_C_SLOTA_MB c k)
  if !s.canRuns c ∨ s.canMode c ≠ 1 ∨ !s.on (F.FBUS_C_SCHED_SCHED_EN c) ∨ !s.on (F.FBUS_C_SLOTA_EN c k) then s
  else match s.nextSlot c k with
    | none => s
    | some t =>
      let s := (s.reachTime (t * 1000)).updCan c (fun x => { x with opened := Map.set 0 x.opened k t })
      if !s.boxOf c 1 m ∨ !s.on (F.FBUS_M_CFG_SCHED m) then s
      else
        let onBus := s.boxOnBus m
        let s := if s.boxPend m then
            if onBus then (s.bump (F.FBUS_C_CNT_SLOT_LATE c)).raise FS.FBUS_SLOT_MISSED else s.slotLate c m
          else s
        let late := t + s.f (F.FBUS_C_SLOTB_WINDOW c k) * 10000
        (s.setF (F.FBUS_M_STAT_PEND m) 1).updBox m (fun x => { x with slot := some (k, late), again := onBus })

/-- SLOT_WINDOW_END (R426). -/
def onSlotWindowEnd (controller : Fin 2) (slot : Fin 32) (s : State) : State :=
  let c := controller.val
  match boxNumbers.find? (fun m => s.boxOf c 1 m && s.boxPend m && ((s.box m).slot.map (·.1)) == some slot.val) with
  | none => s
  | some m =>
    let late := ((s.box m).slot.map (·.2)).getD 0
    let s := s.reachTime (late * 1000)
    if s.boxOnBus m then s else s.slotLate c m

/-! Opcodes (R428). -/

/-- The checks of R413 on a controller's bit timing. -/
def State.bitTimingOk (s : State) (c : Nat) : Bool :=
  let nseg1 := s.f (F.FBUS_C_NBT_NTSEG1_M1 c) + 1
  let nbit := (s.f (F.FBUS_C_NBT_NBRP c) + 1) * (1 + nseg1 + s.f (F.FBUS_C_NBT_NTSEG2_M1 c) + 1)
  let dbit := (s.f (F.FBUS_C_DBT_DBRP c) + 1) * (1 + s.f (F.FBUS_C_DBT_DTSEG1_M1 c) + 1 + s.f (F.FBUS_C_DBT_DTSEG2_M1 c) + 1)
  decide (80 ≤ nbit) && decide (nbit ≤ 8000) && (!s.on (F.FBUS_C_CTRL_FD_EN c) || (decide (10 ≤ dbit) && decide (dbit ≤ nbit))) &&
    decide (s.f (F.FBUS_C_NBT_NSJW_M1 c) ≤ s.f (F.FBUS_C_NBT_NTSEG2_M1 c)) &&
    decide (s.f (F.FBUS_C_DBT_DSJW_M1 c) ≤ s.f (F.FBUS_C_DBT_DTSEG2_M1 c)) &&
    (!s.on (F.FBUS_C_CTRL_TRIPLE c) || (decide (640 ≤ nbit) && decide (3 ≤ nseg1))) &&
    (decide (80 ≤ dbit) || s.on (F.FBUS_C_TDC_TDC_EN c))

/-- CAN_MODE (R412, R413). -/
def opCanMode (p : Packet) (s : State) : Out :=
  let c := numAt p.params 0 1
  let m := numAt p.params 1 1
  if p.params.length ≠ 2 ∨ 1 < c ∨ 2 < m ∨ (m ≠ 0 ∧ !s.bitTimingOk c) then refuse s Stat.BAD_PARAM
  else
    let s := s.setF (F.FBUS_C_CTRL_MODE c) m
    ok (if m = 0 then s.updCan c (fun x => { x with sending := none }) else s)

/-- CAN_MB_CREATE. -/
def opCanMbCreate (p : Packet) (s : State) : Out :=
  let b := p.params
  let fl := numAt b 0 1
  let rf := numAt b 1 2
  let fdf := bit fl 3
  let valid := b.length == 11 && !bit fl 7 && bits rf 14 6 == 0 && bits (numAt b 3 4) 31 29 == 0 && bits (numAt b 7 4) 31 29 == 0 &&
    !(bit fl 0 && fdf) && !(bit fl 2 && !fdf) && (!bit rf 15 || s.on (F.DISP_F_CFG_LIVE (rf % 64)))
  createObj TY.MAILBOX valid (fun _ => true) (fun m s =>
    let s := s.each (List.range 32) (fun s w => s.setReg (A.FBUS_M_CFG m + 4 * w) 0)
    let s := s.setReg (A.FBUS_M_CFG m) (BitVec.ofNat 32 (2 ^ 31 + fl * 2 ^ 24 + rf))
    let s := (s.setReg (A.FBUS_M_ID m) (BitVec.ofNat 32 (numAt b 3 4))).setReg (A.FBUS_M_MASK m) (BitVec.ofNat 32 (numAt b 7 4))
    s.updBox m (fun _ => {})) p s

/-- A SEND for mailbox `m` (R417, R420): BUSY, DENIED or BAD_PARAM, or the LEN and the shadows become its content. -/
def State.boxSend (s : State) (m len : Nat) : State × Nat :=
  let c := s.f (F.FBUS_M_CFG_CTRL m)
  if !s.boxOf c 1 m ∨ !canLenOk (s.on (F.FBUS_M_CFG_FDF m)) len then (s, Stat.BAD_PARAM)
  else if s.canMode c = 2 then (s, Stat.DENIED)
  else if s.boxPend m ∧ s.boxOnBus m then (s, Stat.BUSY)
  else
    let s := (s.setF (F.FBUS_M_STAT_LEN m) len).updBox m (fun x => { x with content := (len, s.boxBytes m len) })
    (if s.on (F.FBUS_M_CFG_SCHED m) then s else s.setF (F.FBUS_M_STAT_PEND m) 1, Stat.OK)

/-- CAN_MB_SEND. -/
def opCanMbSend (m : Nat) (p : Packet) (s : State) : Out :=
  let len := numAt p.params 0 1
  if p.params.length ≠ 1 + len then refuse s Stat.BAD_PARAM
  else
    let (s', st) := (s.boxData m (p.params.drop 1)).boxSend m len
    if st = Stat.OK then ok s' else refuse s st

/-- CAN_MB_CANCEL (R423). -/
def opCanMbCancel (m : Nat) (p : Packet) (s : State) : Out :=
  if p.params ≠ [] then refuse s Stat.BAD_PARAM
  else if !s.boxPend m then ok s
  else if s.boxOnBus m then holding (s.updBox m (fun x => { x with cancel := x.cancel ++ [p] }))
  else ok (s.withdraw m)

/-- CAN_MB_READ. -/
def opCanMbRead (m : Nat) (p : Packet) (s : State) : Out :=
  if p.params ≠ [] then refuse s Stat.BAD_PARAM
  else
    let b := s.reg4 (A.FBUS_M_FRAME m) ++ s.reg4 (A.FBUS_M_STAT m) ++ s.reg4 (A.FBUS_M_STAMP_LO m) ++ s.reg4 (A.FBUS_M_STAMP_HI m) ++
      s.boxBytes m 64 ++ List.replicate 8 0
    ok ((s.setF (F.FBUS_M_STAT_OVW m) 0).updBox m (fun x => { x with unread := false })) b

/-- CAN_STATUS_READ. -/
def opCanStatusRead (p : Packet) (s : State) : Out :=
  let c := numAt p.params 0 1
  if p.params.length ≠ 1 ∨ 1 < c then refuse s Stat.BAD_PARAM
  else ok s (s.reg4 (A.FBUS_C_CTRL c) ++ s.reg4 (A.FBUS_C_STAT c) ++ s.reg4 (A.FBUS_C_CNT c) ++ s.reg4 (A.FBUS_C_DUP c))

/-- CAN_RECOVER (R421). -/
def opCanRecover (p : Packet) (s : State) : Out :=
  let c := numAt p.params 0 1
  if p.params.length ≠ 1 ∨ 1 < c then refuse s Stat.BAD_PARAM
  else if s.f (F.FBUS_C_STAT_ESTATE c) ≠ 2 then refuse s Stat.DENIED
  else ok (s.setF (F.FBUS_C_STAT_ESTATE c) 3)

/-- A mailbox is bound while a frame of it is pending or an enabled slot names it (R126, R428). -/
def State.boxBound (s : State) (m : Nat) : Bool :=
  s.boxPend m || (List.range 2).any (fun c => (List.range 32).any (fun k =>
    s.on (F.FBUS_C_SLOTA_EN c k) && s.f (F.FBUS_C_SLOTA_MB c k) == m))

/-- A mailbox is gone: its registers read 0 (R124). -/
def State.freeBox (s : State) (m : Nat) : State :=
  (s.each (List.range 32) (fun s w => s.setReg (A.FBUS_M_CFG m + 4 * w) 0)).updBox m (fun _ => {})

end Sys2Proof.Machine
end

