-- ==== Sys2Proof/Machine/Ecdsa.lean ====
section
/-!
DEFINITION. Ecdsa.lean: SHA-256 (FIPS 180-4) and verification of ECDSA signatures on P-256 (FIPS 186-4), which firmware
images are signed with (17 R438).
-/
namespace Sys2Proof.Machine
open Sys2Proof

/-- The primes below 312, of which FIPS 180-4 takes 64. -/
def shaPrimes : List Nat :=
  (List.range 312).filter (fun n => decide (2 ≤ n) && ([2, 3, 5, 7, 11, 13, 17] : List Nat).all (fun d => n == d || n % d != 0))

/-- The largest number below 2 ^ `i` more than `r` whose `k`-th power is at most `n`, found from its highest bit down. -/
def rootFrom (k n : Nat) : Nat → Nat → Nat
  | 0, r => r
  | i + 1, r => rootFrom k n i (if (r + 2 ^ i) ^ k ≤ n then r + 2 ^ i else r)

/-- First 32 bits of the fraction of the `k`-th root of `p` (FIPS 180-4, 4.2.2 and 5.3.3). -/
def rootBits (k p : Nat) : Word := BitVec.ofNat 32 (rootFrom k (p * 2 ^ (32 * k)) 37 0)

/-- One constant for each round: the cube roots of the primes. -/
def shaRoundWords : List Word := shaPrimes.map (rootBits 3)

/-- The hash of nothing: the square roots of the first eight primes. -/
def shaStart : List Word := (shaPrimes.take 8).map (rootBits 2)

/-- The word turned right by each of the amounts, all three combined bit by bit. -/
def turns (x : Word) (a b c : Nat) : Word := x.rotateRight a ^^^ (x.rotateRight b ^^^ x.rotateRight c)

/-- The working words after one round, from those before it and the round's message and constant words together. -/
def shaTurn (v : List Word) (x : Word) : List Word :=
  let at' (i : Nat) : Word := v.getD i 0
  let pick := at' 6 ^^^ (at' 4 &&& (at' 5 ^^^ at' 6))
  let most := (at' 0 &&& at' 1) ||| (at' 2 &&& (at' 0 ||| at' 1))
  let t := x + at' 7 + pick + turns (at' 4) 6 11 25
  (turns (at' 0) 2 13 22 + most + t) :: (v.take 3 ++ (at' 3 + t) :: (v.drop 4).take 3)

/-- The word that the sixteen in hand, oldest first, lead to. -/
def shaNext (w : List Word) : Word :=
  let fold (x : Word) (a b c : Nat) : Word := x.rotateRight a ^^^ x.rotateRight b ^^^ (x >>> c)
  fold (w.getD 14 0) 17 19 10 + w.getD 9 0 + fold (w.getD 1 0) 7 18 3 + w.getD 0 0

/-- All rounds of one block of 64 bytes, and their result added to what stood before. -/
def shaBlock (h : List Word) (m : List Byte) : List Word :=
  let w0 := (List.range 16).map (fun i => BitVec.ofNat 32 (beNat (slice m (4 * i) 4)))
  let r := shaRoundWords.foldl (fun (a : List Word × List Word) k =>
    (shaTurn a.1 (k + a.2.headD 0), a.2.tail ++ [shaNext a.2])) (h, w0)
  List.zipWith (· + ·) h r.1

/-- The hash of the next `n` blocks of a padded message. -/
def shaOver (h : List Word) (m : List Byte) : Nat → List Word
  | 0 => h
  | n + 1 => shaOver (shaBlock h (m.take 64)) (m.drop 64) n

/-- SHA-256 as a 256-bit number: a one bit, zeros up to 8 bytes short of a whole block, the length in bits. -/
def sha256 (m : List Byte) : Nat :=
  let zeros := 63 - (m.length + 8) % 64
  let padded := m ++ 0x80 :: List.replicate zeros 0 ++ beBytes 8 (8 * m.length)
  (shaOver shaStart padded (padded.length / 64)).foldl (fun n x => n * 2 ^ 32 + x.toNat) 0

/-! P-256. -/

def ecP : Nat := 0xffffffff00000001000000000000000000000000ffffffffffffffffffffffff
def ecN : Nat := 0xffffffff00000000ffffffffffffffffbce6faada7179e84f3b9cac2fc632551
def ecB : Nat := 0x5ac635d8aa3a93e7b3ebbd55769886bc651d06b0cc53b0f63bce3c3e27d2604b
def ecG : Nat × Nat :=
  (0x6b17d1f2e12c4247f8bce6e563a440f277037d812deb33a0f4a13945d898c296,
   0x4fe342e2fe1a7f9b8ee7eb4a7c0f9e162bce33576b315ececbb6406837bf51f5)

/-- `b` to the power `e` modulo `m`, over the lowest `fuel` bits of `e`. -/
def powMod (m : Nat) : Nat → Nat → Nat → Nat
  | 0, _, _ => 1 % m
  | fuel + 1, b, e =>
    let r := powMod m fuel (b * b % m) (e / 2)
    if e % 2 = 1 then r * b % m else r

/-- Inverse modulo a prime. -/
def invMod (m a : Nat) : Nat := powMod m 256 (a % m) (m - 2)

/-- Sum of two points; none is the point at infinity. -/
def ecAdd : Option (Nat × Nat) → Option (Nat × Nat) → Option (Nat × Nat)
  | none, q => q
  | p, none => p
  | some (x1, y1), some (x2, y2) =>
    if x1 = x2 ∧ (y1 + y2) % ecP = 0 then none
    else
      let l := if x1 = x2 then (3 * x1 * x1 + (ecP - 3)) * invMod ecP (2 * y1) % ecP
        else (y2 + ecP - y1) * invMod ecP (x2 + ecP - x1) % ecP
      let x := (l * l + 2 * ecP - x1 - x2) % ecP
      some (x, (l * (x1 + ecP - x) + ecP - y1) % ecP)

/-- `k` times a point. -/
def ecMul : Nat → Nat → Option (Nat × Nat) → Option (Nat × Nat)
  | 0, _, _ => none
  | fuel + 1, k, p =>
    let r := ecMul fuel (k / 2) (ecAdd p p)
    if k % 2 = 1 then ecAdd r p else r

/-- A public key: a point of the curve in range. -/
def ecKeyOk (q : Nat × Nat) : Bool :=
  decide (q.1 < ecP) && decide (q.2 < ecP) && q.2 * q.2 % ecP == (q.1 * q.1 * q.1 + (ecP - 3) * q.1 + ecB) % ecP

/-- ECDSA verification of signature (r, s) on a 256-bit hash. -/
def ecdsaOk (q : Nat × Nat) (hash r s : Nat) : Bool :=
  if !ecKeyOk q ∨ r = 0 ∨ ecN ≤ r ∨ s = 0 ∨ ecN ≤ s then false
  else
    let w := invMod ecN s
    match ecAdd (ecMul 256 (hash * w % ecN) (some ecG)) (ecMul 256 (r * w % ecN) (some q)) with
    | none => false
    | some (x, _) => x % ecN == r

/-- A 64-byte signature, r then s, each most significant byte first, as a key's X then Y. -/
def sigOk (q : Nat × Nat) (hash : Nat) (sig : List Byte) : Bool := ecdsaOk q hash (beNat (sig.take 32)) (beNat ((sig.drop 32).take 32))

end Sys2Proof.Machine
end

