-- ==== Sys2Proof/Machine/Image.lean ====
section
/-!
DEFINITION. Image.lean: the firmware image: its checks, acceptance, staging, flash, and image refetch
(17 R438 to R441, R450, R451; 11 R311 to R313).
-/
namespace Sys2Proof.Machine
open Sys2Proof

/-! The image as bytes (R438). -/

/-- One entry of the segment table. -/
structure ImgSeg where
  dest : Nat
  size : Nat
  ofs : Nat
  kind : Nat
  deriving DecidableEq, Repr

/-- The segment table of an image. -/
def imgSegs (b : List Byte) : List ImgSeg :=
  (List.range (numAt b 6 1)).map (fun i =>
    let o := 160 + 16 * i
    { dest := numAt b o 4, size := numAt b (o + 4) 4, ofs := numAt b (o + 8) 4, kind := numAt b (o + 12) 1 })

/-- Bytes of a segment. -/
def segData (b : List Byte) (g : ImgSeg) : List Byte := slice b g.ofs g.size

/-- Check 1: MAGIC, VERSION, LENGTH and reserved fields. -/
def imgHeaderOk (b : List Byte) : Bool :=
  let n := numAt b 6 1
  numAt b 0 4 == 0x94600A0B && numAt b 4 1 == 1 && decide (numAt b 5 1 < 8) && decide (1 ≤ n) && decide (n ≤ 16) && numAt b 7 1 == 0 &&
    numAt b 8 4 == b.length && decide (b.length ≤ 4194304) && decide (160 + 16 * n + 64 ≤ b.length) && numAt b 20 12 == 0 &&
    (List.range n).all (fun i => numAt b (160 + 16 * i + 13) 3 == 0)

/-- The OEM key: X then Y. -/
def oemKey (b : List Byte) : Nat × Nat := (beNat (slice b 32 32), beNat (slice b 64 32))

/-- A segment lies in the region of its KIND (R438, 10 R283). -/
def segInRegion (g : ImgSeg) : Bool :=
  let within lo hi := decide (lo ≤ g.dest) && decide (g.dest + g.size ≤ hi)
  match g.kind with
  | 0 => within 0x10000000 0x10280000
  | 1 => within 0x10380000 0x10400000
  | 2 => g.size == 68
  | 3 => within 0x30000000 0x30160000
  | _ => false

/-- Check 6: the segment layout. -/
def imgLayoutOk (b : List Byte) : Bool :=
  let gs := imgSegs b
  let mem := gs.filter (fun g => g.kind != 2)
  gs.all (fun g => segInRegion g && decide (g.ofs + g.size + 64 ≤ b.length)) &&
    (gs.filter (fun g => g.kind == 1)).length == 1 && decide ((gs.filter (fun g => g.kind == 2)).length ≤ 1) &&
    mem.zipIdx.all (fun (g, i) => mem.zipIdx.all (fun (h, j) =>
      i == j || decide (g.dest + g.size ≤ h.dest) || decide (h.dest + h.size ≤ g.dest)))

/-- Check 5: the safety program carries its own root signature. -/
def imgSafetyOk (b : List Byte) : Bool :=
  (imgSegs b).all (fun g => g.kind != 1 ||
    (let d := segData b g
     decide (64 ≤ d.length) && sigOk Config.rootKey (sha256 (d.take (d.length - 64))) (d.drop (d.length - 64))))

/-- The reason code of the first check that fails, 0 when every one passes (R438). -/
def imgCheck (role : Nat) (b : List Byte) : Nat :=
  if !imgHeaderOk b then 1
  else if !bit (numAt b 5 1) role then 2
  else if !sigOk Config.rootKey (sha256 (slice b 32 64)) (slice b 96 64) then 3
  else if !sigOk (oemKey b) (sha256 (b.take (b.length - 64))) (b.drop (b.length - 64)) then 4
  else if !imgSafetyOk b then 5
  else if !imgLayoutOk b then 6
  else 0

/-! Acceptance (R439). -/

/-- Writes a segment as the loader does, in pieces of a line. -/
def State.loadSeg (s : State) (b : List Byte) (g : ImgSeg) : State := if g.kind = 2 then s else s.guardWrite true g.dest (segData b g)

/-- Core SRAM lines that a segment covers. -/
def segLines (g : ImgSeg) : List Nat :=
  if g.kind = 0 ∨ g.kind = 1 then
    (List.range ((g.dest % 64 + g.size + 63) / 64)).map (fun i => (g.dest - 0x10000000) / 64 + i)
  else []

/-- Keeps the line checks of the lines written, at 3016_0000h + 2 × line (R439). -/
def State.keepChecks (s : State) (b : List Byte) : State :=
  s.each ((imgSegs b).map segLines).flatten (fun s line =>
    s.guardWrite true (0x30160000 + 2 * line) (leBytes 2 (lineCheck line (s.lineBytes (s.lineKey 0 0 line)))))

/-- Fills the key slots that the mask of a key record marks. -/
def State.loadKeys (s : State) (b : List Byte) : State :=
  s.each ((imgSegs b).filter (fun g => g.kind == 2)) (fun s g =>
    let d := segData b g
    { s with node.keys := (bitList 4 (numAt d 64 4)).foldl (fun m i => Map.set [] m i ((d.drop (16 * i)).take 16)) s.node.keys })

/-- Thread 0 is created at ENTRY and started (R439). -/
def State.startThread0 (s : State) (entry : Nat) : State :=
  let pool := s.pool TY.THREAD
  let pool := if pool.free.contains 0 then
      { pool with free := pool.free.filter (· != 0), live := pool.live ++ [(0, { source := BitVec.ofNat 16 s.addr, created := s.time })] }
    else pool
  let s := s.setPool TY.THREAD pool
  let s := s.placeThread 0 (leBytes 4 entry ++ [16, 16, 0x0F, 0, 0xC0, 0xC0, 0xC0, 0xC0, 0])
  (opThreadStart 0 { handle := s.handleAt TY.THREAD 0 } s).s

/-- Staging is discarded and its pages return to the pool (R441). -/
def State.dropStaging (s : State) : State :=
  let n := s.node.imgPages.length
  let s := s.setF F.REC_POOL_FREE (s.f F.REC_POOL_FREE + n)
  { (s.setReg A.SYS_LOAD 0) with node.imgId := none, node.imgLen := 0, node.imgBlocks := [], node.imgPages := [] }

/-- An accepted image (R439): BOOT code of its source. -/
def State.acceptImage (s : State) (b : List Byte) (boot : Nat) : State :=
  let gen := (imgSegs b).filter (fun g => g.kind == 0)
  let lo := ((gen.map (·.dest)).min?).getD 0
  let hi := (gen.map (fun g => g.dest + g.size - 1)).foldl max 0
  let s := (s.setReg A.MGRD_IMG_BASE (BitVec.ofNat 32 lo)).setReg A.MGRD_IMG_LIMIT (BitVec.ofNat 32 hi)
  let s := ((s.each (imgSegs b) (fun s g => s.loadSeg b g)).keepChecks b).loadKeys b
  let s := ((s.setF F.SYS_STATE_IMG_OK 1).setF F.SYS_STATE_BOOT boot).setF F.SYS_IMG_IMG_REV (numAt b 12 4)
  let s := (s.startThread0 (numAt b 16 4)).dropStaging
  if s.node.lockoutDue then { s with node.lockoutDue := false }.go ST.LOCKOUT else s.go ST.CONFIG

/-- A refused image (R438). -/
def State.refuseImage (s : State) (reason : Nat) : State := (s.setF F.SYS_STATE_IMG_ERR reason).raise FS.SYS_IMAGE

/-- A node takes its image from MULTICAST (R441): BOOTSRC 0, and every Floret. -/
def State.stagesImage (s : State) : Bool := !s.isMeadow && (s.isFloret || !s.on F.SYS_ID_BOOTSRC)

/-! Flash (R440, R450, R451). -/

def slotBase (slot : Nat) : Nat := slot * 0x400000
def State.flashByte (s : State) (a : Nat) : Byte := Map.get 0xFF s.node.flash a
def State.flashRead (s : State) (a n : Nat) : List Byte := (List.range n).map (fun i => s.flashByte (a + i))

/-- The image in a slot: LENGTH bytes where its header gives a length within the slot, else its header alone. -/
def State.flashImage (s : State) (slot : Nat) : List Byte :=
  let n := leNat (s.flashRead (slotBase slot + 8) 4)
  s.flashRead (slotBase slot) (if n ≤ 4194304 then n else 160)

/-- IMAGE_VERIFICATION (R438, R440): of the staged image, or of the next flash slot of a node that boots from flash in LOAD. -/
def onImageVerification (s : State) : State :=
  if s.on F.SYS_STATE_IMG_OK ∨ s.st < ST.LINK then s
  else match s.node.imgPend with
    | some (b, boot) =>
      if s.st ≠ ST.LOAD then s
      else
        let s := { s with node.imgPend := none }
        match imgCheck s.role b with
        | 0 => s.acceptImage b boot
        | r => (s.refuseImage r).dropStaging
    | none =>
      if s.st = ST.LOAD ∧ s.on F.SYS_ID_BOOTSRC ∧ !s.isFloret ∧ s.node.slotsTried < 2 then
        let slot := s.node.slotsTried
        let b := s.flashImage slot
        match imgCheck s.role b with
        | 0 => s.acceptImage b (2 + slot)
        | r => { s.refuseImage r with node.slotsTried := slot + 1 }
      else s

/-- Entry to LOAD: a Meadow strapped BOOTSRC 0 stays there (R440). -/
def State.goLoad (s : State) : State :=
  let s := { s.go ST.LOAD with node.slotsTried := 0 }
  if s.isMeadow ∧ !s.on F.SYS_ID_BOOTSRC then s.refuseImage 7 else s

/-! Staging (R441). -/

/-- Blocks of an image of `n` bytes. -/
def blockCount (n : Nat) : Nat := (n + 1007) / 1008

/-- The free recorder pages, lowest first (09 R260). -/
def State.freePages (s : State) : List Nat :=
  let held := s.heldPages
  (List.range 512).filter (fun p => !held.contains p && !s.guard.retired.contains p)

/-- The first block of an image fixes IMG_ID and LENGTH and takes the pages. -/
def State.startStaging (s : State) (id len : Nat) : State :=
  let need := (len + 65535) / 65536
  let pages := s.freePages.take need
  if len = 0 ∨ 4194304 < len ∨ pages.length < need then s
  else
    let s := s.setF F.REC_POOL_FREE (s.f F.REC_POOL_FREE - need)
    let s := (s.setF F.SYS_LOAD_TOTAL (blockCount len)).setF F.SYS_LOAD_MISSING (blockCount len)
    { s with node.imgId := some id, node.imgLen := len, node.imgBlocks := [], node.imgPages := pages, node.imgLast := s.now }

/-- A block of the staged image. -/
def State.stageBlock (s : State) (blk : Nat) (data : List Byte) : State :=
  let s := { s with node.imgLast := s.now }
  let total := blockCount s.node.imgLen
  let want := if blk + 1 = total then s.node.imgLen - 1008 * blk else 1008
  if total ≤ blk ∨ data.length ≠ want ∨ s.node.imgBlocks.any (fun x => x.1 == blk) then s
  else
    let at0 := 1008 * blk
    let s := (List.range ((at0 % 65536 + data.length + 65535) / 65536)).foldl (fun s i =>
      let page := s.node.imgPages.getD (at0 / 65536 + i) 0
      let o := if i = 0 then at0 % 65536 else 0
      let k := if i = 0 then 0 else 65536 - at0 % 65536
      s.guardWrite true (0x20000000 + page * 65536 + o) ((data.drop k).take (65536 - o))) s
    let blocks := Map.set [] s.node.imgBlocks blk data
    let s := { s with node.imgBlocks := blocks }.setF F.SYS_LOAD_MISSING (total - blocks.length)
    if blocks.length = total then { s with node.imgPend := some ((blocks.map (·.2)).flatten, 1) } else s

/-- A MULTICAST payload at this node (R441). -/
def State.takeBlock (s : State) (b : List Byte) : State :=
  if !s.stagesImage ∨ s.tree.taken = [] ∨ s.on F.SYS_STATE_IMG_OK ∨ s.node.imgPend.isSome ∨ b.length < 16 then s
  else
    let id := numAt b 0 4
    let data := (b.drop 16).take (numAt b 10 2)
    let s := match s.node.imgId with
      | none => s.startStaging id (numAt b 4 4)
      | some k => if k ≠ id ∧ s.node.imgLast + 1000000000 ≤ s.now then s.dropStaging.startStaging id (numAt b 4 4) else s
    if s.node.imgId = some id then s.stageBlock (numAt b 8 2) data else s

/-! Image refetch (11 R311, R313). -/

/-- Byte of core SRAM address `a` as the image in flash gives it; 0 outside its segments. -/
def imageByte (b : List Byte) (a : Nat) : Byte :=
  match (imgSegs b).find? (fun g => decide (g.kind ≤ 1) && decide (g.dest ≤ a) && decide (a < g.dest + g.size)) with
  | some g => b.getD (g.ofs + (a - g.dest)) 0
  | none => 0

/-- A command that waited for a PENDING line goes on (R313, R315). -/
def State.resumeAccess (s : State) (x : Nat × Packet) : State :=
  let o := if x.1 = 0x0210 then opMemRead x.2 s else opMemWrite x.2 s
  if o.hold then o.s else o.s.release x.1 x.2 o.status o.payload

/-- IMAGE_REFETCH_DONE: the line that has waited longest is taken when its check fits the one kept for it in table memory, which is read
through its own check; then the accesses that wait go on. A read of a line that stays uncorrectable is answered FAULTED. -/
def onImageRefetchDone (s : State) : State :=
  match s.guard.pending with
  | [] => s
  | x :: rest =>
    let line := x.line
    let boot := s.f F.SYS_STATE_BOOT
    let b := s.flashImage (boot - 2)
    let data := (List.range 64).map (fun i => imageByte b (0x10000000 + line * 64 + i))
    let (s, kept) := s.checkedLine 1 0 (0x160000 / 64 + 2 * line / 64)
    let (n, s) := s.free
    let s := { s with guard.pending := rest }
    let good := decide (2 ≤ boot) && !Config.flashSilent n && (match kept with
      | .data d => lineCheck line data == numAt d (2 * line % 64) 2
      | _ => false)
    if good then (s.settleLine 0 0 line 2 data).each x.cmds State.resumeAccess
    else (s.uncorrectable 0 0 line).each x.cmds (fun s c =>
      if c.1 = 0x0210 then s.release c.1 c.2 Stat.FAULTED [BitVec.ofNat 8 FS.MGRD_SRAM_UE] else s.resumeAccess c)

/-! Opcodes (R450, R451). -/

/-- FW_STATUS_READ. -/
def opFwStatusRead (p : Packet) (s : State) : Out :=
  if p.params ≠ [] then refuse s Stat.BAD_PARAM else ok s (s.reg4 A.SYS_STATE ++ s.reg4 A.SYS_IMG ++ s.reg4 A.SYS_LOAD)

/-- R451. -/
def State.flashDenied (s : State) (slot : Nat) : Bool :=
  !s.on F.SYS_PANEL_MKEY || yarState s.st || s.f F.SYS_STATE_BOOT == 2 + slot

/-- FW_FLASH_ERASE. -/
def opFwFlashErase (p : Packet) (s : State) : Out :=
  let slot := numAt p.params 0 1
  if p.params.length ≠ 1 ∨ 1 < slot then refuse s Stat.BAD_PARAM
  else if s.flashDenied slot then refuse s Stat.DENIED
  else if s.node.flashOp.isSome then refuse s Stat.BUSY
  else accepted { s with node.flashOp := some (p, slot, true) }

/-- A byte programmed into the flash: over an erased byte itself, else a free value (the spec does not say). -/
def State.flashPut (s : State) (a : Nat) (v : Byte) : State :=
  if s.flashByte a = 0xFF then { s with node.flash := Map.set 0xFF s.node.flash a v }
  else
    let (n, s) := s.free
    { s with node.flash := Map.set 0xFF s.node.flash a ((Config.openWord n).truncate 8) }

def State.flashPutAll (s : State) (a : Nat) : List Byte → State
  | [] => s
  | v :: vs => (s.flashPut a v).flashPutAll (a + 1) vs

/-- FW_FLASH_WRITE. -/
def opFwFlashWrite (p : Packet) (s : State) : Out :=
  let slot := numAt p.params 0 1
  let o := numAt p.params 1 4
  let d := p.params.drop 5
  if p.params.length < 261 ∨ 1 < slot ∨ o % 256 ≠ 0 ∨ d.length % 256 ≠ 0 ∨ 1024 < d.length ∨ 0x400000 < o + d.length then refuse s Stat.BAD_PARAM
  else if s.flashDenied slot then refuse s Stat.DENIED
  else
    let (n, s) := s.free
    if Config.flashSilent n then refuse s Stat.TIMEOUT else ok (s.flashPutAll (slotBase slot + o) d)

/-- FW_FLASH_READ. -/
def opFwFlashRead (p : Packet) (s : State) : Out :=
  let slot := numAt p.params 0 1
  let o := numAt p.params 1 4
  let n := numAt p.params 5 2
  if p.params.length ≠ 7 ∨ 1 < slot ∨ n < 4 ∨ 1024 < n ∨ 0x400000 < o + n then refuse s Stat.BAD_PARAM
  else ok s (s.flashRead (slotBase slot + o) n)

/-- FW_FLASH_CHECK. -/
def opFwFlashCheck (p : Packet) (s : State) : Out :=
  let slot := numAt p.params 0 1
  if p.params.length ≠ 1 ∨ 1 < slot then refuse s Stat.BAD_PARAM
  else if s.node.flashOp.isSome then refuse s Stat.BUSY
  else accepted { s with node.flashOp := some (p, slot, false) }

/-- FLASH_ERASE_DONE: the flash has answered, or not. -/
def onFlashEraseDone (answered : Bool) (s : State) : State :=
  match s.node.flashOp with
  | some (p, slot, true) =>
    let s := { s with node.flashOp := none }
    if answered then
      ({ s with node.flash := s.node.flash.filter (fun x => decide (x.1 < slotBase slot) || decide (slotBase (slot + 1) ≤ x.1)) }).finalReply
        0x0F01 p Stat.OK []
    else s.finalReply 0x0F01 p Stat.TIMEOUT []
  | _ => s

/-- FLASH_CHECK_DONE. -/
def onFlashCheckDone (s : State) : State :=
  match s.node.flashOp with
  | some (p, slot, false) =>
    let s := { s with node.flashOp := none }
    let b := s.flashImage slot
    match imgCheck s.role b with
    | 0 => s.finalReply 0x0F04 p Stat.OK (slice b 12 4)
    | r => s.finalReply 0x0F04 p Stat.BAD_PARAM [BitVec.ofNat 8 r]
  | _ => s

end Sys2Proof.Machine
end

