-- ==== Sys2Proof/Machine/Panel.lean ====
section
/-!
DEFINITION. Panel.lean: supplies, maintenance key, LEDs, identify, start credit wait, JTAG (17 R430, R443, R445 to R448; 18 R464).
-/
namespace Sys2Proof.Machine
open Sys2Proof

/-- SUPPLY_WINDOW_EXIT (17 R430). -/
def onSupplyWindowExit (supply : Fin 5) (s : State) : State :=
  if s.node.supplyOut.getLsbD supply then s
  else (({ s with node.supplyOut := s.node.supplyOut ||| BitVec.ofNat 5 (2 ^ supply.val) }.setBit F.SYS_SUPPLY_OUT supply).bump
    F.SYS_SUPPLY_EVENTS).raise FS.SYS_SUPPLY

/-- SUPPLY_WINDOW_RETURN (17 R430). -/
def onSupplyWindowReturn (supply : Fin 5) (s : State) : State :=
  { s with node.supplyOut := s.node.supplyOut &&& ~~~(BitVec.ofNat 5 (2 ^ supply.val)) }.clrBit F.SYS_SUPPLY_OUT supply

/-- MKEY (17 R445): the debounced key stands in maintenance, or not. -/
def onMkey (maintenance : Bool) (s : State) : State :=
  if s.on F.SYS_PANEL_MKEY = maintenance then s else (s.setF F.SYS_PANEL_MKEY (b2n maintenance)).raise FS.SYS_MKEY

/-- SYS_CREDIT_WAIT (17 R443): 10 s in WAIT_CREDIT. -/
def onSysCreditWait (s : State) : State :=
  if s.st = ST.WAIT_CREDIT ∧ !s.node.creditWaitRaised then
    { s.reachNow (s.node.since + 10000000000) with node.creditWaitRaised := true }.raise FS.SYS_CREDIT_WAIT
  else s

/-! LEDs (17 R447, R448). -/

namespace LED
abbrev OFF : Nat := 0
abbrev ON : Nat := 1
abbrev SLOW : Nat := 2
abbrev FAST : Nat := 3
abbrev FLASH : Nat := 4
abbrev DOUBLE : Nat := 5
abbrev TRIPLE : Nat := 6
abbrev WINK : Nat := 7
end LED

/-- A pattern is lit at `ms` of the second (R447). -/
def patternLit (p ms : Nat) : Bool :=
  match p with
  | 1 => true
  | 2 => decide (ms < 500)
  | 3 => ms / 125 % 2 == 0
  | 4 => decide (ms < 100)
  | 5 => decide (ms < 100) || (decide (200 ≤ ms) && decide (ms < 300))
  | 6 => decide (ms < 100) || (decide (200 ≤ ms) && decide (ms < 300)) || (decide (400 ≤ ms) && decide (ms < 500))
  | 7 => decide (100 ≤ ms)
  | _ => false

/-- LED0 by node state. -/
def stateLed (st : Nat) : Nat :=
  ([LED.OFF, LED.FAST, LED.SLOW, LED.SLOW, LED.DOUBLE, LED.FLASH, LED.TRIPLE, LED.WINK, LED.ON, LED.ON, LED.OFF, LED.OFF] : List Nat).getD st 0

/-- The lane carries its link: UP, or HOST on a host lane. -/
def State.laneLinked (s : State) (n : Nat) : Bool := s.laneUp n || s.laneSt n == 8

/-- Pattern of each LED (R448). -/
def State.ledPattern (s : State) (n : Nat) : Nat :=
  if s.on F.SYS_LED_TEST then LED.ON
  else if s.f F.SYS_PANEL_IDENT ≠ 0 then LED.FAST
  else match n with
    | 0 => stateLed s.st
    | 1 =>
      if s.st = ST.LOCKOUT then LED.FAST
      else if s.st = ST.BLOCKED ∨ 2 ≤ s.standing then LED.ON
      else if s.standing = 1 then LED.SLOW else LED.OFF
    | 2 =>
      if s.st ≤ ST.SELFTEST then LED.OFF
      else if (if s.isMeadow then s.xLane.isNone else s.uplinks.all (fun n => !s.laneUp n)) then LED.FAST
      else if laneNumbers.any (fun k => s.use k != 0 && (!s.laneLinked k || s.on (F.LANE_STATUS_DEGRADED k) || s.on (F.LANE_STATUS_MISWIRE k))) then LED.SLOW
      else LED.ON
    | _ =>
      if s.twin.swap.isSome then LED.FLASH
      else if s.twin.ejected then LED.DOUBLE
      else if s.now < s.node.ejectRefused then LED.TRIPLE
      else if s.safe.winEnd.isSome then LED.FAST
      else if s.causes ≠ 0 then LED.ON
      else if s.on F.SYS_PANEL_MKEY then LED.SLOW else LED.OFF

/-- SYS_LED as it reads. -/
def State.ledWord (s : State) : Word :=
  BitVec.ofNat 32 (s.f F.SYS_LED_TEST * 2 ^ 31 + ((List.range 4).map (fun n => s.ledPattern n * 16 ^ n)).foldl (· + ·) 0)

/-- Levels of the LED balls at the present instant. -/
def State.ledLevels (s : State) : BitVec 4 :=
  let ms := s.time / 1000000 % 1000
  BitVec.ofNat 4 (ofBits ((List.range 4).filter (fun n => patternLit (s.ledPattern n) ms)))

/-- The points of a second at which a pattern may change, ms. -/
def ledPoints : List Nat := [0, 100, 125, 200, 250, 300, 375, 400, 500, 625, 750, 875]

/-- LED_PATTERN_CHANGE (R447): the next point of the second. -/
def onLedPatternChange (s : State) : State :=
  let sec := s.time / 1000000000
  let o := s.time % 1000000000
  let here := ledPoints.any (fun m => m * 1000000 == o) && s.node.leds != s.ledLevels
  let s := if here then s
    else match ledPoints.find? (fun m => decide (o < m * 1000000)) with
      | some m => s.reachTime ((sec * 1000000000 + m * 1000000) * 1000)
      | none => s.reachTime ((sec + 1) * 1000000000000)
  { s with node.leds := s.ledLevels }

/-- IDENT is written (R448, R450). -/
def State.setIdent (s : State) (v : Nat) : State :=
  { s.setF F.SYS_PANEL_IDENT v with node.identEnd := s.now + v * 1000000000 }

/-- SYS_IDENT (R450). -/
def opSysIdent (p : Packet) (s : State) : Out :=
  if p.params.length ≠ 1 then refuse s Stat.BAD_PARAM else ok (s.setIdent (numAt p.params 0 1))

/-- IDENT as it reads: the seconds left. -/
def State.identLeft (s : State) : Nat := if s.f F.SYS_PANEL_IDENT = 0 then 0 else (s.node.identEnd - s.now + 999999999) / 1000000000

/-- IDENT_END (R448). -/
def onIdentEnd (s : State) : State :=
  if s.f F.SYS_PANEL_IDENT = 0 then s else (s.reachNow s.node.identEnd).setF F.SYS_PANEL_IDENT 0

/-- EJECT_REFUSAL_DISPLAY_END (R448). -/
def onEjectRefusalDisplayEnd (s : State) : State := s.reachNow s.node.ejectRefused

/-! JTAG (18 R464). -/

/-- The instruction a code selects: the listed ones, else BYPASS; boundary scan that drives balls is BYPASS in RUN and HOLD. -/
def State.jtagSelect (s : State) (code : BitVec 5) : BitVec 5 :=
  let c := code.toNat
  if c = 0 ∨ c = 4 ∨ c = 5 then (if yarState s.st then 31 else code)
  else if c = 1 ∨ c = 2 ∨ c = 16 ∨ c = 17 then code else 31

/-- JTAG_INSTRUCTION (18 R464). -/
def onJtagInstruction (code : BitVec 5) (s : State) : State :=
  let ir := s.jtagSelect code
  { s with node.jtagIr := ir, node.bscan := ir == 0 || ir == 4 || ir == 5 }

/-- TEST_LOGIC_RESET (18 R464). -/
def onTestLogicReset (s : State) : State := { s with node.jtagIr := 2, node.bscan := false }

end Sys2Proof.Machine
end

