-- ==== Sys2Proof/Machine/View.lean ====
section
/-!
DEFINITION. View.lean: reading a register (00 R8 to R11): the value held, with the fields that show other state computed
at the read, and what a read clears or latches.
-/
namespace Sys2Proof.Machine
open Sys2Proof

/-- A register that this role does not have: it reads 0 and ignores writes (05 R168, 15 R392, 07 R209). -/
def State.hiddenReg (s : State) (a : Nat) : Bool :=
  if 0x50004 ≤ a ∧ a < 0x50040 then !s.isFloret
  else if 0x50040 ≤ a ∧ a < 0x50100 then !s.isUmbel
  else if 0x50100 ≤ a ∧ a < 0x60000 then !s.isMeadow
  else if 0xE0100 ≤ a ∧ a < 0xF0000 then !s.isFloret
  else if (0x78200 ≤ a ∧ a < 0x78400) ∨ (0x78800 ≤ a ∧ a < 0x78880) then !s.isMeadow
  else false

/-- Per mille of the code-groups of the last 1 ms at a rate code (03 LANE_LOAD). -/
def loadOf (rate now : Nat) (log : List (Nat × Nat)) : Nat :=
  min 1000 (((log.filter (fun x => decide (now < x.1 + 1000000))).map (·.2)).foldl (· + ·) 0 * 1000 / (125000 * 2 ^ rate))

/-- Notes code-groups sent or received on a lane, and forgets those older than 1 ms. -/
def noteLoad (now n : Nat) (log : List (Nat × Nat)) : List (Nat × Nat) :=
  log.filter (fun x => decide (now < x.1 + 1000000)) ++ [(now, n)]

/-- Uplinks and host lanes: LANE_CFG.RATE is not written (03, LANE_CFG). -/
def State.rateFixed (s : State) (n : Nat) : Bool := (!s.isMeadow && decide (n < 2)) || s.f (F.LANE_CFG_MODE n) == 1

/-- Lane of the source that the node steers to (02 R46), SOURCE of TICK_STATUS: 0 REFCLK, 1 uplink A, 2 uplink B, 3 cross-link. -/
def State.timeSource (s : State) : Nat :=
  if s.activeMeadow then 0
  else if s.isMeadow then 3
  else if s.dualHomed then s.f F.TWIN_CHILD_FOLLOW + 1
  else if s.laneUp 0 && (s.lane 0).carried && (s.lane 0).miss == 0 then 1
  else if s.laneUp 1 then 2 else 1

/-- TICK_STATUS (02). -/
def State.tickStatus (s : State) : Nat :=
  let valid := match s.clk.ppsEdge with
    | some t => s.isMeadow && decide (s.now ≤ t + 1000001000)
    | none => false
  let aligned := s.activeMeadow || (s.node.synced && s.st != ST.SYNC && decide (s.clk.badTicks < 16))
  let lock := if s.activeMeadow then 4 else if s.f F.TICK_STATUS_LOCK = 3 then 3 else if s.st = ST.SYNC then 1
    else if s.node.synced then 2 else 0
  b2n valid * 512 + b2n aligned * 256 + s.timeSource * 16 + lock

/-- Units that request a start credit and have no grant (17 R444). -/
def State.creditPending (s : State) : Nat :=
  (s.units.filter (fun n => (s.unit n).frame != [] && (parseUp (s.unit n).frame).creditReq && !(s.unit n).credit)).length

/-- One register as a read returns it, reading nothing else and changing nothing. -/
def State.view (s : State) (a : Nat) : Word :=
  let raw := (s.reg a).toNat
  let w (n : Nat) : Word := BitVec.ofNat 32 n
  if s.hiddenReg a then 0
  else if a < 0x10000 then
    if a = A.SYS_CREDIT then w (F.SYS_CREDIT_PENDING.put raw s.creditPending)
    else if a = A.SYS_PANEL then w (F.SYS_PANEL_IDENT.put raw s.identLeft)
    else if a = A.SYS_LED then s.ledWord
    else s.reg a
  else if a < 0x20000 then
    if a = A.TICK_STATUS then w s.tickStatus
    else if a = A.TICK_OFFSET then (if s.activeMeadow then 0 else s.reg a)
    else if a = A.TICK_TIME_LO then w s.time
    else if a = A.TICK_TIME_HI then w s.clk.timeLatch
    else if a = A.TICK_PH_APPLY then w (s.f F.TICK_CFG_TICK_PERIOD - 100)
    else s.reg a
  else if a < 0x28000 then
    let n := a / 1024 % 32
    if a = A.LANE_CFG n then
      if s.f (F.LANE_CFG_MODE n) = 1 then w ((F.LANE_CFG_RATE n).put raw 0)
      else s.reg a
    else if a = A.LANE_LOAD n then
      let r := s.f (F.LANE_STATUS_RATE_NOW n)
      w (loadOf r s.now (s.lane n).rxLog * 65536 + loadOf r s.now (s.lane n).txLog)
    else if a = A.LANE_PRBS_TIME n then
      if s.laneSt n = 6 then w (min (s.now - (s.lane n).prbsStart) ((s.lane n).prbsEnd - (s.lane n).prbsStart) / 1000000) else s.reg a
    else s.reg a
  else if a < 0x40000 then
    if a = A.CMD_LOAD then
      w (s.cmd.c0q.length * 2 ^ 24 + s.cmd.q3.length * 2 ^ 16 + s.cmd.q2.length * 2 ^ 8 + s.cmd.tracked.length)
    else if a = A.CMD_KEY then w (s.cmd.sessions.length * 256 + ofBits (s.node.keys.map (·.1)))
    else s.reg a
  else if a = A.DISP_STAT then w s.dispStat
  else if 0x78000 ≤ a ∧ a < 0x7C000 then s.sig ((a - 0x78000) / 4)
  else if 0x70040 ≤ a ∧ a < 0x70080 then
    let k := (a - 0x70040) / 4
    w ((F.LOOP_SS_ACTIVE k).put raw (b2n (s.isMeadow && s.loop.ssSeen.contains k && s.on (F.LOOP_SS_EN k))))
  else if a = A.YAR_STAG then
    w (F.YAR_STAG_OFFSET.put raw s.stagOffset)
  else if a = A.SWU_CTRL then
    w (F.SWU_CTRL_CHAN.put (F.SWU_CTRL_YPAIRS.put raw (ofBits s.yarPairs)) (ofBits (pairNumbers.filter s.hasChan)))
  else if a = A.SWU_FLT then
    w (F.SWU_FLT_FORCED.put (F.SWU_FLT_DBG_FORCE.put (F.SWU_FLT_BLOCK_REQ.put raw (b2n s.blockReq)) (b2n s.dbgForce))
      (ofBits (pairNumbers.filter s.forced)))
  else if a = A.SWU_LEVELS then
    w (s.swu.faultin.toNat * 65536 + s.swu.gofb.toNat * 256 + ofBits ((List.range 8).filter s.goLevel))
  else if a = A.FHUB_REC_TIME_HI then w s.hub.timeLatch
  else if a = A.FHUB_REC_MERGE then s.mergeWord
  else if a = A.FHUB_STAT then s.hubStat
  else if a = A.SAFE_PANEL then
    w (F.SAFE_PANEL_WIN_LEFT.put raw (match s.safe.winEnd with
      | some t => (t - s.now + 999999999) / 1000000000
      | none => 0))
  else if 0xC0000 ≤ a ∧ a < 0xD0000 then
    match outNumbers.find? (fun n => A.SAFE_OUT n == a) with
    | some n => w ((F.SAFE_OUT_DEG_LEFT n).put raw (match Map.get none s.safe.degEnd n with
      | some t => (t - s.now + 99999999) / 100000000
      | none => 0))
    | none => s.reg a
  else if a = A.TWIN_STAT then w (F.TWIN_STAT_XLINK_UP.put raw (b2n s.xLane.isSome))
  else if a = A.TWIN_LAST_HI then w s.twin.lastLatch
  else if 0xF0000 ≤ a then
    match boxNumbers.find? (fun m => A.FBUS_M_STAMP_HI m == a) with
    | some m => w (s.box m).hi
    | none => s.reg a
  else s.reg a

/-- Bits of a family's fields with an access code. -/
def accBits (f : RegFamily) (p : Acc → Bool) : Nat :=
  (f.fields.filter (fun x => p x.2.2)).foldl (fun m x => m ||| (2 ^ (x.1 + 1) - 2 ^ x.2.1)) 0

/-- What a read leaves behind: RC fields cleared, upper halves latched, a received frame read (R9). -/
def State.afterRead (s : State) (a : Nat) : State :=
  let s := match regFamilyAt a with
    | some f =>
      let m := accBits f (· == .rc)
      if m = 0 then s else s.setReg a (s.reg a &&& ~~~ BitVec.ofNat 32 m)
    | none => s
  if a = A.TICK_TIME_LO then { s with clk.timeLatch := s.time / 2 ^ 32 }
  else if a = A.FHUB_REC_TIME_LO then { s with hub.timeLatch := (s.reg A.FHUB_REC_TIME_HI).toNat }
  else if a = A.TWIN_LAST_LO then { s with twin.lastLatch := (s.reg A.TWIN_LAST_HI).toNat }
  else if 0xF2000 ≤ a then
    match boxNumbers.find? (fun m => A.FBUS_M_CFG m ≤ a && decide (a < A.FBUS_M_CFG (m + 1))) with
    | some m =>
      let s := if a = A.FBUS_M_STAMP_LO m then s.updBox m (fun x => { x with hi := (s.reg (A.FBUS_M_STAMP_HI m)).toNat }) else s
      if A.FBUS_M_FRAME m ≤ a then s.updBox m (fun x => { x with unread := false }) else s
    | none => s
  else s

/-- A read of one register. -/
def State.readReg (s : State) (a : Nat) : Word × State := (s.view a, s.afterRead a)

/-- Four bytes of a register as it reads. -/
def State.view4 (s : State) (a : Nat) : List Byte := leBytes 4 (s.view a).toNat

/-! Opcodes that answer registers as they read. -/

/-- TWIN_READ (14 R391). -/
def opTwinRead (p : Packet) (s : State) : Out :=
  if p.params ≠ [] then refuse s Stat.BAD_PARAM
  else
    let b := s.view4 A.TWIN_STAT ++ s.reg4 A.TWIN_WIT ++ s.reg4 A.TWIN_IMG ++ s.reg4 A.TWIN_AGE
    ok s (if p.cls = 0 then b else b ++ s.reg4 A.TWIN_CNT ++ s.reg4 A.TWIN_LAST_LO ++ s.reg4 A.TWIN_LAST_HI ++ s.reg4 A.TWIN_CHILD ++ s.reg4 A.TWIN_CFG)

/-- SAFE_STATUS_READ (13 R370). -/
def opSafeStatusRead (p : Packet) (s : State) : Out :=
  if p.params ≠ [] then refuse s Stat.BAD_PARAM
  else
    let b := s.reg4 A.SAFE_STAT ++ s.reg4 A.SAFE_CAUSE ++ s.view4 A.SAFE_PANEL ++ s.reg4 A.SAFE_ACK
    ok s (if p.cls = 0 then b else b ++ (outNumbers.map (fun n => s.reg4 (A.SAFE_IN n))).flatten)

/-- SAFE_OUT_READ (13 R370). -/
def opSafeOutRead (p : Packet) (s : State) : Out :=
  if p.params ≠ [] then refuse s Stat.BAD_PARAM
  else
    let b := (outNumbers.map (fun n => s.view4 (A.SAFE_OUT n))).flatten
    ok s (if p.cls = 0 then b else b ++ s.reg4 A.SAFE_REC ++ s.reg4 (A.SAFE_SS 0) ++ s.reg4 (A.SAFE_SS 1) ++ s.reg4 (A.SAFE_SS 2))

end Sys2Proof.Machine
end

