-- ==== Sys2Proof/Machine/Recorder.lean ====
section
/-!
DEFINITION. Recorder.lean: captures, trend streams, comparators, trigger sequencer and system triggers
(09_recorder.md).
-/
namespace Sys2Proof.Machine
open Sys2Proof

def State.cap (s : State) (n : Nat) : CapSt := Map.get {} s.recorder.caps n
def State.setCap (s : State) (n : Nat) (c : CapSt) : State := { s with recorder.caps := Map.set {} s.recorder.caps n c }
def State.updCap (s : State) (n : Nat) (g : CapSt → CapSt) : State := s.setCap n (g (s.cap n))
def State.trend (s : State) (n : Nat) : TrendSt := Map.get {} s.recorder.trends n
def State.setTrend (s : State) (n : Nat) (t : TrendSt) : State := { s with recorder.trends := Map.set {} s.recorder.trends n t }
def State.updTrend (s : State) (n : Nat) (g : TrendSt → TrendSt) : State := s.setTrend n (g (s.trend n))
def capNumbers : List Nat := List.range 16
def trendNumbers : List Nat := List.range 8

namespace CAP
abbrev IDLE : Nat := 0
abbrev ARMED : Nat := 1
abbrev TRIGGERED : Nat := 2
abbrev DONE : Nat := 3
abbrev STOPPED : Nat := 4
abbrev OVERFLOW : Nat := 5
end CAP

def State.capState (s : State) (n : Nat) : Nat := s.f (F.REC_CAP_STAT_STATE n)

/-! Channels (R257). -/

def chanKind (d : Nat) : Nat := bits d 31 28
def chanArg (d : Nat) : Nat := d % 2 ^ 28

/-- Words of a channel. -/
def chanSize (d : Nat) : Nat := if chanKind d = 3 then 18 else 1

/-- A descriptor that R257 allows. -/
def chanOk (d : Nat) : Bool :=
  let a := chanArg d
  match chanKind d with
  | 0 => decide (a < 128)
  | 1 => decide (a < 4096)
  | 2 => decide (a < 2 ^ 20) && a % 4 == 0
  | 3 => a == 0 || (decide (2 ≤ a) && decide (a ≤ 0x1F)) || (decide (0x40 ≤ a) && decide (a ≤ 0x4F))
  | 4 => a == 0
  | _ => false

/-- Words of a Tally channel. -/
def tallyWords (t : Tally) (st : Nat) : List Nat :=
  (List.range 16).map (fun i => t.bins.getD (2 * i) 0 + t.bins.getD (2 * i + 1) 0 * 65536) ++
    [t.avail + t.unavail * 65536, t.stale + st * 65536]

/-- Words of a channel at this clk. -/
def State.chanWords (s : State) (d : Nat) : List Nat :=
  let a := chanArg d
  match chanKind d with
  | 0 => [(s.reg (A.MEAS_RES (a / 32) (a % 32))).toNat]
  | 1 => [(s.sig a).toNat]
  | 2 => [if (regFamilyAt a).isSome then (s.view a).toNat else 0]
  | 3 => if a = 0 then tallyWords s.yar.own 0
         else if a < 0x40 then tallyWords (s.unit a).used (s.unit a).status
         else tallyWords (Map.get {} s.yar.strings (a - 0x40)) 0
  | _ => [s.time % 2 ^ 32]

/-- SAMPLE_BYTES (R259). -/
def sampleBytes (chans : List Nat) (clock : Nat) : Nat := 4 * ((chans.map chanSize).foldl (· + ·) 0 + clock)

/-- One sample; `t0` is the leading time word of CLOCK 1h. -/
def State.sampleData (s : State) (chans : List Nat) (clock t0 : Nat) : List Byte :=
  (((if clock = 1 then [t0] else []) ++ (chans.map s.chanWords).flatten).map (leBytes 4)).flatten

/-- Samples of a capture page (R259). -/
def CapSt.spp (c : CapSt) : Nat := 65408 / sampleBytes c.chans c.clock

/-- INTERVAL of a header (R266). -/
def State.interval (s : State) (clock div : Nat) : Nat := if clock = 0 then div * s.clk.tickLen * 2 else 0

/-! The write buffer (R264): it drains 1 byte in each ns. -/

def State.bufNow (s : State) : Nat := s.recorder.buf - (s.now - s.recorder.bufAt)
def State.fillBuf (s : State) (n : Nat) : State := { s with recorder.buf := s.bufNow + n, recorder.bufAt := s.now }

/-! Pages (R255, R256, R266). -/

/-- FREE follows the pages in use. -/
def State.showFree (s : State) : State := s.setF F.REC_POOL_FREE s.freePages.length

/-- Samples held and taken around the trigger sample, pages held. -/
def State.showCap (s : State) (n : Nat) : State :=
  let c := s.cap n
  let first := (c.ring.head?.map (·.first)).getD c.taken
  let (a, b) := match c.trig with
    | some t => ((t.sample - first).toNat, (c.taken - 1 - t.sample : Int).toNat)
    | none => (c.taken - first, 0)
  ((s.setF (F.REC_CAP_PRE_COUNT n) a).setF (F.REC_CAP_POST_COUNT n) b).setF (F.REC_CAP_STAT_PAGES n) (c.ring.length + c.spare.length)

/-- Header of a capture page (R266). FIRST_INDEX of a record without a trigger is left open by the spec: a free value. -/
def State.capHeader (s : State) (n : Nat) (pg : RecPage) (no total : Nat) : State × List Byte :=
  let c := s.cap n
  let st := s.capState n
  let (k, s) := s.free
  let idx := match c.trig with
    | some t => unsigned 32 (pg.first - t.sample)
    | none => (Config.openWord k).toNat
  let hasTrig := match c.trig with
    | some t => decide ((pg.first : Int) ≤ t.sample) && decide (t.sample < pg.first + pg.count)
    | none => false
  let last := decide (no + 1 = total) && decide (CAP.DONE ≤ st)
  let flags := b2n hasTrig + 2 * b2n (last && st == CAP.OVERFLOW) + 4 * b2n last + 8 * c.clock + 16 * b2n (last && st == CAP.STOPPED)
  let t := c.trig.getD {}
  let h := [1, BitVec.ofNat 8 flags] ++ leBytes 2 s.addr ++ leBytes 4 (s.handleAt TY.CAPTURE n).toNat ++ leBytes 2 no ++ leBytes 2 total ++
    leBytes 2 (sampleBytes c.chans c.clock) ++ leBytes 2 pg.count ++ leBytes 8 pg.tFirst ++ leBytes 4 idx ++
    leBytes 4 (s.interval c.clock c.div) ++ leBytes 8 (if c.trig.isSome then t.time else 0) ++
    [BitVec.ofNat 8 (t.tsub + 16 * t.trigId), BitVec.ofNat 8 t.cause, BitVec.ofNat 8 c.chans.length, BitVec.ofNat 8 c.clock] ++
    leBytes 4 c.div ++ ((List.range 16).map (fun i => leBytes 4 (c.chans.getD i 0))).flatten ++ List.replicate 12 0
  (s, h ++ leBytes 4 (crc32 h))

def pageBase (page : Nat) : Nat := 0x20000000 + page * 65536

/-- Writes the header of the `i`-th page of a record. -/
def State.writeHeader (s : State) (n i : Nat) : State :=
  let c := s.cap n
  match c.ring[i]? with
  | none => s
  | some pg =>
    let (s, h) := s.capHeader n pg i c.ring.length
    s.guardWrite false (pageBase pg.page) h

/-- A capture ends in a state: its last page closes, its headers wait for their rewrite (R263 to R265). -/
def State.endCapture (s : State) (n st : Nat) : State :=
  let s := (s.setF (F.REC_CAP_STAT_STATE n) st).updCap n (fun c => { c with headersDue := true })
  let s := s.writeHeader n ((s.cap n).ring.length - 1)
  s.raiseIf (st == CAP.DONE || st == CAP.OVERFLOW) FS.REC_CAPTURE_DONE

/-- Clk of a trigger's instant, in global time. -/
def RecTrig.clk (t : RecTrig) : Nat := (t.time * 1000 + t.tsub * 125) / 2000

/-- The trigger sample (R262): the last one latched at or before the clk of the instant. -/
def CapSt.triggerSample (c : CapSt) (t : RecTrig) : Int := (c.taken : Int) - 1 - (c.latched.filter (fun l => decide (t.clk < l / 2000))).length

/-- The last `k` samples leave a record; a page left without a sample is held and not used. -/
def CapSt.cut (c : CapSt) : Nat → CapSt
  | 0 => c
  | k + 1 =>
    match c.ring.getLast? with
    | none => c
    | some p =>
      let c := if p.count ≤ 1 then { c with ring := c.ring.dropLast, spare := p.page :: c.spare }
        else { c with ring := c.ring.dropLast ++ [{ p with count := p.count - 1 }] }
      { c with taken := c.taken - 1 }.cut k

/-- The record ends at the trigger sample (R263). -/
def CapSt.endAtTrigger (c : CapSt) : CapSt :=
  match c.trig with
  | some t => c.cut ((c.taken : Int) - 1 - t.sample).toNat
  | none => c

/-- Something acted in the present clk, at elapsed `t` ps. -/
def State.inClk (s : State) (t : Nat) : Bool := t / 2000 == s.clk.nowPs / 2000

/-- A capture's trigger acts in this clk (R262): cause bits, TRIG_ID, instant in ns and 125 ps. POST 0 ends the capture at once; one that
was stopped in this same clk takes the trigger and ends at its sample (R263); events of one clk make one trigger. -/
def State.triggerCap (s : State) (n cause trigId time tsub : Nat) : State :=
  let c := s.cap n
  let t : RecTrig := { time := time, tsub := tsub, trigId := trigId, cause := cause, actedAt := s.clk.nowPs }
  let t := { t with sample := c.triggerSample t }
  if s.capState n = CAP.ARMED then
    let s := (s.setF (F.REC_CAP_STAT_STATE n) CAP.TRIGGERED).setCap n { c with trig := some t }
    let s := if t.sample + c.post ≤ (c.taken : Int) - 1 then (s.updCap n (·.cut (c.taken - 1 - t.sample - c.post : Int).toNat)).endCapture n CAP.DONE else s
    s.showCap n
  else match c.trig with
    | some t =>
      if s.inClk t.actedAt then
        s.setCap n { c with trig := some { t with cause := t.cause ||| cause, trigId := if bit cause 1 then trigId else t.trigId } }
      else s
    | none =>
      if s.capState n = CAP.STOPPED ∧ c.stopAt.any s.inClk then
        ((s.setCap n { c with trig := some t }.endAtTrigger).endCapture n CAP.STOPPED).showCap n
      else s

/-- Before a sample in ARMED, full oldest pages leave the ring while the rest, with that sample, holds PRE samples before it. -/
def trimRing (pre spp : Nat) : Nat → List RecPage → List Nat → List RecPage × List Nat
  | 0, ring, spare => (ring, spare)
  | k + 1, ring, spare => match ring with
    | p :: rest =>
      if spp ≤ p.count ∧ pre ≤ (rest.map (·.count)).foldl (· + ·) 0 then trimRing pre spp k rest (spare ++ [p.page]) else (ring, spare)
    | [] => (ring, spare)

/-- Places one sample in the ring of a capture, opening a page when the last is full. -/
def State.putSample (s : State) (n time : Nat) (data : List Byte) : State :=
  let c := s.cap n
  let full := match c.ring.getLast? with
    | some p => decide (c.spp ≤ p.count)
    | none => true
  let s := s.when (full && c.ring != []) (fun s => s.writeHeader n (c.ring.length - 1))
  let (ring, spare) := if s.capState n = CAP.ARMED then trimRing c.pre c.spp c.ring.length c.ring c.spare else (c.ring, c.spare)
  let opened (p : Nat) : RecPage := { page := p, first := c.taken, tFirst := time, count := 0 }
  let (ring, spare) := match full, spare with
    | true, p :: rest => (ring ++ [opened p], rest)
    | _, sp => (ring, sp)
  match ring.getLast? with
  | none => s
  | some p =>
    let s := s.guardWrite false (pageBase p.page + 128 + p.count * sampleBytes c.chans c.clock) data
    s.setCap n { c with ring := ring.dropLast ++ [{ p with count := p.count + 1 }], spare := spare, taken := c.taken + 1
                        latched := (s.clk.timePs :: c.latched).take 8 }

/-- A sample latched in the clk of the trigger is the trigger sample (R262), whichever of the two is told first. -/
def CapSt.sameClk (c : CapSt) (timePs : Nat) : Bool :=
  match c.trig with
  | some t => decide (timePs / 2000 ≤ t.clk) && t.sample + 1 == (c.taken : Int)
  | none => false

/-- A sample clock event of a capture (R258, R263, R264); `time` is the sample time, `t0` the time word of CLOCK 1h. -/
def State.sampleCap (s : State) (time t0 n : Nat) : State :=
  let c := s.cap n
  let own := c.sameClk s.clk.timePs
  if s.capState n ≠ CAP.ARMED ∧ s.capState n ≠ CAP.TRIGGERED ∧ !(own && s.capState n == CAP.DONE && c.post == 0) then s
  else
    let b := sampleBytes c.chans c.clock
    if 8192 < s.bufNow + b then
      ((s.bump F.REC_STAT_OVF_CNT).endCapture n CAP.OVERFLOW).raise FS.REC_OVERFLOW
    else
      let s := (s.fillBuf b).putSample n time (s.sampleData c.chans c.clock t0)
      let s := s.when own (fun s => s.updCap n (fun c => { c with trig := c.trig.map (fun t => { t with sample := t.sample + 1 }) }))
      let c := s.cap n
      let fin := match c.trig with
        | some t => decide (t.sample + c.post ≤ (c.taken : Int) - 1)
        | none => false
      (if s.capState n = CAP.DONE then s.writeHeader n (c.ring.length - 1) else if fin then s.endCapture n CAP.DONE else s).showCap n

/-! Trend streams (R275 to R277). -/

/-- Blocks that the ring of a stream holds. -/
def TrendSt.slots (t : TrendSt) : Nat := 64 * t.pages.length

/-- Address of a place in the ring of a stream. -/
def TrendSt.blockAt (t : TrendSt) (place : Nat) : Nat := pageBase (t.pages.getD (place / 64) 0) + place % 64 * 1024


/-- Lane that carries a stream's blocks: towards its ROUTE, or the host lane of its port at this node. -/
def State.trendLane (s : State) (route : BitVec 16) : Option Nat :=
  let dest := route.toNat % 8192
  if dest = s.addr then (if route.toNat / 8192 = 1 ∨ route.toNat / 8192 = 2 then s.portLane (route.toNat / 8192) else none)
  else match s.route dest with
    | .lane n => some n
    | _ => none

/-- A condition of R276 holds now. -/
def State.trendTight (s : State) (t : TrendSt) : Bool :=
  decide (t.slots ≤ t.closed.length + t.flying + 1) ||
    (match s.trendLane t.route with
     | some n => decide (900 < loadOf (s.f (F.LANE_STATUS_RATE_NOW n)) s.now (s.lane n).txLog)
     | none => false)

/-- Header and samples of a block, LOST apart (R275). -/
def State.trendBlock (s : State) (n : Nat) (t : TrendSt) : List Byte :=
  [1, BitVec.ofNat 8 (s.f (F.REC_TR_STAT_DECIM n))] ++ leBytes 2 s.addr ++ leBytes 2 t.route.toNat ++ leBytes 2 t.fill.length ++
    leBytes 4 t.handle.toNat ++ leBytes 4 t.seq ++ leBytes 8 t.fillTime ++ leBytes 4 t.fillIndex ++
    leBytes 4 (s.interval t.clock t.div) ++ [BitVec.ofNat 8 (sampleBytes t.chans t.clock / 4), BitVec.ofNat 8 t.clock] ++ leBytes 2 0 ++
    List.replicate 4 0 ++ t.fill.flatten

/-- The full ring loses its oldest unsent block (R277). -/
def State.loseBlock (s : State) (n : Nat) : State :=
  let t := s.trend n
  let s := s.setTrend n { t with closed := t.closed.drop 1, lost := min 0xFFFF (t.lost + 1) }
  let s := (s.bump (F.REC_TR_LOST_LOST n)).bump F.REC_STAT_TREND_LOST
  let said (s : State) : State := State.raise { s with recorder.lostAt := some s.now } FS.REC_TREND_LOST
  match s.recorder.lostAt with
  | some at0 => if s.now < at0 + 1000000000 then s else said s
  | none => said s

/-- The block being filled closes, and DECIM is adjusted (R275, R276). -/
def State.closeBlock (s : State) (n : Nat) : State :=
  let t := s.trend n
  if t.fill = [] then s
  else
    let b := s.trendBlock n t
    let s := s.guardWrite false (t.blockAt t.place) b
    let d := s.f (F.REC_TR_STAT_DECIM n)
    let tight := t.tight || s.trendTight t
    let calm := !tight && decide (t.tightAt + 1000000000 ≤ s.now)
    let s := s.setF (F.REC_TR_STAT_DECIM n) (if tight then min 8 (d + 1) else if calm then d - 1 else d)
    let s := s.setTrend n { t with closed := t.closed ++ [{ place := t.place, len := b.length }], seq := (t.seq + 1) % 2 ^ 32
                                   place := (t.place + 1) % t.slots, fill := []
                                   tight := false, tightAt := if tight || calm then s.now else t.tightAt }
    if t.slots < (s.trend n).closed.length + t.flying then s.loseBlock n else s

/-- A kept sample of a stream: it closes the block when it does not fit (R275, R277). -/
def State.keepTrend (s : State) (n time : Nat) (data : List Byte) (index : Nat) : State :=
  let b := data.length
  if 4096 < s.bufNow then s.updTrend n (fun t => { t with tight := true, tightAt := s.now })
  else
    let s := s.fillBuf b
    let s := if 1024 < 40 + ((s.trend n).fill.length + 1) * b then s.closeBlock n else s
    let tight := s.trendTight (s.trend n)
    s.updTrend n (fun t =>
      { t with fill := t.fill ++ [data], fillTime := if t.fill = [] then time else t.fillTime
               fillIndex := if t.fill = [] then index else t.fillIndex, fillAt := if t.fill = [] then s.now else t.fillAt
               tight := t.tight || tight, tightAt := if tight then s.now else t.tightAt })

/-- A sample clock event of a stream; the first one answers TREND_START (R275, R276, R280). -/
def State.sampleTrend (s : State) (time t0 n : Nat) : State :=
  let t := s.trend n
  let begun := match t.startTick with
    | some k => decide (k ≤ s.tickNo)
    | none => false
  if !begun then s
  else
    let s := (s.setF (F.REC_TR_STAT_RUN n) 1).setTrend n { t with index := (t.index + 1) % 2 ^ 32, startCmd := none }
    let s := match t.startCmd with
      | some p => s.release 0x0711 p Stat.OK []
      | none => s
    if t.index % 2 ^ s.f (F.REC_TR_STAT_DECIM n) = 0 then s.keepTrend n time (s.sampleData t.chans t.clock t0) t.index else s

/-- LOST of a block as it is sent. -/
def patchLost (b : List Byte) (lost : Nat) : List Byte := b.take 34 ++ leBytes 2 lost ++ b.drop 36

/-- Closed blocks are read from the ring into the transmit buffer of their lane while it has room (R275). A block in which a parity error is
read is sent with /V/, and PERR counts the errors (11 R314). -/
def State.sendBlocks (s : State) : Nat → Nat → State
  | 0, _ => s
  | fuel + 1, n =>
    let t := s.trend n
    match t.closed with
    | [] => s
    | x :: rest =>
      let lane := s.trendLane t.route
      let room := match lane with
        | some l => roomFor (s.lane l).txq { prio := segPrio KIND.TREND 0, bytes := List.replicate (x.len + 64) 0 }
        | none => t.route.toNat % 8192 == s.addr
      if !room then s
      else
        let (s, data, errs) := s.readRecorder (t.blockAt x.place) x.len
        let s := s.bumpBy F.REC_STAT_PERR errs
        let s := (s.setF (F.REC_TR_BLOCKS_SENT n) ((s.f (F.REC_TR_BLOCKS_SENT n) + 1) % 2 ^ 32)).setTrend n
          { t with closed := rest, flying := t.flying + b2n lane.isSome, lost := 0 }
        (s.deliverTo KIND.TREND { source := t.route, mac := t.mac } (patchLost data t.lost) (decide (0 < errs))).sendBlocks fuel n

/-- Every stream's closed blocks. -/
def State.trendPump (s : State) : State := s.each (trendNumbers.filter (fun n => (s.trend n).closed != [])) (fun s n => s.sendBlocks 512 n)

/-- A condition of R276 holds now for a stream that fills a block. -/
def State.watchTrend (s : State) (n : Nat) : State :=
  if (s.trend n).fill != [] && s.trendTight (s.trend n) then s.updTrend n (fun t => { t with tight := true, tightAt := s.now }) else s

/-- The conditions of R276 are watched through the whole fill: load and ring fill only with the commands of this model. -/
def State.watchTrends (s : State) : State := s.each trendNumbers State.watchTrend

/-- A TREND segment has left the transmit buffer: its space is free (R275). -/
def State.trendLeft (s : State) (payload : List Byte) : State :=
  match trendNumbers.find? (fun n => (s.trend n).handle.toNat == numAt payload 8 4 && (s.trend n).flying != 0) with
  | some n => s.updTrend n (fun t => { t with flying := t.flying - 1 })
  | none => s

/-- An item of the node's own leaves a transmit buffer with its lane, unsent: a TREND block frees its space (R275). -/
def State.trendDropped (s : State) (t : TxItem) : State :=
  let seg := if t.eth then t.bytes.drop 14 else t.bytes
  if t.inLane = 32 ∧ numAt seg 1 1 = KIND.TREND then s.trendLeft ((seg.drop 8).take (numAt seg 4 2)) else s

/-! Sample clocks (R258). -/

/-- APPLY of a tick: captures and streams on CLOCK 0h. -/
def State.sampleTick (s : State) : State :=
  let due (clock div : Nat) : Bool := clock == 0 && s.tickNo % div == 0
  let s := s.each (capNumbers.filter (fun n => due (s.cap n).clock (s.cap n).div)) (State.sampleCap · s.time 0)
  s.each (trendNumbers.filter (fun n => due (s.trend n).clock (s.trend n).div)) (State.sampleTrend · s.time 0)

/-- A run of sequence `q` completes: captures and streams on CLOCK 1h. The sample time is MEAS_Qq_T0, of which the register
holds bits [31:0]; the bits above are those of the last global time with these low bits. -/
def State.sampleSeq (s : State) (q t0 : Nat) : State :=
  let time := s.time - (s.time - t0) % 2 ^ 32
  let s := s.each (capNumbers.filter (fun n => (s.cap n).clock == 1 && (s.cap n).div == q)) (State.sampleCap · time t0)
  s.each (trendNumbers.filter (fun n => (s.trend n).clock == 1 && (s.trend n).div == q)) (State.sampleTrend · time t0)

/-! Comparators (R270). -/

/-- OP of a comparator on value `x`, the previous value and its operands. -/
def cmpHolds (fmt op : Nat) (x prev a b : Word) : Bool :=
  let lt (u v : Word) : Bool := if fmt = 1 then Fp.lt u v else decide (u.toInt < v.toInt)
  let le (u v : Word) : Bool := if fmt = 1 then Fp.le u v else decide (u.toInt ≤ v.toInt)
  match op with
  | 1 => lt a x
  | 2 => lt x a
  | 3 => lt x a || lt b x
  | 4 => le a x && le x b
  | 5 => fmt == 0 && ((x ^^^ prev) &&& a) != 0
  | 6 => fmt == 0 && (x &&& a) == b
  | _ => false

/-- Evaluates the comparators whose source satisfies `p`. -/
def State.evalCmps (s : State) (p : Nat → Bool) : State :=
  s.each ((List.range 4).filter (fun c => p (s.f (F.REC_CMP_SRC_SRC c)))) (fun s c =>
    let d := s.f (F.REC_CMP_SRC_SRC c)
    let raw : Word := BitVec.ofNat 32 ((s.chanWords d).getD 0 0)
    let x : Word := if chanKind d = 0 then BitVec.ofInt 32 (signed 16 raw.toNat) else raw
    let r := cmpHolds (s.f (F.REC_CMP_OP_FMT c)) (s.f (F.REC_CMP_OP_OP c)) x (Map.get 0 s.recorder.cmpPrev c)
      (s.reg (A.REC_CMP_A c)) (s.reg (A.REC_CMP_B c))
    { s with recorder.cmpTrue := Map.set false s.recorder.cmpTrue c r, recorder.cmpPrev := Map.set 0 s.recorder.cmpPrev c x
             recorder.cmpAt := if r && !Map.get false s.recorder.cmpTrue c then Map.set 0 s.recorder.cmpAt c s.clk.nowPs else s.recorder.cmpAt })

/-- REGISTER_COMPARATOR_EVALUATION: every comparator whose source is a register. -/
def onRegisterComparatorEvaluation (s : State) : State := s.evalCmps (fun d => chanKind d == 2)

/-! System triggers (R272 to R274). -/

/-- A request stands. -/
def State.requestTrig (s : State) : State := { s.setF F.REC_SYS_REQ 1 with recorder.reqTick := s.tickNo }

/-- TRIG_REQ_TIMEOUT (R272): 16 ticks have passed. -/
def onTrigReqTimeout (s : State) : State :=
  if s.on F.REC_SYS_REQ ∧ s.recorder.reqTick + 16 ≤ s.tickNo then s.setF F.REC_SYS_REQ 0 else s

/-- A TRIG is received (R274). -/
def State.gotTrig (s : State) (id : Nat) : State :=
  let s := s.raiseIf (id != (s.f F.REC_SYS_LAST_ID + 1) % 16) FS.REC_TRIG_MISSED
  { (s.setF F.REC_SYS_LAST_ID id).setF F.REC_SYS_REQ 0 with recorder.trig := some id }

/-- The active Meadow issues a system trigger on a request, or ignores the request during SYS_HOLDOFF (R273). -/
def State.issueTrig (s : State) (asked : Bool) : State :=
  if !asked && !s.on F.REC_SYS_REQ then s
  else if 0 < s.recorder.holdoff then s.bump F.REC_STAT_IGNORED
  else
    let id := (s.f F.REC_SYS_LAST_ID + 1) % 16
    { (s.setF F.REC_SYS_LAST_ID id).setF F.REC_SYS_REQ 0 with recorder.trig := some id, recorder.holdoff := s.f F.REC_CTRL_SYS_HOLDOFF + 1 }

/-- TRIGOUTn is driven high for OUT_WIDTH µs from now (R271). -/
def State.pulseOut (s : State) (n : Nat) : State :=
  { s with recorder.outEnd := Map.set 0 s.recorder.outEnd n (s.now + s.f F.REC_TRIGIO_OUT_WIDTH * 1000) }

/-- Level of TRIGOUTn. -/
def State.trigOut (s : State) (n : Nat) : Bool := decide (s.now < Map.get 0 s.recorder.outEnd n)

/-- The system trigger instant at a boundary (R274); a node that held through the trigger's tick does not fire. -/
def State.systemTrigger (s : State) (held : Bool) : State :=
  match s.recorder.trig with
  | none => s
  | some id =>
    let s := { s with recorder.trig := none }
    if held then s
    else
      let s := { s.setF F.REC_SYS_SYS_TRIGS (s.f F.REC_SYS_SYS_TRIGS + 1) with recorder.pulses := s.recorder.pulses ++ [(0x14, s.clk.nowPs)] }
      let s := s.each (bitList 2 (s.f F.REC_TRIGIO_OUT_SYS)) State.pulseOut
      s.each (capNumbers.filter (fun n => bit (s.cap n).tmask 1)) (fun s n => s.triggerCap n 2 id s.time 0)

/-- OUT_WIDTH (R271): the pulse of a trigger output ends. -/
def onOutWidth (output : Fin 2) (s : State) : State :=
  let e := Map.get 0 s.recorder.outEnd output
  if e = 0 then s else { s.reachNow e with recorder.outEnd := Map.set 0 s.recorder.outEnd output 0 }

/-- TRIGIN_EDGE (R271): an edge on an enabled input, in its active direction, with its stamp. -/
def onTriginEdge (input : Fin 4) (rising : Bool) (sub : Fin 8) (s : State) : State :=
  let i : Nat := input
  if bit (s.f F.REC_TRIGIO_EN) i ∧ rising = !bit (s.f F.REC_TRIGIO_POL) i then
    { s with recorder.edges := s.recorder.edges ++ [{ input := i, rising := rising, time := s.time, sub := sub, seenAt := s.clk.nowPs }] }
  else s

/-! The trigger sequencer (R267 to R269). -/

/-- The recorded edge that a condition 08h to 0Fh asks for (R268). -/
def State.condEdge (s : State) (c : Nat) : Option TrigEdge :=
  if 8 ≤ c ∧ c ≤ 0xF then s.recorder.edges.find? (fun e => e.input == c % 4 && e.rising == decide (c < 0xC)) else none

/-- Elapsed ps since which a condition holds in the present state (R268); none when it does not. -/
def State.condSince (s : State) (c : Nat) : Option Nat :=
  let from0 (holds : Bool) (t : Nat) : Option Nat := if holds then some (max t s.recorder.seqAt) else none
  if c = 1 then some s.recorder.seqAt
  else if 2 ≤ c ∧ c ≤ 5 then from0 (Map.get false s.recorder.cmpTrue (c - 2)) (Map.get 0 s.recorder.cmpAt (c - 2))
  else if 8 ≤ c ∧ c ≤ 0xF then (s.condEdge c).map (fun e => max e.seenAt s.recorder.seqAt)
  else if c = 0x10 ∨ c = 0x11 then
    from0 (decide (s.f (F.REC_CNT_LIM_VALUE (c - 0x10)) ≤ s.f (F.REC_CNT_VAL_VALUE (c - 0x10)))) 0
  else if c = 0x12 ∨ c = 0x13 then from0 (Map.get false s.recorder.timerDone (c - 0x12)) (Map.get 0 s.recorder.timerAt (c - 0x12))
  else (s.recorder.pulses.find? (fun x => x.1 == c && decide (s.recorder.seqAt / 2000 ≤ x.2 / 2000))).map (·.2)

/-- Trigger instant of a transition on condition `c`: the stamped edge, or the present clk. -/
def State.condInstant (s : State) (c : Nat) : Nat × Nat :=
  match s.condEdge c with
  | some e => (e.time, e.sub)
  | none => (s.time, s.clk.timePs % 1000 / 125)

/-- Enters a state and performs its actions (R269). -/
def State.enterSeq (s : State) (k : Nat) (instant : Nat × Nat) : State :=
  let a := s.f (F.REC_TS_ACT_ACT k)
  let s := { s.setF F.REC_TSTATE_STATE k with recorder.edges := [], recorder.seqAt := s.clk.nowPs }
  let s := s.each (capNumbers.filter (fun n => bit a n && bit (s.cap n).tmask 0)) (fun s n =>
    s.triggerCap n (1 + 32 * k) 0 instant.1 instant.2)
  let s := s.each ([0, 1].filter (fun n => bit a (16 + n))) State.pulseOut
  let s := s.when (bit a 18) State.requestTrig
  let s := s.each [0, 1] (fun s c =>
    let s := s.when (bit a (21 + c)) (fun s => s.setReg (A.REC_CNT_VAL c) 0)
    s.when (bit a (19 + c)) (fun s => s.bump (F.REC_CNT_VAL_VALUE c)))
  s.each ([0, 1].filter (fun t => bit a (23 + t))) (fun s t =>
    { s with recorder.timerEnd := Map.set 0 s.recorder.timerEnd t (s.time + s.f (F.REC_TMR_LIMIT t) * 1000 + 1)
             recorder.timerDone := Map.set false s.recorder.timerDone t false })

/-- SEQUENCER_TRANSITION (R267): in the clk after that in which a condition of the present state became true, the next state is entered. CND_A
goes before CND_B in one clk. -/
def onSequencerTransition (s : State) : State :=
  if !s.on F.REC_CTRL_SEQ_EN then s
  else
    let k := s.f F.REC_TSTATE_STATE
    let a := s.f (F.REC_TS_CND_CND_A k)
    let b := s.f (F.REC_TS_CND_CND_B k)
    let enter (s : State) (c next : Nat) : State := { (s.enterSeq next (s.condInstant c)) with recorder.pulses := [] }
    let wait (t : Nat) : State := s.reachNow ((t / 2000 + 1) * 2)
    match s.condSince a, s.condSince b with
    | some x, some y =>
      if x / 2000 ≤ max (y / 2000) (s.clk.nowPs / 2000 - 1) then enter (wait x) a (s.f (F.REC_TS_CND_NEXT_A k))
      else enter (wait y) b (s.f (F.REC_TS_CND_NEXT_B k))
    | some x, none => enter (wait x) a (s.f (F.REC_TS_CND_NEXT_A k))
    | none, some y => enter (wait y) b (s.f (F.REC_TS_CND_NEXT_B k))
    | none, none => { s with recorder.pulses := [] }

/-- SEQUENCER_TIMER (R269): a running timer expires, at its µs of global time. -/
def onSequencerTimer (timer : Fin 2) (s : State) : State :=
  let e := Map.get 0 s.recorder.timerEnd timer
  if e = 0 then s
  else
    let s := s.reachTime ((e - 1) * 1000)
    { s with recorder.timerEnd := Map.set 0 s.recorder.timerEnd timer 0, recorder.timerDone := Map.set false s.recorder.timerDone timer true
             recorder.timerAt := Map.set 0 s.recorder.timerAt timer s.clk.nowPs }

/-- SEQ_EN is written (R267). -/
def onSeqEn (en : Bool) (s : State) : State :=
  let s := s.setF F.REC_CTRL_SEQ_EN (b2n en)
  if en then { s.setF F.REC_TSTATE_STATE 0 with recorder.edges := [], recorder.pulses := [], recorder.seqAt := s.clk.nowPs } else s

/-! Readout (R278) and headers (R265). -/

/-- PAGE_HEADER_REWRITE (R265). -/
def onPageHeaderRewrite (capture : Fin 16) (s : State) : State :=
  let n : Nat := capture
  if (s.cap n).headersDue then
    (s.each (List.range (s.cap n).ring.length) (fun s i => s.writeHeader n i)).updCap n (fun c => { c with headersDue := false })
  else s

/-- BLOCK_CLOSE (R275): 1 s after a block's first sample. -/
def onBlockClose (stream : Fin 8) (s : State) : State :=
  if (s.trend stream).fill = [] then s else (s.reachNow ((s.trend stream).fillAt + 1000000000)).closeBlock stream

/-- Sends one RECORD segment of a readout. -/
def State.sendRecord (s : State) (r : RecRead) (data : List Byte) : State :=
  let dest := r.cmd.source.toNat % 8192
  let g : Segment := { kind := KIND.RECORD, ctl := (if r.frag = 0 then 4 else 0) + (if r.frag = 63 then 8 else 0), frag := r.frag
                       dest := dest, payload := data }
  if dest = s.addr then
    match r.cmd.source.toNat / 8192 with
    | 0 => s.toCore r.mac data
    | 3 => ({ s with cmd.qspiReply := data }).setF F.CMD_QSPI_RPL_READY 1
    | 1 => s.sendHost 1 r.mac (segPrio KIND.RECORD 0) [segBytes g]
    | 2 => s.sendHost 2 r.mac (segPrio KIND.RECORD 0) [segBytes g]
    | _ => s
  else match s.route dest with
    | .lane n => s.queueTx n { prio := segPrio KIND.RECORD 0, bytes := segBytes g }
    | _ => s

/-- RECORD_SEGMENT_PLACE (R278): the next segment of a readout, once the lane's transmit buffer has 4 KiB free. -/
def onRecordSegmentPlace (capture : Fin 16) (s : State) : State :=
  let n : Nat := capture
  let c := s.cap n
  match c.reading with
  | none => s
  | some r =>
    let free := match s.trendLane r.cmd.source with
      | some l => decide (queued (s.lane l).txq + 4096 ≤ 16384)
      | none => true
    if !free then s
    else
      let page := (c.ring[r.page]?.map (·.page)).getD 0
      let (s, data, errs) := s.readRecorder (pageBase page + 1024 * r.frag) 1024
      let s := (s.bumpBy F.REC_STAT_PERR errs).sendRecord r data
      let bad := if errs = 0 then r.bad else r.bad ||| 2 ^ (r.page - r.first)
      if r.frag < 63 then s.updCap n (fun c => { c with reading := some { r with frag := r.frag + 1, bad := bad } })
      else if r.page + 1 < r.first + r.count then
        s.updCap n (fun c => { c with reading := some { r with page := r.page + 1, frag := 0, bad := bad } })
      else (s.updCap n (fun c => { c with reading := none })).finalReply 0x0705 r.cmd Stat.OK (leBytes 2 bad)

/-! Opcodes (R280). -/

/-- CLOCK, DIV and channels of a create; `none` for parameters that R257 to R259 refuse. -/
def State.recParams (s : State) (b : List Byte) (extra : Nat) : Option (Nat × Nat × List Nat) :=
  let clock := numAt b 0 1
  let n := numAt b 2 1
  let chans := (List.range n).map (fun i => numAt b (3 + 4 * i) 4)
  let words := (chans.map chanSize).foldl (· + ·) 0
  if b.length = 3 + 4 * n + extra ∧ clock ≤ 1 ∧ 1 ≤ n ∧ n ≤ 16 ∧ chans.all chanOk ∧ words ≤ 32 ∧
      (clock = 0 ∨ (numAt b 1 1 < 4 ∧ s.on (F.MEAS_Q_CFG_LIVE (numAt b 1 1)))) then
    some (clock, numAt b 1 1 + (1 - clock), chans)
  else none

/-- CAPTURE_CREATE. -/
def opCaptureCreate (p : Packet) (s : State) : Out :=
  match s.recParams p.params 0 with
  | none => refuse s Stat.BAD_PARAM
  | some (clock, div, chans) =>
    createObj TY.CAPTURE true (fun _ => true) (fun n s =>
      (s.setReg (A.REC_CAP_STAT n) 16).setCap n { chans := chans, clock := clock, div := div }) p s

/-- CAPTURE_ARM on capture `n` (R261). -/
def opCaptureArm (n : Nat) (p : Packet) (s : State) : Out :=
  let c := s.cap n
  let pre := numAt p.params 0 4
  let post := numAt p.params 4 4
  if p.params.length ≠ 9 then refuse s Stat.BAD_PARAM
  else if s.capState n ≠ CAP.IDLE then refuse s Stat.DENIED
  else
    let spp := c.spp
    let up (x : Nat) : Nat := (x + spp - 1) / spp
    let need := up (pre + post) + 1
    let free := s.freePages
    let avail := min free.length 511
    if avail < up pre + 1 then refuse s Stat.NO_RESOURCE
    else
      let take := min need avail
      let post' := if avail < need then (avail - 1) * spp - pre else post
      let s := s.setCap n { c with pre := pre, post := post', tmask := numAt p.params 8 1, ring := [], spare := free.take take
                                   taken := 0, latched := [], trig := none, stopAt := none, headersDue := false, reading := none }
      let s := ((s.setF (F.REC_CAP_STAT_STATE n) CAP.ARMED).showCap n).showFree
      if avail < need then { s := s, status := Stat.CLAMPED, payload := leBytes 4 post' } else ok s

/-- CAPTURE_TRIGGER on capture `n` (R262). -/
def opCaptureTrigger (n : Nat) (p : Packet) (s : State) : Out :=
  if p.params ≠ [] then refuse s Stat.BAD_PARAM
  else if s.capState n ≠ CAP.ARMED ∧ !(s.cap n).trig.any (fun t => s.inClk t.actedAt) ∧
      !(s.capState n == CAP.STOPPED && (s.cap n).stopAt.any s.inClk) then refuse s Stat.TOO_LATE
  else ok (s.triggerCap n 4 0 s.time (s.clk.timePs % 1000 / 125))

/-- CAPTURE_STOP on capture `n` (R263): the record ends at the trigger sample when the trigger acted in this clk. -/
def opCaptureStop (n : Nat) (p : Packet) (s : State) : Out :=
  if p.params ≠ [] then refuse s Stat.BAD_PARAM
  else if s.capState n = CAP.ARMED ∨ s.capState n = CAP.TRIGGERED then
    let s := s.updCap n (fun c => if c.trig.any (fun t => s.inClk t.actedAt) then c.endAtTrigger else { c with stopAt := some s.clk.nowPs })
    ok ((s.endCapture n CAP.STOPPED).showCap n)
  else ok s

/-- CAPTURE_RELEASE on capture `n` (R260). -/
def opCaptureRelease (n : Nat) (p : Packet) (s : State) : Out :=
  if p.params ≠ [] then refuse s Stat.BAD_PARAM
  else if s.capState n = CAP.ARMED ∨ s.capState n = CAP.TRIGGERED ∨ (s.cap n).reading.isSome then refuse s Stat.DENIED
  else
    let s := s.updCap n (fun c => { c with ring := [], spare := [], taken := 0, trig := none, headersDue := false })
    ok ((s.setF (F.REC_CAP_STAT_STATE n) CAP.IDLE).showCap n).showFree

/-- CAPTURE_READ on capture `n` (R278). A second readout of a capture while one runs is answered BUSY. -/
def opCaptureRead (n : Nat) (p : Packet) (s : State) : Out :=
  let first := numAt p.params 0 2
  let count := numAt p.params 2 1
  if p.params.length ≠ 3 then refuse s Stat.BAD_PARAM
  else if s.capState n < CAP.DONE then refuse s Stat.DENIED
  else if count < 1 ∨ 16 < count ∨ (s.cap n).ring.length < first + count then refuse s Stat.BAD_PARAM
  else if (s.cap n).reading.isSome then refuse s Stat.BUSY
  else accepted (s.updCap n (fun c => { c with reading := some { cmd := p, mac := s.srcMac (srcKey p), first := first, count := count, page := first } }))

/-- CAPTURE_INFO on capture `n`. -/
def opCaptureInfo (n : Nat) (p : Packet) (s : State) : Out :=
  if p.params ≠ [] then refuse s Stat.BAD_PARAM
  else ok s (s.reg4 (A.REC_CAP_STAT n) ++ s.reg4 (A.REC_CAP_PRE n) ++ s.reg4 (A.REC_CAP_POST n))

/-- TREND_CREATE (R275). -/
def opTrendCreate (p : Packet) (s : State) : Out :=
  let pages := numAt p.params (p.params.length - 1) 1
  match s.recParams p.params 1 with
  | none => refuse s Stat.BAD_PARAM
  | some (clock, div, chans) =>
    createObj TY.TREND (decide (1 ≤ pages) && decide (pages ≤ 8)) (fun s => decide (pages ≤ s.freePages.length)) (fun n s =>
      let s := s.setReg (A.REC_TR_STAT n) (BitVec.ofNat 32 (pages * 256 + 8))
      let s := (s.setReg (A.REC_TR_BLOCKS n) 0).setReg (A.REC_TR_LOST n) 0
      (s.setTrend n { chans := chans, clock := clock, div := div, route := p.source, mac := s.srcMac (srcKey p)
                      handle := s.handleAt TY.TREND n, pages := s.freePages.take pages }).showFree) p s

/-- TREND_START on stream `n`. -/
def opTrendStart (n : Nat) (p : Packet) (s : State) : Out :=
  let t := numAt p.params 0 8
  if p.params.length ≠ 8 then refuse s Stat.BAD_PARAM
  else if (s.trend n).startTick.isSome then refuse s Stat.DENIED
  else if t ≠ 0 ∧ t < s.tickNo then refuse s Stat.TOO_LATE
  else
    holding ((s.setF (F.REC_TR_STAT_DECIM n) 0).updTrend n (fun x =>
      { x with startTick := some (if t = 0 then s.tickNo + 1 else t), startCmd := some p, index := 0, seq := 0, fill := []
               tight := false, tightAt := s.now }))

/-- TREND_STOP on stream `n`: the last block closes. -/
def opTrendStop (n : Nat) (p : Packet) (s : State) : Out :=
  if p.params ≠ [] then refuse s Stat.BAD_PARAM
  else ok (((s.closeBlock n).setF (F.REC_TR_STAT_RUN n) 0).updTrend n (fun t => { t with startTick := none, startCmd := none }))

/-- TREND_INFO on stream `n`. -/
def opTrendInfo (n : Nat) (p : Packet) (s : State) : Out :=
  if p.params ≠ [] then refuse s Stat.BAD_PARAM
  else ok s (s.reg4 (A.REC_TR_STAT n) ++ s.reg4 (A.REC_TR_BLOCKS n) ++ s.reg4 (A.REC_TR_LOST n))

/-- SYS_TRIGGER (R272). -/
def opSysTrigger (p : Packet) (s : State) : Out :=
  if p.params ≠ [] then refuse s Stat.BAD_PARAM else ok s.requestTrig

/-- REC_POOL_READ. -/
def opRecPoolRead (p : Packet) (s : State) : Out :=
  if p.params ≠ [] then refuse s Stat.BAD_PARAM else ok s (s.reg4 A.REC_POOL ++ s.reg4 A.REC_SYS ++ s.reg4 A.REC_STAT)

/-- A capture is bound in ARMED and TRIGGERED and while it is read (R260); a stream while it runs (R275). -/
def State.capBound (s : State) (n : Nat) : Bool :=
  s.capState n == CAP.ARMED || s.capState n == CAP.TRIGGERED || (s.cap n).reading.isSome
def State.trendBound (s : State) (n : Nat) : Bool := (s.trend n).startTick.isSome

/-- A destroyed capture or stream: its pages return to the pool (R256). -/
def State.freeCapture (s : State) (n : Nat) : State :=
  let s := s.setCap n {}
  (((s.setReg (A.REC_CAP_STAT n) 0).setReg (A.REC_CAP_PRE n) 0).setReg (A.REC_CAP_POST n) 0).showFree
def State.freeTrend (s : State) (n : Nat) : State :=
  let s := s.setTrend n {}
  (((s.setReg (A.REC_TR_STAT n) 0).setReg (A.REC_TR_BLOCKS n) 0).setReg (A.REC_TR_LOST n) 0).showFree

/-! What completes elsewhere and reaches the recorder and the lifetime unit. -/

/-- CONVERSION_COMPLETE (08 R235): the result, the lifetime unit's use of it, comparators, and the sample of a run that completes. The
work that waits is dispatched first where the slice has none yet. -/
def onConversionComplete (slice : Nat) (a b : Int) (near : List (Fin 24 × Nat)) (err shadowErr : Int) (s : State) : State :=
  let s := if (s.adc slice).conv.isSome then s else s.measSettle (s.meas.last + 4)
  match (s.adc slice).conv with
  | none => s
  | some c =>
    let t0 := match c.entry with
      | some (q, _) => s.f (F.MEAS_Q_T0_T0 q)
      | none => 0
    let (s, entry, fin) := s.convert slice a b near err shadowErr
    match entry with
    | none => s
    | some (q, e) =>
      let s := (s.lifeResult q e (c.since + 40)).evalCmps (fun d => chanKind d == 0 && chanArg d == 32 * q + e)
      if fin then s.sampleSeq q t0 else s

/-- LOOP_COMMIT (07 R222): the commit, then the comparators on loop signals, and the mirror image (14 R382). -/
def onLoopCommitAll (s : State) : State :=
  match s.loop.run with
  | none => s
  | some r =>
    let s' := onLoopCommit s
    if s.clk.tickStart + s.clk.phLoopEnd * 2000 < (s.reachNow (r.opened + 2 * r.clks)).clk.timePs then s'
    else (s'.evalCmps (fun d => chanKind d == 1)).sendMirror

end Sys2Proof.Machine
end

