-- ==== Sys2Proof/Machine/Track.lean ====
section
/-!
DEFINITION. Track.lean: messages put together from segments (03 R96), the tracking of commands at their entry node, replies
that reach it, timeouts (04 R112, R117), and the class-0 slots (04 R115, R116).
-/
namespace Sys2Proof.Machine
open Sys2Proof

/-! Messages. -/

/-- A fragment received on lane `n`: the whole message when it is the last one and all came in order (R96). Messages of
another KIND, class or destination may come in between (R99). -/
def State.assemble (s : State) (n : Nat) (g : Segment) : State × Option (List Byte) :=
  let first := bit g.ctl 2
  let last := bit g.ctl 3
  let key := g.dest * 64 + g.ctl % 4 * 16 + g.kind
  let old : RxMsg := Map.get {} (s.lane n).rx key
  let put (m : RxMsg) : State := s.updLane n (fun l => { l with rx := Map.set {} l.rx key m })
  if first && g.frag == 0 then
    if last then (put {}, some g.payload)
    else (put { next := 1, mcast := bit g.ctl 4, data := g.payload }, none)
  else if !first && old.next != 0 && g.frag == old.next then
    if last then (put {}, some (old.data ++ g.payload))
    else (put { old with next := old.next + 1, data := old.data ++ g.payload }, none)
  else (put {}, none)

/-! Class-0 slots. -/

/-- A packet in its 32-byte slot. -/
def slotBytes (b : List Byte) : List Byte := (b ++ List.replicate 32 0).take 32

/-- The bytes of a reply that stand in a reply slot. -/
def slotReply (b : List Byte) : List Byte :=
  b.take (16 + numAt b 3 3 + (if bit (numAt b 2 1) 2 then 12 else 0))

/-- The unit whose range holds an address. -/
def State.rangeUnit (s : State) (dest : Nat) : Option Nat :=
  s.units.find? (fun n => decide (s.f (F.CMD_RANGE_LO n) ≤ dest) && decide (dest ≤ s.f (F.CMD_RANGE_HI n)))

/-- Highest address of the subtree of `dest`, as far as this node can tell: its own, a unit's, or the address itself. -/
def State.subtreeHi (s : State) (dest : Nat) : Nat :=
  if dest = s.addr ∨ (s.on F.CMD_NODE_TWIN ∧ dest = s.addr ^^^ 1) then s.ownHi
  else
    let e := s.tree.record.find? (fun e => eAddr e == dest)
    match e with
    | some e => eHi e
    | none =>
      match s.units.find? (fun n => s.f (F.CMD_RANGE_LO n) == dest || s.f (F.CMD_RANGE_LO n) + 1 == dest && (s.unit n).twin) with
      | some n => s.f (F.CMD_RANGE_HI n)
      | none => dest

/-- Units that hold part of the subtree of `dest`; those of every node on the way to it (R115, R101). -/
def State.mcastUnits (s : State) (dest : Nat) : List Nat :=
  let hi := s.subtreeHi dest
  s.units.filter (fun n => decide (s.f (F.CMD_RANGE_LO n) ≤ hi) && decide (dest ≤ s.f (F.CMD_RANGE_HI n)))

/-- Units towards which a class-0 packet is placed. -/
def State.slotUnits (s : State) (b : List Byte) : List Nat :=
  let dest := numAt b 8 2 % 8192
  if bit (numAt b 2 1) 4 then s.mcastUnits dest else (s.rangeUnit dest).toList

/-- LOOP_END of this tick has passed at the Meadow: its down frames are being formed or have left. -/
def State.slotsClosed (s : State) : Bool := s.clk.allocated || s.clk.allocAt.isSome

/-- Puts a packet into the slots of the given units in this tick's or the next tick's frames. -/
def putSlots (l : List (Nat × List Byte)) (us : List Nat) (b : List Byte) : List (Nat × List Byte) :=
  us.foldl (fun l n => Map.set [] l n (slotBytes b)) l

/-- The Meadow places a class-0 packet in the first frames that are free (R115): the tick it entered, or none while an earlier
command to the unit awaits its reply, an MCAST command excepted (R116). -/
def State.placeC0 (s : State) (b : List Byte) : Option (State × Nat) :=
  let us := s.slotUnits b
  let free (l : List (Nat × List Byte)) : Bool := us.all (fun n => Map.get [] l n == [])
  let awaits := !bit (numAt b 2 1) 4 &&
    s.cmd.tracked.any (fun t => t.slotTick.isSome && !t.silent && us.contains t.unit)
  if awaits then none
  else if !s.slotsClosed && free s.cmd.slotsOut then
    some ({ s with cmd.slotsOut := putSlots s.cmd.slotsOut us b }, s.tickNo)
  else if free s.cmd.slots then some ({ s with cmd.slots := putSlots s.cmd.slots us b }, s.tickNo + 1)
  else none

/-- The tracked entry of a packet takes the tick at which it entered a slot. -/
def State.noteSlot (s : State) (b : List Byte) (tick : Nat) : State :=
  { s with cmd.tracked := s.cmd.tracked.map (fun t =>
      if t.source.toNat = numAt b 10 2 ∧ t.seq.toNat = numAt b 6 2 then { t with slotTick := some tick } else t) }

/-- Waiting class-0 commands that R116 no longer blocks enter their slots, in order for each unit. -/
def State.pumpC0 (s : State) : State :=
  let (s, left, _) := s.cmd.c0q.foldl (fun (acc : State × List (List Byte) × List Nat) b =>
    let (s, left, held) := acc
    let us := s.slotUnits b
    if us.any held.contains then (s, left ++ [b], held ++ us)
    else match s.placeC0 b with
      | some (s, k) => (s.noteSlot b k, left, held)
      | none => (s, left ++ [b], held ++ us)) (s, [], [])
  { s with cmd.c0q := left }

/-- A class-0 command that the active Meadow originates: into its slot, into the queue of 16, or refused (R116). -/
def State.originateC0 (s : State) (b : List Byte) : Option State :=
  let us := s.slotUnits b
  if s.cmd.c0q.any (fun q => (s.slotUnits q).any us.contains) then
    if 16 ≤ s.cmd.c0q.length then none else some { s with cmd.c0q := s.cmd.c0q ++ [b] }
  else match s.placeC0 b with
    | some (s, k) => some (s.noteSlot b k)
    | none => if 16 ≤ s.cmd.c0q.length then none else some { s with cmd.c0q := s.cmd.c0q ++ [b] }

/-- Payload of a refusal: REG_WRITE always carries the count of registers written (R136). -/
def refusalPayload (op : Nat) : List Byte := if op = 0x0201 then [0, 0] else []

/-! Replies at the entry node. -/

/-- Ends the tracking of a command. -/
def State.untrack (s : State) (source seq : Nat) : State :=
  { s with cmd.tracked := s.cmd.tracked.filter (fun t => !(t.source.toNat == source && t.seq.toNat == seq)) }

/-- The OK reply of a TREND_CREATE names the stream's handle, by which its blocks are told apart (09 R275). -/
def State.noteTrend (s : State) (b : List Byte) : State :=
  if numAt b 0 2 = 0x0710 ∧ numAt b 12 1 = Stat.OK then
    { s with cmd.streams := s.cmd.streams.map (fun x =>
        if x.kind = KIND.TREND ∧ x.source.toNat = numAt b 8 2 ∧ x.seq.toNat = numAt b 6 2 then { x with handle := BitVec.ofNat 32 (numAt b 16 4) } else x) }
  else s

/-- A reply at the node named in its DEST (R112, R117): to its port; discarded when its TIMEOUT has been delivered. -/
def State.takeReply (s : State) (b : List Byte) : State :=
  let b := slotReply b
  let source := numAt b 8 2
  let seq := numAt b 6 2
  let key := source * 65536 + seq
  if s.safe.remote.isSome ∧ source = s.addr ∧ numAt b 0 2 = 0x0900 ∧ s.safe.remote.any (fun r => r.2.2 == seq) then
    s.ackAnswer (numAt b 12 1) seq ((b.drop 16).take (numAt b 3 3))
  else if s.cmd.timedOut.contains key then s.bump F.CMD_STAT_LATE_REPLY
  else
    (((s.untrack source seq).noteTrend b).deliver (BitVec.ofNat 16 source) key (numAt b 2 1 % 4) b).pumpC0

/-- COMMAND_TIMEOUT (R117): of a command in the slots at the merge instant of its last tick, of another at its deadline. One
without a reply (R112) only ends its tracking (DESIGN CHOICE, log entry 19). The TIMEOUT of a REG_WRITE carries the count of registers written
(R136), which its entry node does not know: a free value. -/
def onCommandTimeout (source seq : BitVec 16) (s : State) : State :=
  match s.cmd.tracked.find? (fun t => t.source == source && t.seq == seq) with
  | none => s
  | some t =>
    let due := match t.slotTick with
      | some k =>
        let last := k + s.f F.CMD_TMO_TMO_C0
        decide (last < s.tickNo) || (last == s.tickNo && s.clk.merged)
      | none => t.deadline != 0
    if !due then s
    else
      let s := if t.slotTick.isNone then s.reachNow t.deadline else s
      let s := s.untrack t.source.toNat t.seq.toNat
      let s := if t.slotTick.isNone then s.reachNow (t.deadline + 2) else s
      if t.silent then s.pumpC0
      else
      let s := s.bump F.CMD_STAT_TIMEOUTS
      let p : Packet := { cls := BitVec.ofNat 2 t.cls, source := source, seq := seq }
      let key := srcKey p
      let s := { s with cmd.timedOut := key :: s.cmd.timedOut.filter (· != key) }
      let (k, s) : Nat × State := if t.opcode = 0x0201 then s.free else (0, s)
      let count := if t.opcode = 0x0201 then leBytes 2 (Config.openWord k).toNat else []
      let b := replyHeader t.opcode.toNat p false s.addr Stat.TIMEOUT count.length ++ count
      ({ s with cmd.sent := b }.deliver source key t.cls b).pumpC0.raise FS.CMD_TIMEOUT

end Sys2Proof.Machine
end

