-- ==== Sys2Proof/Machine/Tick.lean ====
section
/-!
DEFINITION. Tick.lean: time and its alignment, the tick frames a node forms and takes, merge, allocation and the phases of
the tick (02_tick_and_time.md; 03 R89 to R95; 05 R144 to R165; 14 R373 to R377; 17 R436, R437, R444).
-/
namespace Sys2Proof.Machine
open Sys2Proof

/-! Time (R41 to R50). -/

/-- Stamp counter, 125 ps (R50). -/
def State.stamp (s : State) : Nat := s.clk.nowPs / 125

/-- Global time becomes `t` ps; tick number and boundaries follow (R41). -/
def State.setTime (s : State) (t : Nat) : State :=
  let n := t / s.tickPs
  { s with clk.timePs := t, clk.tickStart := n * s.tickPs, clk.tickNum := n, clk.nextAt := (n + 1) * s.tickPs, clk.bounds := s.clk.bounds + 1 }

/-- The one-way down delay in ps (R50): nearest, halves up; none above 16,777,214 (R92). -/
def delayOf (t1 t4 turn : Nat) (asym : Int) : Option Nat :=
  let d := ((((t4 : Int) - t1 - turn) * 125 + asym) + 1) / 2
  if 16777214 < d then none else some d.toNat

/-- TICK_OFFSET. -/
def State.showOffset (s : State) (o : Int) : State :=
  s.setReg A.TICK_OFFSET (BitVec.ofNat 32 (unsigned 32 (clampInt (-2147483647) 2147483647 o)))

/-- Steers towards offset 0 by a free amount, at most `limit` ps (R48, R49). -/
def State.steer (s : State) (off : Int) (limit : Nat) : State :=
  let (i, s) := s.free
  let b : Int := min off.natAbs limit
  let a := if 0 ≤ off then clampInt 0 b (Config.slew i) else clampInt (-b) 0 (Config.slew i)
  { s with clk.timePs := (s.clk.timePs - a).toNat, clk.pulsePs := (s.clk.pulsePs - a).toNat }

/-- Return to SYNC (R44, R49; 17 R432). -/
def State.goSync (s : State) : State :=
  { s.go ST.SYNC with clk.stepped := false, clk.syncRaised := false, clk.goodTicks := 0, clk.badTicks := 0, clk.farOff := false }

/-- R48 holds: the node leaves SYNC, for LOAD, or back to READY or BLOCKED with its image (17 R431, R432); an Umbel twin
member takes its first role (14 R372). -/
def State.leaveSync (s : State) : State :=
  let s := { s with node.synced := true }
  if s.on F.SYS_STATE_IMG_OK then (if 2 ≤ s.level then s.go ST.BLOCKED else s.go ST.READY)
  else
    let s := s.goLoad
    if s.isUmbel ∧ s.isTwin ∧ s.twinRole = ROLE.NONE ∧ !s.twin.ejected then s.firstRole else s

/-- A measured offset to the time source, ps (R48, R49). In BLOCKED and LOCKOUT, which R49 lists nowhere, the model slews by at
most 250 ps, raises nothing and never steps (DESIGN CHOICE, log entry 20). -/
def State.measured (s : State) (off : Int) : State :=
  let st := s.st
  if (st = ST.SYNC ∨ (s.isMeadow ∧ st < ST.READY)) ∧ !s.clk.stepped then
    { (s.setTime (s.clk.timePs - off).toNat).showOffset 0 with clk.stepped := true, clk.goodTicks := 0, clk.badTicks := 0 }
  else if (st = ST.LOAD ∨ st = ST.CONFIG ∨ st = ST.WAIT_CREDIT) ∧ 1000000 < off.natAbs then
    (s.setTime (s.clk.timePs - off).toNat).showOffset 0
  else
    let wasFar := s.clk.farOff
    let far := decide (1000000 < off.natAbs)
    let good := if off.natAbs ≤ 2000 then min 256 (s.clk.goodTicks + 1) else 0
    let bad := if 20000 < off.natAbs then (if s.clk.badTicks < 16 then s.clk.badTicks + 1 else s.clk.badTicks) else 0
    let s := { (s.showOffset off).steer off (if st = ST.SYNC then off.natAbs else 250) with
      clk.goodTicks := good, clk.badTicks := bad, clk.farOff := far }
    if st = ST.SYNC then (if 256 ≤ good then s.leaveSync else s)
    else
      let s := if 256 ≤ good then { s with node.synced := true } else s
      if st = ST.READY ∧ far then s.goSync
      else s.raiseIf ((st == ST.RUN || st == ST.HOLD) && far && !wasFar) FS.TICK_SYNC_LOSS

/-- A valid down tick frame's period and offset (R43, R44, R46, R48, R50); `t2` its arrival stamp in global ps. The active
Meadow takes its time from nobody (R69). Holdover ends with the first such frame of the source: R47 names no instant (DESIGN CHOICE, log entry
20). -/
def State.timeFrame (s : State) (n : Nat) (d : DownFrame) (t2 : Nat) : State :=
  let off : Int := (t2 : Int) - ((d.t1 * 1000 + d.tfrac * 125 + d.delay : Nat) : Int)
  let s := if n < 2 ∧ d.delay ≠ 0xFFFFFF then s.setReg (A.TICK_DELAY_A + 4 * n) (BitVec.ofNat 32 d.delay) else s
  let s := if d.delay ≠ 0xFFFFFF then s.updLane n (fun l => { l with offset := some off }) else s
  if !d.active ∨ s.activeMeadow then s
  else if chanState s.st ∧ d.period ≠ s.clk.tickLen then s.goSync.raise FS.TICK_SYNC_LOSS
  else
    let s := if s.st = ST.SYNC ∧ !s.isMeadow ∧ d.period ≠ s.clk.tickLen ∧ 1000 ≤ d.period ∧ d.period ≤ 20000 then
        ({ s with clk.tickLen := d.period }.setF F.TICK_CFG_TICK_PERIOD d.period).setTime s.clk.timePs
      else s
    let source := s.timeSource == n + 1 || (s.timeSource == 3 && s.xLane == some n)
    if !source then s
    else
      let s := if s.f F.TICK_STATUS_LOCK = 3 then s.setF F.TICK_STATUS_LOCK 0 else s
      if d.delay = 0xFFFFFF then s else s.measured off

/-! Frames that leave. -/

/-- The down tick frame of unit `n`, but for the fields of the lane (R91; 05 R148, R152; 13 R353; 17 R437, R444). -/
def State.downFields (s : State) (n : Nat) : DownFrame :=
  let u := s.unit n
  let (block, sgr) := s.frameBits u.string
  let slot := Map.get [] s.cmd.slotsOut n
  { active := s.acting, block := block, sgr := sgr
    hold := u.hold || s.yar.allHold || (s.isMeadow && s.st != ST.RUN)
    credit := u.credit, slotOn := slot != [], trig := s.recorder.trig.isSome, epoch := s.epoch
    harebell := if s.isTwin ∧ s.twinRole = ROLE.ACTIVE then s.twin.hb else 0
    period := s.clk.tickLen, trigId := s.recorder.trig.getD 0, iarm := u.iarm, thresh := u.thresh, dir := u.dir
    token := u.token, share := u.share, frac := u.frac, slot := slotBytes slot }

/-- A down tick frame leaves on a lane with its T1, TFRAC and DELAY (R50, R92). -/
def State.sendDownOn (s : State) (n : Nat) (d : DownFrame) : State :=
  let t := s.clk.timePs / 125
  let d' : DownFrame := { d with t1 := t / 8 % 2 ^ 64, tfrac := t % 8, delay := (s.lane n).delay.getD 0xFFFFFF }
  (s.updLane n (fun l => { l with t1 := (s.stamp :: l.t1).take 8, txLog := noteLoad s.now 66 l.txLog })).putFrame n d'.bytes

/-- The entry v of LOOP_RELAY_SEL: enabled, sequence, entry (07 R211). -/
def State.relaySel (s : State) (v : Nat) : Bool × Nat × Nat :=
  let b := (s.reg (A.LOOP_RELAY_SEL (v / 4))).toNat / 2 ^ (8 * (v % 4)) % 256
  (bit b 7, b / 32 % 4, b % 32)

/-- Bytes 92 to 123 of a relaying Floret's up frame (07 R211). -/
def State.relayBytes (s : State) : List Byte :=
  let vs := (List.range 8).map s.relaySel
  let code (x : Bool × Nat × Nat) : Nat := if x.1 then s.f (F.MEAS_RES_CODE x.2.1 x.2.2) else 0
  let got := (List.range 8).filter (fun v => (s.relaySel v).1 && s.resultFresh (s.relaySel v).2.1 (s.relaySel v).2.2)
  (vs.map (fun x => leBytes 2 (code x))).flatten ++ [BitVec.ofNat 8 (ofBits got)] ++ List.replicate 15 0

/-- The node relays (07 R211). -/
def State.relays (s : State) : Bool :=
  s.isFloret && s.f F.CMD_NODE_KIND == 0 && s.on F.CMD_NODE_ASSIGNED && (List.range 8).any (fun v => (s.relaySel v).1)

/-- The reply that the next up frame carries: the node's own, or the one received from a unit (04 R115). -/
def State.upReply (s : State) : List Byte :=
  if s.cmd.replyOut ≠ [] then slotBytes s.cmd.replyOut
  else match s.units.find? (fun n => (s.unit n).frame != [] && (parseUp (s.unit n).frame).slotOn) with
    | some n => (parseUp (s.unit n).frame).slot
    | none => []

/-- The up tick frame, but for the fields of the lane (R93; 14 R376; 12 R338; 09 R272). -/
def State.upFields (s : State) : UpFrame :=
  let t := s.yar.own
  let reply := s.upReply
  let asks := s.units.any (fun n => (s.unit n).frame != [] && (parseUp (s.unit n).frame).trigReq)
  { active := s.acting, slotOn := reply != [], creditReq := s.st == ST.WAIT_CREDIT, fault := decide (2 ≤ s.standing)
    trigReq := s.on F.REC_SYS_REQ || (s.isUmbel && asks), held := s.yar.held, epoch := s.child.lastEpoch, addr := s.addr
    hbEcho := s.child.hb, tally := t.bins, avail := t.avail, unavail := t.unavail, stale := t.stale
    follow := s.child.lastFollow == 1, witA := s.on F.TWIN_CHILD_WIT_A, witB := s.on F.TWIN_CHILD_WIT_B
    state := s.st, sev := s.standing, tmax := t.tmax, vsum := t.vsum, fcount := min 0xFFFF (t.fcount + b2n (decide (1 ≤ s.standing)))
    slot := if reply != [] then reply else if s.relays then s.relayBytes else List.replicate 32 0 }

/-- An up tick frame leaves on a lane with its TURN and ASYM (R93, R94). -/
def State.sendUpOn (s : State) (n : Nat) (u : UpFrame) : State :=
  let turn := match (s.lane n).t2 with
    | some t2 => min (s.stamp - t2) 0xFFFFFF
    | none => 0xFFFFFF
  let u' : UpFrame := { u with turn := turn, asym := if n < 2 then s.f ⟨A.TICK_ASYM_A + 4 * n, 15, 0⟩ else 0 }
  (s.updLane n (fun l => { l with t2 := none, txLog := noteLoad s.now 130 l.txLog })).putFrame n u'.bytes

/-- The up frame leaves on both uplinks, whichever are UP, from the tick after the first valid down frame (R78, R94). -/
def State.sendUp (s : State) : State :=
  if s.tree.upSends < 2 then s
  else s.each (s.uplinks.filter s.laneUp) (fun s' n => s'.sendUpOn n s.upFields)

/-- The cross-link frames of a twin member: down from the ACTIVE one, up from the other (14 R373). HANDOVER stands in those of one
tick (14 R386). -/
def State.sendCross (s : State) : State :=
  if !s.isTwin then s
  else
    let block := s.statusBlock
    { s with twin.handoverOut := false }.each (s.xlinks.filter s.laneUp) (fun s' n =>
      if s.twinRole = ROLE.ACTIVE then
        s'.sendDownOn n { s.downFields 32 with credit := false, slotOn := true, slot := block, hold := s.isMeadow && s.st != ST.RUN }
      else s'.sendUpOn n { s.upFields with slotOn := true, slot := block })

/-! Frames taken. -/

/-- A tick frame that fails R89: FCRC, and LANE_CRC at the sixteenth within 1 s (R107). -/
def State.badFrame (s : State) (n : Nat) : State :=
  let l := slide 1000000000 s.now (s.lane n).badAt
  let s := (s.bump (F.LANE_ERR_FCRC n)).updLane n (fun x => { x with badAt := if 16 ≤ l.length then [] else l })
  s.raiseIf (decide (16 ≤ l.length)) FS.LANE_CRC

/-- The lane is one of the node's cross-link lanes. -/
def State.isXlink (s : State) (n : Nat) : Bool := s.xlinks.contains n

/-- What a valid tick frame does on its lane. -/
def State.noteFrame (s : State) (n : Nat) (b : List Byte) : State :=
  s.updLane n (fun l => { l with got := true, carried := true, frame := b, rxLog := noteLoad s.now (b.length + 2) l.rxLog })

/-- A cross-link frame (14 R373; R45; 09 R273). -/
def State.crossFrame (s : State) (n : Nat) (b : List Byte) (age : Nat) : State :=
  let s := s.noteFrame n b
  if b.length = 64 then
    let d := parseDown b
    let s := s.updLane n (fun l => { l with t2 := some (s.stamp - age) })
    let s := s.takeStatus d.active d.slot
    let s := if s.isMeadow then s.timeFrame n d ((s.clk.timePs / 125 - age) * 125) else s
    if s.twinRole ≠ ROLE.ACTIVE ∧ d.active ∧ d.trig ∧ s.recorder.trig.isNone then s.gotTrig d.trigId else s
  else
    let u := parseUp b
    let t4 := s.stamp - age
    let s := match (s.lane n).t1.find? (fun t => decide (t + u.turn < t4)) with
      | some t1 => if u.turn = 0xFFFFFF then s
          else s.updLane n (fun l => { l with delay := delayOf t1 t4 u.turn (signed 16 u.asym) })
      | none => s
    s.takeStatus u.active u.slot

/-- The split of this tick, made on a frame no longer obeyed, is taken back: pointer and counts (05 R153 to R155). -/
def State.unsplit (s : State) : State :=
  let s := s.setF F.YAR_USTAT_PTR s.yar.ptr0
  let s := s.setF F.YAR_USTAT_SHORTFALL (s.f F.YAR_USTAT_SHORTFALL - s.yar.short0)
  { s.setF F.YAR_USTAT_TOK_LOST (s.f F.YAR_USTAT_TOK_LOST - s.yar.lost0) with yar.short0 := 0, yar.lost0 := 0 }

/-- What a split counts (05 R154, R155); YAR_SHORTFALL is raised once in a tick. -/
def State.countSplit (s : State) (o : SplitOut) : State :=
  let short := s.f F.YAR_USTAT_SHORTFALL
  let lost := s.f F.YAR_USTAT_TOK_LOST
  let s := (s.bumpBy F.YAR_USTAT_SHORTFALL o.rem).raiseIf (decide (0 < o.rem) && !s.yar.shortSaid) FS.YAR_SHORTFALL
  let s := (s.when o.lost (fun s => s.bump F.YAR_USTAT_TOK_LOST)).setF F.YAR_USTAT_PTR o.ptr
  { s with yar.short0 := s.f F.YAR_USTAT_SHORTFALL - short, yar.lost0 := s.f F.YAR_USTAT_TOK_LOST - lost
           yar.shortSaid := s.yar.shortSaid || decide (0 < o.rem) }

/-- The Umbel sends HOLD to every child and runs no split (05 R162). -/
def State.holdAll (s : State) : State :=
  let s := s.unsplit
  let s := s.each s.units (fun s n => s.updUnit n (fun u =>
    { u with thresh := 0, dir := 0, share := 0, token := false, frac := 0, iarm := s.yar.iarm }))
  let s := { s with yar.allHold := true, clk.allocAt := if s.clk.allocated then s.clk.allocAt else some s.clk.nowPs }
  if s.st = ST.RUN then s.enter ST.HOLD else s

/-- SPLIT at an Umbel (05 R152 to R155). -/
def State.splitFrame (s : State) (d : DownFrame) : State :=
  let s := s.unsplit
  let us := s.units
  let o := split (us.map (fun n => (s.unit n).contrib.bins)) (s.f F.YAR_USTAT_PTR) d.thresh d.dir d.share d.token
  let s := s.each us.zipIdx (fun s ui => s.updUnit ui.1 (fun u =>
    { u with thresh := d.thresh, dir := d.dir, frac := d.frac, iarm := d.iarm, token := o.holder == some ui.2
             share := ((o.shares.find? (fun p => p.1 == ui.2)).map (·.2)).getD 0 }))
  let s := s.countSplit o
  let s := { s with yar.allHold := false, clk.allocAt := if s.clk.allocated then s.clk.allocAt else some s.clk.nowPs }
  if s.st = ST.HOLD then s.enter ST.RUN else s

/-- What obeying a frame does: credit, BLOCK and SGR, trigger, Yarrow (17 R443; 13 R357; 09 R274; 05 R157, R162; R63). -/
def State.obeyFrame (s : State) (d : DownFrame) (again : Bool) : State :=
  let s := { s with child.hb := d.harebell, yar.iarm := d.iarm }
  let s := if d.credit ∧ s.st = ST.WAIT_CREDIT then (s.setF F.SYS_STATE_CREDIT 1).go ST.READY else s
  let s := s.obeyFrameBits d.block d.sgr again
  let s := if d.trig ∧ s.recorder.trig.isNone then s.gotTrig d.trigId else s
  if s.isUmbel then (if d.hold then s.holdAll else s.splitFrame d)
  else
    let s := if d.hold then s else { s with life.frame := some (signed 24 d.iarm) }
    if d.hold ∨ d.block ∨ s.clk.farOff ∨ !yarState s.st then { s with yar.pend := none }
    else s.decideFrame d.thresh d.dir d.share d.token d.frac d.iarm

/-- The new frame is obeyed in place of the one obeyed so far in the tick (R95; 14 R375). -/
def State.obeysInstead (s : State) (n : Nat) (d : DownFrame) : Bool :=
  match s.child.obeyed with
  | none => true
  | some (m, b) =>
    let o := parseDown b
    if s.dualHomed then epochHigher d.epoch o.epoch || (d.epoch == o.epoch && decide (n < m))
    else decide (n < m) && s.child.obeyedAt / 2000 == s.clk.nowPs / 2000

/-- A valid down tick frame on an uplink: its time, and what it makes the node do when it is obeyed; the class-0 command in
the slot of an obeyed frame is handed back. After the deadline only BLOCK and SGR of the uplink obeyed still act (R64, 13 R356). -/
def State.uplinkFrame (s : State) (n : Nat) (b : List Byte) (age : Nat) : State × List Byte :=
  let d := parseDown b
  let s := (s.noteFrame n b).updLane n (fun l => { l with t2 := some (s.stamp - age) })
  if s.st < ST.SYNC then (s, [])
  else
    let s := if s.tree.upSends = 0 then { s with tree.upSends := 1 } else s
    let t2 := (s.clk.timePs / 125 - age) * 125
    if !d.active then (s.timeFrame n d t2, [])
    else if s.child.closed then
      let own := !s.dualHomed || s.f F.TWIN_CHILD_FOLLOW == n
      ((s.timeFrame n d t2).takeFrameBits (own && d.block) (own && d.sgr), [])
    else
      let s := { s with child.frames := Map.set [] s.child.frames n b }
      if s.obeysInstead n d then
        let again := s.child.obeyed.isSome
        let s := { (s.setF F.TWIN_CHILD_FOLLOW n).setF F.TWIN_CHILD_EPOCH d.epoch with
          child.obeyed := some (n, b), child.obeyedAt := s.clk.nowPs }
        ((s.timeFrame n d t2).obeyFrame d again, if d.slotOn then d.slot else [])
      else (s.timeFrame n d t2, [])

/-- A tick frame arrives (R57, R89): on an uplink, a cross-link, or elsewhere in error. -/
def State.downArrives (s : State) (n : Nat) (b : List Byte) (age : Nat) : State × List Byte :=
  if !s.laneUp n then (s, [])
  else if s.isXlink n then
    (if (downValid b ∧ !(s.lane n).got) ∨ upValid b then s.crossFrame n b age else s.badFrame n, [])
  else if s.uplinks.contains n then
    if downValid b ∧ !(s.lane n).got then s.uplinkFrame n b age else (s.badFrame n, [])
  else (s.badFrame n, [])

/-! Merge (R61; 05 R145). -/

/-- Frames of this tick from the members of a twin unit: member B or not, and bytes. -/
def State.memberFrames (s : State) (n : Nat) : List (Bool × List Byte) :=
  (s.unitLanes n).filterMap (fun l =>
    if (s.lane l).frame = [] then none else some (s.f (F.CMD_DL_FAR_ADDR l) % 2 == 1, (s.lane l).frame))

/-- Selects a twin unit's up tick frame (14 R377). -/
def State.selectFrame (s : State) (n : Nat) : State :=
  let u := s.unit n
  if !u.twin then s
  else
    let fs := s.memberFrames n
    let act := fs.filter (fun f => (parseUp f.2).active)
    let better (a b : Bool × List Byte) : Bool :=
      let ea := (parseUp a.2).epoch
      let eb := (parseUp b.2).epoch
      epochHigher eb ea || (ea == eb && a.1 && !b.1)
    match act with
    | f :: rest =>
      let g := rest.foldl (fun a b => if better a b then b else a) f
      s.setUnit n { u with frame := g.2, memberB := g.1, takenB := g.1, known := true }
    | [] =>
      match (fs.find? (fun f => f.1 == u.takenB)).or fs.head? with
      | some g => s.setUnit n { u with frame := g.2, takenB := g.1 }
      | none => s.setUnit n { u with frame := [] }

/-- A unit at the merge instant (R61, 01 R37): on time, stale, excluded or absent. -/
def State.tallyUnit (s : State) (n : Nat) : State :=
  let s := s.selectFrame n
  let u := s.unit n
  if !s.unitPresent n then s.setUnit n { u with status := 3, misses := 0, hold := true, frame := [] }
  else if u.frame ≠ [] then
    let f := parseUp u.frame
    s.setUnit n { u with used := f.toTally, last := f.toTally, status := 0, misses := 0, hold := false
                         credit := u.credit && f.creditReq }
  else if u.misses = 0 then
    ((s.setUnit n { u with used := u.last, status := 1, misses := 1 }).bump F.TICK_LATE_STALE).raise FS.TALLY_STALE
  else
    ((s.setUnit n { u with status := 2, misses := min 255 (u.misses + 1), hold := true }).bump F.TICK_LATE_EXCLUDED).raise FS.TALLY_EXCLUDED

/-- One more event in the credit budget, unless it is spent (17 R444). -/
def State.spendCredit (s : State) : Option State :=
  let w := s.f F.SYS_CREDIT_CREDIT_WIN * 100000
  let l := s.node.credits.filter (fun t => decide (s.now < t + w))
  if l.length < s.f F.SYS_CREDIT_CREDIT_N then some { s with node.credits := l ++ [s.now] } else none

/-- A lane leaves OFF for PEND (03 R74); its module is read anew (03 R87). -/
def State.raiseLane (s : State) (n : Nat) : State :=
  if s.laneSt n = 0 ∧ s.f (F.LANE_CFG_MODE n) ≠ 2 then
    (s.setF (F.LANE_STATUS_STATE n) 1).updLane n (fun l => { l with since := s.now, survey := false })
  else s

/-- Bring-ups and grants at a merge instant (17 R444). -/
def State.creditGrants (s : State) : State :=
  if !s.credit then s
  else
    let s := s.each (s.units.filter (fun n => !(s.unit n).raised)) (fun s n => match s.spendCredit with
      | some s => (s.each (s.unitLanes n) State.raiseLane).updUnit n (fun u => { u with raised := true })
      | none => s)
    if !chanState s.st then s
    else s.each (s.units.filter (fun n => (s.unit n).frame != [] && (parseUp (s.unit n).frame).creditReq && !(s.unit n).credit))
      (fun s n => match s.spendCredit with
        | some s => (s.updUnit n (fun u => { u with credit := true })).bump F.SYS_CREDIT_GRANTS
        | none => s)

/-- The merged Tally of an Umbel, or of each string of a Meadow (05 R145). -/
def State.mergeTallies (s : State) : State :=
  if s.isMeadow then
    s.each stringNumbers (fun s k =>
      let t := mergeUnits ((s.units.filter (fun n => (s.unit n).string == k)).map s.unit)
      let s := { s with yar.strings := Map.set {} s.yar.strings k t }
      ((s.setF (F.YAR_S_TALLY_AVAIL k) t.avail).setF (F.YAR_S_TALLY_UNAVAIL k) t.unavail).setF (F.YAR_S_STALE_STALE k) t.stale)
  else
    let t := mergeUnits (s.units.map s.unit)
    let t : Tally := if chanState s.st then t
      else { unavail := s.f F.CMD_CAP_CELLS, tmax := t.tmax, fcount := t.fcount }
    { s with yar.own := t }

/-- MERGE at the merge instant (R58): Tallies, class-0 replies at a Meadow, credits, twin, Safe Stop envelope, loop window. -/
def State.merge (s : State) : State :=
  if s.clk.merged ∨ s.isFloret then s
  else
    let s := s.each s.units State.tallyUnit
    let s := { s with clk.merged := true, clk.mergeAt := s.clk.nowPs, yar.ownTick := s.tickNo }.mergeTallies
    let s := if s.isMeadow then
        s.each (s.units.filter (fun n => (s.unit n).frame != [] && (parseUp (s.unit n).frame).slotOn))
          (fun s n => s.takeReply (parseUp (s.unit n).frame).slot)
      else s
    s.creditGrants.twinMerge.envelopeCheck.loopRun

/-- Every unit that is present has sent what this tick's merge waits for. -/
def State.allArrived (s : State) : Bool :=
  let us := s.units.filter s.unitPresent
  us != [] && us.all (fun n =>
    if (s.unit n).twin then (s.unitLanes n).all (fun l => !s.on (F.CMD_DL_PRESENT l) || !s.laneUp l || (s.lane l).frame != [])
    else (s.unit n).frame != [])

/-- UP_TICK_FRAME: an up tick frame arrives on a lane (R61, R62, R89; 01 R22); `age` since its /S/ at the pins, 125 ps. -/
def onUpTickFrame (lane : Fin 32) (frame : List Byte) (age : Nat) (s : State) : State :=
  let n : Nat := lane
  if !s.laneUp n then s
  else if s.isXlink n then (if upValid frame ∨ (downValid frame ∧ !(s.lane n).got) then s.crossFrame n frame age else s.badFrame n)
  else if s.use n < 2 ∨ 4 < s.use n ∨ !upValid frame then s.badFrame n
  else
    let u := parseUp frame
    let t4 := s.stamp - age
    let first := !(s.lane n).got
    let late := s.clk.merged
    let s := match (s.lane n).t1.find? (fun t => decide (t + u.turn < t4)) with
      | some t1 => if u.turn = 0xFFFFFF then s
          else s.updLane n (fun l => { l with delay := delayOf t1 t4 u.turn (signed 16 u.asym) })
      | none => s
    let s := s.updLane n (fun l => { l with got := true, carried := true, frame := if first ∧ !late then frame else l.frame
                                            rxLog := noteLoad s.now 130 l.rxLog })
    if late ∨ !first then s
    else
      let m := s.unitOf n
      let s := if (s.unit m).twin ∨ (s.unit m).frame ≠ [] then s else s.updUnit m (fun x => { x with frame := frame })
      if s.allArrived then (s.reachTime (min (s.clk.timePs + 2000) (s.clk.tickStart + s.clk.phTally * 2000))).merge else s

/-- MERGE_COMPLETE (R58, 05 R166): 38 clk after the merge instant an Umbel's up frame leaves. -/
def onMergeComplete (s : State) : State :=
  if !s.isUmbel ∨ !s.clk.merged ∨ s.clk.upSent then s
  else
    let s := s.reachNow (s.clk.mergeAt / 1000 + 76)
    let t := s.yar.own
    let s := ((s.setF F.YAR_UTALLY_AVAIL t.avail).setF F.YAR_UTALLY_UNAVAIL t.unavail).setF F.YAR_USTALE_STALE t.stale
    { s.sendUp with clk.upSent := true }

/-! Allocation. -/

/-- TOP_ALLOCATION of one string at a Meadow (05 R147 to R152, R164). -/
def State.allocString (s : State) (k : Nat) : State :=
  let us := s.units.filter (fun n => (s.unit n).string == k)
  let t := Map.get {} s.yar.strings k
  let en := s.on (F.YAR_S_CFG_EN k)
  let a : TopAlloc := if en then topAllocate t.bins t.avail (s.fi (F.YAR_S_DEM_DEM k)) (s.fi (F.YAR_S_IARM_IARM k)) (s.on (F.YAR_S_CFG_FB k)) else {}
  let token := decide (0 < a.frac)
  let o : SplitOut := if en then
      split (us.map (fun n => (s.unit n).contrib.bins)) (s.f (F.YAR_S_PTR_PTR k)) a.thresh a.dir a.share token
    else { ptr := s.f (F.YAR_S_PTR_PTR k) }
  let s := s.each us.zipIdx (fun s ui => s.updUnit ui.1 (fun u =>
    { u with thresh := a.thresh, dir := a.dir, frac := a.frac, iarm := s.f (F.YAR_S_IARM_IARM k), token := o.holder == some ui.2
             share := ((o.shares.find? (fun p => p.1 == ui.2)).map (·.2)).getD 0 }))
  let s := s.setReg (A.YAR_S_ALLOC k) (BitVec.ofNat 32
    (a.n * 2 ^ 20 + a.share * 2 ^ 8 + b2n a.neg * 128 + b2n token * 64 + a.dir * 32 + a.thresh))
  let was := s.on (F.YAR_S_SAT_SAT k)
  let s := (s.when a.sat (fun s => s.bump (F.YAR_S_SAT_SAT_TICKS k))).setF (F.YAR_S_SAT_SAT k) (b2n a.sat)
  let s := s.raiseIf (a.sat && !was) FS.YAR_SATURATED
  if s.st = ST.RUN then s.setF (F.YAR_S_PTR_PTR k) o.ptr else s

/-- TOP_ALLOCATION: all strings; units of no string get zeros (05 R150, R151). -/
def State.topAllocation (s : State) : State :=
  let s := s.each (s.units.filter (fun n => decide (16 ≤ (s.unit n).string))) (fun s n => s.updUnit n (fun u =>
    { u with thresh := 0, dir := 0, frac := 0, iarm := 0, token := false, share := 0 }))
  { s.each stringNumbers State.allocString with clk.allocAt := some s.clk.nowPs }

/-- ALLOCATION_COMPLETE (R58, R59): 40 clk after it started, the down frames leave, and a twin member's cross-link frame. -/
def onAllocationComplete (s : State) : State :=
  match s.clk.allocAt with
  | none => s
  | some t =>
    let s := s.reachNow (t / 1000 + 80)
    let s := s.each s.units (fun s n =>
      s.each ((s.unitLanes n).filter (fun l => s.laneUp l && (s.lane l).sends == 2)) (fun s l => s.sendDownOn l (s.downFields n)))
    { s.sendCross with clk.allocAt := none, clk.allocated := true }

/-! The phases. -/

/-- SAMPLE (R58): tick operands; sequences start by SEQUENCE_RUN_START. -/
def onSample (s : State) : State :=
  if s.phaseFalls s.clk.phSample then (s.reachPhase s.clk.phSample).tickOperands 1 else s

/-- UP (R58): a Floret forms its Tally and sends its up tick frame. TMAX is a free value where the Floret has cells. -/
def onUp (s : State) : State :=
  let falls := s.phaseFalls s.clk.phUp
  let s := s.when falls (fun s => (s.reachPhase s.clk.phUp).tickOperands 2)
  if !falls ∨ !s.isFloret then s
  else
    let s := s.floretTally
    let (i, s) := s.free
    let s := if s.cells = [] then s else { s with yar.own := { s.yar.own with tmax := (Config.openWord i).toNat % 256 } }
    s.sendUp

/-- The run in progress reads lines of table memory (11 R314): corrected ones hold it up, an uncorrectable one abandons it. -/
def State.readProgram (s : State) (lines : List Nat) : State :=
  match s.loop.run with
  | none => (s.engineReads lines).1
  | some r =>
    let (s, k, readable) := s.engineReads lines
    if readable then { s with loop.run := some { r with clks := r.clks + k } } else s.abandonRun

/-- TALLY (R58, R61): the tally deadline; in a Floret the loop window opens (07 R206). `reads` are the lines of table memory that the tick's
run reads: the spec does not say where in it the loop program stands. -/
def onTally (reads : List (Fin 24576)) (s : State) : State :=
  if !s.phaseFalls s.clk.phTally then s
  else
    let s := (s.reachPhase s.clk.phTally).tickOperands 3
    ((if s.isFloret then s.loopRun else s.merge).readProgram (reads.map (·.val))).clkOver s.clk.phTally

/-- The loop window closes: a run that has completed by now commits (R56), another is abandoned (R65). -/
def State.closeLoops (s : State) : State :=
  match s.loop.run with
  | none => s
  | some r => if r.opened + 2 * r.clks ≤ s.now then s.commitRun r else s.abandonRun

/-- LOOP_END (R58, R65): the Meadow's loop window closes and the top allocation starts. -/
def onLoopEnd (s : State) : State :=
  if !s.phaseFalls s.clk.phLoopEnd then s
  else
    let s := ((s.reachPhase s.clk.phLoopEnd).tickOperands 4).closeLoops
    if !s.isMeadow ∨ s.slotsClosed then s
    else
      let s := s.raiseIf (!s.loop.done) FS.TICK_OVERRUN
      let s := s.topAllocation
      (s.when (s.twinRole == ROLE.ACTIVE) (fun s =>
        s.issueTrig (s.units.any (fun n => (s.unit n).frame != [] && (parseUp (s.unit n).frame).trigReq)))).clkOver s.clk.phLoopEnd

/-- DOWN (R58; 05 R162; 14 R375, R388): an Umbel that obeyed no frame by now sends HOLD. -/
def onDown (s : State) : State :=
  let falls := s.phaseFalls s.clk.phDown
  let s := s.when falls (fun s => (s.reachPhase s.clk.phDown).tickOperands 5)
  if !falls ∨ !s.isUmbel ∨ s.child.closed then s
  else
    let s := { s with child.closed := true }
    ((if s.child.obeyed.isNone then s.holdAll else s).uplinkHandover).clkOver s.clk.phDown

/-- The obeyed frame of this tick carries HOLD. -/
def State.obeyedHold (s : State) : Bool := (s.child.obeyed.map (fun x => (parseDown x.2).hold)).getD false

/-- HOLD_CNT has reached HOLD_LIMIT (R64, 17 R434): BLOCKED with BLK_HOLD. -/
def State.holdLimit (s : State) : State :=
  let s : State := (s.setF F.SYS_STATE_BLK_HOLD 1).raise FS.HOLD_LIMIT_REACHED
  let s : State := { s with node.blkClean := 0 }
  s.go ST.BLOCKED

/-- A hold at the apply deadline (R63, R64; 17 R436). -/
def State.holdTick (s : State) : State :=
  let first := s.f F.TICK_HOLD_HOLD_CNT == 0
  let s : State := s.setF F.TICK_HOLD_HOLD_CNT (min 64 (s.f F.TICK_HOLD_HOLD_CNT + 1))
  let s : State := { s with yar.pend := none }
  let s : State := (s.raiseIf first FS.DOWN_HOLD).setF F.YAR_DEC0_HELD 1
  if s.f F.TICK_HOLD_HOLD_LIMIT ≤ s.f F.TICK_HOLD_HOLD_CNT then s.holdLimit
  else if s.st = ST.RUN then s.enter ST.HOLD else s

/-- What a Floret does at the apply deadline, for every tick it does not obey a frame without HOLD (R63). -/
def State.applyDeadline (s : State) : State :=
  if yarState s.st && (s.child.obeyed.isNone || s.obeyedHold || s.clk.farOff) then s.holdTick
  else s.setF F.YAR_DEC0_HELD 0

/-- The deadline is past: a frame obeyed later changes nothing of this tick. -/
def State.closeTick (s : State) : State := { s with child.closed := true }

/-- APPLY (R58, R63; 09 R258; 15 R401): the apply deadline of a Floret; samples on the tick's clock. -/
def onApply (s : State) : State :=
  let c := s.clk.tickLen - 100
  let falls := s.phaseFalls c
  let s := s.when falls (fun s => ((s.reachPhase c).tickOperands 6).sampleTick)
  if !falls ∨ !s.isFloret ∨ s.child.closed then s else s.closeTick.rainflow.applyDeadline.clkOver c

/-- HOLD_LIMIT_REACHED (R64). -/
def onHoldLimitReached (s : State) : State :=
  if s.isFloret ∧ yarState s.st ∧ s.f F.TICK_HOLD_HOLD_LIMIT ≤ s.f F.TICK_HOLD_HOLD_CNT then s.holdLimit else s

/-- DECISION_APPLY with what the lifetime unit notes of it (15 R399). -/
def onDecisionApplied (s : State) : State := s.noteEdges (onDecisionApply s)

/-- TRIM_END with what the lifetime unit notes of it (15 R399). -/
def onTrimEnded (s : State) : State := s.noteEdges (onTrimEnd s)

/-! TIME_SET and TIME_READ (R42, R70). -/

/-- The load instant of an accepted TIME_SET; `fresh` when the boundary at the new time has still to be taken. -/
def State.loadTime (s : State) (fresh : Bool) : State :=
  match s.clk.timeSet with
  | none => s
  | some (p, v, _, _) =>
    let s := { s with clk.timeSet := none }
    if s.st = ST.RUN then s.release 0x0020 p Stat.DENIED []
    else if v % (s.clk.tickLen * 2) ≠ 0 then s.release 0x0020 p Stat.BAD_PARAM []
    else
      let s := if fresh then { s with clk.timePs := v * 1000, clk.nextAt := v * 1000 } else s.setTime (v * 1000)
      s.release 0x0020 p Stat.OK []

/-- The pending TIME_SET of mode 0h was accepted before now. -/
def State.timeSetDue (s : State) : Bool :=
  match s.clk.timeSet with
  | some (_, _, m, t) => m == 0 && decide (t < s.clk.nowPs)
  | none => false

/-- TIME_SET_LOAD (R42): the next tick boundary, for mode 0h. -/
def onTimeSetLoad (s : State) : State :=
  match s.clk.timeSet with
  | some (_, _, 0, _) =>
    if s.clk.timePs = s.clk.tickStart ∧ s.timeSetDue then s.loadTime false
    else (s.reachTime s.clk.nextAt).loadTime true
  | _ => s

/-- TIME_SET_EDGE_TIMEOUT (R70): mode 1h has seen no edge within 2 s. -/
def onTimeSetEdgeTimeout (s : State) : State :=
  match s.clk.timeSet with
  | some (p, _, 1, t) => ({ s.reachNow (t / 1000 + 2000000000) with clk.timeSet := none }).release 0x0020 p Stat.TIMEOUT []
  | _ => s

def opTimeSet (p : Packet) (s : State) : Out :=
  let v := numAt p.params 0 8
  let m := numAt p.params 8 1
  if s.st = ST.RUN then refuse s Stat.DENIED
  else if p.params.length ≠ 9 ∨ 1 < m ∨ v % (s.clk.tickLen * 2) ≠ 0 then refuse s Stat.BAD_PARAM
  else holding { s with clk.timeSet := some (p, v, m, s.clk.nowPs) }

/-- TIME_READ; the global time is set again to the send stamp when the reply leaves, with the trailer made anew under the
session's key, which may end before that (R70). -/
def opTimeRead (p : Packet) (s : State) : Out :=
  if p.params ≠ [] then refuse s Stat.BAD_PARAM
  else
    let s := s.when (p.ks != []) (fun s => { s with cmd.stampKeys := Map.set [] s.cmd.stampKeys (srcKey p) p.ks })
    ok s (leBytes 8 s.time ++ s.view4 A.TICK_STATUS ++ s.view4 A.TICK_OFFSET ++ s.reg4 A.TICK_DELAY_A ++ s.reg4 A.TICK_DELAY_B ++
    leBytes 8 s.tickNo)

/-! Steering of the frequency (R45, R53). -/

/-- Changes the frequency correction towards the sign of `dir` by a free amount, at most 0.1 ppm for each second of `gap` ns,
within `limit`. -/
def State.steerFreq (s : State) (dir : Int) (limit gap : Nat) : State :=
  let (i, s) := s.free
  let step : Int := (gap / 10000 : Nat)
  let a := clampInt (if dir < 0 then -step else 0) (if 0 < dir then step else 0) (Config.steer i)
  { s with clk.freq := clampInt (-(limit : Int)) limit (s.clk.freq + a), clk.freqAt := s.now }

/-- The active Meadow that no PPS disciplines goes back to its own REFCLK, which its correction of 0 stands for, from the
frequency it held as a standby (R45). -/
def State.ownFrequency (s : State) : State :=
  let gap := s.now - s.clk.freqAt
  if !s.activeMeadow ∨ s.f F.TICK_CFG_PPS_MODE = 1 ∨ s.clk.freq = 0 ∨ gap < 10000 then s
  else s.steerFreq (-s.clk.freq) s.clk.freq.natAbs (min gap (s.clk.freq.natAbs * 10000))

/-! PPS (R53 to R55). -/

/-- PPS_IN: a rising edge whose high time is `width` ns (R53, R54). -/
def onPpsIn (width : Nat) (s : State) : State :=
  let m := s.f F.TICK_CFG_PPS_MODE
  if !s.isMeadow ∨ width < 100 ∨ (m ≠ 1 ∧ m ≠ 2) then s
  else
    let gap := match s.clk.ppsEdge with
      | some t => s.now - t
      | none => 1000000000
    let s := { s with clk.ppsEdge := some s.now, clk.ppsLost := false }
    if m = 1 then
      let x : Nat := s.clk.timePs % 1000000000000
      let diff : Int := if x < 500000000000 then (x : Int) else (x : Int) - 1000000000000
      let wide := decide (1000000 < diff.natAbs)
      let s := s.raiseIf wide FS.PPS_OFFSET
      if wide && s.st == ST.RUN then s else s.steerFreq (-diff) 2000000 gap
    else match s.clk.timeSet with
      | some (_, _, 1, _) => s.loadTime true
      | _ => s

/-- PPS_LOSS (R54). -/
def onPpsLoss (s : State) : State :=
  let m := s.f F.TICK_CFG_PPS_MODE
  match s.clk.ppsEdge with
  | some t =>
    if s.isMeadow ∧ (m = 1 ∨ m = 2) ∧ !s.clk.ppsLost then
      { s.reachNow (t + 1000001000) with clk.ppsLost := true }.raise FS.PPS_LOSS
    else s
  | none => s

/-- PPS_OUT (R55): the next whole second of global time. -/
def onPpsOut (s : State) : State :=
  if !s.on F.TICK_PPS_PPS_OUT_EN then s
  else
    let s := s.reachTime ((s.clk.timePs + 999999999999) / 1000000000000 * 1000000000000)
    { s with node.ppsOut := true, clk.ppsOutUntil := some (s.now + s.f F.TICK_PPS_PPS_WIDTH * 1000000) }

/-- PPS_WIDTH (R55): the pulse ends. -/
def onPpsWidth (s : State) : State :=
  match s.clk.ppsOutUntil with
  | some t => { s.reachNow t with node.ppsOut := false, clk.ppsOutUntil := none }
  | none => s

/-! Loss of alignment. -/

/-- HOLDOVER (R47). -/
def onHoldover (s : State) : State :=
  if s.activeMeadow ∨ s.st ≤ ST.SELFTEST ∨ s.f F.TICK_STATUS_LOCK = 3 then s
  else (s.setF F.TICK_STATUS_LOCK 3).raise FS.TICK_HOLDOVER

/-- SYNC_TIMEOUT (R48): 500 ms in SYNC. -/
def onSyncTimeout (s : State) : State :=
  if s.st = ST.SYNC ∧ !s.clk.syncRaised then
    { s.reachNow (s.node.since + 500000000) with clk.syncRaised := true }.raise FS.TICK_SYNC_LOSS
  else s

/-- TICK_ALIGN (R49): the offset has exceeded 20 ns for 16 consecutive ticks. -/
def onTickAlign (s : State) : State :=
  if s.clk.badTicks = 16 ∧ ST.LOAD ≤ s.st ∧ s.st ≤ ST.HOLD then { s with clk.badTicks := 17 }.raise FS.TICK_ALIGN else s

/-! The boundary. -/

/-- The count of clean ticks for BLK_HOLD (17 R434). -/
def State.countBlkHold (s : State) : State :=
  let clean := match s.child.obeyed with
    | some (_, b) => let d := parseDown b; !d.hold && !d.block && !d.sgr
    | none => false
  let n := if clean then s.node.blkClean + 1 else 0
  if s.on F.SYS_STATE_BLK_HOLD ∧ 16 ≤ n then { s.setF F.SYS_STATE_BLK_HOLD 0 with node.blkClean := 0 }
  else { s with node.blkClean := min 16 n }

/-- What the child side keeps of the tick that ends (14 R376). -/
def State.childBoundary (s : State) : State :=
  let got (n : Nat) : Nat := b2n (s.child.frames.any (fun x => x.1 == n))
  let s := ((s.setF F.TWIN_CHILD_WIT_A (got 0)).setF F.TWIN_CHILD_WIT_B (got 1)).setF F.TWIN_CHILD_OBEYED (b2n s.child.obeyed.isSome)
  { s with child.frames := [], child.obeyed := none, child.closed := false
           child.lastFollow := s.f F.TWIN_CHILD_FOLLOW, child.lastEpoch := s.f F.TWIN_CHILD_EPOCH
           tree.upSends := if s.tree.upSends = 1 then 2 else s.tree.upSends, node.frameDirty := false
           yar.ptr0 := s.f F.YAR_USTAT_PTR, yar.short0 := 0, yar.lost0 := 0, yar.shortSaid := false
           yar.held := if s.isFloret then s.on F.YAR_DEC0_HELD else s.yar.allHold }

/-- A lane at a boundary: a tick without a valid frame is counted; down frames start (03 R78, R79). -/
def Lane.boundary (l : Lane) : Lane :=
  { l with miss := if l.carried ∧ !l.got then l.miss + 1 else 0, got := false, frame := [], sends := if l.sends = 1 then 2 else l.sends }

/-- The parent side at a boundary. -/
def State.parentBoundary (s : State) : State :=
  let s := s.each (laneNumbers.filter s.laneUp) (fun s n => s.updLane n Lane.boundary)
  let s := s.each s.units (fun s n => s.updUnit n (fun u => { u with frame := [] }))
  { s with clk.merged := false, clk.upSent := false, clk.allocAt := none, clk.allocated := false, yar.allHold := false
           cmd.slotsOut := s.cmd.slots, cmd.slots := [], cmd.replyOut := s.cmd.replySlot, cmd.replySlot := [] }

/-- PORT_WRITE (07 R227): the enabled PERIOD and DUTY ports of each pair, in one clk. -/
def State.portWrite (s : State) : State :=
  let v (k : Nat) : Option Nat := (s.loop.portWrites.find? (fun x => x.1 == k)).map (·.2)
  let s := s.each pairNumbers (fun s p =>
    if (v (32 + 2 * p)).isSome ∨ (v (33 + 2 * p)).isSome then s.shadowWrite p (v (32 + 2 * p)) (v (33 + 2 * p)) else s)
  { s with loop.portWrites := [] }

/-- TICK_BOUNDARY (R41). -/
def onTickBoundary (s : State) : State :=
  let s := s.reachTime s.clk.nextAt
  let s := s.lifeBoundary.portWrite
  let s := s.systemTrigger (if s.isFloret then s.on F.YAR_DEC0_HELD else s.isUmbel && s.yar.allHold)
  let s := s.countBlkHold
  let s := s.childBoundary.parentBoundary
  let n := s.clk.nextAt / s.tickPs
  let s := { s with clk.tickStart := s.clk.nextAt, clk.tickNum := n, clk.nextAt := (n + 1) * s.tickPs
                    clk.bounds := s.clk.bounds + 1, recorder.holdoff := s.recorder.holdoff - 1 }
  let s := s.roleChange.countBoundary.ownFrequency
  let s := if s.timeSetDue then s.loadTime false else s
  (s.pumpC0).tickOperands 0

end Sys2Proof.Machine
end

