-- ==== Sys2Proof/Machine/Enumerate.lean ====
section
/-!
DEFINITION. Enumerate.lean: the topology record and its checks, units and their registers, ASSIGN on the parent's side and
on the child's (01 R19 to R40).
-/
namespace Sys2Proof.Machine
open Sys2Proof

/-! The record a node holds. -/

/-- Entries a node holds: a Meadow's record, or the ASSIGN an Umbel or Floret has taken (R29, R33). -/
def State.entries (s : State) : List Entry := if s.isMeadow then s.tree.record else entriesOf s.tree.taken

/-- The address children of this node give as PARENT: of member A of a pair (R28). -/
def State.parentKey (s : State) : Nat := s.addr - b2n (s.on F.CMD_NODE_TWIN && s.on F.CMD_NODE_MEMBER)

/-- The node's lanes on which a child's entry lands (R28). -/
def State.lanesOf (s : State) (e : Entry) : List Nat :=
  (if s.on F.CMD_NODE_TWIN then [if s.on F.CMD_NODE_MEMBER then eLaneB e else eLaneA e] else [eLaneA e, eLaneB e]).filter
    (fun n => decide (2 ≤ n) && decide (n < 32))

/-- Entries of the node's children. -/
def State.childEntries (s : State) : List Entry := s.entries.filter (fun e => eParent e == s.parentKey && eRole e != 2)

/-- Address of the unit an entry belongs to: of the node, or of member A of its pair (R20). -/
def unitKey (e : Entry) : Nat := eAddr e - b2n (eTwin e && eMemberB e)

/-- A child unit as the record gives it: its lanes in ascending order, its first entry, the entry at each lane. -/
structure UnitDef where
  lanes : List Nat := []
  head : Entry := []
  far : List (Nat × Entry) := []
  deriving DecidableEq, Repr

/-- The lanes of this node that serve an entry: of a pair's members one each, so that a unit has no more than two lanes (R20;
DESIGN CHOICE, log entry 32). -/
def State.unitLanesOf (s : State) (e : Entry) : List Nat := if eTwin e then (s.lanesOf e).take 1 else s.lanesOf e

/-- The child units named by the entries (R20, R39). -/
def State.unitDefs (s : State) : List UnitDef :=
  let cs := s.childEntries
  (cs.map unitKey).eraseDups.map (fun k =>
    let ms := cs.filter (fun e => unitKey e == k)
    let far := (ms.map (fun e => (s.unitLanesOf e).map (fun n => (n, e)))).flatten
    { lanes := (far.map (·.1)).eraseDups.mergeSort (· ≤ ·)
      head := ((ms.find? (fun e => !eMemberB e)).or ms.head?).getD [], far := far })

/-- Capacity of the subtree ADDR to HI of an entry: the cells of its Florets (R21). -/
def State.capacityOf (s : State) (e : Entry) : Nat :=
  ((s.entries.filter (fun x => eRole x == 0 && decide (eAddr e ≤ eAddr x) && decide (eAddr x ≤ eHi e))).map
    (fun x => kindCells (eKind x))).foldl (· + ·) 0

/-- CMD_CAP.ABSENT follows the units (R39). -/
def State.showAbsent (s : State) : State := s.setF F.CMD_CAP_ABSENT (s.units.filter (fun n => !s.unitPresent n)).length

/-- What a lane that stops forgets: segments that wait or are under assembly, stamps and delays. -/
def Lane.quiet (l : Lane) : Lane :=
  { l with txq := [], txNow := none, rx := [], hellos := 0, carried := false, miss := 0, got := false, frame := []
           t1 := [], t2 := none, delay := none, sends := 0, assign := [], assignRest := [] }

/-- A pattern test ends (03 R84): its time stays readable, and it no longer runs. -/
def State.endTest (s : State) (n : Nat) : State :=
  let l := s.lane n
  (s.setF (F.LANE_PRBS_TIME_COUNT n) (min (s.now - l.prbsStart) (l.prbsEnd - l.prbsStart) / 1000000)).setF (F.LANE_PRBS_RUN n) 0

/-- A lane enters a state other than HELLO, UP and HOST; a pattern test on it ends, and a host link's negotiation is undone. -/
def State.laneTo (s : State) (n st : Nat) : State :=
  let s := s.when (s.laneSt n == 6) (fun s => s.endTest n)
  let s := s.when (s.laneSt n == 8) (fun s => s.setF (F.LANE_STATUS_AN_DONE n) 0)
  -- TREND blocks that waited leave the buffer unsent (09 R275)
  let s := (s.lane n).txq.foldl (fun s t => s.trendDropped t) s
  let s := (s.setF (F.LANE_STATUS_STATE n) st).setF (F.LANE_STATUS_ALIGNED n) 0
  let s := s.when (st == 0 || st == 1 || st == 2) (fun s => s.setF (F.LANE_STATUS_SIGNAL n) 0)
  s.updLane n (fun l => { l.quiet with since := s.now, modRead := l.modRead && st != 0, survey := l.survey && st != 0 })

/-- A child on this lane is no longer assigned; a unit that loses its last member in RUN or HOLD is lost (R37). -/
def State.dropPresent (s : State) (n : Nat) : State :=
  let u := s.unitOf n
  let was := s.unitPresent u
  let s := s.setF (F.CMD_DL_PRESENT n) 0
  let s := if was ∧ !s.unitPresent u ∧ yarState s.st then s.updUnit u (fun x => { x with lost := true }) else s
  s.showAbsent

/-- A lane stops being UP, or is taken down by command: its child is no longer reached through it. -/
def State.lowerLane (s : State) (n st : Nat) : State :=
  let s := if s.laneUp n ∧ st = 7 then s.bump (F.LANE_STATUS_LOSSES n) else s
  let s := s.laneTo n st
  if 2 ≤ s.use n ∧ s.use n ≤ 4 then s.dropPresent n
  else if s.use n = USE.XLINK then s.setF (F.CMD_DL_PRESENT n) 0 else s

/-- The lane may be powered: not a factory part's (00 R3), not disabled, not kept off by R16 or R27, and its uplink not
barred (R33). -/
def State.laneEnabled (s : State) (n : Nat) : Bool :=
  s.role != 3 && s.f (F.LANE_CFG_MODE n) != 2 && ((s.isMeadow && n < 2) || s.uplinks.contains n || s.f (F.LANE_CFG_MODE n) == 1 ||
    (!s.isFloret && (s.use n != 0 || (s.lane n).survey)))

/-- The lane may come up now: a child's lane only when its unit's start credit has been spent (03 R75, 17 R444). -/
def State.mayPower (s : State) (n : Nat) : Bool :=
  s.laneEnabled n && (n < 2 || s.use n == USE.XLINK || s.f (F.LANE_CFG_MODE n) == 1 || (s.lane n).survey || (s.unit (s.unitOf n)).raised)

/-- Registers of one lane after a record: kept bits for a lane that still leads to the same node (R39). -/
def State.nameLane (s : State) (ds : List UnitDef) (n : Nat) : State :=
  match ds.find? (fun d => d.lanes.contains n) with
  | none =>
    let s := if 2 ≤ s.use n ∧ s.use n ≤ 4 then s.laneTo n 0 else s
    (s.setReg (A.CMD_DL n) 0).setReg (A.CMD_RANGE n) 0
  | some d =>
    let e := ((d.far.find? (fun x => x.1 == n)).map (·.2)).getD []
    let same := decide (2 ≤ s.use n) && decide (s.use n ≤ 4) && s.f (F.CMD_DL_FAR_ADDR n) == eAddr e % 8192
    let s := if same then s else s.setReg (A.CMD_DL n) 0
    let use := if d.lanes.length = 1 then 2 else if d.lanes.head? = some n then 3 else 4
    let other := if d.lanes.length = 1 then 0 else (d.lanes.find? (· != n)).getD 0
    let s := ((s.setF (F.CMD_DL_USE n) use).setF (F.CMD_DL_PARTNER n) other).setF (F.CMD_DL_FAR_ADDR n) (eAddr e % 8192)
    (s.setF (F.CMD_RANGE_LO n) (unitKey d.head)).setF (F.CMD_RANGE_HI n) (eHi d.head)

/-- A unit with what it had before under the same first lane; one whose lanes are others than before is brought up anew
(R33: a downlink newly named). -/
def State.placeUnit (s : State) (d : UnitDef) : Nat × UnitSt :=
  let f := d.lanes.headD 0
  let cap := s.capacityOf d.head
  let absent : Tally := { unavail := cap }
  let u : UnitSt := if s.units.contains f then { s.unit f with raised := (s.unit f).raised && (s.unitLanes f).mergeSort (· ≤ ·) == d.lanes }
    else { used := absent, last := absent }
  (f, { u with capacity := cap, string := if eStringValid d.head then eString d.head else 16, twin := eTwin d.head })

/-- Units, CMD_DL, CMD_RANGE and CMD_CAP after a record or an assignment has been taken (R39). -/
def State.nameUnits (s : State) : State :=
  let ds := s.unitDefs.filter (fun d => d.lanes != [])
  let us : List (Nat × UnitSt) := ds.map s.placeUnit
  let s := s.each (laneNumbers.filter (fun n => decide (2 ≤ n) && s.use n != USE.XLINK && s.use n != USE.HOST)) (fun s n => s.nameLane ds n)
  let s := { s with unitSts := us.foldl (fun (m : List (Nat × UnitSt)) (u : Nat × UnitSt) => Map.set {} m u.1 u.2) [] }
  let cells := if s.isFloret then kindCells (s.f F.CMD_NODE_KIND) else (us.map (fun (u : Nat × UnitSt) => u.2.capacity)).foldl (· + ·) 0
  ((s.setF F.CMD_CAP_UNITS ds.length).setF F.CMD_CAP_CELLS cells).showAbsent

/-! ASSIGN, the parent's side (R31, R35, R38). -/

/-- ASSIGN payload for the child on a lane: its own entry, then those of its subtree. -/
def State.assignPayload (s : State) (n : Nat) : List Byte :=
  match s.childEntries.find? (fun e => (s.lanesOf e).contains n) with
  | none => []
  | some e =>
    let below (x : Entry) : Bool := decide (eAddr e < eAddr x) && decide (eAddr x ≤ eHi e) && !(eTwin x && unitKey x == unitKey e)
    e ++ (s.entries.filter below).flatten

/-- Fragments of an ASSIGN enter the transmit buffer as far as it has room (03 R100); the node makes the others as it sends. -/
def State.fillAssign (s : State) (n : Nat) : List (List Byte) → State
  | [] => s.updLane n (fun l => { l with assignRest := [] })
  | b :: rest =>
    let t : TxItem := { prio := 1, bytes := b }
    if roomFor (s.lane n).txq t then (s.queueTx n t).fillAssign n rest else s.updLane n (fun l => { l with assignRest := b :: rest })

/-- Sends ASSIGN on a downlink that is UP; one of the same payload that is still entering the buffer goes on. -/
def State.sendAssign (s : State) (n : Nat) : State :=
  let p := s.assignPayload n
  let l := s.lane n
  let s := s.updLane n (fun l => { l with assign := p, assignAt := s.now })
  if l.assignRest ≠ [] ∧ l.assign = p then s.fillAssign n l.assignRest
  else s.fillAssign n (message KIND.ASSIGN 0 (s.f (F.CMD_DL_FAR_ADDR n)) false p)

/-- Extensions to the Umbel units that have taken their assignment (R33, R35). -/
def State.sendExtensions (s : State) : State :=
  let isUmbelLane (n : Nat) : Bool := s.childEntries.any (fun e => (s.lanesOf e).contains n && eRole e == 1)
  s.each (laneNumbers.filter (fun n => s.on (F.CMD_DL_PRESENT n) && decide (2 ≤ s.use n) && s.laneUp n && isUmbelLane n)) State.sendAssign

/-- Link-up of a lane (R31, 03 R78): ASSIGN on a named downlink once this node is assigned. -/
def State.linkUp (s : State) (n : Nat) : State :=
  let s := s.setF (F.LANE_STATUS_STATE n) 5
  let s := s.updLane n (fun l => { l with since := s.now, carried := false, miss := 0 })
  if 2 ≤ s.use n ∧ s.use n ≤ 4 ∧ s.on F.CMD_NODE_ASSIGNED then s.sendAssign n else s

/-- ASSIGN_REPEAT (R31). -/
def onAssignRepeat (lane : Fin 32) (s : State) : State :=
  if s.laneUp lane ∧ (s.lane lane).assign ≠ [] then (s.reachNow ((s.lane lane).assignAt + 100000)).sendAssign lane else s

/-- The answer to an ASSIGN that is still repeated. One that comes when no ASSIGN is outstanding on the lane, as a second
answer to a repeat, is ignored: R38 does not say (DESIGN CHOICE, log entry 32). -/
def State.answered (s : State) (n : Nat) : Option State :=
  if s.laneUp n ∧ (s.lane n).assign ≠ [] then some (s.updLane n (fun l => { l with assign := [], assignRest := [] })) else none

/-- ASSIGN_ACK at the parent (R31, R37): the far node has taken its assignment. -/
def State.takeAck (s : State) (n : Nat) : State :=
  match s.answered n with
  | none => s
  | some s =>
    let u := s.unitOf n
    let fresh := !s.unitPresent u
    let s := (s.setF (F.CMD_DL_PRESENT n) 1).setF (F.CMD_DL_NAK n) 0
    let s := s.updLane n (fun l => { l with sends := if l.sends = 0 then 1 else l.sends })
    let s := s.updUnit u (fun x => if fresh then { x with last := { unavail := x.capacity }, lost := false, absentRaised := false } else x)
    s.showAbsent

/-- ASSIGN_NAK at the parent (R38). -/
def State.takeNak (s : State) (n : Nat) : State :=
  match s.answered n with
  | none => s
  | some s => ((s.setF (F.CMD_DL_NAK n) 1).dropPresent n).raise FS.TOPO_MISMATCH

/-- TOPO_UNIT_ABSENT (R37): still absent 1 s after RUN, or lost in RUN or HOLD; reported once. -/
def onTopoUnitAbsent (lane : Fin 32) (s : State) : State :=
  let n := lane.val
  if !s.units.contains n ∨ s.unitPresent n ∨ (s.unit n).absentRaised ∨ !yarState s.st then s
  else
    let s := if (s.unit n).lost then s else s.reachNow (s.node.runAt + 1000000000)
    (s.updUnit n (fun u => { u with absentRaised := true })).raise FS.TOPO_UNIT_ABSENT

/-! ASSIGN, the child's side (R32 to R34). -/

/-- Reason of ASSIGN_NAK for an unassigned node (R32, 03 R97); 0: none. -/
def State.nakReason (s : State) (n : Nat) (e : Entry) : Nat :=
  if eRole e ≠ s.role then 1
  else if eTwin e ∧ eMemberB e = s.on F.SYS_ID_SENIOR then 2
  else if (if n = 0 then eLaneA e else eLaneB e) = 0xFF then 3
  else 0

/-- Two entries agree in the fields that an assigned node keeps (R35). -/
def sameAssigned (a b : Entry) : Bool := a.take 12 == b.take 12

/-- The payload is an extension of the assignment taken (R33). -/
def State.extends (s : State) (p : List Byte) : Bool :=
  let new := entriesOf p
  let kept := s.childEntries.filter (fun e => (s.lanesOf e).any (fun n => s.on (F.CMD_DL_PRESENT n)))
  let needed := s.entries.filter (fun x => kept.any (fun e => decide (unitKey e ≤ eAddr x) && decide (eAddr x ≤ eHi e)))
  p.length % 16 == 0 && p.take 16 == s.tree.taken.take 16 && needed.all (fun x => new.any (sameAssigned x))

/-- FAR_ADDR of an uplink: the far node of the last HELLO, else the PARENT of the entry. -/
def State.showUplink (s : State) (n : Nat) : State :=
  let far := if (s.lane n).farAddr = 0xFFFF then eParent (s.tree.taken.take 16) else (s.lane n).farAddr
  (s.setF (F.CMD_DL_PRESENT n) 1).setF (F.CMD_DL_FAR_ADDR n) (far % 8192)

/-- The pairs of Yarrow in SWU_Pp_CFG.MODE for the cell kind taken (06 R175); the cells of a pair already forced are FAILED (06 R195). -/
def State.namePairs (s : State) : State :=
  (s.each s.yarPairs (fun s p => s.setF (F.SWU_P_CFG_MODE p) 1)).failedFlags

/-- The node takes its address, level, string and kind, its units, and enters SYNC (R32; 17 R431). -/
def State.takeAssign (s : State) (n : Nat) (p : List Byte) : State :=
  let e := p.take 16
  let s := { s with tree.taken := p, tree.takenLane := n, tree.takenAt := some s.clkNo }
  let s := (((s.setF F.CMD_NODE_ADDR (eAddr e)).setF F.CMD_NODE_LEVEL (eLevel e)).setF F.CMD_NODE_TWIN (b2n (eTwin e))).setF F.CMD_NODE_MEMBER (b2n (eMemberB e))
  let s := ((s.setF F.CMD_NODE_STRING_VALID (b2n (eStringValid e))).setF F.CMD_NODE_STRING (if eStringValid e then eString e else 0)).setF F.CMD_NODE_KIND (eKind e)
  let s := ((s.setF F.CMD_NODE_ASSIGNED 1).showUplink 0).showUplink 1
  let x := eXlane e
  let s := if s.isUmbel ∧ eTwin e ∧ 2 ≤ x ∧ x < 32 then
      ((s.setF (F.CMD_DL_USE x) USE.XLINK).setF (F.CMD_DL_FAR_ADDR x) (eAddr e ^^^ 1)).raiseLane x
    else s
  (if s.isFloret then s.nameUnits.namePairs else s.nameUnits).go ST.SYNC

/-- An answer to ASSIGN, on the lane it came on. -/
def State.answerAssign (s : State) (n kind : Nat) (p : List Byte) (reason : List Byte) : State :=
  s.sendSeg n kind 0 (numAt p 0 2 % 8192) (p.take 2 ++ reason)

/-- An ASSIGN at a child that has taken one (R33). -/
def State.laterAssign (s : State) (n : Nat) (p : List Byte) : State :=
  if p = s.tree.taken then s.answerAssign n KIND.ASSIGN_ACK p []
  else if s.extends p then
    let s := { s.answerAssign n KIND.ASSIGN_ACK p [] with tree.taken := p }
    let old := s.units
    let s := s.nameUnits.sendExtensions
    -- a new unit over lanes that are UP already (R33): enumerated at once
    s.each ((laneNumbers.filter (fun l => s.laneUp l && decide (2 ≤ s.use l) && decide (s.use l ≤ 4) && !old.contains (s.unitOf l))) ) State.sendAssign
  else
    let s := (s.answerAssign n KIND.ASSIGN_NAK p [4]).raise FS.TOPO_CONFLICT
    if n = s.tree.takenLane then s else s.updLane n (fun l => { l with banned := true })

/-- An ASSIGN on uplink A, complete in the clk in which the one on uplink B was taken, is taken in its place, and the one on
uplink B becomes the later one (R33). -/
def State.preferUplinkA (s : State) (p : List Byte) : State :=
  let b := s.tree.taken
  let isAck (t : TxItem) : Bool := numAt t.bytes 1 1 == KIND.ASSIGN_ACK && t.ready == s.clkNo
  let s := s.updLane 1 (fun l => { l with txq := l.txq.filter (fun t => !isAck t) })
  ((s.answerAssign 0 KIND.ASSIGN_ACK p []).takeAssign 0 p).laterAssign 1 b

/-- A whole ASSIGN message at a child (R32, R33). -/
def State.takeAssignMessage (s : State) (n : Nat) (p : List Byte) : State :=
  let r := s.nakReason n (p.take 16)
  if p.length < 16 ∨ s.st < ST.LINK ∨ s.isMeadow ∨ !s.uplinks.contains n then s
  else if !s.on F.CMD_NODE_ASSIGNED then
    if r = 0 then (s.answerAssign n KIND.ASSIGN_ACK p []).takeAssign n p
    else s.answerAssign n KIND.ASSIGN_NAK p [BitVec.ofNat 8 r]
  else if n = 0 ∧ s.tree.takenLane = 1 ∧ s.tree.takenAt = some s.clkNo ∧ r = 0 then s.preferUplinkA p
  else s.laterAssign n p

/-! The Meadow's record (R29, R35, R40). -/

/-- The values of an entry are those its table allows (R28). -/
def entryFormOk (strings : Nat) (e : Entry) : Bool :=
  let twin := eTwin e
  decide (eAddr e < 8192) && decide (eHi e < 8192) && decide (eAddr e ≤ eHi e) && decide (eRole e ≤ 2) && decide (eFlags e < 8) &&
  decide (eKind e ≤ 3) && decide (eLevel e ≤ 5) && numAt e 14 2 == 0 && (eRole e == 0 || eKind e == 0) &&
  (!eStringValid e || decide (eString e < strings)) && (!eMemberB e || twin) &&
  (if eRole e = 1 ∧ twin then decide (2 ≤ eXlane e) && decide (eXlane e < 32) else eXlane e == 0xFF) &&
  (if eRole e = 2 then twin && decide (eAddr e ≤ 1) && eParent e == 0xFFFF && eLevel e == 0
   else decide (2 ≤ eAddr e) && decide (1 ≤ eLevel e) && (eRole e == 0 || decide (eLevel e ≤ 4)) &&
     decide (2 ≤ eLaneA e) && decide (eLaneA e < 32) && (eLaneB e == 0xFF || (decide (2 ≤ eLaneB e) && decide (eLaneB e < 32)))) &&
  (eRole e != 0 || (eHi e == eAddr e && !twin)) &&
  (!twin || eMemberB e == (eAddr e % 2 == 1)) &&
  (eRole e == 2 || (eStringValid e == (eRole e == 1 || decide (0 < eKind e))))

/-- Lanes a child's entry names, each with the address of the parent member it is on. -/
def lanesNamed (ptwin : Bool) (e : Entry) : List (Nat × Nat) :=
  (eParent e, eLaneA e) :: (if eLaneB e = 0xFF then [] else [(eParent e + b2n ptwin, eLaneB e)])

/-- Checks of a child's entry against its parent's entry `p` (R15, R19, R25, R28, R29). -/
def underParent (p e : Entry) : Bool :=
  eRole p != 0 && !eMemberB p && eLevel e == eLevel p + 1 && decide (eAddr p < eAddr e) && decide (eHi e ≤ eHi p) &&
  (!eTwin p || eLaneB e != 0xFF) && (eTwin p || eLaneB e == 0xFF || eLaneA e != eLaneB e) &&
  (!eStringValid e || eRole p == 2 || (eStringValid p && eString p == eString e))

/-- Entry `a`, or its twin mate, stands above `e` in the record `l`, at most `n` levels up. -/
def isAbove (l : List Entry) (a : Entry) : Nat → Entry → Bool
  | 0, _ => false
  | n + 1, e => eParent e == unitKey a || match l.find? (fun x => eAddr x == eParent e) with
    | some p => isAbove l a n p
    | none => false

/-- Checks between two entries of the record `l` other than those of parent and child: mates of one pair agree, and the range
of a node holds no node that does not stand below it (R25, R29); `ptwin` tells of an address whether it is a twin's. -/
def pairOk (l : List Entry) (ptwin : Nat → Bool) (a b : Entry) : Bool :=
  let mates := eTwin a && eTwin b && unitKey a == unitKey b && eAddr a != eAddr b
  eAddr a != eAddr b &&
  (!mates || (eRole a == eRole b && eParent a == eParent b && eHi a == eHi b && (!eStringValid a || eString a == eString b))) &&
  (mates || eRole a == 2 || eRole b == 2 || decide (eHi a < eAddr b) || decide (eHi b < eAddr a) || isAbove l a 6 b || isAbove l b 6 a) &&
  (eRole a == 2 || eRole b == 2 ||
    !(lanesNamed (ptwin (eParent a)) a).any (fun x => (lanesNamed (ptwin (eParent b)) b).contains x)) &&
  !((eRole b != 2 && (lanesNamed (ptwin (eParent b)) b).contains (eAddr a, eXlane a)) ||
    (eRole a != 2 && (lanesNamed (ptwin (eParent a)) a).contains (eAddr b, eXlane b)))

/-- Entry `i` of a record is the one at which a check fails (R29): its own checks, and those with an earlier entry. -/
def State.entryFails (s : State) (strings : Nat) (l : List Entry) (i : Nat) : Bool :=
  let e := l.getD i []
  let before := l.take i
  let ptwin (a : Nat) : Bool := l.any (fun x => eAddr x == a && eTwin x)
  let parent := l.find? (fun x => eAddr x == eParent e)
  let strCap := ((l.take (i + 1)).filter (fun x => eRole x == 0 && eStringValid x && eString x == eString e)).map (fun x => kindCells (eKind x))
  !entryFormOk strings e ||
  (eTwin e && !l.any (fun x => eAddr x == eAddr e ^^^ 1)) ||
  (eTwin e && before.any (fun x => eAddr x == eAddr e ^^^ 1 && !eTwin x)) ||
  before.any (fun x => eTwin x && eAddr x == eAddr e ^^^ 1 && !eTwin e) ||
  (eRole e != 2 && parent.isNone) ||
  (eRole e != 2 && before.any (fun p => eAddr p == eParent e && !underParent p e)) ||
  before.any (fun c => eRole c != 2 && eParent c == eAddr e && !underParent e c) ||
  before.any (fun x => !pairOk l ptwin x e) ||
  (eRole e != 2 && (lanesNamed (ptwin (eParent e)) e).any (fun x => x.1 == s.addr && s.f (F.LANE_CFG_MODE x.2) == 1)) ||
  (eRole e == 0 && eStringValid e && decide (2048 < strCap.foldl (· + ·) 0))

/-- Nodes already assigned, with their index in the record in force (R35). -/
def State.assignedEntries (s : State) : List (Entry × Nat) :=
  let present := s.units.filter s.unitPresent
  s.tree.record.zipIdx.filter (fun x => present.any (fun n =>
    decide (s.f (F.CMD_RANGE_LO n) ≤ eAddr x.1) && decide (eAddr x.1 ≤ s.f (F.CMD_RANGE_HI n))))

/-- The index and source that a refusal of a record gives; none when it is accepted (R29, R35, R40). -/
def State.recordRefused (s : State) (b : List Byte) : Option (Nat × Nat) :=
  let strings := numAt b 1 1
  let count := numAt b 2 2
  let l := entriesOf (b.drop 16)
  if b.length < 16 ∨ numAt b 0 1 ≠ 1 ∨ strings = 0 ∨ 16 < strings ∨ count < 2 ∨ 8192 < count ∨ b.length ≠ 16 + 16 * count ∨
      numAt b 4 8 ≠ 0 ∨ crc32 (b.take 12 ++ b.drop 16) ≠ numAt b 12 4 then some (0xFFFF, 0)
  else if !l.any (fun e => eAddr e == 0) ∨ !l.any (fun e => eAddr e == 1) then some (0xFFFF, 0)
  else
    let old := s.assignedEntries
    let changed (e : Entry) : Bool := old.any (fun o => eAddr o.1 == eAddr e && !sameAssigned o.1 e)
    match (List.range count).find? (fun i => s.entryFails strings l i || changed (l.getD i [])) with
    | some i => some (i, 0)
    | none => (old.find? (fun o => !l.any (fun e => eAddr e == eAddr o.1))).map (fun o => (o.2, 1))

/-- TREE_LOAD (R29, R35, R40). A lane that is UP already, with an unassigned child whose entry has changed (one that answered
ASSIGN_NAK), gets no ASSIGN of the new record until its link comes up again: R31 ties ASSIGN to link-up, and the spec says
nothing of such a lane (DESIGN CHOICE, log entry 32). -/
def opTreeLoad (p : Packet) (s : State) : Out :=
  if s.st ≠ ST.CONFIG then refuse s Stat.DENIED
  else if 131088 < p.params.length then refuse s Stat.NO_RESOURCE
  else match s.recordRefused p.params with
    | some (i, src) => refuse s Stat.BAD_PARAM (leBytes 2 i ++ leBytes 1 src)
    | none =>
      let s := { s with tree.strings := numAt p.params 1 1, tree.record := entriesOf (p.params.drop 16) }
      ok ((s.setF F.CMD_NODE_ASSIGNED 1).nameUnits.sendExtensions)

/-- TREE_READ (R40). -/
def opTreeRead (p : Packet) (s : State) : Out :=
  let first := numAt p.params 0 2
  let n := numAt p.params 2 1
  if p.params.length ≠ 3 ∨ n = 0 ∨ 64 < n ∨ s.tree.record.length < first + n then refuse s Stat.BAD_PARAM
  else ok s ((s.tree.record.drop first).take n).flatten

end Sys2Proof.Machine
end

