-- ==== Sys2Proof/Machine/Lanes.lean ====
section
/-!
DEFINITION. Lanes.lean: the lane state machine, HELLO, loss and fall-back, pattern tests, optical modules, host lanes, the
start of a transmission, and the lane opcodes (03 R71 to R108).
-/
namespace Sys2Proof.Machine
open Sys2Proof

/-! Entry to PWR (R74 to R76, R82, R87). -/

/-- The lane kind of a HELLO (R97): 0 uplink A, 1 uplink B, 2 downlink, 3 cross-link. -/
def State.laneKind (s : State) (n : Nat) : Nat :=
  if s.isXlink n then 3 else if !s.isMeadow ∧ n < 2 then n else 2

/-- Highest rate code enabled in RATES below `below` (R76, R80). -/
def State.rateBelow (s : State) (n below : Nat) : Option Nat :=
  ((List.range below).reverse).find? (fun r => bit (s.f (F.LANE_CFG_RATES n)) r)

/-- The rate a lane starts at: uplink the highest enabled, host 0, else RATE unless fallen back (R74, R76, R80, R104). -/
def State.startRate (s : State) (n : Nat) : Nat :=
  if s.f (F.LANE_CFG_MODE n) = 1 then 0
  else if !s.isMeadow ∧ n < 2 then (s.rateBelow n 4).getD 0
  else if s.on (F.LANE_STATUS_DEGRADED n) then s.f (F.LANE_STATUS_RATE_NOW n)
  else s.f (F.LANE_CFG_RATE n)

/-- The I²C master and multiplexer of a lane's module: LANE_MOD, or in a Floret its own bus without a multiplexer (R86). -/
def State.moduleBus (s : State) (n : Nat) : Nat := if s.isFloret then n else s.f (F.LANE_MOD_BUS n)
def State.moduleMux (s : State) (n : Nat) : Nat := if s.isFloret then 0 else s.f (F.LANE_MOD_MUX_ADDR n)

/-- Before a transfer with a module behind a multiplexer, the byte 1 << MUX_CH is written to MUX_ADDR on its bus (R86). -/
def State.selectMux (s : State) (n : Nat) : State :=
  if s.moduleMux n = 0 then s
  else { s with node.mux := Map.set (0, 0) s.node.mux (s.moduleBus n) (s.moduleMux n, 2 ^ s.f (F.LANE_MOD_MUX_CH n)) }

/-- Enters PWR at a rate, with the profile of that rate (R82): also after LANE_RESTART, whose 'at once' the model takes as the
entry to PWR that follows it (DESIGN CHOICE, log entry 29). -/
def State.enterPwr (s : State) (n rate : Nat) : State :=
  let s := (s.laneTo n 2).setF (F.LANE_STATUS_RATE_NOW n) rate
  s.setReg (A.LANE_EQ n) (BitVec.ofNat 32 (Map.get 0x3820 (s.lane n).eq rate))

/-- ID_OK falls: the lane's margin history is cleared (15 R406). -/
def State.loseId (s : State) (n : Nat) : State :=
  let s := if s.on (F.LANE_MOD_ID_OK n) then
      (s.updLane n (fun l => { l with marginHist := [], powSum := 0, powN := 0 })).setReg (A.LIFE_LANE n) (regReset (A.LIFE_LANE n))
    else s
  s.setF (F.LANE_MOD_ID_OK n) 0

/-- Identification of a module: its A0h bytes 0 and 92, or no answer after 3 attempts (R87). LANE_MOD_FAULT is raised at every
1 s poll that fails, for the rule does not say whether once or each time (DESIGN CHOICE, log entry 34). -/
def State.identify (s : State) (n : Nat) (answer : Option (List Byte)) : State :=
  let s := (s.selectMux n).updLane n (fun l => { l with modRead := true, polledAt := s.now })
  match answer with
  | none =>
    ((s.setF (F.LANE_MOD_NO_ANSWER n) 1).updLane n (fun l => { l with modFail := true })).raise FS.LANE_MOD_FAULT
  | some b =>
    let s := s.setF (F.LANE_MOD_NO_ANSWER n) 0
    let diag := numAt b 1 1
    if numAt b 0 1 = 2 ∨ numAt b 0 1 = 3 then
      ((s.setF (F.LANE_MOD_ID_OK n) 1).setF (F.LANE_MOD_EXT_CAL n) (b2n (bit diag 6 && !bit diag 5))).updLane n (fun l => { l with modFail := false })
    else ((s.loseId n).updLane n (fun l => { l with modFail := true })).raise FS.LANE_MOD_FAULT

/-- POWER_UP_SLOT (R75): the lowest lane in PEND enters PWR when fewer than 4 have left PEND in 10 µs. -/
def onPowerUpSlot (answer : Option (List Byte)) (s : State) : State :=
  let recent := s.node.pendAt.filter (fun t => decide (s.now < t + 10000))
  match laneNumbers.find? (fun n => s.laneSt n == 1) with
  | none => s
  | some n =>
    if 4 ≤ recent.length then s
    else
      let s := { s with node.pendAt := recent ++ [s.now] }.enterPwr n (s.startRate n)
      if (s.lane n).modRead then s else s.identify n answer

/-- SIGNAL_DETECT (R74): within 50 µs of entry to PWR. -/
def onSignalDetect (lane : Fin 32) (s : State) : State :=
  if s.laneSt lane = 2 ∧ s.now ≤ (s.lane lane).since + 50000 then
    ((s.setF (F.LANE_STATUS_SIGNAL lane) 1).setF (F.LANE_STATUS_STATE lane) 3).updLane lane (fun l => { l with since := s.now })
  else s

/-- PWR_TIMEOUT (R74). -/
def onPwrTimeout (lane : Fin 32) (s : State) : State :=
  if s.laneSt lane = 2 then (s.reachNow ((s.lane lane).since + 50000)).laneTo lane 7 else s

/-- LANE_HOST_MAC is neither zero nor a group address (R104). -/
def State.macOk (s : State) : Bool := s.hostMac != 0 && s.hostMac / 2 ^ 40 % 2 == 0

/-- The base page of Clause 37 that the part sends: FD 1 (bit 5), every other ability 0 (R105). -/
def basePage : BitVec 16 := 0x0020

/-- A host lane's link comes up (R105). -/
def State.hostUp (s : State) (n : Nat) : State := (s.setF (F.LANE_STATUS_STATE n) 8).updLane n (fun l => { l with since := s.now })

/-- COMMA_ALIGNMENT (R74): to HELLO; a host lane has synchronisation: with AN_EN 0 its link is up, else it sends its base page
(R105). An uplink has found its rate (R76, LANE_CFG.RATE). -/
def onCommaAlignment (lane : Fin 32) (s : State) : State :=
  if s.laneSt lane ≠ 3 then s
  else
    let s := s.setF (F.LANE_STATUS_ALIGNED lane) 1
    if s.f (F.LANE_CFG_MODE lane) = 1 then
      if s.on (F.LANE_CFG_AN_EN lane) then s.updLane lane (fun l => { l with anPage := basePage })
      else if s.macOk then s.hostUp lane else s
    else
      let s := if s.uplinks.contains lane.val then s.setF (F.LANE_CFG_RATE lane) (s.f (F.LANE_STATUS_RATE_NOW lane)) else s
      ((s.setF (F.LANE_STATUS_STATE lane) 4).setF (F.LANE_STATUS_MISWIRE lane) 0).updLane lane
        (fun l => { l with since := s.now, hellos := 0, helloAt := s.now - 10000 })

/-- RATE_SCAN (R76). -/
def onRateScan (lane : Fin 32) (s : State) : State :=
  if s.laneSt lane = 3 ∧ s.uplinks.contains lane.val then
    let s := s.reachNow ((s.lane lane).since + 2000000)
    s.enterPwr lane ((s.rateBelow lane (s.f (F.LANE_STATUS_RATE_NOW lane))).getD (s.startRate lane))
  else s

/-! HELLO (R77, R97). -/

/-- Payload of a HELLO: RX_OK is set when comma alignment is held (DEDUCED, log entry 45). A Meadow sends its own address whether it
holds a record or not: R97 does not say which Meadow counts as unassigned (DESIGN CHOICE, log entry 28). -/
def State.helloPayload (s : State) (n : Nat) : List Byte :=
  let flags := b2n (s.on F.SYS_ID_SENIOR) + 2 * s.f (F.LANE_STATUS_ALIGNED n) + 4 * s.laneKind n
  let addr := if s.on F.CMD_NODE_ASSIGNED || s.isMeadow then s.addr else 0xFFFF
  leBytes 1 s.role ++ leBytes 1 flags ++ leBytes 1 s.st ++ leBytes 1 (s.f (F.LANE_STATUS_RATE_NOW n)) ++ leBytes 2 addr ++ leBytes 2 0

/-- HELLO_TIMER (R74): every 10 µs in HELLO, every 1 ms in UP. -/
def onHelloTimer (lane : Fin 32) (s : State) : State :=
  let n := lane.val
  if s.laneSt n = 4 ∨ s.laneSt n = 5 then
    let s := s.reachNow ((s.lane n).helloAt + (if s.laneSt n = 4 then 10000 else 1000000))
    (s.updLane n (fun l => { l with helloAt := s.now })).sendSeg n KIND.HELLO 0 0 (s.helloPayload n)
  else s

/-- Lane kinds that may face each other (R77). -/
def kindsMatch (a b : Nat) : Bool := (a < 2 && b == 2) || (a == 2 && b < 2) || (a == 3 && b == 3)

/-- A segment received on a lane that carries segments: counted as bad when R96 or R97 finds it so. -/
def State.takeSegment (s : State) (n : Nat) (b : List Byte) : State × Option Segment :=
  let s := s.updLane n (fun l => { l with rxLog := noteLoad s.now (b.length + 2) l.rxLog })
  match parseSeg b with
  | none => (s.badSegment n, none)
  | some g =>
    if !kindListed g.kind ∨ (g.kind = KIND.MIRROR ∧ !s.isXlink n) then (s.badSegment n, none) else (s, some g)

/-- HELLO (R77): what the far end says, and the lane's way to UP. -/
def onHello (lane : Fin 32) (segment : List Byte) (s : State) : State :=
  let n := lane.val
  if s.laneSt n ≠ 4 ∧ s.laneSt n ≠ 5 then s
  else match s.takeSegment n segment with
    | (s, none) => s.updLane n (fun l => { l with hellos := 0 })
    | (s, some g) =>
      if g.kind ≠ KIND.HELLO ∨ g.payload.length < 8 then s
      else
        let fl := numAt g.payload 1 1
        let kind := fl / 4 % 4
        let s := ((s.setF (F.LANE_STATUS_FAR_ROLE n) (numAt g.payload 0 1)).setF (F.LANE_STATUS_FAR_SENIOR n) (fl % 2)).setF (F.LANE_STATUS_FAR_KIND n) kind
        let s := (s.setF (F.LANE_STATUS_FAR_STATE n) (numAt g.payload 2 1)).updLane n
          (fun l => { l with farAddr := numAt g.payload 4 2, rxOk := bit fl 1 })
        let s := if s.uplinks.contains n ∧ s.on F.CMD_NODE_ASSIGNED then s.showUplink n else s
        -- the twin at the far end has an address once it has taken its assignment (01 R39)
        let s := if s.isXlink n then s.setF (F.CMD_DL_PRESENT n) (b2n (numAt g.payload 4 2 != 0xFFFF)) else s
        if s.laneSt n = 5 then s
        else if !kindsMatch (s.laneKind n) kind then
          (s.setF (F.LANE_STATUS_MISWIRE n) 1).updLane n (fun l => { l with hellos := 0 })
        else if !bit fl 1 then s.updLane n (fun l => { l with hellos := 0 })
        else
          let s := (s.setF (F.LANE_STATUS_MISWIRE n) 0).updLane n (fun l => { l with hellos := l.hellos + 1 })
          if 3 ≤ (s.lane n).hellos then s.linkUp n else s

/-! Loss (R79, R80). -/

/-- RATE_FALLBACK (R80): at the third loss within 10 s at one rate. -/
def State.fallBack (s : State) (n : Nat) : State :=
  if s.laneKind n ≠ 2 then s
  else
    let l := slide 10000000000 s.now (s.lane n).lossAt
    match (if 3 ≤ l.length then s.rateBelow n (s.f (F.LANE_STATUS_RATE_NOW n)) else none) with
    | none => s.updLane n (fun x => { x with lossAt := l })
    | some r =>
      (((s.setF (F.LANE_STATUS_RATE_NOW n) r).setF (F.LANE_STATUS_DEGRADED n) 1).updLane n (fun x => { x with lossAt := [] })).raise FS.LANE_DEGRADED

/-- A lane in UP enters DOWN (R79). -/
def State.loseLane (s : State) (n : Nat) : State := ((s.lowerLane n 7).fallBack n).raise FS.LANE_LOSS

/-- SIGNAL_LOSS (R79). -/
def onSignalLoss (lane : Fin 32) (s : State) : State :=
  let s := s.setF (F.LANE_STATUS_SIGNAL lane) 0
  if s.laneUp lane then s.loseLane lane else s

/-- CODE_VIOLATIONS (R79): eight invalid code-groups within 64. -/
def onCodeViolations (lane : Fin 32) (s : State) : State :=
  let s := s.bumpBy (F.LANE_ERR_CV lane) 8
  if s.laneUp lane then s.loseLane lane else s

/-- MISSING_TICK_FRAMES (R79): the fourth tick in a row without a valid frame. -/
def onMissingTickFrames (lane : Fin 32) (s : State) : State :=
  let l := s.lane lane
  if s.laneUp lane ∧ l.carried ∧ 4 ≤ l.miss + (if l.got then 0 else 1) ∧ !l.got then s.loseLane lane else s

/-- DOWN_WAIT_END (R74): after 1 ms to PEND, while the lane is enabled and its unit's bring-up is paid for (R75). -/
def onDownWaitEnd (lane : Fin 32) (s : State) : State :=
  if s.laneSt lane = 7 then
    let s := s.reachNow ((s.lane lane).since + 1000000)
    if s.mayPower lane then s.laneTo lane 1 else s.laneTo lane 0
  else s

/-! Pattern tests (R83 to R85). -/

/-- The two bits back from which a pattern's next bit comes (R83). -/
def prbsTaps (pattern : Nat) : Nat × Nat := ([(7, 6), (15, 14), (23, 18), (31, 28)] : List (Nat × Nat)).getD pattern (7, 6)

/-- The bit that follows the latest bits of a pattern, newest first. -/
def prbsNext (pattern : Nat) (past : List Bool) : Bool :=
  (past.getD ((prbsTaps pattern).1 - 1) false) != (past.getD ((prbsTaps pattern).2 - 1) false)

/-- The generator: the `k`-th line bit after the bits of its register (R83). -/
def prbsBit (pattern : Nat) : Nat → List Bool → Bool
  | 0, past => prbsNext pattern past
  | k + 1, past => prbsBit pattern k (prbsNext pattern past :: past.take 30)

/-- Line bit `k` of the test running on a lane that generates (R83, R84). -/
def State.prbsOut (s : State) (n k : Nat) : Option Bool :=
  if s.laneSt n = 6 ∧ bit (s.f (F.LANE_PRBS_TMODE n)) 0 then
    some (prbsBit (s.f (F.LANE_PRBS_PATTERN n)) k ((List.range 31).map (bit (s.lane n).prbsSeed)))
  else none

/-- The checker of a lane: what it predicts from, error-free bits in a row, errors among the last 128 bits; locked; bit errors
and lock losses so far. -/
structure Checker where
  past : List Bool := []
  good : Nat := 0
  win : List Bool := []
  locked : Bool := false
  errors : Nat := 0
  losses : Nat := 0
  deriving DecidableEq, Repr

/-- One received bit (R83): unlocked, the checker predicts from the bits received and locks after 64 without an error; locked,
it predicts from its own, counts errors, and loses lock after more than 32 in 128 bits. -/
def Checker.take (pattern : Nat) (c : Checker) (b : Bool) : Checker :=
  let next := prbsNext pattern c.past
  let wrong := b != next
  if c.locked then
    let win := (wrong :: c.win).take 128
    let c := { c with past := next :: c.past.take 30, win := win, errors := c.errors + b2n wrong }
    if 32 < (win.filter id).length then { c with locked := false, good := 0, win := [], losses := c.losses + 1 } else c
  else
    let good := if wrong || decide (c.past.length < (prbsTaps pattern).1) then 0 else c.good + 1
    { c with past := b :: c.past.take 30, good := if 64 ≤ good then 0 else good, locked := decide (64 ≤ good) }

/-- Line bits received on a lane under test go through its checker (R83). -/
def State.checkBits (s : State) (n : Nat) (bits : List Bool) : State :=
  if s.laneSt n ≠ 6 ∨ s.f (F.LANE_PRBS_TMODE n) < 2 then s
  else
    let l := s.lane n
    let c0 : Checker := { past := l.prbsPast, good := l.prbsGood, win := l.prbsWin, locked := s.on (F.LANE_PRBS_LOCKED n) }
    let c := bits.foldl (Checker.take (s.f (F.LANE_PRBS_PATTERN n))) c0
    let s := ((s.setF (F.LANE_PRBS_LOCKED n) (b2n c.locked)).bumpBy (F.LANE_PRBS_ERR_COUNT n) c.errors).bumpBy (F.LANE_PRBS_LOCK_LOSS n) c.losses
    s.updLane n (fun l => { l with prbsPast := c.past, prbsGood := c.good, prbsWin := c.win })

/-- PRBS_CHECKER_LOCK (R83): `bits` received since the lane's last PRBS event, up to the lock. -/
def onPrbsCheckerLock (lane : Fin 32) (bits : List Bool) (s : State) : State := s.checkBits lane bits

/-- PRBS_LOCK_LOSS (R83): `bits` received since the lane's last PRBS event, up to the loss. -/
def onPrbsLockLoss (lane : Fin 32) (bits : List Bool) (s : State) : State := s.checkBits lane bits

/-- PRBS_END (R84): `bits` received since the lane's last PRBS event. -/
def onPrbsEnd (lane : Fin 32) (bits : List Bool) (s : State) : State :=
  if s.laneSt lane = 6 then ((s.reachNow (s.lane lane).prbsEnd).checkBits lane bits).laneTo lane 7 else s

/-! Host lanes (R104, R105). -/

/-- AUTONEG_COMPLETE (R105): the link comes up; a partner without full duplex gets none. -/
def onAutonegComplete (lane : Fin 32) (fullDuplex : Bool) (s : State) : State :=
  let an := s.on (F.LANE_CFG_AN_EN lane)
  if s.f (F.LANE_CFG_MODE lane) ≠ 1 ∨ s.laneSt lane ≠ 3 ∨ !s.on (F.LANE_STATUS_ALIGNED lane) ∨ !s.macOk then s
  else if an ∧ !fullDuplex then s.raise FS.HOST_LINK_LOSS
  else
    (s.setF (F.LANE_STATUS_AN_DONE lane) (b2n an)).hostUp lane

/-- HOST_SYNC_LOSS (R105). -/
def onHostSyncLoss (lane : Fin 32) (s : State) : State :=
  if s.laneSt lane = 8 then (s.laneTo lane 7).raise FS.HOST_LINK_LOSS else s

/-! Optical modules (R86 to R88). -/

/-- MODULE_POLL (R87): every 100 ms A2h bytes 96 to 105 and 38 to 39; after a fault, every 1 s, the identification again. -/
def onModulePoll (lane : Fin 32) (answer : Option (List Byte)) (s : State) : State :=
  let n := lane.val
  let l := s.lane n
  if s.laneSt n = 0 ∨ !s.on (F.LANE_MOD_POLL_EN n) ∨ !l.modRead then s
  else
    let s := (s.reachNow (l.polledAt + if l.modFail then 1000000000 else 100000000)).selectMux n
    if l.modFail then s.identify n answer
    else match answer with
      | none => s.identify n none
      | some b =>
        let rx := beNat (slice b 8 2)
        let warn := if l.lowWarn = 0 then beNat (slice b 10 2) else l.lowWarn
        let s := ((s.setF (F.LANE_DDM0_TEMP n) (beNat (slice b 0 2))).setF (F.LANE_DDM0_RX_POWER n) rx).setF (F.LANE_DDM1_VCC n) (beNat (slice b 2 2))
        let s := (s.setF (F.LANE_DDM1_TX_POWER n) (beNat (slice b 6 2))).updLane n
          (fun l => { l with polledAt := s.now, lowWarn := warn, powSum := l.powSum + rx, powN := l.powN + 1 })
        if s.on (F.LANE_MOD_EXT_CAL n) then s
        else if warn ≤ rx then (s.setF (F.LANE_MOD_RX_LOW n) 0).updLane n (fun l => { l with lowPolls := 0 })
        else
          let s := s.updLane n (fun l => { l with lowPolls := l.lowPolls + 1 })
          if (s.lane n).lowPolls = 3 then (s.setF (F.LANE_MOD_RX_LOW n) 1).raise FS.LANE_OPT_LOW else s

/-- Bytes that the module at `place` gives in one transfer. -/
def moduleBytes (k : Nat) (place : Nat × Nat × Nat) (dev ofs : Nat) : Nat → List Byte
  | 0 => []
  | i + 1 => Config.moduleByte k place dev ofs :: moduleBytes k place dev (ofs + 1) i

/-- Where a lane's module is: its bus, and the multiplexer and channel in front of it (R86). -/
def State.modulePlace (s : State) (n : Nat) : Nat × Nat × Nat :=
  (s.moduleBus n, s.moduleMux n, if s.moduleMux n = 0 then 0 else s.f (F.LANE_MOD_MUX_CH n))

/-- A transfer with the module of a lane, its multiplexer set first (R86, R88): done, no answer after 3 attempts, or held. -/
def State.transferWith (s : State) (n : Nat) (p : Packet) (done : Nat → List Byte) : Out :=
  let (k, s) := s.selectMux n |>.free
  match Config.i2cAnswer k with
  | .ack => ok s (done k)
  | .noAck => refuse s Stat.TIMEOUT
  | .held => holding (s.updLane n (fun l => { l with i2c := some p, i2cAt := s.now }))

/-- MOD_READ (R108). -/
def opModRead (p : Packet) (s : State) : Out :=
  let n := numAt p.params 0 1
  let dev := numAt p.params 1 1
  let ofs := numAt p.params 2 1
  let len := numAt p.params 3 1
  if p.params.length ≠ 4 ∨ 31 < n ∨ (dev ≠ 0xA0 ∧ dev ≠ 0xA2) ∨ len = 0 ∨ 64 < len ∨ 256 < ofs + len then refuse s Stat.BAD_PARAM
  else s.transferWith n p (fun k => moduleBytes k (s.modulePlace n) dev ofs len)

/-- MOD_WRITE (R88, R108). -/
def opModWrite (p : Packet) (s : State) : Out :=
  let n := numAt p.params 0 1
  let ofs := numAt p.params 1 1
  let len := numAt p.params 2 1
  if p.params.length < 3 ∨ 31 < n ∨ len = 0 ∨ 8 < len ∨ p.params.length ≠ 3 + len then refuse s Stat.BAD_PARAM
  else if ofs < 110 ∨ 128 < ofs + len then refuse s Stat.DENIED
  else s.transferWith n p (fun _ => [])

/-- SCL_TIMEOUT (R88): the held transfer on the bus ends with TIMEOUT. -/
def onSclTimeout (bus : Fin 2) (s : State) : State :=
  match laneNumbers.find? (fun n => (s.lane n).i2c.isSome && s.moduleBus n == bus.val) with
  | none => s
  | some n =>
    let l := s.lane n
    let s := (s.reachNow (l.i2cAt + 10000000)).updLane n (fun l => { l with i2c := none })
    match s.cmd.busy, l.i2c with
    | some (op, q), some p => if q = p then s.release op p Stat.TIMEOUT [] else s
    | _, _ => s

/-! Transmission (R98, R99). -/

/-- A TIME_READ reply carries the time at which it leaves (02 R70): its segment with time, MAC and CRC made anew. -/
def State.stampReply (s : State) (seg : List Byte) : List Byte :=
  match parseSeg seg with
  | none => seg
  | some g =>
    let b := g.payload
    if g.kind = KIND.REPLY ∧ numAt b 0 2 = 0x0021 ∧ numAt b 12 1 = Stat.OK ∧ numAt b 10 2 = s.addr ∧ 24 ≤ b.length then
      let len := numAt b 3 3
      let b := b.take 16 ++ leBytes 8 s.time ++ b.drop 24
      if bit (numAt b 2 1) 2 then
        let key := Map.get [] s.cmd.stampKeys (numAt b 8 2 * 65536 + numAt b 6 2)
        segBytes { g with payload := b.take (20 + len) ++ (cmac key (b.take (20 + len))).take 8 }
      else segBytes { g with payload := b }
    else seg

/-- Bytes of an item as they leave. -/
def State.leaving (s : State) (t : TxItem) : List Byte :=
  if t.inLane ≠ 32 then t.bytes
  else if t.eth then
    let seg := (t.bytes.drop 14).take (12 + numAt t.bytes 18 2)
    let new := s.stampReply seg
    if new = seg then t.bytes else etherBytes (beNat (t.bytes.take 6)) (beNat ((t.bytes.drop 6).take 6)) new
  else s.stampReply t.bytes

/-- The waiting item that leaves next: highest priority, then order of arrival; of one clk, lowest input lane first. -/
def nextItem (q : List TxItem) : Option TxItem :=
  let before (a b : TxItem) : Bool := decide (a.prio < b.prio) || (a.prio == b.prio && a.ready == b.ready && decide (a.inLane < b.inLane))
  q.foldl (fun o t => match o with
    | none => some t
    | some b => if before t b then some t else some b) none

/-- SEGMENT_TX_START (R99): the lane is free and the first waiting item leaves. -/
def onSegmentTxStart (lane : Fin 32) (s : State) : State :=
  let n := lane.val
  let carries (t : TxItem) : Bool := if t.eth then s.laneSt n == 8 else s.laneUp n || (s.laneSt n == 4 && t.prio == 1)
  match nextItem ((s.lane n).txq.filter carries) with
  | none => s
  | some t =>
    let b := s.leaving t
    let s := (s.updLane n (fun l => { l with txq := l.txq.erase t, txLog := noteLoad s.now (b.length + 2) l.txLog })).startItem n { t with bytes := b }
    let s := s.fillAssign n (s.lane n).assignRest
    if t.inLane ≠ 32 then s
    else
      let seg := if t.eth then b.drop 14 else b
      let s := if numAt seg 1 1 = KIND.TREND then s.trendLeft ((seg.drop 8).take (numAt seg 4 2)) else s
      if numAt seg 1 1 ≠ KIND.MIRROR then s
      else
        let s := if bit (numAt seg 2 1) 2 then s.updLane n (fun l => { l with mirrorNo := numAt seg 8 4 }) else s
        if bit (numAt seg 2 1) 3 ∧ s.twinRole = ROLE.ACTIVE then s.setF F.TWIN_IMG_IMG_SEQ (s.lane n).mirrorNo else s

/-! Opcodes (R108). -/

/-- LANE_READ. -/
def opLaneRead (p : Packet) (s : State) : Out :=
  if p.params.length ≠ 4 then refuse s Stat.BAD_PARAM
  else ok s ((bitList 32 (numAt p.params 0 4)).map (fun n =>
    s.view4 (A.LANE_CFG n) ++ s.view4 (A.LANE_STATUS n) ++ s.view4 (A.LANE_LOAD n) ++ s.view4 (A.LANE_ERR n) ++ s.view4 (A.LANE_SEG n))).flatten

/-- Taking a lane down would leave no uplink, or no lane of a unit, in UP (R84, R108). -/
def State.onlyLane (s : State) (n : Nat) : Bool :=
  s.laneUp n &&
  if s.uplinks.contains n then !s.uplinks.any (fun m => m != n && s.laneUp m)
  else decide (2 ≤ s.use n) && decide (s.use n ≤ 4) && !(s.unitLanes (s.unitOf n)).any (fun m => m != n && s.laneUp m)

/-- The command came in on the lane it acts on. -/
def cameOn (p : Packet) (n : Nat) : Bool := p.lane.any (fun l => l.val == n)

/-- A lane goes to DOWN by command, at its configured rate: for a lane in UP at that very rate this is a leaving of UP, which
counts towards the fall-back (R80). A profile loaded meanwhile is applied at the entry to PWR that follows (R82; DESIGN CHOICE, log entry 29). -/
def State.restartLane (s : State) (n : Nat) : State :=
  let up := s.laneUp n
  let old := s.f (F.LANE_STATUS_RATE_NOW n)
  let s := (s.setF (F.LANE_STATUS_DEGRADED n) 0).lowerLane n 7
  if up ∧ old = s.startRate n then s.fallBack n
  else (s.setF (F.LANE_STATUS_RATE_NOW n) (s.startRate n)).updLane n (fun l => { l with lossAt := [] })

/-- LANE_RESTART. Of a lane disabled by MODE 2h or barred by R33 it answers BAD_PARAM, as of one that R16 or R27 keeps off:
R108 names only those (DESIGN CHOICE, log entry 29). -/
def opLaneRestart (p : Packet) (s : State) : Out :=
  let n := numAt p.params 0 1
  if p.params.length ≠ 1 ∨ 31 < n ∨ !s.laneEnabled n then refuse s Stat.BAD_PARAM
  else if s.onlyLane n ∨ cameOn p n then refuse s Stat.DENIED
  else ok (s.restartLane n)

/-- RATE is given anew: a lane in UP restarts, another runs at it at once (LANE_CFG; R80). -/
def State.newRate (s : State) (n rate : Nat) : State :=
  let s := (s.setF (F.LANE_CFG_RATE n) rate).setF (F.LANE_STATUS_DEGRADED n) 0
  if s.laneUp n then s.restartLane n
  else (s.setF (F.LANE_STATUS_RATE_NOW n) rate).updLane n (fun l => { l with lossAt := [] })

/-- LANE_RATE. -/
def opLaneRate (p : Packet) (s : State) : Out :=
  let n := numAt p.params 0 1
  let r := numAt p.params 1 1
  if p.params.length ≠ 2 ∨ 31 < n ∨ s.rateFixed n ∨ 3 < r then refuse s Stat.BAD_PARAM
  else if s.laneUp n ∧ (s.onlyLane n ∨ cameOn p n) then refuse s Stat.DENIED
  else ok (s.newRate n r)

/-- Reserved bits of a profile entry are 0 (R81). -/
def eqEntryOk (e : List Byte) : Bool := !bit (numAt e 0 1) 5 && !bit (numAt e 1 1) 3 && decide (numAt e 3 1 < 4)

/-- LANE_EQ as a profile entry sets it. -/
def eqWord (e : List Byte) : Nat :=
  numAt e 3 1 * 2 ^ 16 + numAt e 2 1 / 16 * 2 ^ 12 + numAt e 2 1 % 16 * 2 ^ 8 + numAt e 1 1 / 16 * 2 ^ 4 + numAt e 1 1 % 8

/-- EQ_LOAD (R81, R82): the table replaces every profile; a pair it omits goes back to the defaults. -/
def opEqLoad (p : Packet) (s : State) : Out :=
  let b := p.params
  let n := numAt b 1 1
  let es := (List.range n).map (fun i => slice b (8 + 4 * i) 4)
  if s.st ≠ ST.CONFIG then refuse s Stat.DENIED
  else if b.length < 8 ∨ numAt b 0 1 ≠ 1 ∨ n = 0 ∨ 128 < n ∨ b.length ≠ 8 + 4 * n ∨ crc32 (b.take 4 ++ b.drop 8) ≠ numAt b 4 4 then
    refuse s Stat.BAD_PARAM [0xFF]
  else match (List.range n).find? (fun i => !eqEntryOk (es.getD i []) || (es.take i).any (fun e => e.take 1 == (es.getD i []).take 1)) with
    | some i => refuse s Stat.BAD_PARAM [BitVec.ofNat 8 i]
    | none =>
      let s := s.each laneNumbers (fun s l => s.updLane l (fun x => { x with eq := [] }))
      let s := s.each es (fun s e => s.updLane (numAt e 0 1 % 32) (fun x => { x with eq := Map.set 0x3820 x.eq (numAt e 0 1 / 64) (eqWord e) }))
      ok { s with node.board := numAt b 2 2 }

/-- PRBS_START (R84). -/
def opPrbsStart (p : Packet) (s : State) : Out :=
  let n := numAt p.params 0 1
  let pat := numAt p.params 1 1
  let mode := numAt p.params 2 1
  let ms := numAt p.params 3 4
  if p.params.length ≠ 7 ∨ 31 < n ∨ 3 < pat ∨ mode = 0 ∨ 3 < mode ∨ ms = 0 ∨ 600000 < ms then refuse s Stat.BAD_PARAM
  else if s.onlyLane n ∨ s.isXlink n ∨ s.f (F.LANE_CFG_MODE n) = 1 ∨ cameOn p n then refuse s Stat.DENIED
  else if !s.laneEnabled n ∨ s.laneSt n = 0 then refuse s Stat.BAD_PARAM
  else
    let (k, s) := (s.lowerLane n 6).free
    let s := (s.setReg (A.LANE_PRBS n) (BitVec.ofNat 32 (32 + 8 * mode + pat))).setReg (A.LANE_PRBS_ERR n) 0
    ok ((s.setReg (A.LANE_PRBS_TIME n) 0).updLane n (fun l => { l with
      prbsStart := s.now, prbsEnd := s.now + ms * 1000000, prbsSeed := (Config.openWord k).toNat ||| 1
      prbsPast := [], prbsGood := 0, prbsWin := [] }))

/-- PRBS_READ. -/
def opPrbsRead (p : Packet) (s : State) : Out :=
  let n := numAt p.params 0 1
  if p.params.length ≠ 1 ∨ 31 < n then refuse s Stat.BAD_PARAM
  else ok s (s.reg4 (A.LANE_PRBS n) ++ s.reg4 (A.LANE_PRBS_ERR n) ++ s.view4 (A.LANE_PRBS_TIME n))

/-! TREE_SURVEY (01 R40). -/

/-- What a survey answers of one lane. -/
def State.surveyBytes (s : State) (n : Nat) : List Byte :=
  leBytes 1 n ++ leBytes 1 (s.laneSt n) ++ leBytes 1 (s.f (F.LANE_STATUS_FAR_ROLE n)) ++ leBytes 1 (s.f (F.LANE_STATUS_FAR_SENIOR n)) ++
    leBytes 1 (s.f (F.LANE_STATUS_FAR_KIND n) % 2) ++ leBytes 1 (s.f (F.LANE_STATUS_FAR_STATE n)) ++ leBytes 2 (s.lane n).farAddr

/-- TREE_SURVEY: the unnamed lanes of the mask come up; the reply follows after a time that the spec does not give. -/
def opTreeSurvey (p : Packet) (s : State) : Out :=
  let ls := bitList 32 (numAt p.params 0 4)
  if p.params.length ≠ 4 ∨ ls.any (fun n => decide (n < 2) || s.use n == USE.XLINK || s.f (F.LANE_CFG_MODE n) == 1) then refuse s Stat.BAD_PARAM
  else
    let (k, s) := s.free
    let s := s.each (ls.filter (fun n => s.use n == 0)) (fun s n =>
      let s := s.raiseLane n
      if s.laneSt n = 0 then s else s.updLane n (fun l => { l with survey := true }))
    holding { s with tree.survey := some (p, numAt p.params 0 4, s.now + (Config.openWord k).toNat) }

/-- The survey's time has come: its reply, and the lanes it brought up power down. -/
def State.endSurvey (s : State) : State :=
  match s.tree.survey with
  | none => s
  | some (p, mask, t) =>
    if s.now < t then s
    else
      let s := { s with tree.survey := none }.release 0x0D41 p Stat.OK ((bitList 32 mask).map s.surveyBytes).flatten
      s.each (laneNumbers.filter (fun n => (s.lane n).survey)) (fun s n =>
        if s.use n = 0 then s.laneTo n 0 else s.updLane n (fun l => { l with survey := false }))

end Sys2Proof.Machine
end

