-- ==== Sys2Proof/Machine/Regs.lean ====
section
/-!
DEFINITION. Regs.lean: writing a register (00 R8 to R11): the access codes, the values that are refused, what a write does
beyond the register itself; REG_READ, REG_WRITE, REG_RMW (04 R131, R136) and the QSPI target port (04 R132, R133).
-/
namespace Sys2Proof.Machine
open Sys2Proof

/-- LK fields may change: CONFIG state, or the seal open (R9). -/
def State.unlocked (s : State) : Bool := s.st == ST.CONFIG || !s.on F.SAFE_PANEL_SEAL_OK

/-- Number of an indexed register: copies of `n` registers from `b` in steps of `st`. -/
def idxOf (a b st n : Nat) : Option Nat :=
  if b ≤ a ∧ (a - b) % st = 0 ∧ (a - b) / st < n then some ((a - b) / st) else none

/-- The condition codes of R268. -/
def cndOk (c : Nat) : Bool := decide (c ≤ 5) || (decide (8 ≤ c) && decide (c ≤ 0x16))

/-- A value that a lane's configuration does not allow (03 R76, R104). -/
def State.badLaneCfg (s : State) (n new : Nat) : Bool :=
  let m := new % 4
  let hosts := (laneNumbers.filter (fun l => l != n && s.f (F.LANE_CFG_MODE l) == 1)).length
  m == 3 || (!s.isMeadow && decide (n < 2) && bits new 11 8 == 0) ||
    (m == 1 && s.f (F.LANE_CFG_MODE n) != 1 && (!s.isMeadow || decide (n < 2) || decide (2 ≤ hosts)))

/-- The new value of the register at `a` holds a field value that the spec refuses with BAD_PARAM. -/
def State.badValue (s : State) (a new : Nat) : Bool :=
  if a = A.SYS_CREDIT then
    let w := bits new 15 8
    let n := new % 32
    w == 0 || decide (100 < w) || n == 0 || decide (30 < n)
  else if a = A.SYS_PANEL then bits new 28 24 == 1
  else if a = A.TICK_CFG then s.isMeadow && (decide (new % 2 ^ 15 < 1000) || decide (20000 < new % 2 ^ 15))
  else if a = A.TICK_HOLD then new % 128 == 0 || decide (64 < new % 128)
  else if a = A.TICK_PPS then new % 512 == 0 || decide (500 < new % 512)
  else if a = A.CMD_TMO then bits new 31 16 == 0 || bits new 15 8 == 0 || decide (new % 256 < 8)
  else if a = A.CMD_AUTH then new % 65536 == 0
  else if a = A.YAR_STAG then bits new 18 12 == 0 || decide (64 < bits new 18 12)
  else if a = A.SWU_CTRL then bits new 2 1 == 3
  else if a = A.MEAS_CTRL then bits new 23 16 == 0 || new % 1024 == 0 || decide (1000 < new % 1024)
  else if a = A.REC_CTRL then decide (bits new 23 16 < 16)
  else if a = A.REC_TRIGIO then bits new 31 16 == 0
  else if a = A.MGRD_CTRL then bits new 23 16 == 0 || new % 1024 == 0 || decide (1000 < new % 1024)
  else if a = A.FHUB_CTRL then bits new 25 16 == 0 || decide (1000 < bits new 25 16) || new % 65536 == 0
  else if a = A.TWIN_CFG then bits new 15 8 == 0
  else if a = A.LIFE_AVS_CFG then
    let c := bits new 15 8
    let l := bits new 23 16
    decide (l ≤ c) || decide (bits new 31 24 ≤ l) || new % 256 == 0
  else if a = A.LIFE_LANE_CFG then new % 256 == 0
  else match idxOf a (A.LANE_CFG 0) 0x400 32 with
    | some n => s.badLaneCfg n new
    | none =>
      match idxOf a (A.LOOP_SS 0) 4 16 with
      | some _ =>
        let x := new % 4096
        !((decide (0x100 ≤ x) && decide (x ≤ 0x1FF)) || decide (0x220 ≤ x))
      | none =>
        if (idxOf a (A.LOOP_PORT 0) 4 32).isSome then !s.isMeadow
        else if (idxOf a (A.REC_CMP_SRC 0) 0x10 4).isSome then decide (2 < chanKind new) || (chanKind new != 0 || new != 0) && !chanOk new
        else if (idxOf a (A.REC_CMP_OP 0) 0x10 4).isSome then new % 8 == 7
        else if (idxOf a (A.REC_TS_CND 0) 8 8).isSome then !cndOk (bits new 23 16) || !cndOk (new % 256)
        else if (idxOf a (A.LIFE_C_EST 0) 0x20 2).isSome then decide (bits new 27 24 < 10)
        else if (idxOf a (A.FBUS_C_SCHED 0) 0x200 2).isSome then decide (new % 2 ^ 24 < 100)
        else false

/-- The phase entries of TICK (02 R43, R58). -/
def isPhase (a : Nat) : Bool := decide (A.TICK_PH_SAMPLE ≤ a) && decide (a ≤ A.TICK_PH_DOWN)

/-- Refused whatever the seal (`old` and `new` the register's values, `v` the bits written): the tick length of a Meadow and the phase map outside CONFIG (02 R43); the shadows of a pair
and its COMMIT bit while a loop port of the pair is enabled (07 R227). -/
def State.writeDenied (s : State) (a old new v : Nat) : Bool :=
  let ported (p : Nat) : Bool := s.on (F.LOOP_PORT_EN (32 + 2 * p)) || s.on (F.LOOP_PORT_EN (33 + 2 * p))
  (s.st != ST.CONFIG && ((a == A.TICK_CFG && old % 2 ^ 15 != new % 2 ^ 15) || (isPhase a && old != new))) ||
  pairNumbers.any (fun p => (a == A.SWU_P_PERIOD p || a == A.SWU_P_DUTY p) && ported p) ||
  (a == A.SWU_COMMIT && pairNumbers.any (fun p => bit v p && ported p))

/-- Bits of a write that this role or register takes no notice of (02 R43; 03 R104; 04 R127; 05 R147; 12 R325). -/
def State.ignoredBits (s : State) (a : Nat) : Nat :=
  if a = A.TICK_CFG ∧ !s.isMeadow then 2 ^ 15 - 1
  else if a = A.CMD_AUTH then 2 ^ 25 + 2 ^ 31
  else match idxOf a (A.LANE_CFG 0) 0x400 32 with
    | some n => if s.rateFixed n then 0x30 else 0
    | none =>
      if 0xB0400 ≤ a ∧ a < 0xB0600 then (if (sourceSeverity ((a - 0xB0400) / 4)).isNone then 2 ^ 32 - 1 else 0)
      else match idxOf a (A.YAR_S_DEM 0) 0x20 16, idxOf a (A.YAR_S_IARM 0) 0x20 16 with
        | some k, _ => if s.on (F.YAR_S_CFG_SRC k) then 0 else 2 ^ 32 - 1
        | _, some k => if s.on (F.YAR_S_CFG_SRC k) then 0 else 2 ^ 32 - 1
        | _, _ => 0

/-- A latch of SWU_FLT may not clear: its input is active, or its EN is 0 (06 R196). -/
def State.finActive (s : State) (n : Nat) : Bool := s.swu.faultin.getLsbD n != s.finPol n
def State.finStuck (s : State) (n : Nat) : Bool := s.finActive n || !s.finEn n

/-- Every enabled input at its active level acts: its latch is set, SWU_FAULTIN is raised for each bit newly set, and its
pairs are forced (06 R192, R193, R203). -/
def State.finAct (s : State) : State :=
  let new := (List.range 8).filter (fun n => s.finEn n && s.finActive n && !bit (s.f F.SWU_FLT_FIN_LATCH) n)
  let s := s.setF F.SWU_FLT_FIN_LATCH (s.f F.SWU_FLT_FIN_LATCH ||| ofBits new)
  (s.each new (fun s _ => s.raise FS.SWU_FAULTIN)).applyForces

/-- SWU_COMMIT on the channel of a pair; ignored without one (06 R190). -/
def State.commitPair (s : State) (p : Nat) : State :=
  if s.hasChan p then s.updPair p (fun x => { x with chan.commit := true }) else s

/-- A lane takes a new MODE (03 R104, LANE_CFG): the old one ends, the new one starts where the lane is enabled. -/
def State.newMode (s : State) (n old : Nat) : State :=
  let m := s.f (F.LANE_CFG_MODE n)
  let s := (s.lowerLane n 0).setF (F.LANE_STATUS_AN_DONE n) 0
  let s := if old = 1 then s.setF (F.CMD_DL_USE n) 0
    else if m = 1 then (s.setReg (A.CMD_DL n) (BitVec.ofNat 32 USE.HOST)).setReg (A.CMD_RANGE n) 0 else s
  let starts := if m = 1 then decide (ST.SELFTEST < s.st)
    else s.mayPower n && decide (ST.LINK ≤ s.st)
  if starts then s.raiseLane n else s

/-- LANE_HOST_MAC has been written (R104, R105): no lane stays in HOST without a good address, and a host lane that only
waited for one, without auto-negotiation, comes up. -/
def State.newMac (s : State) : State :=
  if s.macOk then s.each (s.hostLanes.filter (fun n => s.laneSt n == 3 && s.on (F.LANE_STATUS_ALIGNED n) && !s.on (F.LANE_CFG_AN_EN n))) State.hostUp
  else s.each (s.hostLanes.filter (fun n => s.laneSt n == 8)) (fun s n => s.lowerLane n 7)

/-- What a write does beyond the register: `old` and `new` its values, `v` the bits written within the mask. -/
def State.afterWrite (s : State) (a old new v mask : Nat) : State :=
  if a = A.SYS_PANEL then (if bits mask 23 16 = 0 then s else s.setIdent (bits new 23 16))
  else if a = A.SWU_FIN_CFG0 ∨ a = A.SWU_FIN_CFG1 then s.finAct
  else if a = A.SWU_CTRL ∨ a = A.SWU_FLT then s.applyForces
  else if a = A.SWU_COMMIT then s.each (bitList 4 v) State.commitPair
  else if a = A.REC_CTRL then (if mask % 2 = 0 then s else onSeqEn (new % 2 == 1) s)
  else if a = A.LIFE_CTRL then
    let s := { s with life.dirty := true }
    if old % 2 = new % 2 then s else (s.setF F.LIFE_CTRL_AVS_EN (old % 2)).setAvs (new % 2 == 1)
  else if 0xE0100 ≤ a ∧ a < 0xE0200 then { s with life.dirty := true }
  else if 0xE0200 ≤ a ∧ a < 0xE0280 then { s with life.dirty := true }.switchFlags ((a - 0xE0200) / 0x20)
  else if 0x70120 ≤ a ∧ a < 0x70140 then
    (if old % 32 = new % 32 then s else { s with loop.relaySeen := Map.set 0 s.loop.relaySeen ((a - 0x70120) / 4) 0 }).loopRegs
  else if 0x70000 ≤ a ∧ a < 0x78000 then s.loopRegs
  else if isPhase a then s.loopRegs
  else if a = A.LANE_HOST_MAC_LO ∨ a = A.LANE_HOST_MAC_HI then s.newMac
  else match idxOf a (A.LANE_CFG 0) 0x400 32 with
    | some n =>
      if old % 4 ≠ new % 4 then s.newMode n (old % 4)
      else if bits old 5 4 ≠ bits new 5 4 then s.newRate n (bits new 5 4)
      else s
    | none =>
      match idxOf a (A.FBUS_M_STAT 0) 0x80 64 with
      | some m => if bit v 14 then (s.boxSend m (new % 128)).1 else s
      | none => s

/-- A register stands at `a` for the command interpreter and the QSPI port: FHUB_RESOLVE is reached by cores and the safety
pair only, and R8 treats any other path as an offset with no register (12, FHUB_RESOLVE). -/
def regStands (a : Nat) : Bool := (regFamilyAt a).isSome && a != A.FHUB_RESOLVE

/-- Request ports that only the cores reach (CMD_ALLOC_REQ[2] to [5], MEAS_INJ_REQ), and CMD_ALLOC_REQ[1] on any path but the
interpreter's: they read 0, and a write on another path does nothing (DESIGN CHOICE, log entry 44). -/
def otherPort (interp : Bool) (a : Nat) : Bool :=
  a == A.MEAS_INJ_REQ || ((idxOf a (A.CMD_ALLOC_REQ 0) 8 5).isSome && !(interp && a == A.CMD_ALLOC_REQ 0))

/-- A write of the bits set in `mask` to the register at `a` (R9, R10): OK, or the status that refuses it. `interp` tells the
command interpreter, which alone reaches CMD_ALLOC_REQ[1]. -/
def State.writeReg (s : State) (interp : Bool) (a mask value : Nat) : State × Nat :=
  match regFamilyAt a with
  | none => (s, Stat.BAD_PARAM)
  | some f =>
    if a = A.FHUB_RESOLVE then (s, Stat.BAD_PARAM)
    else if s.hiddenReg a || otherPort interp a then (s, Stat.OK)
    else
      let mask := BitVec.ofNat 32 mask &&& ~~~ BitVec.ofNat 32 (s.ignoredBits a)
      let v := BitVec.ofNat 32 value &&& mask
      let old := s.reg a
      let set := BitVec.ofNat 32 (accBits f (fun x => x == .rw || x == .lk)) &&& mask
      let w1c := BitVec.ofNat 32 (accBits f (· == .w1c)) &&& v
      let keep := if a = A.SWU_FLT then BitVec.ofNat 32 (ofBits ((List.range 8).filter s.finStuck)) else 0
      let new := ((old &&& ~~~ set) ||| (v &&& set)) &&& ~~~ (w1c &&& ~~~ keep)
      let lk := BitVec.ofNat 32 (accBits f (· == .lk))
      if (!s.unlocked && (old ^^^ new) &&& lk != 0) || s.writeDenied a old.toNat new.toNat v.toNat then (s, Stat.DENIED)
      else if s.badValue a new.toNat then (s, Stat.BAD_PARAM)
      else
        match pairNumbers.find? (fun p => a == A.SWU_P_PERIOD p), pairNumbers.find? (fun p => a == A.SWU_P_DUTY p) with
        | some p, _ => (if mask = 0 then s else s.shadowWrite p (some new.toNat) none, Stat.OK)
        | _, some p => (if mask = 0 then s else s.shadowWrite p none (some new.toNat), Stat.OK)
        | _, _ =>
          if a = A.CMD_ALLOC_REQ 0 then (onCmdAllocReq [(1, v.setWidth 6)] s, Stat.OK)
          else ((s.setReg a new).afterWrite a old.toNat new.toNat v.toNat mask.toNat, Stat.OK)

/-! Opcodes. -/

/-- Every offset of the range holds a register of one block (R8, R131). -/
def rangeOk (a n : Nat) : Bool :=
  a % 4 == 0 && decide (1 ≤ n) && decide (n ≤ 64) && a / 65536 == (a + 4 * (n - 1)) / 65536 &&
    (List.range n).all (fun i => regStands (a + 4 * i))

/-- Reads `n` consecutive registers. -/
def State.readRegs (s : State) (a : Nat) : Nat → List Byte × State
  | 0 => ([], s)
  | n + 1 =>
    let (w, s) := s.readReg a
    let (b, s) := s.readRegs (a + 4) n
    (leBytes 4 w.toNat ++ b, s)

/-- REG_READ (R131). -/
def opRegRead (p : Packet) (s : State) : Out :=
  let a := numAt p.params 0 4
  let n := numAt p.params 4 1
  if p.params.length ≠ 5 ∨ !rangeOk a n then refuse s Stat.BAD_PARAM
  else
    let (b, s) := s.readRegs a n
    ok s b

/-- Writes consecutive registers in ascending order up to the first that is refused: how many were written (R136). -/
def State.writeRegs (s : State) (interp : Bool) (a : Nat) : List Nat → Nat → State × Nat × Nat
  | [], k => (s, Stat.OK, k)
  | v :: vs, k =>
    let (s', st) := s.writeReg interp a (2 ^ 32 - 1) v
    if st = Stat.OK then s'.writeRegs interp (a + 4) vs (k + 1) else (s, st, k)

/-- The values of a REG_WRITE. -/
def writeValues (p : Packet) : List Nat := (List.range ((p.params.length - 4) / 4)).map (fun i => numAt p.params (4 + 4 * i) 4)

/-- REG_WRITE (R131, R136). -/
def opRegWrite (p : Packet) (s : State) : Out :=
  let a := numAt p.params 0 4
  let vs := writeValues p
  if p.params.length % 4 ≠ 0 ∨ !rangeOk a vs.length then refuse s Stat.BAD_PARAM (leBytes 2 0)
  else
    let (s, st, k) := s.writeRegs true a vs 0
    if st = Stat.OK then ok s else refuse s st (leBytes 2 k)

/-- REG_RMW (R131): answers the value before the write; its read clears nothing. -/
def opRegRmw (p : Packet) (s : State) : Out :=
  let a := numAt p.params 0 4
  if p.params.length ≠ 12 ∨ !rangeOk a 1 then refuse s Stat.BAD_PARAM
  else
    let (s', st) := s.writeReg true a (numAt p.params 4 4) (numAt p.params 8 4)
    if st = Stat.OK then ok s' (leBytes 4 (s.view a).toNat) else refuse s st

/-! QSPI target port (R132, R133). -/

/-- A register as REG_RD returns it; where no register stands, the spec gives no data. -/
def State.qspiRead (s : State) (a : Nat) : Nat → List Byte × State
  | 0 => ([], s)
  | n + 1 =>
    let (w, s) : Word × State := if a % 4 = 0 ∧ regStands a then s.readReg a else
      let (k, s) := s.free
      (Config.openWord k, s)
    let (b, s) := s.qspiRead (a + 4) n
    (leBytes 4 w.toNat ++ b, s)

/-- REG_RD: `count` registers while CS_N stays low; zeros without RD_EN. -/
def onRegRd (address : Word) (count : Nat) (s : State) : State :=
  if s.on F.CMD_QSPI_RD_EN then
    let (b, s) := s.qspiRead address.toNat count
    { s with cmd.qspiOut := b }
  else { s with cmd.qspiOut := List.replicate (4 * count) 0 }

/-- REG_WR: each register as its fourth byte is complete; no error is returned. -/
def onRegWr (address : Word) (values : List Word) (s : State) : State :=
  if !s.on F.CMD_QSPI_WR_EN ∨ address.toNat % 4 ≠ 0 then s
  else (values.foldl (fun (x : State × Nat) v => ((x.1.writeReg false x.2 (2 ^ 32 - 1) v.toNat).1, x.2 + 4)) (s, address.toNat)).1

/-- MBX_RD: the 3-byte length and the reply; emptied when the whole reply has been clocked out. `count` bytes are clocked. -/
def onMbxRd (count : Nat) (s : State) : State :=
  if s.on F.CMD_QSPI_RPL_READY then
    let b := leBytes 3 s.cmd.qspiReply.length ++ s.cmd.qspiReply
    let s' : State := { s with cmd.qspiOut := (b ++ List.replicate count 0).take count }
    if b.length ≤ count then { s'.setF F.CMD_QSPI_RPL_READY 0 with cmd.qspiReply := [] } else s'
  else { s with cmd.qspiOut := List.replicate count 0 }

/-- STATUS. -/
def onStatus (s : State) : State :=
  { s with cmd.qspiOut := leBytes 1 (s.f F.CMD_QSPI_MBX_FULL + 2 * s.f F.CMD_QSPI_RPL_READY + 4 * s.f F.CMD_QSPI_RD_EN + 8 * s.f F.CMD_QSPI_WR_EN) }

/-- UNLISTED_INSTRUCTION (R133): ignored until CS_N rises. -/
def onUnlistedInstruction (_ : Byte) (s : State) : State := s

end Sys2Proof.Machine
end

