-- ==== Sys2Proof/Machine/SwuOps.lean ====
section
/-!
DEFINITION. SwuOps.lean: the commands of the switching unit (06_cell_switching.md R183 to R204) and of the Yarrow engine
(05_yarrow_balancing.md R170).
-/
namespace Sys2Proof.Machine
open Sys2Proof

/-! Yarrow opcodes (05 R170). -/

/-- YAR_TALLY_READ. -/
def opYarTallyRead (p : Packet) (s : State) : Out :=
  let k := numAt p.params 0 1
  if p.params.length ≠ 1 ∨ (s.isMeadow ∧ 15 < k) then refuse s Stat.BAD_PARAM
  else
    let t := if s.isMeadow then Map.get {} s.yar.strings k else s.yar.own
    ok s (t.bytes70 ++ leBytes 8 s.yar.ownTick)

/-- YAR_UNIT_READ. -/
def opYarUnitRead (p : Packet) (s : State) : Out :=
  let n := numAt p.params 0 1
  if p.params.length ≠ 1 ∨ !s.units.contains n then refuse s Stat.BAD_PARAM
  else
    let u := s.unit n
    ok s ((if u.status < 2 then u.used else u.contrib).bytes70 ++ [BitVec.ofNat 8 u.status, BitVec.ofNat 8 (min 255 u.misses)])

/-- YAR_CELL_EXCLUDE (R143). -/
def opYarCellExclude (p : Packet) (s : State) : Out :=
  let c := numAt p.params 0 1
  let x := numAt p.params 1 1
  if p.params.length ≠ 2 ∨ !s.cells.contains c ∨ 1 < x then refuse s Stat.BAD_PARAM
  else ok (s.setF (F.YAR_CELL_EXCL c) x)

/-- YAR_CELL_READ. -/
def opYarCellRead (p : Packet) (s : State) : Out :=
  let c := numAt p.params 0 1
  if p.params.length ≠ 1 ∨ !s.cells.contains c then refuse s Stat.BAD_PARAM
  else ok s (s.view4 (A.YAR_CELL c) ++ s.view4 (A.YAR_CRATIO c) ++ s.view4 A.YAR_DEC0)

/-- YAR_DEMAND_SET. -/
def opYarDemandSet (p : Packet) (s : State) : Out :=
  let k := numAt p.params 0 1
  let dem := numAt p.params 1 4
  if p.params.length ≠ 8 ∨ 15 < k ∨ 2 ^ 26 ≤ dem then refuse s Stat.BAD_PARAM
  else if !s.on (F.YAR_S_CFG_SRC k) then refuse s Stat.DENIED
  else ok ((s.setF (F.YAR_S_DEM_DEM k) dem).setF (F.YAR_S_IARM_IARM k) (numAt p.params 5 3))

/-! Forcing (06 R192 to R200). -/

/-- FAULTIN (R192): the level of an input changes; an enabled input at its active level sets its latch and forces its pairs. -/
def onFaultin (input : Fin 8) (level : Bool) (s : State) : State :=
  let m := BitVec.ofNat 8 (2 ^ input.val)
  let s := { s with swu.faultin := if level then s.swu.faultin ||| m else s.swu.faultin &&& ~~~ m }
  if s.clk.por then s else s.finAct

/-- CLOCK_LOSS (R200): every pair is forced and FAULT_OUT_N asserted. -/
def onClockLoss (s : State) : State :=
  if s.clk.por then s else ({ s with clk.stopped := true }.setF F.SWU_FLT_CLK_LOST 1).applyForces

/-- CLOCK_RETURN (R200): the fault hub records the loss. -/
def onClockReturn (s : State) : State :=
  if s.clk.stopped then { s with clk.stopped := false }.raise FS.SWU_CLK_LOSS else s

/-- The instant from which mismatches of an output count (R198). -/
def State.blankEnd (s : State) (n : Nat) : Nat :=
  let x := s.pair (n / 2)
  max (x.edgeAt (n % 2 == 0) s.pclk) x.forcedAt + s.f (F.SWU_P_CFG_FBWIN (n / 2))

/-- READBACK_MISMATCH (R198): GOFB of an output has stood at `level` for 4 clk after blanking. -/
def onReadbackMismatch (output : Fin 8) (level : Bool) (s : State) : State :=
  let n := output.val
  let p := n / 2
  let m := BitVec.ofNat 8 (2 ^ n)
  let s := { s with swu.gofb := if level then s.swu.gofb ||| m else s.swu.gofb &&& ~~~ m }
  let expected := s.goLevel n != s.on (F.SWU_P_CFG_FB_INV p)
  if !s.on (F.SWU_P_CFG_FB_EN p) ∨ level = expected ∨ s.pclk < s.blankEnd n then s
  else
    let was := bit (s.f F.SWU_FLT_RB_LATCH) p
    ((s.setBit F.SWU_FLT_RB_LATCH p).raiseIf (!was) FS.SWU_READBACK).applyForces

/-- SWU_SAFE (R172): a write of the safe levels; pairs at their safe level take it at once. -/
def onSwuSafe (value : Word) (s : State) : State := (s.writeReg false A.SWU_SAFE (2 ^ 32 - 1) value.toNat).1

/-- SWU_FAULT_CLEAR (R196). -/
def opSwuFaultClear (p : Packet) (s : State) : Out :=
  if p.params.length ≠ 1 then refuse s Stat.BAD_PARAM
  else
    let m := numAt p.params 0 1 % 16
    let keep (x : Nat) : Nat := ofBits ((bitList 4 x).filter (fun q => !bit m q))
    let fin := (bitList 8 (s.f F.SWU_FLT_FIN_LATCH)).filter (fun n => s.finStuck n || s.finPairs n &&& m == 0)
    let s := (s.setF F.SWU_FLT_SWF_LATCH (keep (s.f F.SWU_FLT_SWF_LATCH))).setF F.SWU_FLT_RB_LATCH (keep (s.f F.SWU_FLT_RB_LATCH))
    let s := (s.setF F.SWU_FLT_FIN_LATCH (ofBits fin)).applyForces
    ok s [BitVec.ofNat 8 (ofBits (pairNumbers.filter s.forced))]

/-- SWU_FORCE (R193). -/
def opSwuForce (p : Packet) (s : State) : Out :=
  if p.params.length ≠ 1 then refuse s Stat.BAD_PARAM
  else ok (s.setF F.SWU_FLT_SWF_LATCH (s.f F.SWU_FLT_SWF_LATCH ||| numAt p.params 0 1 % 16)).applyForces

/-- SWU_STATUS_READ. -/
def opSwuStatusRead (p : Packet) (s : State) : Out :=
  if p.params ≠ [] then refuse s Stat.BAD_PARAM else ok s (s.view4 A.SWU_FLT ++ s.view4 A.SWU_LEVELS)

/-! Carrier channels (06 R183 to R191). -/

/-- The pair that a channel handle index drives. -/
def State.chanPair (s : State) (c : Nat) : Nat := (pairNumbers.find? (fun p => s.hasChan p && s.f (F.SWU_P_CFG_HIDX p) == c)).getD 0

/-- The channel runs, or waits to start: it is bound (R186). -/
def State.chanBound (s : State) (c : Nat) : Bool :=
  s.on (F.SWU_P_CFG_RUN (s.chanPair c)) || (s.pair (s.chanPair c)).chan.startAt.isSome

/-- A loop port writes the pair's shadows (07 R227). -/
def State.ported (s : State) (p : Nat) : Bool := s.on (F.LOOP_PORT_EN (32 + 2 * p)) || s.on (F.LOOP_PORT_EN (33 + 2 * p))

/-- A new channel at handle index `c`: stopped, at its safe level (R184). -/
def State.placeChan (s : State) (p cmode upd period duty c : Nat) : State :=
  let s := (((s.setF (F.SWU_P_CFG_MODE p) 2).setF (F.SWU_P_CFG_CMODE p) cmode).setF (F.SWU_P_CFG_UPD p) upd).setF (F.SWU_P_CFG_HIDX p) c
  let s := ((s.setF (F.SWU_P_PERIOD_VALUE p) period).setF (F.SWU_P_ACTP_VALUE p) period).setF (F.SWU_P_DUTY_VALUE p) duty
  let s := ((s.setF (F.SWU_P_ACTD_VALUE p) duty).setF (F.SWU_P_STAT_PW p) 0).setF (F.SWU_P_STAT_DW p) 0
  let s := ((s.setF (F.SWU_P_STAT_HALF_UPD p) 0).setF (F.SWU_P_STAT_HALF_CNT p) 0).setF (F.SWU_P_STAT_BAD_SET p) 0
  (s.setF (F.SWU_P_CFG_RUN p) 0).updPair p (fun x => { x with chan := {} })

/-- A destroyed channel frees its pair (R186). -/
def State.freeChan (s : State) (c : Nat) : State :=
  let p := s.chanPair c
  let s := ((s.setF (F.SWU_P_CFG_MODE p) 0).setF (F.SWU_P_CFG_CMODE p) 0).setF (F.SWU_P_CFG_UPD p) 0
  (s.setF (F.SWU_P_CFG_HIDX p) 0).updPair p (fun x => { x with chan := {} })

/-- SWU_CREATE (R184, R201). -/
def opSwuCreate (p : Packet) (s : State) : Out :=
  let n := numAt p.params 0 1
  let cm := numAt p.params 1 1
  let upd := numAt p.params 2 1
  let per := numAt p.params 3 4
  let duty := numAt p.params 7 4
  if p.params.length ≠ 11 ∨ 3 < n ∨ 1 < cm ∨ 1 < upd ∨ 2 ^ 24 ≤ per then refuse s Stat.BAD_PARAM
  else if !chanValuesOk cm (s.window n) per duty ∨ !s.gapsOk n then refuse s Stat.BAD_PARAM
  else if s.yarPairs.contains n ∨ s.hasChan n then refuse s Stat.DENIED
  else createObj TY.CHANNEL true (fun _ => true) (fun c s => s.placeChan n cm upd per duty c) p s

/-- SWU_SET (R189, R191) on channel `c`. -/
def opSwuSet (c : Nat) (p : Packet) (s : State) : Out :=
  let n := s.chanPair c
  let per := numAt p.params 0 4
  let duty := numAt p.params 4 4
  if p.params.length ≠ 8 then refuse s Stat.BAD_PARAM
  else if s.ported n then refuse s Stat.DENIED
  else if 2 ^ 24 ≤ per ∨ !chanValuesOk (s.f (F.SWU_P_CFG_CMODE n)) (s.window n) per duty then refuse s Stat.BAD_PARAM
  else ok (s.shadowWrite n (some per) (some duty))

/-- SWU_COMMIT (R190) on channel `c`. -/
def opSwuCommit (c : Nat) (p : Packet) (s : State) : Out :=
  if p.params ≠ [] then refuse s Stat.BAD_PARAM
  else if s.ported (s.chanPair c) then refuse s Stat.DENIED
  else ok (s.commitPair (s.chanPair c))

/-- SWU_START (R185) on channel `c`: the reply waits for the first period. -/
def opSwuStart (c : Nat) (p : Packet) (s : State) : Out :=
  let n := s.chanPair c
  if p.params.length ≠ 2 then refuse s Stat.BAD_PARAM
  else if !chanState s.st ∨ s.chanBound c then refuse s Stat.DENIED
  else
    let t := (s.clk.pulsePs + (s.clk.nextAt - s.clk.timePs)) / 1000 + numAt p.params 0 2
    holding (s.updPair n (fun x => { x with chan.startAt := some t, chan.startCmd := some p }))

/-- SWU_STOP (R186) on channel `c`. -/
def opSwuStop (c : Nat) (p : Packet) (s : State) : Out :=
  let n := s.chanPair c
  if p.params ≠ [] then refuse s Stat.BAD_PARAM
  else if s.on (F.SWU_P_CFG_RUN n) then accepted (s.updPair n (fun x => { x with chan.stopCmds := x.chan.stopCmds ++ [p] }))
  else ok s

/-- SWU_CHAN_READ. -/
def opSwuChanRead (p : Packet) (s : State) : Out :=
  let n := numAt p.params 0 1
  if p.params.length ≠ 1 ∨ 3 < n then refuse s Stat.BAD_PARAM
  else ok s (((List.range 8).map (fun i => s.view4 (A.SWU_P_CFG n + 4 * i))).flatten)

/-- The first period of a waiting channel begins, and SWU_START is answered (R185). -/
def State.firstPeriod (s : State) (p t : Nat) : State :=
  let s := s.reachPclk t
  let cmd := (s.pair p).chan.startCmd
  let s := ((s.setF (F.SWU_P_CFG_RUN p) 1).setAcc p 0).beginPeriod p t true
  let s := s.updPair p (fun x => { x with chan.startCmd := none })
  match cmd with
  | some c => s.release 0x0403 c Stat.OK []
  | none => s

/-- The end of a period in which SWU_STOP was given (R186). -/
def State.lastPeriod (s : State) (p : Nat) : State :=
  (s.haltChan p).each (s.pair p).chan.stopCmds (fun s c => s.finalReply 0x0404 c Stat.OK [])

/-- The clk that contains pclk `t` is over: a shadow write of that clk counts as made before an update point in it (R188, 02 R56). -/
def State.clkOf (s : State) (t : Nat) : State := s.reachPclk ((t / 2 + 1) * 2)

/-- PERIOD_START (R183, R185, R186, R188). -/
def onPeriodStart (pair : Fin 4) (s : State) : State :=
  let p := pair.val
  let c := (s.pair p).chan
  if !s.hasChan p then s
  else match c.startAt with
    | some t => (s.firstPeriod p t).clkOf t
    | none =>
      if !s.on (F.SWU_P_CFG_RUN p) then s
      else
        let s := s.reachPclk c.nextAt
        (if c.stopCmds ≠ [] then s.lastPeriod p else s.beginPeriod p c.nextAt false).clkOf c.nextAt

/-- CARRIER_LOGICAL_STATE_CHANGE (R187): the next change within the period; none for a pair that waits for its next period (R197). -/
def onCarrierLogicalStateChange (pair : Fin 4) (s : State) : State :=
  let p := pair.val
  match (s.pair p).chan.changes with
  | [] => s
  | (t, even) :: rest =>
    let s := (s.reachPclk t).updPair p (fun x => { x with chan.changes := rest })
    if (s.pair p).waits then s else s.setLogical p even t

/-- SHADOW_WRITE (R189): a write of the shadow registers by a core; refused under 07 R227. -/
def onShadowWrite (pair : Fin 4) (period duty : Option (BitVec 24)) (s : State) : State :=
  if s.ported pair then s else s.shadowWrite pair (period.map BitVec.toNat) (duty.map BitVec.toNat)

end Sys2Proof.Machine
end

