-- ==== Sys2Proof/Machine/Sessions.lean ====
section
/-!
DEFINITION. Sessions.lean: sessions and keys, handle opcodes, NOP, SYS_INFO, the creates of loops and sequences
(04 R120 to R129, R136, R467).
-/
namespace Sys2Proof.Machine
open Sys2Proof

/-! Sessions (R127 to R129). -/

/-- A session ends: its handle is destroyed and its index is free (R128, R129). -/
def State.endSession (s : State) (i : Nat) : State :=
  { s.dropIndex TY.SESSION i with cmd.sessions := s.cmd.sessions.filter (fun x => x.1 != i) }

/-- Addresses of a session's proof and key: TARGET, then SOURCE, 2 bytes each (R128). -/
def sessionAddrs (p : Packet) : List Byte := leBytes 2 p.target.toNat ++ leBytes 2 p.source.toNat

/-- The proof P that SESSION_OPEN must carry for key `k` (R128). -/
def sessionProof (k nr : List Byte) (p : Packet) : List Byte := (cmac k ([2] ++ nr ++ sessionAddrs p)).take 8

/-- The session key Ks (R128). -/
def sessionKey (k nr nd : List Byte) (p : Packet) : List Byte := cmac k ([1] ++ nr ++ nd ++ sessionAddrs p)

/-- Key in a slot; none when it is empty. -/
def State.keySlot (s : State) (n : Nat) : Option (List Byte) := (s.node.keys.find? (fun x => x.1 == n)).map (·.2)

/-- SESSION_OPEN (R128). -/
def opSessionOpen (p : Packet) (s : State) : Out :=
  let slot := numAt p.params 0 1
  let nr := slice p.params 1 8
  if p.params.length ≠ 17 ∨ 3 < slot then refuse s Stat.BAD_PARAM
  else match s.keySlot slot with
    | none => refuse s Stat.DENIED
    | some k =>
      if sessionProof k nr p ≠ slice p.params 9 8 then refuse s Stat.DENIED
      else
        let s := match s.sessionOf p.source with
          | some (i, _) => s.endSession i
          | none => s
        match s.takeIndex TY.SESSION p.source with
        | none => refuse (s.raise FS.HANDLE_EXHAUSTED) Stat.NO_RESOURCE
        | some (i, s) =>
          let (n, s) := s.free
          let nd := leBytes 8 (Config.nonce n).toNat
          let x : Session := { source := p.source, target := p.target, slot := slot, key := sessionKey k nr nd p, counter := 0, last := s.now }
          ok { s with cmd.sessions := s.cmd.sessions ++ [(i, x)] } (leBytes 4 (s.handleAt TY.SESSION i).toNat ++ nd)

/-- SESSION_CLOSE of session `i` (R129). -/
def opSessionClose (i : Nat) (p : Packet) (s : State) : Out :=
  if p.params ≠ [] then refuse s Stat.BAD_PARAM else ok (s.endSession i)

/-- SESSION_IDLE (R129): no accepted command for IDLE s. -/
def onSessionIdle (index : Fin 8) (s : State) : State :=
  match s.cmd.sessions.find? (fun x => x.1 == index.val) with
  | none => s
  | some (i, x) => (s.reachNow (x.last + s.f F.CMD_AUTH_IDLE * 1000000000)).endSession i

/-- KEY_LOAD (R136, R467). -/
def opKeyLoad (p : Packet) (s : State) : Out :=
  let slot := numAt p.params 0 1
  if p.params.length ≠ 17 ∨ 3 < slot then refuse s Stat.BAD_PARAM
  else if s.st ≠ ST.CONFIG ∨ !(s.sessionOf p.source).any (fun x => x.2.slot == 0) then refuse s Stat.DENIED
  else ok { s with node.keys := Map.set [] s.node.keys slot (slice p.params 1 16) }

/-- The session that passes an authenticated command: held for its SOURCE and TARGET, with a greater COUNTER and a right MAC (R127). -/
def State.authSession (s : State) (op : Nat) (p : Packet) : Option (Nat × Session) :=
  s.cmd.sessions.find? (fun x => x.2.source == p.source && x.2.target == p.target && p.auth && decide (x.2.counter < p.counter.toNat) &&
    (cmac x.2.key (pktHeader op p ++ p.params ++ leBytes 4 p.counter.toNat)).take 8 == p.mac)

/-- An accepted authenticated command moves the session's counter on (R127, R129). -/
def State.noteAccepted (s : State) (i : Nat) (p : Packet) : State :=
  { s with cmd.sessions := s.cmd.sessions.map (fun x =>
      if x.1 = i then (i, { x.2 with counter := p.counter.toNat, last := s.now }) else x) }

/-- A refusal for authentication is counted; the sixteenth within 1 s raises CMD_AUTH_FAIL (R129). -/
def State.authRefused (s : State) : State :=
  let l := slide 1000000000 s.now s.cmd.denyAt
  ({ s with cmd.denyAt := if 16 ≤ l.length then [] else l }.bump F.CMD_STAT_AUTH_DENIED).raiseIf (decide (16 ≤ l.length)) FS.CMD_AUTH_FAIL

/-! Handles (R126, R136). -/

/-- The owning subsystem holds the object bound (R126). -/
def State.bound (s : State) (ty i : Nat) : Bool :=
  match ty with
  | 1 => s.on (F.LOOP_L_CFG_EN i)
  | 2 => s.chanBound i
  | 3 => s.on (F.MEAS_Q_CFG_STARTED i)
  | 4 => s.capBound i
  | 5 => s.trendBound i
  | 6 => s.threadBound i
  | 7 => s.flowBound i
  | 8 => s.boxBound i
  | 10 => s.lockBound i
  | _ => false

/-- The object's memory goes back to its owner. -/
def State.freeObject (s : State) (ty i : Nat) : State :=
  match ty with
  | 1 => s.freeLoop i
  | 2 => s.freeChan i
  | 3 => s.freeSeq i
  | 4 => s.freeCapture i
  | 5 => s.freeTrend i
  | 6 => s.freeThread i
  | 7 => s.freeFlow i
  | 8 => s.freeBox i
  | 10 => s.setReg (A.DISP_L i) 0
  | _ => s

/-- R125 for an opcode that takes a handle of any type. -/
def State.anyHandleStatus (s : State) (h : Word) : Nat :=
  if hType h < 1 ∨ 10 < hType h then Stat.BAD_PARAM else s.handleStatus (hType h) h

/-- The object that a handle named before its destroy began, until the FINAL reply (R126). -/
def State.dyingObject (s : State) (h : Word) : Option Handle :=
  ((s.pool (hType h)).live.find? (fun x => x.1 == hIndex h && x.2.dying.isSome && nextGen (hGen h) == (s.pool (hType h)).gen (hIndex h))).map (·.2)

/-- HANDLE_INFO. -/
def opHandleInfo (p : Packet) (s : State) : Out :=
  let h := p.handle
  let answer (o : Handle) (st : Nat) : Out :=
    ok s (leBytes 4 h.toNat ++ leBytes 2 o.source.toNat ++ [BitVec.ofNat 8 st, BitVec.ofNat 8 (b2n (s.bound (hType h) (hIndex h)))] ++
      leBytes 8 o.created)
  if p.params ≠ [] then refuse s Stat.BAD_PARAM
  else if s.anyHandleStatus h = Stat.OK then
    match (s.pool (hType h)).object (hIndex h) with
    | some o => answer o 0
    | none => refuse s Stat.STALE_HANDLE
  else match s.dyingObject h with
    | some o => answer o 1
    | none => refuse s (s.anyHandleStatus h)

/-- The session under which a command was accepted: it is bound while it carries a destroy (R126). -/
def State.carriedBy (s : State) (p : Packet) : Option Nat :=
  if p.ks = [] then none else (s.sessionOf p.source).map (·.1)

/-- HANDLE_DESTROY (R126): an object that is not bound stands stopped, so it is destroyed and gives back its memory at once (06 R186,
07 R233, 08 R241, 09 R260). -/
def opHandleDestroy (p : Packet) (s : State) : Out :=
  let ty := hType p.handle
  let i := hIndex p.handle
  if p.params ≠ [] then refuse s Stat.BAD_PARAM
  else if s.anyHandleStatus p.handle ≠ Stat.OK then refuse s (s.anyHandleStatus p.handle)
  else if s.bound ty i ∨ (ty = TY.SESSION ∧ s.carriedBy p = some i) then refuse s Stat.DENIED
  else
    let s := (s.freeObject ty i).startDestroy ty i p
    accepted (if ty = TY.SESSION then { s with cmd.sessions := s.cmd.sessions.filter (fun x => x.1 != i) } else s)

/-- HANDLE_DESTROY_DONE (R126): the index of the object that the old handle named is free again, and the FINAL reply leaves. -/
def onHandleDestroyDone (handle : Word) (s : State) : State :=
  let ty := hType handle
  let i := hIndex handle
  match s.dyingObject handle with
  | some o =>
    let s := s.freeIndex ty i
    match o.dying with
    | some p => s.finalReply 0x0101 p Stat.OK []
    | none => s
  | none => s

/-! System opcodes (R136). -/

/-- NOP. -/
def opNop (p : Packet) (s : State) : Out := if 64 < p.params.length then refuse s Stat.BAD_PARAM else ok s p.params

/-- FCOUNT of the node as R93 and 12 R338 count it. -/
def State.fcount (s : State) : Nat :=
  min 0xFFFF ((s.units.map (fun n => (s.unit n).contrib.fcount)).foldl (· + ·) 0 + b2n (decide (1 ≤ s.standing)))

/-- SYS_INFO. -/
def opSysInfo (p : Packet) (s : State) : Out :=
  if p.params ≠ [] then refuse s Stat.BAD_PARAM
  else ok s (s.view4 A.SYS_ID ++ s.view4 A.CMD_NODE ++ [BitVec.ofNat 8 s.st, BitVec.ofNat 8 s.standing] ++ leBytes 2 s.fcount ++ s.view4 A.CMD_TMO)

/-! Creates (07 R232, 08 R241). -/

/-- LOOP_CREATE (07 R232). -/
def opLoopCreate (p : Packet) (s : State) : Out :=
  let k := lCount (p.params.take 88)
  createObj TY.LOOP (s.loopDescOk p.params) (fun s => (s.firstFit k).isSome) (fun n s => s.placeLoop n ((s.firstFit k).getD 0) p.params) p s

/-- MEAS_SEQ_CREATE (08 R241, R254). -/
def opMeasSeqCreate (p : Packet) (s : State) : Out :=
  createObj TY.SEQUENCE (s.seqParamsOk p.params) (fun _ => true) (fun q s => s.placeSeq q p.params) p s

end Sys2Proof.Machine
end

