-- ==== Sys2Proof/Machine/Power.lean ====
section
/-!
DEFINITION. Power.lean: power-on reset and its release, the end of the self-tests, warm reset, STATE_REQ with the exit
checks of CONFIG (17 R429 to R433; 00 R2, R12; 02 R60; 05 R167).
-/
namespace Sys2Proof.Machine
open Sys2Proof

/-! Power-on reset (R429). -/

/-- POWER_ON_RESET: every register and all state at its reset value; the flash, the levels that stand at the input balls
and the model's own queue and free values stay. -/
def onPowerOnReset (s : State) : State :=
  { State.reset with
    pending := s.pending, freeCount := s.freeCount, clk.nowPs := s.clk.nowPs, node.flash := s.node.flash
    swu.faultin := s.swu.faultin, swu.gofb := s.swu.gofb, hub.ball := s.hub.ball }

/-- The lanes of a Meadow's cross-link start at every rate (register reset values of 03 R76, 01 R16). -/
def State.xlinkCfg (s : State) : State :=
  if s.isMeadow then (s.setReg (A.LANE_CFG 0) 0x0F30).setReg (A.LANE_CFG 1) 0x0F30 else s

/-- The node enters SELFTEST (17 R431): every fault input is enabled and acts (06 R192). -/
def State.goSelftest (s : State) : State := ((s.xlinkCfg.go ST.SELFTEST).finAct).obeyLevel

/-- POWER_ON_RESET_RELEASE (00 R2): ROLE, SENIOR and BOOTSRC are sampled. -/
def onPowerOnResetRelease (role : BitVec 2) (senior bootsrc : Bool) (s : State) : State :=
  if !s.clk.por then s
  else
    let s := ({ s with clk.por := false }.setF F.SYS_ID_ROLE role.toNat).setF F.SYS_ID_SENIOR (b2n senior)
    (s.setF F.SYS_ID_BOOTSRC (b2n bootsrc)).goSelftest

/-! The end of SELFTEST (R431). -/

/-- The Meadow's own start: address 0 or 1 by SENIOR (01 R23), cross-link, first role (14 R372), LOAD. -/
def State.startMeadow (s : State) : State :=
  let own := b2n (!s.on F.SYS_ID_SENIOR)
  let s := (((s.setTime 0).setF F.CMD_NODE_ADDR own).setF F.CMD_NODE_TWIN 1).setF F.CMD_NODE_MEMBER own
  let s := s.each [0, 1] (fun s n => ((s.setF (F.CMD_DL_USE n) USE.XLINK).setF (F.CMD_DL_FAR_ADDR n) (own ^^^ 1)).raiseLane n)
  s.firstRole.goLoad

/-- The start of a Floret or Umbel: both uplinks (01 R16). -/
def State.startChild (s : State) : State :=
  (s.each [0, 1] (fun s n => (s.setF (F.CMD_DL_USE n) USE.UPLINK).raiseLane n)).go ST.LINK

/-- SELFTEST_COMPLETE (R431): `slices` what each slice's calibration and conversions gave (08 R252), bit n of `checkerOk` a check that passed
(11 R321). A part strapped for the factory's test goes no further (00 R2). -/
def onSelftestComplete (slices : List (Int × Int × List Int)) (checkerOk : BitVec 7) (s : State) : State :=
  if s.st ≠ ST.SELFTEST ∨ s.role = 3 then s
  else
    let s := ({ s with clk.refclk := true }.qualifySlices slices).guardSelfTest checkerOk.toNat
    let s := (s.each s.hostLanes State.raiseLane).releaseOut
    if s.isMeadow then s.startMeadow else s.startChild

/-! Warm reset (00 R12, 04 R136). -/

/-- Registers in reset domain POR keep their values. -/
def keptReg (r : Nat × Word) : Bool := (regFamilyAt r.1).any (fun f => f.domain == .por)

/-- Fields that a warm reset does not move: those that follow the level at a ball, and BYPASSED, which only power-on reset
clears (05 R142). SEAL_OK, SW and REC_MATCH read 0 until they are debounced again (13 R349). -/
def levelFields : List Fld :=
  [F.YAR_CELL_BYPASSED 0, F.YAR_CELL_BYPASSED 1] ++
  [F.SYS_PANEL_MKEY, F.SYS_PANEL_EJECT, F.SYS_SUPPLY_OUT, F.SAFE_PANEL_ACK]

/-- Every live object is destroyed: its generation moves on, its index is free (04 R124, R126). -/
def State.dropObjects (s : State) : State :=
  s.each ((List.range 10).map (· + 1)) (fun s ty =>
    s.each (List.range (poolSize ty)) (fun s i =>
      match (s.pool ty).live.find? (fun x => x.1 == i) with
      | some x => if x.2.dying.isSome then s.freeIndex ty i else s.dropIndex ty i
      | none => s))

/-- What the safety unit carries over: the record, the levels of its latched causes, the acknowledge button (13 R347, R353). -/
def Safe.warm (x : Safe) : Safe :=
  { record := x.record, inputLvl := x.inputLvl, commandLvl := x.commandLvl, setAt := x.setAt, ssEnded := x.ssEnded
    ssSgr := x.ssSgr, sgrSince := x.sgrSince, gdsOff := x.gdsOff, ackLow := x.ackLow, ackHigh := x.ackHigh
    ackBarred := x.ackBarred, ackLong := x.ackLong }

/-- What the node as a whole carries over: its flash, its JTAG port, its balls. -/
def Node.warm (x : Node) (now : Nat) : Node :=
  { since := now, lockoutDue := x.lockoutDue, flash := x.flash, leds := x.leds, jtagIr := x.jtagIr, bscan := x.bscan
    supplyOut := x.supplyOut }

/-- Elapsed time runs on; global time, the tick length and the phases are back at their reset values (02, TICK_TIME). -/
def Clk.warm (c : Clk) : Clk := { por := c.por, stopped := c.stopped, nowPs := c.nowPs }

/-- The segments that leave before a warm reset begins: those waiting in the transmit buffers (04 R109, R136). -/
def State.flushedSegs (s : State) : List (Nat × List Byte) :=
  (laneNumbers.map (fun n => (s.lane n).txq.map (fun t => (n, t.bytes)))).flatten

/-- Warm reset: everything in domain WARM back to its reset value, then SELFTEST. -/
def State.warmReset (s : State) : State :=
  let s := if s.recOpen then s.closeRecord true else s
  let s := s.dropObjects
  let levels := levelFields.map (fun x => (x, s.f x))
  let s : State :=
    { pending := s.pending, freeCount := s.freeCount, regs := s.regs.filter keptReg, bytes := s.bytes, clk := s.clk.warm
      node := s.node.warm s.now, cmd := { pools := s.cmd.pools, sent := s.cmd.sent, flushed := s.flushedSegs }
      hub := { history := s.hub.history, outMin := s.hub.outMin, ball := s.hub.ball, timeLatch := s.hub.timeLatch }
      swu := { faultin := s.swu.faultin, gofb := s.swu.gofb }, safe := s.safe.warm
      guard := { valid := s.guard.valid, checks := s.guard.checks, parity := s.guard.parity, img := s.guard.img
                 retired := s.guard.retired, passStart := s.now } }
  let s := s.each levels (fun s x => s.setF x.1 x.2)
  let s := ((s.setF F.MGRD_CNT_REC_RETIRED s.guard.retired.length).setF F.REC_POOL_USABLE (512 - s.guard.retired.length)).showFree
  s.showRecord.goSelftest

/-- WARM_RESET (R136): the reply leaves first. -/
def opWarmReset (p : Packet) (s : State) : Out :=
  if p.params ≠ [] then refuse s Stat.BAD_PARAM
  else if yarState s.st ∨ s.st = ST.LOCKOUT then refuse s Stat.DENIED
  else
    let s := s.reply 0x0003 p false Stat.OK []
    { s := s.warmReset, replied := true }

/-! STATE_REQ (R433). -/

/-- R60: the phase map of the role, as written. -/
def State.phasesOk (s : State) : Bool :=
  let per := s.f F.TICK_CFG_TICK_PERIOD
  let sam := s.f F.TICK_PH_SAMPLE_PHASE
  let up := s.f F.TICK_PH_UP_PHASE
  let tally := s.f F.TICK_PH_TALLY_PHASE
  let le := s.f F.TICK_PH_LOOP_END_PHASE
  let down := s.f F.TICK_PH_DOWN_PHASE
  if s.isFloret then decide (sam + 150 ≤ up) && decide (up + 100 < per)
  else if s.isUmbel then decide (tally + 38 < down) && decide (down + 100 < per)
  else decide (tally < le) && decide (le + 140 ≤ per)

/-- R167: nominal code and stagger of a Floret of capacity 1 or 2; the strings of a Meadow. -/
def State.yarExitOk (s : State) : Bool :=
  if s.isFloret then
    s.cells.isEmpty || (decide (1 ≤ s.f F.YAR_VNOM_VNOM) && decide ((s.f F.YAR_STAG_SLOTS - 1) * s.f F.YAR_STAG_STEP ≤ 4095))
  else if s.isMeadow then
    stringNumbers.all (fun k =>
      (!s.on (F.YAR_S_CFG_FB k) || s.tree.record.all (fun e => !(eRole e == 0 && eStringValid e && eString e == k) || eKind e == 2)) &&
      (!s.on (F.YAR_S_CFG_SRC k) || s.on (F.YAR_S_CFG_EN k)))
  else true

/-- R349: an accepted safety record that matches the switches. -/
def State.recordOk (s : State) : Bool := s.safe.record != [] && s.on F.SAFE_STAT_REC_MATCH

/-- The exit checks of CONFIG. -/
def State.exitOk (s : State) : Bool :=
  s.phasesOk && s.yarExitOk && s.recordOk && s.swuExitOk && s.loopExitOk && s.measExitOk

/-- STATE_REQ. -/
def opStateReq (p : Packet) (s : State) : Out :=
  let c := numAt p.params 0 1
  if p.params.length ≠ 1 ∨ (c ≠ ST.CONFIG ∧ c ≠ ST.READY ∧ c ≠ ST.RUN) then refuse s Stat.BAD_PARAM
  else if s.st = c then ok s
  else if c = ST.CONFIG then
    if s.st = ST.READY ∨ s.st = ST.WAIT_CREDIT then ok (s.go ST.CONFIG) else refuse s Stat.DENIED
  else if c = ST.READY then
    if yarState s.st then ok (s.go ST.READY)
    else if s.st ≠ ST.CONFIG ∨ 2 ≤ s.level then refuse s Stat.DENIED
    else if !s.exitOk then refuse s Stat.BAD_PARAM
    else ok s.goWaitCredit
  else if s.st ≠ ST.READY ∨ s.on F.SYS_PANEL_MKEY ∨ s.causes ≠ 0 then refuse s Stat.DENIED
  else ok (s.go ST.RUN)

end Sys2Proof.Machine
end

