-- ==== Sys2Proof/Machine/OpTable.lean ====
section
/-!
DEFINITION. OpTable.lean: the opcodes with what their tables say of each: code, roles, whether a session may be needed
(04 R127), whether class 0 may carry it and how long its reply is (04 R114), and its meaning.
-/
namespace Sys2Proof.Machine
open Sys2Proof

/-- Roles an opcode is defined for (R113). -/
inductive Roles where
  | all | floret | umbelMeadow | meadow | twin
  deriving DecidableEq, Repr

/-- The C0 column (R114): not capable; capable with at most `most` parameter bytes, a reply of `size` bytes, and while a bit
of REQ is 0; or with a reply that is cut to its first `n` bytes. -/
inductive C0 where
  | no
  | yes (most : Nat) (size : Packet → Nat) (bit : Option Nat)
  | first (n : Nat)

/-- One opcode. -/
structure OpRow where
  code : Nat
  roles : Roles
  free : Bool
  c0 : C0
  run : Packet → State → Out

/-- NOP (R136). -/
def rowNop : OpRow := { code := 0x0000, roles := .all, free := true, c0 := .yes 16 (fun p => p.params.length) none, run := opNop }

/-- SYS_INFO (R136). -/
def rowSysInfo : OpRow := { code := 0x0001, roles := .all, free := true, c0 := .yes 16 (fun _ => 16) none, run := opSysInfo }

/-- STATE_REQ (R433). -/
def rowStateReq : OpRow := { code := 0x0002, roles := .all, free := false, c0 := .no, run := opStateReq }

/-- WARM_RESET (R136). -/
def rowWarmReset : OpRow := { code := 0x0003, roles := .all, free := false, c0 := .no, run := opWarmReset }

/-- SYS_IDENT (R450). -/
def rowSysIdent : OpRow := { code := 0x0004, roles := .all, free := false, c0 := .yes 16 (fun _ => 0) none, run := opSysIdent }

/-- SESSION_OPEN (R128). -/
def rowSessionOpen : OpRow := { code := 0x0010, roles := .all, free := true, c0 := .no, run := opSessionOpen }

/-- SESSION_CLOSE (R129). -/
def rowSessionClose : OpRow := { code := 0x0011, roles := .all, free := true, c0 := .no, run := (withHandle TY.SESSION opSessionClose) }

/-- KEY_LOAD (R136). -/
def rowKeyLoad : OpRow := { code := 0x0012, roles := .all, free := false, c0 := .no, run := opKeyLoad }

/-- TIME_SET (R42). -/
def rowTimeSet : OpRow := { code := 0x0020, roles := .meadow, free := false, c0 := .no, run := opTimeSet }

/-- TIME_READ (R70). -/
def rowTimeRead : OpRow := { code := 0x0021, roles := .all, free := true, c0 := .no, run := opTimeRead }

/-- MGRD_READ (R324). -/
def rowMgrdRead : OpRow := { code := 0x0030, roles := .all, free := true, c0 := .first 16, run := opMgrdRead }

/-- MGRD_REMAP_SET (R324). -/
def rowMgrdRemapSet : OpRow := { code := 0x0031, roles := .all, free := false, c0 := .no, run := opMgrdRemapSet }

/-- MGRD_INJECT (R322). -/
def rowMgrdInject : OpRow := { code := 0x0032, roles := .all, free := false, c0 := .no, run := opMgrdInject }

/-- HANDLE_INFO (R136). -/
def rowHandleInfo : OpRow := { code := 0x0100, roles := .all, free := true, c0 := .yes 16 (fun _ => 16) none, run := opHandleInfo }

/-- HANDLE_DESTROY (R126). -/
def rowHandleDestroy : OpRow := { code := 0x0101, roles := .all, free := false, c0 := .no, run := opHandleDestroy }

/-- HANDLE_LIST (R136). -/
def rowHandleList : OpRow := { code := 0x0102, roles := .all, free := true, c0 := .no, run := opHandleList }

/-- HANDLE_POOL (R136). -/
def rowHandlePool : OpRow := { code := 0x0103, roles := .all, free := true, c0 := .yes 16 (fun _ => 10) none, run := opHandlePool }

/-- REG_READ (R131). -/
def rowRegRead : OpRow := { code := 0x0200, roles := .all, free := true, c0 := .yes 16 (fun p => 4 * numAt p.params 4 1) none, run := opRegRead }

/-- REG_WRITE (R136). -/
def rowRegWrite : OpRow := { code := 0x0201, roles := .all, free := false, c0 := .yes 8 (fun _ => 0) (some 2), run := opRegWrite }

/-- REG_RMW (R131). -/
def rowRegRmw : OpRow := { code := 0x0202, roles := .all, free := false, c0 := .yes 16 (fun _ => 4) (some 2), run := opRegRmw }

/-- MEM_READ (R131). -/
def rowMemRead : OpRow := { code := 0x0210, roles := .all, free := true, c0 := .no, run := opMemRead }

/-- MEM_WRITE (R131). -/
def rowMemWrite : OpRow := { code := 0x0211, roles := .all, free := false, c0 := .no, run := opMemWrite }

/-- YAR_TALLY_READ (R170). -/
def rowYarTallyRead : OpRow := { code := 0x0300, roles := .all, free := true, c0 := .no, run := opYarTallyRead }

/-- YAR_UNIT_READ (R170). -/
def rowYarUnitRead : OpRow := { code := 0x0301, roles := .umbelMeadow, free := true, c0 := .no, run := opYarUnitRead }

/-- YAR_CELL_EXCLUDE (R143). -/
def rowYarCellExclude : OpRow := { code := 0x0302, roles := .floret, free := false, c0 := .yes 16 (fun _ => 0) none, run := opYarCellExclude }

/-- YAR_CELL_READ (R170). -/
def rowYarCellRead : OpRow := { code := 0x0303, roles := .floret, free := true, c0 := .yes 16 (fun _ => 12) none, run := opYarCellRead }

/-- YAR_DEMAND_SET (R170). -/
def rowYarDemandSet : OpRow := { code := 0x0304, roles := .meadow, free := false, c0 := .no, run := opYarDemandSet }

/-- SWU_CREATE (R184). -/
def rowSwuCreate : OpRow := { code := 0x0400, roles := .all, free := false, c0 := .no, run := opSwuCreate }

/-- SWU_SET (R191). -/
def rowSwuSet : OpRow := { code := 0x0401, roles := .all, free := false, c0 := .yes 16 (fun _ => 0) (some 4), run := (withHandle TY.CHANNEL opSwuSet) }

/-- SWU_COMMIT (R190). -/
def rowSwuCommit : OpRow := { code := 0x0402, roles := .all, free := false, c0 := .yes 16 (fun _ => 0) none, run := (withHandle TY.CHANNEL opSwuCommit) }

/-- SWU_START (R185). -/
def rowSwuStart : OpRow := { code := 0x0403, roles := .all, free := false, c0 := .no, run := (withHandle TY.CHANNEL opSwuStart) }

/-- SWU_STOP (R186). -/
def rowSwuStop : OpRow := { code := 0x0404, roles := .all, free := false, c0 := .no, run := (withHandle TY.CHANNEL opSwuStop) }

/-- SWU_STATUS_READ (R204). -/
def rowSwuStatusRead : OpRow := { code := 0x0405, roles := .all, free := true, c0 := .yes 16 (fun _ => 8) none, run := opSwuStatusRead }

/-- SWU_CHAN_READ (R204). -/
def rowSwuChanRead : OpRow := { code := 0x0406, roles := .all, free := true, c0 := .no, run := opSwuChanRead }

/-- SWU_FAULT_CLEAR (R196). -/
def rowSwuFaultClear : OpRow := { code := 0x0407, roles := .all, free := false, c0 := .yes 16 (fun _ => 1) (some 4), run := opSwuFaultClear }

/-- SWU_FORCE (R193). -/
def rowSwuForce : OpRow := { code := 0x0408, roles := .all, free := false, c0 := .yes 16 (fun _ => 0) (some 4), run := opSwuForce }

/-- LOOP_CREATE (R232). -/
def rowLoopCreate : OpRow := { code := 0x0500, roles := .all, free := false, c0 := .no, run := opLoopCreate }

/-- LOOP_ENABLE (R234). -/
def rowLoopEnable : OpRow := { code := 0x0501, roles := .all, free := false, c0 := .no, run := (withHandle TY.LOOP opLoopEnable) }

/-- LOOP_COEF_SET (R234). -/
def rowLoopCoefSet : OpRow := { code := 0x0502, roles := .all, free := false, c0 := .no, run := opLoopCoefSet }

/-- LOOP_PARAM_SET (R234). -/
def rowLoopParamSet : OpRow := { code := 0x0503, roles := .all, free := false, c0 := .yes 16 (fun _ => 0) none, run := opLoopParamSet }

/-- LOOP_SIG_READ (R234). -/
def rowLoopSigRead : OpRow := { code := 0x0504, roles := .all, free := true, c0 := .yes 16 (fun p => 4 * numAt p.params 2 1) none, run := opLoopSigRead }

/-- LOOP_INFO (R234). -/
def rowLoopInfo : OpRow := { code := 0x0505, roles := .all, free := true, c0 := .no, run := (withHandle TY.LOOP opLoopInfo) }

/-- LOOP_BUDGET_READ (R234). -/
def rowLoopBudgetRead : OpRow := { code := 0x0506, roles := .all, free := true, c0 := .yes 16 (fun _ => 16) none, run := opLoopBudgetRead }

/-- MEAS_SEQ_CREATE (R241). -/
def rowMeasSeqCreate : OpRow := { code := 0x0600, roles := .all, free := false, c0 := .no, run := opMeasSeqCreate }

/-- MEAS_SEQ_START (R254). -/
def rowMeasSeqStart : OpRow := { code := 0x0601, roles := .all, free := false, c0 := .yes 16 (fun _ => 0) none, run := (withHandle TY.SEQUENCE opMeasSeqStart) }

/-- MEAS_SEQ_STOP (R244). -/
def rowMeasSeqStop : OpRow := { code := 0x0602, roles := .all, free := false, c0 := .no, run := (withHandle TY.SEQUENCE opMeasSeqStop) }

/-- MEAS_RESULT_READ (R254). -/
def rowMeasResultRead : OpRow := { code := 0x0603, roles := .all, free := true, c0 := .yes 16 (fun p => 4 * numAt p.params 2 1) none, run := opMeasResultRead }

/-- MEAS_INJECT (R249). -/
def rowMeasInject : OpRow := { code := 0x0604, roles := .all, free := false, c0 := .yes 16 (fun _ => 4) none, run := opMeasInject }

/-- MEAS_SLICE_READ (R254). -/
def rowMeasSliceRead : OpRow := { code := 0x0605, roles := .all, free := true, c0 := .no, run := opMeasSliceRead }

/-- CAPTURE_CREATE (R280). -/
def rowCaptureCreate : OpRow := { code := 0x0700, roles := .all, free := false, c0 := .no, run := opCaptureCreate }

/-- CAPTURE_ARM (R261). -/
def rowCaptureArm : OpRow := { code := 0x0701, roles := .all, free := false, c0 := .no, run := (withHandle TY.CAPTURE opCaptureArm) }

/-- CAPTURE_TRIGGER (R262). -/
def rowCaptureTrigger : OpRow := { code := 0x0702, roles := .all, free := false, c0 := .yes 16 (fun _ => 0) none, run := (withHandle TY.CAPTURE opCaptureTrigger) }

/-- CAPTURE_STOP (R263). -/
def rowCaptureStop : OpRow := { code := 0x0703, roles := .all, free := false, c0 := .yes 16 (fun _ => 0) none, run := (withHandle TY.CAPTURE opCaptureStop) }

/-- CAPTURE_RELEASE (R260). -/
def rowCaptureRelease : OpRow := { code := 0x0704, roles := .all, free := false, c0 := .no, run := (withHandle TY.CAPTURE opCaptureRelease) }

/-- CAPTURE_READ (R278). -/
def rowCaptureRead : OpRow := { code := 0x0705, roles := .all, free := true, c0 := .no, run := (withHandle TY.CAPTURE opCaptureRead) }

/-- CAPTURE_INFO (R280). -/
def rowCaptureInfo : OpRow := { code := 0x0706, roles := .all, free := true, c0 := .yes 16 (fun _ => 12) none, run := (withHandle TY.CAPTURE opCaptureInfo) }

/-- TREND_CREATE (R275). -/
def rowTrendCreate : OpRow := { code := 0x0710, roles := .all, free := false, c0 := .no, run := opTrendCreate }

/-- TREND_START (R280). -/
def rowTrendStart : OpRow := { code := 0x0711, roles := .all, free := false, c0 := .no, run := (withHandle TY.TREND opTrendStart) }

/-- TREND_STOP (R280). -/
def rowTrendStop : OpRow := { code := 0x0712, roles := .all, free := false, c0 := .no, run := (withHandle TY.TREND opTrendStop) }

/-- TREND_INFO (R280). -/
def rowTrendInfo : OpRow := { code := 0x0713, roles := .all, free := true, c0 := .yes 16 (fun _ => 12) none, run := (withHandle TY.TREND opTrendInfo) }

/-- SYS_TRIGGER (R272). -/
def rowSysTrigger : OpRow := { code := 0x0720, roles := .all, free := false, c0 := .yes 16 (fun _ => 0) none, run := opSysTrigger }

/-- REC_POOL_READ (R280). -/
def rowRecPoolRead : OpRow := { code := 0x0721, roles := .all, free := true, c0 := .yes 16 (fun _ => 12) none, run := opRecPoolRead }

/-- FAULT_READ (R344). -/
def rowFaultRead : OpRow := { code := 0x0800, roles := .all, free := true, c0 := .first 16, run := opFaultRead }

/-- FAULT_RESOLVE (R334). -/
def rowFaultResolve : OpRow := { code := 0x0801, roles := .all, free := false, c0 := .yes 16 (fun _ => 0) (some 8), run := opFaultResolve }

/-- FAULT_LATCH_CLEAR (R344). -/
def rowFaultLatchClear : OpRow := { code := 0x0802, roles := .all, free := false, c0 := .yes 16 (fun _ => 0) (some 8), run := opFaultLatchClear }

/-- FAULT_SRC_SET (R344). -/
def rowFaultSrcSet : OpRow := { code := 0x0803, roles := .all, free := false, c0 := .no, run := opFaultSrcSet }

/-- FAULT_RAISE (R344). -/
def rowFaultRaise : OpRow := { code := 0x0804, roles := .all, free := false, c0 := .no, run := opFaultRaise }

/-- FAULT_HISTORY (R344). -/
def rowFaultHistory : OpRow := { code := 0x0805, roles := .all, free := false, c0 := .no, run := opFaultHistory }

/-- FAULT_SUBSCRIBE (R341). -/
def rowFaultSubscribe : OpRow := { code := 0x0806, roles := .meadow, free := false, c0 := .no, run := opFaultSubscribe }

/-- SAFE_STATUS_READ (R370). -/
def rowSafeStatusRead : OpRow := { code := 0x0900, roles := .all, free := true, c0 := .first 16, run := opSafeStatusRead }

/-- SAFE_CFG_LOAD (R348). -/
def rowSafeCfgLoad : OpRow := { code := 0x0901, roles := .all, free := false, c0 := .no, run := opSafeCfgLoad }

/-- SAFE_CFG_READ (R370). -/
def rowSafeCfgRead : OpRow := { code := 0x0902, roles := .all, free := true, c0 := .no, run := opSafeCfgRead }

/-- SAFE_DEMAND (R353). -/
def rowSafeDemand : OpRow := { code := 0x0903, roles := .all, free := false, c0 := .no, run := opSafeDemand }

/-- SAFE_RESET (R367). -/
def rowSafeReset : OpRow := { code := 0x0904, roles := .all, free := false, c0 := .no, run := opSafeReset }

/-- SAFE_BYPASS (R364). -/
def rowSafeBypass : OpRow := { code := 0x0905, roles := .floret, free := false, c0 := .no, run := opSafeBypass }

/-- SAFE_OUT_READ (R370). -/
def rowSafeOutRead : OpRow := { code := 0x0906, roles := .all, free := true, c0 := .first 16, run := opSafeOutRead }

/-- TWIN_READ (R391). -/
def rowTwinRead : OpRow := { code := 0x0A00, roles := .all, free := true, c0 := .first 16, run := opTwinRead }

/-- DUPLEX_SWAP (R386). -/
def rowDuplexSwap : OpRow := { code := 0x0A01, roles := .twin, free := false, c0 := .no, run := opDuplexSwap }

/-- TWIN_RESYNC (R391). -/
def rowTwinResync : OpRow := { code := 0x0A02, roles := .twin, free := false, c0 := .no, run := opTwinResync }

/-- LIFE_READ (R410). -/
def rowLifeRead : OpRow := { code := 0x0B00, roles := .all, free := true, c0 := .first 16, run := opLifeRead }

/-- LIFE_PLAN_SET (R393). -/
def rowLifePlanSet : OpRow := { code := 0x0B01, roles := .floret, free := false, c0 := .no, run := opLifePlanSet }

/-- LIFE_BASELINE (R410). -/
def rowLifeBaseline : OpRow := { code := 0x0B02, roles := .floret, free := false, c0 := .no, run := opLifeBaseline }

/-- LIFE_RF_READ (R410). -/
def rowLifeRfRead : OpRow := { code := 0x0B03, roles := .floret, free := true, c0 := .first 16, run := opLifeRfRead }

/-- LIFE_STATE_READ (R408). -/
def rowLifeStateRead : OpRow := { code := 0x0B04, roles := .floret, free := true, c0 := .no, run := opLifeStateRead }

/-- LIFE_RESTORE (R408). -/
def rowLifeRestore : OpRow := { code := 0x0B05, roles := .floret, free := false, c0 := .no, run := opLifeRestore }

/-- LIFE_SUBSCRIBE (R410). -/
def rowLifeSubscribe : OpRow := { code := 0x0B06, roles := .meadow, free := false, c0 := .no, run := opLifeSubscribe }

/-- CAN_MODE (R413). -/
def rowCanMode : OpRow := { code := 0x0C00, roles := .all, free := false, c0 := .no, run := opCanMode }

/-- CAN_MB_CREATE (R428). -/
def rowCanMbCreate : OpRow := { code := 0x0C01, roles := .all, free := false, c0 := .no, run := opCanMbCreate }

/-- CAN_MB_SEND (R417). -/
def rowCanMbSend : OpRow := { code := 0x0C02, roles := .all, free := false, c0 := .yes 12 (fun _ => 0) none, run := (withHandle TY.MAILBOX opCanMbSend) }

/-- CAN_MB_CANCEL (R423). -/
def rowCanMbCancel : OpRow := { code := 0x0C03, roles := .all, free := false, c0 := .yes 16 (fun _ => 8) none, run := (withHandle TY.MAILBOX opCanMbCancel) }

/-- CAN_MB_READ (R416). -/
def rowCanMbRead : OpRow := { code := 0x0C04, roles := .all, free := true, c0 := .first 16, run := (withHandle TY.MAILBOX opCanMbRead) }

/-- CAN_STATUS_READ (R428). -/
def rowCanStatusRead : OpRow := { code := 0x0C05, roles := .all, free := true, c0 := .yes 16 (fun _ => 16) none, run := opCanStatusRead }

/-- CAN_RECOVER (R421). -/
def rowCanRecover : OpRow := { code := 0x0C06, roles := .all, free := false, c0 := .no, run := opCanRecover }

/-- LANE_READ (R108). -/
def rowLaneRead : OpRow := { code := 0x0D00, roles := .all, free := true, c0 := .no, run := opLaneRead }

/-- LANE_RESTART (R108). -/
def rowLaneRestart : OpRow := { code := 0x0D01, roles := .all, free := false, c0 := .no, run := opLaneRestart }

/-- LANE_RATE (R108). -/
def rowLaneRate : OpRow := { code := 0x0D02, roles := .umbelMeadow, free := false, c0 := .no, run := opLaneRate }

/-- EQ_LOAD (R82). -/
def rowEqLoad : OpRow := { code := 0x0D10, roles := .all, free := false, c0 := .no, run := opEqLoad }

/-- PRBS_START (R84). -/
def rowPrbsStart : OpRow := { code := 0x0D20, roles := .all, free := false, c0 := .no, run := opPrbsStart }

/-- PRBS_READ (R108). -/
def rowPrbsRead : OpRow := { code := 0x0D21, roles := .all, free := true, c0 := .no, run := opPrbsRead }

/-- MOD_READ (R108). -/
def rowModRead : OpRow := { code := 0x0D30, roles := .all, free := true, c0 := .no, run := opModRead }

/-- MOD_WRITE (R88). -/
def rowModWrite : OpRow := { code := 0x0D31, roles := .all, free := false, c0 := .no, run := opModWrite }

/-- TREE_LOAD (R29). -/
def rowTreeLoad : OpRow := { code := 0x0D40, roles := .meadow, free := false, c0 := .no, run := opTreeLoad }

/-- TREE_SURVEY (R40). -/
def rowTreeSurvey : OpRow := { code := 0x0D41, roles := .umbelMeadow, free := true, c0 := .no, run := opTreeSurvey }

/-- TREE_READ (R40). -/
def rowTreeRead : OpRow := { code := 0x0D42, roles := .meadow, free := true, c0 := .no, run := opTreeRead }

/-- THREAD_CREATE (R285). -/
def rowThreadCreate : OpRow := { code := 0x0E00, roles := .all, free := false, c0 := .no, run := opThreadCreate }

/-- THREAD_START (R286). -/
def rowThreadStart : OpRow := { code := 0x0E01, roles := .all, free := false, c0 := .yes 16 (fun _ => 0) none, run := (withHandle TY.THREAD opThreadStart) }

/-- THREAD_STOP (R306). -/
def rowThreadStop : OpRow := { code := 0x0E02, roles := .all, free := false, c0 := .no, run := (withHandle TY.THREAD opThreadStop) }

/-- THREAD_CANCEL (R294). -/
def rowThreadCancel : OpRow := { code := 0x0E03, roles := .all, free := false, c0 := .yes 16 (fun _ => 2) none, run := (withHandle TY.THREAD opThreadCancel) }

/-- OPERAND_POST (R292). -/
def rowOperandPost : OpRow := { code := 0x0E04, roles := .all, free := false, c0 := .yes 16 (fun _ => 0) none, run := opOperandPost }

/-- THREAD_INFO (R306). -/
def rowThreadInfo : OpRow := { code := 0x0E05, roles := .all, free := true, c0 := .yes 16 (fun _ => 16) none, run := (withHandle TY.THREAD opThreadInfo) }

/-- FLOW_CREATE (R295). -/
def rowFlowCreate : OpRow := { code := 0x0E10, roles := .all, free := false, c0 := .no, run := opFlowCreate }

/-- FLOW_INFO (R306). -/
def rowFlowInfo : OpRow := { code := 0x0E11, roles := .all, free := true, c0 := .yes 16 (fun _ => 8) none, run := (withHandle TY.FLOW opFlowInfo) }

/-- LOCK_CREATE (R299). -/
def rowLockCreate : OpRow := { code := 0x0E20, roles := .all, free := false, c0 := .no, run := opLockCreate }

/-- DISP_READ (R306). -/
def rowDispRead : OpRow := { code := 0x0E30, roles := .all, free := true, c0 := .first 8, run := opDispRead }

/-- FW_STATUS_READ (R450). -/
def rowFwStatusRead : OpRow := { code := 0x0F00, roles := .all, free := true, c0 := .yes 16 (fun _ => 12) none, run := opFwStatusRead }

/-- FW_FLASH_ERASE (R451). -/
def rowFwFlashErase : OpRow := { code := 0x0F01, roles := .umbelMeadow, free := false, c0 := .no, run := opFwFlashErase }

/-- FW_FLASH_WRITE (R451). -/
def rowFwFlashWrite : OpRow := { code := 0x0F02, roles := .umbelMeadow, free := false, c0 := .no, run := opFwFlashWrite }

/-- FW_FLASH_READ (R450). -/
def rowFwFlashRead : OpRow := { code := 0x0F03, roles := .umbelMeadow, free := true, c0 := .no, run := opFwFlashRead }

/-- FW_FLASH_CHECK (R450). -/
def rowFwFlashCheck : OpRow := { code := 0x0F04, roles := .umbelMeadow, free := false, c0 := .no, run := opFwFlashCheck }

/-- Every opcode, in the order of the codes. -/
def opRows : List OpRow :=
  [rowNop, rowSysInfo, rowStateReq, rowWarmReset, rowSysIdent, rowSessionOpen] ++
  [rowSessionClose, rowKeyLoad, rowTimeSet, rowTimeRead, rowMgrdRead, rowMgrdRemapSet] ++
  [rowMgrdInject, rowHandleInfo, rowHandleDestroy, rowHandleList, rowHandlePool, rowRegRead] ++
  [rowRegWrite, rowRegRmw, rowMemRead, rowMemWrite, rowYarTallyRead, rowYarUnitRead] ++
  [rowYarCellExclude, rowYarCellRead, rowYarDemandSet, rowSwuCreate, rowSwuSet, rowSwuCommit] ++
  [rowSwuStart, rowSwuStop, rowSwuStatusRead, rowSwuChanRead, rowSwuFaultClear, rowSwuForce] ++
  [rowLoopCreate, rowLoopEnable, rowLoopCoefSet, rowLoopParamSet, rowLoopSigRead, rowLoopInfo] ++
  [rowLoopBudgetRead, rowMeasSeqCreate, rowMeasSeqStart, rowMeasSeqStop, rowMeasResultRead, rowMeasInject] ++
  [rowMeasSliceRead, rowCaptureCreate, rowCaptureArm, rowCaptureTrigger, rowCaptureStop, rowCaptureRelease] ++
  [rowCaptureRead, rowCaptureInfo, rowTrendCreate, rowTrendStart, rowTrendStop, rowTrendInfo] ++
  [rowSysTrigger, rowRecPoolRead, rowFaultRead, rowFaultResolve, rowFaultLatchClear, rowFaultSrcSet] ++
  [rowFaultRaise, rowFaultHistory, rowFaultSubscribe, rowSafeStatusRead, rowSafeCfgLoad, rowSafeCfgRead] ++
  [rowSafeDemand, rowSafeReset, rowSafeBypass, rowSafeOutRead, rowTwinRead, rowDuplexSwap] ++
  [rowTwinResync, rowLifeRead, rowLifePlanSet, rowLifeBaseline, rowLifeRfRead, rowLifeStateRead] ++
  [rowLifeRestore, rowLifeSubscribe, rowCanMode, rowCanMbCreate, rowCanMbSend, rowCanMbCancel] ++
  [rowCanMbRead, rowCanStatusRead, rowCanRecover, rowLaneRead, rowLaneRestart, rowLaneRate] ++
  [rowEqLoad, rowPrbsStart, rowPrbsRead, rowModRead, rowModWrite, rowTreeLoad] ++
  [rowTreeSurvey, rowTreeRead, rowThreadCreate, rowThreadStart, rowThreadStop, rowThreadCancel] ++
  [rowOperandPost, rowThreadInfo, rowFlowCreate, rowFlowInfo, rowLockCreate, rowDispRead] ++
  [rowFwStatusRead, rowFwFlashErase, rowFwFlashWrite, rowFwFlashRead, rowFwFlashCheck]

/-- The row of an opcode; none for one that is not defined. -/
def opRow (op : Nat) : Option OpRow := opRows.find? (fun r => r.code == op)

/-- The opcode is defined for the node's role. -/
def State.hasRole (s : State) (r : Roles) : Bool :=
  match r with
  | .all => true
  | .floret => s.isFloret
  | .umbelMeadow => s.isUmbel || s.isMeadow
  | .meadow => s.isMeadow
  | .twin => s.isTwin

end Sys2Proof.Machine
end

