-- ==== Sys2Proof/Machine/Interp.lean ====
section
/-!
DEFINITION. Interp.lean: the command interpreter (04 R110 to R119, R127): the checks before a command runs, the queues,
execution, MCAST, the entry of commands from ports and cores; and what ends every event and command.
-/
namespace Sys2Proof.Machine
open Sys2Proof

/-! Checks (R114, R127). -/

/-- The opcode's group has its bit set in CMD_AUTH.REQ, and its name is not exempt (R127). -/
def State.needsSession (s : State) (r : OpRow) : Bool := !r.free && bit (s.f F.CMD_AUTH_REQ) (r.code / 256)

/-- Bytes of a class-0 reply that fit its slot (R114). -/
def replyRoom (p : Packet) : Nat := if p.auth then 4 else 16

/-- The class-0 limits of R114. -/
def State.class0Ok (s : State) (r : OpRow) (p : Packet) : Bool :=
  p.cls != 0 || (decide (p.params.length ≤ if p.auth then 0 else 16) &&
    match r.c0 with
    | .no => false
    | .first _ => true
    | .yes most size b => decide (p.params.length ≤ most) && decide (size p ≤ replyRoom p) && b.all (fun i => !bit (s.f F.CMD_AUTH_REQ) i))

/-- The payload as it is sent: a class-0 reply of a "first N bytes" opcode is cut (R114). -/
def cutReply (r : OpRow) (p : Packet) (payload : List Byte) : List Byte :=
  match r.c0 with
  | .first n => if p.cls = 0 then payload.take (min n (replyRoom p)) else payload
  | _ => payload

/-! Execution. -/

/-- Runs an opcode and sends what it answers at once; a command without a reply yet holds execution, unless it came in a slot (R118). -/
def State.runOp (s : State) (r : OpRow) (p : Packet) : State :=
  let o := r.run p s
  if o.replied then o.s
  else if o.hold then (if p.slot then o.s else { o.s with cmd.busy := some (r.code, p) })
  else
    let s := o.s.reply r.code p false o.status (cutReply r p o.payload)
    match o.final with
    | some (st, b) => s.finalReply r.code p st b
    | none => s

/-- The checks of R113, R127 and R114 in turn: the state, the packet with the key of its session, and OK or the refusal. -/
def State.vet (s : State) (r : OpRow) (p : Packet) : State × Packet × Nat :=
  let limits (s : State) (p : Packet) : State × Packet × Nat := (s, p, if s.class0Ok r p then Stat.OK else Stat.BAD_PARAM)
  if !s.hasRole r.roles then (s, p, Stat.BAD_OPCODE)
  else if p.auth || s.needsSession r then
    match s.authSession r.code p with
    | none => (s.authRefused, p, Stat.DENIED)
    | some (i, x) => limits (s.noteAccepted i p) { p with ks := x.key }
  else limits s p

/-- An opcode that passes the checks runs; another is refused and nothing of it runs. -/
def State.execute (s : State) (r : OpRow) (p : Packet) : State :=
  match s.vet r p with
  | (s, p, st) => if st = Stat.OK then s.runOp r p else s.reply r.code p false st (if st = Stat.BAD_OPCODE then [] else refusalPayload r.code)

/-! MCAST (R109, R115; 03 R101). -/

/-- The node lies in the subtree that a multicast for `dest` goes to. Down a tree lane such a message comes only to nodes of
that subtree, or of one that holds `dest`. -/
def State.covered (s : State) (lane : Option (Fin 32)) (dest : Nat) : Bool :=
  dest == s.addr || (decide (dest ≤ s.addr) && (decide (s.addr ≤ s.subtreeHi dest) || lane.any (fun (n : Fin 32) => s.uplinks.contains n.val || s.isXlink n.val)))

/-- The copy came over the cross-link from the twin mate, which sends it on to the child units itself. -/
def State.mateCopy (s : State) (lane : Option (Fin 32)) (dest : Nat) : Bool := dest != s.addr && lane.any (fun (n : Fin 32) => s.isXlink n.val)

/-- The twin mate lies in the subtree of `dest` too. -/
def State.mateCovered (s : State) (dest : Nat) : Bool :=
  s.on F.CMD_NODE_TWIN && dest != (s.addr ^^^ 1) && decide (dest ≤ (s.addr ^^^ 1))

/-- Copies of an MCAST command: to every child unit that holds part of the subtree, and to the twin mate. -/
def State.fanOut (s : State) (op : Nat) (p : Packet) : State :=
  let dest := p.target.toNat
  let b := pktBytes op p
  if !p.mcast || s.mateCopy p.lane dest then s
  else if p.slot then { s with cmd.slots := putSlots s.cmd.slots (s.mcastUnits dest) b }
  else
    let send (s : State) (n : Option Nat) : State := match n with
      | some n => s.sendMessage n KIND.COMMAND (max 1 p.cls.toNat) dest true b
      | none => s
    let s := if s.mateCovered dest then send s s.xLane else s
    if p.cls = 0 ∧ s.activeMeadow then (s.originateC0 b).getD s
    else s.each (s.mcastUnits dest) (fun s u => send s (s.unitLane u))

/-! Queues (R118). -/

/-- The copies of a command that leave before it runs: those of a WARM_RESET, as its reply does (R136). -/
def State.copiesBefore (s : State) (r : OpRow) (p : Packet) : State := if r.code = 0x0003 then s.fanOut r.code p else s

/-- The copies of every other command, which this node sends on once it has run it (17 R433). -/
def State.copiesAfter (s : State) (r : OpRow) (p : Packet) : State := if r.code = 0x0003 then s else s.fanOut r.code p

/-- Runs a command and sends its copies on. -/
def State.perform (s : State) (r : OpRow) (p : Packet) : State := ((s.copiesBefore r p).execute r p).copiesAfter r p

/-- Class of the queue a command waits in: a class-0 command outside the slots is carried as class 1 (R114). -/
def queueClass (p : Packet) : Nat := max 1 p.cls.toNat

/-- Commands that wait in the queue of a class. -/
def State.cmdQueue (s : State) (c : Nat) : List (Nat × Packet) := if c = 1 then s.cmd.q1 else if c = 2 then s.cmd.q2 else s.cmd.q3

/-- Nothing runs and nothing waits. -/
def State.interpIdle (s : State) : Bool := s.cmd.busy.isNone && s.cmd.q1.isEmpty && s.cmd.q2.isEmpty && s.cmd.q3.isEmpty

/-- A command at its target: in a slot, or with the interpreter free, it runs; else it waits in its queue of 32, or is refused. -/
def State.submit (s : State) (r : OpRow) (p : Packet) : State :=
  if p.slot || s.interpIdle then s.perform r p
  else
    let c := queueClass p
    if 32 ≤ (s.cmdQueue c).length then
      ((s.raise FS.CMD_QUEUE_FULL).reply r.code p false Stat.BUSY (refusalPayload r.code)).fanOut r.code p
    else
      let x := (r.code, p)
      match c with
      | 1 => { s with cmd.q1 := s.cmd.q1 ++ [x] }
      | 2 => { s with cmd.q2 := s.cmd.q2 ++ [x] }
      | _ => { s with cmd.q3 := s.cmd.q3 ++ [x] }

/-- The next waiting command: class 1 first, in order of arrival within a class. -/
def State.nextCmd (s : State) : Option ((Nat × Packet) × State) :=
  match s.cmd.q1, s.cmd.q2, s.cmd.q3 with
  | x :: q, _, _ => some (x, { s with cmd.q1 := q })
  | [], x :: q, _ => some (x, { s with cmd.q2 := q })
  | [], [], x :: q => some (x, { s with cmd.q3 := q })
  | [], [], [] => none

/-- Waiting commands run while none holds execution. -/
def State.pump : Nat → State → State
  | 0, s => s
  | n + 1, s =>
    if s.cmd.busy.isSome then s
    else match s.nextCmd with
      | none => s
      | some ((op, p), s) =>
        match opRow op with
        | none => State.pump n s
        | some r => State.pump n (s.perform r p).finish

/-- What ends every event and command: raised sources, safety outputs, leaving BLOCKED, waiting commands, trend blocks, a
survey whose time has come. -/
def State.wrapUp (s : State) : State :=
  let s := s.finish.endSurvey.trendPump.watchTrends
  (State.pump (s.cmd.q1.length + s.cmd.q2.length + s.cmd.q3.length) s).finish

/-- The digital part runs: no power-on reset, no stopped clock (06 R200, 17 R429). -/
def State.running (s : State) : Bool := !s.clk.por && !s.clk.stopped

/-- An event of the clocked part. -/
def runEvent (g : State → State) (s : State) : State := if s.running then (g s).wrapUp else s

/-- An event that needs no clock. -/
def runAsync (g : State → State) (s : State) : State := if (g s).running then (g s).wrapUp else g s

/-- A command that has reached its target. -/
def runCommand (r : OpRow) (p : Packet) (s : State) : State := runEvent (fun s => s.submit r p) s

/-- A packet at its target: BAD_OPCODE for an opcode that is not defined. -/
def State.takeCommand (s : State) (op : Nat) (p : Packet) : State :=
  match opRow op with
  | some r => s.submit r p
  | none => s.reply op p false Stat.BAD_OPCODE []

/-! Entry (R110, R114, R117; 17 R446). -/

/-- KIND of the segments that a command makes its node send to the requester (09 R275, R278; 12 R341; 15 R407). -/
def streamKind (op : Nat) : Option Nat :=
  match op with
  | 0x0705 => some KIND.RECORD
  | 0x0710 => some KIND.TREND
  | 0x0806 => some KIND.EVENT
  | 0x0B06 => some KIND.LIFE
  | _ => none

/-- The entry node keeps where the answers to a command go: the Ethernet address of its frame (03 R106). -/
def State.noteEntry (s : State) (op : Nat) (p : Packet) (mac : Nat) : State :=
  let key := srcKey p
  let s := { s with cmd.hostSrc := Map.set 0 s.cmd.hostSrc key mac, cmd.timedOut := s.cmd.timedOut.filter (· != key) }
  match streamKind op with
  | some k =>
    let x : Stream := { kind := k, source := p.source, mac := mac, target := p.target, handle := p.handle, seq := p.seq }
    let same (y : Stream) : Bool := y.kind == k && y.source == p.source && (k == KIND.EVENT || k == KIND.LIFE ||
      (y.mac == mac && y.target == p.target && y.handle == p.handle && y.seq == p.seq))
    { s with cmd.streams := s.cmd.streams.filter (fun y => !same y) ++ [x] }
  | none => s

/-- Outside maintenance the service port takes only the commands that R127 exempts by name (17 R446). -/
def State.portDenied (s : State) (port op : Nat) : Bool :=
  port == 2 && !s.on F.SYS_PANEL_MKEY && !(opRow op).any (·.free)

/-- Where a command for its target goes; an MCAST command stays at a node of the target's subtree. -/
def State.routeCmd (s : State) (p : Packet) : Route :=
  if p.mcast && s.covered p.lane p.target.toNat then .here else s.route p.target.toNat

/-- A refusal at the entry node. -/
def State.refuseEntry (s : State) (op : Nat) (p : Packet) (status : Nat) : State := s.reply op p false status (refusalPayload op)

/-- Sends a command onward from its entry node, tracked until its reply or timeout (R114 to R117): each one, also where it has
no reply (R112). -/
def State.sendOnward (s : State) (op : Nat) (p : Packet) (out : Nat) : State :=
  let b := pktBytes op p
  let unit := s.rangeUnit p.target.toNat
  if s.cmd.tracked.any (fun t => t.source == p.source && t.seq == p.seq) then s.refuseEntry op p Stat.BAD_PARAM
  else if 64 ≤ s.cmd.tracked.length then s.refuseEntry op p Stat.BUSY
  else
    let t : Tracked := { source := p.source, seq := p.seq, opcode := BitVec.ofNat 16 op, cls := p.cls.toNat, unit := unit.getD 0
                         silent := p.noReply || p.mcast }
    let track (t : Tracked) : State := { s with cmd.tracked := s.cmd.tracked ++ [t] }
    if p.cls = 0 ∧ s.activeMeadow ∧ unit.isSome then
      match (track t).originateC0 b with
      | some s => s
      | none => s.refuseEntry op p Stat.BUSY
    else
      (track { t with deadline := s.now + s.f F.CMD_TMO_TMO_BE * 100000 }).sendMessage out KIND.COMMAND (max 1 p.cls.toNat)
        p.target.toNat p.mcast b

/-- A command enters the tree here from port `port` (0: a core or the safety pair), from Ethernet address or core `mac`. -/
def State.enterCommand (s : State) (op : Nat) (p0 : Packet) (port mac : Nat) : State :=
  let p := if port = 0 then p0 else { p0 with source := BitVec.ofNat 16 (s.addr + port * 8192) }
  let s := s.noteEntry op p mac
  if s.portDenied port op then s.refuseEntry op p Stat.DENIED
  else if p.cls = 0 ∧ (if p.auth then 0 else 16) < p.params.length then s.refuseEntry op p Stat.BAD_PARAM
  else match s.routeCmd p with
    | .here => s.takeCommand op p
    | .fail => s.refuseEntry op p Stat.ROUTE_FAIL
    | .lane out => s.sendOnward op p out

end Sys2Proof.Machine
end

