-- ==== Sys2Proof/Machine/Segments.lean ====
section
/-!
DEFINITION. Segments.lean: what arrives at the lanes and ports: segments by KIND and their forwarding (03 R96 to R102; 01 R36),
Ethernet frames (03 R106), the QSPI mailbox (04 R132), the command slot of a down tick frame (04 R115).
-/
namespace Sys2Proof.Machine
open Sys2Proof

/-! Forwarding (R102). -/

/-- KIND of a segment, class in its CTL and DEST, as its bytes give them. -/
def segKind (b : List Byte) : Nat := numAt b 1 1
def segClass (b : List Byte) : Nat := numAt b 2 1 % 4
def segDest (b : List Byte) : Nat := numAt b 6 2 % 8192

/-- A segment that came in on lane `n` waits on lane `out`; `bad`: its input CRC failed and the copy ends with /V/. -/
def State.passOn (s : State) (n out : Nat) (b : List Byte) (bad : Bool) : State :=
  s.queueTx out { prio := segPrio (segKind b) (segClass b), inLane := n, ready := s.clk.nowPs / 2000, bad := bad, bytes := b }

/-- Kinds that are routed by DEST as a command is (04 R112; 09 R275, R278). -/
def routedKind (k : Nat) : Bool := k == KIND.COMMAND || k == KIND.REPLY || k == KIND.RECORD || k == KIND.TREND

/-- Where a MULTICAST message that is taken here goes on: the twin mate, and once each child unit of the subtree (R101). -/
def State.multicastLanes (s : State) (n : Fin 32) (dest : Nat) : List Nat :=
  if s.mateCopy (some n) dest then []
  else (if s.mateCovered dest then s.xLane.toList else []) ++ (s.mcastUnits dest).filterMap (fun u => (s.unitLanes u).find? s.laneUp)

/-- The lanes on which a segment that came in on lane `n` goes on (R101, R102; 01 R36; 12 R341). -/
def State.onward (s : State) (n : Fin 32) (kind dest : Nat) : List Nat :=
  let routed : List Nat := match s.route dest with
    | .lane out => [out]
    | _ => []
  if routedKind kind then routed
  else if kind = KIND.MULTICAST then (if s.covered (some n) dest then s.multicastLanes n dest else routed)
  else if kind = KIND.EVENT ∨ kind = KIND.LIFE then
    (if s.activeMeadow then [] else if !s.uplinks.contains n.val && !s.isXlink n then s.reportLane.toList else routed)
  else []

/-- The output copies of a segment whose CRC failed or that ended with /V/: made by cut-through, where the output rate is not
higher than the input rate, and ended with /V/ (R102). -/
def State.badCopy (s : State) (n : Fin 32) (b : List Byte) : State :=
  if numAt b 0 1 = 0x13 ∧ 8 ≤ b.length then
    s.each ((s.onward n (segKind b) (segDest b)).filter (fun out => decide (s.f (F.LANE_STATUS_RATE_NOW out) ≤ s.f (F.LANE_STATUS_RATE_NOW n))))
      (fun s out => s.passOn n out b true)
  else s

/-- A segment of KIND `kind` on a lane in UP: `g` takes it when it is good; one of a KIND that is not listed is counted (R97). -/
def State.segment (s : State) (n : Fin 32) (kind : Nat) (b : List Byte) (g : State → Segment → State) : State :=
  if !s.laneUp n ∨ (segKind b ≠ kind ∧ kindListed (segKind b)) then s
  else match s.takeSegment n b with
    | (s, some x) => g s x
    | (s, none) => s.badCopy n b

/-! RECORD and TREND segments at the requester's entry node. -/

/-- The stream that a RECORD segment on lane `n` belongs to: fragment 0 names node and handle in its page header (09 R266); a
later one goes on with the page that came in on its lane up to there (03 R96). -/
def Stream.takesRecord (x : Stream) (n : Nat) (g : Segment) : Bool :=
  x.kind == KIND.RECORD &&
    if g.frag = 0 then x.target.toNat == numAt g.payload 2 2 % 8192 && x.handle.toNat == numAt g.payload 4 4
    else x.lane == some n && x.next == g.frag

/-- A stream takes its TREND block by node and handle, and by the port that the block names (09 R275); every report goes to each
that subscribed (12 R341, 15 R407). -/
def Stream.takesOther (x : Stream) (g : Segment) : Bool :=
  x.kind == g.kind && (g.kind != KIND.TREND || (x.source.toNat == numAt g.payload 4 2 && x.target.toNat == numAt g.payload 2 2 % 8192 &&
    (x.handle == 0 || x.handle.toNat == numAt g.payload 8 4)))

/-- Delivers a segment at its entry node to where one stream's command came from (03 R106, 04 R112). -/
def State.deliverOne (s : State) (x : Stream) (g : Segment) (b : List Byte) : State :=
  match x.source.toNat / 8192 with
  | 0 => s.toCore x.mac g.payload
  | 3 => ({ s with cmd.qspiReply := g.payload }).setF F.CMD_QSPI_RPL_READY 1
  | 1 => s.sendHost 1 x.mac (segPrio g.kind 0) [b]
  | 2 => s.sendHost 2 x.mac (segPrio g.kind 0) [b]
  | _ => s

/-- Delivers a segment to the requesters whose command asked for it. -/
def State.deliverStreams (s : State) (n : Nat) (g : Segment) (b : List Byte) : State :=
  if g.kind = KIND.RECORD then
    match s.cmd.streams.reverse.find? (fun x => x.takesRecord n g) with
    | none => s
    | some x =>
      let s : State := { s with cmd.streams := s.cmd.streams.map (fun y => if y = x then { x with lane := some n, next := g.frag + 1 } else y) }
      s.deliverOne x g b
  else s.each (s.cmd.streams.filter (fun x => x.takesOther g)) (fun s x => s.deliverOne x g b)

/-- One good segment of a routed KIND: onward by DEST; a RECORD or TREND segment for this node goes to its port. -/
def State.forward (s : State) (n : Fin 32) (b : List Byte) (g : Segment) : State :=
  match s.route g.dest with
  | .lane out => s.passOn n out b false
  | .here => if g.kind = KIND.RECORD ∨ g.kind = KIND.TREND then s.deliverStreams n g b else s
  | .fail => s

/-- What ends on a lane, with /T/ or with /V/. A tick frame that came inside a segment has its own row; a segment that ended
with /V/ is discarded and counted, of whatever KIND (R72, LANE_SEG). -/
def State.lineItem (s : State) (n : Fin 32) (x : List Byte × Bool) : State :=
  if numAt x.1 0 1 ≠ 0x13 then s
  else if x.2 then (if s.laneUp n then (s.badSegment n).badCopy n x.1 else s)
  else if routedKind (segKind x.1) ∨ !kindListed (segKind x.1) then s.segment n (segKind x.1) x.1 (fun s g => s.forward n x.1 g)
  else s

/-- SEGMENT_FORWARD (R102): the segments that end in the code-groups received go onward by DEST. -/
def onSegmentForward (lane : Fin 32) (line : List Sym) (s : State) : State := s.each (received line) (fun s x => s.lineItem lane x)

/-! ASSIGN and its answers (01 R31 to R38). -/

def onAssign (lane : Fin 32) (segment : List Byte) (s : State) : State :=
  s.segment lane KIND.ASSIGN segment (fun s g => match s.assemble lane g with
    | (s, some m) => s.takeAssignMessage lane m
    | (s, none) => s)

def onAssignAck (lane : Fin 32) (segment : List Byte) (s : State) : State :=
  s.segment lane KIND.ASSIGN_ACK segment (fun s _ => s.takeAck lane)

def onAssignNak (lane : Fin 32) (segment : List Byte) (s : State) : State :=
  s.segment lane KIND.ASSIGN_NAK segment (fun s _ => s.takeNak lane)

/-! Commands and replies. -/

/-- A COMMAND segment: onward, or put together and run here, or refused with ROUTE_FAIL (01 R36). A message whose bytes do not
make a packet of R109 (too short for its LENGTH, or LENGTH above 262,112) is dropped with no reply and no count, here as at a
host port and a core's entry: R109 does not say what becomes of it (DESIGN CHOICE, log entry 17). -/
def State.commandSegment (s : State) (n : Fin 32) (g : Segment) (b : List Byte) : State :=
  let r := if bit g.ctl 4 && s.covered (some n) g.dest then Route.here else s.route g.dest
  match r with
  | .lane out => s.passOn n out b false
  | _ => match s.assemble n g with
    | (s, none) => s
    | (s, some m) => match parsePacket m with
      | none => s
      | some (op, p) =>
        let p := { p with lane := some n }
        if r = .fail then s.reply op p false Stat.ROUTE_FAIL (refusalPayload op) else s.takeCommand op p

/-- COMMAND (01 R36; 04 R110). -/
def onCommand (entry : CmdEntry) (s : State) : State :=
  match entry with
  | .lane n b => s.segment n KIND.COMMAND b (fun s g => s.commandSegment n g b)
  | .core c packet => match parsePacket packet with
    | some (op, p) => s.enterCommand op p 0 c
    | none => s

/-- REPLY (04 R112). -/
def onReply (lane : Fin 32) (segment : List Byte) (s : State) : State :=
  s.segment lane KIND.REPLY segment (fun s g => match s.route g.dest with
    | .lane out => s.passOn lane out segment false
    | .here => match s.assemble lane g with
      | (s, some m) => s.takeReply m
      | (s, none) => s
    | .fail => s)

/-- What a command has done when its first `k` accesses are granted: registers written or read in ascending order (a read
clears), words of memory written (R119). Its reply payload: a REG_WRITE says how many registers it has written. -/
def State.partly (s : State) (op k : Nat) (p : Packet) : State × List Byte :=
  if op = 0x0201 then
    let (s, _, n) := s.writeRegs true (numAt p.params 0 4) ((writeValues p).take k) 0
    (s, leBytes 2 n)
  else if op = 0x0200 then ((s.readRegs (numAt p.params 0 4) k).2, [])
  else if op = 0x0211 then ((opMemWrite { p with params := p.params.take (4 + 4 * k) } s).s, [])
  else (s, [])

/-- CMD_RETRY_EXPIRY (R119): a command that is refused an access ends with BUSY, and keeps what it has changed. While one holds
execution it is that one; else it is a command at its target, which has passed the checks there. -/
def onCmdRetryExpiry (op : BitVec 16) (written : Nat) (p : Packet) (s : State) : State :=
  match opRow op.toNat with
  | none => s
  | some r =>
    match s.cmd.busy with
    | some (code, q) =>
      if code = op.toNat ∧ { q with ks := [] } = p then
        let (s, payload) := s.partly code written q
        s.release code q Stat.BUSY payload
      else s
    | none =>
      match s.vet r p with
      | (s, p, st) =>
        if st = Stat.OK then
          let (s, payload) := s.partly r.code written p
          s.reply r.code p false Stat.BUSY payload
        else s.reply r.code p false st (if st = Stat.BAD_OPCODE then [] else refusalPayload r.code)

/-! MULTICAST, MIRROR, EVENT, LIFE. -/

/-- A MULTICAST segment: taken here and sent on in the subtree of DEST (R101; 17 R441), or onward towards it. -/
def State.multicastSegment (s : State) (n : Fin 32) (g : Segment) (b : List Byte) : State :=
  let outs := s.onward n KIND.MULTICAST g.dest
  let s := if s.covered (some n) g.dest then s.takeBlock g.payload else s
  s.each outs (fun s out => s.passOn n out b false)

/-- MULTICAST (17 R441). -/
def onMulticast (lane : Fin 32) (segment : List Byte) (s : State) : State :=
  s.segment lane KIND.MULTICAST segment (fun s g => s.multicastSegment lane g segment)

/-- MIRROR (14 R383). -/
def onMirror (lane : Fin 32) (segment : List Byte) (s : State) : State :=
  s.segment lane KIND.MIRROR segment (fun s g => match s.assemble lane g with
    | (s, some m) => s.loadMirror m
    | (s, none) => s)

/-- An EVENT or LIFE segment (12 R341): the active Meadow delivers it; from a child it goes upward whatever DEST holds. -/
def State.reportSegment (s : State) (n : Fin 32) (g : Segment) (b : List Byte) : State :=
  if s.activeMeadow then s.each (s.subscribers g.kind) (fun s u => s.deliverTo g.kind u g.payload)
  else if !s.uplinks.contains n.val && !s.isXlink n then
    match s.reportLane with
    | some out => s.passOn n out b false
    | none => s.eventDrop
  else if g.dest = s.addr then s.deliverStreams n g b
  else match s.route g.dest with
    | .lane out => s.passOn n out b false
    | _ => s

/-- EVENT (12 R341). -/
def onEvent (lane : Fin 32) (segment : List Byte) (s : State) : State :=
  s.segment lane KIND.EVENT segment (fun s g => s.reportSegment lane g segment)

/-- LIFE (15 R407). -/
def onLife (lane : Fin 32) (segment : List Byte) (s : State) : State :=
  s.segment lane KIND.LIFE segment (fun s g => s.reportSegment lane g segment)

/-! Ports. -/

/-- R106: the frame is accepted at the host port. -/
def State.etherOk (s : State) (f : List Byte) : Bool :=
  decide (64 ≤ f.length) && decide (f.length ≤ 2048) && numAt f (f.length - 4) 4 == crc32 (f.take (f.length - 4)) &&
    beNat (f.take 6) == s.hostMac && beNat ((f.drop 12).take 2) == 0x88B5

/-- The segment in a frame, without padding and FCS. -/
def etherSegment (f : List Byte) : List Byte := slice (f.take (f.length - 4)) 14 (12 + numAt f 18 2)

/-- A segment from a host lane: a COMMAND enters the tree here, a MULTICAST goes on its way. -/
def State.hostSegment (s : State) (n : Fin 32) (mac : Nat) (g : Segment) (b : List Byte) : State :=
  if g.kind = KIND.MULTICAST then s.multicastSegment n g b
  else match s.assemble n g with
    | (s, none) => s
    | (s, some m) => match parsePacket m with
      | none => s
      | some (op, p) => s.enterCommand op { p with lane := some n } (if n.val = s.f F.SYS_PANEL_SVC_LANE then 2 else 1) mac

/-- HOST_FRAME (R106). -/
def onHostFrame (lane : Fin 32) (frame : List Byte) (s : State) : State :=
  if s.laneSt lane ≠ 8 then s
  else
    let s := s.updLane lane (fun l => { l with rxLog := noteLoad s.now (frame.length + 2) l.rxLog })
    if !s.etherOk frame then s.bump (F.LANE_SEG_DROP lane)
    else
      let b := etherSegment frame
      match parseSeg b with
      | none => s.badSegment lane
      | some g =>
        if !kindListed g.kind then s.badSegment lane
        else if g.kind ≠ KIND.COMMAND ∧ g.kind ≠ KIND.MULTICAST then s.bump (F.LANE_SEG_DROP lane)
        else s.hostSegment lane (beNat (slice frame 6 6)) g b

/-- MBX_WR (04 R132): a packet of the length its header gives is taken at once; any other is dropped and counted. -/
def onMbxWr (bytes : List Byte) (s : State) : State :=
  if s.on F.CMD_QSPI_MBX_FULL ∨ 4096 < bytes.length ∨ bytes.length < 16 ∨ packetLength bytes ≠ bytes.length then s.bump F.CMD_QSPI_QSPI_DROP
  else match parsePacket bytes with
    | none => s.bump F.CMD_QSPI_QSPI_DROP
    | some (op, p) => { s with cmd.mbx := bytes }.enterCommand op p 3 0

/-! Tick frames. -/

/-- The class-0 command in the slot of an obeyed down tick frame (04 R115): run here, placed in the next tick's frames
towards its target, or refused with ROUTE_FAIL; the twin mate takes its own from its own frame. -/
def State.slotCommand (s : State) (n : Fin 32) (slot : List Byte) : State :=
  match parsePacket slot with
  | none => s
  | some (op, p) =>
    let p := { p with slot := true, lane := some n }
    let dest := p.target.toNat
    if dest = s.addr ∨ (p.mcast ∧ s.covered (some n) dest) then s.takeCommand op p
    else if s.on F.CMD_NODE_TWIN ∧ dest = s.addr ^^^ 1 then s
    else
      let us := s.slotUnits (pktBytes op p)
      if us = [] then s.reply op p false Stat.ROUTE_FAIL (refusalPayload op)
      else { s with cmd.slots := putSlots s.cmd.slots us (pktBytes op p) }

/-- DOWN_TICK_FRAME (R91): `age` its arrival before now, in 125 ps. -/
def onDownTickFrame (lane : Fin 32) (frame : List Byte) (age : Nat) (s : State) : State :=
  match s.downArrives lane frame age with
  | (s, []) => s
  | (s, slot) => s.slotCommand lane slot

end Sys2Proof.Machine
end

