-- ==== Sys2Proof/Machine/Commands.lean ====
section
/-!
DEFINITION. Commands.lean: the meaning of every opcode: its packet is checked, run or queued at its target (04 R118).
-/
namespace Sys2Proof.Machine
open Sys2Proof

/-- NOP (R136). -/
def execNop (p : Packet) (s : State) : Host.Outcome State Fault Refusal := .next (runCommand rowNop p s)

/-- SYS_INFO (R136). -/
def execSysInfo (p : Packet) (s : State) : Host.Outcome State Fault Refusal := .next (runCommand rowSysInfo p s)

/-- STATE_REQ (R433). -/
def execStateReq (p : Packet) (s : State) : Host.Outcome State Fault Refusal := .next (runCommand rowStateReq p s)

/-- WARM_RESET (R136). -/
def execWarmReset (p : Packet) (s : State) : Host.Outcome State Fault Refusal := .next (runCommand rowWarmReset p s)

/-- SESSION_OPEN (R128). -/
def execSessionOpen (p : Packet) (s : State) : Host.Outcome State Fault Refusal := .next (runCommand rowSessionOpen p s)

/-- SESSION_CLOSE (R129). -/
def execSessionClose (p : Packet) (s : State) : Host.Outcome State Fault Refusal := .next (runCommand rowSessionClose p s)

/-- KEY_LOAD (R136). -/
def execKeyLoad (p : Packet) (s : State) : Host.Outcome State Fault Refusal := .next (runCommand rowKeyLoad p s)

/-- HANDLE_INFO (R136). -/
def execHandleInfo (p : Packet) (s : State) : Host.Outcome State Fault Refusal := .next (runCommand rowHandleInfo p s)

/-- HANDLE_DESTROY (R126). -/
def execHandleDestroy (p : Packet) (s : State) : Host.Outcome State Fault Refusal := .next (runCommand rowHandleDestroy p s)

/-- HANDLE_LIST (R136). -/
def execHandleList (p : Packet) (s : State) : Host.Outcome State Fault Refusal := .next (runCommand rowHandleList p s)

/-- HANDLE_POOL (R136). -/
def execHandlePool (p : Packet) (s : State) : Host.Outcome State Fault Refusal := .next (runCommand rowHandlePool p s)

/-- REG_READ (R131). -/
def execRegRead (p : Packet) (s : State) : Host.Outcome State Fault Refusal := .next (runCommand rowRegRead p s)

/-- REG_WRITE (R136). -/
def execRegWrite (p : Packet) (s : State) : Host.Outcome State Fault Refusal := .next (runCommand rowRegWrite p s)

/-- REG_RMW (R131). -/
def execRegRmw (p : Packet) (s : State) : Host.Outcome State Fault Refusal := .next (runCommand rowRegRmw p s)

/-- MEM_READ (R131). -/
def execMemRead (p : Packet) (s : State) : Host.Outcome State Fault Refusal := .next (runCommand rowMemRead p s)

/-- MEM_WRITE (R131). -/
def execMemWrite (p : Packet) (s : State) : Host.Outcome State Fault Refusal := .next (runCommand rowMemWrite p s)

/-- TIME_SET (R42). -/
def execTimeSet (p : Packet) (s : State) : Host.Outcome State Fault Refusal := .next (runCommand rowTimeSet p s)

/-- TIME_READ (R70). -/
def execTimeRead (p : Packet) (s : State) : Host.Outcome State Fault Refusal := .next (runCommand rowTimeRead p s)

/-- TREE_LOAD (R29). -/
def execTreeLoad (p : Packet) (s : State) : Host.Outcome State Fault Refusal := .next (runCommand rowTreeLoad p s)

/-- TREE_SURVEY (R40). -/
def execTreeSurvey (p : Packet) (s : State) : Host.Outcome State Fault Refusal := .next (runCommand rowTreeSurvey p s)

/-- TREE_READ (R40). -/
def execTreeRead (p : Packet) (s : State) : Host.Outcome State Fault Refusal := .next (runCommand rowTreeRead p s)

/-- LANE_READ (R108). -/
def execLaneRead (p : Packet) (s : State) : Host.Outcome State Fault Refusal := .next (runCommand rowLaneRead p s)

/-- LANE_RESTART (R108). -/
def execLaneRestart (p : Packet) (s : State) : Host.Outcome State Fault Refusal := .next (runCommand rowLaneRestart p s)

/-- LANE_RATE (R108). -/
def execLaneRate (p : Packet) (s : State) : Host.Outcome State Fault Refusal := .next (runCommand rowLaneRate p s)

/-- EQ_LOAD (R82). -/
def execEqLoad (p : Packet) (s : State) : Host.Outcome State Fault Refusal := .next (runCommand rowEqLoad p s)

/-- PRBS_START (R84). -/
def execPrbsStart (p : Packet) (s : State) : Host.Outcome State Fault Refusal := .next (runCommand rowPrbsStart p s)

/-- PRBS_READ (R108). -/
def execPrbsRead (p : Packet) (s : State) : Host.Outcome State Fault Refusal := .next (runCommand rowPrbsRead p s)

/-- MOD_READ (R108). -/
def execModRead (p : Packet) (s : State) : Host.Outcome State Fault Refusal := .next (runCommand rowModRead p s)

/-- MOD_WRITE (R88). -/
def execModWrite (p : Packet) (s : State) : Host.Outcome State Fault Refusal := .next (runCommand rowModWrite p s)

/-- YAR_TALLY_READ (R170). -/
def execYarTallyRead (p : Packet) (s : State) : Host.Outcome State Fault Refusal := .next (runCommand rowYarTallyRead p s)

/-- YAR_UNIT_READ (R170). -/
def execYarUnitRead (p : Packet) (s : State) : Host.Outcome State Fault Refusal := .next (runCommand rowYarUnitRead p s)

/-- YAR_CELL_EXCLUDE (R143). -/
def execYarCellExclude (p : Packet) (s : State) : Host.Outcome State Fault Refusal := .next (runCommand rowYarCellExclude p s)

/-- YAR_CELL_READ (R170). -/
def execYarCellRead (p : Packet) (s : State) : Host.Outcome State Fault Refusal := .next (runCommand rowYarCellRead p s)

/-- YAR_DEMAND_SET (R170). -/
def execYarDemandSet (p : Packet) (s : State) : Host.Outcome State Fault Refusal := .next (runCommand rowYarDemandSet p s)

/-- SWU_CREATE (R184). -/
def execSwuCreate (p : Packet) (s : State) : Host.Outcome State Fault Refusal := .next (runCommand rowSwuCreate p s)

/-- SWU_SET (R191). -/
def execSwuSet (p : Packet) (s : State) : Host.Outcome State Fault Refusal := .next (runCommand rowSwuSet p s)

/-- SWU_COMMIT (R190). -/
def execSwuCommit (p : Packet) (s : State) : Host.Outcome State Fault Refusal := .next (runCommand rowSwuCommit p s)

/-- SWU_START (R185). -/
def execSwuStart (p : Packet) (s : State) : Host.Outcome State Fault Refusal := .next (runCommand rowSwuStart p s)

/-- SWU_STOP (R186). -/
def execSwuStop (p : Packet) (s : State) : Host.Outcome State Fault Refusal := .next (runCommand rowSwuStop p s)

/-- SWU_STATUS_READ (R204). -/
def execSwuStatusRead (p : Packet) (s : State) : Host.Outcome State Fault Refusal := .next (runCommand rowSwuStatusRead p s)

/-- SWU_CHAN_READ (R204). -/
def execSwuChanRead (p : Packet) (s : State) : Host.Outcome State Fault Refusal := .next (runCommand rowSwuChanRead p s)

/-- SWU_FAULT_CLEAR (R196). -/
def execSwuFaultClear (p : Packet) (s : State) : Host.Outcome State Fault Refusal := .next (runCommand rowSwuFaultClear p s)

/-- SWU_FORCE (R193). -/
def execSwuForce (p : Packet) (s : State) : Host.Outcome State Fault Refusal := .next (runCommand rowSwuForce p s)

/-- LOOP_CREATE (R232). -/
def execLoopCreate (p : Packet) (s : State) : Host.Outcome State Fault Refusal := .next (runCommand rowLoopCreate p s)

/-- LOOP_ENABLE (R234). -/
def execLoopEnable (p : Packet) (s : State) : Host.Outcome State Fault Refusal := .next (runCommand rowLoopEnable p s)

/-- LOOP_COEF_SET (R234). -/
def execLoopCoefSet (p : Packet) (s : State) : Host.Outcome State Fault Refusal := .next (runCommand rowLoopCoefSet p s)

/-- LOOP_PARAM_SET (R234). -/
def execLoopParamSet (p : Packet) (s : State) : Host.Outcome State Fault Refusal := .next (runCommand rowLoopParamSet p s)

/-- LOOP_SIG_READ (R234). -/
def execLoopSigRead (p : Packet) (s : State) : Host.Outcome State Fault Refusal := .next (runCommand rowLoopSigRead p s)

/-- LOOP_INFO (R234). -/
def execLoopInfo (p : Packet) (s : State) : Host.Outcome State Fault Refusal := .next (runCommand rowLoopInfo p s)

/-- LOOP_BUDGET_READ (R234). -/
def execLoopBudgetRead (p : Packet) (s : State) : Host.Outcome State Fault Refusal := .next (runCommand rowLoopBudgetRead p s)

/-- MEAS_SEQ_CREATE (R241). -/
def execMeasSeqCreate (p : Packet) (s : State) : Host.Outcome State Fault Refusal := .next (runCommand rowMeasSeqCreate p s)

/-- MEAS_SEQ_START (R254). -/
def execMeasSeqStart (p : Packet) (s : State) : Host.Outcome State Fault Refusal := .next (runCommand rowMeasSeqStart p s)

/-- MEAS_SEQ_STOP (R244). -/
def execMeasSeqStop (p : Packet) (s : State) : Host.Outcome State Fault Refusal := .next (runCommand rowMeasSeqStop p s)

/-- MEAS_RESULT_READ (R254). -/
def execMeasResultRead (p : Packet) (s : State) : Host.Outcome State Fault Refusal := .next (runCommand rowMeasResultRead p s)

/-- MEAS_INJECT (R249). -/
def execMeasInject (p : Packet) (s : State) : Host.Outcome State Fault Refusal := .next (runCommand rowMeasInject p s)

/-- MEAS_SLICE_READ (R254). -/
def execMeasSliceRead (p : Packet) (s : State) : Host.Outcome State Fault Refusal := .next (runCommand rowMeasSliceRead p s)

/-- CAPTURE_CREATE (R280). -/
def execCaptureCreate (p : Packet) (s : State) : Host.Outcome State Fault Refusal := .next (runCommand rowCaptureCreate p s)

/-- CAPTURE_ARM (R261). -/
def execCaptureArm (p : Packet) (s : State) : Host.Outcome State Fault Refusal := .next (runCommand rowCaptureArm p s)

/-- CAPTURE_TRIGGER (R262). -/
def execCaptureTrigger (p : Packet) (s : State) : Host.Outcome State Fault Refusal := .next (runCommand rowCaptureTrigger p s)

/-- CAPTURE_STOP (R263). -/
def execCaptureStop (p : Packet) (s : State) : Host.Outcome State Fault Refusal := .next (runCommand rowCaptureStop p s)

/-- CAPTURE_RELEASE (R260). -/
def execCaptureRelease (p : Packet) (s : State) : Host.Outcome State Fault Refusal := .next (runCommand rowCaptureRelease p s)

/-- CAPTURE_READ (R278). -/
def execCaptureRead (p : Packet) (s : State) : Host.Outcome State Fault Refusal := .next (runCommand rowCaptureRead p s)

/-- CAPTURE_INFO (R280). -/
def execCaptureInfo (p : Packet) (s : State) : Host.Outcome State Fault Refusal := .next (runCommand rowCaptureInfo p s)

/-- TREND_CREATE (R275). -/
def execTrendCreate (p : Packet) (s : State) : Host.Outcome State Fault Refusal := .next (runCommand rowTrendCreate p s)

/-- TREND_START (R280). -/
def execTrendStart (p : Packet) (s : State) : Host.Outcome State Fault Refusal := .next (runCommand rowTrendStart p s)

/-- TREND_STOP (R280). -/
def execTrendStop (p : Packet) (s : State) : Host.Outcome State Fault Refusal := .next (runCommand rowTrendStop p s)

/-- TREND_INFO (R280). -/
def execTrendInfo (p : Packet) (s : State) : Host.Outcome State Fault Refusal := .next (runCommand rowTrendInfo p s)

/-- SYS_TRIGGER (R272). -/
def execSysTrigger (p : Packet) (s : State) : Host.Outcome State Fault Refusal := .next (runCommand rowSysTrigger p s)

/-- REC_POOL_READ (R280). -/
def execRecPoolRead (p : Packet) (s : State) : Host.Outcome State Fault Refusal := .next (runCommand rowRecPoolRead p s)

/-- THREAD_CREATE (R285). -/
def execThreadCreate (p : Packet) (s : State) : Host.Outcome State Fault Refusal := .next (runCommand rowThreadCreate p s)

/-- THREAD_START (R286). -/
def execThreadStart (p : Packet) (s : State) : Host.Outcome State Fault Refusal := .next (runCommand rowThreadStart p s)

/-- THREAD_STOP (R306). -/
def execThreadStop (p : Packet) (s : State) : Host.Outcome State Fault Refusal := .next (runCommand rowThreadStop p s)

/-- THREAD_CANCEL (R294). -/
def execThreadCancel (p : Packet) (s : State) : Host.Outcome State Fault Refusal := .next (runCommand rowThreadCancel p s)

/-- OPERAND_POST (R292). -/
def execOperandPost (p : Packet) (s : State) : Host.Outcome State Fault Refusal := .next (runCommand rowOperandPost p s)

/-- THREAD_INFO (R306). -/
def execThreadInfo (p : Packet) (s : State) : Host.Outcome State Fault Refusal := .next (runCommand rowThreadInfo p s)

/-- FLOW_CREATE (R295). -/
def execFlowCreate (p : Packet) (s : State) : Host.Outcome State Fault Refusal := .next (runCommand rowFlowCreate p s)

/-- FLOW_INFO (R306). -/
def execFlowInfo (p : Packet) (s : State) : Host.Outcome State Fault Refusal := .next (runCommand rowFlowInfo p s)

/-- LOCK_CREATE (R299). -/
def execLockCreate (p : Packet) (s : State) : Host.Outcome State Fault Refusal := .next (runCommand rowLockCreate p s)

/-- DISP_READ (R306). -/
def execDispRead (p : Packet) (s : State) : Host.Outcome State Fault Refusal := .next (runCommand rowDispRead p s)

/-- MGRD_READ (R324). -/
def execMgrdRead (p : Packet) (s : State) : Host.Outcome State Fault Refusal := .next (runCommand rowMgrdRead p s)

/-- MGRD_REMAP_SET (R324). -/
def execMgrdRemapSet (p : Packet) (s : State) : Host.Outcome State Fault Refusal := .next (runCommand rowMgrdRemapSet p s)

/-- MGRD_INJECT (R322). -/
def execMgrdInject (p : Packet) (s : State) : Host.Outcome State Fault Refusal := .next (runCommand rowMgrdInject p s)

/-- FAULT_READ (R344). -/
def execFaultRead (p : Packet) (s : State) : Host.Outcome State Fault Refusal := .next (runCommand rowFaultRead p s)

/-- FAULT_RESOLVE (R334). -/
def execFaultResolve (p : Packet) (s : State) : Host.Outcome State Fault Refusal := .next (runCommand rowFaultResolve p s)

/-- FAULT_LATCH_CLEAR (R344). -/
def execFaultLatchClear (p : Packet) (s : State) : Host.Outcome State Fault Refusal := .next (runCommand rowFaultLatchClear p s)

/-- FAULT_SRC_SET (R344). -/
def execFaultSrcSet (p : Packet) (s : State) : Host.Outcome State Fault Refusal := .next (runCommand rowFaultSrcSet p s)

/-- FAULT_RAISE (R344). -/
def execFaultRaise (p : Packet) (s : State) : Host.Outcome State Fault Refusal := .next (runCommand rowFaultRaise p s)

/-- FAULT_HISTORY (R344). -/
def execFaultHistory (p : Packet) (s : State) : Host.Outcome State Fault Refusal := .next (runCommand rowFaultHistory p s)

/-- FAULT_SUBSCRIBE (R341). -/
def execFaultSubscribe (p : Packet) (s : State) : Host.Outcome State Fault Refusal := .next (runCommand rowFaultSubscribe p s)

/-- SAFE_STATUS_READ (R370). -/
def execSafeStatusRead (p : Packet) (s : State) : Host.Outcome State Fault Refusal := .next (runCommand rowSafeStatusRead p s)

/-- SAFE_CFG_LOAD (R348). -/
def execSafeCfgLoad (p : Packet) (s : State) : Host.Outcome State Fault Refusal := .next (runCommand rowSafeCfgLoad p s)

/-- SAFE_CFG_READ (R370). -/
def execSafeCfgRead (p : Packet) (s : State) : Host.Outcome State Fault Refusal := .next (runCommand rowSafeCfgRead p s)

/-- SAFE_DEMAND (R353). -/
def execSafeDemand (p : Packet) (s : State) : Host.Outcome State Fault Refusal := .next (runCommand rowSafeDemand p s)

/-- SAFE_RESET (R367). -/
def execSafeReset (p : Packet) (s : State) : Host.Outcome State Fault Refusal := .next (runCommand rowSafeReset p s)

/-- SAFE_BYPASS (R364). -/
def execSafeBypass (p : Packet) (s : State) : Host.Outcome State Fault Refusal := .next (runCommand rowSafeBypass p s)

/-- SAFE_OUT_READ (R370). -/
def execSafeOutRead (p : Packet) (s : State) : Host.Outcome State Fault Refusal := .next (runCommand rowSafeOutRead p s)

/-- TWIN_READ (R391). -/
def execTwinRead (p : Packet) (s : State) : Host.Outcome State Fault Refusal := .next (runCommand rowTwinRead p s)

/-- DUPLEX_SWAP (R386). -/
def execDuplexSwap (p : Packet) (s : State) : Host.Outcome State Fault Refusal := .next (runCommand rowDuplexSwap p s)

/-- TWIN_RESYNC (R391). -/
def execTwinResync (p : Packet) (s : State) : Host.Outcome State Fault Refusal := .next (runCommand rowTwinResync p s)

/-- LIFE_READ (R410). -/
def execLifeRead (p : Packet) (s : State) : Host.Outcome State Fault Refusal := .next (runCommand rowLifeRead p s)

/-- LIFE_PLAN_SET (R393). -/
def execLifePlanSet (p : Packet) (s : State) : Host.Outcome State Fault Refusal := .next (runCommand rowLifePlanSet p s)

/-- LIFE_BASELINE (R410). -/
def execLifeBaseline (p : Packet) (s : State) : Host.Outcome State Fault Refusal := .next (runCommand rowLifeBaseline p s)

/-- LIFE_RF_READ (R410). -/
def execLifeRfRead (p : Packet) (s : State) : Host.Outcome State Fault Refusal := .next (runCommand rowLifeRfRead p s)

/-- LIFE_STATE_READ (R408). -/
def execLifeStateRead (p : Packet) (s : State) : Host.Outcome State Fault Refusal := .next (runCommand rowLifeStateRead p s)

/-- LIFE_RESTORE (R408). -/
def execLifeRestore (p : Packet) (s : State) : Host.Outcome State Fault Refusal := .next (runCommand rowLifeRestore p s)

/-- LIFE_SUBSCRIBE (R410). -/
def execLifeSubscribe (p : Packet) (s : State) : Host.Outcome State Fault Refusal := .next (runCommand rowLifeSubscribe p s)

/-- CAN_MODE (R413). -/
def execCanMode (p : Packet) (s : State) : Host.Outcome State Fault Refusal := .next (runCommand rowCanMode p s)

/-- CAN_MB_CREATE (R428). -/
def execCanMbCreate (p : Packet) (s : State) : Host.Outcome State Fault Refusal := .next (runCommand rowCanMbCreate p s)

/-- CAN_MB_SEND (R417). -/
def execCanMbSend (p : Packet) (s : State) : Host.Outcome State Fault Refusal := .next (runCommand rowCanMbSend p s)

/-- CAN_MB_CANCEL (R423). -/
def execCanMbCancel (p : Packet) (s : State) : Host.Outcome State Fault Refusal := .next (runCommand rowCanMbCancel p s)

/-- CAN_MB_READ (R416). -/
def execCanMbRead (p : Packet) (s : State) : Host.Outcome State Fault Refusal := .next (runCommand rowCanMbRead p s)

/-- CAN_STATUS_READ (R428). -/
def execCanStatusRead (p : Packet) (s : State) : Host.Outcome State Fault Refusal := .next (runCommand rowCanStatusRead p s)

/-- CAN_RECOVER (R421). -/
def execCanRecover (p : Packet) (s : State) : Host.Outcome State Fault Refusal := .next (runCommand rowCanRecover p s)

/-- SYS_IDENT (R450). -/
def execSysIdent (p : Packet) (s : State) : Host.Outcome State Fault Refusal := .next (runCommand rowSysIdent p s)

/-- FW_STATUS_READ (R450). -/
def execFwStatusRead (p : Packet) (s : State) : Host.Outcome State Fault Refusal := .next (runCommand rowFwStatusRead p s)

/-- FW_FLASH_ERASE (R451). -/
def execFwFlashErase (p : Packet) (s : State) : Host.Outcome State Fault Refusal := .next (runCommand rowFwFlashErase p s)

/-- FW_FLASH_WRITE (R451). -/
def execFwFlashWrite (p : Packet) (s : State) : Host.Outcome State Fault Refusal := .next (runCommand rowFwFlashWrite p s)

/-- FW_FLASH_READ (R450). -/
def execFwFlashRead (p : Packet) (s : State) : Host.Outcome State Fault Refusal := .next (runCommand rowFwFlashRead p s)

/-- FW_FLASH_CHECK (R450). -/
def execFwFlashCheck (p : Packet) (s : State) : Host.Outcome State Fault Refusal := .next (runCommand rowFwFlashCheck p s)

end Sys2Proof.Machine
end

