-- ==== Sys2Proof/Machine/Events.lean ====
section
/-!
DEFINITION. Events.lean: the meaning of every event that is no opcode: arrivals, deadlines, pins, ends of work under way.
-/
namespace Sys2Proof.Machine
open Sys2Proof

/-- POWER_ON_RESET (R429). -/
def execPowerOnReset (s : State) : Host.Outcome State Fault Refusal := .next (runAsync onPowerOnReset s)

/-- POWER_ON_RESET_RELEASE (R2). -/
def execPowerOnResetRelease (role : BitVec 2) (senior bootsrc : Bool) (s : State) : Host.Outcome State Fault Refusal := .next (runAsync (onPowerOnResetRelease role senior bootsrc) s)

/-- SELFTEST_COMPLETE (R431). -/
def execSelftestComplete (slices : List (Int × Int × List Int)) (checkerOk : BitVec 7) (s : State) : Host.Outcome State Fault Refusal :=
  .next (runEvent (onSelftestComplete slices checkerOk) s)

/-- SUPPLY_WINDOW_EXIT (R430). -/
def execSupplyWindowExit (supply : Fin 5) (s : State) : Host.Outcome State Fault Refusal := .next (runEvent (onSupplyWindowExit supply) s)

/-- IMAGE_VERIFICATION (R438). -/
def execImageVerification (s : State) : Host.Outcome State Fault Refusal := .next (runEvent onImageVerification s)

/-- TICK_BOUNDARY (R41). -/
def execTickBoundary (s : State) : Host.Outcome State Fault Refusal := .next (runEvent onTickBoundary s)

/-- SAMPLE (R58). -/
def execSample (s : State) : Host.Outcome State Fault Refusal := .next (runEvent onSample s)

/-- UP (R58). -/
def execUp (s : State) : Host.Outcome State Fault Refusal := .next (runEvent onUp s)

/-- TALLY (R61). -/
def execTally (reads : List (Fin 24576)) (s : State) : Host.Outcome State Fault Refusal := .next (runEvent (onTally reads) s)

/-- LOOP_END (R65). -/
def execLoopEnd (s : State) : Host.Outcome State Fault Refusal := .next (runEvent onLoopEnd s)

/-- DOWN (R162). -/
def execDown (s : State) : Host.Outcome State Fault Refusal := .next (runEvent onDown s)

/-- APPLY (R63). -/
def execApply (s : State) : Host.Outcome State Fault Refusal := .next (runEvent onApply s)

/-- HOLD_LIMIT_REACHED (R64). -/
def execHoldLimitReached (s : State) : Host.Outcome State Fault Refusal := .next (runEvent onHoldLimitReached s)

/-- DOWN_TICK_FRAME (R91). -/
def execDownTickFrame (lane : Fin 32) (frame : List Byte) (age : Nat) (s : State) : Host.Outcome State Fault Refusal := .next (runEvent (onDownTickFrame lane frame age) s)

/-- UP_TICK_FRAME (R93). -/
def execUpTickFrame (lane : Fin 32) (frame : List Byte) (age : Nat) (s : State) : Host.Outcome State Fault Refusal := .next (runEvent (onUpTickFrame lane frame age) s)

/-- MERGE_COMPLETE (R58). -/
def execMergeComplete (s : State) : Host.Outcome State Fault Refusal := .next (runEvent onMergeComplete s)

/-- ALLOCATION_COMPLETE (R59). -/
def execAllocationComplete (s : State) : Host.Outcome State Fault Refusal := .next (runEvent onAllocationComplete s)

/-- DECISION_APPLY (R160). -/
def execDecisionApply (s : State) : Host.Outcome State Fault Refusal := .next (runEvent onDecisionApplied s)

/-- TRIM_END (R156). -/
def execTrimEnd (s : State) : Host.Outcome State Fault Refusal := .next (runEvent onTrimEnded s)

/-- HOLDOVER (R47). -/
def execHoldover (s : State) : Host.Outcome State Fault Refusal := .next (runEvent onHoldover s)

/-- SYNC_TIMEOUT (R48). -/
def execSyncTimeout (s : State) : Host.Outcome State Fault Refusal := .next (runEvent onSyncTimeout s)

/-- TICK_ALIGN (R49). -/
def execTickAlign (s : State) : Host.Outcome State Fault Refusal := .next (runEvent onTickAlign s)

/-- PPS_IN (R53). -/
def execPpsIn (width : Nat) (s : State) : Host.Outcome State Fault Refusal := .next (runEvent (onPpsIn width) s)

/-- PPS_LOSS (R54). -/
def execPpsLoss (s : State) : Host.Outcome State Fault Refusal := .next (runEvent onPpsLoss s)

/-- PPS_OUT (R55). -/
def execPpsOut (s : State) : Host.Outcome State Fault Refusal := .next (runEvent onPpsOut s)

/-- PPS_WIDTH (R55). -/
def execPpsWidth (s : State) : Host.Outcome State Fault Refusal := .next (runEvent onPpsWidth s)

/-- TIME_SET_LOAD (R42). -/
def execTimeSetLoad (s : State) : Host.Outcome State Fault Refusal := .next (runEvent onTimeSetLoad s)

/-- POWER_UP_SLOT (R75). -/
def execPowerUpSlot (answer : Option (List Byte)) (s : State) : Host.Outcome State Fault Refusal := .next (runEvent (onPowerUpSlot answer) s)

/-- SIGNAL_DETECT (R74). -/
def execSignalDetect (lane : Fin 32) (s : State) : Host.Outcome State Fault Refusal := .next (runEvent (onSignalDetect lane) s)

/-- PWR_TIMEOUT (R74). -/
def execPwrTimeout (lane : Fin 32) (s : State) : Host.Outcome State Fault Refusal := .next (runEvent (onPwrTimeout lane) s)

/-- COMMA_ALIGNMENT (R74). -/
def execCommaAlignment (lane : Fin 32) (s : State) : Host.Outcome State Fault Refusal := .next (runEvent (onCommaAlignment lane) s)

/-- RATE_SCAN (R76). -/
def execRateScan (lane : Fin 32) (s : State) : Host.Outcome State Fault Refusal := .next (runEvent (onRateScan lane) s)

/-- HELLO_TIMER (R74). -/
def execHelloTimer (lane : Fin 32) (s : State) : Host.Outcome State Fault Refusal := .next (runEvent (onHelloTimer lane) s)

/-- HELLO (R77). -/
def execHello (lane : Fin 32) (segment : List Byte) (s : State) : Host.Outcome State Fault Refusal := .next (runEvent (onHello lane segment) s)

/-- SIGNAL_LOSS (R79). -/
def execSignalLoss (lane : Fin 32) (s : State) : Host.Outcome State Fault Refusal := .next (runEvent (onSignalLoss lane) s)

/-- CODE_VIOLATIONS (R79). -/
def execCodeViolations (lane : Fin 32) (s : State) : Host.Outcome State Fault Refusal := .next (runEvent (onCodeViolations lane) s)

/-- MISSING_TICK_FRAMES (R79). -/
def execMissingTickFrames (lane : Fin 32) (s : State) : Host.Outcome State Fault Refusal := .next (runEvent (onMissingTickFrames lane) s)

/-- DOWN_WAIT_END (R74). -/
def execDownWaitEnd (lane : Fin 32) (s : State) : Host.Outcome State Fault Refusal := .next (runEvent (onDownWaitEnd lane) s)

/-- PRBS_END (R84). -/
def execPrbsEnd (lane : Fin 32) (bits : List Bool) (s : State) : Host.Outcome State Fault Refusal := .next (runEvent (onPrbsEnd lane bits) s)

/-- AUTONEG_COMPLETE (R105). -/
def execAutonegComplete (lane : Fin 32) (fullDuplex : Bool) (s : State) : Host.Outcome State Fault Refusal := .next (runEvent (onAutonegComplete lane fullDuplex) s)

/-- HOST_SYNC_LOSS (R105). -/
def execHostSyncLoss (lane : Fin 32) (s : State) : Host.Outcome State Fault Refusal := .next (runEvent (onHostSyncLoss lane) s)

/-- HOST_FRAME (R106). -/
def execHostFrame (lane : Fin 32) (frame : List Byte) (s : State) : Host.Outcome State Fault Refusal := .next (runEvent (onHostFrame lane frame) s)

/-- MODULE_POLL (R87). -/
def execModulePoll (lane : Fin 32) (answer : Option (List Byte)) (s : State) : Host.Outcome State Fault Refusal := .next (runEvent (onModulePoll lane answer) s)

/-- SCL_TIMEOUT (R88). -/
def execSclTimeout (bus : Fin 2) (s : State) : Host.Outcome State Fault Refusal := .next (runEvent (onSclTimeout bus) s)

/-- SEGMENT_TX_START (R99). -/
def execSegmentTxStart (lane : Fin 32) (s : State) : Host.Outcome State Fault Refusal := .next (runEvent (onSegmentTxStart lane) s)

/-- SEGMENT_FORWARD (R102). -/
def execSegmentForward (lane : Fin 32) (line : List Sym) (s : State) : Host.Outcome State Fault Refusal := .next (runEvent (onSegmentForward lane line) s)

/-- ASSIGN (R32). -/
def execAssign (lane : Fin 32) (segment : List Byte) (s : State) : Host.Outcome State Fault Refusal := .next (runEvent (onAssign lane segment) s)

/-- ASSIGN_REPEAT (R31). -/
def execAssignRepeat (lane : Fin 32) (s : State) : Host.Outcome State Fault Refusal := .next (runEvent (onAssignRepeat lane) s)

/-- ASSIGN_ACK (R31). -/
def execAssignAck (lane : Fin 32) (segment : List Byte) (s : State) : Host.Outcome State Fault Refusal := .next (runEvent (onAssignAck lane segment) s)

/-- ASSIGN_NAK (R38). -/
def execAssignNak (lane : Fin 32) (segment : List Byte) (s : State) : Host.Outcome State Fault Refusal := .next (runEvent (onAssignNak lane segment) s)

/-- TOPO_UNIT_ABSENT (R37). -/
def execTopoUnitAbsent (lane : Fin 32) (s : State) : Host.Outcome State Fault Refusal := .next (runEvent (onTopoUnitAbsent lane) s)

/-- MULTICAST (R441). -/
def execMulticast (lane : Fin 32) (segment : List Byte) (s : State) : Host.Outcome State Fault Refusal := .next (runEvent (onMulticast lane segment) s)

/-- MIRROR (R383). -/
def execMirror (lane : Fin 32) (segment : List Byte) (s : State) : Host.Outcome State Fault Refusal := .next (runEvent (onMirror lane segment) s)

/-- EVENT (R341). -/
def execEvent (lane : Fin 32) (segment : List Byte) (s : State) : Host.Outcome State Fault Refusal := .next (runEvent (onEvent lane segment) s)

/-- LIFE (R407). -/
def execLife (lane : Fin 32) (segment : List Byte) (s : State) : Host.Outcome State Fault Refusal := .next (runEvent (onLife lane segment) s)

/-- COMMAND (R36). -/
def execCommand (entry : CmdEntry) (s : State) : Host.Outcome State Fault Refusal := .next (runEvent (onCommand entry) s)

/-- REPLY (R112). -/
def execReply (lane : Fin 32) (segment : List Byte) (s : State) : Host.Outcome State Fault Refusal := .next (runEvent (onReply lane segment) s)

/-- COMMAND_TIMEOUT (R117). -/
def execCommandTimeout (source seq : BitVec 16) (s : State) : Host.Outcome State Fault Refusal := .next (runEvent (onCommandTimeout source seq) s)

/-- CMD_RETRY_EXPIRY (R119). -/
def execCmdRetryExpiry (op : BitVec 16) (written : Nat) (p : Packet) (s : State) : Host.Outcome State Fault Refusal := .next (runEvent (onCmdRetryExpiry op written p) s)

/-- SESSION_IDLE (R129). -/
def execSessionIdle (index : Fin 8) (s : State) : Host.Outcome State Fault Refusal := .next (runEvent (onSessionIdle index) s)

/-- HANDLE_DESTROY_DONE (R126). -/
def execHandleDestroyDone (handle : Word) (s : State) : Host.Outcome State Fault Refusal := .next (runEvent (onHandleDestroyDone handle) s)

/-- REG_RD (R132). -/
def execRegRd (address : Word) (count : Nat) (s : State) : Host.Outcome State Fault Refusal := .next (runEvent (onRegRd address count) s)

/-- REG_WR (R132). -/
def execRegWr (address : Word) (values : List Word) (s : State) : Host.Outcome State Fault Refusal := .next (runEvent (onRegWr address values) s)

/-- MBX_WR (R132). -/
def execMbxWr (bytes : List Byte) (s : State) : Host.Outcome State Fault Refusal := .next (runEvent (onMbxWr bytes) s)

/-- MBX_RD (R132). -/
def execMbxRd (count : Nat) (s : State) : Host.Outcome State Fault Refusal := .next (runEvent (onMbxRd count) s)

/-- STATUS (R132). -/
def execStatus (s : State) : Host.Outcome State Fault Refusal := .next (runEvent onStatus s)

/-- UNLISTED_INSTRUCTION (R133). -/
def execUnlistedInstruction (code : Byte) (s : State) : Host.Outcome State Fault Refusal := .next (runEvent (onUnlistedInstruction code) s)

/-- CMD_ALLOC_REQ (R122). -/
def execCmdAllocReq (requests : List (Fin 6 × BitVec 6)) (s : State) : Host.Outcome State Fault Refusal := .next (runEvent (onCmdAllocReq requests) s)

/-- FAULTIN (R192). -/
def execFaultin (input : Fin 8) (level : Bool) (s : State) : Host.Outcome State Fault Refusal := .next (runAsync (onFaultin input level) s)

/-- CLOCK_LOSS (R200). -/
def execClockLoss (s : State) : Host.Outcome State Fault Refusal := .next (runAsync onClockLoss s)

/-- CLOCK_RETURN (R200). -/
def execClockReturn (s : State) : Host.Outcome State Fault Refusal := .next (runAsync onClockReturn s)

/-- READBACK_MISMATCH (R198). -/
def execReadbackMismatch (output : Fin 8) (level : Bool) (s : State) : Host.Outcome State Fault Refusal := .next (runEvent (onReadbackMismatch output level) s)

/-- PERIOD_START (R183). -/
def execPeriodStart (pair : Fin 4) (s : State) : Host.Outcome State Fault Refusal := .next (runEvent (onPeriodStart pair) s)

/-- SHADOW_WRITE (R189). -/
def execShadowWrite (pair : Fin 4) (period duty : Option (BitVec 24)) (s : State) : Host.Outcome State Fault Refusal := .next (runEvent (onShadowWrite pair period duty) s)

/-- SWU_SAFE (R172). -/
def execSwuSafe (value : Word) (s : State) : Host.Outcome State Fault Refusal := .next (runEvent (onSwuSafe value) s)

/-- LOOP_COMMIT (R222). -/
def execLoopCommit (s : State) : Host.Outcome State Fault Refusal := .next (runEvent onLoopCommitAll s)

/-- LOOP_ABANDON (R223). -/
def execLoopAbandon (s : State) : Host.Outcome State Fault Refusal := .next (runEvent onLoopAbandon s)

/-- SEQUENCE_RUN_START (R242). -/
def execSequenceRunStart (sequence : Fin 4) (s : State) : Host.Outcome State Fault Refusal := .next (runEvent (onSequenceRunStart sequence) s)

/-- CONVERSION_COMPLETE (R235). -/
def execConversionComplete (slice : Fin 5) (a b : Int) (near : List (Fin 24 × Nat)) (err shadowErr : Int) (s : State) :
    Host.Outcome State Fault Refusal := .next (runEvent (onConversionComplete slice a b near err shadowErr) s)

/-- CALIBRATION_CYCLE (R250). -/
def execCalibrationCycle (s : State) : Host.Outcome State Fault Refusal := .next (runEvent onCalibrationCycle s)

/-- CALIBRATION_DONE (R250). -/
def execCalibrationDone (gain offset : Int) (s : State) : Host.Outcome State Fault Refusal := .next (runEvent (onCalibrationDone gain offset) s)

/-- MEAS_INJ_REQ (R249). -/
def execMeasInjReq (core : Fin 4) (input : BitVec 5) (diff : Bool) (s : State) : Host.Outcome State Fault Refusal := .next (runEvent (onMeasInjReq core input.toNat diff) s)

/-- PAGE_HEADER_REWRITE (R265). -/
def execPageHeaderRewrite (capture : Fin 16) (s : State) : Host.Outcome State Fault Refusal := .next (runEvent (onPageHeaderRewrite capture) s)

/-- SEQUENCER_TRANSITION (R267). -/
def execSequencerTransition (s : State) : Host.Outcome State Fault Refusal := .next (runEvent onSequencerTransition s)

/-- SEQUENCER_TIMER (R269). -/
def execSequencerTimer (timer : Fin 2) (s : State) : Host.Outcome State Fault Refusal := .next (runEvent (onSequencerTimer timer) s)

/-- SEQ_EN (R267). -/
def execSeqEn (en : Bool) (s : State) : Host.Outcome State Fault Refusal := .next (runEvent (onSeqEn en) s)

/-- TRIGIN_EDGE (R271). -/
def execTriginEdge (input : Fin 4) (rising : Bool) (sub : Fin 8) (s : State) : Host.Outcome State Fault Refusal := .next (runEvent (onTriginEdge input rising sub) s)

/-- OUT_WIDTH (R271). -/
def execOutWidth (output : Fin 2) (s : State) : Host.Outcome State Fault Refusal := .next (runEvent (onOutWidth output) s)

/-- TRIG_REQ_TIMEOUT (R272). -/
def execTrigReqTimeout (s : State) : Host.Outcome State Fault Refusal := .next (runEvent onTrigReqTimeout s)

/-- BLOCK_CLOSE (R275). -/
def execBlockClose (stream : Fin 8) (s : State) : Host.Outcome State Fault Refusal := .next (runEvent (onBlockClose stream) s)

/-- RECORD_SEGMENT_PLACE (R278). -/
def execRecordSegmentPlace (capture : Fin 16) (s : State) : Host.Outcome State Fault Refusal := .next (runEvent (onRecordSegmentPlace capture) s)

/-- OPERAND_MATCH (R293). -/
def execOperandMatch (s : State) : Host.Outcome State Fault Refusal := .next (runEvent onOperandMatch s)

/-- DISPATCH (R296). -/
def execDispatch (s : State) : Host.Outcome State Fault Refusal := .next (runEvent onDispatch s)

/-- THREAD_TRAP (R287). -/
def execThreadTrap (core : Fin 4) (mcause mepc : Word) (access : Option Word) (s : State) : Host.Outcome State Fault Refusal :=
  .next (runEvent (onThreadTrap core mcause mepc access) s)

/-- RUN_LIMIT (R297). -/
def execRunLimit (core : Fin 4) (s : State) : Host.Outcome State Fault Refusal := .next (runEvent (onRunLimit core) s)

/-- LOCKSTEP_MISMATCH (R284). -/
def execLockstepMismatch (s : State) : Host.Outcome State Fault Refusal := .next (runEvent onLockstepMismatch s)

/-- DEBUG_HALT (R303). -/
def execDebugHalt (core : Fin 4) (s : State) : Host.Outcome State Fault Refusal := .next (runEvent (onDebugHalt core) s)

/-- DEBUG_RESUME (R303). -/
def execDebugResume (hart : Fin 5) (s : State) : Host.Outcome State Fault Refusal := .next (runEvent (onDebugResumeHart hart) s)

/-- SAFETY_PAIR_HALT (R304). -/
def execSafetyPairHalt (s : State) : Host.Outcome State Fault Refusal := .next (runEvent onSafetyPairHalt s)

/-- SELF_WAIT (R288). -/
def execSelfWait (core : Fin 4) (s : State) : Host.Outcome State Fault Refusal := .next (runEvent (onSelfWait core) s)

/-- SELF_POST (R288). -/
def execSelfPost (core port : Fin 4) (target value : Word) (s : State) : Host.Outcome State Fault Refusal := .next (runEvent (onSelfPost core port target value) s)

/-- SELF_ACQ (R299). -/
def execSelfAcq (core : Fin 4) (lock : Word) (s : State) : Host.Outcome State Fault Refusal := .next (runEvent (onSelfAcq core lock) s)

/-- SELF_REL (R300). -/
def execSelfRel (core : Fin 4) (lock : Word) (s : State) : Host.Outcome State Fault Refusal := .next (runEvent (onSelfRel core lock) s)

/-- SELF_YIELD (R288). -/
def execSelfYield (core : Fin 4) (s : State) : Host.Outcome State Fault Refusal := .next (runEvent (onSelfYield core) s)

/-- IMAGE_REFETCH_DONE (R313). -/
def execImageRefetchDone (s : State) : Host.Outcome State Fault Refusal := .next (runEvent onImageRefetchDone s)

/-- SCRUB_READ (R319). -/
def execScrubRead (s : State) : Host.Outcome State Fault Refusal := .next (runEvent onScrubRead s)

/-- MGRD_SCRUB_SLOW (R319). -/
def execMgrdScrubSlow (s : State) : Host.Outcome State Fault Refusal := .next (runEvent onMgrdScrubSlow s)

/-- ESCALATION (R332). -/
def execEscalation (s : State) : Host.Outcome State Fault Refusal := .next (runEvent onEscalation s)

/-- OUT_MIN (R336). -/
def execOutMin (s : State) : Host.Outcome State Fault Refusal := .next (runEvent onOutMin s)

/-- FHUB_OUT_MISMATCH (R337). -/
def execFhubOutMismatch (level : Bool) (s : State) : Host.Outcome State Fault Refusal := .next (runEvent (onFhubOutMismatch level) s)

/-- FHUB_RESOLVE (R334). -/
def execFhubResolve (id : BitVec 16) (s : State) : Host.Outcome State Fault Refusal := .next (runEvent (onFhubResolve id) s)

/-- SAFETY_INPUT (R350). -/
def execSafetyInput (input : Fin 4) (chanB level : Bool) (s : State) : Host.Outcome State Fault Refusal := .next (runEvent (onSafetyInput input chanB level) s)

/-- SAFE_IN_DISCREPANCY (R351). -/
def execSafeInDiscrepancy (input : Fin 4) (s : State) : Host.Outcome State Fault Refusal := .next (runEvent (onSafeInDiscrepancy input) s)

/-- TEST_PULSE (R352). -/
def execTestPulse (driver : Fin 4) (reads : List (BitVec 8)) (s : State) : Host.Outcome State Fault Refusal := .next (runEvent (onTestPulse driver reads) s)

/-- CHANNEL_B_CYCLE (R345). -/
def execChannelBCycle (ran : Bool) (demand : Fin 4) (differs fault : Bool) (s : State) : Host.Outcome State Fault Refusal :=
  .next (runEvent (onChannelBCycle ran demand differs fault) s)

/-- SS_MAX (R359). -/
def execSsMax (string : Fin 16) (s : State) : Host.Outcome State Fault Refusal := .next (runEvent (onSsMax string) s)

/-- GDS_DELAY (R355). -/
def execGdsDelay (s : State) : Host.Outcome State Fault Refusal := .next (runEvent onGdsDelay s)

/-- SOFB_CHECK (R361). -/
def execSofbCheck (output : Fin 4) (chanB level : Bool) (s : State) : Host.Outcome State Fault Refusal := .next (runEvent (onSofbCheck output chanB level) s)

/-- OUTPUT_TEST_PULSE (R362). -/
def execOutputTestPulse (output : Fin 4) (chanB sawOff : Bool) (s : State) : Host.Outcome State Fault Refusal := .next (runEvent (onOutputTestPulse output chanB sawOff) s)

/-- DEG_LIMIT (R363). -/
def execDegLimit (output : Fin 4) (s : State) : Host.Outcome State Fault Refusal := .next (runEvent (onDegLimit output) s)

/-- BYP_DELAY (R364). -/
def execBypDelay (s : State) : Host.Outcome State Fault Refusal := .next (runEvent onBypDelay s)

/-- FIRE_MS (R364). -/
def execFireMs (output : Fin 4) (s : State) : Host.Outcome State Fault Refusal := .next (runEvent (onFireMs output) s)

/-- SEAL_OK (R349). -/
def execSealOk (closed : Bool) (s : State) : Host.Outcome State Fault Refusal := .next (runEvent (onSealOk closed) s)

/-- SW (R349). -/
def execSw (value : BitVec 16) (s : State) : Host.Outcome State Fault Refusal := .next (runEvent (onSw value) s)

/-- ACK_N (R365). -/
def execAckN (low : Bool) (s : State) : Host.Outcome State Fault Refusal := .next (runEvent (onAckN low) s)

/-- ACK_HOLD_LIMIT (R365). -/
def execAckHoldLimit (s : State) : Host.Outcome State Fault Refusal := .next (runEvent onAckHoldLimit s)

/-- ACK_WINDOW_END (R365). -/
def execAckWindowEnd (s : State) : Host.Outcome State Fault Refusal := .next (runEvent onAckWindowEnd s)

/-- ACK_READ_TIMEOUT (R366). -/
def execAckReadTimeout (s : State) : Host.Outcome State Fault Refusal := .next (runEvent onAckReadTimeout s)

/-- START_WAIT (R372). -/
def execStartWait (s : State) : Host.Outcome State Fault Refusal := .next (runEvent onStartWait s)

/-- TWIN_HB_LOSS (R374). -/
def execTwinHbLoss (s : State) : Host.Outcome State Fault Refusal := .next (runEvent onTwinHbLoss s)

/-- SWAP_TIMEOUT (R386). -/
def execSwapTimeout (s : State) : Host.Outcome State Fault Refusal := .next (runEvent onSwapTimeout s)

/-- SWAP_DAYS (R387). -/
def execSwapDays (s : State) : Host.Outcome State Fault Refusal := .next (runEvent onSwapDays s)

/-- EJECT_N (R389). -/
def execEjectN (low : Bool) (s : State) : Host.Outcome State Fault Refusal := .next (runEvent (onEjectN low) s)

/-- TWIN_NO_STANDBY (R390). -/
def execTwinNoStandby (s : State) : Host.Outcome State Fault Refusal := .next (runEvent onTwinNoStandby s)

/-- TWIN_MIRROR_LAG (R383). -/
def execTwinMirrorLag (s : State) : Host.Outcome State Fault Refusal := .next (runEvent onTwinMirrorLag s)

/-- CAP_WINDOW_END (R398). -/
def execCapWindowEnd (cell : Fin 2) (s : State) : Host.Outcome State Fault Refusal := .next (runEvent (onCapWindowEnd cell) s)

/-- ESR_MEAN (R399). -/
def execEsrMean (cell : Fin 2) (s : State) : Host.Outcome State Fault Refusal := .next (runEvent (onEsrMean cell) s)

/-- SEMI_MEAN (R400). -/
def execSemiMean (switch : Fin 4) (s : State) : Host.Outcome State Fault Refusal := .next (runEvent (onSemiMean switch) s)

/-- SLACK_MEASURE (R403). -/
def execSlackMeasure (slack : Int) (s : State) : Host.Outcome State Fault Refusal := .next (runEvent (onSlackMeasure slack) s)

/-- AVS_ADJUST (R404). -/
def execAvsAdjust (s : State) : Host.Outcome State Fault Refusal := .next (runEvent onAvsAdjust s)

/-- AVS_EN (R405). -/
def execAvsEn (en : Bool) (s : State) : Host.Outcome State Fault Refusal := .next (runEvent (onAvsEn en) s)

/-- PMBUS_TRANSACTION (R405). -/
def execPmbusTransaction (answer : Option (BitVec 16)) (s : State) : Host.Outcome State Fault Refusal := .next (runEvent (onPmbusTransaction answer) s)

/-- VOUT_READBACK (R405). -/
def execVoutReadback (answer : Option (BitVec 16)) (s : State) : Host.Outcome State Fault Refusal := .next (runEvent (onVoutReadback answer) s)

/-- PMBUS_RETRY (R405). -/
def execPmbusRetry (answer : Option (BitVec 16)) (s : State) : Host.Outcome State Fault Refusal := .next (runEvent (onPmbusRetry answer) s)

/-- LANE_MARGIN (R406). -/
def execLaneMargin (s : State) : Host.Outcome State Fault Refusal := .next (runEvent onLaneMargin s)

/-- LIFE_REPORT (R407). -/
def execLifeReport (s : State) : Host.Outcome State Fault Refusal := .next (runEvent onLifeReport s)

/-- CAN_FRAME_RECEIVED (R416). -/
def execCanFrameReceived (controller : Fin 2) (levels : List (BitVec 3)) (age : Nat) (s : State) : Host.Outcome State Fault Refusal := .next (runEvent (onCanFrameReceived controller levels age) s)

/-- CAN_SOF_COMMIT (R418). -/
def execCanSofCommit (controller : Fin 2) (s : State) : Host.Outcome State Fault Refusal := .next (runEvent (onCanSofCommit controller) s)

/-- CAN_FRAME_SENT (R417). -/
def execCanFrameSent (controller : Fin 2) (delay : Nat) (s : State) : Host.Outcome State Fault Refusal := .next (runEvent (onCanFrameSent controller delay) s)

/-- CAN_BUS_ERROR (R421). -/
def execCanBusError (controller : Fin 2) (kind : Fin 7) (data exempt severe : Bool) (s : State) : Host.Outcome State Fault Refusal := .next (runEvent (onCanBusError controller kind data exempt severe) s)

/-- BOFF_DELAY (R421). -/
def execBoffDelay (controller : Fin 2) (s : State) : Host.Outcome State Fault Refusal := .next (runEvent (onBoffDelay controller) s)

/-- BUS_OFF_RECOVERY (R421). -/
def execBusOffRecovery (controller : Fin 2) (s : State) : Host.Outcome State Fault Refusal := .next (runEvent (onBusOffRecovery controller) s)

/-- FBUS_BUS_STUCK (R422). -/
def execFbusBusStuck (controller : Fin 2) (s : State) : Host.Outcome State Fault Refusal := .next (runEvent (onFbusBusStuck controller) s)

/-- SLOT_OPEN (R425). -/
def execSlotOpen (controller : Fin 2) (slot : Fin 32) (s : State) : Host.Outcome State Fault Refusal := .next (runEvent (onSlotOpen controller slot) s)

/-- SLOT_WINDOW_END (R426). -/
def execSlotWindowEnd (controller : Fin 2) (slot : Fin 32) (s : State) : Host.Outcome State Fault Refusal := .next (runEvent (onSlotWindowEnd controller slot) s)

/-- SYS_CREDIT_WAIT (R443). -/
def execSysCreditWait (s : State) : Host.Outcome State Fault Refusal := .next (runEvent onSysCreditWait s)

/-- MKEY (R445). -/
def execMkey (maintenance : Bool) (s : State) : Host.Outcome State Fault Refusal := .next (runEvent (onMkey maintenance) s)

/-- JTAG_INSTRUCTION (R464). -/
def execJtagInstruction (code : BitVec 5) (s : State) : Host.Outcome State Fault Refusal := .next (runAsync (onJtagInstruction code) s)

/-- TEST_LOGIC_RESET (R464). -/
def execTestLogicReset (s : State) : Host.Outcome State Fault Refusal := .next (runAsync onTestLogicReset s)

/-- SUPPLY_WINDOW_RETURN (R430). -/
def execSupplyWindowReturn (supply : Fin 5) (s : State) : Host.Outcome State Fault Refusal := .next (runEvent (onSupplyWindowReturn supply) s)

/-- PRBS_CHECKER_LOCK (R83). -/
def execPrbsCheckerLock (lane : Fin 32) (bits : List Bool) (s : State) : Host.Outcome State Fault Refusal := .next (runEvent (onPrbsCheckerLock lane bits) s)

/-- PRBS_LOCK_LOSS (R83). -/
def execPrbsLockLoss (lane : Fin 32) (bits : List Bool) (s : State) : Host.Outcome State Fault Refusal := .next (runEvent (onPrbsLockLoss lane bits) s)

/-- TIME_SET_EDGE_TIMEOUT (R70). -/
def execTimeSetEdgeTimeout (s : State) : Host.Outcome State Fault Refusal := .next (runEvent onTimeSetEdgeTimeout s)

/-- CARRIER_LOGICAL_STATE_CHANGE (R187). -/
def execCarrierLogicalStateChange (pair : Fin 4) (s : State) : Host.Outcome State Fault Refusal := .next (runEvent (onCarrierLogicalStateChange pair) s)

/-- REGISTER_COMPARATOR_EVALUATION (R270). -/
def execRegisterComparatorEvaluation (s : State) : Host.Outcome State Fault Refusal := .next (runEvent onRegisterComparatorEvaluation s)

/-- OUT_MISMATCH_CLEAR (R337). -/
def execOutMismatchClear (s : State) : Host.Outcome State Fault Refusal := .next (runEvent onOutMismatchClear s)

/-- BUS_STUCK_CLEAR (R422). -/
def execBusStuckClear (controller : Fin 2) (s : State) : Host.Outcome State Fault Refusal := .next (runEvent (onBusStuckClear controller) s)

/-- FLASH_ERASE_DONE (R450). -/
def execFlashEraseDone (answered : Bool) (s : State) : Host.Outcome State Fault Refusal := .next (runEvent (onFlashEraseDone answered) s)

/-- FLASH_CHECK_DONE (R450). -/
def execFlashCheckDone (s : State) : Host.Outcome State Fault Refusal := .next (runEvent onFlashCheckDone s)

/-- IDENT_END (R448). -/
def execIdentEnd (s : State) : Host.Outcome State Fault Refusal := .next (runEvent onIdentEnd s)

/-- EJECT_REFUSAL_DISPLAY_END (R448). -/
def execEjectRefusalDisplayEnd (s : State) : Host.Outcome State Fault Refusal := .next (runEvent onEjectRefusalDisplayEnd s)

/-- LED_PATTERN_CHANGE (R447). -/
def execLedPatternChange (s : State) : Host.Outcome State Fault Refusal := .next (runEvent onLedPatternChange s)

end Sys2Proof.Machine
end

