-- ==== Sys2Proof/Machine/Dispatch.lean ====
section
/-!
DEFINITION. Dispatch.lean: one arm per command of the block.
-/
namespace Sys2Proof.Machine
open Sys2Proof

/-- The effect of a command on everything but the queue. -/
def exec (i : Instr) (s : State) : Host.Outcome State Fault Refusal :=
  match i with
  | .powerOnReset => Sys2Proof.Machine.execPowerOnReset s
  | .powerOnResetRelease role senior bootsrc => Sys2Proof.Machine.execPowerOnResetRelease role senior bootsrc s
  | .selftestComplete slices checkerOk => Sys2Proof.Machine.execSelftestComplete slices checkerOk s
  | .supplyWindowExit supply => Sys2Proof.Machine.execSupplyWindowExit supply s
  | .imageVerification => Sys2Proof.Machine.execImageVerification s
  | .tickBoundary => Sys2Proof.Machine.execTickBoundary s
  | .sample => Sys2Proof.Machine.execSample s
  | .up => Sys2Proof.Machine.execUp s
  | .tally reads => Sys2Proof.Machine.execTally reads s
  | .loopEnd => Sys2Proof.Machine.execLoopEnd s
  | .down => Sys2Proof.Machine.execDown s
  | .apply => Sys2Proof.Machine.execApply s
  | .holdLimitReached => Sys2Proof.Machine.execHoldLimitReached s
  | .downTickFrame lane frame age => Sys2Proof.Machine.execDownTickFrame lane frame age s
  | .upTickFrame lane frame age => Sys2Proof.Machine.execUpTickFrame lane frame age s
  | .mergeComplete => Sys2Proof.Machine.execMergeComplete s
  | .allocationComplete => Sys2Proof.Machine.execAllocationComplete s
  | .decisionApply => Sys2Proof.Machine.execDecisionApply s
  | .trimEnd => Sys2Proof.Machine.execTrimEnd s
  | .holdover => Sys2Proof.Machine.execHoldover s
  | .syncTimeout => Sys2Proof.Machine.execSyncTimeout s
  | .tickAlign => Sys2Proof.Machine.execTickAlign s
  | .ppsIn width => Sys2Proof.Machine.execPpsIn width s
  | .ppsLoss => Sys2Proof.Machine.execPpsLoss s
  | .ppsOut => Sys2Proof.Machine.execPpsOut s
  | .ppsWidth => Sys2Proof.Machine.execPpsWidth s
  | .timeSetLoad => Sys2Proof.Machine.execTimeSetLoad s
  | .powerUpSlot answer => Sys2Proof.Machine.execPowerUpSlot answer s
  | .signalDetect lane => Sys2Proof.Machine.execSignalDetect lane s
  | .pwrTimeout lane => Sys2Proof.Machine.execPwrTimeout lane s
  | .commaAlignment lane => Sys2Proof.Machine.execCommaAlignment lane s
  | .rateScan lane => Sys2Proof.Machine.execRateScan lane s
  | .helloTimer lane => Sys2Proof.Machine.execHelloTimer lane s
  | .hello lane segment => Sys2Proof.Machine.execHello lane segment s
  | .signalLoss lane => Sys2Proof.Machine.execSignalLoss lane s
  | .codeViolations lane => Sys2Proof.Machine.execCodeViolations lane s
  | .missingTickFrames lane => Sys2Proof.Machine.execMissingTickFrames lane s
  | .downWaitEnd lane => Sys2Proof.Machine.execDownWaitEnd lane s
  | .prbsEnd lane errors => Sys2Proof.Machine.execPrbsEnd lane errors s
  | .autonegComplete lane fullDuplex => Sys2Proof.Machine.execAutonegComplete lane fullDuplex s
  | .hostSyncLoss lane => Sys2Proof.Machine.execHostSyncLoss lane s
  | .hostFrame lane frame => Sys2Proof.Machine.execHostFrame lane frame s
  | .modulePoll lane answer => Sys2Proof.Machine.execModulePoll lane answer s
  | .sclTimeout bus => Sys2Proof.Machine.execSclTimeout bus s
  | .segmentTxStart lane => Sys2Proof.Machine.execSegmentTxStart lane s
  | .segmentForward lane segment => Sys2Proof.Machine.execSegmentForward lane segment s
  | .assign lane segment => Sys2Proof.Machine.execAssign lane segment s
  | .assignRepeat lane => Sys2Proof.Machine.execAssignRepeat lane s
  | .assignAck lane segment => Sys2Proof.Machine.execAssignAck lane segment s
  | .assignNak lane segment => Sys2Proof.Machine.execAssignNak lane segment s
  | .topoUnitAbsent lane => Sys2Proof.Machine.execTopoUnitAbsent lane s
  | .multicast lane segment => Sys2Proof.Machine.execMulticast lane segment s
  | .mirror lane segment => Sys2Proof.Machine.execMirror lane segment s
  | .event lane segment => Sys2Proof.Machine.execEvent lane segment s
  | .life lane segment => Sys2Proof.Machine.execLife lane segment s
  | .command entry => Sys2Proof.Machine.execCommand entry s
  | .reply lane segment => Sys2Proof.Machine.execReply lane segment s
  | .commandTimeout source seq => Sys2Proof.Machine.execCommandTimeout source seq s
  | .cmdRetryExpiry op written p => Sys2Proof.Machine.execCmdRetryExpiry op written p s
  | .sessionIdle index => Sys2Proof.Machine.execSessionIdle index s
  | .handleDestroyDone handle => Sys2Proof.Machine.execHandleDestroyDone handle s
  | .regRd address count => Sys2Proof.Machine.execRegRd address count s
  | .regWr address values => Sys2Proof.Machine.execRegWr address values s
  | .mbxWr bytes => Sys2Proof.Machine.execMbxWr bytes s
  | .mbxRd count => Sys2Proof.Machine.execMbxRd count s
  | .status => Sys2Proof.Machine.execStatus s
  | .unlistedInstruction code => Sys2Proof.Machine.execUnlistedInstruction code s
  | .nop p => Sys2Proof.Machine.execNop p s
  | .sysInfo p => Sys2Proof.Machine.execSysInfo p s
  | .stateReq p => Sys2Proof.Machine.execStateReq p s
  | .warmReset p => Sys2Proof.Machine.execWarmReset p s
  | .sessionOpen p => Sys2Proof.Machine.execSessionOpen p s
  | .sessionClose p => Sys2Proof.Machine.execSessionClose p s
  | .keyLoad p => Sys2Proof.Machine.execKeyLoad p s
  | .handleInfo p => Sys2Proof.Machine.execHandleInfo p s
  | .handleDestroy p => Sys2Proof.Machine.execHandleDestroy p s
  | .handleList p => Sys2Proof.Machine.execHandleList p s
  | .handlePool p => Sys2Proof.Machine.execHandlePool p s
  | .regRead p => Sys2Proof.Machine.execRegRead p s
  | .regWrite p => Sys2Proof.Machine.execRegWrite p s
  | .regRmw p => Sys2Proof.Machine.execRegRmw p s
  | .memRead p => Sys2Proof.Machine.execMemRead p s
  | .memWrite p => Sys2Proof.Machine.execMemWrite p s
  | .cmdAllocReq requests => Sys2Proof.Machine.execCmdAllocReq requests s
  | .timeSet p => Sys2Proof.Machine.execTimeSet p s
  | .timeRead p => Sys2Proof.Machine.execTimeRead p s
  | .treeLoad p => Sys2Proof.Machine.execTreeLoad p s
  | .treeSurvey p => Sys2Proof.Machine.execTreeSurvey p s
  | .treeRead p => Sys2Proof.Machine.execTreeRead p s
  | .laneRead p => Sys2Proof.Machine.execLaneRead p s
  | .laneRestart p => Sys2Proof.Machine.execLaneRestart p s
  | .laneRate p => Sys2Proof.Machine.execLaneRate p s
  | .eqLoad p => Sys2Proof.Machine.execEqLoad p s
  | .prbsStart p => Sys2Proof.Machine.execPrbsStart p s
  | .prbsRead p => Sys2Proof.Machine.execPrbsRead p s
  | .modRead p => Sys2Proof.Machine.execModRead p s
  | .modWrite p => Sys2Proof.Machine.execModWrite p s
  | .yarTallyRead p => Sys2Proof.Machine.execYarTallyRead p s
  | .yarUnitRead p => Sys2Proof.Machine.execYarUnitRead p s
  | .yarCellExclude p => Sys2Proof.Machine.execYarCellExclude p s
  | .yarCellRead p => Sys2Proof.Machine.execYarCellRead p s
  | .yarDemandSet p => Sys2Proof.Machine.execYarDemandSet p s
  | .faultin input level => Sys2Proof.Machine.execFaultin input level s
  | .clockLoss => Sys2Proof.Machine.execClockLoss s
  | .clockReturn => Sys2Proof.Machine.execClockReturn s
  | .readbackMismatch output level => Sys2Proof.Machine.execReadbackMismatch output level s
  | .periodStart pair => Sys2Proof.Machine.execPeriodStart pair s
  | .shadowWrite pair period duty => Sys2Proof.Machine.execShadowWrite pair period duty s
  | .swuSafe value => Sys2Proof.Machine.execSwuSafe value s
  | .swuCreate p => Sys2Proof.Machine.execSwuCreate p s
  | .swuSet p => Sys2Proof.Machine.execSwuSet p s
  | .swuCommit p => Sys2Proof.Machine.execSwuCommit p s
  | .swuStart p => Sys2Proof.Machine.execSwuStart p s
  | .swuStop p => Sys2Proof.Machine.execSwuStop p s
  | .swuStatusRead p => Sys2Proof.Machine.execSwuStatusRead p s
  | .swuChanRead p => Sys2Proof.Machine.execSwuChanRead p s
  | .swuFaultClear p => Sys2Proof.Machine.execSwuFaultClear p s
  | .swuForce p => Sys2Proof.Machine.execSwuForce p s
  | .loopCommit => Sys2Proof.Machine.execLoopCommit s
  | .loopAbandon => Sys2Proof.Machine.execLoopAbandon s
  | .loopCreate p => Sys2Proof.Machine.execLoopCreate p s
  | .loopEnable p => Sys2Proof.Machine.execLoopEnable p s
  | .loopCoefSet p => Sys2Proof.Machine.execLoopCoefSet p s
  | .loopParamSet p => Sys2Proof.Machine.execLoopParamSet p s
  | .loopSigRead p => Sys2Proof.Machine.execLoopSigRead p s
  | .loopInfo p => Sys2Proof.Machine.execLoopInfo p s
  | .loopBudgetRead p => Sys2Proof.Machine.execLoopBudgetRead p s
  | .sequenceRunStart sequence => Sys2Proof.Machine.execSequenceRunStart sequence s
  | .conversionComplete slice a b near err shadowErr => Sys2Proof.Machine.execConversionComplete slice a b near err shadowErr s
  | .calibrationCycle => Sys2Proof.Machine.execCalibrationCycle s
  | .calibrationDone gain offset => Sys2Proof.Machine.execCalibrationDone gain offset s
  | .measInjReq core input diff => Sys2Proof.Machine.execMeasInjReq core input diff s
  | .measSeqCreate p => Sys2Proof.Machine.execMeasSeqCreate p s
  | .measSeqStart p => Sys2Proof.Machine.execMeasSeqStart p s
  | .measSeqStop p => Sys2Proof.Machine.execMeasSeqStop p s
  | .measResultRead p => Sys2Proof.Machine.execMeasResultRead p s
  | .measInject p => Sys2Proof.Machine.execMeasInject p s
  | .measSliceRead p => Sys2Proof.Machine.execMeasSliceRead p s
  | .pageHeaderRewrite capture => Sys2Proof.Machine.execPageHeaderRewrite capture s
  | .sequencerTransition => Sys2Proof.Machine.execSequencerTransition s
  | .sequencerTimer timer => Sys2Proof.Machine.execSequencerTimer timer s
  | .seqEn en => Sys2Proof.Machine.execSeqEn en s
  | .triginEdge input rising sub => Sys2Proof.Machine.execTriginEdge input rising sub s
  | .outWidth output => Sys2Proof.Machine.execOutWidth output s
  | .trigReqTimeout => Sys2Proof.Machine.execTrigReqTimeout s
  | .blockClose stream => Sys2Proof.Machine.execBlockClose stream s
  | .recordSegmentPlace capture => Sys2Proof.Machine.execRecordSegmentPlace capture s
  | .captureCreate p => Sys2Proof.Machine.execCaptureCreate p s
  | .captureArm p => Sys2Proof.Machine.execCaptureArm p s
  | .captureTrigger p => Sys2Proof.Machine.execCaptureTrigger p s
  | .captureStop p => Sys2Proof.Machine.execCaptureStop p s
  | .captureRelease p => Sys2Proof.Machine.execCaptureRelease p s
  | .captureRead p => Sys2Proof.Machine.execCaptureRead p s
  | .captureInfo p => Sys2Proof.Machine.execCaptureInfo p s
  | .trendCreate p => Sys2Proof.Machine.execTrendCreate p s
  | .trendStart p => Sys2Proof.Machine.execTrendStart p s
  | .trendStop p => Sys2Proof.Machine.execTrendStop p s
  | .trendInfo p => Sys2Proof.Machine.execTrendInfo p s
  | .sysTrigger p => Sys2Proof.Machine.execSysTrigger p s
  | .recPoolRead p => Sys2Proof.Machine.execRecPoolRead p s
  | .operandMatch => Sys2Proof.Machine.execOperandMatch s
  | .dispatch => Sys2Proof.Machine.execDispatch s
  | .threadTrap core mcause mepc access => Sys2Proof.Machine.execThreadTrap core mcause mepc access s
  | .runLimit core => Sys2Proof.Machine.execRunLimit core s
  | .lockstepMismatch => Sys2Proof.Machine.execLockstepMismatch s
  | .debugHalt core => Sys2Proof.Machine.execDebugHalt core s
  | .debugResume hart => Sys2Proof.Machine.execDebugResume hart s
  | .safetyPairHalt => Sys2Proof.Machine.execSafetyPairHalt s
  | .selfWait core => Sys2Proof.Machine.execSelfWait core s
  | .selfPost core port target value => Sys2Proof.Machine.execSelfPost core port target value s
  | .selfAcq core lock => Sys2Proof.Machine.execSelfAcq core lock s
  | .selfRel core lock => Sys2Proof.Machine.execSelfRel core lock s
  | .selfYield core => Sys2Proof.Machine.execSelfYield core s
  | .threadCreate p => Sys2Proof.Machine.execThreadCreate p s
  | .threadStart p => Sys2Proof.Machine.execThreadStart p s
  | .threadStop p => Sys2Proof.Machine.execThreadStop p s
  | .threadCancel p => Sys2Proof.Machine.execThreadCancel p s
  | .operandPost p => Sys2Proof.Machine.execOperandPost p s
  | .threadInfo p => Sys2Proof.Machine.execThreadInfo p s
  | .flowCreate p => Sys2Proof.Machine.execFlowCreate p s
  | .flowInfo p => Sys2Proof.Machine.execFlowInfo p s
  | .lockCreate p => Sys2Proof.Machine.execLockCreate p s
  | .dispRead p => Sys2Proof.Machine.execDispRead p s
  | .imageRefetchDone => Sys2Proof.Machine.execImageRefetchDone s
  | .scrubRead => Sys2Proof.Machine.execScrubRead s
  | .mgrdScrubSlow => Sys2Proof.Machine.execMgrdScrubSlow s
  | .mgrdRead p => Sys2Proof.Machine.execMgrdRead p s
  | .mgrdRemapSet p => Sys2Proof.Machine.execMgrdRemapSet p s
  | .mgrdInject p => Sys2Proof.Machine.execMgrdInject p s
  | .escalation => Sys2Proof.Machine.execEscalation s
  | .outMin => Sys2Proof.Machine.execOutMin s
  | .fhubOutMismatch level => Sys2Proof.Machine.execFhubOutMismatch level s
  | .fhubResolve id => Sys2Proof.Machine.execFhubResolve id s
  | .faultRead p => Sys2Proof.Machine.execFaultRead p s
  | .faultResolve p => Sys2Proof.Machine.execFaultResolve p s
  | .faultLatchClear p => Sys2Proof.Machine.execFaultLatchClear p s
  | .faultSrcSet p => Sys2Proof.Machine.execFaultSrcSet p s
  | .faultRaise p => Sys2Proof.Machine.execFaultRaise p s
  | .faultHistory p => Sys2Proof.Machine.execFaultHistory p s
  | .faultSubscribe p => Sys2Proof.Machine.execFaultSubscribe p s
  | .safetyInput input chanB level => Sys2Proof.Machine.execSafetyInput input chanB level s
  | .safeInDiscrepancy input => Sys2Proof.Machine.execSafeInDiscrepancy input s
  | .testPulse driver reads => Sys2Proof.Machine.execTestPulse driver reads s
  | .channelBCycle ran demand differs fault => Sys2Proof.Machine.execChannelBCycle ran demand differs fault s
  | .ssMax string => Sys2Proof.Machine.execSsMax string s
  | .gdsDelay => Sys2Proof.Machine.execGdsDelay s
  | .sofbCheck output chanB level => Sys2Proof.Machine.execSofbCheck output chanB level s
  | .outputTestPulse output chanB sawOff => Sys2Proof.Machine.execOutputTestPulse output chanB sawOff s
  | .degLimit output => Sys2Proof.Machine.execDegLimit output s
  | .bypDelay => Sys2Proof.Machine.execBypDelay s
  | .fireMs output => Sys2Proof.Machine.execFireMs output s
  | .sealOk closed => Sys2Proof.Machine.execSealOk closed s
  | .sw value => Sys2Proof.Machine.execSw value s
  | .ackN low => Sys2Proof.Machine.execAckN low s
  | .ackHoldLimit => Sys2Proof.Machine.execAckHoldLimit s
  | .ackWindowEnd => Sys2Proof.Machine.execAckWindowEnd s
  | .ackReadTimeout => Sys2Proof.Machine.execAckReadTimeout s
  | .safeStatusRead p => Sys2Proof.Machine.execSafeStatusRead p s
  | .safeCfgLoad p => Sys2Proof.Machine.execSafeCfgLoad p s
  | .safeCfgRead p => Sys2Proof.Machine.execSafeCfgRead p s
  | .safeDemand p => Sys2Proof.Machine.execSafeDemand p s
  | .safeReset p => Sys2Proof.Machine.execSafeReset p s
  | .safeBypass p => Sys2Proof.Machine.execSafeBypass p s
  | .safeOutRead p => Sys2Proof.Machine.execSafeOutRead p s
  | .startWait => Sys2Proof.Machine.execStartWait s
  | .twinHbLoss => Sys2Proof.Machine.execTwinHbLoss s
  | .swapTimeout => Sys2Proof.Machine.execSwapTimeout s
  | .swapDays => Sys2Proof.Machine.execSwapDays s
  | .ejectN low => Sys2Proof.Machine.execEjectN low s
  | .twinNoStandby => Sys2Proof.Machine.execTwinNoStandby s
  | .twinMirrorLag => Sys2Proof.Machine.execTwinMirrorLag s
  | .twinRead p => Sys2Proof.Machine.execTwinRead p s
  | .duplexSwap p => Sys2Proof.Machine.execDuplexSwap p s
  | .twinResync p => Sys2Proof.Machine.execTwinResync p s
  | .capWindowEnd cell => Sys2Proof.Machine.execCapWindowEnd cell s
  | .esrMean cell => Sys2Proof.Machine.execEsrMean cell s
  | .semiMean switch => Sys2Proof.Machine.execSemiMean switch s
  | .slackMeasure slack => Sys2Proof.Machine.execSlackMeasure slack s
  | .avsAdjust => Sys2Proof.Machine.execAvsAdjust s
  | .avsEn en => Sys2Proof.Machine.execAvsEn en s
  | .pmbusTransaction answer => Sys2Proof.Machine.execPmbusTransaction answer s
  | .voutReadback answer => Sys2Proof.Machine.execVoutReadback answer s
  | .pmbusRetry answer => Sys2Proof.Machine.execPmbusRetry answer s
  | .laneMargin => Sys2Proof.Machine.execLaneMargin s
  | .lifeReport => Sys2Proof.Machine.execLifeReport s
  | .lifeRead p => Sys2Proof.Machine.execLifeRead p s
  | .lifePlanSet p => Sys2Proof.Machine.execLifePlanSet p s
  | .lifeBaseline p => Sys2Proof.Machine.execLifeBaseline p s
  | .lifeRfRead p => Sys2Proof.Machine.execLifeRfRead p s
  | .lifeStateRead p => Sys2Proof.Machine.execLifeStateRead p s
  | .lifeRestore p => Sys2Proof.Machine.execLifeRestore p s
  | .lifeSubscribe p => Sys2Proof.Machine.execLifeSubscribe p s
  | .canFrameReceived controller levels age => Sys2Proof.Machine.execCanFrameReceived controller levels age s
  | .canSofCommit controller => Sys2Proof.Machine.execCanSofCommit controller s
  | .canFrameSent controller delay => Sys2Proof.Machine.execCanFrameSent controller delay s
  | .canBusError controller kind data exempt severe => Sys2Proof.Machine.execCanBusError controller kind data exempt severe s
  | .boffDelay controller => Sys2Proof.Machine.execBoffDelay controller s
  | .busOffRecovery controller => Sys2Proof.Machine.execBusOffRecovery controller s
  | .fbusBusStuck controller => Sys2Proof.Machine.execFbusBusStuck controller s
  | .slotOpen controller slot => Sys2Proof.Machine.execSlotOpen controller slot s
  | .slotWindowEnd controller slot => Sys2Proof.Machine.execSlotWindowEnd controller slot s
  | .canMode p => Sys2Proof.Machine.execCanMode p s
  | .canMbCreate p => Sys2Proof.Machine.execCanMbCreate p s
  | .canMbSend p => Sys2Proof.Machine.execCanMbSend p s
  | .canMbCancel p => Sys2Proof.Machine.execCanMbCancel p s
  | .canMbRead p => Sys2Proof.Machine.execCanMbRead p s
  | .canStatusRead p => Sys2Proof.Machine.execCanStatusRead p s
  | .canRecover p => Sys2Proof.Machine.execCanRecover p s
  | .sysCreditWait => Sys2Proof.Machine.execSysCreditWait s
  | .mkey maintenance => Sys2Proof.Machine.execMkey maintenance s
  | .sysIdent p => Sys2Proof.Machine.execSysIdent p s
  | .fwStatusRead p => Sys2Proof.Machine.execFwStatusRead p s
  | .fwFlashErase p => Sys2Proof.Machine.execFwFlashErase p s
  | .fwFlashWrite p => Sys2Proof.Machine.execFwFlashWrite p s
  | .fwFlashRead p => Sys2Proof.Machine.execFwFlashRead p s
  | .fwFlashCheck p => Sys2Proof.Machine.execFwFlashCheck p s
  | .jtagInstruction code => Sys2Proof.Machine.execJtagInstruction code s
  | .testLogicReset => Sys2Proof.Machine.execTestLogicReset s
  | .supplyWindowReturn supply => Sys2Proof.Machine.execSupplyWindowReturn supply s
  | .prbsCheckerLock lane bits => Sys2Proof.Machine.execPrbsCheckerLock lane bits s
  | .prbsLockLoss lane errors => Sys2Proof.Machine.execPrbsLockLoss lane errors s
  | .timeSetEdgeTimeout => Sys2Proof.Machine.execTimeSetEdgeTimeout s
  | .carrierLogicalStateChange pair => Sys2Proof.Machine.execCarrierLogicalStateChange pair s
  | .registerComparatorEvaluation => Sys2Proof.Machine.execRegisterComparatorEvaluation s
  | .outMismatchClear => Sys2Proof.Machine.execOutMismatchClear s
  | .busStuckClear controller => Sys2Proof.Machine.execBusStuckClear controller s
  | .flashEraseDone answered => Sys2Proof.Machine.execFlashEraseDone answered s
  | .flashCheckDone => Sys2Proof.Machine.execFlashCheckDone s
  | .identEnd => Sys2Proof.Machine.execIdentEnd s
  | .ejectRefusalDisplayEnd => Sys2Proof.Machine.execEjectRefusalDisplayEnd s
  | .ledPatternChange => Sys2Proof.Machine.execLedPatternChange s

end Sys2Proof.Machine
end

