-- ==== Sys2Proof/Machine/Step.lean ====
section
/-!
DEFINITION. Step.lean: one step of the block: the command at the front of its queue, or one clk of idling.
-/
namespace Sys2Proof.Machine
open Sys2Proof

/-- The queue is empty: one clk passes (DESIGN CHOICE, assumption 1); time stands while the part is held in power-on reset or
its clock is stopped. -/
def State.idle (s : State) : State := if s.running then s.pass 2000 else s

/-- One step: the front command on the state with the queue's rest, or an idle clk. -/
def step (s : State) : Host.Outcome State Fault Refusal :=
  match s.pending with
  | [] => .next s.idle
  | c :: rest => exec c { s with pending := rest }

/-- The state with the command that a word of the table spells at the front of its queue; unchanged where it spells none. -/
def State.withFetchWord (s : State) (nbits w : Nat) : State :=
  match decodeTableWord nbits w with
  | some c => { s with pending := c :: s.pending }
  | none => s

end Sys2Proof.Machine
end

