-- ==== Sys2Proof/Safety.lean ====
section
/-!
DEFINITION. Safety.lean: the terms in which claims speak of a run: what ends a command, the block at rest, a gate output at
its safe level, a part held in power-on reset.
-/
namespace Sys2Proof.Machine
open Sys2Proof

/-- What follows once opcode `r` has left the state `s` and answers `status` with `payload`: the reply (04 R111), the copies of
an MCAST command (04 R109), and what ends every command. -/
def State.answers (s : State) (r : OpRow) (p : Packet) (status : Nat) (payload : List Byte) : State :=
  ((s.reply r.code p false status (cutReply r p payload)).fanOut r.code p).wrapUp

/-- The same for an opcode that answers later: it holds execution, unless it came in a command slot (04 R118). -/
def State.holds (s : State) (r : OpRow) (p : Packet) : State :=
  ((if p.slot then s else { s with cmd.busy := some (r.code, p) }).fanOut r.code p).wrapUp

/-- A command reaches its target and passes the checks of R113, R127 and R114 there, with the interpreter free or in a slot:
it executes at once, on the state `s1` and with the packet `p1` that the checks leave. -/
def Admitted (r : OpRow) (p : Packet) (s s1 : State) (p1 : Packet) : Prop :=
  s.running = true ∧ (p.slot || s.interpIdle) = true ∧ s.vet r p = (s1, p1, Stat.OK)

/-- Nothing is left to settle: no raised source, no command that waits or runs, no survey, no trend block under way. -/
def State.atRest (s : State) : Bool :=
  s.hub.raised.isEmpty && s.interpIdle && s.tree.survey.isNone && trendNumbers.all (fun n => (s.trend n).closed.isEmpty && (s.trend n).fill.isEmpty)

/-- Every gate output ball is low (06 R172). -/
def State.gatesLow (s : State) : Bool := (List.range 8).all (fun n => !s.goLevel n)

/-- A part held in power-on reset: OFF, every register at its reset value, no object, no command under way. -/
def State.heldInReset (s : State) : Bool :=
  s.clk.por && s.regs.isEmpty && s.bytes.isEmpty && s.cmd == {} && s.lanes.isEmpty && s.swu.pairs.isEmpty

/-! Frames. -/

/-- The parts of the state beside its registers, `bytes` the whole of memory. -/
inductive Part where
  | pending | bytes | clk | node | lanes | cmd | hub | units | yar | tree | swu | loop | safe | meas | disp | guard
  | recorder | twin | child | life | fbus | free
  deriving DecidableEq, Repr

/-- Two states agree on a part. -/
def Part.same (s t : State) : Part → Prop
  | .pending => t.pending = s.pending
  | .bytes => t.bytes = s.bytes
  | .clk => t.clk = s.clk
  | .node => t.node = s.node
  | .lanes => t.lanes = s.lanes
  | .cmd => t.cmd = s.cmd
  | .hub => t.hub = s.hub
  | .units => t.unitSts = s.unitSts
  | .yar => t.yar = s.yar
  | .tree => t.tree = s.tree
  | .swu => t.swu = s.swu
  | .loop => t.loop = s.loop
  | .safe => t.safe = s.safe
  | .meas => t.meas = s.meas
  | .disp => t.disp = s.disp
  | .guard => t.guard = s.guard
  | .recorder => t.recorder = s.recorder
  | .twin => t.twin = s.twin
  | .child => t.child = s.child
  | .life => t.life = s.life
  | .fbus => t.fbus = s.fbus
  | .free => t.freeCount = s.freeCount

/-- From `s` to `t` nothing changes but the listed parts and the listed registers. -/
def Touches (parts : List Part) (regs : List Nat) (s t : State) : Prop :=
  (∀ p, p ∉ parts → p.same s t) ∧ ∀ a, a ∉ regs → t.reg a = s.reg a

/-! Parts and registers that what many commands share may change. -/

/-- The carries of the pairs and the cells' flags, which forced pairs write (06 R193, R195). -/
def forceRegs : List Nat := [A.SWU_P_CARRY 0, A.SWU_P_CARRY 1, A.SWU_P_CARRY 2, A.SWU_P_CARRY 3, A.YAR_CELL 0, A.YAR_CELL 1]

/-- What a lane that changes its state may write: its status, and the end of a pattern test on it (03 R84). -/
def laneRegs (n : Nat) : List Nat := [A.LANE_STATUS n, A.LANE_PRBS n, A.LANE_PRBS_TIME n]

/-- The same with the presence of the child behind it (01 R37, R39), for a lane that leaves UP or is taken down. -/
def lowerRegs (n : Nat) : List Nat := [A.CMD_DL n, A.CMD_CAP] ++ laneRegs n

/-- The sampling instants of the sequences' first entries (08 R248). -/
def t0Regs : List Nat := [A.MEAS_Q_T0 0, A.MEAS_Q_T0 1, A.MEAS_Q_T0 2, A.MEAS_Q_T0 3]

/-- What a reply or a segment of the node's own may write: a BUSY counted, a reply that waits at the QSPI port, a segment
dropped (04 R112, R117; 03 R100). -/
def sendRegs : List Nat := [A.CMD_STAT, A.CMD_QSPI] ++ laneNumbers.map A.LANE_SEG

/-- A change of node state: the state, the phases in force after CONFIG, the pairs and channels that stop, with the replies
of the channels' waiting commands (17 R431 to R436, 06 R176). -/
def goParts : List Part := [.node, .clk, .swu, .yar, .cmd, .lanes, .hub]
def goRegs : List Nat := [A.SYS_STATE, A.YAR_DEC1] ++ pairNumbers.map A.SWU_P_CFG ++ forceRegs ++ sendRegs

/-- Causes of demand and what their level asks of the node (13 R353 to R358). -/
def demandParts : List Part := .safe :: goParts
def demandRegs : List Nat := [A.SAFE_STAT, A.SAFE_CAUSE] ++ stringNumbers.map A.SAFE_SS ++ goRegs

/-- The same with the safety outputs (13 R363). -/
def outRegs : List Nat := outNumbers.map A.SAFE_OUT ++ demandRegs

/-- The units and lanes that a record or an assignment names (01 R39). -/
def unitRegs : List Nat :=
  [A.CMD_NODE, A.CMD_CAP] ++ laneNumbers.map A.CMD_DL ++ laneNumbers.map A.CMD_RANGE ++ laneNumbers.flatMap laneRegs

/-- The threads, cores and flows that a dispatch may change (10 R296). -/
def dispatchRegs : List Nat :=
  threadNumbers.map A.DISP_T_CFG ++ threadNumbers.map A.DISP_T_STAT ++ coreNumbers.map A.DISP_CORE ++ (List.range 64).map A.DISP_F_STAT

/-- A sample of the captures and streams (09 R258, R263, R275). -/
def sampleParts : List Part := [.recorder, .bytes, .guard, .hub, .free, .cmd, .lanes]
def sampleRegs : List Nat :=
  A.REC_STAT :: capNumbers.map A.REC_CAP_STAT ++ capNumbers.map A.REC_CAP_PRE ++ capNumbers.map A.REC_CAP_POST ++
    trendNumbers.map A.REC_TR_STAT ++ trendNumbers.map A.REC_TR_LOST ++ sendRegs

/-- The merge of the units' Tallies (05 R145, 14 R378, 17 R444). -/
def mergeRegs : List Nat :=
  [A.TICK_LATE, A.SYS_CREDIT, A.TWIN_WIT, A.TWIN_STAT, A.SAFE_PANEL] ++ stringNumbers.map A.YAR_S_TALLY ++
    stringNumbers.map A.YAR_S_STALE ++ laneNumbers.map A.LANE_STATUS ++ outRegs

/-- What reads of table memory by the loop engine may write, with the run that an uncorrectable one abandons (11 R311 to R318). -/
def engineParts : List Part := [.bytes, .guard, .hub, .free, .loop]
def engineRegs : List Nat := [A.MGRD_LAST, A.MGRD_LAST_INFO, A.MGRD_CNT_TBL, A.LOOP_CNT, A.LOOP_STAT] ++ (List.range 8).map (A.MGRD_REMAP 1)

/-- What a tick boundary may write beside the causes of demand (02 R41, 14 R376, 15 R394). -/
def boundaryRegs : List Nat :=
  [A.DISP_CNT, A.REC_SYS, A.TWIN_CHILD, A.TWIN_AGE, A.TWIN_STAT, A.TWIN_LAST_LO, A.TWIN_LAST_HI, A.TWIN_CNT, A.TWIN_IMG, A.LIFE_CTRL, A.LIFE_DTX,
    A.LIFE_C_PLAN 0, A.LIFE_C_PLAN 1, A.YAR_CRATIO 0, A.YAR_CRATIO 1] ++ pairNumbers.map A.SWU_P_PERIOD ++ pairNumbers.map A.SWU_P_DUTY ++
    pairNumbers.map A.SWU_P_STAT ++ sampleRegs ++ demandRegs

/-- The part that owns the objects of a handle type (04 R120). -/
def freedParts (ty : Nat) : List Part :=
  match ty with
  | 1 => [.loop] | 2 => [.swu] | 3 => [.meas] | 4 => [.recorder] | 5 => [.recorder] | 6 => [.disp] | 7 => [.disp] | 8 => [.fbus] | _ => []

/-- The registers that a destroyed object stood in, and those that count what it gives back (04 R126). -/
def State.freedRegs (s : State) (ty i : Nat) : List Nat :=
  match ty with
  | 1 => [A.LOOP_L_CFG i, A.LOOP_L_TIM i, A.LOOP_L_SCHED i, A.LOOP_L_RUNS i, A.LOOP_USE, A.LOOP_WIN, A.LOOP_PROG]
  | 2 => [A.SWU_P_CFG (s.chanPair i)]
  | 3 => [A.MEAS_Q_CFG i, A.MEAS_Q_OFS i, A.MEAS_Q_T0 i, A.MEAS_Q_STAT i] ++ (List.range 32).flatMap (fun e => [A.MEAS_RES i e, A.MEAS_Q_E i e])
  | 4 => [A.REC_CAP_STAT i, A.REC_CAP_PRE i, A.REC_CAP_POST i, A.REC_POOL]
  | 5 => [A.REC_TR_STAT i, A.REC_TR_BLOCKS i, A.REC_TR_LOST i, A.REC_POOL]
  | 6 => [A.DISP_T_CFG i, A.DISP_T_PORTS i, A.DISP_T_STAT i, A.DISP_T_TRAP i] ++ (List.range 4).map (fun p => A.DISP_F_CFG (s.portArg i p))
  | 7 => [A.DISP_F_CFG i, A.DISP_F_STAT i]
  | 8 => (List.range 32).map (fun w => A.FBUS_M_CFG i + 4 * w)
  | 10 => [A.DISP_L i]
  | _ => []

/-- The handle type that an opcode asks for (04 R125 and the opcode tables). -/
def handleTypeOf (code : Nat) : Option Nat :=
  if code = 0x0011 then some TY.SESSION
  else if 0x0401 ≤ code ∧ code ≤ 0x0404 then some TY.CHANNEL
  else if code = 0x0501 ∨ code = 0x0505 then some TY.LOOP
  else if code = 0x0601 ∨ code = 0x0602 then some TY.SEQUENCE
  else if 0x0701 ≤ code ∧ code ≤ 0x0706 then some TY.CAPTURE
  else if 0x0711 ≤ code ∧ code ≤ 0x0713 then some TY.TREND
  else if 0x0C02 ≤ code ∧ code ≤ 0x0C04 then some TY.MAILBOX
  else if (0x0E01 ≤ code ∧ code ≤ 0x0E03) ∨ code = 0x0E05 then some TY.THREAD
  else if code = 0x0E11 then some TY.FLOW
  else none

/-- The registers that follow a ball or show the safety record, and those that entering SELFTEST writes (17 R429, R431; 13 R349). -/
def selftestRegs : List Nat :=
  [A.SYS_STATE, A.SYS_PANEL, A.SYS_SUPPLY, A.LANE_CFG 0, A.LANE_CFG 1, A.SWU_FLT, A.SAFE_STAT, A.SAFE_CAUSE, A.SAFE_PANEL, A.SAFE_ACK,
    A.SAFE_REC, A.FHUB_REC] ++ outNumbers.map A.SAFE_IN ++ outNumbers.map A.SAFE_OUT ++ stringNumbers.map A.SAFE_SS ++ forceRegs

/-- The registers after a warm reset: those of domain POR as they were, every other one at its reset value, but for
`selftestRegs` (00 R12). -/
def WarmRegs (s t : State) : Prop :=
  ∀ a, a ∉ selftestRegs → t.reg a = if keptReg (a, 0) then s.reg a else regReset a

/-! The opcode commands. -/

/-- The row of the opcode tables that an opcode command runs, and its packet; none for an event (04 R136 and the opcode tables). -/
def opcodeOf (i : Instr) : Option (OpRow × Packet) :=
  match i with
  | .nop p => some (rowNop, p)
  | .sysInfo p => some (rowSysInfo, p)
  | .stateReq p => some (rowStateReq, p)
  | .warmReset p => some (rowWarmReset, p)
  | .sessionOpen p => some (rowSessionOpen, p)
  | .sessionClose p => some (rowSessionClose, p)
  | .keyLoad p => some (rowKeyLoad, p)
  | .handleInfo p => some (rowHandleInfo, p)
  | .handleDestroy p => some (rowHandleDestroy, p)
  | .handleList p => some (rowHandleList, p)
  | .handlePool p => some (rowHandlePool, p)
  | .regRead p => some (rowRegRead, p)
  | .regWrite p => some (rowRegWrite, p)
  | .regRmw p => some (rowRegRmw, p)
  | .memRead p => some (rowMemRead, p)
  | .memWrite p => some (rowMemWrite, p)
  | .timeSet p => some (rowTimeSet, p)
  | .timeRead p => some (rowTimeRead, p)
  | .treeLoad p => some (rowTreeLoad, p)
  | .treeSurvey p => some (rowTreeSurvey, p)
  | .treeRead p => some (rowTreeRead, p)
  | .laneRead p => some (rowLaneRead, p)
  | .laneRestart p => some (rowLaneRestart, p)
  | .laneRate p => some (rowLaneRate, p)
  | .eqLoad p => some (rowEqLoad, p)
  | .prbsStart p => some (rowPrbsStart, p)
  | .prbsRead p => some (rowPrbsRead, p)
  | .modRead p => some (rowModRead, p)
  | .modWrite p => some (rowModWrite, p)
  | .yarTallyRead p => some (rowYarTallyRead, p)
  | .yarUnitRead p => some (rowYarUnitRead, p)
  | .yarCellExclude p => some (rowYarCellExclude, p)
  | .yarCellRead p => some (rowYarCellRead, p)
  | .yarDemandSet p => some (rowYarDemandSet, p)
  | .swuCreate p => some (rowSwuCreate, p)
  | .swuSet p => some (rowSwuSet, p)
  | .swuCommit p => some (rowSwuCommit, p)
  | .swuStart p => some (rowSwuStart, p)
  | .swuStop p => some (rowSwuStop, p)
  | .swuStatusRead p => some (rowSwuStatusRead, p)
  | .swuChanRead p => some (rowSwuChanRead, p)
  | .swuFaultClear p => some (rowSwuFaultClear, p)
  | .swuForce p => some (rowSwuForce, p)
  | .loopCreate p => some (rowLoopCreate, p)
  | .loopEnable p => some (rowLoopEnable, p)
  | .loopCoefSet p => some (rowLoopCoefSet, p)
  | .loopParamSet p => some (rowLoopParamSet, p)
  | .loopSigRead p => some (rowLoopSigRead, p)
  | .loopInfo p => some (rowLoopInfo, p)
  | .loopBudgetRead p => some (rowLoopBudgetRead, p)
  | .measSeqCreate p => some (rowMeasSeqCreate, p)
  | .measSeqStart p => some (rowMeasSeqStart, p)
  | .measSeqStop p => some (rowMeasSeqStop, p)
  | .measResultRead p => some (rowMeasResultRead, p)
  | .measInject p => some (rowMeasInject, p)
  | .measSliceRead p => some (rowMeasSliceRead, p)
  | .captureCreate p => some (rowCaptureCreate, p)
  | .captureArm p => some (rowCaptureArm, p)
  | .captureTrigger p => some (rowCaptureTrigger, p)
  | .captureStop p => some (rowCaptureStop, p)
  | .captureRelease p => some (rowCaptureRelease, p)
  | .captureRead p => some (rowCaptureRead, p)
  | .captureInfo p => some (rowCaptureInfo, p)
  | .trendCreate p => some (rowTrendCreate, p)
  | .trendStart p => some (rowTrendStart, p)
  | .trendStop p => some (rowTrendStop, p)
  | .trendInfo p => some (rowTrendInfo, p)
  | .sysTrigger p => some (rowSysTrigger, p)
  | .recPoolRead p => some (rowRecPoolRead, p)
  | .threadCreate p => some (rowThreadCreate, p)
  | .threadStart p => some (rowThreadStart, p)
  | .threadStop p => some (rowThreadStop, p)
  | .threadCancel p => some (rowThreadCancel, p)
  | .operandPost p => some (rowOperandPost, p)
  | .threadInfo p => some (rowThreadInfo, p)
  | .flowCreate p => some (rowFlowCreate, p)
  | .flowInfo p => some (rowFlowInfo, p)
  | .lockCreate p => some (rowLockCreate, p)
  | .dispRead p => some (rowDispRead, p)
  | .mgrdRead p => some (rowMgrdRead, p)
  | .mgrdRemapSet p => some (rowMgrdRemapSet, p)
  | .mgrdInject p => some (rowMgrdInject, p)
  | .faultRead p => some (rowFaultRead, p)
  | .faultResolve p => some (rowFaultResolve, p)
  | .faultLatchClear p => some (rowFaultLatchClear, p)
  | .faultSrcSet p => some (rowFaultSrcSet, p)
  | .faultRaise p => some (rowFaultRaise, p)
  | .faultHistory p => some (rowFaultHistory, p)
  | .faultSubscribe p => some (rowFaultSubscribe, p)
  | .safeStatusRead p => some (rowSafeStatusRead, p)
  | .safeCfgLoad p => some (rowSafeCfgLoad, p)
  | .safeCfgRead p => some (rowSafeCfgRead, p)
  | .safeDemand p => some (rowSafeDemand, p)
  | .safeReset p => some (rowSafeReset, p)
  | .safeBypass p => some (rowSafeBypass, p)
  | .safeOutRead p => some (rowSafeOutRead, p)
  | .twinRead p => some (rowTwinRead, p)
  | .duplexSwap p => some (rowDuplexSwap, p)
  | .twinResync p => some (rowTwinResync, p)
  | .lifeRead p => some (rowLifeRead, p)
  | .lifePlanSet p => some (rowLifePlanSet, p)
  | .lifeBaseline p => some (rowLifeBaseline, p)
  | .lifeRfRead p => some (rowLifeRfRead, p)
  | .lifeStateRead p => some (rowLifeStateRead, p)
  | .lifeRestore p => some (rowLifeRestore, p)
  | .lifeSubscribe p => some (rowLifeSubscribe, p)
  | .canMode p => some (rowCanMode, p)
  | .canMbCreate p => some (rowCanMbCreate, p)
  | .canMbSend p => some (rowCanMbSend, p)
  | .canMbCancel p => some (rowCanMbCancel, p)
  | .canMbRead p => some (rowCanMbRead, p)
  | .canStatusRead p => some (rowCanStatusRead, p)
  | .canRecover p => some (rowCanRecover, p)
  | .sysIdent p => some (rowSysIdent, p)
  | .fwStatusRead p => some (rowFwStatusRead, p)
  | .fwFlashErase p => some (rowFwFlashErase, p)
  | .fwFlashWrite p => some (rowFwFlashWrite, p)
  | .fwFlashRead p => some (rowFwFlashRead, p)
  | .fwFlashCheck p => some (rowFwFlashCheck, p)
  | _ => none

end Sys2Proof.Machine
end

