-- ==== Sys2Proof/Certificates/Slice0/Obligations.lean ====
section
/-!
DEFINITION. Obligations.lean: the statements about the block, one definition each. An event's clause gives the state `t` that
its meaning leaves before `State.wrapUp`, which ends every event and command (statements WrapUpAtRest and SettledRaises say what
that does). An opcode's clause speaks of a command that is `Admitted`: it reaches its target and passes the checks there.
-/
set_option linter.unusedVariables false
open Sys2Proof Sys2Proof.Machine

/-- 03 R74 to R76: the way of a lane from PEND to HELLO, clause by clause: POWER_UP_SLOT, SIGNAL_DETECT, PWR_TIMEOUT,
COMMA_ALIGNMENT (an uplink has found its rate; a host lane without auto-negotiation has its link, R105), RATE_SCAN, DOWN_WAIT_END,
HELLO_TIMER; each with its frame. The profile applied at the entry to PWR is that of the rate (R82). TREND blocks that wait on a
lane that restarts go back to their stream (part recorder; DESIGN CHOICE, assumption 28). -/
def Obligations.LaneBringUp : Prop :=
  ∀ (n : Fin 32) (s : State), s.running = true →
    (∀ answer : Option (List Byte), laneNumbers.find? (fun k => s.laneSt k == 1) = some n.val →
      (s.node.pendAt.filter (fun t => decide (s.now < t + 10000))).length < 4 → (s.lane n).modRead = true →
      ∃ t : State, exec (.powerUpSlot answer) s = .next t.wrapUp ∧ t.laneSt n = 2 ∧ t.f (F.LANE_STATUS_RATE_NOW n) = s.startRate n % 4 ∧
        t.reg (A.LANE_EQ n) = BitVec.ofNat 32 (Map.get 0x3820 (s.lane n).eq (s.startRate n)) ∧
        (t.lane n).since = s.now ∧ t.node.pendAt.getLast? = some s.now ∧
        Touches [.lanes, .recorder, .node] [A.LANE_STATUS n, A.LANE_EQ n] s t) ∧
    (s.laneSt n = 2 → s.now ≤ (s.lane n).since + 50000 →
      ∃ t : State, exec (.signalDetect n) s = .next t.wrapUp ∧ t.laneSt n = 3 ∧ t.on (F.LANE_STATUS_SIGNAL n) = true ∧
        (t.lane n).since = s.now ∧ Touches [.lanes] [A.LANE_STATUS n] s t) ∧
    (s.laneSt n = 2 →
      ∃ t : State, exec (.pwrTimeout n) s = .next t.wrapUp ∧ t.laneSt n = 7 ∧ (s.lane n).since + 50000 ≤ t.now ∧ (t.lane n).since = t.now ∧
        Touches [.lanes, .recorder, .clk] [A.LANE_STATUS n] s t) ∧
    (s.laneSt n = 3 →
      ∃ t : State, exec (.commaAlignment n) s = .next t.wrapUp ∧ t.on (F.LANE_STATUS_ALIGNED n) = true ∧
        (s.f (F.LANE_CFG_MODE n) = 1 → t.laneSt n = (if !s.on (F.LANE_CFG_AN_EN n) && s.macOk then 8 else 3) ∧
          (s.on (F.LANE_CFG_AN_EN n) = true → (t.lane n).anPage = 0x0020) ∧ Touches [.lanes] [A.LANE_STATUS n] s t) ∧
        (s.f (F.LANE_CFG_MODE n) ≠ 1 → t.laneSt n = 4 ∧ t.on (F.LANE_STATUS_MISWIRE n) = false ∧ (t.lane n).hellos = 0 ∧ (t.lane n).since = s.now ∧
          (s.uplinks.contains n.val = true →
            t.f (F.LANE_CFG_RATE n) = s.f (F.LANE_STATUS_RATE_NOW n) ∧ Touches [.lanes] [A.LANE_STATUS n, A.LANE_CFG n] s t) ∧
          (s.uplinks.contains n.val = false → Touches [.lanes] [A.LANE_STATUS n] s t))) ∧
    (s.laneSt n = 3 → s.uplinks.contains n.val = true →
      ∃ t : State, exec (.rateScan n) s = .next t.wrapUp ∧ t.laneSt n = 2 ∧
        t.f (F.LANE_STATUS_RATE_NOW n) = (s.rateBelow n (s.f (F.LANE_STATUS_RATE_NOW n))).getD (s.startRate n) % 4 ∧
        (s.lane n).since + 2000000 ≤ t.now ∧ Touches [.lanes, .recorder, .clk] [A.LANE_STATUS n, A.LANE_EQ n] s t) ∧
    (s.laneSt n = 7 →
      ∃ t : State, exec (.downWaitEnd n) s = .next t.wrapUp ∧ t.laneSt n = (if s.mayPower n then 1 else 0) ∧
        (s.lane n).since + 1000000 ≤ t.now ∧ Touches [.lanes, .recorder, .clk] [A.LANE_STATUS n] s t) ∧
    (s.laneSt n = 4 ∨ s.laneSt n = 5 →
      ∃ t : State, exec (.helloTimer n) s = .next t.wrapUp ∧ (t.lane n).helloAt = t.now ∧
        (s.lane n).helloAt + (if s.laneSt n = 4 then 10000 else 1000000) ≤ t.now ∧
        (queued (s.lane n).txq ≤ 14000 →
          ∃ x, (t.lane n).txq = (s.lane n).txq ++ [x] ∧
            x.bytes = segBytes { kind := KIND.HELLO, ctl := 12, frag := 0, dest := 0, payload := s.helloPayload n }) ∧
        Touches [.lanes, .clk, .hub] [A.LANE_SEG n] s t)

/-- 03 R79, R80, R105: SIGNAL_LOSS, CODE_VIOLATIONS and MISSING_TICK_FRAMES take a lane in UP to DOWN, count the loss and raise
LANE_LOSS; HOST_SYNC_LOSS takes a host lane to DOWN and raises HOST_LINK_LOSS; each with its frame.
03 R77: the third consecutive valid HELLO of a matching far end with RX_OK set takes a lane from HELLO to UP; one of a far
end of the wrong kind sets MISWIRE and starts the count again, as one without RX_OK starts it again; with their frames.
03 R83, R84: the checker bit by bit (lock after 64 without an error; an error counted; lock lost above 32 in 128 bits), what the
received bits leave at its lock and its loss, and the end of a pattern test; with their frames. TREND blocks that wait on a lane
that goes down go back to their stream (part recorder; DESIGN CHOICE, assumption 28). -/
def Obligations.LaneLossHelloAndPatterns : Prop :=
  ((∀ (n : Fin 32) (s : State), s.running = true →
    (s.laneUp n = true →
      ∃ t : State, exec (.signalLoss n) s = .next t.wrapUp ∧ t.laneSt n = 7 ∧ t.on (F.LANE_STATUS_SIGNAL n) = false ∧
        t.f (F.LANE_STATUS_LOSSES n) = min (s.f (F.LANE_STATUS_LOSSES n) + 1) 255 ∧ FS.LANE_LOSS ∈ t.hub.raised ∧
        (t.lane n).txq = [] ∧ (t.lane n).since = s.now ∧
        Touches [.lanes, .recorder, .hub, .units] [A.LANE_STATUS n, A.CMD_DL n, A.CMD_CAP] s t) ∧
    (s.laneUp n = false →
      ∃ t : State, exec (.signalLoss n) s = .next t.wrapUp ∧ t.laneSt n = s.laneSt n ∧ t.on (F.LANE_STATUS_SIGNAL n) = false ∧
        Touches [] [A.LANE_STATUS n] s t) ∧
    (∃ t : State, exec (.codeViolations n) s = .next t.wrapUp ∧ t.f (F.LANE_ERR_CV n) = min (s.f (F.LANE_ERR_CV n) + 8) 65535 ∧
        t.laneSt n = (if s.laneUp n then 7 else s.laneSt n) ∧ (s.laneUp n = true → FS.LANE_LOSS ∈ t.hub.raised) ∧
        Touches [.lanes, .recorder, .hub, .units] [A.LANE_STATUS n, A.LANE_ERR n, A.CMD_DL n, A.CMD_CAP] s t) ∧
    (s.laneUp n = true → (s.lane n).carried = true → (s.lane n).got = false → 3 ≤ (s.lane n).miss →
      ∃ t : State, exec (.missingTickFrames n) s = .next t.wrapUp ∧ t.laneSt n = 7 ∧ FS.LANE_LOSS ∈ t.hub.raised ∧
        Touches [.lanes, .recorder, .hub, .units] [A.LANE_STATUS n, A.CMD_DL n, A.CMD_CAP] s t) ∧
    (s.laneSt n = 8 →
      ∃ t : State, exec (.hostSyncLoss n) s = .next t.wrapUp ∧ t.laneSt n = 7 ∧ t.on (F.LANE_STATUS_AN_DONE n) = false ∧
        t.hub.raised = s.hub.raised ++ [FS.HOST_LINK_LOSS] ∧ Touches [.lanes, .recorder, .hub] [A.LANE_STATUS n] s t)) ∧
  (∀ (n : Fin 32) (b : List Byte) (g : Segment) (s : State), s.running = true → s.laneSt n = 4 → parseSeg b = some g →
    g.kind = KIND.HELLO → 8 ≤ g.payload.length →
    (kindsMatch (s.laneKind n) (numAt g.payload 1 1 / 4 % 4) = true → bit (numAt g.payload 1 1) 1 = true →
      ∃ t : State, exec (.hello n b) s = .next t.wrapUp ∧ t.laneSt n = (if 2 ≤ (s.lane n).hellos then 5 else 4) ∧
        (t.lane n).farAddr = numAt g.payload 4 2 ∧ t.f (F.LANE_STATUS_FAR_ROLE n) = numAt g.payload 0 1 % 4 ∧
        t.on (F.LANE_STATUS_MISWIRE n) = false ∧ Touches [.lanes] [A.LANE_STATUS n, A.CMD_DL n] s t) ∧
    (kindsMatch (s.laneKind n) (numAt g.payload 1 1 / 4 % 4) = true → bit (numAt g.payload 1 1) 1 = false →
      ∃ t : State, exec (.hello n b) s = .next t.wrapUp ∧ t.laneSt n = 4 ∧ (t.lane n).hellos = 0 ∧ (t.lane n).rxOk = false ∧
        Touches [.lanes] [A.LANE_STATUS n, A.CMD_DL n] s t) ∧
    (kindsMatch (s.laneKind n) (numAt g.payload 1 1 / 4 % 4) = false →
      ∃ t : State, exec (.hello n b) s = .next t.wrapUp ∧ t.laneSt n = 4 ∧ t.on (F.LANE_STATUS_MISWIRE n) = true ∧ (t.lane n).hellos = 0 ∧
        Touches [.lanes] [A.LANE_STATUS n, A.CMD_DL n] s t))) ∧
  (∀ (pattern : Nat) (c : Checker) (b : Bool),
    (c.locked = false → c.good = 63 → (prbsTaps pattern).1 ≤ c.past.length →
      (c.take pattern b).locked = (b == prbsNext pattern c.past) ∧ (c.take pattern b).errors = c.errors) ∧
    (c.locked = true → (c.take pattern b).errors = c.errors + (if b = prbsNext pattern c.past then 0 else 1) ∧
      ((c.take pattern b).locked = false ↔ 32 < (((b != prbsNext pattern c.past) :: c.win).take 128).count true) ∧
      (c.take pattern b).losses = c.losses + (if (c.take pattern b).locked then 0 else 1))) ∧
  (∀ (n : Fin 32) (bits : List Bool) (s : State), s.running = true → s.laneSt n = 6 →
    (2 ≤ s.f (F.LANE_PRBS_TMODE n) → ∀ c : Checker, c = bits.foldl (Checker.take (s.f (F.LANE_PRBS_PATTERN n))) ⟨(s.lane n).prbsPast, (s.lane n).prbsGood, (s.lane n).prbsWin, s.on (F.LANE_PRBS_LOCKED n), 0, 0⟩ →
      (∃ t : State, exec (.prbsCheckerLock n bits) s = .next t.wrapUp ∧ t.on (F.LANE_PRBS_LOCKED n) = c.locked ∧
        t.f (F.LANE_PRBS_ERR_COUNT n) = min (s.f (F.LANE_PRBS_ERR_COUNT n) + c.errors) (2 ^ 32 - 1) ∧
        Touches [.lanes] [A.LANE_PRBS n, A.LANE_PRBS_ERR n] s t) ∧
      (∃ t : State, exec (.prbsLockLoss n bits) s = .next t.wrapUp ∧ t.on (F.LANE_PRBS_LOCKED n) = c.locked ∧
        t.f (F.LANE_PRBS_ERR_COUNT n) = min (s.f (F.LANE_PRBS_ERR_COUNT n) + c.errors) (2 ^ 32 - 1) ∧
        t.f (F.LANE_PRBS_LOCK_LOSS n) = min (s.f (F.LANE_PRBS_LOCK_LOSS n) + c.losses) 65535 ∧
        Touches [.lanes] [A.LANE_PRBS n, A.LANE_PRBS_ERR n] s t) ∧
      (∃ t : State, exec (.prbsEnd n bits) s = .next t.wrapUp ∧ t.laneSt n = 7 ∧ t.on (F.LANE_PRBS_RUN n) = false ∧
        (s.lane n).prbsEnd ≤ t.now ∧ t.f (F.LANE_PRBS_ERR_COUNT n) = min (s.f (F.LANE_PRBS_ERR_COUNT n) + c.errors) (2 ^ 32 - 1) ∧
        Touches [.lanes, .recorder, .clk] [A.LANE_PRBS n, A.LANE_PRBS_ERR n, A.LANE_PRBS_TIME n, A.LANE_STATUS n] s t)) ∧
    (s.f (F.LANE_PRBS_TMODE n) < 2 →
      ∃ t : State, exec (.prbsEnd n bits) s = .next t.wrapUp ∧ t.laneSt n = 7 ∧ t.on (F.LANE_PRBS_RUN n) = false ∧
        (s.lane n).prbsEnd ≤ t.now ∧ Touches [.lanes, .recorder, .clk] [A.LANE_PRBS n, A.LANE_PRBS_TIME n, A.LANE_STATUS n] s t))

/-- 03 R86 to R88, R105: the first identification of a module (a known one, an unknown one, none that answers), a poll that finds
the received power low for the third time, a held module transfer that times out, the link of a host lane and its refusal to a
partner without full duplex; with their frames. -/
def Obligations.ModulesAndHostLinks : Prop :=
  ∀ (n : Fin 32) (s : State), s.running = true →
    (∀ b : List Byte, laneNumbers.find? (fun k => s.laneSt k == 1) = some n.val →
      (s.node.pendAt.filter (fun t => decide (s.now < t + 10000))).length < 4 → (s.lane n).modRead = false →
      numAt b 0 1 = 2 ∨ numAt b 0 1 = 3 →
      ∃ t : State, exec (.powerUpSlot (some b)) s = .next t.wrapUp ∧ t.laneSt n = 2 ∧ t.on (F.LANE_MOD_ID_OK n) = true ∧
        t.on (F.LANE_MOD_NO_ANSWER n) = false ∧ (t.lane n).modRead = true ∧
        Touches [.lanes, .recorder, .node] [A.LANE_STATUS n, A.LANE_EQ n, A.LANE_MOD n] s t) ∧
    (laneNumbers.find? (fun k => s.laneSt k == 1) = some n.val →
      (s.node.pendAt.filter (fun t => decide (s.now < t + 10000))).length < 4 → (s.lane n).modRead = false →
      ∃ t : State, exec (.powerUpSlot none) s = .next t.wrapUp ∧ t.laneSt n = 2 ∧ t.on (F.LANE_MOD_NO_ANSWER n) = true ∧
        FS.LANE_MOD_FAULT ∈ t.hub.raised ∧ Touches [.lanes, .recorder, .node, .hub] [A.LANE_STATUS n, A.LANE_EQ n, A.LANE_MOD n] s t) ∧
    (∀ b : List Byte, laneNumbers.find? (fun k => s.laneSt k == 1) = some n.val →
      (s.node.pendAt.filter (fun t => decide (s.now < t + 10000))).length < 4 → (s.lane n).modRead = false →
      numAt b 0 1 ≠ 2 → numAt b 0 1 ≠ 3 →
      ∃ t : State, exec (.powerUpSlot (some b)) s = .next t.wrapUp ∧ t.laneSt n = 2 ∧ t.on (F.LANE_MOD_ID_OK n) = false ∧
        FS.LANE_MOD_FAULT ∈ t.hub.raised ∧
        Touches [.lanes, .recorder, .node, .hub] [A.LANE_STATUS n, A.LANE_EQ n, A.LANE_MOD n, A.LIFE_LANE n] s t) ∧
    (∀ b : List Byte, s.laneSt n ≠ 0 → s.on (F.LANE_MOD_POLL_EN n) = true → (s.lane n).modRead = true → (s.lane n).modFail = false →
      s.on (F.LANE_MOD_EXT_CAL n) = false → (s.lane n).lowWarn ≠ 0 → beNat (slice b 8 2) < (s.lane n).lowWarn → (s.lane n).lowPolls = 2 →
      ∃ t : State, exec (.modulePoll n (some b)) s = .next t.wrapUp ∧ t.on (F.LANE_MOD_RX_LOW n) = true ∧
        t.f (F.LANE_DDM0_RX_POWER n) = beNat (slice b 8 2) % 65536 ∧ FS.LANE_OPT_LOW ∈ t.hub.raised ∧
        Touches [.lanes, .clk, .hub, .node] [A.LANE_DDM0 n, A.LANE_DDM1 n, A.LANE_MOD n] s t) ∧
    (∀ (bus : Fin 2) (op : Nat) (p : Packet), laneNumbers.find? (fun k => (s.lane k).i2c.isSome && s.moduleBus k == bus.val) = some n.val →
      (s.lane n).i2c = some p → s.cmd.busy = some (op, p) →
      ∃ u : State, exec (.sclTimeout bus) s = .next (u.release op p Stat.TIMEOUT []).wrapUp ∧ (u.lane n).i2c = none ∧
        (s.lane n).i2cAt + 10000000 ≤ u.now ∧ Touches [.lanes, .clk] [] s u) ∧
    (∀ fullDuplex : Bool, s.f (F.LANE_CFG_MODE n) = 1 → s.laneSt n = 3 → s.on (F.LANE_STATUS_ALIGNED n) = true → s.macOk = true →
      fullDuplex = true ∨ s.on (F.LANE_CFG_AN_EN n) = false →
      ∃ t : State, exec (.autonegComplete n fullDuplex) s = .next t.wrapUp ∧ t.laneSt n = 8 ∧
        t.on (F.LANE_STATUS_AN_DONE n) = s.on (F.LANE_CFG_AN_EN n) ∧ (t.lane n).since = s.now ∧ Touches [.lanes] [A.LANE_STATUS n] s t) ∧
    (s.f (F.LANE_CFG_MODE n) = 1 → s.laneSt n = 3 → s.on (F.LANE_STATUS_ALIGNED n) = true → s.macOk = true → s.on (F.LANE_CFG_AN_EN n) = true →
      ∃ t : State, exec (.autonegComplete n false) s = .next t.wrapUp ∧ t.hub.raised = s.hub.raised ++ [FS.HOST_LINK_LOSS] ∧
        Touches [.hub] [] s t)

/-- Opcodes that only answer (04 R136; 02 R70; 01 R40; 03 R108): the whole payload of NOP, SYS_INFO, HANDLE_LIST, HANDLE_POOL,
HANDLE_INFO (of a live object and of one under destruction), TIME_READ, TREE_READ, LANE_READ and PRBS_READ, the state otherwise
as the checks left it; an authenticated TIME_READ keeps the key that its stamped reply needs (DESIGN CHOICE, assumption 14). -/
def Obligations.SystemAndLinkReads : Prop :=
  ∀ (p p1 : Packet) (s s1 : State),
    (Admitted rowNop p s s1 p1 → p.params.length ≤ 64 → exec (.nop p) s = .next (s1.answers rowNop p1 Stat.OK p.params)) ∧
    (Admitted rowSysInfo p s s1 p1 → p.params = [] →
      exec (.sysInfo p) s = .next (s1.answers rowSysInfo p1 Stat.OK (s1.view4 A.SYS_ID ++ s1.view4 A.CMD_NODE ++
        leBytes 1 s1.st ++ leBytes 1 s1.standing ++ leBytes 2 s1.fcount ++ s1.view4 A.CMD_TMO))) ∧
    (∀ ty, Admitted rowHandleList p s s1 p1 → p.params = [BitVec.ofNat 8 ty] → 1 ≤ ty → ty ≤ 10 →
      exec (.handleList p) s =
        .next (s1.answers rowHandleList p1 Stat.OK ((s1.liveHandles ty).map (fun h => leBytes 4 h.toNat)).flatten)) ∧
    (Admitted rowHandlePool p s s1 p1 → p.params = [] →
      exec (.handlePool p) s =
        .next (s1.answers rowHandlePool p1 Stat.OK ((List.range 10).map (fun i => BitVec.ofNat 8 (s1.pool (i + 1)).free.length)))) ∧
    (∀ o : Handle, Admitted rowHandleInfo p s s1 p1 → p.params = [] →
      (s1.anyHandleStatus p.handle = Stat.OK → (s1.pool (hType p.handle)).object (hIndex p.handle) = some o →
        exec (.handleInfo p) s = .next (s1.answers rowHandleInfo p1 Stat.OK (leBytes 4 p.handle.toNat ++ leBytes 2 o.source.toNat ++
          [0, if s1.bound (hType p.handle) (hIndex p.handle) then 1 else 0] ++ leBytes 8 o.created))) ∧
      (s1.anyHandleStatus p.handle ≠ Stat.OK → s1.dyingObject p.handle = some o →
        exec (.handleInfo p) s = .next (s1.answers rowHandleInfo p1 Stat.OK (leBytes 4 p.handle.toNat ++ leBytes 2 o.source.toNat ++
          [1, if s1.bound (hType p.handle) (hIndex p.handle) then 1 else 0] ++ leBytes 8 o.created)))) ∧
    (Admitted rowTimeRead p s s1 p1 → p.params = [] →
      exec (.timeRead p) s = .next ((if p1.ks = [] then s1 else { s1 with cmd.stampKeys := Map.set [] s1.cmd.stampKeys (srcKey p1) p1.ks }).answers
        rowTimeRead p1 Stat.OK (leBytes 8 s1.time ++ s1.view4 A.TICK_STATUS ++ s1.view4 A.TICK_OFFSET ++ s1.reg4 A.TICK_DELAY_A ++
          s1.reg4 A.TICK_DELAY_B ++ leBytes 8 s1.tickNo))) ∧
    (∀ first n, Admitted rowTreeRead p s s1 p1 → p.params.length = 3 → numAt p.params 0 2 = first → numAt p.params 2 1 = n →
      1 ≤ n → n ≤ 64 → first + n ≤ s1.tree.record.length →
      exec (.treeRead p) s = .next (s1.answers rowTreeRead p1 Stat.OK ((s1.tree.record.drop first).take n).flatten)) ∧
    (Admitted rowLaneRead p s s1 p1 → p.params.length = 4 →
      exec (.laneRead p) s = .next (s1.answers rowLaneRead p1 Stat.OK ((bitList 32 (numAt p.params 0 4)).map (fun n =>
        s1.view4 (A.LANE_CFG n) ++ s1.view4 (A.LANE_STATUS n) ++ s1.view4 (A.LANE_LOAD n) ++ s1.view4 (A.LANE_ERR n) ++
          s1.view4 (A.LANE_SEG n))).flatten)) ∧
    (Admitted rowPrbsRead p s s1 p1 → p.params.length = 1 → numAt p.params 0 1 ≤ 31 →
      exec (.prbsRead p) s = .next (s1.answers rowPrbsRead p1 Stat.OK (s1.reg4 (A.LANE_PRBS (numAt p.params 0 1)) ++
        s1.reg4 (A.LANE_PRBS_ERR (numAt p.params 0 1)) ++ s1.view4 (A.LANE_PRBS_TIME (numAt p.params 0 1)))))

/-- Opcodes that only answer, of Yarrow, the switching unit, the loop engine and the measurement unit (05 R169, R170; 06 R204;
07 R234; 08 R254), with their whole payloads; the state otherwise as the checks left it. -/
def Obligations.ControlReads : Prop :=
  ∀ (p p1 : Packet) (s s1 : State),
    (Admitted rowYarTallyRead p s s1 p1 → p.params.length = 1 →
      (s1.isMeadow = false →
        exec (.yarTallyRead p) s = .next (s1.answers rowYarTallyRead p1 Stat.OK (s1.yar.own.bytes70 ++ leBytes 8 s1.yar.ownTick))) ∧
      (s1.isMeadow = true → numAt p.params 0 1 ≤ 15 →
        exec (.yarTallyRead p) s = .next (s1.answers rowYarTallyRead p1 Stat.OK
          ((Map.get {} s1.yar.strings (numAt p.params 0 1)).bytes70 ++ leBytes 8 s1.yar.ownTick)))) ∧
    (Admitted rowYarUnitRead p s s1 p1 → p.params.length = 1 → s1.units.contains (numAt p.params 0 1) = true →
      ((s1.unit (numAt p.params 0 1)).status < 2 →
        exec (.yarUnitRead p) s = .next (s1.answers rowYarUnitRead p1 Stat.OK ((s1.unit (numAt p.params 0 1)).used.bytes70 ++
          leBytes 1 (s1.unit (numAt p.params 0 1)).status ++ leBytes 1 (min 255 (s1.unit (numAt p.params 0 1)).misses)))) ∧
      (2 ≤ (s1.unit (numAt p.params 0 1)).status →
        exec (.yarUnitRead p) s = .next (s1.answers rowYarUnitRead p1 Stat.OK ((s1.unit (numAt p.params 0 1)).contrib.bytes70 ++
          leBytes 1 (s1.unit (numAt p.params 0 1)).status ++ leBytes 1 (min 255 (s1.unit (numAt p.params 0 1)).misses))))) ∧
    (Admitted rowYarCellRead p s s1 p1 → p.params.length = 1 → s1.cells.contains (numAt p.params 0 1) = true →
      exec (.yarCellRead p) s = .next (s1.answers rowYarCellRead p1 Stat.OK
        (s1.view4 (A.YAR_CELL (numAt p.params 0 1)) ++ s1.view4 (A.YAR_CRATIO (numAt p.params 0 1)) ++ s1.view4 A.YAR_DEC0))) ∧
    (Admitted rowSwuStatusRead p s s1 p1 → p.params = [] →
      exec (.swuStatusRead p) s = .next (s1.answers rowSwuStatusRead p1 Stat.OK (s1.view4 A.SWU_FLT ++ s1.view4 A.SWU_LEVELS))) ∧
    (Admitted rowSwuChanRead p s s1 p1 → p.params.length = 1 → numAt p.params 0 1 ≤ 3 →
      exec (.swuChanRead p) s = .next (s1.answers rowSwuChanRead p1 Stat.OK
        ((List.range 8).map (fun i => s1.view4 (A.SWU_P_CFG (numAt p.params 0 1) + 4 * i))).flatten)) ∧
    (∀ a n, Admitted rowLoopSigRead p s s1 p1 → p.params.length = 3 → numAt p.params 0 2 = a → numAt p.params 2 1 = n → 1 ≤ n → n ≤ 64 →
      a + n ≤ 0x1000 →
      exec (.loopSigRead p) s =
        .next (s1.answers rowLoopSigRead p1 Stat.OK ((List.range n).map (fun i => leBytes 4 (s1.sig (a + i)).toNat)).flatten)) ∧
    (Admitted rowLoopInfo p s s1 p1 → s1.handleStatus TY.LOOP p.handle = Stat.OK → p.params = [] →
      exec (.loopInfo p) s = .next (s1.answers rowLoopInfo p1 Stat.OK (s1.reg4 (A.LOOP_L_CFG (hIndex p.handle)) ++
        s1.reg4 (A.LOOP_L_TIM (hIndex p.handle)) ++ s1.reg4 (A.LOOP_L_SCHED (hIndex p.handle)) ++ s1.reg4 (A.LOOP_L_RUNS (hIndex p.handle))))) ∧
    (Admitted rowLoopBudgetRead p s s1 p1 → p.params = [] →
      exec (.loopBudgetRead p) s = .next (s1.answers rowLoopBudgetRead p1 Stat.OK
        (s1.reg4 A.LOOP_WIN ++ s1.reg4 A.LOOP_STAT ++ s1.reg4 A.LOOP_CNT ++ s1.reg4 A.LOOP_PROG))) ∧
    (∀ q e n, Admitted rowMeasResultRead p s s1 p1 → p.params.length = 3 → numAt p.params 0 1 = q → numAt p.params 1 1 = e →
      numAt p.params 2 1 = n → q ≤ 3 → s1.on (F.MEAS_Q_CFG_LIVE q) = true → 1 ≤ n → n ≤ 32 → e + n ≤ s1.seqCount q →
      exec (.measResultRead p) s =
        .next (s1.answers rowMeasResultRead p1 Stat.OK ((List.range n).map (fun i => s1.reg4 (A.MEAS_RES q (e + i)))).flatten)) ∧
    (Admitted rowMeasSliceRead p s s1 p1 → p.params = [] →
      exec (.measSliceRead p) s = .next (s1.answers rowMeasSliceRead p1 Stat.OK (s1.reg4 A.MEAS_CTRL ++ s1.reg4 A.MEAS_SLICE ++
        s1.reg4 (A.MEAS_SCAL 0) ++ s1.reg4 (A.MEAS_SCAL 1) ++ s1.reg4 (A.MEAS_SCAL 2) ++ s1.reg4 (A.MEAS_SCAL 3) ++ s1.reg4 (A.MEAS_SCAL 4) ++
        s1.reg4 A.MEAS_XCHK)))

/-- Opcodes that only answer, of the recorder, the dispatcher, the memory guard and the fault hub (09 R280; 10 R306; 11 R322;
12 R344), with their whole payloads; the state otherwise as the checks left it. -/
def Obligations.RecorderAndHubReads : Prop :=
  ∀ (p p1 : Packet) (s s1 : State),
    (Admitted rowCaptureInfo p s s1 p1 → s1.handleStatus TY.CAPTURE p.handle = Stat.OK → p.params = [] →
      exec (.captureInfo p) s = .next (s1.answers rowCaptureInfo p1 Stat.OK
        (s1.reg4 (A.REC_CAP_STAT (hIndex p.handle)) ++ s1.reg4 (A.REC_CAP_PRE (hIndex p.handle)) ++ s1.reg4 (A.REC_CAP_POST (hIndex p.handle))))) ∧
    (Admitted rowTrendInfo p s s1 p1 → s1.handleStatus TY.TREND p.handle = Stat.OK → p.params = [] →
      exec (.trendInfo p) s = .next (s1.answers rowTrendInfo p1 Stat.OK
        (s1.reg4 (A.REC_TR_STAT (hIndex p.handle)) ++ s1.reg4 (A.REC_TR_BLOCKS (hIndex p.handle)) ++ s1.reg4 (A.REC_TR_LOST (hIndex p.handle))))) ∧
    (Admitted rowRecPoolRead p s s1 p1 → p.params = [] →
      exec (.recPoolRead p) s = .next (s1.answers rowRecPoolRead p1 Stat.OK (s1.reg4 A.REC_POOL ++ s1.reg4 A.REC_SYS ++ s1.reg4 A.REC_STAT))) ∧
    (Admitted rowThreadInfo p s s1 p1 → s1.handleStatus TY.THREAD p.handle = Stat.OK → p.params = [] →
      exec (.threadInfo p) s = .next (s1.answers rowThreadInfo p1 Stat.OK
        (s1.reg4 (A.DISP_T_CFG (hIndex p.handle)) ++ s1.reg4 (A.DISP_T_PORTS (hIndex p.handle)) ++
          s1.reg4 (A.DISP_T_STAT (hIndex p.handle)) ++ s1.reg4 (A.DISP_T_TRAP (hIndex p.handle))))) ∧
    (Admitted rowFlowInfo p s s1 p1 → s1.handleStatus TY.FLOW p.handle = Stat.OK → p.params = [] →
      exec (.flowInfo p) s = .next (s1.answers rowFlowInfo p1 Stat.OK
        (s1.reg4 (A.DISP_F_CFG (hIndex p.handle)) ++ s1.reg4 (A.DISP_F_STAT (hIndex p.handle))))) ∧
    (Admitted rowDispRead p s s1 p1 → p.params = [] →
      exec (.dispRead p) s = .next (s1.answers rowDispRead p1 Stat.OK (leBytes 4 s1.dispStat ++ s1.reg4 A.DISP_CNT ++
        if p.cls = 0 then [] else s1.reg4 A.DISP_DBG ++ s1.reg4 (A.DISP_CORE 0) ++ s1.reg4 (A.DISP_CORE 1) ++ s1.reg4 (A.DISP_CORE 2) ++
          s1.reg4 (A.DISP_CORE 3)))) ∧
    (Admitted rowMgrdRead p s s1 p1 → p.params = [] →
      exec (.mgrdRead p) s = .next (s1.answers rowMgrdRead p1 Stat.OK (s1.reg4 A.MGRD_ST ++ s1.reg4 A.MGRD_CNT_SRAM ++
        s1.reg4 A.MGRD_CNT_TBL ++ s1.reg4 A.MGRD_CNT_REC ++
        if p.cls = 0 then [] else s1.reg4 A.MGRD_LAST ++ s1.reg4 A.MGRD_LAST_INFO ++ s1.reg4 A.MGRD_SCRUB))) ∧
    (Admitted rowFaultRead p s s1 p1 → p.params = [] →
      exec (.faultRead p) s = .next (s1.answers rowFaultRead p1 Stat.OK (s1.reg4 A.FHUB_REC ++ s1.reg4 A.FHUB_REC_TIME_LO ++
        s1.reg4 A.FHUB_REC_TIME_HI ++ leBytes 4 s1.mergeWord.toNat ++
        ((List.range 4).map (fun w => s1.reg4 (A.FHUB_FIRST_SET w))).flatten ++
        ((List.range 4).map (fun w => s1.reg4 (A.FHUB_MERGED w))).flatten ++ leBytes 4 s1.hubStat.toNat))) ∧
    (Admitted rowFaultHistory p s s1 p1 → p.params = [] →
      exec (.faultHistory p) s = .next (s1.answers rowFaultHistory p1 Stat.OK
        ((s1.hub.history.map (fun r => leBytes 2 r.id ++ leBytes 1 r.source ++ leBytes 1 r.flags ++ leBytes 2 r.merges ++ leBytes 2 0 ++
          leBytes 8 r.opened ++ leBytes 8 r.closed ++ leBytes 16 (ofBits r.firstSet) ++ leBytes 16 (ofBits r.merged))).flatten ++
          List.replicate (56 * (8 - s1.hub.history.length)) 0)))

/-- Opcodes that only answer, of the safety unit, the twin, the lifetime unit, the field bus and the image (13 R370; 14 R391;
15 R410; 16 R427; 17 R450), with their whole payloads; the state otherwise as the checks left it. -/
def Obligations.SafetyAndLifeReads : Prop :=
  ∀ (p p1 : Packet) (s s1 : State),
    (Admitted rowSafeStatusRead p s s1 p1 → p.params = [] →
      exec (.safeStatusRead p) s = .next (s1.answers rowSafeStatusRead p1 Stat.OK (s1.reg4 A.SAFE_STAT ++ s1.reg4 A.SAFE_CAUSE ++
        s1.view4 A.SAFE_PANEL ++ s1.reg4 A.SAFE_ACK ++
        if p.cls = 0 then [] else s1.reg4 (A.SAFE_IN 0) ++ s1.reg4 (A.SAFE_IN 1) ++ s1.reg4 (A.SAFE_IN 2) ++ s1.reg4 (A.SAFE_IN 3)))) ∧
    (Admitted rowSafeCfgRead p s s1 p1 → p.params = [] →
      exec (.safeCfgRead p) s = .next (s1.answers rowSafeCfgRead p1 Stat.OK s1.safe.record)) ∧
    (Admitted rowSafeOutRead p s s1 p1 → p.params = [] →
      exec (.safeOutRead p) s = .next (s1.answers rowSafeOutRead p1 Stat.OK (s1.view4 (A.SAFE_OUT 0) ++ s1.view4 (A.SAFE_OUT 1) ++
        s1.view4 (A.SAFE_OUT 2) ++ s1.view4 (A.SAFE_OUT 3) ++
        if p.cls = 0 then [] else s1.reg4 A.SAFE_REC ++ s1.reg4 (A.SAFE_SS 0) ++ s1.reg4 (A.SAFE_SS 1) ++ s1.reg4 (A.SAFE_SS 2)))) ∧
    (Admitted rowTwinRead p s s1 p1 → p.params = [] →
      exec (.twinRead p) s = .next (s1.answers rowTwinRead p1 Stat.OK (s1.view4 A.TWIN_STAT ++ s1.reg4 A.TWIN_WIT ++ s1.reg4 A.TWIN_IMG ++
        s1.reg4 A.TWIN_AGE ++
        if p.cls = 0 then [] else s1.reg4 A.TWIN_CNT ++ s1.reg4 A.TWIN_LAST_LO ++ s1.reg4 A.TWIN_LAST_HI ++ s1.reg4 A.TWIN_CHILD ++
          s1.reg4 A.TWIN_CFG))) ∧
    (Admitted rowLifeRead p s s1 p1 → p.params = [] →
      exec (.lifeRead p) s = .next (s1.answers rowLifeRead p1 Stat.OK s1.lifePayload)) ∧
    (Admitted rowLifeRfRead p s s1 p1 → p.params.length = 1 → numAt p.params 0 1 ≤ 3 →
      exec (.lifeRfRead p) s = .next (s1.answers rowLifeRfRead p1 Stat.OK
        (s1.rfBytes (numAt p.params 0 1) ++ s1.reg4 (A.LIFE_W_DAMAGE (numAt p.params 0 1))))) ∧
    (Admitted rowLifeStateRead p s s1 p1 → p.params = [] →
      exec (.lifeStateRead p) s = .next (s1.answers rowLifeStateRead p1 Stat.OK (leBytes 2 (s1.f (F.LIFE_C_CEST_CEST 0)) ++
        leBytes 2 (s1.f (F.LIFE_C_CEST_CEST 1)) ++ leBytes 2 (s1.f (F.LIFE_C_ESR_ESR 0)) ++ leBytes 2 (s1.f (F.LIFE_C_ESR_ESR 1)) ++
        ((List.range 4).map (fun n => leBytes 2 (s1.f (F.LIFE_W_MEAN_BASE n)) ++ leBytes 2 0 ++ s1.reg4 (A.LIFE_W_DAMAGE n) ++
          s1.rfBytes n)).flatten))) ∧
    (Admitted rowCanStatusRead p s s1 p1 → p.params.length = 1 → numAt p.params 0 1 ≤ 1 →
      exec (.canStatusRead p) s = .next (s1.answers rowCanStatusRead p1 Stat.OK
        (s1.reg4 (A.FBUS_C_CTRL (numAt p.params 0 1)) ++ s1.reg4 (A.FBUS_C_STAT (numAt p.params 0 1)) ++
          s1.reg4 (A.FBUS_C_CNT (numAt p.params 0 1)) ++ s1.reg4 (A.FBUS_C_DUP (numAt p.params 0 1))))) ∧
    (∀ m, Admitted rowCanMbRead p s s1 p1 → hIndex p.handle = m → s1.handleStatus TY.MAILBOX p.handle = Stat.OK → p.params = [] →
      ∃ u : State, exec (.canMbRead p) s = .next (u.answers rowCanMbRead p1 Stat.OK (s1.reg4 (A.FBUS_M_FRAME m) ++ s1.reg4 (A.FBUS_M_STAT m) ++
        s1.reg4 (A.FBUS_M_STAMP_LO m) ++ s1.reg4 (A.FBUS_M_STAMP_HI m) ++ s1.boxBytes m 64 ++ List.replicate 8 0)) ∧
        u.on (F.FBUS_M_STAT_OVW m) = false ∧ (u.box m).unread = false ∧ Touches [.fbus] [A.FBUS_M_STAT m] s1 u) ∧
    (Admitted rowFwStatusRead p s s1 p1 → p.params = [] →
      exec (.fwStatusRead p) s = .next (s1.answers rowFwStatusRead p1 Stat.OK (s1.reg4 A.SYS_STATE ++ s1.reg4 A.SYS_IMG ++ s1.reg4 A.SYS_LOAD))) ∧
    (∀ slot o n, Admitted rowFwFlashRead p s s1 p1 → p.params.length = 7 → numAt p.params 0 1 = slot → numAt p.params 1 4 = o →
      numAt p.params 5 2 = n → slot ≤ 1 → 4 ≤ n → n ≤ 1024 → o + n ≤ 0x400000 →
      exec (.fwFlashRead p) s = .next (s1.answers rowFwFlashRead p1 Stat.OK (s1.flashRead (slotBase slot + o) n)))

/-- 04 R128, R129, R136, R467, with the refusals of each: SESSION_OPEN with a right proof holds a session whose key derives from both nonces, in
place of the requester's former one; SESSION_CLOSE ends it and its handle is stale; KEY_LOAD fills a key slot; with their frames. The nonce
is a free value (DESIGN CHOICE, assumption 12). -/
def Obligations.SessionsAndKeys : Prop :=
  ∀ (p p1 : Packet) (s s1 : State),
    (Admitted rowSessionOpen p s s1 p1 → p.params.length ≠ 17 ∨ 3 < numAt p.params 0 1 →
      exec (.sessionOpen p) s = .next (s1.answers rowSessionOpen p1 Stat.BAD_PARAM [])) ∧
    (Admitted rowSessionOpen p s s1 p1 → p.params.length = 17 → numAt p.params 0 1 ≤ 3 → s1.keySlot (numAt p.params 0 1) = none →
      exec (.sessionOpen p) s = .next (s1.answers rowSessionOpen p1 Stat.DENIED [])) ∧
    (∀ k : List Byte, Admitted rowSessionOpen p s s1 p1 → p.params.length = 17 → numAt p.params 0 1 ≤ 3 →
      s1.keySlot (numAt p.params 0 1) = some k →
      (sessionProof k (slice p.params 1 8) p ≠ slice p.params 9 8 →
        exec (.sessionOpen p) s = .next (s1.answers rowSessionOpen p1 Stat.DENIED [])) ∧
      (sessionProof k (slice p.params 1 8) p = slice p.params 9 8 → s1.sessionOf p.source = none → (s1.pool TY.SESSION).free = [] →
        exec (.sessionOpen p) s = .next ((s1.raise FS.HANDLE_EXHAUSTED).answers rowSessionOpen p1 Stat.NO_RESOURCE []))) ∧
    (∀ (k : List Byte) (i : Nat) (rest : List Nat), Admitted rowSessionOpen p s s1 p1 → p.params.length = 17 → numAt p.params 0 1 ≤ 3 →
      s1.keySlot (numAt p.params 0 1) = some k → sessionProof k (slice p.params 1 8) p = slice p.params 9 8 →
      s1.sessionOf p.source = none → (s1.pool TY.SESSION).free = i :: rest →
      ∃ (u : State) (b : List Byte), exec (.sessionOpen p) s = .next (u.answers rowSessionOpen p1 Stat.OK b) ∧ b.length = 12 ∧
        b.take 4 = leBytes 4 (u.handleAt TY.SESSION i).toNat ∧
        ∃ x, u.sessionOf p.source = some (i, x) ∧ x.source = p.source ∧ x.target = p.target ∧ x.slot = numAt p.params 0 1 ∧ x.counter = 0 ∧
          x.last = s1.now ∧ x.key = sessionKey k (slice p.params 1 8) (b.drop 4) p ∧ (∀ y ∈ s1.cmd.sessions, y ∈ u.cmd.sessions) ∧
          Touches [.cmd, .free] [] s1 u) ∧
    (∀ (k : List Byte) (i j : Nat) (rest : List Nat) (old : Session), Admitted rowSessionOpen p s s1 p1 → p.params.length = 17 →
      numAt p.params 0 1 ≤ 3 →
      s1.keySlot (numAt p.params 0 1) = some k → sessionProof k (slice p.params 1 8) p = slice p.params 9 8 →
      s1.sessionOf p.source = some (j, old) → (s1.pool TY.SESSION).free ++ [j] = i :: rest →
      ∃ (u : State) (b : List Byte) (x : Nat × Session), exec (.sessionOpen p) s = .next (u.answers rowSessionOpen p1 Stat.OK b) ∧ x ∈ u.cmd.sessions ∧
        x.1 = i ∧ b.length = 12 ∧ b.take 4 = leBytes 4 (u.handleAt TY.SESSION i).toNat ∧ x.2.source = p.source ∧ x.2.target = p.target ∧
        x.2.counter = 0 ∧ x.2.last = s1.now ∧ x.2.slot = numAt p.params 0 1 ∧ x.2.key = sessionKey k (slice p.params 1 8) (b.drop 4) p ∧
        (∀ y ∈ s1.cmd.sessions, y.1 ≠ j → y ∈ u.cmd.sessions) ∧ (u.pool TY.SESSION).gen j = nextGen ((s1.pool TY.SESSION).gen j) ∧
        Touches [.cmd, .free] [] s1 u) ∧
    (Admitted rowSessionClose p s s1 p1 → s1.handleStatus TY.SESSION p.handle = Stat.OK → p.params ≠ [] →
      exec (.sessionClose p) s = .next (s1.answers rowSessionClose p1 Stat.BAD_PARAM [])) ∧
    (Admitted rowSessionClose p s s1 p1 → s1.handleStatus TY.SESSION p.handle = Stat.OK → p.params = [] →
      ∃ u : State, exec (.sessionClose p) s = .next (u.answers rowSessionClose p1 Stat.OK []) ∧
        u.handleStatus TY.SESSION p.handle = Stat.STALE_HANDLE ∧ (∀ x ∈ u.cmd.sessions, x.1 ≠ hIndex p.handle) ∧
        (∀ y ∈ s1.cmd.sessions, y.1 ≠ hIndex p.handle → y ∈ u.cmd.sessions) ∧ Touches [.cmd] [] s1 u) ∧
    (Admitted rowKeyLoad p s s1 p1 → p.params.length ≠ 17 ∨ 3 < numAt p.params 0 1 →
      exec (.keyLoad p) s = .next (s1.answers rowKeyLoad p1 Stat.BAD_PARAM [])) ∧
    (Admitted rowKeyLoad p s s1 p1 → p.params.length = 17 → numAt p.params 0 1 ≤ 3 →
      s1.st ≠ ST.CONFIG ∨ (s1.sessionOf p.source).any (fun x => x.2.slot == 0) = false →
      exec (.keyLoad p) s = .next (s1.answers rowKeyLoad p1 Stat.DENIED [])) ∧
    (Admitted rowKeyLoad p s s1 p1 → p.params.length = 17 → numAt p.params 0 1 ≤ 3 → s1.st = ST.CONFIG →
      (s1.sessionOf p.source).any (fun x => x.2.slot == 0) = true →
      ∃ u : State, exec (.keyLoad p) s = .next (u.answers rowKeyLoad p1 Stat.OK []) ∧ u.keySlot (numAt p.params 0 1) = some (slice p.params 1 16) ∧
        (∀ n, n ≠ numAt p.params 0 1 → u.keySlot n = s1.keySlot n) ∧ Touches [.node] [] s1 u)

/-- 04 R124 to R126: a live handle of an object that is not bound is accepted by HANDLE_DESTROY and stale from that command on,
whatever its type, and the object's memory and registers are free at once; HANDLE_DESTROY_DONE frees the index and sends the FINAL reply;
HANDLE_DESTROY refuses parameters, a handle that is not live, and a bound object or the session that carries it; SESSION_IDLE ends a
session and makes its handle stale. With their frames. -/
def Obligations.HandleDestroyStale : Prop :=
  (∀ (p p1 : Packet) (s s1 : State), Admitted rowHandleDestroy p s s1 p1 → p.params ≠ [] →
    exec (.handleDestroy p) s = .next (s1.answers rowHandleDestroy p1 Stat.BAD_PARAM [])) ∧
  (∀ (p p1 : Packet) (s s1 : State), Admitted rowHandleDestroy p s s1 p1 → p.params = [] → s1.anyHandleStatus p.handle ≠ Stat.OK →
    exec (.handleDestroy p) s = .next (s1.answers rowHandleDestroy p1 (s1.anyHandleStatus p.handle) [])) ∧
  (∀ (p p1 : Packet) (s s1 : State), Admitted rowHandleDestroy p s s1 p1 → p.params = [] → s1.anyHandleStatus p.handle = Stat.OK →
    s1.bound (hType p.handle) (hIndex p.handle) = true ∨ (hType p.handle = TY.SESSION ∧ s1.carriedBy p1 = some (hIndex p.handle)) →
    exec (.handleDestroy p) s = .next (s1.answers rowHandleDestroy p1 Stat.DENIED [])) ∧
  (∀ (p p1 : Packet) (s s1 : State), Admitted rowHandleDestroy p s s1 p1 → p.params = [] → s1.anyHandleStatus p.handle = Stat.OK →
    s1.bound (hType p.handle) (hIndex p.handle) = false → (hType p.handle = TY.SESSION → s1.carriedBy p1 ≠ some (hIndex p.handle)) →
    ∃ u : State, exec (.handleDestroy p) s = .next (u.answers rowHandleDestroy p1 Stat.ACCEPTED []) ∧
      u.anyHandleStatus p.handle = Stat.STALE_HANDLE ∧ (u.dyingObject p.handle).map (·.dying) = some (some p1) ∧
      (hType p.handle = TY.LOOP → u.loopSt (hIndex p.handle) = {} ∧ u.reg (A.LOOP_L_CFG (hIndex p.handle)) = 0) ∧
      (hType p.handle = TY.CHANNEL → u.f (F.SWU_P_CFG_MODE (s1.chanPair (hIndex p.handle))) = 0) ∧
      (hType p.handle = TY.SEQUENCE → u.seq (hIndex p.handle) = {} ∧ u.reg (A.MEAS_Q_CFG (hIndex p.handle)) = 0 ∧
        ∀ e < 32, u.reg (A.MEAS_RES (hIndex p.handle) e) = 0) ∧
      (hType p.handle = TY.CAPTURE → u.cap (hIndex p.handle) = {}) ∧ (hType p.handle = TY.TREND → u.trend (hIndex p.handle) = {}) ∧
      (hType p.handle = TY.THREAD → u.reg (A.DISP_T_CFG (hIndex p.handle)) = 0) ∧
      (hType p.handle = TY.FLOW → u.reg (A.DISP_F_CFG (hIndex p.handle)) = 0) ∧
      (hType p.handle = TY.MAILBOX → u.reg (A.FBUS_M_CFG (hIndex p.handle)) = 0) ∧
      (hType p.handle = TY.LOCK → u.reg (A.DISP_L (hIndex p.handle)) = 0) ∧
      (hType p.handle = TY.SESSION → ∀ x ∈ u.cmd.sessions, x.1 ≠ hIndex p.handle) ∧
      Touches (.cmd :: freedParts (hType p.handle)) (s1.freedRegs (hType p.handle) (hIndex p.handle)) s1 u) ∧
  (∀ (h : Word) (s : State), s.running = true → s.dyingObject h = none → exec (.handleDestroyDone h) s = .next s.wrapUp) ∧
  (∀ (h : Word) (s : State) (o : Handle) (p : Packet), s.running = true → s.dyingObject h = some o → o.dying = some p →
    ∃ u : State, exec (.handleDestroyDone h) s = .next (u.finalReply 0x0101 p Stat.OK []).wrapUp ∧
      (u.pool (hType h)).free = (s.pool (hType h)).free ++ [hIndex h] ∧ u.dyingObject h = none ∧ Touches [.cmd] [] s u) ∧
  (∀ (n : Fin 8) (s : State), s.running = true → s.cmd.sessions.find? (fun y => y.1 == n.val) = none →
    exec (.sessionIdle n) s = .next s.wrapUp) ∧
  (∀ (n : Fin 8) (x : Session) (s : State), s.running = true → s.cmd.sessions.find? (fun y => y.1 == n.val) = some (n.val, x) →
    ∃ t : State, exec (.sessionIdle n) s = .next t.wrapUp ∧ (∀ y ∈ t.cmd.sessions, y.1 ≠ n.val) ∧
      (∀ y ∈ s.cmd.sessions, y.1 ≠ n.val → y ∈ t.cmd.sessions) ∧
      (t.pool TY.SESSION).gen n = nextGen ((s.pool TY.SESSION).gen n) ∧
      x.last + s.f F.CMD_AUTH_IDLE * 1000000000 ≤ t.now ∧ Touches [.cmd, .clk] [] s t)

/-- 17 R433: STATE_REQ takes a node from CONFIG to READY or towards it when every exit check passes, from READY to RUN with the
key off and no cause of demand, from RUN and HOLD to READY, and from READY and WAIT_CREDIT to CONFIG; a request for the state in force answers OK
and does nothing, every other is DENIED or BAD_PARAM.
04 R136, 00 R12, 17 R450: WARM_RESET sends its reply and copies, which leave before it, ends every session and object, puts the tick back to its
reset length, global time to 0 and the node into SELFTEST, and keeps memory, the flash and SYS_ID; it is DENIED in RUN, HOLD and LOCKOUT;
SYS_IDENT starts the identify pattern; with its frame. -/
def Obligations.NodeStateCommands : Prop :=
  (∀ (p p1 : Packet) (s s1 : State), Admitted rowStateReq p s s1 p1 →
    (p.params.length ≠ 1 ∨ (numAt p.params 0 1 ≠ 5 ∧ numAt p.params 0 1 ≠ 7 ∧ numAt p.params 0 1 ≠ 8) →
      exec (.stateReq p) s = .next (s1.answers rowStateReq p1 Stat.BAD_PARAM [])) ∧
    (∀ c : Nat, c = 5 ∨ c = 7 ∨ c = 8 → p.params = [BitVec.ofNat 8 c] → s1.st = c →
      exec (.stateReq p) s = .next (s1.answers rowStateReq p1 Stat.OK [])) ∧
    (p.params = [8] → s1.st = ST.READY → s1.on F.SYS_PANEL_MKEY = false → s1.causes = 0 →
      ∃ u : State, exec (.stateReq p) s = .next (u.answers rowStateReq p1 Stat.OK []) ∧ u.st = ST.RUN ∧ u.f F.SYS_STATE_PREV = ST.READY ∧
        u.node.since = s1.now ∧ Touches [.node] [A.SYS_STATE] s1 u) ∧
    (p.params = [8] → s1.st ≠ ST.RUN → s1.st ≠ ST.READY ∨ s1.on F.SYS_PANEL_MKEY = true ∨ s1.causes ≠ 0 →
      exec (.stateReq p) s = .next (s1.answers rowStateReq p1 Stat.DENIED [])) ∧
    (p.params = [7] → s1.st = ST.RUN ∨ s1.st = ST.HOLD →
      ∃ u : State, exec (.stateReq p) s = .next (u.answers rowStateReq p1 Stat.OK []) ∧ u.st = ST.READY ∧ u.f F.SYS_STATE_PREV = s1.st ∧
        u.node.since = s1.now ∧ Touches [.node, .yar, .swu] [A.SYS_STATE, A.YAR_DEC1, A.YAR_CELL 0, A.YAR_CELL 1] s1 u) ∧
    (p.params = [5] → s1.st = ST.READY ∨ s1.st = ST.WAIT_CREDIT →
      ∃ u : State, exec (.stateReq p) s = .next (u.answers rowStateReq p1 Stat.OK []) ∧ u.st = ST.CONFIG ∧ u.f F.SYS_STATE_PREV = s1.st ∧
        u.node.since = s1.now ∧ Touches [.node, .swu, .cmd, .lanes, .hub] (A.SYS_STATE :: pairNumbers.map A.SWU_P_CFG ++ sendRegs) s1 u) ∧
    (p.params = [5] → s1.st ≠ ST.CONFIG → s1.st ≠ ST.READY → s1.st ≠ ST.WAIT_CREDIT →
      exec (.stateReq p) s = .next (s1.answers rowStateReq p1 Stat.DENIED [])) ∧
    (p.params = [7] → s1.st ≠ ST.READY → s1.st ≠ ST.RUN → s1.st ≠ ST.HOLD → s1.st ≠ ST.CONFIG ∨ 2 ≤ s1.level →
      exec (.stateReq p) s = .next (s1.answers rowStateReq p1 Stat.DENIED [])) ∧
    (p.params = [7] → s1.st = ST.CONFIG → s1.level < 2 → s1.exitOk = false →
      exec (.stateReq p) s = .next (s1.answers rowStateReq p1 Stat.BAD_PARAM [])) ∧
    (p.params = [7] → s1.st = ST.CONFIG → s1.level < 2 → s1.exitOk = true →
      ∃ u : State, exec (.stateReq p) s = .next (u.answers rowStateReq p1 Stat.OK []) ∧
        u.st = (if s1.isMeadow then ST.READY else ST.WAIT_CREDIT) ∧ u.node.since = s1.now ∧ Touches [.node, .clk] [A.SYS_STATE] s1 u ∧
        u.clk.phSample = s1.f F.TICK_PH_SAMPLE_PHASE ∧ u.clk.phUp = s1.f F.TICK_PH_UP_PHASE ∧ u.clk.phTally = s1.f F.TICK_PH_TALLY_PHASE ∧
        u.clk.phLoopEnd = s1.f F.TICK_PH_LOOP_END_PHASE ∧ u.clk.phDown = s1.f F.TICK_PH_DOWN_PHASE)) ∧
  (∀ (p p1 : Packet) (s s1 : State),
    (s.running = true → (p.slot || s.interpIdle) = true → (s.fanOut 0x0003 p).vet rowWarmReset p = (s1, p1, Stat.OK) → p.params = [] →
      s1.st ≠ ST.RUN → s1.st ≠ ST.HOLD → s1.st ≠ ST.LOCKOUT →
      ∃ u : State, exec (.warmReset p) s = .next u.wrapUp ∧ u.st = ST.SELFTEST ∧ u.cmd.sessions = [] ∧ u.clk.tickLen = 4000 ∧
        u.clk.timePs = 0 ∧ u.clk.nowPs = s1.clk.nowPs ∧ u.cmd.flushed = (s1.reply 0x0003 p1 false Stat.OK []).flushedSegs ∧
        u.lanes = [] ∧ u.bytes = s1.bytes ∧ u.node.flash = s1.node.flash ∧ u.node.keys = [] ∧ u.tree = {} ∧ u.loop = {} ∧ u.meas = {} ∧ u.disp = {} ∧
        u.life = {} ∧ u.fbus = {} ∧ u.twin = {} ∧ u.safe.record = s1.safe.record ∧ WarmRegs s1 u) ∧
    (s.running = true → (p.slot || s.interpIdle) = true → (s.fanOut 0x0003 p).vet rowWarmReset p = (s1, p1, Stat.OK) → p.params = [] →
      s1.st = ST.RUN ∨ s1.st = ST.HOLD ∨ s1.st = ST.LOCKOUT →
      exec (.warmReset p) s = .next ((s1.reply 0x0003 p1 false Stat.DENIED []).wrapUp)) ∧
    (s.running = true → (p.slot || s.interpIdle) = true → (s.fanOut 0x0003 p).vet rowWarmReset p = (s1, p1, Stat.OK) → p.params ≠ [] →
      exec (.warmReset p) s = .next ((s1.reply 0x0003 p1 false Stat.BAD_PARAM []).wrapUp)) ∧
    (Admitted rowSysIdent p s s1 p1 → p.params.length ≠ 1 → exec (.sysIdent p) s = .next (s1.answers rowSysIdent p1 Stat.BAD_PARAM [])) ∧
    (Admitted rowSysIdent p s s1 p1 → p.params.length = 1 →
      ∃ u : State, exec (.sysIdent p) s = .next (u.answers rowSysIdent p1 Stat.OK []) ∧ u.f F.SYS_PANEL_IDENT = numAt p.params 0 1 % 256 ∧
        u.node.identEnd = s1.now + numAt p.params 0 1 * 1000000000 ∧ Touches [.node] [A.SYS_PANEL] s1 u))

/-- 04 R131, R136; 00 R8, R9, R10, with the refusals of each: REG_READ answers the registers as they read; REG_WRITE writes its registers in
order up to the first that is refused, and answers how many; a write of a register without restrictions sets its
RW bits and leaves the others, one of an LK register outside CONFIG with the seal closed is DENIED and writes nothing; REG_RMW changes
the masked bits alone and answers the value before; with their frames.
04 R131, R136; 11 R309, R310, R314 to R316: MEM_WRITE writes exactly the bytes it names, at the place or spare that holds each line and in both
mirrors of table memory, and none of any other line; it waits for a PENDING line; a MEM_READ of the recorder memory with right parity answers the
bytes there; one of a line that stays bad is FAULTED, one of a PENDING line waits; with the frame of both. -/
def Obligations.RegisterAndMemoryAccess : Prop :=
  (∀ (p p1 : Packet) (s s1 : State) (a v m : Nat),
    (Admitted rowRegRead p s s1 p1 → p.params = leBytes 4 a ++ [1] → a < 2 ^ 32 → rangeOk a 1 = true →
      ∃ u : State, exec (.regRead p) s = .next (u.answers rowRegRead p1 Stat.OK (leBytes 4 (s1.view a).toNat)) ∧
        Touches [.clk, .hub, .twin, .fbus] [a] s1 u) ∧
    (∀ n, n = numAt p.params 4 1 → Admitted rowRegRead p s s1 p1 → p.params.length ≠ 5 ∨ rangeOk (numAt p.params 0 4) n = false →
      exec (.regRead p) s = .next (s1.answers rowRegRead p1 Stat.BAD_PARAM [])) ∧
    (∀ n, Admitted rowRegRead p s s1 p1 → p.params = leBytes 4 a ++ leBytes 1 n → a < 2 ^ 32 → n < 256 → rangeOk a n = true →
      (∀ k, k < n → (s1.readReg (a + 4 * k)).2 = s1) →
      exec (.regRead p) s = .next (s1.answers rowRegRead p1 Stat.OK ((List.range n).flatMap (fun k => leBytes 4 (s1.view (a + 4 * k)).toNat)))) ∧
    (Admitted rowRegWrite p s s1 p1 → p.params.length % 4 ≠ 0 ∨ rangeOk (numAt p.params 0 4) (writeValues p).length = false →
      exec (.regWrite p) s = .next (s1.answers rowRegWrite p1 Stat.BAD_PARAM [0, 0])) ∧
    (∀ x : State × Nat × Nat, x = s1.writeRegs true (numAt p.params 0 4) (writeValues p) 0 → Admitted rowRegWrite p s s1 p1 →
      p.params.length % 4 = 0 → rangeOk (numAt p.params 0 4) (writeValues p).length = true →
      exec (.regWrite p) s = .next (x.1.answers rowRegWrite p1 x.2.1 (if x.2.1 = Stat.OK then [] else leBytes 2 x.2.2)) ∧
      (x.2.1 = Stat.OK → x.2.2 = (writeValues p).length)) ∧
    (Admitted rowRegRmw p s s1 p1 → p.params.length ≠ 12 ∨ rangeOk (numAt p.params 0 4) 1 = false →
      exec (.regRmw p) s = .next (s1.answers rowRegRmw p1 Stat.BAD_PARAM [])) ∧
    (∀ x : State × Nat, x = s1.writeReg true (numAt p.params 0 4) (numAt p.params 4 4) (numAt p.params 8 4) →
      Admitted rowRegRmw p s s1 p1 → p.params.length = 12 → rangeOk (numAt p.params 0 4) 1 = true →
      (x.2 = Stat.OK → exec (.regRmw p) s = .next (x.1.answers rowRegRmw p1 Stat.OK (leBytes 4 (s1.view (numAt p.params 0 4)).toNat))) ∧
      (x.2 ≠ Stat.OK → exec (.regRmw p) s = .next (s1.answers rowRegRmw p1 x.2 []))) ∧
    (Admitted rowRegWrite p s s1 p1 → p.params = leBytes 4 A.TICK_ASYM_A ++ leBytes 4 v →
      ∃ u : State, exec (.regWrite p) s = .next (u.answers rowRegWrite p1 Stat.OK []) ∧ u.f F.TICK_ASYM_A_ASYM = v % 65536 ∧
        Touches [] [A.TICK_ASYM_A] s1 u) ∧
    (Admitted rowRegWrite p s s1 p1 → p.params = leBytes 4 A.TICK_HOLD ++ leBytes 4 v → s1.st ≠ ST.CONFIG →
      s1.on F.SAFE_PANEL_SEAL_OK = true → v % 128 ≠ s1.f F.TICK_HOLD_HOLD_LIMIT →
      exec (.regWrite p) s = .next (s1.answers rowRegWrite p1 Stat.DENIED [0, 0])) ∧
    (Admitted rowRegRmw p s s1 p1 → p.params = leBytes 4 A.TICK_ASYM_A ++ leBytes 4 m ++ leBytes 4 v →
      ∃ u : State, exec (.regRmw p) s = .next (u.answers rowRegRmw p1 Stat.OK (leBytes 4 (s1.view A.TICK_ASYM_A).toNat)) ∧
        (∀ i, i < 16 → bit (u.f F.TICK_ASYM_A_ASYM) i = (if bit m i then bit v i else bit (s1.f F.TICK_ASYM_A_ASYM) i)) ∧
        Touches [] [A.TICK_ASYM_A] s1 u)) ∧
  (∀ (p p1 : Packet) (s s1 : State) (a : Nat),
    (Admitted rowMemWrite p s s1 p1 → p.params.length < 8 ∨ memRangeOk (numAt p.params 0 4) (p.params.length - 4) = false →
      exec (.memWrite p) s = .next (s1.answers rowMemWrite p1 Stat.BAD_PARAM [])) ∧
    (∀ (d : List Byte) (c : Nat), Admitted rowMemWrite p s s1 p1 → p.params = leBytes 4 a ++ d → a < 2 ^ 32 → memRangeOk a d.length = true →
      classOf a = some c → ∀ barred : Bool,
      barred = (c == 2 || (c == 1 && s1.st != ST.CONFIG) || (c == 0 && decide (0x10380000 < a + d.length))) →
      (barred = true → exec (.memWrite p) s = .next (s1.answers rowMemWrite p1 Stat.DENIED [])) ∧
      (∀ l, barred = false → c = 0 → s1.firstPending (linesOf 0 a d.length) = some l →
        exec (.memWrite p) s = .next ((s1.waitLine l 0x0211 p1).holds rowMemWrite p1)) ∧
      (barred = false → c = 1 ∨ s1.firstPending (linesOf 0 a d.length) = none →
        ∃ u : State, exec (.memWrite p) s = .next (u.answers rowMemWrite p1 Stat.OK []) ∧
          (∀ k m, a ≤ k → k < a + d.length → m < (if c = 1 then 2 else 1) →
            u.mem (s1.lineKey c m ((k - classBase c) / 64) + (k - classBase c) % 64) = d.getD (k - a) 0) ∧
          (∀ k, (∀ line, line ∈ linesOf c a d.length → ∀ m, m < 2 → k < s1.lineKey c m line ∨ s1.lineKey c m line + 64 ≤ k) → u.mem k = s1.mem k) ∧
          Touches [.bytes, .guard] [] s1 u)) ∧
    (∀ d : List Byte, Admitted rowMemWrite p s s1 p1 → p.params = leBytes 4 a ++ d → a < 2 ^ 32 → memRangeOk a d.length = true →
      classOf a = some 0 → a + d.length ≤ 0x10380000 → (∀ line, s1.remapOf 0 0 line = none) →
      s1.firstPending (linesOf 0 a d.length) = none →
      ∃ u : State, exec (.memWrite p) s = .next (u.answers rowMemWrite p1 Stat.OK []) ∧
        (∀ k, a ≤ k → k < a + d.length → u.mem k = d.getD (k - a) 0) ∧
        (∀ k, (k < a / 64 * 64 ∨ (a + d.length + 63) / 64 * 64 ≤ k) → u.mem k = s1.mem k) ∧
        Touches [.bytes, .guard] [] s1 u) ∧
    (Admitted rowMemRead p s s1 p1 → p.params.length ≠ 6 ∨ memRangeOk (numAt p.params 0 4) (numAt p.params 4 2) = false →
      exec (.memRead p) s = .next (s1.answers rowMemRead p1 Stat.BAD_PARAM [])) ∧
    (∀ n c, Admitted rowMemRead p s s1 p1 → p.params = leBytes 4 a ++ leBytes 2 n → a < 2 ^ 32 → n < 65536 → memRangeOk a n = true →
      classOf a = some c →
      (c = 2 → ∀ x : State × List Byte × Nat, x = s1.readRecorder a n →
        (x.2.2 = 0 → exec (.memRead p) s = .next (x.1.answers rowMemRead p1 Stat.OK x.2.1)) ∧
        (0 < x.2.2 → exec (.memRead p) s = .next (x.1.answers rowMemRead p1 Stat.FAULTED [BitVec.ofNat 8 FS.MGRD_PARITY]))) ∧
      (c ≠ 2 → ∀ x : State × Checked × Nat, x = s1.readLines c (linesOf c a n) →
        (∀ d : List Byte, x.2.1 = .data d → exec (.memRead p) s = .next (x.1.answers rowMemRead p1 Stat.OK (slice d (a % 64) n))) ∧
        (x.2.1 = .bad →
          exec (.memRead p) s = .next (x.1.answers rowMemRead p1 Stat.FAULTED [BitVec.ofNat 8 (if c = 0 then FS.MGRD_SRAM_UE else FS.MGRD_TABLE_UE)])) ∧
        (x.2.1 = .pending → exec (.memRead p) s = .next ((x.1.waitLine x.2.2 0x0210 p1).holds rowMemRead p1)))) ∧
    (∀ n : Nat, Admitted rowMemRead p s s1 p1 → p.params = leBytes 4 a ++ leBytes 2 n → a < 2 ^ 32 → memRangeOk a n = true → classOf a = some 2 →
      (∀ line, s1.remapOf 2 0 line = none) → (∀ k, a ≤ k → k < a + n → s1.lineValid (k / 64 * 64) = true ∧ Map.get false s1.guard.parity k = false) →
      exec (.memRead p) s = .next (s1.answers rowMemRead p1 Stat.OK (s1.memRead a n))))

/-- 03 R80, R82 to R84, R108: LANE_RESTART (a leaving of UP at the lane's own rate counts towards the fall-back), LANE_RATE, EQ_LOAD (a
pair it omits goes back to the default) and PRBS_START on a lane they may act on, with their frames. The generator's first
register contents are a free value, never zero (DESIGN CHOICE, assumption 31). -/
def Obligations.LaneCommands : Prop :=
  ∀ (n : Fin 32) (p p1 : Packet) (s s1 : State),
    (Admitted rowLaneRestart p s s1 p1 → p.params = leBytes 1 n → s1.laneEnabled n = true → s1.onlyLane n = false → cameOn p n = false →
      ∃ u : State, exec (.laneRestart p) s = .next (u.answers rowLaneRestart p1 Stat.OK []) ∧ u.laneSt n = 7 ∧ (u.lane n).since = s1.now ∧
        (s1.laneUp n = false ∨ s1.f (F.LANE_STATUS_RATE_NOW n) ≠ (s1.setF (F.LANE_STATUS_DEGRADED n) 0).startRate n →
          u.on (F.LANE_STATUS_DEGRADED n) = false ∧ (u.lane n).lossAt = [] ∧
          (2 ≤ n.val → s1.f (F.LANE_CFG_MODE n) ≠ 1 → u.f (F.LANE_STATUS_RATE_NOW n) = s1.f (F.LANE_CFG_RATE n)) ∧
          Touches [.lanes, .recorder, .units] (lowerRegs n) s1 u) ∧
        (s1.laneUp n = true → s1.f (F.LANE_STATUS_RATE_NOW n) = (s1.setF (F.LANE_STATUS_DEGRADED n) 0).startRate n →
          (s1.laneKind n = 2 → (slide 10000000000 s1.now (s1.lane n).lossAt).length < 3 →
            u.on (F.LANE_STATUS_DEGRADED n) = false ∧ u.f (F.LANE_STATUS_RATE_NOW n) = s1.f (F.LANE_STATUS_RATE_NOW n) ∧
            (u.lane n).lossAt = slide 10000000000 s1.now (s1.lane n).lossAt) ∧
          (∀ r, s1.laneKind n = 2 → 3 ≤ (slide 10000000000 s1.now (s1.lane n).lossAt).length →
            s1.rateBelow n (s1.f (F.LANE_STATUS_RATE_NOW n)) = some r →
            u.on (F.LANE_STATUS_DEGRADED n) = true ∧ u.f (F.LANE_STATUS_RATE_NOW n) = r % 4 ∧ FS.LANE_DEGRADED ∈ u.hub.raised) ∧
          Touches [.lanes, .recorder, .units, .hub] [A.LANE_STATUS n, A.CMD_DL n, A.CMD_CAP] s1 u)) ∧
    (∀ r, Admitted rowLaneRate p s s1 p1 → p.params = leBytes 1 n ++ leBytes 1 r → r ≤ 3 → s1.rateFixed n = false →
      (s1.laneUp n = false →
        ∃ u : State, exec (.laneRate p) s = .next (u.answers rowLaneRate p1 Stat.OK []) ∧ u.f (F.LANE_CFG_RATE n) = r ∧
          u.f (F.LANE_STATUS_RATE_NOW n) = r ∧ u.on (F.LANE_STATUS_DEGRADED n) = false ∧ u.laneSt n = s1.laneSt n ∧
          Touches [.lanes] [A.LANE_CFG n, A.LANE_STATUS n] s1 u) ∧
      (s1.laneUp n = true → s1.onlyLane n = false → cameOn p n = false →
        ∃ u : State, exec (.laneRate p) s = .next (u.answers rowLaneRate p1 Stat.OK []) ∧ u.f (F.LANE_CFG_RATE n) = r ∧ u.laneSt n = 7 ∧
          (s1.f (F.LANE_STATUS_RATE_NOW n) ≠ r → u.f (F.LANE_STATUS_RATE_NOW n) = r ∧ u.on (F.LANE_STATUS_DEGRADED n) = false ∧
            (u.lane n).lossAt = [] ∧ u.hub = s1.hub) ∧
          (s1.f (F.LANE_STATUS_RATE_NOW n) = r → (slide 10000000000 s1.now (s1.lane n).lossAt).length < 3 →
            u.f (F.LANE_STATUS_RATE_NOW n) = r ∧ u.on (F.LANE_STATUS_DEGRADED n) = false ∧ u.hub = s1.hub) ∧
          Touches [.lanes, .recorder, .units, .hub] [A.LANE_CFG n, A.LANE_STATUS n, A.CMD_DL n, A.CMD_CAP] s1 u)) ∧
    (∀ k : Nat, Admitted rowEqLoad p s s1 p1 → s1.st = ST.CONFIG → p.params.length = 8 + 4 * k → numAt p.params 0 1 = 1 → numAt p.params 1 1 = k →
      1 ≤ k → k ≤ 128 → crc32 (p.params.take 4 ++ p.params.drop 8) = numAt p.params 4 4 →
      (∀ i, i < k → eqEntryOk (slice p.params (8 + 4 * i) 4) = true) →
      (∀ i j, i < j → j < k → numAt p.params (8 + 4 * i) 1 ≠ numAt p.params (8 + 4 * j) 1) →
      ∃ u : State, exec (.eqLoad p) s = .next (u.answers rowEqLoad p1 Stat.OK []) ∧ u.node.board = numAt p.params 2 2 ∧
        (∀ i, i < k → Map.get 0x3820 (u.lane (numAt p.params (8 + 4 * i) 1 % 32)).eq (numAt p.params (8 + 4 * i) 1 / 64) =
          eqWord (slice p.params (8 + 4 * i) 4)) ∧
        (∀ (m : Fin 32) (q : Fin 4), (∀ i, i < k → numAt p.params (8 + 4 * i) 1 ≠ m + 64 * q) → Map.get 0x3820 (u.lane m).eq q = 0x3820) ∧
        Touches [.lanes, .node] [] s1 u) ∧
    (∀ pat mode ms, Admitted rowPrbsStart p s s1 p1 → p.params = leBytes 1 n ++ leBytes 1 pat ++ leBytes 1 mode ++ leBytes 4 ms → pat ≤ 3 →
      1 ≤ mode → mode ≤ 3 → 1 ≤ ms → ms ≤ 600000 → s1.onlyLane n = false → s1.isXlink n = false → s1.f (F.LANE_CFG_MODE n) ≠ 1 →
      cameOn p n = false → s1.laneEnabled n = true → s1.laneSt n ≠ 0 →
      ∃ u : State, exec (.prbsStart p) s = .next (u.answers rowPrbsStart p1 Stat.OK []) ∧ u.laneSt n = 6 ∧
        u.f (F.LANE_PRBS_TMODE n) = mode ∧ u.f (F.LANE_PRBS_PATTERN n) = pat ∧ u.on (F.LANE_PRBS_RUN n) = true ∧
        u.f (F.LANE_PRBS_ERR_COUNT n) = 0 ∧ u.f (F.LANE_PRBS_TIME_COUNT n) = 0 ∧ (u.lane n).prbsStart = s1.now ∧
        (u.lane n).prbsEnd = s1.now + ms * 1000000 ∧ (u.lane n).prbsSeed % 2 = 1 ∧
        Touches [.lanes, .recorder, .units, .free] [A.LANE_STATUS n, A.CMD_DL n, A.CMD_CAP, A.LANE_PRBS n, A.LANE_PRBS_ERR n, A.LANE_PRBS_TIME n] s1 u)

/-- 03 R86, R88, R108: MOD_READ and MOD_WRITE set the multiplexer in front of a lane's module, do one transfer with it and answer as it ends: with the bytes, with
TIMEOUT when it does not acknowledge, or later while it holds the bus. How a transfer ends, and the bytes, are free values
(DESIGN CHOICE, assumption 34).
01 R29, R35, R39, R40; 02 R70: TREE_LOAD of a record that passes every check is in force with its strings and entries and the
Meadow assigned; TREE_SURVEY waits for its lanes; TIME_SET of a whole number of ticks waits for its load instant; with their frames.
How long a survey takes is a free value (DESIGN CHOICE, assumption 27). -/
def Obligations.ModuleTreeAndTimeCommands : Prop :=
  (∀ (n : Fin 32) (ofs len : Nat) (p p1 : Packet) (s s1 : State),
    (∀ dev, Admitted rowModRead p s s1 p1 → p.params = leBytes 1 n ++ leBytes 1 dev ++ leBytes 1 ofs ++ leBytes 1 len → dev = 0xA0 ∨ dev = 0xA2 →
      1 ≤ len → len ≤ 64 → ofs + len ≤ 256 →
      ∃ u : State, u = { s1.selectMux n with freeCount := s1.freeCount + 1 } ∧
        exec (.modRead p) s = .next (match Config.i2cAnswer s1.freeCount with
          | .ack => u.answers rowModRead p1 Stat.OK (moduleBytes s1.freeCount (s1.modulePlace n) dev ofs len)
          | .noAck => u.answers rowModRead p1 Stat.TIMEOUT []
          | .held => (u.updLane n (fun l => { l with i2c := some p1, i2cAt := s1.now })).holds rowModRead p1)) ∧
    (∀ d : List Byte, Admitted rowModWrite p s s1 p1 → p.params = leBytes 1 n ++ leBytes 1 ofs ++ leBytes 1 len ++ d → d.length = len → 1 ≤ len → len ≤ 8 →
      110 ≤ ofs → ofs + len ≤ 128 →
      ∃ u : State, u = { s1.selectMux n with freeCount := s1.freeCount + 1 } ∧
        exec (.modWrite p) s = .next (match Config.i2cAnswer s1.freeCount with
          | .ack => u.answers rowModWrite p1 Stat.OK []
          | .noAck => u.answers rowModWrite p1 Stat.TIMEOUT []
          | .held => (u.updLane n (fun l => { l with i2c := some p1, i2cAt := s1.now })).holds rowModWrite p1)) ∧
    (s1.moduleMux n = 0 → s1.selectMux n = s1) ∧
    (s1.moduleMux n ≠ 0 → Touches [.node] [] s1 (s1.selectMux n) ∧
      Map.get (0, 0) (s1.selectMux n).node.mux (s1.moduleBus n) = (s1.moduleMux n, 2 ^ s1.f (F.LANE_MOD_MUX_CH n)))) ∧
  (∀ (p p1 : Packet) (s s1 : State),
    (Admitted rowTreeLoad p s s1 p1 → s1.st = ST.CONFIG → p.params.length ≤ 131088 → s1.recordRefused p.params = none →
      ∃ u : State, exec (.treeLoad p) s = .next (u.answers rowTreeLoad p1 Stat.OK []) ∧ u.tree.strings = numAt p.params 1 1 ∧
        u.tree.record = entriesOf (p.params.drop 16) ∧ u.on F.CMD_NODE_ASSIGNED = true ∧ u.addr = s1.addr ∧
        Touches [.tree, .units, .lanes, .recorder] unitRegs s1 u) ∧
    (Admitted rowTreeSurvey p s s1 p1 → p.params.length = 4 →
      (bitList 32 (numAt p.params 0 4)).all (fun n => decide (2 ≤ n) && s1.use n != USE.XLINK && s1.f (F.LANE_CFG_MODE n) != 1) = true →
      ∃ (u : State) (t : Nat), exec (.treeSurvey p) s = .next (u.holds rowTreeSurvey p1) ∧ u.tree.survey = some (p1, numAt p.params 0 4, t) ∧
        s1.now ≤ t ∧ u.freeCount = s1.freeCount + 1 ∧
        Touches [.lanes, .tree, .free] ((bitList 32 (numAt p.params 0 4)).map A.LANE_STATUS) s1 u) ∧
    (∀ v m, Admitted rowTimeSet p s s1 p1 → p.params = leBytes 8 v ++ leBytes 1 m → m ≤ 1 → v < 2 ^ 64 → v % (s1.clk.tickLen * 2) = 0 → s1.st ≠ ST.RUN →
      ∃ u : State, exec (.timeSet p) s = .next (u.holds rowTimeSet p1) ∧ u.clk.timeSet = some (p1, v, m, s1.clk.nowPs) ∧
        u.clk.timePs = s1.clk.timePs ∧ Touches [.clk] [] s1 u))

/-- 03 R72, R98: a framed segment is received as it was sent, also when a tick frame suspended it.
01 R36, 03 R96, R99, R100, R102, 04 R112: a COMMAND, REPLY, RECORD or TREND segment for another node waits, unchanged, in the transmit
buffer of the lane its DEST routes to; a segment too short to be one is counted in SCRC, and one that ended with /V/ too, with a
cut-through copy that ends with /V/ where its output is not faster; SEGMENT_TX_START sends the only waiting segment; with their frames. -/
def Obligations.SegmentsForwarded : Prop :=
  (∀ (bad : Bool) (b : List Byte), received (framed bad b) = [(b, bad)]) ∧
  (∀ (b f : List Byte) (k : Nat), 1 ≤ k → k ≤ b.length + 1 →
    received ((framed false b).take k ++ framed false f ++ [.resume] ++ (framed false b).drop k) = [(f, false), (b, false)]) ∧
  ∀ (n out : Fin 32) (line : List Sym) (b : List Byte) (g : Segment) (s : State), s.running = true →
    (s.laneUp n = true → parseSeg b = some g → s.route g.dest = .lane out →
      roomFor (s.lane out).txq { prio := segPrio g.kind (g.ctl % 4), inLane := n, ready := s.clk.nowPs / 2000, bytes := b } = true →
      (routedKind g.kind = true → received line = [(b, false)] →
        ∃ t : State, exec (.segmentForward n line) s = .next t.wrapUp ∧
          (t.lane out).txq = (s.lane out).txq ++ [{ prio := segPrio g.kind (g.ctl % 4), inLane := n, ready := s.clk.nowPs / 2000, bytes := b }] ∧
          Touches [.lanes] [] s t) ∧
      (g.kind = KIND.REPLY →
        ∃ t : State, exec (.reply n b) s = .next t.wrapUp ∧
          (t.lane out).txq = (s.lane out).txq ++ [{ prio := segPrio g.kind (g.ctl % 4), inLane := n, ready := s.clk.nowPs / 2000, bytes := b }] ∧
          Touches [.lanes] [] s t) ∧
      (g.kind = KIND.COMMAND → bit g.ctl 4 = false →
        ∃ t : State, exec (.command (.lane n b)) s = .next t.wrapUp ∧
          (t.lane out).txq = (s.lane out).txq ++ [{ prio := segPrio g.kind (g.ctl % 4), inLane := n, ready := s.clk.nowPs / 2000, bytes := b }] ∧
          Touches [.lanes] [] s t)) ∧
    (s.laneUp n = true → numAt b 0 1 = 0x13 → b.length < 12 → routedKind (segKind b) = true → s.onward n (segKind b) (segDest b) = [] →
      received line = [(b, false)] →
      ∃ t : State, exec (.segmentForward n line) s = .next t.wrapUp ∧
        t.f (F.LANE_SEG_SCRC n) = min (s.f (F.LANE_SEG_SCRC n) + 1) 65535 ∧ Touches [.lanes] [A.LANE_SEG n] s t) ∧
    (s.laneUp n = true → numAt b 0 1 = 0x13 → 8 ≤ b.length → received line = [(b, true)] → s.onward n (segKind b) (segDest b) = [out.val] →
      roomFor (s.lane out).txq { prio := segPrio (segKind b) (segClass b), inLane := n, bad := true, bytes := b } = true →
      ∃ t : State, exec (.segmentForward n line) s = .next t.wrapUp ∧
        t.f (F.LANE_SEG_SCRC n) = min (s.f (F.LANE_SEG_SCRC n) + 1) 65535 ∧
        (t.lane out).txq = (s.lane out).txq ++ (if s.f (F.LANE_STATUS_RATE_NOW out) ≤ s.f (F.LANE_STATUS_RATE_NOW n) then
          [{ prio := segPrio (segKind b) (segClass b), inLane := n, ready := s.clk.nowPs / 2000, bad := true, bytes := b }] else []) ∧
        Touches [.lanes] [A.LANE_SEG n] s t) ∧
    (∀ x : TxItem, s.laneUp n = true → (s.lane n).txq = [x] → x.eth = false → (s.lane n).assignRest = [] →
      ∃ t : State, exec (.segmentTxStart n) s = .next t.wrapUp ∧ (t.lane n).txq = [] ∧
        (x.inLane ≠ 32 → (t.lane n).txNow = some x ∧ (t.lane n).line = framed x.bad x.bytes ∧ Touches [.lanes] [] s t) ∧
        (x.inLane = 32 → (t.lane n).txNow = some { x with bytes := s.stampReply x.bytes } ∧
          (t.lane n).line = framed x.bad (s.stampReply x.bytes) ∧ Touches [.lanes, .recorder] [A.TWIN_IMG] s t))

/-- 01 R36, 04 R109, R110, R112, R117, R119: a command for this node in one segment, or from a core, is taken as its opcode's row; one
that is routed nowhere from its entry node is refused with ROUTE_FAIL; one sent onward is tracked with its deadline, or with the tick of
its slot, and refused where 64 are tracked or its SOURCE and SEQ already are; a reply ends tracking and reaches its port, one
after the TIMEOUT reply is discarded and counted; the timeout itself (of a command without a reply it ends the tracking only,
DESIGN CHOICE, assumption 19; the count of a REG_WRITE's is a free value, assumption 15); the end of the interpreter's wait,
for a command that holds execution and for another; with their frames. -/
def Obligations.CommandsAndReplies : Prop :=
  ∀ (n : Fin 32) (b : List Byte) (g : Segment) (op : Nat) (p : Packet) (s : State), s.running = true →
    (∀ r : OpRow, s.laneUp n = true → parseSeg b = some g → g.kind = KIND.COMMAND → bit g.ctl 4 = false → g.dest = s.addr → bit g.ctl 2 = true →
      bit g.ctl 3 = true → g.frag = 0 → parsePacket g.payload = some (op, p) → opRow op = some r →
      ∃ u : State, exec (.command (.lane n b)) s = .next (runCommand r { p with lane := some n } u) ∧ Touches [.lanes] [] s u) ∧
    (∀ (k : Fin 5) (r : OpRow), parsePacket b = some (op, p) → p.cls ≠ 0 → p.target.toNat = s.addr → opRow op = some r →
      ∃ u : State, exec (.command (.core k b)) s = .next (runCommand r p u) ∧ Touches [.cmd] [] s u) ∧
    (∀ (k : Fin 5), parsePacket b = some (op, p) → p.cls ≠ 0 → p.mcast = false → s.route p.target.toNat = .fail →
      ∃ u : State, exec (.command (.core k b)) s = .next (u.reply op p false Stat.ROUTE_FAIL (refusalPayload op)).wrapUp ∧ Touches [.cmd] [] s u) ∧
    (∀ (k : Fin 5) out, parsePacket b = some (op, p) → p.cls ≠ 0 → p.mcast = false → s.route p.target.toNat = .lane out →
      ((∀ x ∈ s.cmd.tracked, x.source ≠ p.source ∨ x.seq ≠ p.seq) → s.cmd.tracked.length < 64 →
        ∃ (u : State) (x : Tracked), exec (.command (.core k b)) s = .next u.wrapUp ∧ u.cmd.tracked = s.cmd.tracked ++ [x] ∧ x.source = p.source ∧
          x.seq = p.seq ∧ x.silent = p.noReply ∧ x.deadline = s.now + s.f F.CMD_TMO_TMO_BE * 100000 ∧
          Touches [.cmd, .lanes, .hub] [A.LANE_SEG out] s u) ∧
      ((∀ x ∈ s.cmd.tracked, x.source ≠ p.source ∨ x.seq ≠ p.seq) → 64 ≤ s.cmd.tracked.length →
        ∃ u : State, exec (.command (.core k b)) s = .next (u.reply op p false Stat.BUSY (refusalPayload op)).wrapUp ∧ Touches [.cmd] [] s u) ∧
      ((∃ x ∈ s.cmd.tracked, x.source = p.source ∧ x.seq = p.seq) →
        ∃ u : State, exec (.command (.core k b)) s = .next (u.reply op p false Stat.BAD_PARAM (refusalPayload op)).wrapUp ∧ Touches [.cmd] [] s u)) ∧
    (∀ (k : Fin 5) out unit, parsePacket b = some (op, p) → p.cls = 0 → p.params.length ≤ 16 → p.auth = false → p.mcast = false → s.route p.target.toNat = .lane out →
      (∀ x ∈ s.cmd.tracked, (x.source ≠ p.source ∨ x.seq ≠ p.seq) ∧ (x.slotTick = none ∨ x.unit ≠ unit)) → s.cmd.tracked.length < 64 →
      s.activeMeadow = true → s.rangeUnit p.target.toNat = some unit → s.cmd.c0q = [] → s.slotsClosed = false → Map.get [] s.cmd.slotsOut unit = [] →
      ∃ (u : State) (x : Tracked), exec (.command (.core k b)) s = .next u.wrapUp ∧ u.cmd.tracked = s.cmd.tracked ++ [x] ∧ x.source = p.source ∧
        x.seq = p.seq ∧ x.slotTick = some s.tickNo ∧ x.unit = unit ∧ Map.get [] u.cmd.slotsOut unit = slotBytes (pktBytes op p) ∧
        Touches [.cmd] [] s u) ∧
    (s.laneUp n = true → parseSeg b = some g → g.kind = KIND.REPLY → g.dest = s.addr → bit g.ctl 2 = true → bit g.ctl 3 = true →
      g.frag = 0 → s.safe.remote = none → s.cmd.c0q = [] → numAt (slotReply g.payload) 8 2 = s.addr →
      (s.cmd.timedOut.contains (s.addr * 65536 + numAt (slotReply g.payload) 6 2) = false →
        ∃ t : State, exec (.reply n b) s = .next t.wrapUp ∧ t.cmd.coreReplies = s.cmd.coreReplies ++
            [(s.srcMac (s.addr * 65536 + numAt (slotReply g.payload) 6 2), slotReply g.payload)] ∧
          (∀ x ∈ t.cmd.tracked, x.source.toNat ≠ s.addr ∨ x.seq.toNat ≠ numAt (slotReply g.payload) 6 2) ∧ Touches [.lanes, .cmd] [] s t) ∧
      (s.cmd.timedOut.contains (s.addr * 65536 + numAt (slotReply g.payload) 6 2) = true →
        ∃ t : State, exec (.reply n b) s = .next t.wrapUp ∧ t.cmd.coreReplies = s.cmd.coreReplies ∧
          t.f F.CMD_STAT_LATE_REPLY = min (s.f F.CMD_STAT_LATE_REPLY + 1) 255 ∧ Touches [.lanes, .cmd] [A.CMD_STAT] s t)) ∧
    (∀ (src seq : BitVec 16) (x : Tracked), s.cmd.tracked.find? (fun y => y.source == src && y.seq == seq) = some x → x.slotTick = none →
      x.deadline ≠ 0 → src.toNat < 8192 → s.cmd.c0q = [] →
      (x.silent = false →
        ∃ (t : State) (r : List Byte), exec (.commandTimeout src seq) s = .next t.wrapUp ∧ x.deadline ≤ t.now ∧ FS.CMD_TIMEOUT ∈ t.hub.raised ∧
          t.f F.CMD_STAT_TIMEOUTS = min (s.f F.CMD_STAT_TIMEOUTS + 1) 255 ∧ (∀ y ∈ t.cmd.tracked, y.source ≠ src ∨ y.seq ≠ seq) ∧
          t.cmd.coreReplies = s.cmd.coreReplies ++ [(s.srcMac (src.toNat * 65536 + seq.toNat), r)] ∧ r.getD 12 0 = BitVec.ofNat 8 Stat.TIMEOUT ∧
          r.length = (if x.opcode = 0x0201 then 18 else 16) ∧ Touches [.cmd, .clk, .hub, .free] [A.CMD_STAT] s t) ∧
      (x.silent = true →
        ∃ t : State, exec (.commandTimeout src seq) s = .next t.wrapUp ∧ x.deadline ≤ t.now ∧
          (∀ y ∈ t.cmd.tracked, y.source ≠ src ∨ y.seq ≠ seq) ∧ t.cmd.coreReplies = s.cmd.coreReplies ∧ Touches [.cmd, .clk] [] s t)) ∧
    (∀ (o : BitVec 16) (q : Packet), s.cmd.busy = some (o.toNat, q) → (opRow o.toNat).isSome = true → p = { q with ks := [] } →
      (∃ u : State, exec (.cmdRetryExpiry o 0 p) s = .next (u.reply o.toNat q false Stat.BUSY (refusalPayload o.toNat)).wrapUp ∧
        u.cmd.busy = none ∧ Touches [.cmd] [] s u) ∧
      (∀ v, o = 0x0201 → q.params.take 8 = leBytes 4 A.TICK_ASYM_A ++ leBytes 4 v →
        ∃ u : State, exec (.cmdRetryExpiry o 1 p) s = .next (u.reply 0x0201 q false Stat.BUSY [1, 0]).wrapUp ∧
          u.cmd.busy = none ∧ u.f F.TICK_ASYM_A_ASYM = v % 65536 ∧ Touches [.cmd] [A.TICK_ASYM_A] s u)) ∧
    (∀ (o : BitVec 16) (r : OpRow) (p1 : Packet) (s1 : State), s.cmd.busy = none → opRow o.toNat = some r → s.vet r p = (s1, p1, Stat.OK) →
      ∃ u : State, exec (.cmdRetryExpiry o 0 p) s = .next (u.reply o.toNat p1 false Stat.BUSY (refusalPayload o.toNat)).wrapUp ∧
        Touches [] [] s1 u)

/-- 03 R101, 12 R341, 14 R382, R383, 15 R407, 17 R441: MULTICAST, MIRROR, EVENT and LIFE segments: the first block of an image
starts its staging; a mirrored word is loaded and its image number kept; a child's report goes upward; with their frames. -/
def Obligations.ReportsAndImages : Prop :=
  ∀ (n out : Fin 32) (b : List Byte) (g : Segment) (s : State), s.running = true → s.laneUp n = true → parseSeg b = some g →
    (g.kind = KIND.MULTICAST → s.covered (some n) g.dest = false → s.route g.dest = .lane out →
      roomFor (s.lane out).txq { prio := 5, inLane := n, ready := s.clk.nowPs / 2000, bytes := b } = true →
      ∃ t : State, exec (.multicast n b) s = .next t.wrapUp ∧
        (t.lane out).txq = (s.lane out).txq ++ [{ prio := 5, inLane := n, ready := s.clk.nowPs / 2000, bytes := b }] ∧ Touches [.lanes] [] s t) ∧
    (g.kind = KIND.MULTICAST → s.covered (some n) g.dest = true → s.units = [] → s.mateCopy (some n) g.dest = false → s.mateCovered g.dest = false →
      s.stagesImage = true → s.tree.taken ≠ [] → s.on F.SYS_STATE_IMG_OK = false → s.node.imgPend = none → s.node.imgId = none →
      16 ≤ g.payload.length → 1 ≤ numAt g.payload 4 4 → numAt g.payload 4 4 ≤ 4194304 →
      (numAt g.payload 4 4 + 65535) / 65536 ≤ s.freePages.length →
      ∃ t : State, exec (.multicast n b) s = .next t.wrapUp ∧ t.node.imgId = some (numAt g.payload 0 4) ∧ t.node.imgLen = numAt g.payload 4 4 ∧
        t.f F.SYS_LOAD_TOTAL = blockCount (numAt g.payload 4 4) ∧
        Touches [.lanes, .node, .bytes, .guard] [A.SYS_LOAD, A.REC_POOL] s t) ∧
    (∀ (o : Nat) (w : Word) (q : Nat), g.kind = KIND.MIRROR → s.isXlink n = true → bit g.ctl 2 = true → bit g.ctl 3 = true → g.frag = 0 → s.isTwin = true →
      s.twinRole = ROLE.READY ∨ s.twinRole = ROLE.SYNC → s.twin.partner.seen = false → o < 2048 → q < 2 ^ 32 →
      g.payload = leBytes 4 q ++ leBytes 4 0 ++ [1, 1] ++ leBytes 2 o ++ leBytes 4 w.toNat →
      ∃ t : State, exec (.mirror n b) s = .next t.wrapUp ∧ t.word o = w ∧ (∀ i, i ≠ o → t.word i = s.word i) ∧
        t.f F.TWIN_IMG_IMG_SEQ = q ∧ t.f F.TWIN_AGE_IMG_AGE = 0 ∧ Touches [.lanes, .loop, .twin] [A.TWIN_IMG, A.TWIN_AGE] s t) ∧
    (g.kind = KIND.EVENT → s.activeMeadow = false → s.uplinks.contains n.val = false → s.isXlink n = false →
      s.reportLane = some out.val →
      roomFor (s.lane out).txq { prio := 6, inLane := n, ready := s.clk.nowPs / 2000, bytes := b } = true →
      ∃ t : State, exec (.event n b) s = .next t.wrapUp ∧
        (t.lane out).txq = (s.lane out).txq ++ [{ prio := 6, inLane := n, ready := s.clk.nowPs / 2000, bytes := b }] ∧ Touches [.lanes] [] s t) ∧
    (∀ u : Subscriber, g.kind = KIND.EVENT → s.activeMeadow = true → s.subscribers KIND.EVENT = [u] → u.source.toNat = s.addr →
      ∃ t : State, exec (.event n b) s = .next t.wrapUp ∧
        t.cmd.coreReplies = s.cmd.coreReplies ++ [(u.mac, g.payload)] ∧ Touches [.lanes, .cmd] [] s t) ∧
    (g.kind = KIND.LIFE → s.activeMeadow = false → s.uplinks.contains n.val = false → s.isXlink n = false →
      s.reportLane = some out.val →
      roomFor (s.lane out).txq { prio := 6, inLane := n, ready := s.clk.nowPs / 2000, bytes := b } = true →
      ∃ t : State, exec (.life n b) s = .next t.wrapUp ∧
        (t.lane out).txq = (s.lane out).txq ++ [{ prio := 6, inLane := n, ready := s.clk.nowPs / 2000, bytes := b }] ∧ Touches [.lanes] [] s t) ∧
    (∀ u : Subscriber, g.kind = KIND.LIFE → s.activeMeadow = true → s.subscribers KIND.LIFE = [u] → u.source.toNat = s.addr →
      ∃ t : State, exec (.life n b) s = .next t.wrapUp ∧
        t.cmd.coreReplies = s.cmd.coreReplies ++ [(u.mac, g.payload)] ∧ Touches [.lanes, .cmd] [] s t)

/-- 01 R31 to R38: an unassigned node takes an assignment that fits it, with address, level and kind, and enters SYNC, or answers the
reason it does not; an assigned one answers a repetition; the parent repeats ASSIGN, takes its answers, and reports a unit absent;
an answer when no ASSIGN is outstanding is ignored (DESIGN CHOICE, assumption 32); with their frames. -/
def Obligations.Assignment : Prop :=
  ∀ (n : Fin 32) (b : List Byte) (g : Segment) (s : State), s.running = true →
    (s.laneUp n = true → parseSeg b = some g → g.kind = KIND.ASSIGN → bit g.ctl 2 = true → bit g.ctl 3 = true → g.frag = 0 → 16 ≤ g.payload.length →
      ST.LINK ≤ s.st → s.isMeadow = false → s.uplinks.contains n.val = true →
      (s.on F.CMD_NODE_ASSIGNED = false → s.nakReason n (g.payload.take 16) = 0 →
        ∃ t : State, exec (.assign n b) s = .next t.wrapUp ∧ t.addr = eAddr g.payload % 8192 ∧ t.on F.CMD_NODE_ASSIGNED = true ∧
          t.f F.CMD_NODE_LEVEL = eLevel g.payload % 8 ∧ t.f F.CMD_NODE_KIND = eKind g.payload % 4 ∧ t.tree.taken = g.payload ∧ t.st = ST.SYNC ∧
          t.clk.timePs = s.clk.timePs ∧ Touches ([.tree, .units, .recorder] ++ goParts) (unitRegs ++ goRegs) s t) ∧
      (s.on F.CMD_NODE_ASSIGNED = false → s.nakReason n (g.payload.take 16) ≠ 0 →
        ∃ u : State, exec (.assign n b) s = .next (u.answerAssign n KIND.ASSIGN_NAK g.payload
            [BitVec.ofNat 8 (s.nakReason n (g.payload.take 16))]).wrapUp ∧ Touches [.lanes] [] s u) ∧
      (s.on F.CMD_NODE_ASSIGNED = true → g.payload = s.tree.taken →
        ∃ u : State, exec (.assign n b) s = .next (u.answerAssign n KIND.ASSIGN_ACK g.payload []).wrapUp ∧ Touches [.lanes] [] s u)) ∧
    (s.laneUp n = true → (s.lane n).assign ≠ [] →
      (∃ t : State, exec (.assignRepeat n) s = .next t.wrapUp ∧ (s.lane n).assignAt + 100000 ≤ t.now ∧ (t.lane n).assignAt = t.now ∧
        ((s.lane n).assignRest = [] →
          queued (s.lane n).txq + ((message KIND.ASSIGN 0 (s.f (F.CMD_DL_FAR_ADDR n)) false (s.assignPayload n)).map List.length).sum ≤ 14336 →
          (t.lane n).txq.map (·.bytes) =
            (s.lane n).txq.map (·.bytes) ++ message KIND.ASSIGN 0 (s.f (F.CMD_DL_FAR_ADDR n)) false (s.assignPayload n)) ∧
        queued (t.lane n).txq ≤ max (queued (s.lane n).txq) 16384 ∧
        Touches [.lanes, .clk] [] s t) ∧
      (parseSeg b = some g → g.kind = KIND.ASSIGN_ACK →
        ∃ t : State, exec (.assignAck n b) s = .next t.wrapUp ∧ t.on (F.CMD_DL_PRESENT n) = true ∧ t.on (F.CMD_DL_NAK n) = false ∧
          (t.lane n).assign = [] ∧ Touches [.lanes, .units] [A.CMD_DL n, A.CMD_CAP] s t) ∧
      (parseSeg b = some g → g.kind = KIND.ASSIGN_NAK →
        ∃ t : State, exec (.assignNak n b) s = .next t.wrapUp ∧ t.on (F.CMD_DL_PRESENT n) = false ∧ t.on (F.CMD_DL_NAK n) = true ∧
          (t.lane n).assign = [] ∧ FS.TOPO_MISMATCH ∈ t.hub.raised ∧ Touches [.lanes, .units, .hub] [A.CMD_DL n, A.CMD_CAP] s t)) ∧
    (s.units.contains n.val = true → s.unitPresent n = false → (s.unit n).absentRaised = false → yarState s.st = true →
      ∃ t : State, exec (.topoUnitAbsent n) s = .next t.wrapUp ∧ t.hub.raised = s.hub.raised ++ [FS.TOPO_UNIT_ABSENT] ∧
        (t.unit n).absentRaised = true ∧ ((s.unit n).lost = false → s.node.runAt + 1000000000 ≤ t.now) ∧ Touches [.units, .hub, .clk] [] s t) ∧
    (s.laneUp n = false →
      exec (.assign n b) s = .next s.wrapUp ∧ exec (.assignAck n b) s = .next s.wrapUp ∧ exec (.assignNak n b) s = .next s.wrapUp) ∧
    (s.laneUp n = true → parseSeg b = some g → (s.lane n).assign = [] →
      exec (.assignRepeat n) s = .next s.wrapUp ∧
      (g.kind = KIND.ASSIGN_NAK → ∃ t : State, exec (.assignNak n b) s = .next t.wrapUp ∧ Touches [.lanes] [] s t)) ∧
    (s.units.contains n.val = false ∨ s.unitPresent n = true → exec (.topoUnitAbsent n) s = .next s.wrapUp)

/-- 03 R106, 04 R117, R122, R132, R133: an Ethernet frame with a command for this node, a packet in the QSPI mailbox, reads and writes
over QSPI, its status and unlisted instructions, and allocation requests, those of one clk in port order (R123); what is not
accepted is counted and dropped; with their frames. -/
def Obligations.Ports : Prop :=
  ∀ (n : Fin 32) (b : List Byte) (s : State), s.running = true →
    (s.laneSt n = 8 → s.etherOk b = false →
      ∃ t : State, exec (.hostFrame n b) s = .next t.wrapUp ∧ t.f (F.LANE_SEG_DROP n) = min (s.f (F.LANE_SEG_DROP n) + 1) 65535 ∧
        Touches [.lanes] [A.LANE_SEG n] s t) ∧
    (∀ (g : Segment) (op : Nat) (p : Packet) (r : OpRow), s.laneSt n = 8 → s.etherOk b = true → parseSeg (etherSegment b) = some g → g.kind = KIND.COMMAND →
      bit g.ctl 2 = true → bit g.ctl 3 = true → g.frag = 0 → parsePacket g.payload = some (op, p) → p.cls ≠ 0 → p.target.toNat = s.addr →
      opRow op = some r → n.val ≠ s.f F.SYS_PANEL_SVC_LANE →
      ∃ u : State, exec (.hostFrame n b) s = .next (runCommand r { p with source := BitVec.ofNat 16 (s.addr + 8192), lane := some n } u) ∧
        Touches [.lanes, .cmd] [] s u) ∧
    (∀ (op : Nat) (p : Packet) (r : OpRow), s.on F.CMD_QSPI_MBX_FULL = false → 16 ≤ b.length → b.length ≤ 4096 → packetLength b = b.length →
      parsePacket b = some (op, p) → p.cls ≠ 0 → p.target.toNat = s.addr → opRow op = some r →
      ∃ u : State, exec (.mbxWr b) s = .next (runCommand r { p with source := BitVec.ofNat 16 (s.addr + 24576) } u) ∧ u.cmd.mbx = b ∧
        Touches [.cmd] [] s u) ∧
    (b.length < 16 ∨ 4096 < b.length →
      ∃ t : State, exec (.mbxWr b) s = .next t.wrapUp ∧ t.f F.CMD_QSPI_QSPI_DROP = min (s.f F.CMD_QSPI_QSPI_DROP + 1) 65535 ∧ Touches [] [A.CMD_QSPI] s t) ∧
    (∀ k, s.on F.CMD_QSPI_RPL_READY = true →
      ∃ t : State, exec (.mbxRd k) s = .next t.wrapUp ∧
        t.cmd.qspiOut = (leBytes 3 s.cmd.qspiReply.length ++ s.cmd.qspiReply ++ List.replicate k 0).take k ∧
        t.on F.CMD_QSPI_RPL_READY = decide (k < s.cmd.qspiReply.length + 3) ∧ Touches [.cmd] [A.CMD_QSPI] s t) ∧
    (∀ (a : Word) (k : Nat), s.on F.CMD_QSPI_RD_EN = false →
      ∃ t : State, exec (.regRd a k) s = .next t.wrapUp ∧ t.cmd.qspiOut = List.replicate (4 * k) 0 ∧ Touches [.cmd] [] s t) ∧
    (∀ a : Word, s.on F.CMD_QSPI_RD_EN = true → a.toNat % 4 = 0 → (regFamilyAt a.toNat).isSome = true →
      ∃ t : State, exec (.regRd a 1) s = .next t.wrapUp ∧ t.cmd.qspiOut = leBytes 4 (s.view a.toNat).toNat ∧
        Touches [.cmd, .clk, .hub, .twin, .fbus] [a.toNat] s t) ∧
    (∀ v : Word, s.on F.CMD_QSPI_WR_EN = true →
      ∃ t : State, exec (.regWr (BitVec.ofNat 32 A.TICK_ASYM_A) [v]) s = .next t.wrapUp ∧ t.f F.TICK_ASYM_A_ASYM = v.toNat % 65536 ∧
        Touches [] [A.TICK_ASYM_A] s t) ∧
    (∀ (a : Word) (vs : List Word), s.on F.CMD_QSPI_WR_EN = false → exec (.regWr a vs) s = .next s.wrapUp) ∧
    (∃ t : State, exec .status s = .next t.wrapUp ∧ t.cmd.qspiOut = leBytes 1 (s.f F.CMD_QSPI_MBX_FULL + 2 * s.f F.CMD_QSPI_RPL_READY +
        4 * s.f F.CMD_QSPI_RD_EN + 8 * s.f F.CMD_QSPI_WR_EN) ∧ Touches [.cmd] [] s t) ∧
    (∀ c : Byte, exec (.unlistedInstruction c) s = .next s.wrapUp) ∧
    (∀ (ty a i : Nat) (rest : List Nat), (ty, a) ∈ [(TY.THREAD, A.DISP_T_CFG i), (TY.FLOW, A.DISP_F_CFG i), (TY.LOCK, A.DISP_L i)] →
      (s.pool ty).free = i :: rest → i < 64 →
      (∃ t : State, exec (.cmdAllocReq [(0, BitVec.ofNat 6 ty)]) s = .next t.wrapUp ∧ t.cmd.pairHandle = s.handleAt ty i ∧
        (t.pool ty).free = rest ∧ t.reg a = 0x80000000 ∧ Touches [.cmd] [a] s t) ∧
      (∀ k : Fin 5, ∃ t : State, exec (.cmdAllocReq [(k.succ, BitVec.ofNat 6 ty)]) s = .next t.wrapUp ∧
        t.reg (A.CMD_ALLOC_RES k) = s.handleAt ty i ∧ (t.pool ty).free = rest ∧ t.reg a = 0x80000000 ∧
        Touches [.cmd] [A.CMD_ALLOC_RES k, a] s t)) ∧
    (∀ (k l : Fin 5) (i j : Nat) (rest : List Nat), k < l → (s.pool TY.LOCK).free = i :: j :: rest → i < 64 → j < 64 →
      ∃ t : State, exec (.cmdAllocReq [(l.succ, BitVec.ofNat 6 TY.LOCK), (k.succ, BitVec.ofNat 6 TY.LOCK)]) s = .next t.wrapUp ∧
        t.reg (A.CMD_ALLOC_RES k) = s.handleAt TY.LOCK i ∧ t.reg (A.CMD_ALLOC_RES l) = s.handleAt TY.LOCK j ∧ (t.pool TY.LOCK).free = rest ∧
        Touches [.cmd] [A.CMD_ALLOC_RES k, A.CMD_ALLOC_RES l, A.DISP_L i, A.DISP_L j] s t) ∧
    (∀ (k : Fin 5), (s.pool TY.LOCK).free = [] →
      ∃ t : State, exec (.cmdAllocReq [(k.succ, BitVec.ofNat 6 TY.LOCK)]) s = .next t.wrapUp ∧ t.reg (A.CMD_ALLOC_RES k) = 0 ∧
        t.hub.raised = s.hub.raised ++ [FS.HANDLE_EXHAUSTED] ∧ Touches [.hub] [A.CMD_ALLOC_RES k] s t)

/-- 17 R429, 00 R2, R12: POWER_ON_RESET, whatever the state, leaves the part held in reset: OFF, every register at its reset value,
nothing live, memory empty, gate outputs low, the flash kept; its release samples the straps and enters SELFTEST.
17 R431, 01 R16, R23, 08 R250, R252, 11 R321: the end of SELFTEST takes a Floret or Umbel to LINK with both uplinks in PEND, and a Meadow
to LOAD under the address that SENIOR gives it; each slice whose trims fit and whose sixteen codes are near 16,384 qualifies, the first
four are active, a fifth is the spare; the results are kept and reported when a check failed. A part strapped for the factory's test
stays as it is (00 R2). -/
def Obligations.PowerOnAndSelftest : Prop :=
  (∀ (role : BitVec 2) (senior bootsrc : Bool) (s : State),
    (∃ t : State, exec .powerOnReset s = .next t ∧ t.heldInReset = true ∧ t.gatesLow = true ∧ t.st = ST.OFF ∧ t.clk.por = true ∧
      t.running = false ∧ (∀ a, t.reg a = regReset a) ∧ (∀ k, t.mem k = 0) ∧ t.node.flash = s.node.flash ∧ t.pending = s.pending ∧ t.clk.nowPs = s.clk.nowPs) ∧
    (s.heldInReset = true → s.clk.stopped = false →
      ∃ t : State, exec (.powerOnResetRelease role senior bootsrc) s = .next t.wrapUp ∧ t.clk.por = false ∧ t.st = ST.SELFTEST ∧
        t.role = role.toNat ∧ t.on F.SYS_ID_SENIOR = senior ∧ t.on F.SYS_ID_BOOTSRC = bootsrc ∧ t.node.flash = s.node.flash ∧
        Touches [.clk, .node, .swu, .safe, .hub] ([A.SYS_ID, A.SYS_STATE, A.LANE_CFG 0, A.LANE_CFG 1, A.SWU_FLT, A.SAFE_STAT, A.SAFE_CAUSE] ++ forceRegs) s t)) ∧
  (∀ (l : List (Int × Int × List Int)) (g : BitVec 7) (s : State), s.running = true → s.st = ST.SELFTEST → l.length = 5 → ∀ good : List Nat,
    good = sliceNumbers.filter (fun n => (l[n]?.map (sliceQualifies (s.f F.MEAS_CTRL_XCHK_TOL))).getD false) →
    (s.role < 2 →
      ∃ t : State, exec (.selftestComplete l g) s = .next t.wrapUp ∧ t.st = ST.LINK ∧
        (∀ n : Fin 2, t.use n = USE.UPLINK ∧ (s.laneSt n = 0 → s.f (F.LANE_CFG_MODE n) ≠ 2 → t.laneSt n = 1)) ∧
        t.f F.MEAS_SLICE_ACTIVE = ofBits (good.take 4) ∧ t.f F.MEAS_SLICE_FAILED = 31 - ofBits good ∧
        t.on F.MEAS_SLICE_NOSPARE = decide (good.length < 5) ∧ (good.length = 5 → t.f F.MEAS_SLICE_SPARE = 4) ∧
        (∀ n : Fin 5, ∀ x, l[n]? = some x → trimFits x.1 = true → trimFits x.2.1 = true →
          t.f (F.MEAS_SCAL_GAIN n) = unsigned 16 x.1 ∧ t.f (F.MEAS_SCAL_OFFSET n) = unsigned 16 x.2.1) ∧
        t.f F.MGRD_ST_PASS = g.toNat ∧ t.on F.MGRD_ST_DONE = true ∧
        t.hub.raised = s.hub.raised ++ (if good.length < 4 then [FS.MEAS_SLICE_LOSS] else []) ++ (if g = 127 then [] else [FS.MGRD_SELFTEST]) ∧
        t.clk = { s.clk with refclk := true } ∧
        Touches [.clk, .node, .lanes, .hub, .meas, .guard] ([A.SYS_STATE, A.MEAS_SLICE, A.MGRD_ST, A.FHUB_REC, A.CMD_DL 0, A.CMD_DL 1] ++
          sliceNumbers.map A.MEAS_SCAL ++ laneNumbers.map A.LANE_STATUS) s t) ∧
    (s.role = 2 →
      ∃ t : State, exec (.selftestComplete l g) s = .next t.wrapUp ∧ t.st = ST.LOAD ∧ t.addr = b2n (!s.on F.SYS_ID_SENIOR) ∧
        t.clk.timePs = 0 ∧ t.use 0 = USE.XLINK ∧ t.use 1 = USE.XLINK ∧
        (s.on F.SYS_ID_BOOTSRC = false → FS.SYS_IMAGE ∈ t.hub.raised ∧ t.f F.SYS_STATE_IMG_ERR = 7) ∧
        t.f F.MEAS_SLICE_ACTIVE = ofBits (good.take 4) ∧ t.f F.MEAS_SLICE_FAILED = 31 - ofBits good ∧ t.f F.MGRD_ST_PASS = g.toNat ∧
        Touches [.clk, .node, .lanes, .hub, .twin, .meas, .guard] ([A.SYS_STATE, A.MEAS_SLICE, A.MGRD_ST, A.FHUB_REC, A.CMD_NODE, A.CMD_DL 0,
          A.CMD_DL 1, A.TWIN_STAT, A.TWIN_LAST_LO, A.TWIN_LAST_HI, A.TWIN_IMG] ++ sliceNumbers.map A.MEAS_SCAL ++ laneNumbers.map A.LANE_STATUS) s t) ∧
    (s.role = 3 → exec (.selftestComplete l g) s = .next s.wrapUp))

/-- 17 R430, R443, R445, R447, R448, 18 R464: supplies, the maintenance key, the wait for credit, LEDs, identify, the refused eject's
display, and the JTAG port; with their frames. -/
def Obligations.PanelAndPins : Prop :=
  ∀ (s : State), s.running = true →
    (∀ n : Fin 5, s.node.supplyOut.getLsbD n = false →
      ∃ t : State, exec (.supplyWindowExit n) s = .next t.wrapUp ∧ bit (t.f F.SYS_SUPPLY_OUT) n = true ∧
        t.f F.SYS_SUPPLY_EVENTS = min (s.f F.SYS_SUPPLY_EVENTS + 1) 255 ∧ t.hub.raised = s.hub.raised ++ [FS.SYS_SUPPLY] ∧
        Touches [.node, .hub] [A.SYS_SUPPLY] s t) ∧
    (∀ n : Fin 5, s.node.supplyOut.getLsbD n = true → exec (.supplyWindowExit n) s = .next s.wrapUp) ∧
    (∀ n : Fin 5, ∃ t : State, exec (.supplyWindowReturn n) s = .next t.wrapUp ∧ bit (t.f F.SYS_SUPPLY_OUT) n = false ∧
        (∀ k, k ≠ n.val → bit (t.f F.SYS_SUPPLY_OUT) k = bit (s.f F.SYS_SUPPLY_OUT) k) ∧ Touches [.node] [A.SYS_SUPPLY] s t) ∧
    (s.f F.SYS_PANEL_IDENT = 0 → exec .identEnd s = .next s.wrapUp) ∧
    (∀ b : Bool, (s.on F.SYS_PANEL_MKEY = b → exec (.mkey b) s = .next s.wrapUp) ∧
      (s.on F.SYS_PANEL_MKEY = !b →
        ∃ t : State, exec (.mkey b) s = .next t.wrapUp ∧ t.on F.SYS_PANEL_MKEY = b ∧ t.hub.raised = s.hub.raised ++ [FS.SYS_MKEY] ∧
          Touches [.hub] [A.SYS_PANEL] s t)) ∧
    (s.st = ST.WAIT_CREDIT → s.node.creditWaitRaised = false →
      ∃ t : State, exec .sysCreditWait s = .next t.wrapUp ∧ t.hub.raised = s.hub.raised ++ [FS.SYS_CREDIT_WAIT] ∧ s.node.since + 10000000000 ≤ t.now ∧
        t.node.creditWaitRaised = true ∧ Touches [.clk, .node, .hub] [] s t) ∧
    (s.st ≠ ST.WAIT_CREDIT ∨ s.node.creditWaitRaised = true → exec .sysCreditWait s = .next s.wrapUp) ∧
    (∃ t : State, exec .ledPatternChange s = .next t.wrapUp ∧ t.node.leds = t.ledLevels ∧ Touches [.clk, .node] [] s t) ∧
    (s.f F.SYS_PANEL_IDENT ≠ 0 →
      ∃ t : State, exec .identEnd s = .next t.wrapUp ∧ t.f F.SYS_PANEL_IDENT = 0 ∧ s.node.identEnd ≤ t.now ∧ Touches [.clk] [A.SYS_PANEL] s t) ∧
    (∃ t : State, exec .ejectRefusalDisplayEnd s = .next t.wrapUp ∧ s.node.ejectRefused ≤ t.now ∧ Touches [.clk] [] s t) ∧
    (∀ c : BitVec 5, ∃ t : State, exec (.jtagInstruction c) s = .next t.wrapUp ∧
      (c.toNat = 1 ∨ c.toNat = 2 ∨ c.toNat = 16 ∨ c.toNat = 17 → t.node.jtagIr = c ∧ t.node.bscan = false) ∧
      (c.toNat = 0 ∨ c.toNat = 4 ∨ c.toNat = 5 → yarState s.st = false → t.node.jtagIr = c ∧ t.node.bscan = true) ∧
      (c.toNat = 0 ∨ c.toNat = 4 ∨ c.toNat = 5 → yarState s.st = true → t.node.jtagIr = 31 ∧ t.node.bscan = false) ∧
      (c.toNat ∉ [0, 1, 2, 4, 5, 16, 17] → t.node.jtagIr = 31 ∧ t.node.bscan = false) ∧ Touches [.node] [] s t) ∧
    (∃ t : State, exec .testLogicReset s = .next t.wrapUp ∧ t.node.jtagIr = 2 ∧ t.node.bscan = false ∧ Touches [.node] [] s t)

/-- 17 R438 to R441, R450, R451, 12 R328: IMAGE_VERIFICATION, of a staged image or of the next flash slot, accepts the image whose every
check passes, for its revision and source, discards the staging and enters CONFIG (LOCKOUT when a cause waits for it), or records the
reason of the first check that fails; without an image to check nothing happens. A flash slot is erased, written and checked in
maintenance only. 11 R311, R313, R314: IMAGE_REFETCH_DONE takes the line that fits the check kept for it, or counts and reports it as
lost. Which images pass depends on a key the spec does not give; whether the flash answers and a memory cell holds are free values
(DESIGN CHOICE, assumptions 55 and 58). -/
def Obligations.ImageAndFlash : Prop :=
  ∀ (p p1 : Packet) (s s1 : State) (slot : Nat),
    (∀ (b : List Byte) (boot : Fin 4), s.running = true → s.on F.SYS_STATE_IMG_OK = false → s.st = ST.LOAD →
      (s.node.imgPend = some (b, boot.val) ∨ s.node.imgPend = none ∧ s.on F.SYS_ID_BOOTSRC = true ∧ s.isFloret = false ∧
        s.node.slotsTried < 2 ∧ b = s.flashImage s.node.slotsTried ∧ boot.val = 2 + s.node.slotsTried) →
      ∃ t : State, exec .imageVerification s = .next t.wrapUp ∧ t.node.imgPend = none ∧
        if imgCheck s.role b = 0 then
          t.on F.SYS_STATE_IMG_OK = true ∧ t.st = (if s.node.lockoutDue then ST.LOCKOUT else ST.CONFIG) ∧ t.f F.SYS_STATE_PREV = ST.LOAD ∧
            t.f F.SYS_STATE_BOOT = boot ∧ t.f F.SYS_IMG_IMG_REV = numAt b 12 4 ∧ t.node.imgId = none ∧ t.node.imgPages = [] ∧
            t.reg A.SYS_LOAD = 0 ∧ t.node.lockoutDue = false
        else
          t.f F.SYS_STATE_IMG_ERR = imgCheck s.role b ∧ t.hub.raised = s.hub.raised ++ [FS.SYS_IMAGE] ∧ t.st = ST.LOAD ∧
            t.on F.SYS_STATE_IMG_OK = false ∧ (s.node.imgPend.isSome = true → t.node.imgId = none ∧ t.node.imgPages = []) ∧
            (s.node.imgPend = none → t.node.slotsTried = s.node.slotsTried + 1) ∧ Touches [.node, .hub] [A.SYS_STATE, A.SYS_LOAD, A.REC_POOL] s t) ∧
    (s.running = true → s.on F.SYS_STATE_IMG_OK = true ∨ s.st ≠ ST.LOAD ∨ s.node.imgPend = none ∧ s.on F.SYS_ID_BOOTSRC = false →
      exec .imageVerification s = .next s.wrapUp) ∧
    (slot ≤ 1 → s1.on F.SYS_PANEL_MKEY = true → yarState s1.st = false → s1.f F.SYS_STATE_BOOT ≠ 2 + slot →
      (Admitted rowFwFlashErase p s s1 p1 → p.params = leBytes 1 slot → s1.node.flashOp = none →
        ∃ u : State, exec (.fwFlashErase p) s = .next (u.answers rowFwFlashErase p1 Stat.ACCEPTED []) ∧
          u.node.flashOp = some (p1, slot, true) ∧ u.node.flash = s1.node.flash ∧ Touches [.node] [] s1 u) ∧
      (∀ o (d : List Byte), Admitted rowFwFlashWrite p s s1 p1 → p.params = leBytes 1 slot ++ leBytes 4 o ++ d → o % 256 = 0 → d.length % 256 = 0 →
        256 ≤ d.length → d.length ≤ 1024 → o + d.length ≤ 0x400000 → (∀ i, i < d.length → s1.flashByte (slotBase slot + o + i) = 0xFF) →
        ∃ u : State, exec (.fwFlashWrite p) s = .next (if Config.flashSilent s1.freeCount then u.answers rowFwFlashWrite p1 Stat.TIMEOUT []
            else u.answers rowFwFlashWrite p1 Stat.OK []) ∧
          (Config.flashSilent s1.freeCount = false → ∀ i, i < d.length → u.flashByte (slotBase slot + o + i) = d.getD i 0) ∧
          (∀ a, a < slotBase slot + o ∨ slotBase slot + o + d.length ≤ a → u.flashByte a = s1.flashByte a) ∧ Touches [.node, .free] [] s1 u)) ∧
    (slot ≤ 1 → Admitted rowFwFlashCheck p s s1 p1 → p.params = leBytes 1 slot → s1.node.flashOp = none →
      ∃ u : State, exec (.fwFlashCheck p) s = .next (u.answers rowFwFlashCheck p1 Stat.ACCEPTED []) ∧
        u.node.flashOp = some (p1, slot, false) ∧ Touches [.node] [] s1 u) ∧
    (s.running = true → s.node.flashOp = some (p, slot, true) →
      (∃ u : State, exec (.flashEraseDone true) s = .next (u.finalReply 0x0F01 p Stat.OK []).wrapUp ∧ u.node.flashOp = none ∧
        (∀ a, slotBase slot ≤ a → a < slotBase (slot + 1) → u.flashByte a = 0xFF) ∧
        (∀ a, a < slotBase slot ∨ slotBase (slot + 1) ≤ a → u.flashByte a = s.flashByte a) ∧ Touches [.node] [] s u) ∧
      (∃ u : State, exec (.flashEraseDone false) s = .next (u.finalReply 0x0F01 p Stat.TIMEOUT []).wrapUp ∧ u.node.flashOp = none ∧
        u.node.flash = s.node.flash ∧ Touches [.node] [] s u)) ∧
    (s.running = true → s.node.flashOp = some (p, slot, false) →
      ∃ u : State, u.node.flashOp = none ∧ Touches [.node] [] s u ∧
        exec .flashCheckDone s = .next (if imgCheck s.role (s.flashImage slot) = 0 then u.finalReply 0x0F04 p Stat.OK (slice (s.flashImage slot) 12 4)
          else u.finalReply 0x0F04 p Stat.BAD_PARAM [BitVec.ofNat 8 (imgCheck s.role (s.flashImage slot))]).wrapUp) ∧
    (∀ (line : Nat) (scrub : Bool) (rest : List PendLine), s.running = true → s.guard.pending = ⟨line, scrub, []⟩ :: rest →
      s.lineGood (s.lineKey 1 0 (0x160000 / 64 + 2 * line / 64)) (0x160000 / 64 + 2 * line / 64) = true →
      ∃ t : State, exec .imageRefetchDone s = .next t.wrapUp ∧ t.guard.pending = rest ∧
        (∀ d k : List Byte, d = (List.range 64).map (fun i => imageByte (s.flashImage (s.f F.SYS_STATE_BOOT - 2)) (0x10000000 + line * 64 + i)) →
          k = (if s.lineValid (s.lineKey 1 0 (0x160000 / 64 + 2 * line / 64)) then s.lineBytes (s.lineKey 1 0 (0x160000 / 64 + 2 * line / 64))
            else List.replicate 64 0) →
          if 2 ≤ s.f F.SYS_STATE_BOOT ∧ Config.flashSilent s.freeCount = false ∧ lineCheck line d = numAt k (2 * line % 64) 2 then
            t.f F.MGRD_CNT_SRAM_CORR = min (s.f F.MGRD_CNT_SRAM_CORR + 1) 65535 ∧
              (Config.cellFails (s.freeCount + 1) = false → ∀ i, i < 64 → t.mem (s.lineKey 0 0 line + i) = d.getD i 0)
          else
            t.hub.raised = s.hub.raised ++ [FS.MGRD_SRAM_UE] ∧ t.f F.MGRD_CNT_SRAM_UE = min (s.f F.MGRD_CNT_SRAM_UE + 1) 255 ∧
              Touches [.guard, .hub, .free] [A.MGRD_CNT_SRAM, A.MGRD_LAST, A.MGRD_LAST_INFO] s t))

/-- 02 R41, R43, R58, 05 R144, R145, R166: the boundary begins the next tick at the multiple of the tick length; SAMPLE and the other phases post the
tick operands; at UP a Floret forms its Tally of the cells it counts available and sends it; at TALLY the merge is made, or in a
Floret the loop window opens; an Umbel's up frame follows the merge. A phase whose offset does not fall in the tick in progress is
suppressed. With their frames. Which lines of table memory the tick's run reads is told by TALLY's operand (DESIGN CHOICE,
assumption 44). -/
def Obligations.TickToMerge : Prop :=
  ∀ (s : State), s.running = true →
    (s.clk.timeSet = none →
      ∃ t : State, exec .tickBoundary s = .next t.wrapUp ∧ t.clk.tickStart = s.clk.nextAt ∧ t.clk.tickNum = s.clk.nextAt / s.tickPs ∧
        t.clk.nextAt = (s.clk.nextAt / s.tickPs + 1) * s.tickPs ∧ t.clk.merged = false ∧ t.clk.upSent = false ∧ t.clk.allocAt = none ∧
        t.clk.allocated = false ∧ t.child.obeyed = none ∧ t.child.closed = false ∧
        t.on F.TWIN_CHILD_OBEYED = s.child.obeyed.isSome ∧ t.recorder.holdoff = s.recorder.holdoff - 1 ∧ t.recorder.trig = none ∧
        (s.recorder.trig = none → t.bytes = s.bytes ∧ t.guard = s.guard) ∧ t.meas = s.meas ∧ t.fbus = s.fbus ∧ t.pending = s.pending ∧
        ((∀ r ∈ s.life.requests, r.1 < 2 → r.2.1 < 2) → ∀ a, a ∉ boundaryRegs → t.reg a = s.reg a)) ∧
    (s.phaseFalls s.clk.phSample = true →
      ∃ t : State, exec .sample s = .next t.wrapUp ∧ t.clk = (s.reachPhase s.clk.phSample).clk ∧
        (∀ n p, n ∈ s.liveThreads → p < 4 → s.portKind n p = 1 → s.portArg n p = 1 → t.portHeld n p = [t.operand (BitVec.ofNat 32 t.tickNo)]) ∧
        Touches [.clk, .disp, .hub] [A.DISP_CNT] s t) ∧
    (s.phaseFalls s.clk.phUp = true →
      ∃ t : State, exec .up s = .next t.wrapUp ∧ t.clk = (s.reachPhase s.clk.phUp).clk ∧
        (∀ n p, n ∈ s.liveThreads → p < 4 → s.portKind n p = 1 → s.portArg n p = 2 → t.portHeld n p = [t.operand (BitVec.ofNat 32 t.tickNo)]) ∧
        (s.isFloret = true → t.yar.ownTick = t.tickNo ∧ t.yar.own.avail = t.availCells.length ∧ t.yar.own.avail + t.yar.own.unavail = t.cells.length ∧
          t.yar.own.bins = t.availCells.foldl (fun b c => addBin b (t.f (F.YAR_CELL_KEY c) / 8) 1) (List.replicate 32 0) ∧
          (2 ≤ s.tree.upSends → ∀ n, n ∈ s.uplinks → s.laneUp n = true → (t.lane n).txFrame.length = 128) ∧
          Touches [.clk, .disp, .hub, .yar, .lanes, .free] [A.DISP_CNT, A.YAR_FCNT, A.YAR_CELL 0, A.YAR_CELL 1] s t) ∧
        (s.isFloret = false → Touches [.clk, .disp, .hub] [A.DISP_CNT] s t)) ∧
    (∀ reads : List (Fin 24576), s.phaseFalls s.clk.phTally = true →
      (s.isFloret = false → s.clk.merged = false →
        ∃ t : State, exec (.tally reads) s = .next t.wrapUp ∧ t.clk.merged = true ∧ t.yar.ownTick = s.tickNo ∧
          t.clk.mergeAt = (s.reachPhase s.clk.phTally).clk.nowPs ∧
          (s.isUmbel = true → chanState s.st = true → t.yar.own = mergeUnits (t.units.map t.unit)) ∧
          (reads = [] → Touches ([.disp, .units, .loop, .twin] ++ demandParts) (A.DISP_CNT :: mergeRegs) s t) ∧
          Touches ([.disp, .units, .twin] ++ engineParts ++ demandParts) (A.DISP_CNT :: mergeRegs ++ engineRegs) s t) ∧
      (s.isFloret = true →
        ∃ t : State, exec (.tally reads) s = .next t.wrapUp ∧
          (s.engineRuns = true → reads = [] → t.loop.done = false ∧ ∃ r, t.loop.run = some r ∧ r.opened = (s.reachPhase s.clk.phTally).now ∧ r.ran = s.dueLoops) ∧
          Touches ([.clk, .disp] ++ engineParts) (A.DISP_CNT :: engineRegs) s t)) ∧
    (s.isUmbel = true → s.clk.merged = true → s.clk.upSent = false →
      ∃ t : State, exec .mergeComplete s = .next t.wrapUp ∧ t.clk.upSent = true ∧ t.f F.YAR_UTALLY_AVAIL = s.yar.own.avail % 65536 ∧
        t.f F.YAR_UTALLY_UNAVAIL = s.yar.own.unavail % 65536 ∧ t.f F.YAR_USTALE_STALE = s.yar.own.stale % 65536 ∧
        (2 ≤ s.tree.upSends → ∀ n, n ∈ s.uplinks → s.laneUp n = true → (t.lane n).txFrame.length = 128) ∧
        s.clk.mergeAt / 1000 + 76 ≤ t.now ∧ Touches [.clk, .lanes] [A.YAR_UTALLY, A.YAR_USTALE] s t) ∧
    (s.isUmbel = false ∨ s.clk.merged = false ∨ s.clk.upSent = true → exec .mergeComplete s = .next s.wrapUp) ∧
    (s.phaseFalls s.clk.phSample = false → exec .sample s = .next s.wrapUp) ∧
    (s.phaseFalls s.clk.phUp = false → exec .up s = .next s.wrapUp) ∧
    (∀ reads : List (Fin 24576), s.phaseFalls s.clk.phTally = false → exec (.tally reads) s = .next s.wrapUp) ∧
    (s.phaseFalls s.clk.phLoopEnd = false → exec .loopEnd s = .next s.wrapUp) ∧
    (s.phaseFalls s.clk.phDown = false → exec .down s = .next s.wrapUp) ∧
    (s.phaseFalls (s.clk.tickLen - 100) = false → exec .apply s = .next s.wrapUp)

/-- 02 R56, R58, R63 to R65, 05 R151, R152, R162: at LOOP_END the loop window closes (a run complete by then commits, another is abandoned with
TICK_OVERRUN) and the Meadow allocates each string by its demand; the down frames that leave when the allocation completes carry each unit's
share; an Umbel that obeyed no frame holds at DOWN, one that obeyed keeps its split; a Floret that obeyed none holds at APPLY, is counted,
and is BLOCKED when the count reaches its limit, and one that obeyed a frame without HOLD does not hold; a node whose part an instant
is not only posts the tick operands. -/
def Obligations.AllocationToHold : Prop :=
  ∀ (s : State), s.running = true →
    (s.isMeadow = true → s.slotsClosed = false → s.phaseFalls s.clk.phLoopEnd = true →
      ∃ t : State, exec .loopEnd s = .next t.wrapUp ∧ t.clk.allocAt = some (s.reachPhase s.clk.phLoopEnd).clk.nowPs ∧ t.loop.run = none ∧
        (s.loop.run = none → s.loop.done = false → FS.TICK_OVERRUN ∈ t.hub.raised) ∧
        (∀ r, s.loop.run = some r →
          (r.opened + 2 * r.clks ≤ (s.reachPhase s.clk.phLoopEnd).now →
            t.loop.done = true ∧ (FS.TICK_OVERRUN ∈ t.hub.raised → FS.TICK_OVERRUN ∈ s.hub.raised)) ∧
          ((s.reachPhase s.clk.phLoopEnd).now < r.opened + 2 * r.clks → FS.TICK_OVERRUN ∈ t.hub.raised)) ∧
        (s.loop.run = none →
          Touches [.clk, .disp, .hub, .units, .recorder] ([A.DISP_CNT, A.REC_STAT, A.REC_SYS] ++ stringNumbers.map A.YAR_S_ALLOC ++
            stringNumbers.map A.YAR_S_SAT ++ stringNumbers.map A.YAR_S_PTR) s t ∧
          ∀ (k : Fin 16) (a : TopAlloc),
            a = (if s.on (F.YAR_S_CFG_EN k) then topAllocate (Map.get {} s.yar.strings k.val).bins (Map.get {} s.yar.strings k.val).avail
              (s.fi (F.YAR_S_DEM_DEM k)) (s.fi (F.YAR_S_IARM_IARM k)) (s.on (F.YAR_S_CFG_FB k)) else {}) → a.n < 4096 →
            t.f (F.YAR_S_ALLOC_INSERTED k) = a.n ∧ t.f (F.YAR_S_ALLOC_SHARE k) = a.share ∧ t.f (F.YAR_S_ALLOC_THRESH k) = a.thresh ∧
            t.f (F.YAR_S_ALLOC_DIR k) = a.dir ∧ t.on (F.YAR_S_ALLOC_NEG k) = a.neg ∧ t.on (F.YAR_S_SAT_SAT k) = a.sat)) ∧
    (∀ t0, s.clk.allocAt = some t0 →
      ∃ t : State, exec .allocationComplete s = .next t.wrapUp ∧ t.clk.allocAt = none ∧ t.clk.allocated = true ∧ t0 / 1000 + 80 ≤ t.now ∧
        (s.isTwin = false → ∀ n l, n ∈ s.units → l ∈ s.unitLanes n → (∀ m, m ∈ s.units → l ∈ s.unitLanes m → m = n) → s.laneUp l = true →
          (s.lane l).sends = 2 → (t.lane l).txFrame.length = 64 ∧ numAt (t.lane l).txFrame 24 2 = (s.unit n).share % 4096) ∧
        Touches [.clk, .lanes, .twin] [] s t) ∧
    (s.isUmbel = true → s.child.closed = false → s.phaseFalls s.clk.phDown = true →
      (s.child.obeyed = none →
        ∃ t : State, exec .down s = .next t.wrapUp ∧ t.child.closed = true ∧ t.yar.allHold = true ∧ t.st = (if s.st = ST.RUN then ST.HOLD else s.st) ∧
          (∀ n, n ∈ s.units → (t.unit n).share = 0 ∧ (t.unit n).thresh = 0 ∧ (t.unit n).token = false ∧ (t.unit n).frac = 0) ∧
          Touches [.clk, .disp, .hub, .units, .yar, .node, .child, .twin] [A.DISP_CNT, A.SYS_STATE, A.TWIN_STAT, A.YAR_USTAT] s t) ∧
      (s.child.obeyed.isSome = true →
        ∃ t : State, exec .down s = .next t.wrapUp ∧ t.child.closed = true ∧ Touches [.clk, .disp, .hub, .child, .twin] [A.DISP_CNT, A.TWIN_STAT] s t)) ∧
    (s.isFloret = true → s.child.closed = false → yarState s.st = true → s.phaseFalls (s.clk.tickLen - 100) = true →
      (s.child.obeyed = none →
        ∃ t : State, exec .apply s = .next t.wrapUp ∧ t.child.closed = true ∧ t.on F.YAR_DEC0_HELD = true ∧ t.yar.pend = none ∧
          t.f F.TICK_HOLD_HOLD_CNT = min 64 (s.f F.TICK_HOLD_HOLD_CNT + 1) ∧
          t.st = (if s.f F.TICK_HOLD_HOLD_LIMIT ≤ min 64 (s.f F.TICK_HOLD_HOLD_CNT + 1) then ST.BLOCKED else ST.HOLD) ∧
          (s.f F.TICK_HOLD_HOLD_CNT = 0 → FS.DOWN_HOLD ∈ t.hub.raised) ∧
          Touches ([.disp, .child, .life] ++ sampleParts ++ goParts) ([A.DISP_CNT, A.TICK_HOLD, A.YAR_DEC0] ++ (List.range 4).map A.LIFE_W_DAMAGE ++
            (List.range 4).map A.LIFE_W_STAT ++ ((List.range 4).map (fun n => (List.range 16).map (A.LIFE_RF n))).flatten ++ sampleRegs ++ goRegs) s t) ∧
      (∀ x : Nat × List Byte, s.child.obeyed = some x → (parseDown x.2).hold = false → s.clk.farOff = false →
        ∃ t : State, exec .apply s = .next t.wrapUp ∧ t.child.closed = true ∧ t.on F.YAR_DEC0_HELD = false ∧ t.st = s.st ∧
          t.f F.TICK_HOLD_HOLD_CNT = s.f F.TICK_HOLD_HOLD_CNT)) ∧
    (s.isFloret = false → s.phaseFalls (s.clk.tickLen - 100) = true →
      ∃ t : State, exec .apply s = .next t.wrapUp ∧ t.clk = (s.reachPhase (s.clk.tickLen - 100)).clk ∧
        Touches ([.clk, .disp] ++ sampleParts) (A.DISP_CNT :: sampleRegs) s t) ∧
    (s.isFloret = true → yarState s.st = true → s.f F.TICK_HOLD_HOLD_LIMIT ≤ s.f F.TICK_HOLD_HOLD_CNT →
      ∃ t : State, exec .holdLimitReached s = .next t.wrapUp ∧ t.st = ST.BLOCKED ∧ t.on F.SYS_STATE_BLK_HOLD = true ∧
        FS.HOLD_LIMIT_REACHED ∈ t.hub.raised ∧ Touches goParts goRegs s t) ∧
    (s.clk.allocAt = none → exec .allocationComplete s = .next s.wrapUp) ∧
    (s.isFloret = false ∨ yarState s.st = false ∨ s.f F.TICK_HOLD_HOLD_CNT < s.f F.TICK_HOLD_HOLD_LIMIT →
      exec .holdLimitReached s = .next s.wrapUp) ∧
    (s.isUmbel = false ∨ s.child.closed = true → s.phaseFalls s.clk.phDown = true →
      ∃ t : State, exec .down s = .next t.wrapUp ∧ t.clk = (s.reachPhase s.clk.phDown).clk ∧ Touches [.clk, .disp, .hub] [A.DISP_CNT] s t) ∧
    (s.isMeadow = false ∨ s.slotsClosed = true → s.phaseFalls s.clk.phLoopEnd = true → s.loop.run = none →
      ∃ t : State, exec .loopEnd s = .next t.wrapUp ∧ t.clk = (s.reachPhase s.clk.phLoopEnd).clk ∧
        Touches [.clk, .disp, .hub] [A.DISP_CNT] s t)

/-- 02 R63, 03 R89, R95, 05 R156, R157, R160: a Floret obeys the first valid frame of an uplink, decides by it at once and keeps its number and
epoch, a BLOCK or HOLD frame deciding nothing; a frame after the deadline is obeyed by nobody; an invalid frame is counted and changes nothing else; a unit's up frame is kept; the
decision is applied at the boundary, and the trim cell bypassed again at its end; a frame on a lane that is not UP is none. -/
def Obligations.FramesAndDecisions : Prop :=
  ∀ (s : State), s.running = true →
    (∀ (n : Fin 32) (b : List Byte) (age : Nat), s.laneUp n = true → s.isXlink n = false → n.val < 2 → s.uplinks.contains n.val = true →
      (downValid b = true → (s.lane n).got = false → s.isFloret = true → s.st = ST.RUN → (parseDown b).active = true → (parseDown b).slotOn = false →
        s.child.closed = false → s.child.obeyed = none → (parseDown b).period = s.clk.tickLen →
        ∃ t : State, exec (.downTickFrame n b age) s = .next t.wrapUp ∧ t.child.obeyed = some (n.val, b) ∧ t.f F.TWIN_CHILD_FOLLOW = n.val ∧
          t.f F.TWIN_CHILD_EPOCH = (parseDown b).epoch ∧ t.child.hb = (parseDown b).harebell ∧ (t.lane n).got = true ∧
          ((parseDown b).hold = true ∨ (parseDown b).block = true ∨ t.clk.farOff = true → t.yar.pend = none) ∧
          ((parseDown b).hold = false → (parseDown b).block = false → (parseDown b).sgr = false → t.clk.farOff = false →
            t.yar.pend.isSome = true ∧ t.f F.YAR_DEC0_THRESH = (parseDown b).thresh ∧ t.f F.YAR_DEC0_SHARE = (parseDown b).share) ∧
          Touches ([.tree, .child, .free, .recorder, .life] ++ demandParts) ([A.TWIN_CHILD, A.TICK_DELAY_A, A.TICK_DELAY_B, A.TICK_STATUS, A.TICK_OFFSET,
            A.REC_SYS, A.YAR_DEC0] ++ demandRegs) s t) ∧
      (downValid b = true → (s.lane n).got = false → ST.SYNC ≤ s.st → (parseDown b).active = true → (parseDown b).block = false → (parseDown b).sgr = false →
        s.child.closed = true →
        ∃ t : State, exec (.downTickFrame n b age) s = .next t.wrapUp ∧ t.child = s.child ∧ t.yar.pend = s.yar.pend ∧ t.unitSts = s.unitSts ∧
          (t.lane n).got = true) ∧
      (downValid b = false ∨ (s.lane n).got = true →
        ∃ t : State, exec (.downTickFrame n b age) s = .next t.wrapUp ∧ t.f (F.LANE_ERR_FCRC n) = min (s.f (F.LANE_ERR_FCRC n) + 1) 65535 ∧
          Touches [.lanes, .hub] [A.LANE_ERR n] s t)) ∧
    (∀ (n : Fin 32) (b : List Byte) (age : Nat), s.laneUp n = true → s.isXlink n = false →
      (upValid b = false →
        ∃ t : State, exec (.upTickFrame n b age) s = .next t.wrapUp ∧ t.f (F.LANE_ERR_FCRC n) = min (s.f (F.LANE_ERR_FCRC n) + 1) 65535 ∧
          Touches [.lanes, .hub] [A.LANE_ERR n] s t) ∧
      (upValid b = true → s.use n = 2 → (s.lane n).got = false → s.clk.merged = false → (s.unit n).twin = false → (s.unit n).frame = [] →
        ((s.updLane n (fun l => { l with got := true, carried := true, frame := b })).updUnit n (fun u => { u with frame := b })).allArrived = false →
        ∃ t : State, exec (.upTickFrame n b age) s = .next t.wrapUp ∧ (t.unit n).frame = b ∧ (t.lane n).got = true ∧ (t.lane n).carried = true ∧
          Touches [.lanes, .units] [] s t)) ∧
    (∀ d : Decision, s.isFloret = true → s.st = ST.RUN ∨ s.st = ST.HOLD → s.yar.pend = some d →
      ∃ t : State, exec .decisionApply s = .next t.wrapUp ∧ t.st = ST.RUN ∧ t.yar.pend = none ∧ t.yar.cur = some d ∧ t.yar.applied = true ∧
        t.f F.TICK_HOLD_HOLD_CNT = 0 ∧ (∀ c, c ∈ s.cells → t.on (F.YAR_CELL_INSERTED c) = d.insert.contains c ∧ t.on (F.YAR_CELL_TRIM c) = (d.trim == some c)) ∧
        t.f F.YAR_DEC1_TRIM_PCLK = d.trimPclk % 65536 ∧
        Touches [.clk, .node, .yar, .swu, .hub, .life] [A.SYS_STATE, A.TICK_HOLD, A.YAR_FCNT, A.YAR_DEC1, A.YAR_CELL 0, A.YAR_CELL 1, A.SWU_P_STAT 0,
          A.SWU_P_STAT 1, A.SWU_P_CARRY 0, A.SWU_P_CARRY 1] s t) ∧
    (∀ (d : Decision) (c e : Nat), s.yar.trimEnd = some e → s.yar.cur = some d → d.trim = some c → c < 2 → s.f F.CMD_NODE_KIND ≠ 2 →
      (s.pair (cellPair (s.f F.CMD_NODE_KIND) c)).waits = false → s.forced (cellPair (s.f F.CMD_NODE_KIND) c) = false →
      ∃ t : State, exec .trimEnd s = .next t.wrapUp ∧ t.yar.trimEnd = none ∧ e ≤ t.pclk ∧
        (t.pair (cellPair (s.f F.CMD_NODE_KIND) c)).logical = some false ∧
        Touches [.clk, .yar, .swu, .life] [A.SWU_P_STAT (cellPair (s.f F.CMD_NODE_KIND) c)] s t) ∧
    (∀ (n : Fin 32) (b : List Byte) (age : Nat), s.laneUp n = false →
      exec (.downTickFrame n b age) s = .next s.wrapUp ∧ exec (.upTickFrame n b age) s = .next s.wrapUp) ∧
    (s.isFloret = false → exec .decisionApply s = .next s.wrapUp) ∧
    (s.yar.trimEnd = none → exec .trimEnd s = .next s.wrapUp)

/-- 02 R42, R47 to R49, R53 to R55, R70: the loss of tick alignment, PPS in and out, and the load of TIME_SET; with their frames. -/
def Obligations.AlignmentAndPps : Prop :=
  ∀ (s : State), s.running = true →
    (s.activeMeadow = false → ST.SELFTEST < s.st → s.f F.TICK_STATUS_LOCK ≠ 3 →
      ∃ t : State, exec .holdover s = .next t.wrapUp ∧ t.f F.TICK_STATUS_LOCK = 3 ∧ t.hub.raised = s.hub.raised ++ [FS.TICK_HOLDOVER] ∧
        Touches [.hub] [A.TICK_STATUS] s t) ∧
    (s.st = ST.SYNC → s.clk.syncRaised = false →
      ∃ t : State, exec .syncTimeout s = .next t.wrapUp ∧ t.hub.raised = s.hub.raised ++ [FS.TICK_SYNC_LOSS] ∧ t.clk.syncRaised = true ∧
        s.node.since + 500000000 ≤ t.now ∧ Touches [.clk, .hub] [] s t) ∧
    (s.clk.badTicks = 16 → ST.LOAD ≤ s.st → s.st ≤ ST.HOLD →
      ∃ t : State, exec .tickAlign s = .next t.wrapUp ∧ t.hub.raised = s.hub.raised ++ [FS.TICK_ALIGN] ∧ Touches [.clk, .hub] [] s t) ∧
    (∀ w, s.isMeadow = true → 100 ≤ w → s.f F.TICK_CFG_PPS_MODE = 1 →
      ∃ t : State, exec (.ppsIn w) s = .next t.wrapUp ∧ t.clk.ppsEdge = some s.now ∧ t.clk.ppsLost = false ∧
        (1000000 < s.clk.timePs % 1000000000000 → 1000000 < 1000000000000 - s.clk.timePs % 1000000000000 →
          t.hub.raised = s.hub.raised ++ [FS.PPS_OFFSET] ∧ (s.st = ST.RUN → t.clk.freq = s.clk.freq)) ∧
        (s.clk.freq.natAbs ≤ 2000000 → t.clk.freq.natAbs ≤ 2000000 ∧
          (∀ e, s.clk.ppsEdge = some e → (t.clk.freq - s.clk.freq).natAbs ≤ (s.now - e) / 10000) ∧
          (s.clk.timePs % 1000000000000 < 500000000000 → t.clk.freq ≤ s.clk.freq) ∧
          (500000000000 ≤ s.clk.timePs % 1000000000000 → s.clk.freq ≤ t.clk.freq)) ∧ Touches [.clk, .hub, .free] [] s t) ∧
    (∀ w (p : Packet) (v a : Nat), s.isMeadow = true → 100 ≤ w → s.f F.TICK_CFG_PPS_MODE = 2 → s.clk.timeSet = some (p, v, 1, a) → s.st ≠ ST.RUN →
      v % (s.clk.tickLen * 2) = 0 →
      ∃ u : State, exec (.ppsIn w) s = .next (u.release 0x0020 p Stat.OK []).wrapUp ∧ u.clk.timePs = v * 1000 ∧ u.clk.nextAt = v * 1000 ∧
        u.clk.timeSet = none ∧ Touches [.clk] [] s u) ∧
    (∀ e, s.clk.ppsEdge = some e → s.isMeadow = true → s.f F.TICK_CFG_PPS_MODE = 1 ∨ s.f F.TICK_CFG_PPS_MODE = 2 → s.clk.ppsLost = false →
      ∃ t : State, exec .ppsLoss s = .next t.wrapUp ∧ t.hub.raised = s.hub.raised ++ [FS.PPS_LOSS] ∧ t.clk.ppsLost = true ∧
        e + 1000001000 ≤ t.now ∧ Touches [.clk, .hub] [] s t) ∧
    (s.on F.TICK_PPS_PPS_OUT_EN = true →
      ∃ t : State, exec .ppsOut s = .next t.wrapUp ∧ t.node.ppsOut = true ∧ t.clk.ppsOutUntil = some (t.now + s.f F.TICK_PPS_PPS_WIDTH * 1000000) ∧
        Touches [.clk, .node] [] s t) ∧
    (∀ e, s.clk.ppsOutUntil = some e →
      ∃ t : State, exec .ppsWidth s = .next t.wrapUp ∧ t.node.ppsOut = false ∧ t.clk.ppsOutUntil = none ∧ e ≤ t.now ∧ Touches [.clk, .node] [] s t) ∧
    (∀ (p : Packet) (v a : Nat), s.clk.timeSet = some (p, v, 0, a) → s.st ≠ ST.RUN → v % (s.clk.tickLen * 2) = 0 →
      ∃ u : State, exec .timeSetLoad s = .next (u.release 0x0020 p Stat.OK []).wrapUp ∧ u.clk.timePs = v * 1000 ∧ u.clk.timeSet = none ∧
        Touches [.clk] [] s u) ∧
    (∀ (p : Packet) (v a : Nat), s.clk.timeSet = some (p, v, 1, a) →
      ∃ u : State, exec .timeSetEdgeTimeout s = .next (u.release 0x0020 p Stat.TIMEOUT []).wrapUp ∧ u.clk.timeSet = none ∧
        a / 1000 + 2000000000 ≤ u.now ∧ Touches [.clk] [] s u)

/-- 05 R151, R152, 06 R182, R183: the walks conserve what they divide: below the threshold bin and in its share stand exactly the cells
asked for; the shares and the rest make up the whole share and no unit gets more cells than it has; the carry keeps what a
request does not make, and a request is nothing, the whole period or a pulse of at least W. -/
def Obligations.WalksConserve : Prop :=
  (∀ (bins : List Nat) (n dir : Nat), bins.length = 32 → n ≤ bins.foldl (· + ·) 0 →
    let (t, sh) := threshold bins n (preferred dir) 0
    sh ≤ bins.getD t 0 ∧ (((preferred dir).filter (fun b => before dir b t)).map (fun b => bins.getD b 0)).foldl (· + ·) 0 + sh = n) ∧
  (∀ (c : List (List Nat)) (ptr t dir share : Nat) (token : Bool),
    ((split c ptr t dir share token).shares.map (·.2)).foldl (· + ·) 0 + (split c ptr t dir share token).rem = share ∧
    ∀ x ∈ (split c ptr t dir share token).shares, x.2 ≤ (c.getD x.1 []).getD t 0) ∧
  (∀ (want acc : Int) (period w upper : Nat),
    ((formRequest want acc period w upper).1 : Int) + (formRequest want acc period w upper).2.1 = want + acc ∧
    ((formRequest want acc period w upper).1 = 0 ∨ (formRequest want acc period w upper).1 = period ∨
      (w ≤ (formRequest want acc period w upper).1 ∧ (formRequest want acc period w upper).1 ≤ upper)))

/-- 06 R192, R193, R196, R198, R200: an enabled FAULTIN at its active level latches and forces its pairs, a stopped clock forces every
pair at once, a readback at the wrong level after its blanking forces its pair; SWU_FORCE and SWU_FAULT_CLEAR set and clear the
software latches, and the latter answers the pairs still forced; a forced pair stands at its safe level. With their frames. -/
def Obligations.ForcedPairs : Prop :=
  ∀ (p p1 : Packet) (s s1 : State),
    (∀ (n : Fin 8) (level : Bool), s.running = true →
      ∃ t : State, exec (.faultin n level) s = .next t.wrapUp ∧ t.swu.faultin.getLsbD n = level ∧
        (s.finEn n = true → level ≠ s.finPol n →
          bit (t.f F.SWU_FLT_FIN_LATCH) n = true ∧ (bit (s.f F.SWU_FLT_FIN_LATCH) n = false → FS.SWU_FAULTIN ∈ t.hub.raised) ∧
          ∀ q : Fin 4, bit (s.finPairs n) q = true → t.forced q = true ∧ (t.pair q).logical = none) ∧
        bit (t.f F.SWU_FLT_FIN_LATCH) n = (bit (s.f F.SWU_FLT_FIN_LATCH) n || (s.finEn n && level != s.finPol n)) ∧
        Touches [.swu, .hub] (A.SWU_FLT :: forceRegs) s t) ∧
    (s.running = true →
      ∃ t : State, exec .clockLoss s = .next t ∧ t.clk.stopped = true ∧ t.on F.SWU_FLT_CLK_LOST = true ∧
        (∀ q : Fin 4, t.forced q = true ∧ (t.pair q).logical = none) ∧ Touches [.clk, .swu] (A.SWU_FLT :: forceRegs) s t) ∧
    (s.clk.por = false → s.clk.stopped = true →
      ∃ t : State, exec .clockReturn s = .next t.wrapUp ∧ t.clk.stopped = false ∧ t.hub.raised = s.hub.raised ++ [FS.SWU_CLK_LOSS] ∧
        Touches [.clk, .hub] [] s t) ∧
    (∀ (n : Fin 8) (level : Bool), s.running = true → s.on (F.SWU_P_CFG_FB_EN (n.val / 2)) = true →
      level ≠ (s.goLevel n != s.on (F.SWU_P_CFG_FB_INV (n.val / 2))) → s.blankEnd n ≤ s.pclk →
      ∃ t : State, exec (.readbackMismatch n level) s = .next t.wrapUp ∧ bit (t.f F.SWU_FLT_RB_LATCH) (n.val / 2) = true ∧
        (bit (s.f F.SWU_FLT_RB_LATCH) (n.val / 2) = false → FS.SWU_READBACK ∈ t.hub.raised) ∧ t.forced (n.val / 2) = true ∧
        (t.pair (n.val / 2)).logical = none ∧ t.swu.gofb.getLsbD n = level ∧ Touches [.swu, .hub] (A.SWU_FLT :: forceRegs) s t) ∧
    (∀ (n : Fin 8) (level : Bool), s.running = true → s.on (F.SWU_P_CFG_FB_EN (n.val / 2)) = false ∨
        level = (s.goLevel n != s.on (F.SWU_P_CFG_FB_INV (n.val / 2))) ∨ s.pclk < s.blankEnd n →
      ∃ t : State, exec (.readbackMismatch n level) s = .next t.wrapUp ∧ t.swu.gofb.getLsbD n = level ∧ t.swu.pairs = s.swu.pairs ∧
        Touches [.swu] [] s t) ∧
    (∀ m : BitVec 4, Admitted rowSwuForce p s s1 p1 → p.params = leBytes 1 m.toNat →
      ∃ u : State, exec (.swuForce p) s = .next (u.answers rowSwuForce p1 Stat.OK []) ∧ u.f F.SWU_FLT_SWF_LATCH = s1.f F.SWU_FLT_SWF_LATCH ||| m.toNat ∧
        (∀ q : Fin 4, m.getLsbD q = true → u.forced q = true ∧ (u.pair q).logical = none) ∧ Touches [.swu] (A.SWU_FLT :: forceRegs) s1 u) ∧
    (∀ m : BitVec 4, Admitted rowSwuFaultClear p s s1 p1 → p.params = leBytes 1 m.toNat →
      ∃ u : State, exec (.swuFaultClear p) s = .next (u.answers rowSwuFaultClear p1 Stat.OK [BitVec.ofNat 8 (ofBits (pairNumbers.filter u.forced))]) ∧
        (∀ q : Fin 4, bit (u.f F.SWU_FLT_SWF_LATCH) q = (bit (s1.f F.SWU_FLT_SWF_LATCH) q && !m.getLsbD q) ∧
          bit (u.f F.SWU_FLT_RB_LATCH) q = (bit (s1.f F.SWU_FLT_RB_LATCH) q && !m.getLsbD q)) ∧
        (∀ n : Fin 8, bit (u.f F.SWU_FLT_FIN_LATCH) n =
          (bit (s1.f F.SWU_FLT_FIN_LATCH) n && (s1.finStuck n || s1.finPairs n &&& m.toNat == 0))) ∧
        Touches [.swu] (A.SWU_FLT :: forceRegs) s1 u)

/-- 06 R184, R186, R189 to R191, 05 R143, R147: SWU_CREATE makes a channel on a free pair and answers its handle; SWU_SET and a core write its
shadows, SWU_COMMIT marks them; SWU_START waits for its first period and SWU_STOP for the end of one; YAR_CELL_EXCLUDE, YAR_DEMAND_SET and
the safe levels. With their frames. -/
def Obligations.ChannelCommands : Prop :=
  ∀ (p p1 : Packet) (s s1 : State),
    (∀ (n : Fin 4) (cm upd : Fin 2) (per duty i : Nat) (rest : List Nat), Admitted rowSwuCreate p s s1 p1 →
      p.params = [BitVec.ofNat 8 n, BitVec.ofNat 8 cm, BitVec.ofNat 8 upd] ++ leBytes 4 per ++ leBytes 4 duty → per < 2 ^ 24 → duty ≤ per →
      chanValuesOk cm (s1.window n) per duty = true → s1.gapsOk n = true → s1.yarPairs.contains n.val = false → s1.hasChan n = false →
      (s1.pool TY.CHANNEL).free = i :: rest → i < 4 →
      ∃ u : State, exec (.swuCreate p) s = .next (u.answers rowSwuCreate p1 Stat.OK (leBytes 4 (u.handleAt TY.CHANNEL i).toNat)) ∧ u.hasChan n = true ∧
        u.f (F.SWU_P_CFG_HIDX n) = i ∧ u.f (F.SWU_P_CFG_CMODE n) = cm ∧ u.f (F.SWU_P_CFG_UPD n) = upd ∧ u.f (F.SWU_P_ACTP_VALUE n) = per ∧
        u.f (F.SWU_P_ACTD_VALUE n) = duty ∧ u.on (F.SWU_P_CFG_RUN n) = false ∧ (u.pool TY.CHANNEL).free = rest ∧
        Touches [.cmd, .swu] [A.SWU_P_CFG n, A.SWU_P_PERIOD n, A.SWU_P_DUTY n, A.SWU_P_ACTP n, A.SWU_P_ACTD n, A.SWU_P_STAT n] s1 u) ∧
    (∀ (n : Fin 4) (per duty : Nat), Admitted rowSwuSet p s s1 p1 → s1.handleStatus TY.CHANNEL p.handle = Stat.OK → s1.chanPair (hIndex p.handle) = n →
      s1.hasChan n = true → p.params = leBytes 4 per ++ leBytes 4 duty → per < 2 ^ 24 → duty ≤ per → s1.ported n = false →
      chanValuesOk (s1.f (F.SWU_P_CFG_CMODE n)) (s1.window n) per duty = true →
      ∃ u : State, exec (.swuSet p) s = .next (u.answers rowSwuSet p1 Stat.OK []) ∧ u.f (F.SWU_P_PERIOD_VALUE n) = per ∧ u.f (F.SWU_P_DUTY_VALUE n) = duty ∧
        u.on (F.SWU_P_STAT_PW n) = true ∧ u.on (F.SWU_P_STAT_DW n) = true ∧ Touches [] [A.SWU_P_PERIOD n, A.SWU_P_DUTY n, A.SWU_P_STAT n] s1 u) ∧
    (Admitted rowSwuCommit p s s1 p1 → s1.handleStatus TY.CHANNEL p.handle = Stat.OK → s1.hasChan (s1.chanPair (hIndex p.handle)) = true →
      s1.ported (s1.chanPair (hIndex p.handle)) = false → p.params = [] →
      ∃ u : State, exec (.swuCommit p) s = .next (u.answers rowSwuCommit p1 Stat.OK []) ∧ (u.pair (s1.chanPair (hIndex p.handle))).chan.commit = true ∧
        Touches [.swu] [] s1 u) ∧
    (∀ o, Admitted rowSwuStart p s s1 p1 → s1.handleStatus TY.CHANNEL p.handle = Stat.OK → p.params = leBytes 2 o → o < 65536 → chanState s1.st = true →
      s1.chanBound (hIndex p.handle) = false →
      ∃ u : State, exec (.swuStart p) s = .next (u.holds rowSwuStart p1) ∧
        (u.pair (s1.chanPair (hIndex p.handle))).chan.startAt = some ((s1.clk.pulsePs + (s1.clk.nextAt - s1.clk.timePs)) / 1000 + o) ∧
        (u.pair (s1.chanPair (hIndex p.handle))).chan.startCmd = some p1 ∧ Touches [.swu] [] s1 u) ∧
    (Admitted rowSwuStop p s s1 p1 → s1.handleStatus TY.CHANNEL p.handle = Stat.OK → p.params = [] →
      (s1.on (F.SWU_P_CFG_RUN (s1.chanPair (hIndex p.handle))) = true →
        ∃ u : State, exec (.swuStop p) s = .next (u.answers rowSwuStop p1 Stat.ACCEPTED []) ∧
          p1 ∈ (u.pair (s1.chanPair (hIndex p.handle))).chan.stopCmds ∧ Touches [.swu] [] s1 u) ∧
      (s1.on (F.SWU_P_CFG_RUN (s1.chanPair (hIndex p.handle))) = false → exec (.swuStop p) s = .next (s1.answers rowSwuStop p1 Stat.OK []))) ∧
    (∀ c x, Admitted rowYarCellExclude p s s1 p1 → p.params = [BitVec.ofNat 8 c, BitVec.ofNat 8 x] → c ∈ s1.cells → x ≤ 1 →
      ∃ u : State, exec (.yarCellExclude p) s = .next (u.answers rowYarCellExclude p1 Stat.OK []) ∧ u.f (F.YAR_CELL_EXCL c) = x ∧
        (x = 1 → u.cellAvail c = false) ∧ Touches [] [A.YAR_CELL c] s1 u) ∧
    (∀ (k : Fin 16) (d i : Nat), Admitted rowYarDemandSet p s s1 p1 → p.params = [BitVec.ofNat 8 k] ++ leBytes 4 d ++ leBytes 3 i → d < 2 ^ 26 → i < 2 ^ 24 →
      s1.on (F.YAR_S_CFG_SRC k) = true →
      ∃ u : State, exec (.yarDemandSet p) s = .next (u.answers rowYarDemandSet p1 Stat.OK []) ∧ u.f (F.YAR_S_DEM_DEM k) = d ∧ u.f (F.YAR_S_IARM_IARM k) = i ∧
        Touches [] [A.YAR_S_DEM k, A.YAR_S_IARM k] s1 u) ∧
    (∀ w : Word, s.running = true →
      ∃ t : State, exec (.swuSafe w) s = .next t.wrapUp ∧ Touches [] [A.SWU_SAFE] s t ∧
        (s.unlocked = true → t.f F.SWU_SAFE_SAFE = w.toNat % 256 ∧
          ∀ n : Fin 8, (t.pair (n.val / 2)).edges = [] → t.node.bscan = false → t.goLevel n = bit w.toNat n) ∧
        (s.unlocked = false → t.reg A.SWU_SAFE = s.reg A.SWU_SAFE))

/-- 06 R183, R185 to R189: the first period of a waiting channel begins at its instant and answers SWU_START; a running channel begins its
next period where the last one ended, with the pulse that its duty asks for when it leaves no carry and no update is due, or stops there
when asked and answers every SWU_STOP; the logical state follows the changes of the period; a core's write of either shadow is taken
unless a loop port writes them. A pair without a channel, and one that does not run, stays as it is. With their frames. -/
def Obligations.CarrierPeriods : Prop :=
  ∀ (q : Fin 4) (s : State), s.running = true →
    (s.hasChan q = false ∨ (s.pair q).chan.startAt = none ∧ s.on (F.SWU_P_CFG_RUN q) = false → exec (.periodStart q) s = .next s.wrapUp) ∧
    (∀ (t0 : Nat) (c : Packet), s.hasChan q = true → (s.pair q).chan.startAt = some t0 → (s.pair q).chan.startCmd = some c →
      ∃ u : State, exec (.periodStart q) s = .next ((u.release 0x0403 c Stat.OK []).clkOf t0).wrapUp ∧ u.on (F.SWU_P_CFG_RUN q) = true ∧
        t0 ≤ u.pclk ∧ (u.pair q).chan.periodAt = t0 ∧ (u.pair q).chan.nextAt = t0 + u.f (F.SWU_P_ACTP_VALUE q) ∧
        (u.pair q).chan.startAt = none ∧ (u.pair q).chan.startCmd = none ∧
        Touches [.clk, .swu, .hub, .meas] [A.SWU_P_CFG q, A.SWU_P_ACTP q, A.SWU_P_ACTD q, A.SWU_P_STAT q, A.SWU_P_CARRY q] s u) ∧
    (s.hasChan q = true → (s.pair q).chan.startAt = none → s.on (F.SWU_P_CFG_RUN q) = true → (s.pair q).chan.stopCmds = [] →
      ∃ t : State, exec (.periodStart q) s = .next t.wrapUp ∧ t.on (F.SWU_P_CFG_RUN q) = true ∧ (s.pair q).chan.nextAt ≤ t.pclk ∧
        (t.pair q).chan.periodAt = (s.pair q).chan.nextAt ∧ (t.pair q).chan.nextAt = (s.pair q).chan.nextAt + t.f (F.SWU_P_ACTP_VALUE q) ∧
        ((s.pair q).chan.commit = false → s.on (F.SWU_P_STAT_PW q) = false → s.on (F.SWU_P_STAT_DW q) = false → s.acc q = 0 →
          s.window q ≤ s.f (F.SWU_P_ACTD_VALUE q) →
          s.f (F.SWU_P_ACTD_VALUE q) + (if s.f (F.SWU_P_CFG_CMODE q) = 0 then s.window q else 2 * s.window q) ≤ s.f (F.SWU_P_ACTP_VALUE q) →
          t.f (F.SWU_P_ACTP_VALUE q) = s.f (F.SWU_P_ACTP_VALUE q) ∧ t.f (F.SWU_P_ACTD_VALUE q) = s.f (F.SWU_P_ACTD_VALUE q) ∧ t.acc q = 0 ∧
          (t.pair q).chan.changes = (periodChanges (s.f (F.SWU_P_CFG_CMODE q)) (s.pair q).chan.nextAt (s.f (F.SWU_P_ACTP_VALUE q))
            (s.f (F.SWU_P_ACTD_VALUE q))).tail) ∧
        Touches [.clk, .swu, .hub, .meas] [A.SWU_P_CFG q, A.SWU_P_ACTP q, A.SWU_P_ACTD q, A.SWU_P_STAT q, A.SWU_P_CARRY q] s t) ∧
    (∀ cs : List Packet, s.hasChan q = true → (s.pair q).chan.startAt = none → s.on (F.SWU_P_CFG_RUN q) = true → cs ≠ [] →
      (s.pair q).chan.stopCmds = cs →
      ∃ u : State, exec (.periodStart q) s = .next ((u.each cs (fun u c => u.finalReply 0x0404 c Stat.OK [])).clkOf (s.pair q).chan.nextAt).wrapUp ∧
        u.on (F.SWU_P_CFG_RUN q) = false ∧ (u.pair q).logical = none ∧ (u.pair q).chan.stopCmds = [] ∧ (s.pair q).chan.nextAt ≤ u.pclk ∧
        Touches [.clk, .swu] [A.SWU_P_CFG q] s u) ∧
    ((s.pair q).chan.changes = [] → exec (.carrierLogicalStateChange q) s = .next s.wrapUp) ∧
    (∀ (at0 : Nat) (e : Bool) (rest : List (Nat × Bool)), (s.pair q).chan.changes = (at0, e) :: rest →
      ∃ t : State, exec (.carrierLogicalStateChange q) s = .next t.wrapUp ∧ at0 ≤ t.pclk ∧ (t.pair q).chan.changes = rest ∧
        ((s.pair q).waits = false → s.forced q = false → (t.pair q).logical = some e) ∧
        ((s.pair q).waits = true ∨ s.forced q = true → (t.pair q).logical = (s.pair q).logical) ∧ Touches [.clk, .swu, .meas] [A.SWU_P_STAT q] s t) ∧
    (∀ per duty : Option (BitVec 24),
      (s.hasChan q = true → s.ported q = false →
        ∃ t : State, exec (.shadowWrite q per duty) s = .next t.wrapUp ∧
          t.f (F.SWU_P_PERIOD_VALUE q) = (per.map BitVec.toNat).getD (s.f (F.SWU_P_PERIOD_VALUE q)) ∧
          t.f (F.SWU_P_DUTY_VALUE q) = (duty.map BitVec.toNat).getD (s.f (F.SWU_P_DUTY_VALUE q)) ∧
          t.on (F.SWU_P_STAT_PW q) = (s.on (F.SWU_P_STAT_PW q) || per.isSome) ∧ t.on (F.SWU_P_STAT_DW q) = (s.on (F.SWU_P_STAT_DW q) || duty.isSome) ∧
          Touches [] [A.SWU_P_PERIOD q, A.SWU_P_DUTY q, A.SWU_P_STAT q] s t) ∧
      (s.hasChan q = false ∨ s.ported q = true → exec (.shadowWrite q per duty) s = .next s.wrapUp))

/-- 07 R222, R223, R233, R234: a commit writes every signal of its run, and no other, and counts the run of each loop; a run that cannot
commit before LOOP_END commits nothing and is counted; loops are created, enabled, cold (then they are left out of a run that has not
committed) and warm, and disabled, coefficients and
parameters set. With their frames. -/
def Obligations.LoopProgram : Prop :=
  ∀ (p p1 : Packet) (s s1 : State),
    (s.running = true → s.loop.run = none → exec .loopCommit s = .next s.wrapUp ∧ exec .loopAbandon s = .next s.wrapUp) ∧
    (∀ r : LoopRun, s.running = true → s.loop.run = some r →
      ((∀ n ∈ r.ran, n < 32) → (∀ x ∈ r.regions, x.1 < 32) →
        (s.reachNow (r.opened + 2 * r.clks)).clk.timePs ≤ s.clk.tickStart + s.clk.phLoopEnd * 2000 →
        ∃ t : State, exec .loopCommit s = .next t.wrapUp ∧ t.loop.run = none ∧ t.loop.done = true ∧ t.loop.ramps = r.ramps ∧ r.opened + 2 * r.clks ≤ t.now ∧
          (∀ x ∈ r.sigs, x.1 < 4096 → (∀ y ∈ r.sigs, y.1 = x.1 → y = x) → t.sig x.1 = x.2) ∧
          (∀ i, i < 4096 → (∀ x ∈ r.sigs, x.1 ≠ i) → t.sig i = s.sig i) ∧
          (∀ n ∈ r.ran, r.ran.Nodup → t.reg (A.LOOP_L_RUNS n) = s.reg (A.LOOP_L_RUNS n) + 1) ∧
          Touches [.clk, .loop, .hub, .recorder, .twin, .lanes] (r.sigs.map (fun x => sigAddr x.1) ++ r.regions.map (fun x => A.LOOP_L_SCHED x.1) ++
            r.ran.map A.LOOP_L_RUNS ++ [A.LOOP_CNT, A.LOOP_STAT] ++ stringNumbers.map A.YAR_S_DEM ++ stringNumbers.map A.YAR_S_IARM ++ sendRegs) s t) ∧
      (s.clk.tickStart + s.clk.phLoopEnd * 2000 < (s.reachNow (r.opened + 2 * r.clks)).clk.timePs →
        ∃ t : State, exec .loopCommit s = .next t.wrapUp ∧ t.loop.run = none ∧ t.loop.done = false ∧
          t.f F.LOOP_CNT_OVERRUN_CNT = min (s.f F.LOOP_CNT_OVERRUN_CNT + 1) 65535 ∧ Touches [.clk, .loop, .hub] [A.LOOP_CNT, A.LOOP_STAT] s t) ∧
      (∃ t : State, exec .loopAbandon s = .next t.wrapUp ∧ t.loop.run = none ∧ t.loop.done = false ∧ t.f F.LOOP_STAT_LAST_CLK = 0xFFFF ∧
        t.f F.LOOP_CNT_OVERRUN_CNT = min (s.f F.LOOP_CNT_OVERRUN_CNT + 1) 65535 ∧
        (s.isMeadow = false → t.hub.raised = s.hub.raised ++ [FS.LOOP_OVERRUN]) ∧ Touches [.clk, .loop, .hub] [A.LOOP_CNT, A.LOOP_STAT] s t)) ∧
    (∀ (i f : Nat) (rest : List Nat), Admitted rowLoopCreate p s s1 p1 → s1.loopDescOk p.params = true → s1.firstFit (lCount (p.params.take 88)) = some f →
      (s1.pool TY.LOOP).free = i :: rest → i < 32 →
      ∃ u : State, exec (.loopCreate p) s = .next (u.answers rowLoopCreate p1 Stat.OK (leBytes 4 (u.handleAt TY.LOOP i).toNat)) ∧ u.on (F.LOOP_L_CFG_LIVE i) = true ∧
        u.on (F.LOOP_L_CFG_EN i) = false ∧ u.f (F.LOOP_L_CFG_FIRST i) = f ∧ u.f (F.LOOP_L_CFG_COUNT i) = lCount (p.params.take 88) ∧
        (u.loopSt i).desc = p.params.take 88 ∧ u.reg (A.LOOP_L_RUNS i) = 0 ∧ (u.pool TY.LOOP).free = rest ∧
        Touches [.cmd, .loop] [A.LOOP_L_CFG i, A.LOOP_L_TIM i, A.LOOP_L_SCHED i, A.LOOP_L_RUNS i, A.LOOP_USE, A.LOOP_WIN, A.LOOP_PROG] s1 u) ∧
    (∀ n, Admitted rowLoopEnable p s s1 p1 → s1.handleStatus TY.LOOP p.handle = Stat.OK → n = hIndex p.handle →
      (p.params = [0] →
        ∃ u : State, exec (.loopEnable p) s = .next (u.answers rowLoopEnable p1 Stat.OK []) ∧ u.on (F.LOOP_L_CFG_EN n) = false ∧
          Touches [] [A.LOOP_L_CFG n, A.LOOP_WIN, A.LOOP_PROG] s1 u) ∧
      (s1.loopPhaseOk = true → s1.loopEstimate (if s1.on (F.LOOP_L_CFG_EN n) then s1.enabledLoops else s1.enabledLoops ++ [n]) ≤ s1.loopWindow →
        (p.params = [1] →
          ∃ u : State, exec (.loopEnable p) s = .next (u.answers rowLoopEnable p1 Stat.OK []) ∧ u.on (F.LOOP_L_CFG_EN n) = true ∧
            u.reg (A.LOOP_L_RUNS n) = 0 ∧ (u.loopSt n).fresh = true ∧ (∀ a ∈ loopOuts (s1.loopSt n), u.sig a = 0) ∧
            u.f (F.LOOP_L_SCHED_REGION n) = 0 ∧ (∀ k ∈ s1.loopWords n, Map.get 0 u.loop.words k = 0) ∧ (∀ r, u.loop.run = some r → n ∉ r.ran) ∧
            Touches [.loop] ([A.LOOP_L_CFG n, A.LOOP_L_SCHED n, A.LOOP_L_RUNS n, A.LOOP_WIN, A.LOOP_PROG] ++
              (loopOuts (s1.loopSt n)).map sigAddr) s1 u) ∧
        (p.params = [2] →
          ∃ u : State, exec (.loopEnable p) s = .next (u.answers rowLoopEnable p1 Stat.OK []) ∧ u.on (F.LOOP_L_CFG_EN n) = true ∧
            u.reg (A.LOOP_L_RUNS n) = 0 ∧ u.loop.words = s1.loop.words ∧ Touches [.loop] [A.LOOP_L_CFG n, A.LOOP_L_RUNS n, A.LOOP_WIN, A.LOOP_PROG] s1 u))) ∧
    (∀ c, Admitted rowLoopCoefSet p s s1 p1 → p.params.length = 65 → numAt p.params 0 1 = c → c < 64 →
      ∃ u : State, exec (.loopCoefSet p) s = .next (u.answers rowLoopCoefSet p1 Stat.OK []) ∧
        (∀ w, w < 16 → u.reg (A.LOOP_COEF c w) = BitVec.ofNat 32 (numAt p.params (1 + 4 * w) 4)) ∧ Touches [] ((List.range 16).map (A.LOOP_COEF c)) s1 u) ∧
    (∀ a n, Admitted rowLoopParamSet p s s1 p1 → numAt p.params 0 2 = a → numAt p.params 2 1 = n → p.params.length = 3 + 4 * n → 1 ≤ n → n ≤ 64 → 0x100 ≤ a →
      a + n ≤ 0x200 →
      ∃ u : State, exec (.loopParamSet p) s = .next (u.answers rowLoopParamSet p1 Stat.OK []) ∧
        (∀ i, i < n → u.sig (a + i) = BitVec.ofNat 32 (numAt p.params (3 + 4 * i) 4)) ∧ Touches [] ((List.range n).map (fun i => sigAddr (a + i))) s1 u)

/-- 08 R238 to R240: the code of a sample lies within its error of the formula's code, at an end of the range and flagged when the formula
leaves it. 08 R235, R242 to R246, R248 to R251: a started sequence's run starts at its trigger, again in the clk in which the last one
completes, or is missed while that still runs; a conversion writes its code, tick, slice and flags to its entry, to the injection
register, or into its command's reply; the spare calibrates, shadows the next active slice, or fails; an injection takes its place in the
queue of 4 or is dropped. With their frames. The error of a sample is a free value within its bound (DESIGN CHOICE, assumption 77). -/
def Obligations.Conversions : Prop :=
  (∀ (i : Nat) (a b err : Int) (ex loose : Bool),
    (-32768 ≤ inputCode i a b → inputCode i a b ≤ 32767 → (sampleCode i a b ex loose err).2 = false ∧
      (loose = false → ((sampleCode i a b ex loose err).1 - inputCode i a b).natAbs ≤ errorBound i (inputCode i a b) ex)) ∧
    (inputCode i a b < -32768 → sampleCode i a b ex loose err = (-32768, true)) ∧
    (32767 < inputCode i a b → sampleCode i a b ex loose err = (32767, true))) ∧
  ∀ (s : State), s.running = true →
    (∀ q : Fin 4,
      (s.on (F.MEAS_Q_CFG_STARTED q) = false ∨ (s.seq q).stopping = true → exec (.sequenceRunStart q) s = .next s.wrapUp) ∧
      (∀ o, o = s.clk.phSample + s.f (F.MEAS_Q_OFS_OFS q) → s.on (F.MEAS_Q_CFG_STARTED q) = true → (s.seq q).stopping = false →
        s.f (F.MEAS_Q_CFG_TRIG q) = 0 →
        (s.phaseTrigger q = false ∨ o < s.clk.tickLen ∧ s.phaseFalls o = false → exec (.sequenceRunStart q) s = .next s.wrapUp) ∧
        (s.phaseTrigger q = true → s.clk.tickLen ≤ o →
          ∃ t : State, exec (.sequenceRunStart q) s = .next t.wrapUp ∧ t.f (F.MEAS_Q_STAT_MISSED q) = min (s.f (F.MEAS_Q_STAT_MISSED q) + 1) 65535 ∧
            t.hub.raised = s.hub.raised ++ [FS.MEAS_LATE] ∧ Touches [.meas, .hub] [A.MEAS_Q_STAT q] s t) ∧
        (s.phaseTrigger q = true → o < s.clk.tickLen → s.phaseFalls o = true →
          ((s.seq q).running = false →
            ∃ t : State, exec (.sequenceRunStart q) s = .next t.wrapUp ∧ (t.seq q).running = true ∧ (t.seq q).next = 0 ∧ (t.seq q).written = 0 ∧
              (t.seq q).startAt = t.now ∧ s.clk.tickStart + o * 2000 ≤ t.clk.timePs ∧ Touches [.clk, .meas] t0Regs s t) ∧
          ((s.seq q).running = true → s.entryWaits q = false → (s.adcs q).all (fun c => (c.since + 200) / 2 == (s.reachPhase o).now / 2) = true →
            ∃ t : State, exec (.sequenceRunStart q) s = .next t.wrapUp ∧ (t.seq q).again = true ∧ Touches [.clk, .meas] t0Regs s t) ∧
          ((s.seq q).running = true → (s.adcs q).any (fun c => decide ((s.reachPhase o).now / 2 < (c.since + 200) / 2)) = true →
            ∃ t : State, exec (.sequenceRunStart q) s = .next t.wrapUp ∧ (t.seq q).running = true ∧
              t.f (F.MEAS_Q_STAT_MISSED q) = min (s.f (F.MEAS_Q_STAT_MISSED q) + 1) 65535 ∧ t.hub.raised = s.hub.raised ++ [FS.MEAS_LATE] ∧
              Touches [.clk, .meas, .hub] (A.MEAS_Q_STAT q :: t0Regs) s t))) ∧
      (s.on (F.MEAS_Q_CFG_STARTED q) = true → (s.seq q).stopping = false → s.f (F.MEAS_Q_CFG_TRIG q) ≠ 0 →
        ((s.seq q).dues = [] → exec (.sequenceRunStart q) s = .next s.wrapUp) ∧
        (∀ (d : Nat) (ds : List Nat), (s.seq q).dues = d :: ds → (s.seq q).running = false →
          ∃ t : State, exec (.sequenceRunStart q) s = .next t.wrapUp ∧ (t.seq q).running = true ∧ (t.seq q).next = 0 ∧ (t.seq q).dues = ds ∧
            (t.seq q).startAt = t.now ∧ d ≤ t.pclk ∧ Touches [.clk, .meas] t0Regs s t))) ∧
    (∀ (n : Fin 5) (a b err sh : Int) (near : List (Fin 24 × Nat)),
      ((s.adc n).conv = none → seqNumbers.all (fun q => !s.entryWaits q) = true → s.meas.inj = [] →
        exec (.conversionComplete n a b near err sh) s = .next s.wrapUp) ∧
      (∀ c : Conversion, (s.adc n).conv = some c → ∀ st : Bool, st = decide (0 < (s.adc n).settle) → ∀ x : Int × Bool,
        x = sampleCode c.input a b (exposed c.input a b near) (st || s.on F.MEAS_SLICE_NOSPARE) err →
        (∀ (q : Fin 4) (e : Fin 32), c.entry = some (q.val, e.val) →
          ∃ t : State, exec (.conversionComplete n a b near err sh) s = .next t.wrapUp ∧ t.f (F.MEAS_RES_CODE q e) = unsigned 16 x.1 ∧
            t.on (F.MEAS_RES_OVR q e) = x.2 ∧ t.on (F.MEAS_RES_SETTLE q e) = st ∧ t.on (F.MEAS_RES_VALID q e) = true ∧
            t.f (F.MEAS_RES_TICK q e) = c.tick % 256 ∧ t.f (F.MEAS_RES_SLICE q e) = n ∧ c.since + 200 ≤ t.now ∧
            Touches ([.clk, .meas, .life] ++ sampleParts) ([A.MEAS_RES q e, A.MEAS_CNT, A.MEAS_XCHK, A.MEAS_SLICE, A.MEAS_Q_STAT q, A.MEAS_Q_CFG q,
              A.LIFE_C_ESR 0, A.LIFE_C_ESR 1] ++ (List.range 4).map A.LIFE_W_DRIFT ++ t0Regs ++ sampleRegs) s t) ∧
        (c.entry = none → c.cmd = none →
          ∃ t : State, exec (.conversionComplete n a b near err sh) s = .next t.wrapUp ∧
            (t.reg A.MEAS_INJ_RES).toNat = resultWord c.tick n st x.2 x.1 ∧ c.since + 200 ≤ t.now ∧
            Touches [.clk, .meas, .hub] ([A.MEAS_INJ_RES, A.MEAS_CNT, A.MEAS_XCHK, A.MEAS_SLICE] ++ t0Regs) s t) ∧
        (∀ p : Packet, c.entry = none → c.cmd = some p →
          ∃ u : State, exec (.conversionComplete n a b near err sh) s =
              .next (u.release 0x0604 p Stat.OK (leBytes 4 (resultWord c.tick n st x.2 x.1))).wrapUp ∧ c.since + 200 ≤ u.now ∧
            Touches [.clk, .meas, .hub] ([A.MEAS_CNT, A.MEAS_XCHK, A.MEAS_SLICE] ++ t0Regs) s u))) ∧
    (s.on F.MEAS_SLICE_NOSPARE = true → exec .calibrationCycle s = .next s.wrapUp) ∧
    (s.on F.MEAS_SLICE_NOSPARE = false →
      ∃ t : State, exec .calibrationCycle s = .next t.wrapUp ∧ t.meas.calAt = t.now ∧
        s.meas.calAt + s.f F.MEAS_CTRL_CAL_PERIOD * 1000000 ≤ t.now ∧
        t.meas.calibrating = (s.meas.calibrating || s.meas.shadow.isNone) ∧ t.meas.shadow = s.meas.shadow ∧ Touches [.clk, .meas] [] s t) ∧
    (∀ (g o : Int),
      (s.meas.calibrating = false → exec (.calibrationDone g o) s = .next s.wrapUp) ∧
      (s.meas.calibrating = true → s.f F.MEAS_SLICE_SPARE < 5 →
        ∃ t : State, exec (.calibrationDone g o) s = .next t.wrapUp ∧ t.meas.calibrating = false ∧
          (-32768 ≤ g → g ≤ 32767 → -32768 ≤ o → o ≤ 32767 →
            t.f (F.MEAS_SCAL_GAIN (s.f F.MEAS_SLICE_SPARE)) = unsigned 16 g ∧ t.f (F.MEAS_SCAL_OFFSET (s.f F.MEAS_SLICE_SPARE)) = unsigned 16 o ∧
            (∀ k, s.nextActive (s.f F.MEAS_SLICE_SPARE) = some k → t.meas.shadow = some (k, 0, 0, none)) ∧
            Touches [.meas] (A.MEAS_SCAL (s.f F.MEAS_SLICE_SPARE) :: t0Regs) s t) ∧
          (g < -32768 ∨ 32767 < g ∨ o < -32768 ∨ 32767 < o →
            bit (t.f F.MEAS_SLICE_FAILED) (s.f F.MEAS_SLICE_SPARE) = true ∧ t.on F.MEAS_SLICE_NOSPARE = true ∧ t.hub.raised = s.hub.raised ++ [FS.MEAS_CAL] ∧
            Touches [.meas, .hub] (A.MEAS_SLICE :: t0Regs) s t))) ∧
    (∀ (core : Fin 4) (i : BitVec 5) (d : Bool),
      (inputOk (i.toNat + 32 * b2n d) = false → exec (.measInjReq core i d) s = .next s.wrapUp) ∧
      (∀ ahead rest : List Inject, inputOk (i.toNat + 32 * b2n d) = true → (s.measAt s.now).meas.inj = ahead ++ rest →
        ahead.all (s.before (core.val + 1)) = true → rest.all (fun x => !s.before (core.val + 1) x) = true →
        (ahead.length < 4 →
          ∃ t : State, exec (.measInjReq core i d) s = .next t.wrapUp ∧
            t.meas.inj = (ahead ++ [({ cmd := none, input := i.toNat + 32 * b2n d, since := s.now, rank := core.val + 1 } : Inject)] ++ rest).take 4 ∧
            t.f F.MEAS_XCHK_INJ_DROP = min (s.f F.MEAS_XCHK_INJ_DROP + (ahead.length + rest.length + 1 - 4)) 255 ∧
            Touches [.meas] (A.MEAS_XCHK :: t0Regs) s t) ∧
        (4 ≤ ahead.length →
          ∃ t : State, exec (.measInjReq core i d) s = .next t.wrapUp ∧ t.f F.MEAS_XCHK_INJ_DROP = min (s.f F.MEAS_XCHK_INJ_DROP + 1) 255 ∧
            Touches [] [A.MEAS_XCHK] s t)))

/-- 08 R241 to R244, R249, R254: a sequence is created stopped and with no valid result; MEAS_SEQ_START starts it, for one run when its trigger is a
command, and then answers at its end; MEAS_SEQ_STOP ends it after its run, which a trigger of the same clk still starts; MEAS_INJECT waits
for its result, or is BUSY. With their frames. -/
def Obligations.SequenceCommands : Prop :=
  ∀ (p p1 : Packet) (s s1 : State),
    (∀ (i : Nat) (rest : List Nat), Admitted rowMeasSeqCreate p s s1 p1 → s1.seqParamsOk p.params = true → (s1.pool TY.SEQUENCE).free = i :: rest → i < 4 →
      ∃ u : State, exec (.measSeqCreate p) s = .next (u.answers rowMeasSeqCreate p1 Stat.OK (leBytes 4 (u.handleAt TY.SEQUENCE i).toNat)) ∧
        u.on (F.MEAS_Q_CFG_LIVE i) = true ∧ u.on (F.MEAS_Q_CFG_STARTED i) = false ∧ u.f (F.MEAS_Q_CFG_TRIG i) = numAt p.params 0 1 ∧
        u.seqCount i = numAt p.params 6 1 ∧ u.f (F.MEAS_Q_OFS_OFS i) = numAt p.params 2 2 % 2 ^ 15 ∧ (∀ e, e < 32 → u.on (F.MEAS_RES_VALID i e) = false) ∧
        (∀ e, e < numAt p.params 6 1 → u.reg (A.MEAS_Q_E i e) = BitVec.ofNat 32 (numAt p.params (7 + e) 1)) ∧ (u.seq i).running = false ∧
        Touches [.cmd, .meas] ([A.MEAS_Q_CFG i, A.MEAS_Q_OFS i, A.MEAS_Q_STAT i, A.MEAS_Q_T0 i] ++ (List.range 32).map (A.MEAS_RES i) ++
          (List.range 32).map (A.MEAS_Q_E i)) s1 u) ∧
    (∀ q, Admitted rowMeasSeqStart p s s1 p1 → s1.handleStatus TY.SEQUENCE p.handle = Stat.OK → q = hIndex p.handle → p.params = [] →
      (s1.f (F.MEAS_Q_CFG_TRIG q) = 2 → (s1.seq q).running = false →
        ∃ u : State, exec (.measSeqStart p) s = .next (u.holds rowMeasSeqStart p1) ∧ (u.seq q).running = true ∧ (u.seq q).startCmd = some p1 ∧
          (u.seq q).startAt = s1.now ∧ u.on (F.MEAS_Q_CFG_STARTED q) = true ∧ Touches [.meas] (A.MEAS_Q_CFG q :: t0Regs) s1 u) ∧
      (s1.f (F.MEAS_Q_CFG_TRIG q) = 2 → (s1.seq q).running = true → s1.endsNow q = true → (s1.seq q).again = false →
        ∃ u : State, exec (.measSeqStart p) s = .next (u.holds rowMeasSeqStart p1) ∧ (u.seq q).again = true ∧ (u.seq q).nextCmd = some p1 ∧
          Touches [.meas] (A.MEAS_Q_CFG q :: t0Regs) s1 u) ∧
      (s1.f (F.MEAS_Q_CFG_TRIG q) = 2 → (s1.seq q).running = true → s1.endsNow q = false ∨ (s1.seq q).again = true →
        exec (.measSeqStart p) s = .next (s1.answers rowMeasSeqStart p1 Stat.DENIED [])) ∧
      (s1.f (F.MEAS_Q_CFG_TRIG q) = 1 →
        ∃ u : State, exec (.measSeqStart p) s = .next (u.answers rowMeasSeqStart p1 Stat.OK []) ∧ u.on (F.MEAS_Q_CFG_STARTED q) = true ∧
          (u.seq q).dues = (if (s1.seq q).running = true ∨ (s1.seq q).dues ≠ [] then (s1.seq q).dues else [s1.pclk + 2]) ∧
          Touches [.meas] [A.MEAS_Q_CFG q] s1 u) ∧
      (s1.f (F.MEAS_Q_CFG_TRIG q) = 0 ∨ s1.f (F.MEAS_Q_CFG_TRIG q) = 3 →
        ∃ u : State, exec (.measSeqStart p) s = .next (u.answers rowMeasSeqStart p1 Stat.OK []) ∧ u.on (F.MEAS_Q_CFG_STARTED q) = true ∧
          Touches [] [A.MEAS_Q_CFG q] s1 u)) ∧
    (∀ q, Admitted rowMeasSeqStop p s s1 p1 → s1.handleStatus TY.SEQUENCE p.handle = Stat.OK → q = hIndex p.handle → p.params = [] →
      (s1.on (F.MEAS_Q_CFG_STARTED q) = false → exec (.measSeqStop p) s = .next (s1.answers rowMeasSeqStop p1 Stat.OK [])) ∧
      (s1.on (F.MEAS_Q_CFG_STARTED q) = true → s1.triggerNow q = false ∨ (s1.seq q).stopping = true →
        ((s1.seq q).running = true →
          ∃ u : State, exec (.measSeqStop p) s = .next (u.answers rowMeasSeqStop p1 Stat.ACCEPTED []) ∧ (u.seq q).stopping = true ∧
            (u.seq q).stopCmds = (s1.seq q).stopCmds ++ [p1] ∧ (u.seq q).dues = [] ∧ (u.seq q).running = true ∧ Touches [.meas] [] s1 u) ∧
        ((s1.seq q).running = false →
          ∃ u : State, exec (.measSeqStop p) s = .next
              (((u.reply 0x0602 p1 false Stat.ACCEPTED []).finalReply 0x0602 p1 Stat.OK []).fanOut 0x0602 p1).wrapUp ∧
            u.on (F.MEAS_Q_CFG_STARTED q) = false ∧ (u.seq q).dues = [] ∧ Touches [.meas] [A.MEAS_Q_CFG q] s1 u)) ∧
      (s1.on (F.MEAS_Q_CFG_STARTED q) = true → s1.triggerNow q = true → (s1.seq q).stopping = false → (s1.seq q).running = false →
        ∃ u : State, exec (.measSeqStop p) s = .next (u.answers rowMeasSeqStop p1 Stat.ACCEPTED []) ∧ (u.seq q).running = true ∧
          (u.seq q).stopping = true ∧ (u.seq q).stopCmds = (s1.seq q).stopCmds ++ [p1] ∧ Touches [.clk, .meas] t0Regs s1 u)) ∧
    (∀ (i : Nat) (ahead rest : List Inject), Admitted rowMeasInject p s s1 p1 → p.params = leBytes 1 i → i < 64 → inputOk i = true →
      (s1.measAt s1.now).meas.inj = ahead ++ rest → ahead.all (s1.before 0) = true → rest.all (fun x => !s1.before 0 x) = true →
      (ahead.length < 4 →
        ∃ u : State, exec (.measInject p) s = .next (u.holds rowMeasInject p1) ∧
          u.meas.inj = (ahead ++ [({ cmd := some p1, input := i, since := s1.now, rank := 0 } : Inject)] ++ rest).take 4 ∧
          u.f F.MEAS_XCHK_INJ_DROP = min (s1.f F.MEAS_XCHK_INJ_DROP + (ahead.length + rest.length + 1 - 4)) 255 ∧
          Touches [.meas] (A.MEAS_XCHK :: t0Regs) s1 u) ∧
      (4 ≤ ahead.length → exec (.measInject p) s = .next (s1.answers rowMeasInject p1 Stat.BUSY [])))

/-- 09 R265, R267 to R272, R275, R276, R278: the headers of a record are rewritten; the trigger sequencer enters, in the clk after that in which
a condition of its state became true, the next state of CND_A before that of CND_B, and does what that state asks; timers, edges and
pulses; a register comparator; a request that nobody took ends; a trend block closes; a readout's next segment. With their frames. -/
def Obligations.RecorderEvents : Prop :=
  ∀ (s : State), s.running = true →
    (∀ n : Fin 16, ((s.cap n).headersDue = false → exec (.pageHeaderRewrite n) s = .next s.wrapUp) ∧
      ((s.cap n).headersDue = true →
        ∃ t : State, exec (.pageHeaderRewrite n) s = .next t.wrapUp ∧ (t.cap n).headersDue = false ∧ (t.cap n).ring = (s.cap n).ring ∧
          (∀ pg : RecPage, (s.cap n).ring = [pg] → (s.cap n).trig.isSome = true → pg.page < 512 → (∀ line, s.remapOf 2 0 line = none) →
            ∀ k, k < 128 → t.mem (pageBase pg.page + k) = (s.capHeader n pg 0 1).2.getD k 0) ∧
          Touches [.recorder, .bytes, .guard, .free] [] s t)) ∧
    (s.on F.REC_CTRL_SEQ_EN = false → exec .sequencerTransition s = .next s.wrapUp) ∧
    (∀ k, k = s.f F.REC_TSTATE_STATE → ∀ a, a = s.f (F.REC_TS_CND_CND_A k) → ∀ b, b = s.f (F.REC_TS_CND_CND_B k) →
      s.on F.REC_CTRL_SEQ_EN = true →
      (s.condSince a = none → s.condSince b = none →
        ∃ t : State, exec .sequencerTransition s = .next t.wrapUp ∧ t.recorder.pulses = [] ∧ Touches [.recorder] [] s t) ∧
      (∀ c x next, (s.condSince a = some x ∧ (∀ y, s.condSince b = some y → x / 2000 ≤ max (y / 2000) (s.clk.nowPs / 2000 - 1)) ∧
            c = a ∧ next = s.f (F.REC_TS_CND_NEXT_A k) ∨
          s.condSince b = some x ∧ (∀ y, s.condSince a = some y → max (x / 2000) (s.clk.nowPs / 2000 - 1) < y / 2000) ∧
            c = b ∧ next = s.f (F.REC_TS_CND_NEXT_B k)) → ∀ act, act = s.f (F.REC_TS_ACT_ACT next) →
        ∃ t : State, exec .sequencerTransition s = .next t.wrapUp ∧ t.f F.REC_TSTATE_STATE = next ∧ (x / 2000 + 1) * 2 ≤ t.now ∧
          t.recorder.edges = [] ∧ t.recorder.pulses = [] ∧ t.recorder.seqAt = t.clk.nowPs ∧
          (∀ n : Fin 16, bit act n = true → bit (s.cap n).tmask 0 = true → s.capState n = CAP.ARMED →
            t.capState n ≠ CAP.ARMED ∧ ((t.cap n).trig.map (fun g => g.cause)) = some (1 + 32 * next)) ∧
          (∀ o : Fin 2, Map.get 0 t.recorder.outEnd o.val =
            if bit act (16 + o.val) then t.now + s.f F.REC_TRIGIO_OUT_WIDTH * 1000 else Map.get 0 s.recorder.outEnd o.val) ∧
          t.on F.REC_SYS_REQ = (s.on F.REC_SYS_REQ || bit act 18) ∧
          (∀ d : Fin 2, t.f (F.REC_CNT_VAL_VALUE d) =
            min ((if bit act (21 + d.val) then 0 else s.f (F.REC_CNT_VAL_VALUE d)) + b2n (bit act (19 + d.val))) (2 ^ 32 - 1)) ∧
          (∀ d : Fin 2, Map.get 0 t.recorder.timerEnd d.val =
              (if bit act (23 + d.val) then t.time + s.f (F.REC_TMR_LIMIT d) * 1000 + 1 else Map.get 0 s.recorder.timerEnd d.val) ∧
            Map.get false t.recorder.timerDone d.val = (Map.get false s.recorder.timerDone d.val && !bit act (23 + d.val))) ∧
          Touches [.clk, .recorder, .bytes, .guard, .hub, .free] ([A.REC_TSTATE, A.REC_SYS, A.REC_CNT_VAL 0, A.REC_CNT_VAL 1] ++
            capNumbers.map A.REC_CAP_STAT ++ capNumbers.map A.REC_CAP_PRE ++ capNumbers.map A.REC_CAP_POST) s t)) ∧
    (∀ k : Fin 2, (Map.get 0 s.recorder.timerEnd k.val = 0 → exec (.sequencerTimer k) s = .next s.wrapUp) ∧
      (Map.get 0 s.recorder.timerEnd k.val ≠ 0 → Map.get 0 s.recorder.timerEnd k.val ≤ 2 ^ 64 →
        ∃ t : State, exec (.sequencerTimer k) s = .next t.wrapUp ∧ Map.get false t.recorder.timerDone k.val = true ∧
          Map.get 0 t.recorder.timerEnd k.val = 0 ∧ Map.get 0 s.recorder.timerEnd k.val - 1 ≤ t.time ∧ Touches [.clk, .recorder] [] s t)) ∧
    (∀ b : Bool, ∃ t : State, exec (.seqEn b) s = .next t.wrapUp ∧ t.on F.REC_CTRL_SEQ_EN = b ∧
        (b = true → t.f F.REC_TSTATE_STATE = 0 ∧ t.recorder.edges = [] ∧ t.recorder.pulses = [] ∧ t.recorder.seqAt = t.clk.nowPs) ∧
        (b = false → t.recorder = s.recorder ∧ t.reg A.REC_TSTATE = s.reg A.REC_TSTATE) ∧
        Touches [.recorder] [A.REC_CTRL, A.REC_TSTATE] s t) ∧
    (∀ (i : Fin 4) (r : Bool) (sub : Fin 8),
      ∃ t : State, exec (.triginEdge i r sub) s = .next t.wrapUp ∧ Touches [.recorder] [] s t ∧
        (bit (s.f F.REC_TRIGIO_EN) i = true → r = !bit (s.f F.REC_TRIGIO_POL) i → t.recorder.edges = s.recorder.edges ++
          [{ input := i.val, rising := r, time := s.time, sub := sub.val, seenAt := s.clk.nowPs }]) ∧
        (bit (s.f F.REC_TRIGIO_EN) i = false ∨ r = bit (s.f F.REC_TRIGIO_POL) i → t.recorder.edges = s.recorder.edges)) ∧
    (∀ o : Fin 2, (Map.get 0 s.recorder.outEnd o.val = 0 → exec (.outWidth o) s = .next s.wrapUp) ∧
      (Map.get 0 s.recorder.outEnd o.val ≠ 0 →
        ∃ t : State, exec (.outWidth o) s = .next t.wrapUp ∧ t.trigOut o = false ∧ Map.get 0 s.recorder.outEnd o.val ≤ t.now ∧
          Touches [.clk, .recorder] [] s t)) ∧
    (s.on F.REC_SYS_REQ = true → s.recorder.reqTick + 16 ≤ s.tickNo →
      ∃ t : State, exec .trigReqTimeout s = .next t.wrapUp ∧ t.on F.REC_SYS_REQ = false ∧ Touches [] [A.REC_SYS] s t) ∧
    (s.on F.REC_SYS_REQ = false ∨ s.tickNo < s.recorder.reqTick + 16 → exec .trigReqTimeout s = .next s.wrapUp) ∧
    (∃ t : State, exec .registerComparatorEvaluation s = .next t.wrapUp ∧ Touches [.recorder] [] s t ∧
      ∀ c : Fin 4, Map.get false t.recorder.cmpTrue c.val =
        if chanKind (s.f (F.REC_CMP_SRC_SRC c)) = 2 then
          cmpHolds (s.f (F.REC_CMP_OP_FMT c)) (s.f (F.REC_CMP_OP_OP c)) (BitVec.ofNat 32 ((s.chanWords (s.f (F.REC_CMP_SRC_SRC c))).getD 0 0))
            (Map.get 0 s.recorder.cmpPrev c.val) (s.reg (A.REC_CMP_A c)) (s.reg (A.REC_CMP_B c))
        else Map.get false s.recorder.cmpTrue c.val) ∧
    (∀ n : Fin 8, ((s.trend n).fill = [] → exec (.blockClose n) s = .next s.wrapUp) ∧
      ((s.trend n).fill ≠ [] →
        ∃ t : State, exec (.blockClose n) s = .next t.wrapUp ∧ (t.trend n).fill = [] ∧ (s.trend n).fillAt + 1000000000 ≤ t.now ∧
          (t.trend n).seq = ((s.trend n).seq + 1) % 2 ^ 32 ∧ (t.trend n).place = ((s.trend n).place + 1) % (s.trend n).slots ∧
          (t.trend n).closed = (let l := (s.trend n).closed ++ [{ place := (s.trend n).place, len := (s.trendBlock n (s.trend n)).length }]
            if (s.trend n).slots < l.length + (s.trend n).flying then l.drop 1 else l) ∧
          Touches [.clk, .recorder, .bytes, .guard, .hub] [A.REC_TR_STAT n, A.REC_TR_LOST n, A.REC_STAT] s t)) ∧
    (∀ n : Fin 16, (s.cap n).reading = none → exec (.recordSegmentPlace n) s = .next s.wrapUp) ∧
    (∀ (n : Fin 16) (r : RecRead) (l : Nat), (s.cap n).reading = some r → s.trendLane r.cmd.source = some l → 16384 < queued (s.lane l).txq + 4096 →
      exec (.recordSegmentPlace n) s = .next s.wrapUp) ∧
    (∀ (n : Fin 16) (r : RecRead), (s.cap n).reading = some r →
      (∀ l, s.trendLane r.cmd.source = some l → queued (s.lane l).txq + 4096 ≤ 16384) → ∀ d : List Byte,
      d = (s.readRecorder (pageBase (((s.cap n).ring[r.page]?.map (·.page)).getD 0) + 1024 * r.frag) 1024).2.1 → ∀ bad : Nat,
      bad = (if (s.readRecorder (pageBase (((s.cap n).ring[r.page]?.map (·.page)).getD 0) + 1024 * r.frag) 1024).2.2 = 0 then r.bad
        else r.bad ||| 2 ^ (r.page - r.first)) →
      (r.frag < 63 ∨ r.page + 1 < r.first + r.count →
        ∃ t : State, exec (.recordSegmentPlace n) s = .next t.wrapUp ∧ (t.cap n).reading = some { r with
            frag := if r.frag < 63 then r.frag + 1 else 0, page := if r.frag < 63 then r.page else r.page + 1, bad := bad } ∧
          (∀ l, r.cmd.source.toNat % 8192 ≠ s.addr → s.route (r.cmd.source.toNat % 8192) = .lane l →
            ∃ y ∈ (t.lane l).txq, y.bytes = segBytes {
              kind := KIND.RECORD, ctl := (if r.frag = 0 then 4 else 0) + (if r.frag = 63 then 8 else 0), frag := r.frag
              dest := r.cmd.source.toNat % 8192, payload := d }) ∧
          Touches [.recorder, .cmd, .lanes, .hub] ([A.MGRD_CNT_REC, A.MGRD_LAST, A.MGRD_LAST_INFO, A.REC_STAT] ++ sendRegs) s t) ∧
      (63 ≤ r.frag → r.first + r.count ≤ r.page + 1 →
        ∃ u : State, exec (.recordSegmentPlace n) s = .next (u.finalReply 0x0705 r.cmd Stat.OK (leBytes 2 bad)).wrapUp ∧
          (u.cap n).reading = none ∧ Touches [.recorder, .cmd, .lanes, .hub] ([A.MGRD_CNT_REC, A.MGRD_LAST, A.MGRD_LAST_INFO, A.REC_STAT] ++ sendRegs) s u))

/-- 09 R257 to R263, R272, R275, R278, R280: captures are created, armed with the pages for PRE and POST (fewer: POST is clamped), triggered
(a second trigger of the same clk adds its cause), stopped, released and read; trend streams created, started and stopped; SYS_TRIGGER
makes a request; and what a state refuses. With their frames. -/
def Obligations.RecorderCommands : Prop :=
  ∀ (p p1 : Packet) (s s1 : State) (n : Nat),
    (∀ (clock div i : Nat) (chans rest : List Nat), Admitted rowCaptureCreate p s s1 p1 → s1.recParams p.params 0 = some (clock, div, chans) →
      (s1.pool TY.CAPTURE).free = i :: rest → i < 16 →
      ∃ u : State, exec (.captureCreate p) s = .next (u.answers rowCaptureCreate p1 Stat.OK (leBytes 4 (u.handleAt TY.CAPTURE i).toNat)) ∧
        (u.cap i).chans = chans ∧ (u.cap i).clock = clock ∧ (u.cap i).div = div ∧ u.capState i = CAP.IDLE ∧ u.on (F.REC_CAP_STAT_LIVE i) = true ∧
        Touches [.cmd, .recorder] [A.REC_CAP_STAT i] s1 u) ∧
    (∀ pre post m, Admitted rowCaptureArm p s s1 p1 → s1.handleStatus TY.CAPTURE p.handle = Stat.OK → n = hIndex p.handle → s1.capState n = CAP.IDLE →
      p.params = leBytes 4 pre ++ leBytes 4 post ++ [BitVec.ofNat 8 m] → pre < 2 ^ 32 → post < 2 ^ 32 → m < 256 →
      (min s1.freePages.length 511 < (pre + (s1.cap n).spp - 1) / (s1.cap n).spp + 1 →
        exec (.captureArm p) s = .next (s1.answers rowCaptureArm p1 Stat.NO_RESOURCE [])) ∧
      ((pre + (s1.cap n).spp - 1) / (s1.cap n).spp + 1 ≤ min s1.freePages.length 511 →
        ((pre + post + (s1.cap n).spp - 1) / (s1.cap n).spp + 1 ≤ min s1.freePages.length 511 →
          ∃ u : State, exec (.captureArm p) s = .next (u.answers rowCaptureArm p1 Stat.OK []) ∧ u.capState n = CAP.ARMED ∧ (u.cap n).pre = pre ∧
            (u.cap n).post = post ∧ (u.cap n).tmask = m ∧ (u.cap n).taken = 0 ∧ (u.cap n).ring = [] ∧ (u.cap n).trig = none ∧
            (u.cap n).spare = s1.freePages.take ((pre + post + (s1.cap n).spp - 1) / (s1.cap n).spp + 1) ∧
            Touches [.recorder] [A.REC_CAP_STAT n, A.REC_CAP_PRE n, A.REC_CAP_POST n, A.REC_POOL] s1 u) ∧
        (min s1.freePages.length 511 < (pre + post + (s1.cap n).spp - 1) / (s1.cap n).spp + 1 →
          ∃ u : State, exec (.captureArm p) s = .next (u.answers rowCaptureArm p1 Stat.CLAMPED
              (leBytes 4 ((min s1.freePages.length 511 - 1) * (s1.cap n).spp - pre))) ∧
            u.capState n = CAP.ARMED ∧ (u.cap n).pre = pre ∧ (u.cap n).post = (min s1.freePages.length 511 - 1) * (s1.cap n).spp - pre ∧
            (u.cap n).tmask = m ∧ (u.cap n).spare = s1.freePages.take (min s1.freePages.length 511) ∧
            Touches [.recorder] [A.REC_CAP_STAT n, A.REC_CAP_PRE n, A.REC_CAP_POST n, A.REC_POOL] s1 u))) ∧
    (Admitted rowCaptureTrigger p s s1 p1 → s1.handleStatus TY.CAPTURE p.handle = Stat.OK → n = hIndex p.handle → p.params = [] →
      (s1.capState n = CAP.ARMED →
        ∃ (u : State) (g : RecTrig), exec (.captureTrigger p) s = .next (u.answers rowCaptureTrigger p1 Stat.OK []) ∧ (u.cap n).trig = some g ∧
          g.sample = (s1.cap n).triggerSample g ∧ g.time = s1.time ∧ g.tsub = s1.clk.timePs % 1000 / 125 ∧ g.cause = 4 ∧
          u.capState n = (if g.sample + (s1.cap n).post ≤ ((s1.cap n).taken : Int) - 1 then CAP.DONE else CAP.TRIGGERED) ∧
          Touches [.recorder, .bytes, .guard, .hub, .free] [A.REC_CAP_STAT n, A.REC_CAP_PRE n, A.REC_CAP_POST n] s1 u) ∧
      (∀ g : RecTrig, s1.capState n ≠ CAP.ARMED → (s1.cap n).trig = some g → s1.inClk g.actedAt = true →
        ∃ u : State, exec (.captureTrigger p) s = .next (u.answers rowCaptureTrigger p1 Stat.OK []) ∧
          (u.cap n).trig = some { g with cause := g.cause ||| 4 } ∧ Touches [.recorder] [] s1 u) ∧
      (s1.capState n ≠ CAP.ARMED → (s1.cap n).trig.any (fun g => s1.inClk g.actedAt) = false →
        s1.capState n ≠ CAP.STOPPED ∨ (s1.cap n).stopAt.any s1.inClk = false →
        exec (.captureTrigger p) s = .next (s1.answers rowCaptureTrigger p1 Stat.TOO_LATE []))) ∧
    (Admitted rowCaptureStop p s s1 p1 → s1.handleStatus TY.CAPTURE p.handle = Stat.OK → n = hIndex p.handle → p.params = [] →
      (s1.capState n = CAP.ARMED ∨ s1.capState n = CAP.TRIGGERED →
        ∃ u : State, exec (.captureStop p) s = .next (u.answers rowCaptureStop p1 Stat.OK []) ∧ u.capState n = CAP.STOPPED ∧ (u.cap n).headersDue = true ∧
          ((s1.cap n).trig.any (fun g => s1.inClk g.actedAt) = false → (u.cap n).ring = (s1.cap n).ring ∧ (u.cap n).stopAt = some s1.clk.nowPs) ∧
          ((s1.cap n).trig.any (fun g => s1.inClk g.actedAt) = true → (u.cap n).ring = (s1.cap n).endAtTrigger.ring) ∧
          Touches [.recorder, .bytes, .guard, .free] [A.REC_CAP_STAT n, A.REC_CAP_PRE n, A.REC_CAP_POST n] s1 u) ∧
      (s1.capState n ≠ CAP.ARMED → s1.capState n ≠ CAP.TRIGGERED → exec (.captureStop p) s = .next (s1.answers rowCaptureStop p1 Stat.OK []))) ∧
    (Admitted rowCaptureRelease p s s1 p1 → s1.handleStatus TY.CAPTURE p.handle = Stat.OK → n = hIndex p.handle → p.params = [] →
      (s1.capState n = CAP.ARMED ∨ s1.capState n = CAP.TRIGGERED ∨ (s1.cap n).reading.isSome = true →
        exec (.captureRelease p) s = .next (s1.answers rowCaptureRelease p1 Stat.DENIED [])) ∧
      (s1.capState n ≠ CAP.ARMED → s1.capState n ≠ CAP.TRIGGERED → (s1.cap n).reading = none →
        ∃ u : State, exec (.captureRelease p) s = .next (u.answers rowCaptureRelease p1 Stat.OK []) ∧ u.capState n = CAP.IDLE ∧ (u.cap n).ring = [] ∧
          (u.cap n).spare = [] ∧ Touches [.recorder] [A.REC_CAP_STAT n, A.REC_CAP_PRE n, A.REC_CAP_POST n, A.REC_POOL] s1 u)) ∧
    (∀ first count, Admitted rowCaptureRead p s s1 p1 → s1.handleStatus TY.CAPTURE p.handle = Stat.OK → n = hIndex p.handle →
      p.params = leBytes 2 first ++ leBytes 1 count → first < 65536 → count < 256 →
      (s1.capState n < CAP.DONE → exec (.captureRead p) s = .next (s1.answers rowCaptureRead p1 Stat.DENIED [])) ∧
      (CAP.DONE ≤ s1.capState n → count < 1 ∨ 16 < count ∨ (s1.cap n).ring.length < first + count →
        exec (.captureRead p) s = .next (s1.answers rowCaptureRead p1 Stat.BAD_PARAM [])) ∧
      (CAP.DONE ≤ s1.capState n → 1 ≤ count → count ≤ 16 → first + count ≤ (s1.cap n).ring.length →
        ((s1.cap n).reading.isSome = true → exec (.captureRead p) s = .next (s1.answers rowCaptureRead p1 Stat.BUSY [])) ∧
        ((s1.cap n).reading = none →
          ∃ (u : State) (r : RecRead), exec (.captureRead p) s = .next (u.answers rowCaptureRead p1 Stat.ACCEPTED []) ∧ (u.cap n).reading = some r ∧
            r.cmd = p1 ∧ r.first = first ∧ r.count = count ∧ r.page = first ∧ r.frag = 0 ∧ r.bad = 0 ∧ Touches [.recorder] [] s1 u))) ∧
    (∀ (clock div i : Nat) (chans rest : List Nat), Admitted rowTrendCreate p s s1 p1 → s1.recParams p.params 1 = some (clock, div, chans) →
      1 ≤ numAt p.params (p.params.length - 1) 1 → numAt p.params (p.params.length - 1) 1 ≤ 8 →
      numAt p.params (p.params.length - 1) 1 ≤ s1.freePages.length → (s1.pool TY.TREND).free = i :: rest → i < 8 →
      ∃ u : State, exec (.trendCreate p) s = .next (u.answers rowTrendCreate p1 Stat.OK (leBytes 4 (u.handleAt TY.TREND i).toNat)) ∧
        (u.trend i).chans = chans ∧ (u.trend i).pages.length = numAt p.params (p.params.length - 1) 1 ∧ (u.trend i).route = p.source ∧
        (u.trend i).startTick = none ∧
        Touches [.cmd, .recorder] [A.REC_TR_STAT i, A.REC_TR_BLOCKS i, A.REC_TR_LOST i, A.REC_POOL] s1 u) ∧
    (∀ k, Admitted rowTrendStart p s s1 p1 → s1.handleStatus TY.TREND p.handle = Stat.OK → n = hIndex p.handle → p.params = leBytes 8 k → k < 2 ^ 64 →
      ((s1.trend n).startTick.isSome = true → exec (.trendStart p) s = .next (s1.answers rowTrendStart p1 Stat.DENIED [])) ∧
      ((s1.trend n).startTick = none → k ≠ 0 → k < s1.tickNo → exec (.trendStart p) s = .next (s1.answers rowTrendStart p1 Stat.TOO_LATE [])) ∧
      ((s1.trend n).startTick = none → k = 0 ∨ s1.tickNo ≤ k →
        ∃ u : State, exec (.trendStart p) s = .next (u.holds rowTrendStart p1) ∧ (u.trend n).startTick = some (if k = 0 then s1.tickNo + 1 else k) ∧
          (u.trend n).startCmd = some p1 ∧ (u.trend n).closed = (s1.trend n).closed ∧ u.f (F.REC_TR_STAT_DECIM n) = 0 ∧
          Touches [.recorder] [A.REC_TR_STAT n] s1 u)) ∧
    (Admitted rowTrendStop p s s1 p1 → s1.handleStatus TY.TREND p.handle = Stat.OK → n = hIndex p.handle → p.params = [] →
      ∃ u : State, exec (.trendStop p) s = .next (u.answers rowTrendStop p1 Stat.OK []) ∧ (u.trend n).startTick = none ∧ (u.trend n).fill = [] ∧
        u.on (F.REC_TR_STAT_RUN n) = false ∧ Touches [.recorder, .bytes, .guard, .hub] [A.REC_TR_STAT n, A.REC_TR_LOST n, A.REC_STAT] s1 u) ∧
    (Admitted rowSysTrigger p s s1 p1 → p.params = [] →
      ∃ u : State, exec (.sysTrigger p) s = .next (u.answers rowSysTrigger p1 Stat.OK []) ∧ u.on F.REC_SYS_REQ = true ∧ u.recorder.reqTick = s1.tickNo ∧
        Touches [.recorder] [A.REC_SYS] s1 u)

/-- 10 R284, R287, R288, R290, R292, R293, R295 to R297, R299, R300, R303, R304, 11 R314: a WAITING thread whose operands are there becomes READY; the
dispatcher places the first thread a core can take, in place of one it pre-empts, and delivers its operands; a trap, which an access that
reads well is not; a run limit, a lockstep difference, the debugger's halts; a thread waits, posts, takes, gives and yields, and what
each is when it cannot. With their frames. -/
def Obligations.ThreadEvents : Prop :=
  ∀ (s : State), s.running = true →
    (∃ t : State, exec .operandMatch s = .next t.wrapUp ∧ Touches [.disp] (s.liveThreads.map A.DISP_T_CFG) s t ∧
      ∀ n : Fin 128, (n.val ∈ s.liveThreads → s.tst n = TS.WAITING → s.joins n = true →
          t.tst n = TS.READY ∧ n.val ∈ t.disp.ready ∧ (t.thread n).fresh = true) ∧
        (s.tst n ≠ TS.WAITING ∨ s.joins n = false → t.tst n = s.tst n)) ∧
    (∃ t : State, exec .dispatch s = .next t.wrapUp ∧
      (∀ (n : Fin 128) (c : Nat), s.readyOrder.find? (fun m => (s.chooseCore m).isSome) = some n.val → s.chooseCore n = some c →
        t.tst n = TS.RUNNING ∧ t.coreThread c = some n.val ∧ n.val ∉ t.disp.ready ∧ (t.thread n).fresh = false ∧
          (∀ m, s.coreThread c = some m → m < 128 → m ≠ n.val → t.tst m = TS.READY ∧ t.disp.ready.head? = some m) ∧
          ((s.thread n).fresh = true → (∀ p : Fin 4, t.selfLoad c (0x110 + 4 * p.val) =
              some (if p.val ∈ s.taken n then ((s.portHeld n p).head?.map (·.value)).getD 0 else 0)) ∧
            t.f (F.DISP_T_STAT_ACTIVATIONS n) = (s.f (F.DISP_T_STAT_ACTIVATIONS n) + 1) % 2 ^ 16 ∧ (t.thread n).ran = 0) ∧
          Touches [.disp] ([A.DISP_T_CFG n, A.DISP_T_STAT n, A.DISP_CORE c] ++ (s.coreThread c).toList.map A.DISP_T_CFG ++
            (List.range 64).map A.DISP_F_STAT) s t) ∧
      (s.readyOrder.find? (fun m => (s.chooseCore m).isSome) = none → t = s)) ∧
    (∀ (c : Fin 4) (cause pc : Word) (access : Option Word), s.coreThread c = none → exec (.threadTrap c cause pc access) s = .next s.wrapUp) ∧
    (∀ (c : Fin 4) (cause pc a : Word) (k : Nat), classOf a.toNat = some k → (k = 2 → (s.readRecorder a.toNat 1).2.2 = 0) →
      (k ≠ 2 → ∀ line ∈ linesOf k a.toNat 1, s.lineGood (s.lineKey k 0 line) line = true) →
      exec (.threadTrap c cause pc (some a)) s = .next s.wrapUp) ∧
    (∀ (c : Fin 4) (n : Fin 128) (cause pc : Word) (access : Option Word), s.coreThread c = some n.val →
      (∀ a, access = some a → classOf a.toNat = none ∨ classOf a.toNat = some 2 ∧ 0 < (s.readRecorder a.toNat 1).2.2) → n.val ∉ s.disp.ready → (∀ m ∈ s.disp.ready, m < 128) →
      (∀ d m, d ≠ c.val → s.coreThread d = some m → m ≠ n.val ∧ m < 128) →
      (s.thread n).stopCmds = [] → (∀ l ∈ (s.thread n).locks, l < 64 ∧ s.lockWaiters l = []) →
      ∃ t : State, exec (.threadTrap c cause pc access) s = .next t.wrapUp ∧ t.tst n = TS.FAULTED ∧ t.f (F.DISP_T_STAT_CAUSE n) = cause.toNat % 256 ∧
        t.reg (A.DISP_T_TRAP n) = pc ∧ FS.DISP_THREAD_TRAP ∈ t.hub.raised ∧ (∀ l ∈ (s.thread n).locks, t.on (F.DISP_L_HELD l) = false) ∧
        (∀ a, access = some a → classOf a.toNat = some 2 → FS.MGRD_PARITY ∈ t.hub.raised) ∧
        Touches [.disp, .hub] ([A.DISP_T_TRAP n, A.MGRD_CNT_REC, A.MGRD_LAST, A.MGRD_LAST_INFO] ++ (s.thread n).locks.map A.DISP_L ++ dispatchRegs) s t) ∧
    (∀ c : Fin 4, (∀ n, s.coreThread c = some n → s.f (F.DISP_T_STAT_RUN_LIMIT n) = 0 ∨ (s.thread n).ran < s.f (F.DISP_T_STAT_RUN_LIMIT n) ∨
      (s.thread n).limitSaid = true) → exec (.runLimit c) s = .next s.wrapUp) ∧
    (∀ (c : Fin 4) (n : Nat), s.coreThread c = some n → s.f (F.DISP_T_STAT_RUN_LIMIT n) ≠ 0 → s.f (F.DISP_T_STAT_RUN_LIMIT n) ≤ (s.thread n).ran →
      (s.thread n).limitSaid = false →
      ∃ t : State, exec (.runLimit c) s = .next t.wrapUp ∧ t.hub.raised = s.hub.raised ++ [FS.DISP_RUN_LIMIT] ∧ (t.thread n).limitSaid = true ∧
        Touches [.disp, .hub] [] s t) ∧
    (∃ t : State, exec .lockstepMismatch s = .next t.wrapUp ∧ t.disp.pairReset = true ∧ t.hub.raised = s.hub.raised ++ [FS.DISP_LOCKSTEP] ∧
      Touches [.disp, .hub] [] s t) ∧
    (s.on F.DISP_DBG_EN = false → exec .safetyPairHalt s = .next s.wrapUp ∧ (∀ c : Fin 4, exec (.debugHalt c) s = .next s.wrapUp) ∧
      ∀ h : Fin 5, exec (.debugResume h) s = .next s.wrapUp) ∧
    (∀ c : Fin 4, s.on F.DISP_DBG_EN = true →
      (∃ t : State, exec (.debugHalt c) s = .next t.wrapUp ∧ t.halted c = true ∧ t.f (F.DISP_CORE_STATE c) = 2 ∧
        Touches [.swu] (A.DISP_DBG :: A.DISP_CORE c :: forceRegs) s t) ∧
      (∃ t : State, exec (.debugResume (c.castSucc)) s = .next t.wrapUp ∧ t.halted c = false ∧
        Touches [.swu] (A.DISP_DBG :: A.DISP_CORE c :: forceRegs) s t)) ∧
    (s.on F.DISP_DBG_EN = true →
      (yarState s.st = false → ∃ t : State, exec .safetyPairHalt s = .next t.wrapUp ∧ t.on F.DISP_DBG_SAFE_HALTED = true ∧
        t.safe.chbLost = true ∧ (s.safe.chbLost = true → Touches [] [A.DISP_DBG] s t) ∧ Touches demandParts (A.DISP_DBG :: outRegs) s t) ∧
      (yarState s.st = true → exec .safetyPairHalt s = .next s.wrapUp) ∧
      (s.on F.DISP_DBG_SAFE_HALTED = false → exec (.debugResume 4) s = .next s.wrapUp) ∧
      (s.on F.DISP_DBG_SAFE_HALTED = true →
        ∃ t : State, exec (.debugResume 4) s = .next t.wrapUp ∧ t.on F.DISP_DBG_SAFE_HALTED = false ∧ t.on F.SAFE_STAT_CHB_OK = !s.disp.pairReset ∧
          Touches [.safe] [A.DISP_DBG, A.SAFE_STAT] s t)) ∧
    (∀ (c p : Fin 4) (h v : Word), s.coreThread c = none ∨ s.halted c = true → exec (.selfWait c) s = .next s.wrapUp ∧
      exec (.selfYield c) s = .next s.wrapUp ∧ exec (.selfPost c p h v) s = .next s.wrapUp ∧ exec (.selfAcq c h) s = .next s.wrapUp ∧
      exec (.selfRel c h) s = .next s.wrapUp) ∧
    (∀ (c : Fin 4) (n : Fin 128), s.coreThread c = some n.val → s.halted c = false →
      (∀ cs : List Packet, (s.thread n).locks = [] → (s.thread n).stopCmds = cs → cs ≠ [] →
        ∃ u : State, exec (.selfWait c) s = .next (u.each cs (fun u q => u.finalReply 0x0E02 q Stat.OK [])).wrapUp ∧ u.tst n = TS.DORMANT ∧
          u.coreThread c = none ∧ (u.thread n).held = [] ∧ (u.thread n).stopCmds = [] ∧ Touches [.disp] [A.DISP_T_CFG n, A.DISP_CORE c] s u) ∧
      ((s.thread n).locks = [] → (s.thread n).stopCmds = [] →
        ∃ t : State, exec (.selfWait c) s = .next t.wrapUp ∧ t.tst n = TS.WAITING ∧ t.coreThread c = none ∧
          Touches [.disp] [A.DISP_T_CFG n, A.DISP_CORE c] s t) ∧
      ((s.thread n).locks ≠ [] →
        ∃ t : State, exec (.selfWait c) s = .next t.wrapUp ∧ (t.thread n).loaded = 0x80000000 ∧ Touches [.disp] [] s t) ∧
      (∃ t : State, exec (.selfYield c) s = .next t.wrapUp ∧ t.tst n = TS.READY ∧ t.disp.ready.getLast? = some n.val ∧ t.coreThread c = none ∧
        Touches [.disp] [A.DISP_T_CFG n, A.DISP_CORE c] s t) ∧
      (∀ (p : Fin 4) (h v : Word), s.handleLive TY.FLOW h = true → (s.flow (hIndex h)).length ≤ s.f (F.DISP_F_CFG_DEPTH_M1 (hIndex h)) →
        ∃ t : State, exec (.selfPost c p h v) s = .next t.wrapUp ∧ t.flow (hIndex h) = s.flow (hIndex h) ++ [s.operand v] ∧
          (t.thread n).postArg = h ∧ Touches [.disp] [A.DISP_F_STAT (hIndex h)] s t) ∧
      (∀ (p : Fin 4) (h v : Word), s.handleLive TY.FLOW h = true → s.f (F.DISP_F_CFG_DEPTH_M1 (hIndex h)) < (s.flow (hIndex h)).length →
        ∃ t : State, exec (.selfPost c p h v) s = .next t.wrapUp ∧ t.flow (hIndex h) = s.flow (hIndex h) ∧
          t.f (F.DISP_F_STAT_DROP (hIndex h)) = min (s.f (F.DISP_F_STAT_DROP (hIndex h)) + 1) 65535 ∧
          t.hub.raised = s.hub.raised ++ [FS.DISP_FLOW_FULL] ∧ Touches [.disp, .hub] [A.DISP_F_STAT (hIndex h)] s t) ∧
      (∀ (p : Fin 4) (h v : Word), s.handleLive TY.THREAD h = true → s.portKind (hIndex h) p = 0 →
        ∃ t : State, exec (.selfPost c p h v) s = .next t.wrapUp ∧
          ((s.portHeld (hIndex h) p).length ≤ s.portArg (hIndex h) p % 16 →
            t.portHeld (hIndex h) p = s.portHeld (hIndex h) p ++ [s.operand v] ∧ Touches [.disp] [] s t) ∧
          (s.portArg (hIndex h) p % 16 < (s.portHeld (hIndex h) p).length →
            t.portHeld (hIndex h) p = s.portHeld (hIndex h) p ∧ t.f F.DISP_CNT_DROP = min (s.f F.DISP_CNT_DROP + 1) 255 ∧
            t.hub.raised = s.hub.raised ++ [FS.DISP_PORT_FULL] ∧ Touches [.disp, .hub] [A.DISP_CNT] s t)) ∧
      (∀ (p : Fin 4) (h v : Word), s.handleLive TY.THREAD h = true → s.portKind (hIndex h) p = 1 →
        ∃ t : State, exec (.selfPost c p h v) s = .next t.wrapUp ∧ t.f F.DISP_CNT_DROP = min (s.f F.DISP_CNT_DROP + 1) 255 ∧
          Touches [.disp] [A.DISP_CNT] s t) ∧
      (∀ (p : Fin 4) (h v : Word), s.handleLive TY.FLOW h = false → s.handleLive TY.THREAD h = false →
        ∃ t : State, exec (.selfPost c p h v) s = .next t.wrapUp ∧ t.f F.DISP_CNT_DROP = min (s.f F.DISP_CNT_DROP + 1) 255 ∧
          Touches [.disp] [A.DISP_CNT] s t) ∧
      (∀ h : Word, s.handleLive TY.LOCK h = true → s.f (F.DISP_L_CEILING (hIndex h)) ≤ s.f (F.DISP_T_CFG_PRIO n) → (s.thread n).locks.length < 4 →
        (s.thread n).locks.contains (hIndex h) = false →
        (s.on (F.DISP_L_HELD (hIndex h)) = false →
          ∃ t : State, exec (.selfAcq c h) s = .next t.wrapUp ∧ t.on (F.DISP_L_HELD (hIndex h)) = true ∧ t.f (F.DISP_L_HOLDER (hIndex h)) = n ∧
            (t.thread n).locks = hIndex h :: (s.thread n).locks ∧ (t.thread n).loaded = 0 ∧
            Touches [.disp] ([A.DISP_L (hIndex h), A.DISP_T_CFG n] ++ coreNumbers.map A.DISP_CORE) s t) ∧
        (s.on (F.DISP_L_HELD (hIndex h)) = true →
          ∃ t : State, exec (.selfAcq c h) s = .next t.wrapUp ∧ t.tst n = TS.LOCKWAIT ∧ t.lockWaiters (hIndex h) = s.lockWaiters (hIndex h) ++ [n.val] ∧
            t.coreThread c = none ∧ Touches [.disp] [A.DISP_L (hIndex h), A.DISP_T_CFG n, A.DISP_CORE c] s t)) ∧
      (∀ h : Word, (s.handleLive TY.LOCK h = false →
          ∃ t : State, exec (.selfAcq c h) s = .next t.wrapUp ∧ (t.thread n).loaded = 0x12 ∧ (t.thread n).locks = (s.thread n).locks ∧
            Touches [.disp] [] s t) ∧
        (s.handleLive TY.LOCK h = true → s.f (F.DISP_T_CFG_PRIO n) < s.f (F.DISP_L_CEILING (hIndex h)) ∨ 4 ≤ (s.thread n).locks.length ∨
            (s.thread n).locks.contains (hIndex h) = true →
          ∃ t : State, exec (.selfAcq c h) s = .next t.wrapUp ∧ (t.thread n).loaded = 0x15 ∧ (t.thread n).locks = (s.thread n).locks ∧
            t.hub.raised = s.hub.raised ++ [FS.DISP_LOCK_ERR] ∧ Touches [.disp, .hub] [] s t)) ∧
      (∀ h : Word, s.handleLive TY.LOCK h = false ∨ (s.thread n).locks.head? ≠ some (hIndex h) →
        ∃ t : State, exec (.selfRel c h) s = .next t.wrapUp ∧ t.hub.raised = s.hub.raised ++ [FS.DISP_LOCK_ERR] ∧
          (t.thread n).locks = (s.thread n).locks ∧ Touches [.disp, .hub] [] s t) ∧
      (∀ h : Word, s.handleLive TY.LOCK h = true → (s.thread n).locks.head? = some (hIndex h) →
        (s.lockWaiters (hIndex h) = [] →
          ∃ t : State, exec (.selfRel c h) s = .next t.wrapUp ∧ t.on (F.DISP_L_HELD (hIndex h)) = false ∧ (t.thread n).locks.contains (hIndex h) = false ∧
            Touches [.disp] ([A.DISP_L (hIndex h), A.DISP_T_CFG n] ++ coreNumbers.map A.DISP_CORE) s t) ∧
        (∀ w : Fin 128, s.lockWaiters (hIndex h) = [w.val] → w ≠ n →
          ∃ t : State, exec (.selfRel c h) s = .next t.wrapUp ∧ t.on (F.DISP_L_HELD (hIndex h)) = true ∧ t.f (F.DISP_L_HOLDER (hIndex h)) = w ∧
            t.tst w = TS.READY ∧ (t.thread w).locks.head? = some (hIndex h) ∧ t.lockWaiters (hIndex h) = [] ∧
            Touches [.disp] ([A.DISP_L (hIndex h), A.DISP_T_CFG n, A.DISP_T_CFG w] ++ coreNumbers.map A.DISP_CORE) s t)))

/-- 10 R285, R286, R289, R292, R294, R295, R299, R306: threads, flows and locks are created; a thread is started at its entry, stopped, or cancelled
with the number of operands it held; an operand is posted to a port or a flow with room, and refused by a full one. With their
frames. -/
def Obligations.ThreadCommands : Prop :=
  ∀ (p p1 : Packet) (s s1 : State) (n : Nat),
    (∀ (i : Nat) (rest : List Nat), Admitted rowThreadCreate p s s1 p1 → p.handle = 0 → s1.threadParamsOk p.params = true → s1.threadFits p.params = true →
      (s1.pool TY.THREAD).free = i :: rest → i < 128 →
      ∃ u : State, exec (.threadCreate p) s = .next (u.answers rowThreadCreate p1 Stat.OK (leBytes 4 (u.handleAt TY.THREAD i).toNat)) ∧ u.tst i = TS.DORMANT ∧
        u.on (F.DISP_T_CFG_LIVE i) = true ∧ u.f (F.DISP_T_CFG_PRIO i) = numAt p.params 5 1 ∧ u.f (F.DISP_T_CFG_AFFINITY i) = numAt p.params 6 1 ∧
        (u.thread i).entry = BitVec.ofNat 32 (numAt p.params 0 4) ∧ (u.thread i).stackKb = numAt p.params 4 1 ∧
        u.reg (A.DISP_T_PORTS i) = BitVec.ofNat 32 (numAt p.params 8 4) ∧
        Touches [.cmd, .disp] ([A.DISP_T_CFG i, A.DISP_T_PORTS i, A.DISP_T_STAT i, A.DISP_T_TRAP i] ++ (List.range 64).map A.DISP_F_CFG) s1 u) ∧
    (Admitted rowThreadCreate p s s1 p1 → p.handle ≠ 0 → s1.handleStatus TY.THREAD p.handle = Stat.OK → n = hIndex p.handle → s1.made n = false →
      s1.threadParamsOk p.params = true → s1.threadFits p.params = true →
      ∃ u : State, exec (.threadCreate p) s = .next (u.answers rowThreadCreate p1 Stat.OK (leBytes 4 p.handle.toNat)) ∧ u.tst n = TS.DORMANT ∧
        u.made n = true ∧
        Touches [.disp] ([A.DISP_T_CFG n, A.DISP_T_PORTS n, A.DISP_T_STAT n, A.DISP_T_TRAP n] ++ (List.range 64).map A.DISP_F_CFG) s1 u) ∧
    (Admitted rowThreadStart p s s1 p1 → s1.handleStatus TY.THREAD p.handle = Stat.OK → n = hIndex p.handle → p.params = [] →
      s1.tst n ≠ TS.DORMANT ∧ s1.tst n ≠ TS.FAULTED ∨ s1.made n = false →
      exec (.threadStart p) s = .next (s1.answers rowThreadStart p1 Stat.DENIED [])) ∧
    (Admitted rowThreadStart p s s1 p1 → s1.handleStatus TY.THREAD p.handle = Stat.OK → n = hIndex p.handle → p.params = [] →
      s1.tst n = TS.DORMANT ∨ s1.tst n = TS.FAULTED → s1.made n = true →
      ∃ u : State, exec (.threadStart p) s = .next (u.answers rowThreadStart p1 Stat.OK []) ∧ u.tst n = TS.READY ∧ u.disp.ready.getLast? = some n ∧
        (u.thread n).pc = (s1.thread n).entry ∧ (u.thread n).started = true ∧ (u.thread n).held = [] ∧
        Map.get 0 (u.thread n).x 2 = BitVec.ofNat 32 (0x10280000 + ((s1.thread n).stackAt + (s1.thread n).stackKb) * 1024) ∧
        Map.get 0 (u.thread n).x 10 = p.handle ∧ Touches [.disp] [A.DISP_T_CFG n] s1 u) ∧
    (Admitted rowThreadStop p s s1 p1 → s1.handleStatus TY.THREAD p.handle = Stat.OK → n = hIndex p.handle → p.params = [] →
      (s1.tst n = TS.RUNNING ∨ s1.tst n = TS.LOCKWAIT →
        ∃ u : State, exec (.threadStop p) s = .next (u.answers rowThreadStop p1 Stat.ACCEPTED []) ∧ (u.thread n).stopCmds = (s1.thread n).stopCmds ++ [p1] ∧
          Touches [.disp] [] s1 u) ∧
      (s1.tst n ≠ TS.RUNNING → s1.tst n ≠ TS.LOCKWAIT → s1.tst n ≠ TS.FAULTED →
        ∃ u : State, exec (.threadStop p) s = .next (u.answers rowThreadStop p1 Stat.OK []) ∧ u.tst n = TS.DORMANT ∧ n ∉ u.disp.ready ∧
          (u.thread n).held = [] ∧ Touches [.disp] [A.DISP_T_CFG n] s1 u) ∧
      (s1.tst n = TS.FAULTED →
        ∃ u : State, exec (.threadStop p) s = .next (u.answers rowThreadStop p1 Stat.OK []) ∧ u.tst n = TS.FAULTED ∧ (u.thread n).held = [] ∧
          Touches [.disp] [] s1 u)) ∧
    (Admitted rowThreadCancel p s s1 p1 → s1.handleStatus TY.THREAD p.handle = Stat.OK → n = hIndex p.handle → p.params = [] →
      (s1.tst n = TS.RUNNING ∨ s1.tst n = TS.LOCKWAIT → exec (.threadCancel p) s = .next (s1.answers rowThreadCancel p1 Stat.TOO_LATE [])) ∧
      (s1.tst n ≠ TS.RUNNING → s1.tst n ≠ TS.LOCKWAIT → s1.tst n ≠ TS.READY →
        ∃ u : State, exec (.threadCancel p) s = .next (u.answers rowThreadCancel p1 Stat.OK
            (leBytes 2 (((s1.thread n).held.map (fun x => x.2.length)).foldl (· + ·) 0))) ∧ u.tst n = s1.tst n ∧ (u.thread n).held = [] ∧
          Touches [.disp] [] s1 u) ∧
      (s1.tst n = TS.READY →
        ∃ u : State, exec (.threadCancel p) s = .next (u.answers rowThreadCancel p1 Stat.OK
            (leBytes 2 (((s1.thread n).held.map (fun x => x.2.length)).foldl (· + ·) 0))) ∧ u.tst n = TS.WAITING ∧ n ∉ u.disp.ready ∧
          (u.thread n).held = [] ∧ u.f F.DISP_CNT_CANCELLED_READY = min (s1.f F.DISP_CNT_CANCELLED_READY + 1) 65535 ∧
          Touches [.disp] [A.DISP_T_CFG n, A.DISP_CNT] s1 u)) ∧
    (∀ port v, Admitted rowOperandPost p s s1 p1 → s1.handleStatus TY.THREAD p.handle = Stat.OK → n = hIndex p.handle →
      p.params = leBytes 1 port ++ leBytes 4 v → port ≤ 3 → v < 2 ^ 32 →
      (s1.portKind n port = 0 →
        ((s1.portHeld n port).length ≤ s1.portArg n port % 16 →
          ∃ u : State, exec (.operandPost p) s = .next (u.answers rowOperandPost p1 Stat.OK []) ∧
            u.portHeld n port = s1.portHeld n port ++ [s1.operand (BitVec.ofNat 32 v)] ∧ Touches [.disp] [] s1 u) ∧
        (s1.portArg n port % 16 < (s1.portHeld n port).length →
          ∃ u : State, exec (.operandPost p) s = .next (u.answers rowOperandPost p1 Stat.BUSY []) ∧
            u.f F.DISP_CNT_DROP = min (s1.f F.DISP_CNT_DROP + 1) 255 ∧ u.hub.raised = s1.hub.raised ++ [FS.DISP_PORT_FULL] ∧
            Touches [.hub] [A.DISP_CNT] s1 u)) ∧
      (s1.portKind n port = 1 →
        ∃ u : State, exec (.operandPost p) s = .next (u.answers rowOperandPost p1 Stat.BAD_PARAM []) ∧
          u.f F.DISP_CNT_DROP = min (s1.f F.DISP_CNT_DROP + 1) 255 ∧ Touches [] [A.DISP_CNT] s1 u) ∧
      (s1.portKind n port = 2 → s1.f (F.DISP_F_CFG_DEPTH_M1 (s1.portArg n port)) < (s1.flow (s1.portArg n port)).length →
        exec (.operandPost p) s = .next (s1.answers rowOperandPost p1 Stat.BUSY [])) ∧
      (s1.portKind n port = 2 → (s1.flow (s1.portArg n port)).length ≤ s1.f (F.DISP_F_CFG_DEPTH_M1 (s1.portArg n port)) →
        ∃ u : State, exec (.operandPost p) s = .next (u.answers rowOperandPost p1 Stat.OK []) ∧
          u.portHeld n port = s1.portHeld n port ++ [s1.operand (BitVec.ofNat 32 v)] ∧ Touches [.disp] [A.DISP_F_STAT (s1.portArg n port)] s1 u)) ∧
    (∀ port v, Admitted rowOperandPost p s s1 p1 → s1.handleStatus TY.FLOW p.handle = Stat.OK → p.params = leBytes 1 port ++ leBytes 4 v → port ≤ 3 →
      v < 2 ^ 32 → (s1.flow (hIndex p.handle)).length ≤ s1.f (F.DISP_F_CFG_DEPTH_M1 (hIndex p.handle)) →
      ∃ u : State, exec (.operandPost p) s = .next (u.answers rowOperandPost p1 Stat.OK []) ∧
        u.flow (hIndex p.handle) = s1.flow (hIndex p.handle) ++ [s1.operand (BitVec.ofNat 32 v)] ∧ Touches [.disp] [A.DISP_F_STAT (hIndex p.handle)] s1 u) ∧
    (∀ (d i : Nat) (rest : List Nat), Admitted rowFlowCreate p s s1 p1 → p.params = leBytes 2 d → 1 ≤ d → d ≤ 256 → s1.flowRsvd + d ≤ 2048 →
      (s1.pool TY.FLOW).free = i :: rest →
      ∃ u : State, exec (.flowCreate p) s = .next (u.answers rowFlowCreate p1 Stat.OK (leBytes 4 (u.handleAt TY.FLOW i).toNat)) ∧
        u.on (F.DISP_F_CFG_LIVE i) = true ∧ u.f (F.DISP_F_CFG_DEPTH_M1 i) + 1 = d ∧ u.on (F.DISP_F_CFG_ATTACHED i) = false ∧
        Touches [.cmd] [A.DISP_F_CFG i, A.DISP_F_STAT i] s1 u) ∧
    (∀ (c i : Nat) (rest : List Nat), Admitted rowLockCreate p s s1 p1 → p.params = leBytes 1 c → c ≤ 31 → (s1.pool TY.LOCK).free = i :: rest →
      ∃ u : State, exec (.lockCreate p) s = .next (u.answers rowLockCreate p1 Stat.OK (leBytes 4 (u.handleAt TY.LOCK i).toNat)) ∧
        u.f (F.DISP_L_CEILING i) = c ∧ u.on (F.DISP_L_HELD i) = false ∧ Touches [.cmd] [A.DISP_L i] s1 u)

/-- 11 R311, R313, R314, R316 to R320, R322, R324: the scrubber reads the next valid line of its class and mirror at its interval, corrects it and
counts, reports one it cannot correct or that differs from its mirror, and tests a free recorder line; it goes on to the next part, and
with no valid line left to a new pass; a slow pass is said once; remap entries are set and cleared; injected errors reach the stored line.
With their frames. Whether a cell holds what is written is a free value (DESIGN CHOICE, assumption 55). -/
def Obligations.MemoryGuard : Prop :=
  (∀ (s : State), s.running = true →
    (s.on F.MGRD_CTRL_SCRUB_EN = false ∨ s.guard.pending.any (fun x => x.scrub) = true → exec .scrubRead s = .next s.wrapUp) ∧
    (∀ (c m l : Nat), s.on F.MGRD_CTRL_SCRUB_EN = true → s.guard.pending.all (fun x => !x.scrub) = true → c = s.f F.MGRD_SCRUB_CLASS →
      m = s.f F.MGRD_SCRUB_MIRROR → c ≤ 1 → (m = 1 → c = 1) → s.nextScrub c m (s.f F.MGRD_SCRUB_LINE) = some l → l + 1 < classLines c →
      (s.lineGood (s.lineKey c m l) l = true →
        ∃ t : State, exec .scrubRead s = .next t.wrapUp ∧ t.f F.MGRD_SCRUB_LINE = l + 1 ∧
          s.guard.scrubAt + s.f F.MGRD_CTRL_SCRUB_INT * 1000 ≤ t.now ∧ t.guard.scrubAt = t.now ∧
          (m = 0 ∨ s.lineGood (s.lineKey 1 0 l) l = false ∨ s.lineValid (s.lineKey 1 0 l) = false ∨
              s.lineBytes (s.lineKey 1 0 l) = s.lineBytes (s.lineKey 1 1 l) → Touches [.clk, .guard] [A.MGRD_SCRUB] s t) ∧
          (m = 1 → s.lineGood (s.lineKey 1 0 l) l = true → s.lineValid (s.lineKey 1 0 l) = true → s.lineValid (s.lineKey 1 1 l) = true →
              s.lineBytes (s.lineKey 1 0 l) ≠ s.lineBytes (s.lineKey 1 1 l) →
            t.f F.MGRD_CNT_TBL_DIFF = min (s.f F.MGRD_CNT_TBL_DIFF + 1) 255 ∧ t.hub.raised = s.hub.raised ++ [FS.MGRD_MIRROR_DIFF] ∧
              Touches [.clk, .guard, .hub] [A.MGRD_SCRUB, A.MGRD_CNT_TBL, A.MGRD_LAST, A.MGRD_LAST_INFO] s t)) ∧
      (∀ d : List Byte, c = 0 → s.lineGood (s.lineKey 0 0 l) l = false → recompute l (s.lineBytes (s.lineKey 0 0 l)) (s.storedCheck (s.lineKey 0 0 l) l) = some d →
        ∃ t : State, exec .scrubRead s = .next t.wrapUp ∧ t.f F.MGRD_SCRUB_LINE = l + 1 ∧
          t.f F.MGRD_CNT_SRAM_CORR = min (s.f F.MGRD_CNT_SRAM_CORR + 1) 65535 ∧
          (Config.cellFails s.freeCount = false ∨ (∃ i : Fin 8, s.on (F.MGRD_REMAP_VALID 0 i) = false) →
            t.lineBytes (t.lineKey 0 0 l) = d ∧ t.lineGood (t.lineKey 0 0 l) l = true) ∧
          t.reg A.MGRD_LAST = BitVec.ofNat 32 (0x10000000 + l * 64) ∧
          Touches [.clk, .bytes, .guard, .hub, .free] ([A.MGRD_SCRUB, A.MGRD_LAST, A.MGRD_LAST_INFO, A.MGRD_CNT_SRAM] ++
            (List.range 8).map (A.MGRD_REMAP 0)) s t) ∧
      (c = 0 → s.lineGood (s.lineKey 0 0 l) l = false → recompute l (s.lineBytes (s.lineKey 0 0 l)) (s.storedCheck (s.lineKey 0 0 l) l) = none →
        (Map.get false s.guard.img (0x10000000 + l * 64) = true → s.on F.SYS_ID_BOOTSRC = true → s.isFloret = false →
          ∃ t : State, exec .scrubRead s = .next t.wrapUp ∧ t.guard.pending.any (fun x => x.line == l && x.scrub) = true ∧
            Touches [.clk, .guard] [A.MGRD_SCRUB] s t) ∧
        (Map.get false s.guard.img (0x10000000 + l * 64) = false ∨ s.on F.SYS_ID_BOOTSRC = false ∨ s.isFloret = true →
          ∃ t : State, exec .scrubRead s = .next t.wrapUp ∧ t.f F.MGRD_CNT_SRAM_UE = min (s.f F.MGRD_CNT_SRAM_UE + 1) 255 ∧
            t.hub.raised = s.hub.raised ++ [FS.MGRD_SRAM_UE] ∧
            Touches [.clk, .guard, .hub] [A.MGRD_SCRUB, A.MGRD_LAST, A.MGRD_LAST_INFO, A.MGRD_CNT_SRAM] s t))) ∧
    (∀ l : Nat, s.on F.MGRD_CTRL_SCRUB_EN = true → s.guard.pending.all (fun x => !x.scrub) = true → s.f F.MGRD_SCRUB_CLASS = 2 →
      s.f F.MGRD_SCRUB_MIRROR = 0 → s.nextScrub 2 0 (s.f F.MGRD_SCRUB_LINE) = some l → l + 1 < 524288 →
      (s.heldPages.contains (l / 1024) = false → s.guard.retired.contains (l / 1024) = false →
        ∃ t : State, exec .scrubRead s = .next t.wrapUp ∧ t.f F.MGRD_SCRUB_LINE = l + 1 ∧ t.lineValid (s.lineKey 2 0 l) = false ∧
          (∀ i, i < 64 → t.mem (s.lineKey 2 0 l + i) = 0) ∧
          (Config.cellFails s.freeCount = false → Touches [.clk, .bytes, .guard, .free] [A.MGRD_SCRUB] s t) ∧
          Touches [.clk, .bytes, .guard, .free, .hub] ([A.MGRD_SCRUB, A.MGRD_CNT_REC, A.REC_POOL] ++ (List.range 8).map (A.MGRD_REMAP 2)) s t) ∧
      (s.heldPages.contains (l / 1024) = true ∨ s.guard.retired.contains (l / 1024) = true →
        ∃ t : State, exec .scrubRead s = .next t.wrapUp ∧ t.f F.MGRD_SCRUB_LINE = l + 1 ∧
          (t.f F.MGRD_CNT_REC_PERR = min (s.f F.MGRD_CNT_REC_PERR + (s.readRecorder (0x20000000 + l * 64) 64).2.2) 65535) ∧
          Touches [.clk, .guard, .hub] [A.MGRD_SCRUB, A.MGRD_CNT_REC, A.MGRD_LAST, A.MGRD_LAST_INFO] s t)) ∧
    (s.on F.MGRD_CTRL_SCRUB_EN = true → s.guard.pending = [] → s.guard.valid = [] → s.f F.MGRD_SCRUB_CLASS = 0 → s.f F.MGRD_SCRUB_MIRROR = 0 →
      ∃ t : State, exec .scrubRead s = .next t.wrapUp ∧ t.f F.MGRD_SCRUB_PASSES = (s.f F.MGRD_SCRUB_PASSES + 1) % 1024 ∧
        t.guard.passStart = t.now ∧ t.guard.slowSaid = false ∧ Touches [.clk, .guard] [A.MGRD_SCRUB] s t)) ∧
  (∀ s : State, s.running = true →
    (s.on F.MGRD_CTRL_SCRUB_EN = true → s.guard.slowSaid = false →
      ∃ t : State, exec .mgrdScrubSlow s = .next t.wrapUp ∧ t.hub.raised = s.hub.raised ++ [FS.MGRD_SCRUB_SLOW] ∧ t.guard.slowSaid = true ∧
        s.guard.passStart + s.f F.MGRD_CTRL_SLOW_LIMIT * 1000000000 ≤ t.now ∧ Touches [.clk, .guard, .hub] [] s t) ∧
    (s.on F.MGRD_CTRL_SCRUB_EN = false ∨ s.guard.slowSaid = true → exec .mgrdScrubSlow s = .next s.wrapUp)) ∧
  (∀ (p p1 : Packet) (s s1 : State) (c m line act i : Nat), Admitted rowMgrdRemapSet p s s1 p1 → c ≤ 2 → m ≤ 1 → (m = 1 → c = 1) →
    line < classLines c → act ≤ 1 → p.params = [BitVec.ofNat 8 c, BitVec.ofNat 8 act, BitVec.ofNat 8 m] ++ leBytes 4 line →
    (s1.st ≠ ST.CONFIG → exec (.mgrdRemapSet p) s = .next (s1.answers rowMgrdRemapSet p1 Stat.DENIED [])) ∧
    (s1.st = ST.CONFIG → act = 0 → s1.remapOf c m line = none → exec (.mgrdRemapSet p) s = .next (s1.answers rowMgrdRemapSet p1 Stat.BAD_PARAM [])) ∧
    (s1.st = ST.CONFIG → act = 0 → s1.remapOf c m line = some i →
      ∃ u : State, exec (.mgrdRemapSet p) s = .next (u.answers rowMgrdRemapSet p1 Stat.OK [BitVec.ofNat 8 i]) ∧ u.reg (A.MGRD_REMAP c i) = 0 ∧
        Touches [] [A.MGRD_REMAP c i] s1 u) ∧
    (s1.st = ST.CONFIG → act = 1 → s1.remapOf c m line = some i →
      exec (.mgrdRemapSet p) s = .next (s1.answers rowMgrdRemapSet p1 Stat.OK [BitVec.ofNat 8 i])) ∧
    (s1.st = ST.CONFIG → act = 1 → s1.remapOf c m line = none → (List.range 8).find? (fun i => !s1.on (F.MGRD_REMAP_VALID c i)) = some i →
      ∃ u : State, exec (.mgrdRemapSet p) s = .next (u.answers rowMgrdRemapSet p1 Stat.OK [BitVec.ofNat 8 i]) ∧ u.remapOf c m line = some i ∧
        u.lineBytes (u.lineKey c m line) = s1.lineBytes (s1.lineKey c m line) ∧
        u.lineValid (u.lineKey c m line) = s1.lineValid (s1.lineKey c m line) ∧ Touches [.bytes, .guard] [A.MGRD_REMAP c i] s1 u) ∧
    (s1.st = ST.CONFIG → act = 1 → s1.remapOf c m line = none → (∀ i < 8, s1.on (F.MGRD_REMAP_VALID c i) = true) →
      exec (.mgrdRemapSet p) s = .next (s1.answers rowMgrdRemapSet p1 Stat.NO_RESOURCE []))) ∧
  (∀ (p p1 : Packet) (s s1 : State) (c m a line k : Nat), Admitted rowMgrdInject p s s1 p1 → a < 2 ^ 32 → c ≤ 2 → m ≤ 1 → (m = 1 → c = 1) →
    classOf a = some c → line = (a - classBase c) / 64 → k = s1.lineKey c m line →
    (s1.st ≠ ST.CONFIG → 7 ≤ p.params.length → numAt p.params 0 1 = c → numAt p.params 1 1 = m → numAt p.params 2 4 = a →
      exec (.mgrdInject p) s = .next (s1.answers rowMgrdInject p1 Stat.DENIED [])) ∧
    (∀ bs : List Nat, s1.st = ST.CONFIG → c ≤ 1 → bs.length = 1 ∨ bs.length = 2 → (∀ b ∈ bs, b < 528) →
      p.params = [BitVec.ofNat 8 c, BitVec.ofNat 8 m] ++ leBytes 4 a ++ (bs.map (leBytes 2)).flatten →
      ∃ u : State, exec (.mgrdInject p) s = .next (u.answers rowMgrdInject p1 Stat.OK []) ∧
        (u.lineBytes k, u.storedCheck k line) = bs.foldl (fun x b => flipBit x.1 x.2 b) (s1.lineBytes k, s1.storedCheck k line) ∧
        Touches [.bytes, .guard] [] s1 u) ∧
    (∀ b, s1.st = ST.CONFIG → c = 2 → p.params = [2, 0] ++ leBytes 4 a ++ leBytes 1 b → b < 64 →
      ∃ u : State, exec (.mgrdInject p) s = .next (u.answers rowMgrdInject p1 Stat.OK []) ∧
        Map.get false u.guard.parity (k + b) = !Map.get false s1.guard.parity (k + b) ∧ Touches [.guard] [] s1 u))

/-- 12 R332, R334, R336: the reaction timer escalates an open S2 record to S3 and blocks the node; OUT_MIN ends the hold on FAULT_OUT_N
once no grave record is open; a resolve by a core closes the record named. -/
def Obligations.FaultHubEvents : Prop :=
  ∀ (s : State), s.running = true →
    (∀ t0, s.hub.react = some t0 →
      ∃ t : State, exec .escalation s = .next t.wrapUp ∧ (t0 < 2 ^ 64 → t0 ≤ t.time) ∧ t.f F.FHUB_REC_SEV = 3 ∧ t.on F.FHUB_REC_ESCALATED = true ∧
        t.on F.FHUB_REC_S3_ACTED = true ∧ t.on F.FHUB_REC_OUT_HOLD = true ∧ t.faultOut = true ∧
        t.f F.FHUB_STAT_ESCALATIONS = min (s.f F.FHUB_STAT_ESCALATIONS + 1) 255 ∧ t.hub.react = none ∧ t.cause CAUSE.FHUB_BLOCK = true ∧
        t.f F.FHUB_REC_ID = s.f F.FHUB_REC_ID ∧ t.f F.FHUB_REC_SOURCE = s.f F.FHUB_REC_SOURCE ∧
        Touches (.recorder :: demandParts) ([A.FHUB_REC, A.FHUB_STAT] ++ demandRegs) s t) ∧
    (s.hub.react = none → exec .escalation s = .next s.wrapUp) ∧
    (∃ t : State, exec .outMin s = .next t.wrapUp ∧ s.hub.outMin ≤ t.now ∧ (s.standing < 2 → t.on F.FHUB_REC_OUT_HOLD = false) ∧
      (2 ≤ s.standing → t.reg A.FHUB_REC = s.reg A.FHUB_REC) ∧ Touches [.clk] [A.FHUB_REC] s t) ∧
    (∀ id : BitVec 16, (s.recOpen = true → s.f F.FHUB_REC_ID = id.toNat → (s.f F.FHUB_REC_SEV = 3 → s.st ≠ ST.BLOCKED ∧ s.st ≠ ST.LOCKOUT) →
        ∃ t : State, exec (.fhubResolve id) s = .next t.wrapUp ∧ t.recOpen = false ∧ t.hub.react = none ∧
          Touches [.hub, .lanes, .cmd] ([A.FHUB_REC, A.FHUB_STAT] ++ sendRegs) s t ∧
          ∃ r : HubRec, t.hub.history = (r :: s.hub.history).take 8 ∧ r.id = id.toNat ∧ r.source = s.f F.FHUB_REC_SOURCE ∧
            r.merges = s.f F.FHUB_REC_MERGE_MERGE_CNT) ∧
      (s.recOpen = false ∨ s.f F.FHUB_REC_ID ≠ id.toNat ∨ (s.f F.FHUB_REC_SEV = 3 ∧ (s.st = ST.BLOCKED ∨ s.st = ST.LOCKOUT)) →
        exec (.fhubResolve id) s = .next s.wrapUp))

/-- 12 R337: the FAULT_OUT_N ball against the level that the fault hub drives: 1 µs of difference sets OUT_MISMATCH and raises
FHUB_OUT_MISMATCH; 1 µs of agreement clears it. With their frames. -/
def Obligations.FaultOutCompared : Prop :=
  ∀ (s : State), s.running = true →
    (∀ level : Bool, (level = s.faultOut →
        ∃ t : State, exec (.fhubOutMismatch level) s = .next t.wrapUp ∧ t.on F.FHUB_STAT_OUT_MISMATCH = true ∧ t.faultBall = level ∧
          t.hub.raised = s.hub.raised ++ [FS.FHUB_OUT_MISMATCH] ∧ Touches [.hub] [A.FHUB_STAT] s t) ∧
      (level = !s.faultOut → exec (.fhubOutMismatch level) s = .next s.wrapUp)) ∧
    (∃ t : State, exec .outMismatchClear s = .next t.wrapUp ∧ t.on F.FHUB_STAT_OUT_MISMATCH = false ∧ t.faultBall = !t.faultOut ∧
      Touches [.hub] [A.FHUB_STAT] s t)

/-- 12 R334, R341, R344: FAULT_RESOLVE closes the record it names, or is refused; latches clear by mask; a source's reporting is set; software
raises sources 2 and 3; at most two subscribers. With their frames. -/
def Obligations.FaultHubCommands : Prop :=
  ∀ (p p1 : Packet) (s s1 : State),
    (∀ id, Admitted rowFaultResolve p s s1 p1 → p.params = leBytes 2 id → id < 65536 →
      (s1.recOpen = true → s1.f F.FHUB_REC_ID = id → (s1.f F.FHUB_REC_SEV = 3 → s1.st ≠ ST.BLOCKED ∧ s1.st ≠ ST.LOCKOUT) →
        ∃ u : State, exec (.faultResolve p) s = .next (u.answers rowFaultResolve p1 Stat.OK []) ∧ u.recOpen = false ∧ u.hub.react = none ∧
          Touches [.hub, .lanes, .cmd] ([A.FHUB_REC, A.FHUB_STAT] ++ sendRegs) s1 u ∧ ∃ r : HubRec, u.hub.history = (r :: s1.hub.history).take 8 ∧ r.id = id) ∧
      (s1.recOpen = false ∨ s1.f F.FHUB_REC_ID ≠ id → exec (.faultResolve p) s = .next (s1.answers rowFaultResolve p1 Stat.BAD_PARAM [])) ∧
      (s1.recOpen = true → s1.f F.FHUB_REC_ID = id → s1.f F.FHUB_REC_SEV = 3 → s1.st = ST.BLOCKED ∨ s1.st = ST.LOCKOUT →
        exec (.faultResolve p) s = .next (s1.answers rowFaultResolve p1 Stat.DENIED []))) ∧
    (Admitted rowFaultLatchClear p s s1 p1 → p.params.length = 16 →
      ∃ u : State, exec (.faultLatchClear p) s = .next (u.answers rowFaultLatchClear p1 Stat.OK []) ∧
        (∀ w < 4, u.reg (A.FHUB_LATCH w) = s1.reg (A.FHUB_LATCH w) &&& ~~~(BitVec.ofNat 32 (numAt p.params (4 * w) 4))) ∧
        Touches [] [A.FHUB_LATCH 0, A.FHUB_LATCH 1, A.FHUB_LATCH 2, A.FHUB_LATCH 3] s1 u) ∧
    (∀ n v, Admitted rowFaultSrcSet p s s1 p1 → p.params = BitVec.ofNat 8 n :: leBytes 2 v → n < 128 → (sourceSeverity n).isSome → v < 1024 →
      bits v 7 6 = 0 →
      ∃ u : State, exec (.faultSrcSet p) s = .next (u.answers rowFaultSrcSet p1 Stat.OK []) ∧ u.f (F.FHUB_SRC_EVT_UP n) = bits v 9 9 ∧
        u.f (F.FHUB_SRC_ROUTE n) = bits v 8 8 ∧ u.f (F.FHUB_SRC_FLOW n) = bits v 5 0 ∧ u.f (F.FHUB_SRC_COUNT n) = s1.f (F.FHUB_SRC_COUNT n) ∧
        Touches [] [A.FHUB_SRC n] s1 u) ∧
    (Admitted rowFaultRaise p s s1 p1 →
      (p.params = [2] ∨ (p.params = [3] ∧ s1.st ≠ ST.RUN ∧ s1.st ≠ ST.HOLD) →
        ∃ u : State, exec (.faultRaise p) s = .next (u.answers rowFaultRaise p1 Stat.OK []) ∧ u.hub.raised = s1.hub.raised ++ [numAt p.params 0 1] ∧
          Touches [.hub] [] s1 u) ∧
      (p.params = [3] → s1.st = ST.RUN ∨ s1.st = ST.HOLD → exec (.faultRaise p) s = .next (s1.answers rowFaultRaise p1 Stat.DENIED []))) ∧
    (Admitted rowFaultSubscribe p s s1 p1 →
      (p.params = [1] → (s1.hub.subs.filter (fun u => u.source != p.source)).length < 2 →
        ∃ u : State, exec (.faultSubscribe p) s = .next (u.answers rowFaultSubscribe p1 Stat.OK []) ∧
          { source := p.source, mac := s1.srcMac (srcKey p) } ∈ u.hub.subs ∧ (∀ x ∈ s1.hub.subs, x.source ≠ p.source → x ∈ u.hub.subs) ∧
          Touches [.hub] [] s1 u) ∧
      (p.params = [0] →
        ∃ u : State, exec (.faultSubscribe p) s = .next (u.answers rowFaultSubscribe p1 Stat.OK []) ∧ (∀ x ∈ u.hub.subs, x.source ≠ p.source) ∧
          Touches [.hub] [] s1 u) ∧
      (p.params = [1] → 2 ≤ (s1.hub.subs.filter (fun u => u.source != p.source)).length →
        exec (.faultSubscribe p) s = .next (s1.answers rowFaultSubscribe p1 Stat.NO_RESOURCE [])))

/-- 12 R326, R329 to R333, R336: a raised source is evaluated in the clk that follows: its latch and count; a first source of S1 to S3 opens
a record with the next ID; a later one merges and may raise its severity; S2 starts the reaction timer, S2 and S3 hold FAULT_OUT_N; S3 acts. -/
def Obligations.SettledRaises : Prop :=
  ∀ (s : State) (n v : Nat), n < 128 → s.hub.raised = [n] → sourceSeverity n = some v →
    s.finish = ((State.settle 15 s.evalRaises).driveOutputs.leaveBlocked).settle 16 ∧
    setBitOf s.evalRaises A.FHUB_LATCH n = true ∧ s.evalRaises.f (F.FHUB_SRC_COUNT n) = min (s.f (F.FHUB_SRC_COUNT n) + 1) 255 ∧
    (v = 0 → s.evalRaises.reg A.FHUB_REC = s.reg A.FHUB_REC) ∧
    (1 ≤ v → s.recOpen = false → s.evalRaises.recOpen = true ∧ s.evalRaises.f F.FHUB_REC_SOURCE = n ∧ s.evalRaises.f F.FHUB_REC_SEV = v ∧
      s.evalRaises.f F.FHUB_REC_ID = (s.f F.FHUB_REC_ID + 1) % 65536 ∧ s.evalRaises.reg A.FHUB_REC_TIME_LO = BitVec.ofNat 32 s.time ∧
      s.evalRaises.f F.FHUB_REC_MERGE_MERGE_CNT = 0 ∧ setBitOf s.evalRaises A.FHUB_FIRST_SET n = true ∧
      (v = 2 → s.evalRaises.hub.react = some (s.time + s.f F.FHUB_CTRL_REACT * 1000)) ∧ (2 ≤ v → s.evalRaises.on F.FHUB_REC_OUT_HOLD = true)) ∧
    (1 ≤ v → s.recOpen = true → s.evalRaises.recOpen = true ∧ s.evalRaises.f F.FHUB_REC_ID = s.f F.FHUB_REC_ID ∧
      s.evalRaises.f F.FHUB_REC_SOURCE = s.f F.FHUB_REC_SOURCE ∧ s.evalRaises.f F.FHUB_REC_SEV = max (s.f F.FHUB_REC_SEV) v ∧
      s.evalRaises.f F.FHUB_REC_MERGE_MERGE_CNT = min (s.f F.FHUB_REC_MERGE_MERGE_CNT + 1) 65535 ∧
      setBitOf s.evalRaises A.FHUB_MERGED n = true) ∧
    (v = 3 → s.evalRaises.on F.FHUB_REC_S3_ACTED = true ∧ (s3ActOf n = 1 → s.evalRaises.cause CAUSE.FHUB_BLOCK = true) ∧
      (s3ActOf n = 2 → s.evalRaises.cause CAUSE.FHUB_LOCKOUT = true ∧ (s.on F.SYS_STATE_IMG_OK = true → s.evalRaises.st = ST.LOCKOUT) ∧
        (s.on F.SYS_STATE_IMG_OK = false → s.evalRaises.node.lockoutDue = true)))

/-- 13 R360, 12 R329: a command that leaves the block at rest ends with its safety outputs on the levels that their functions command, and with
nothing else changed. -/
def Obligations.WrapUpAtRest : Prop :=
  ∀ s : State, s.atRest = true → s.st ≠ ST.BLOCKED → (∀ n < 4, s.on (F.SAFE_OUT_DEG n) = true → s.outWanted n = true) →
    Touches [.safe] [A.SAFE_OUT 0, A.SAFE_OUT 1, A.SAFE_OUT 2, A.SAFE_OUT 3, A.SAFE_STAT] s s.wrapUp ∧
    ∀ n < 4, s.wrapUp.on (F.SAFE_OUT_ON_A n) = s.chanWanted n 0 ∧ s.wrapUp.on (F.SAFE_OUT_ON_B n) = s.chanWanted n 1

/-- 13 R345, R346, R350 to R353, R355, R359: a debounced level with the demand, the rearm and the discrepancy timer that follow from it; the
timer's expiry; a driver's off-pulse with the samples read in it; a channel B cycle with the level it formed; the end of a string's Safe Stop
and of GDS_DELAY. Each also where nothing waits for it. With their frames. -/
def Obligations.SafetyInputs : Prop :=
  ∀ (s : State), s.running = true →
    (∀ (i : Fin 4) (b level : Bool),
      ∃ t : State, exec (.safetyInput i b level) s = .next t.wrapUp ∧ t.on (lvlField i (b2n b)) = level ∧
        Map.get false t.safe.known (2 * i + b2n b) = true ∧
        t.on (F.SAFE_IN_DEM i) = (t.chDemand i 0 || t.chDemand i 1 || Map.get 0 t.safe.rearm i.val != 0) ∧
        (Map.get none t.safe.disc i.val).isSome = ((t.chDemand i 0 && t.chNormal i 1) || (t.chNormal i 0 && t.chDemand i 1)) ∧
        (Map.get 0 s.safe.rearm i.val = 1 → t.chDemand i 0 = true → t.chDemand i 1 = true → Map.get 0 t.safe.rearm i.val = 2) ∧
        (Map.get 0 s.safe.rearm i.val = 2 → t.chNormal i 0 = true → t.chNormal i 1 = true → Map.get 0 t.safe.rearm i.val = 0 ∧
          t.on (F.SAFE_IN_REARM i) = false ∧ t.on (F.SAFE_IN_DISCF i) = false ∧ t.on (F.SAFE_IN_TFAIL i) = false) ∧
        (level = s.demandLevel i (b2n b) → t.on (F.SAFE_IN_DEM i) = true ∧
          (s.on (F.SAFE_IN_DEM i) = false → s.inFunc i ≠ 0 → t.cause CAUSE.INPUT = true)) ∧
        (level ≠ s.demandLevel i (b2n b) → s.chNormal i (1 - b2n b) = true → Map.get 0 s.safe.rearm i.val = 0 →
          t.on (F.SAFE_IN_DEM i) = false ∧ Touches [.safe] [A.SAFE_IN i, A.SAFE_STAT] s t) ∧
        Touches demandParts (A.SAFE_IN i :: demandRegs) s t) ∧
    (∀ i : Fin 4, Map.get none s.safe.disc i.val = none ∨ Map.get false s.safe.discOver i.val = true →
      exec (.safeInDiscrepancy i) s = .next s.wrapUp) ∧
    (∀ (i : Fin 4) (t0 : Nat), Map.get none s.safe.disc i.val = some t0 → Map.get false s.safe.discOver i.val = false →
      ∃ t : State, exec (.safeInDiscrepancy i) s = .next t.wrapUp ∧ t.on (F.SAFE_IN_DISCF i) = true ∧ t.on (F.SAFE_IN_REARM i) = true ∧
        t.on (F.SAFE_IN_DEM i) = true ∧ (s.inFunc i ≠ 0 → t.cause CAUSE.INPUT = true) ∧ FS.SAFE_IN_DISCREPANCY ∈ t.hub.raised ∧
        t0 + discMs (s.f (F.SAFE_IN_DISC i)) * 1000000 + 2 ≤ t.now ∧ Touches demandParts (A.SAFE_IN i :: demandRegs) s t) ∧
    (∀ (d : Fin 4) (reads : List (BitVec 8)),
      (s.testedBy d = [] → exec (.testPulse d reads) s = .next s.wrapUp) ∧
      (s.testedBy d ≠ [] →
        ∃ t : State, exec (.testPulse d reads) s = .next t.wrapUp ∧ t.now = (s.reachPulseEnd (driverSlot d)).now ∧
          (∀ n, n ∈ s.testedBy d → ∀ ch, ch < 2 → ∀ bad : Bool, bad = s.pulseFails n ch d (reads.map (fun r => bit r.toNat (2 * n + ch))) →
            ∀ key, key = (2 * n + ch) * 2 + b2n (inputDriver n ch == d.val) →
            (bad = false → Map.get 0 t.safe.tp key = 0) ∧
            (bad = true → Map.get 0 s.safe.tp key = 0 → Map.get 0 t.safe.tp key = 1) ∧
            (bad = true → 1 ≤ Map.get 0 s.safe.tp key → Map.get 0 t.safe.tp key = 0 ∧ t.on (F.SAFE_IN_TFAIL n) = true ∧
              t.on (F.SAFE_IN_REARM n) = true ∧ t.on (F.SAFE_IN_DEM n) = true ∧ (s.inFunc n ≠ 0 → t.cause CAUSE.INPUT = true) ∧
              FS.SAFE_IN_TEST ∈ t.hub.raised)) ∧
          ((∀ n, n ∈ s.testedBy d → ∀ ch, ch < 2 → s.pulseFails n ch d (reads.map (fun r => bit r.toNat (2 * n + ch))) = false) →
            Touches [.clk, .safe] [] s t) ∧
          Touches demandParts (outNumbers.map A.SAFE_IN ++ demandRegs) s t)) ∧
    (∀ (ran differs fault : Bool) (demand : Fin 4),
      (s.safe.chbLost = true ∨ s.on F.SYS_STATE_IMG_OK = false → exec (.channelBCycle ran demand differs fault) s = .next s.wrapUp) ∧
      (s.safe.chbLost = false → s.on F.SYS_STATE_IMG_OK = true → ∀ good : Bool, good = (ran && !s.disp.pairReset) →
        ∀ other : Bool, other = (differs || s.levelOf 0x3FE != demand.val) →
        (fault = false → (good = true → other = true → s.safe.diffs < 2) → (good = false → s.safe.missed = 0) →
          ∃ t : State, exec (.channelBCycle ran demand differs fault) s = .next t.wrapUp ∧ t.on F.SAFE_STAT_CHB_OK = true ∧
            (good = true → t.safe.missed = 0 ∧ t.safe.chbLevel = demand.val ∧ t.safe.diffs = if other then s.safe.diffs + 1 else 0) ∧
            (good = false → t.safe.missed = 1 ∧ t.safe.chbLevel = s.safe.chbLevel ∧ t.safe.diffs = s.safe.diffs) ∧
            s.safe.cycleAt + 100000 ≤ t.now ∧ t.safe.cycleAt = t.now ∧ Touches [.clk, .safe, .swu] (A.SAFE_STAT :: forceRegs) s t) ∧
        (fault = true ∨ (good = false ∧ 1 ≤ s.safe.missed) ∨ (good = true ∧ other = true ∧ 2 ≤ s.safe.diffs) →
          ∃ t : State, exec (.channelBCycle ran demand differs fault) s = .next t.wrapUp ∧ t.on F.SAFE_STAT_CHB_OK = false ∧
            t.safe.chbLost = true ∧ t.safe.chbLevel = 0 ∧ t.cause CAUSE.CHANNEL = true ∧ FS.SAFE_CHANNEL ∈ t.hub.raised ∧
            (∀ n < 4, t.chFaulty (2 * n + 1) = true ∧ (s.chFaulty (2 * n + 1) = false → t.locked n = true ∨ t.on (F.SAFE_OUT_DEG n) = true)) ∧
            s.safe.cycleAt + 100000 ≤ t.now ∧ Touches demandParts outRegs s t))) ∧
    (∀ k : Fin 16, (s.ssActive k = false → exec (.ssMax k) s = .next s.wrapUp) ∧
      (s.ssActive k = true →
        ∃ t : State, exec (.ssMax k) s = .next t.wrapUp ∧ t.f (F.SAFE_SS_STATE k) = 5 ∧ bit t.safe.ssSgr k = true ∧
          Map.get 0 s.safe.ssAt k.val + numAt s.safe.record 6 2 * 1000000 ≤ t.now ∧ Touches demandParts demandRegs s t)) ∧
    (s.safe.sgrSince = none → exec .gdsDelay s = .next s.wrapUp) ∧
    (∀ t0, s.safe.sgrSince = some t0 →
      ∃ t : State, exec .gdsDelay s = .next t.wrapUp ∧ t.safe.gdsOff = true ∧ t.credit = false ∧ t0 + numAt s.safe.record 4 1 * 1000000 ≤ t.now ∧
        Touches [.clk, .safe] [A.SYS_STATE] s t)

/-- 13 R360 to R364: a readback sample, a channel's off-pulse, the end of a degraded output's time and of the bypass delay, a firing output's
readback and the end of its pulse. A channel that fails degrades its output or locks it; a fire ends well in the sample that shows both channels
on within FB_SETTLE, and badly in one that comes later or at the pulse's end. With their frames. -/
def Obligations.SafetyOutputs : Prop :=
  ∀ (s : State), s.running = true →
    (∀ (n : Fin 4) (b level : Bool) (c : Nat), c = 2 * n.val + b2n b → ∀ v : State, v = s.reachNow (Map.get 0 s.safe.sampleAt c + 10000) →
      ∀ settle : Nat, settle = numAt s.safe.record 10 2 * 1000 → ∀ early : Bool, early = decide (v.now < Map.get 0 s.safe.changeAt c + settle) →
      ((∀ x, s.firing n = some x → x.decided = true) →
        ∃ t : State, exec (.sofbCheck n b level) s = .next t.wrapUp ∧ t.on (if b then F.SAFE_OUT_FB_B n else F.SAFE_OUT_FB_A n) = level ∧
          t.now = v.now ∧ Map.get 0 t.safe.sampleAt c = v.now ∧
          (s.outFunc n = 0 ∨ s.chFaulty c = true ∨ early = true ∨ v.pulseSettles n (b2n b) settle = true →
            t.safe.mism = s.safe.mism ∧ Touches [.clk, .safe] [A.SAFE_OUT n] s t) ∧
          (s.outFunc n ≠ 0 → s.chFaulty c = false → early = false → v.pulseSettles n (b2n b) settle = false →
            (level = s.outOn n (b2n b) → Map.get 0 t.safe.mism c = 0 ∧ Touches [.clk, .safe] [A.SAFE_OUT n] s t) ∧
            (level ≠ s.outOn n (b2n b) → Map.get 0 s.safe.mism c < 2 →
              Map.get 0 t.safe.mism c = Map.get 0 s.safe.mism c + 1 ∧ t.chFaulty c = false ∧ Touches [.clk, .safe] [A.SAFE_OUT n] s t) ∧
            (level ≠ s.outOn n (b2n b) → 2 ≤ Map.get 0 s.safe.mism c →
              t.chFaulty c = true ∧ (t.locked n = true ∨ t.on (F.SAFE_OUT_DEG n) = true) ∧
              Touches demandParts (A.SAFE_OUT n :: demandRegs) s t))) ∧
      (∀ x : Fire, s.firing n = some x → x.decided = false →
        (early = true → level = true → s.outOn n (b2n b) = true → (if b then x.fbA else x.fbB) = true →
          ∃ u : State, exec (.sofbCheck n b level) s = .next (match x.cmd with
              | some p => u.finalReply 0x0905 p Stat.OK []
              | none => u).wrapUp ∧
            u.firing n = some { x with fbA := true, fbB := true, cmd := none, decided := true } ∧ u.on (F.SAFE_OUT_FIRED n) = true ∧
            u.on (F.YAR_CELL_BYPASSED (s.f (F.SAFE_OUT_CELL n))) = true ∧ u.now = v.now ∧
            Touches [.clk, .safe] [A.SAFE_OUT n, A.YAR_CELL (s.f (F.SAFE_OUT_CELL n))] s u) ∧
        (early = true → (if b then x.fbB else x.fbA) = false → (level = false ∨ s.outOn n (b2n b) = false ∨ (if b then x.fbA else x.fbB) = false) →
          ∃ t : State, exec (.sofbCheck n b level) s = .next t.wrapUp ∧
            t.firing n = some (if level && s.outOn n (b2n b) then (if b then { x with fbB := true } else { x with fbA := true }) else x) ∧
            Touches [.clk, .safe] [A.SAFE_OUT n] s t) ∧
        (early = false → s.outOn n (b2n b) = true → (x.fbA && x.fbB) = false →
          ∃ u : State, exec (.sofbCheck n b level) s = .next (match x.cmd with
              | some p => u.finalReply 0x0905 p Stat.FAULTED [0x74]
              | none => u).wrapUp ∧
            u.firing n = some { x with cmd := none, decided := true } ∧ u.locked n = true ∧
            u.on (F.SAFE_OUT_FIRED n) = s.on (F.SAFE_OUT_FIRED n) ∧ Touches demandParts (A.SAFE_OUT n :: demandRegs) s u))) ∧
    (∀ (n : Fin 4) (b saw : Bool),
      ((s.outFunc n ≠ 1 ∧ s.outFunc n ≠ 3) ∨ s.safe.record = [] → exec (.outputTestPulse n b saw) s = .next s.wrapUp) ∧
      (s.outFunc n = 1 ∨ s.outFunc n = 3 → s.safe.record ≠ [] → ∀ v : State, v = s.reachPulseEnd (outSlot n (b2n b)) →
        (saw = true ∨ v.chanWanted n (b2n b) = false ∨ v.now < Map.get 0 s.safe.changeAt (2 * n.val + b2n b) + s.tpWidth →
          exec (.outputTestPulse n b saw) s = .next v.wrapUp) ∧
        (saw = false → v.chanWanted n (b2n b) = true → Map.get 0 s.safe.changeAt (2 * n.val + b2n b) + s.tpWidth ≤ v.now →
          ∃ t : State, exec (.outputTestPulse n b saw) s = .next t.wrapUp ∧ t.now = v.now ∧ t.chFaulty (2 * n.val + b2n b) = true ∧
            (t.locked n = true ∨ t.on (F.SAFE_OUT_DEG n) = true) ∧ Touches demandParts (A.SAFE_OUT n :: demandRegs) s t))) ∧
    (∀ n : Fin 4, (Map.get none s.safe.degEnd n.val = none → exec (.degLimit n) s = .next s.wrapUp) ∧
      ∀ t0 : Nat, Map.get none s.safe.degEnd n.val = some t0 →
        ∃ t : State, exec (.degLimit n) s = .next t.wrapUp ∧ t0 ≤ t.now ∧ t.locked n = true ∧
          (s.locked n = false → t.on (F.SAFE_OUT_DEG n) = false ∧ FS.SAFE_OUT_LOCKOUT ∈ t.hub.raised ∧
            (s.outFunc n = 1 ∨ s.outFunc n = 2 → t.cause CAUSE.OUT_LOCK = true)) ∧
          Touches demandParts (A.SAFE_OUT n :: demandRegs) s t) ∧
    (s.safe.bypAt = none → exec .bypDelay s = .next s.wrapUp) ∧
    (∀ t0, s.safe.bypAt = some t0 →
      ∃ t : State, exec .bypDelay s = .next t.wrapUp ∧ t.safe.bypAt = none ∧ t0 ≤ t.now ∧ Touches [.clk, .safe] [] s t ∧
        ∀ n < 4, t.firing n = if s.outFunc n = 2 && s.on (F.SAFE_OUT_BYP_AUTO n) && !s.locked n && s.cellForced (s.f (F.SAFE_OUT_CELL n)) &&
          (s.firing n).isNone then some { since := t.now, cmd := none } else s.firing n) ∧
    (∀ n : Fin 4, (s.firing n = none → exec (.fireMs n) s = .next s.wrapUp) ∧
      ∀ x : Fire, s.firing n = some x →
        (x.decided = true →
          ∃ t : State, exec (.fireMs n) s = .next t.wrapUp ∧ t.firing n = none ∧
            x.since + numAt s.safe.record 12 1 * 1000000 ≤ t.now ∧ Touches [.clk, .safe] [] s t) ∧
        (x.decided = false →
          ∃ u : State, exec (.fireMs n) s = .next (match x.cmd with
              | some p => u.finalReply 0x0905 p Stat.FAULTED [0x74]
              | none => u).wrapUp ∧
            u.firing n = none ∧ x.since + numAt s.safe.record 12 1 * 1000000 ≤ u.now ∧ u.locked n = true ∧
            Touches demandParts (A.SAFE_OUT n :: demandRegs) s u))

/-- 13 R349, R365, R366: the seal and the switches, with SAFE_PANEL and REC_MATCH; a press and a release of the acknowledge button, its hold
limit, a press that comes too soon after one held too long, the window that a release opens and the window's end; a remote window not read in
time. That REC_MATCH returns when the seal closes again over a record whose CRC is on the switches is read from the register's table
(DEDUCED, assumption 9). With their frames. -/
def Obligations.SafetyPanel : Prop :=
  ∀ (s : State), s.running = true →
    (∀ closed : Bool,
      ∃ t : State, exec (.sealOk closed) s = .next t.wrapUp ∧ t.on F.SAFE_PANEL_SEAL_OK = closed ∧ t.on F.SAFE_STAT_SEAL = closed ∧
        t.on F.SAFE_STAT_REC_MATCH = (s.on F.SAFE_STAT_REC_OK && closed && s.f F.SAFE_REC_CRC == s.f F.SAFE_PANEL_SW) ∧
        (s.on F.SAFE_PANEL_SEAL_OK = true → closed = false → s.st ≠ ST.CONFIG → t.hub.raised = s.hub.raised ++ [FS.SAFE_PANEL]) ∧
        (s.on F.SAFE_PANEL_SEAL_OK = false ∨ closed = true ∨ s.st = ST.CONFIG → t.hub = s.hub) ∧
        Touches [.hub] [A.SAFE_PANEL, A.SAFE_STAT] s t) ∧
    (∀ v : BitVec 16,
      ∃ t : State, exec (.sw v) s = .next t.wrapUp ∧ t.f F.SAFE_PANEL_SW = v.toNat ∧
        (s.f F.SAFE_PANEL_SW ≠ v.toNat → s.on F.SAFE_PANEL_SEAL_OK = true →
          t.on F.SAFE_STAT_REC_MATCH = false ∧ t.hub.raised = s.hub.raised ++ [FS.SAFE_PANEL] ∧
          Touches [.hub] [A.SAFE_PANEL, A.SAFE_STAT] s t) ∧
        (s.f F.SAFE_PANEL_SW = v.toNat ∨ s.on F.SAFE_PANEL_SEAL_OK = false → Touches [] [A.SAFE_PANEL] s t)) ∧
    (s.safe.ackLow.isSome = true → exec (.ackN true) s = .next s.wrapUp) ∧
    (s.safe.ackLow = none → s.safe.ackBarred = false ∨ s.safe.ackHigh + 1000000000 ≤ s.now →
      ∃ t : State, exec (.ackN true) s = .next t.wrapUp ∧ t.on F.SAFE_PANEL_ACK = true ∧ t.on F.SAFE_PANEL_WIN = false ∧
        t.f F.SAFE_PANEL_WIN_LEFT = 0 ∧ t.safe.winEnd = none ∧
        t.safe.ackLow = some s.now ∧ t.safe.ackLong = false ∧ t.safe.ackBarred = false ∧ Touches [.safe] [A.SAFE_PANEL] s t) ∧
    (s.safe.ackLow = none → s.safe.ackBarred = true → s.now < s.safe.ackHigh + 1000000000 →
      ∃ t : State, exec (.ackN true) s = .next t.wrapUp ∧ t.on F.SAFE_PANEL_ACK = true ∧ t.on F.SAFE_PANEL_WIN = s.on F.SAFE_PANEL_WIN ∧
        t.safe.winEnd = s.safe.winEnd ∧ t.safe.ackLow = some s.now ∧ t.safe.ackLong = true ∧ t.safe.ackBarred = true ∧
        Touches [.safe] [A.SAFE_PANEL] s t) ∧
    (s.safe.ackLow = none → exec (.ackN false) s = .next s.wrapUp) ∧
    (∀ t0, s.safe.ackLow = some t0 → s.safe.ackLong = false → s.f F.SAFE_ACK_ACK_MODE = 1 → 1000000000 ≤ s.now - t0 → s.now - t0 ≤ 5000000000 →
      ∃ t : State, exec (.ackN false) s = .next t.wrapUp ∧ t.on F.SAFE_PANEL_ACK = false ∧ t.on F.SAFE_PANEL_WIN = true ∧
        t.f F.SAFE_PANEL_WIN_LEFT = 10 ∧ t.f F.SAFE_ACK_WIN_ID = (s.f F.SAFE_ACK_WIN_ID + 1) % 65536 ∧ t.safe.ackLow = none ∧
        t.safe.winEnd = some (s.now + 10000000000) ∧ t.safe.ackHigh = s.now ∧ Touches [.safe] [A.SAFE_PANEL, A.SAFE_ACK] s t) ∧
    (∀ t0, s.safe.ackLow = some t0 →
      s.safe.ackLong = true ∨ s.f F.SAFE_ACK_ACK_MODE ≠ 1 ∨ s.now - t0 < 1000000000 ∨ 5000000000 < s.now - t0 →
      ∃ t : State, exec (.ackN false) s = .next t.wrapUp ∧ t.on F.SAFE_PANEL_ACK = false ∧ t.on F.SAFE_PANEL_WIN = s.on F.SAFE_PANEL_WIN ∧
        t.safe.ackLow = none ∧ t.safe.winEnd = s.safe.winEnd ∧ t.safe.ackHigh = s.now ∧ Touches [.safe] [A.SAFE_PANEL] s t) ∧
    (s.safe.ackLow = none ∨ s.safe.ackLong = true → exec .ackHoldLimit s = .next s.wrapUp) ∧
    (∀ t0, s.safe.ackLow = some t0 → s.safe.ackLong = false →
      ∃ t : State, exec .ackHoldLimit s = .next t.wrapUp ∧ t.safe.ackLong = true ∧ t.safe.ackBarred = true ∧
        t.hub.raised = s.hub.raised ++ [FS.SAFE_PANEL] ∧ t0 + 5000000000 ≤ t.now ∧ Touches [.clk, .safe, .hub] [] s t) ∧
    (s.safe.winEnd = none → exec .ackWindowEnd s = .next s.wrapUp) ∧
    (∀ t0, s.safe.winEnd = some t0 →
      ∃ t : State, exec .ackWindowEnd s = .next t.wrapUp ∧ t.on F.SAFE_PANEL_WIN = false ∧ t.f F.SAFE_PANEL_WIN_LEFT = 0 ∧
        t.safe.winEnd = none ∧ t0 ≤ t.now ∧ Touches [.clk, .safe] [A.SAFE_PANEL] s t) ∧
    (s.safe.remote = none → exec .ackReadTimeout s = .next s.wrapUp) ∧
    (∀ (p : Packet) (t0 q : Nat), s.safe.remote = some (p, t0, q) →
      ∃ u : State, exec .ackReadTimeout s = .next (u.release 0x0904 p Stat.TIMEOUT []).wrapUp ∧ u.safe.remote = none ∧
        t0 + 1000000000 ≤ u.now ∧ Touches [.clk, .safe] [] s u)

/-- 13 R347, R348, R353, R354, R358, R364, R366, R367, with the refusals of each: a record is loaded in CONFIG behind a closed seal when every
field is good and its CRC is on the switches; a demand latches COMMAND, blocks at level 3h, and at level 1h starts Safe Stop in a Meadow; a
deliberate reset clears locks and causes but for one latched in its own clk; a bypass fires an output of a forced cell. -/
def Obligations.SafetyCommands : Prop :=
  ∀ (p p1 : Packet) (s s1 : State),
    (Admitted rowSafeCfgLoad p s s1 p1 → s1.st ≠ ST.CONFIG ∨ s1.on F.SAFE_PANEL_SEAL_OK = false →
      exec (.safeCfgLoad p) s = .next (s1.answers rowSafeCfgLoad p1 Stat.DENIED [])) ∧
    (Admitted rowSafeCfgLoad p s s1 p1 → s1.st = ST.CONFIG → s1.on F.SAFE_PANEL_SEAL_OK = true → (∀ x ∈ recordChecks p.params, x.2 = false) →
      (numAt p.params 304 2 = s1.f F.SAFE_PANEL_SW →
        ∃ u : State, exec (.safeCfgLoad p) s = .next (u.answers rowSafeCfgLoad p1 Stat.OK []) ∧ u.safe.record = p.params ∧
          u.on F.SAFE_STAT_REC_MATCH = true ∧ u.on F.SAFE_STAT_REC_OK = true ∧ u.f F.SAFE_REC_CRC = numAt p.params 304 2 ∧
          u.f F.SAFE_ACK_ACK_MODE = numAt p.params 1 1 ∧ u.f F.SAFE_ACK_ACK_NODE = numAt p.params 2 2 ∧
          Touches demandParts ([A.SAFE_ACK, A.SAFE_REC] ++ outNumbers.map A.SAFE_IN ++ outRegs) s1 u ∧
          ∀ n < 4, u.inFunc n = numAt p.params (16 + 4 * n) 1 ∧ u.outFunc n = numAt p.params (32 + 4 * n) 1 ∧
            (u.on (F.SAFE_IN_DEM n) = true → u.inFunc n ≠ 0 → u.cause CAUSE.INPUT = true)) ∧
      (numAt p.params 304 2 ≠ s1.f F.SAFE_PANEL_SW → exec (.safeCfgLoad p) s = .next (s1.answers rowSafeCfgLoad p1 Stat.DENIED []))) ∧
    (∀ o, Admitted rowSafeCfgLoad p s s1 p1 → s1.st = ST.CONFIG → s1.on F.SAFE_PANEL_SEAL_OK = true →
      (recordChecks p.params).find? (fun x => x.2) = some (o, true) →
      exec (.safeCfgLoad p) s = .next (s1.answers rowSafeCfgLoad p1 Stat.BAD_PARAM (leBytes 2 o))) ∧
    (Admitted rowSafeDemand p s s1 p1 →
      (p.params.length ≠ 1 ∧ p.params.length ≠ 3) ∨ (numAt p.params 0 1 ≠ 1 ∧ numAt p.params 0 1 ≠ 3) →
      exec (.safeDemand p) s = .next (s1.answers rowSafeDemand p1 Stat.BAD_PARAM [])) ∧
    (Admitted rowSafeDemand p s s1 p1 → p.params.length = 1 ∨ p.params.length = 3 → numAt p.params 0 1 = 1 ∨ numAt p.params 0 1 = 3 →
      ∃ u : State, exec (.safeDemand p) s = .next (u.answers rowSafeDemand p1 Stat.OK []) ∧ u.cause CAUSE.COMMAND = true ∧
        Touches demandParts demandRegs s1 u ∧ (∀ c, s1.cause c = true → u.cause c = true) ∧
        (numAt p.params 0 1 = 3 ∨ s1.isMeadow = false → 3 ≤ u.level ∧ u.on F.SAFE_STAT_SGR = true ∧
          (ST.WAIT_CREDIT ≤ s1.st → s1.st ≤ ST.HOLD → u.st = ST.BLOCKED))) ∧
    (∀ mask k, Admitted rowSafeDemand p s s1 p1 → s1.isMeadow = true → p.params = 1 :: leBytes 2 mask → mask < 65536 → s1.level = 0 →
      s1.safe.commandLvl = 0 → s1.on F.SAFE_STAT_SS = false → s1.safe.ssEnded = false → k ∈ s1.strings → bit mask k = true → s1.ssEn k = true →
      bit s1.safe.ssSgr k = false → s1.ssActive k = false →
      ∃ u : State, exec (.safeDemand p) s = .next (u.answers rowSafeDemand p1 Stat.OK []) ∧ u.cause CAUSE.COMMAND = true ∧ u.level = 1 ∧
        u.on F.SAFE_STAT_SS = true ∧ u.f (F.SAFE_SS_STATE k) = 1 ∧ Map.get 0 u.safe.ssAt k = s1.now ∧ u.st = s1.st ∧ Touches demandParts demandRegs s1 u) ∧
    (Admitted rowSafeReset p s s1 p1 → p.params.length ≠ 2 → exec (.safeReset p) s = .next (s1.answers rowSafeReset p1 Stat.BAD_PARAM [])) ∧
    (∀ id, Admitted rowSafeReset p s s1 p1 → p.params = leBytes 2 id → id < 65536 →
      (s1.resetAllowed = false → exec (.safeReset p) s = .next (s1.answers rowSafeReset p1 Stat.DENIED [])) ∧
      (s1.resetAllowed = true →
        (s1.f F.SAFE_ACK_ACK_MODE = 1 ∨ (s1.f F.SAFE_ACK_ACK_MODE = 2 ∧ s1.route (s1.f F.SAFE_ACK_ACK_NODE) = .here) →
          (s1.on F.SAFE_PANEL_WIN = true → s1.f F.SAFE_ACK_WIN_ID = id → ∀ late : Bool, late = s1.safe.setAt.any (fun x =>
              s1.cause x.1 && decide (x.1 < 10) && x.1 != 4 && x.1 != 5 && x.1 != 6 && x.2 / 2000 == s1.clk.nowPs / 2000) →
            ∃ u : State, exec (.safeReset p) s = .next (u.answers rowSafeReset p1 (if late then Stat.DENIED else Stat.OK) []) ∧
              u.on F.SAFE_PANEL_WIN = false ∧
              (∀ n < 4, u.locked n = false ∧ u.on (F.SAFE_OUT_DEG n) = false ∧ u.chFaulty (2 * n) = false ∧ u.chFaulty (2 * n + 1) = false) ∧
              (∀ c ∈ [0, 1, 2, 3, 7, 8, 9], u.cause c = (s1.cause c && s1.safe.setAt.any (fun x =>
                x.1 == c && x.2 / 2000 == s1.clk.nowPs / 2000))) ∧ (∀ c ∈ [4, 5, 6], u.cause c = s1.cause c) ∧
              Touches demandParts (A.SAFE_PANEL :: outRegs) s1 u) ∧
          (s1.on F.SAFE_PANEL_WIN = false ∨ s1.f F.SAFE_ACK_WIN_ID ≠ id →
            exec (.safeReset p) s = .next (s1.answers rowSafeReset p1 Stat.DENIED []))) ∧
        (s1.f F.SAFE_ACK_ACK_MODE ≠ 1 → s1.f F.SAFE_ACK_ACK_MODE ≠ 2 →
          exec (.safeReset p) s = .next (s1.answers rowSafeReset p1 Stat.DENIED [])) ∧
        (s1.f F.SAFE_ACK_ACK_MODE = 2 → s1.route (s1.f F.SAFE_ACK_ACK_NODE) ≠ .here →
          (s1.safe.remote.isSome = true → exec (.safeReset p) s = .next (s1.answers rowSafeReset p1 Stat.DENIED [])) ∧
          (s1.safe.remote = none →
            ∃ u : State, exec (.safeReset p) s = .next (u.holds rowSafeReset p1) ∧ u.safe.remote = some (p1, s1.now, s1.safe.readSeq) ∧
              u.safe.readSeq = (s1.safe.readSeq + 1) % 65536 ∧ Touches [.safe, .lanes, .hub] sendRegs s1 u)))) ∧
    (∀ c, Admitted rowSafeBypass p s s1 p1 → p.params.length ≠ 1 ∨ (p.params = [BitVec.ofNat 8 c] ∧ c < 256 ∧ c ∉ s1.cells) →
      exec (.safeBypass p) s = .next (s1.answers rowSafeBypass p1 Stat.BAD_PARAM [])) ∧
    (∀ c, Admitted rowSafeBypass p s s1 p1 → p.params = [BitVec.ofNat 8 c] → c < 256 → c ∈ s1.cells → ∀ out : Option Nat,
      out = outNumbers.find? (fun n => s1.outFunc n == 2 && s1.f (F.SAFE_OUT_CELL n) == c && !s1.locked n && (s1.firing n).isNone) →
      (∀ n, out = some n → s1.cellForced c = true →
        ∃ u : State, exec (.safeBypass p) s = .next (u.answers rowSafeBypass p1 Stat.ACCEPTED []) ∧
          u.firing n = some { since := s1.now, cmd := some p1 } ∧ Touches [.safe] [] s1 u) ∧
      (out = none ∨ s1.cellForced c = false → exec (.safeBypass p) s = .next (s1.answers rowSafeBypass p1 Stat.DENIED [])))

/-- 14 R372, R374, R378, R383, R386, R387, R389, R390: the wait for the senior member, a lost Harebell with what the children's frames say of
the partner, a swap that takes too long or falls due, the ejector's latch both ways, a missing standby and a lagging mirror; each also where it
finds nothing to do. With their frames.
14 R384, R386, R391: DUPLEX_SWAP starts a swap where R386 allows one; TWIN_RESYNC sends a member that is not ACTIVE back to STANDBY_SYNC. -/
def Obligations.TwinPairs : Prop :=
  (∀ (s : State), s.running = true →
    (s.twin.waitAt = none → exec .startWait s = .next s.wrapUp) ∧
    (∀ t0, s.twin.waitAt = some t0 →
      ∃ t : State, exec .startWait s = .next t.wrapUp ∧ t.twin.claim = some 1 ∧ t.twin.waitAt = none ∧
        t0 + s.f F.TWIN_CFG_START_WAIT * 100000000 ≤ t.now ∧ Touches [.clk, .twin] [] s t) ∧
    (s.isTwin = false ∨ s.f F.TWIN_STAT_HB_MISS ≠ 2 ∨ s.twin.hbFresh = true → exec .twinHbLoss s = .next s.wrapUp) ∧
    (s.isTwin = true → s.f F.TWIN_STAT_HB_MISS = 2 → s.twin.hbFresh = false → ∀ k : Nat,
      k = (s.reporting.filter (fun u => !(if s.memberB then u.witA else u.witB))).length →
      ∃ t : State, exec .twinHbLoss s = .next t.wrapUp ∧ t.f F.TWIN_STAT_HB_MISS = 3 ∧ FS.TWIN_HB_LOSS ∈ t.hub.raised ∧
        (s.reporting.length < 32 → t.f F.TWIN_WIT_REPORTING = s.reporting.length ∧ t.f F.TWIN_WIT_NOSEE_P = k ∧
          t.f F.TWIN_WIT_FOLLOW_P = (s.reporting.filter (fun u => u.follow != s.memberB)).length) ∧
        t.twin.noSee = (decide (1 ≤ s.reporting.length) && decide (s.reporting.length < 2 * k)) ∧
        (s.twinRole = ROLE.ACTIVE → s.twin.noStandbySaid = false → FS.TWIN_NO_STANDBY ∈ t.hub.raised) ∧
        (s.twinRole = ROLE.READY → s.twin.noSee = true → 1 ≤ s.reporting.length → s.reporting.length < 2 * k →
          t.twin.claim = some (t.twin.epochSeen + 1)) ∧
        (s.twinRole ≠ ROLE.READY → s.twinRole ≠ ROLE.ACTIVE → s.twin.noSee = true → 1 ≤ s.reporting.length → s.reporting.length < 2 * k →
          s.twin.noActiveSaid = false → FS.TWIN_NO_ACTIVE ∈ t.hub.raised ∧ t.twin.claim = s.twin.claim) ∧
        (s.reporting = [] → t.twin.claim = s.twin.claim) ∧
        Touches [.twin, .hub] [A.TWIN_STAT, A.TWIN_WIT] s t) ∧
    ((∀ w : Swap, s.twin.swap = some w → s.tickNo < w.tick + 4 ∨ s.twinRole ≠ ROLE.ACTIVE) → exec .swapTimeout s = .next s.wrapUp) ∧
    (∀ w : Swap, s.twin.swap = some w → w.tick + 4 ≤ s.tickNo → s.twinRole = ROLE.ACTIVE →
      ∃ u : State, exec .swapTimeout s = .next (match w.cmd with
          | some p => u.finalReply 0x0A01 p Stat.TIMEOUT []
          | none => u).wrapUp ∧ u.twin.swap = none ∧ u.twin.handoverOut = false ∧
        u.f F.TWIN_CNT_SWAP_FAIL = min (s.f F.TWIN_CNT_SWAP_FAIL + 1) 255 ∧ u.hub.raised = s.hub.raised ++ [FS.TWIN_SWAP_FAIL] ∧
        u.twinRole = ROLE.ACTIVE ∧ u.f F.TWIN_STAT_EJECT = (if w.eject then 3 else 0) ∧
        u.twin.retryAt = (if w.planned then some (s.now + 3600000000000) else s.twin.retryAt) ∧
        Touches [.twin, .hub] [A.TWIN_STAT, A.TWIN_CNT] s u) ∧
    (s.f F.TWIN_CFG_SWAP_DAYS = 0 ∨ s.twinRole ≠ ROLE.ACTIVE ∨ s.twin.swap.isSome = true → exec .swapDays s = .next s.wrapUp) ∧
    (s.f F.TWIN_CFG_SWAP_DAYS ≠ 0 → s.twinRole = ROLE.ACTIVE → s.twin.swap = none →
      ∃ t : State, exec .swapDays s = .next t.wrapUp ∧ Touches [.clk, .twin, .hub] [A.TWIN_STAT, A.TWIN_CNT] s t ∧
        (s.twin.retryAt = none → s.twin.changedAt + s.f F.TWIN_CFG_SWAP_DAYS * 86400000000000 ≤ t.now) ∧
        (∀ t0, s.twin.retryAt = some t0 → t0 ≤ t.now) ∧
        (s.swapAllowed = true → t.twin.swap = some { cmd := none, tick := t.tickNo, eject := false, planned := true } ∧
          t.twin.handoverOut = true ∧ t.twin.retryAt = none ∧ t.f F.TWIN_STAT_EJECT = 1 ∧ t.hub = s.hub) ∧
        (s.swapAllowed = false → t.twin.swap = none ∧ t.hub.raised = s.hub.raised ++ [FS.TWIN_SWAP_FAIL] ∧
          t.twin.retryAt = some (t.now + 3600000000000) ∧ t.f F.TWIN_CNT_SWAP_FAIL = min (s.f F.TWIN_CNT_SWAP_FAIL + 1) 255)) ∧
    (s.swapAllowed = true →
      ∃ t : State, exec (.ejectN true) s = .next t.wrapUp ∧ t.on F.SYS_PANEL_EJECT = true ∧
        t.twin.swap = some { cmd := none, tick := s.tickNo, eject := true } ∧ t.twin.handoverOut = true ∧ t.f F.TWIN_STAT_EJECT = 1 ∧
        Touches [.twin] [A.SYS_PANEL, A.TWIN_STAT] s t) ∧
    (s.isTwin = true → s.twinRole = ROLE.READY ∨ s.twinRole = ROLE.SYNC →
      ∃ t : State, exec (.ejectN true) s = .next t.wrapUp ∧ t.twinRole = ROLE.NONE ∧ t.f F.TWIN_STAT_EJECT = 2 ∧ t.twin.ejected = true ∧
        t.on F.SYS_PANEL_EJECT = true ∧ Touches [.twin] [A.SYS_PANEL, A.TWIN_STAT, A.TWIN_LAST_LO, A.TWIN_LAST_HI] s t) ∧
    (s.swapAllowed = false → s.isTwin = false ∨ (s.twinRole ≠ ROLE.READY ∧ s.twinRole ≠ ROLE.SYNC) →
      ∃ t : State, exec (.ejectN true) s = .next t.wrapUp ∧ t.f F.TWIN_STAT_EJECT = 3 ∧ t.hub.raised = s.hub.raised ++ [FS.TWIN_SWAP_FAIL] ∧
        t.f F.TWIN_CNT_SWAP_FAIL = min (s.f F.TWIN_CNT_SWAP_FAIL + 1) 255 ∧ t.on F.SYS_PANEL_EJECT = true ∧
        t.node.ejectRefused = s.now + 5000000000 ∧ Touches [.node, .hub] [A.SYS_PANEL, A.TWIN_STAT, A.TWIN_CNT] s t) ∧
    (∃ t : State, exec (.ejectN false) s = .next t.wrapUp ∧ t.on F.SYS_PANEL_EJECT = false ∧ t.twin.ejected = false ∧
      t.f F.TWIN_STAT_EJECT = (if s.f F.TWIN_STAT_EJECT = 2 ∨ s.f F.TWIN_STAT_EJECT = 3 then 0 else s.f F.TWIN_STAT_EJECT) ∧
      t.twin.swap = s.twin.swap.map Swap.noEject ∧
      (s.twin.ejected = true → t.twinRole = ROLE.SYNC ∧ t.reg A.TWIN_IMG = 0 ∧
        Touches [.twin] [A.SYS_PANEL, A.TWIN_STAT, A.TWIN_LAST_LO, A.TWIN_LAST_HI, A.TWIN_IMG] s t) ∧
      (s.twin.ejected = false → t.twinRole = s.twinRole ∧ Touches [.twin] [A.SYS_PANEL, A.TWIN_STAT] s t)) ∧
    (s.twinRole = ROLE.ACTIVE → s.twin.partner.role ≠ ROLE.READY → s.twin.noStandbySaid = false →
      ∃ t : State, exec .twinNoStandby s = .next t.wrapUp ∧ t.hub.raised = s.hub.raised ++ [FS.TWIN_NO_STANDBY] ∧
        t.twin.noStandbySaid = true ∧ s.twin.notReadyAt + 1000000000 ≤ t.now ∧ Touches [.clk, .twin, .hub] [] s t) ∧
    (s.twinRole ≠ ROLE.ACTIVE ∨ s.twin.partner.role = ROLE.READY ∨ s.twin.noStandbySaid = true → exec .twinNoStandby s = .next s.wrapUp) ∧
    (s.twinRole = ROLE.READY ∨ s.twinRole = ROLE.SYNC → 16 ≤ s.f F.TWIN_AGE_IMG_AGE → s.twin.lagSaid = false →
      ∃ t : State, exec .twinMirrorLag s = .next t.wrapUp ∧ t.hub.raised = s.hub.raised ++ [FS.TWIN_MIRROR_LAG] ∧ t.twin.lagSaid = true ∧
        Touches [.twin, .hub] [] s t) ∧
    ((s.twinRole ≠ ROLE.READY ∧ s.twinRole ≠ ROLE.SYNC) ∨ s.f F.TWIN_AGE_IMG_AGE < 16 ∨ s.twin.lagSaid = true →
      exec .twinMirrorLag s = .next s.wrapUp)) ∧
  (∀ (p p1 : Packet) (s s1 : State),
    (Admitted rowDuplexSwap p s s1 p1 → p.params ≠ [] → exec (.duplexSwap p) s = .next (s1.answers rowDuplexSwap p1 Stat.BAD_PARAM [])) ∧
    (Admitted rowDuplexSwap p s s1 p1 → p.params = [] →
      (s1.swapAllowed = true →
        ∃ u : State, exec (.duplexSwap p) s = .next (u.answers rowDuplexSwap p1 Stat.ACCEPTED []) ∧
          u.twin.swap = some { cmd := some p1, tick := s1.tickNo, eject := false } ∧ u.twin.handoverOut = true ∧ u.twinRole = s1.twinRole ∧
          u.f F.TWIN_STAT_EJECT = 1 ∧ Touches [.twin] [A.TWIN_STAT] s1 u) ∧
      (s1.swapAllowed = false → exec (.duplexSwap p) s = .next (s1.answers rowDuplexSwap p1 Stat.DENIED []))) ∧
    (Admitted rowTwinResync p s s1 p1 → p.params ≠ [] → exec (.twinResync p) s = .next (s1.answers rowTwinResync p1 Stat.BAD_PARAM [])) ∧
    (Admitted rowTwinResync p s s1 p1 → p.params = [] →
      (s1.twinRole ≠ ROLE.ACTIVE →
        ∃ u : State, exec (.twinResync p) s = .next (u.answers rowTwinResync p1 Stat.ACCEPTED []) ∧ u.twinRole = ROLE.SYNC ∧
          u.twin.resync = s1.twin.resync ++ [p1] ∧ u.reg A.TWIN_IMG = 0 ∧ u.twin.ejected = false ∧ u.twin.claim = none ∧ u.twin.waitAt = none ∧
          Touches [.twin] [A.TWIN_STAT, A.TWIN_LAST_LO, A.TWIN_LAST_HI, A.TWIN_IMG] s1 u) ∧
      (s1.twinRole = ROLE.ACTIVE → exec (.twinResync p) s = .next (s1.answers rowTwinResync p1 Stat.DENIED []))))

/-- 15 R398, R399, R400, R403: the end of a capacitance window, the mean of 256 ESR samples, the mean of 4,096 on-state readings and a measured
slack (1 ms after the last) enter their registers and raise their sources; short of their number, or with the function off, nothing happens. Where the spec names no rounding the value is one of the two neighbours (DESIGN CHOICE,
assumption 39). With their frames. -/
def Obligations.AgingEstimates : Prop :=
  ∀ (s : State), s.running = true →
    (∀ c : Fin 2, c.val ∉ s.cells ∨ (s.cellLife c).n < 2 ^ s.f (F.LIFE_C_EST_EST_N c) → exec (.capWindowEnd c) s = .next s.wrapUp) ∧
    (∀ c : Fin 2, c.val ∈ s.cells → 2 ^ s.f (F.LIFE_C_EST_EST_N c) ≤ (s.cellLife c).n →
      ((s.cellLife c).sqv ≤ 0 ∨ s.f (F.LIFE_C_CNOM_CNOM c) = 0 →
        ∃ t : State, exec (.capWindowEnd c) s = .next t.wrapUp ∧ (t.cellLife c).n = 0 ∧ (t.cellLife c).sqv = 0 ∧
          (t.cellLife c).sqq = 0 ∧ t.life.dirty = true ∧ Touches [.life] [] s t) ∧
      (0 < (s.cellLife c).sqv → s.f (F.LIFE_C_CNOM_CNOM c) ≠ 0 →
        ∃ t : State, exec (.capWindowEnd c) s = .next t.wrapUp ∧ (t.cellLife c).n = 0 ∧ (t.cellLife c).sqv = 0 ∧ (t.cellLife c).sqq = 0 ∧
          (t.f (F.LIFE_C_CEST_CEST c) : Int) = clampInt 1 65535
            (nearest ((s.cellLife c).sqq * 65536 * 100 * 16384 : Nat) ((s.cellLife c).sqv.natAbs * s.f (F.LIFE_C_CNOM_CNOM c))) ∧
          t.f (F.LIFE_C_CEST_WINDOWS c) = (s.f (F.LIFE_C_CEST_WINDOWS c) + 1) % 65536 ∧
          (FS.LIFE_CAP ∈ t.hub.raised ↔ FS.LIFE_CAP ∈ s.hub.raised ∨ (t.f (F.LIFE_C_CEST_CEST c) < s.f (F.LIFE_C_CLIM_CWARN c) ∧
            (s.f (F.LIFE_C_CEST_CEST c) = 0 ∨ s.f (F.LIFE_C_CLIM_CWARN c) ≤ s.f (F.LIFE_C_CEST_CEST c)))) ∧
          t.life.dirty = true ∧ Touches [.life, .hub] [A.LIFE_C_CEST c] s t)) ∧
    (∀ c : Fin 2, (s.cellLife c).esrN < 256 → exec (.esrMean c) s = .next s.wrapUp) ∧
    (∀ (c : Fin 2) (num den : Int), 256 ≤ (s.cellLife c).esrN → num = (s.cellLife c).esrNum → den = 256 * (s.cellLife c).esrDen →
      ∃ t : State, exec (.esrMean c) s = .next t.wrapUp ∧ (t.cellLife c).esrN = 0 ∧ (t.cellLife c).esrNum = 0 ∧
        (t.cellLife c).esrDen = 1 ∧ t.life.dirty = true ∧
        (0 ≤ num → num < 65535 * den → (t.f (F.LIFE_C_ESR_ESR c) * den - num).natAbs < den.natAbs) ∧
        (FS.LIFE_ESR ∈ t.hub.raised ↔ FS.LIFE_ESR ∈ s.hub.raised ∨
          (s.f (F.LIFE_C_ELIM_ESR_WARN c) ≠ 0 ∧ s.f (F.LIFE_C_ELIM_ESR_WARN c) < t.f (F.LIFE_C_ESR_ESR c))) ∧
        Touches [.life, .hub, .free] [A.LIFE_C_ESR c] s t) ∧
    (∀ n : Fin 4, (s.switchLife n).n < 4096 → exec (.semiMean n) s = .next s.wrapUp) ∧
    (∀ n : Fin 4, 4096 ≤ (s.switchLife n).n →
      ∃ t : State, exec (.semiMean n) s = .next t.wrapUp ∧ (t.switchLife n).n = 0 ∧ (t.switchLife n).sum = 0 ∧ t.life.dirty = true ∧
        ((s.switchLife n).sum < 65535 * 4096 → ((t.f (F.LIFE_W_MEAN_MEAN n) * 4096 : Int) - (s.switchLife n).sum).natAbs < 4096) ∧
        t.f (F.LIFE_W_MEAN_BASE n) = (if s.f (F.LIFE_W_MEAN_BASE n) = 0 then t.f (F.LIFE_W_MEAN_MEAN n) else s.f (F.LIFE_W_MEAN_BASE n)) ∧
        (∀ d : Int, t.f (F.LIFE_W_MEAN_BASE n) ≠ 0 → (s.switchLife n).sum < 65535 * 4096 →
          d = Int.tdiv (((t.f (F.LIFE_W_MEAN_MEAN n) : Int) - t.f (F.LIFE_W_MEAN_BASE n)) * 1000) (t.f (F.LIFE_W_MEAN_BASE n)) →
          -32768 ≤ d → d ≤ 32767 → t.fi (F.LIFE_W_DRIFT_DRIFT n) = d) ∧
        t.on (F.LIFE_W_STAT_WARN n) = (decide ((s.f (F.LIFE_W_CFG_VCE_WARN n) : Int) ≤ t.fi (F.LIFE_W_DRIFT_DRIFT n)) ||
          decide (0xCCCCCD ≤ s.f (F.LIFE_W_DAMAGE_DAMAGE n))) ∧
        t.on (F.LIFE_W_STAT_DUE n) = (decide ((s.f (F.LIFE_W_CFG_VCE_RETIRE n) : Int) ≤ t.fi (F.LIFE_W_DRIFT_DRIFT n)) ||
          decide (0x1000000 ≤ s.f (F.LIFE_W_DAMAGE_DAMAGE n))) ∧
        Touches [.life, .hub, .free] [A.LIFE_W_MEAN n, A.LIFE_W_DRIFT n, A.LIFE_W_STAT n] s t) ∧
    (∀ v : Int, s.siliconRuns = false → exec (.slackMeasure v) s = .next s.wrapUp) ∧
    (∀ v : Int, s.siliconRuns = true →
      ∃ t : State, exec (.slackMeasure v) s = .next t.wrapUp ∧ t.fi F.LIFE_AVS_STAT_SLACK = clampInt (-8192) 8191 v ∧
        t.life.slacks = (clampInt (-8192) 8191 v :: s.life.slacks).take 100 ∧
        (clampInt (-8192) 8191 v < s.f F.LIFE_AVS_CFG_SLACK_CRIT → t.hub.raised = s.hub.raised ++ [FS.LIFE_SLACK]) ∧
        ((s.f F.LIFE_AVS_CFG_SLACK_CRIT : Int) ≤ clampInt (-8192) 8191 v → t.hub = s.hub) ∧
        s.life.slackAt + 1000000 ≤ t.now ∧ t.life.slackAt = t.now ∧ Touches [.clk, .life, .hub] [A.LIFE_AVS_STAT] s t)

/-- 15 R404 to R407: tracking steps TARGET by 5 mV towards the slack band, each adjustment AVS_INT ms after the last; it starts and ends with
AVS_EN; every transaction with the regulator, its answer, its readback and its retry, one that fails twice ending tracking; the hour's lane
margins; a report, at most one per 10 s for changes; each also where it finds nothing to do. With their frames. -/
def Obligations.SupplyLanesAndReports : Prop :=
  ∀ (s : State), s.running = true →
    (s.siliconRuns = false ∨ s.on F.LIFE_CTRL_AVS_EN = false ∨ (s.f F.LIFE_AVS_STAT_STATE ≠ 1 ∧ s.f F.LIFE_AVS_STAT_STATE ≠ 2) ∨
      s.f F.LIFE_AVS_STAT_TARGET = 0 → exec .avsAdjust s = .next s.wrapUp) ∧
    (∀ tg st, s.siliconRuns = true → s.on F.LIFE_CTRL_AVS_EN = true → st = s.f F.LIFE_AVS_STAT_STATE → st = 1 ∨ st = 2 →
      tg = s.f F.LIFE_AVS_STAT_TARGET → tg ≠ 0 →
      ∃ t : State, exec .avsAdjust s = .next t.wrapUp ∧ Touches [.clk, .life, .hub] [A.LIFE_AVS_STAT] s t ∧
        s.life.avsAt + s.f F.LIFE_AVS_CFG_AVS_INT * 1000000 ≤ t.now ∧ t.life.avsAt = t.now ∧
        (s.fi F.LIFE_AVS_STAT_SLACK < s.f F.LIFE_AVS_CFG_SLACK_LOW → tg < 900 →
          t.f F.LIFE_AVS_STAT_TARGET = tg + 5 ∧ t.life.pmb = s.life.pmb ++ [.write (tg + 5)] ∧ t.f F.LIFE_AVS_STAT_STATE = 1) ∧
        (s.fi F.LIFE_AVS_STAT_SLACK < s.f F.LIFE_AVS_CFG_SLACK_LOW → tg = 900 →
          s.life.slacks.length < 100 ∨ (∃ v ∈ s.life.slacks, v ≤ (s.f F.LIFE_AVS_CFG_SLACK_HIGH : Int)) →
          t.f F.LIFE_AVS_STAT_TARGET = tg ∧ t.life.pmb = s.life.pmb ∧ t.f F.LIFE_AVS_STAT_STATE = 2 ∧
          t.hub.raised = s.hub.raised ++ (if st = 2 then [] else [FS.LIFE_AVS_LIMIT])) ∧
        ((s.f F.LIFE_AVS_CFG_SLACK_LOW : Int) ≤ s.fi F.LIFE_AVS_STAT_SLACK → 100 ≤ s.life.slacks.length →
          (∀ v ∈ s.life.slacks, (s.f F.LIFE_AVS_CFG_SLACK_HIGH : Int) < v) → 760 < tg →
          t.f F.LIFE_AVS_STAT_TARGET = tg - 5 ∧ t.life.pmb = s.life.pmb ++ [.write (tg - 5)] ∧ t.f F.LIFE_AVS_STAT_STATE = 1) ∧
        ((s.f F.LIFE_AVS_CFG_SLACK_LOW : Int) ≤ s.fi F.LIFE_AVS_STAT_SLACK →
          s.life.slacks.length < 100 ∨ (∃ v ∈ s.life.slacks, v ≤ (s.f F.LIFE_AVS_CFG_SLACK_HIGH : Int)) ∨ tg ≤ 760 →
          t.f F.LIFE_AVS_STAT_TARGET = tg ∧ t.life.pmb = s.life.pmb ∧ t.f F.LIFE_AVS_STAT_STATE = 1 ∧ t.hub = s.hub)) ∧
    (s.on F.LIFE_CTRL_AVS_EN = true → s.f F.LIFE_AVS_STAT_STATE ≠ 3 →
      ∃ t : State, exec (.avsEn true) s = .next t.wrapUp ∧ Touches [] [] s t) ∧
    (s.on F.LIFE_CTRL_AVS_EN = false ∨ s.f F.LIFE_AVS_STAT_STATE = 3 →
      ∃ t : State, exec (.avsEn true) s = .next t.wrapUp ∧ t.on F.LIFE_CTRL_AVS_EN = true ∧ t.f F.LIFE_AVS_STAT_STATE = 1 ∧
        t.life.retrying = false ∧ t.life.retryAt = none ∧ t.life.readAt = none ∧ t.life.avsAt = s.now ∧
        t.life.pmb = (if s.life.retrying then [] else s.life.pmb.take 1) ++ [.voutMode, .readStart] ∧
        Touches [.life] [A.LIFE_CTRL, A.LIFE_AVS_STAT] s t) ∧
    (∃ t : State, exec (.avsEn false) s = .next t.wrapUp ∧ t.on F.LIFE_CTRL_AVS_EN = false ∧ t.f F.LIFE_AVS_STAT_STATE = 0 ∧
        t.life.pmb = s.life.pmb.take 1 ∧ t.life.retryAt = none ∧ t.life.readAt = none ∧ Touches [.life] [A.LIFE_CTRL, A.LIFE_AVS_STAT] s t) ∧
    (∀ answer : Option (BitVec 16), s.life.retryAt.isSome = true ∨ s.life.pmb = [] → exec (.pmbusTransaction answer) s = .next s.wrapUp) ∧
    (∀ (op : PmbOp) (rest : List PmbOp) (answer : Option (BitVec 16)), s.life.retryAt = none → s.life.pmb = op :: rest → ∀ x : Nat × Nat,
      x = linearMv (answer.getD 0).toNat s.life.expo →
      (answer = none ∨ (op = .voutMode ∧ bits (answer.getD 0).toNat 7 5 ≠ 0) ∨ (op = .readBack ∧
          ((s.f F.LIFE_AVS_STAT_TARGET + 10) * x.2 < x.1 ∨ x.1 + 10 * x.2 < s.f F.LIFE_AVS_STAT_TARGET * x.2)) →
        (s.life.retrying = false →
          ∃ t : State, exec (.pmbusTransaction answer) s = .next t.wrapUp ∧ t.life.retrying = true ∧
            t.life.retryAt = some (s.now + 10000000) ∧ t.life.pmb = s.life.pmb ∧ Touches [.life] [] s t) ∧
        (s.life.retrying = true →
          ∃ t : State, exec (.pmbusTransaction answer) s = .next t.wrapUp ∧ t.f F.LIFE_AVS_STAT_STATE = 3 ∧ t.life.pmb = [] ∧
            t.life.retrying = false ∧ t.life.readAt = none ∧ t.hub.raised = s.hub.raised ++ [FS.LIFE_PMBUS] ∧
            Touches [.life, .hub] [A.LIFE_AVS_STAT] s t)) ∧
      (∀ mv : Nat, op = .write mv → answer ≠ none →
        ∃ t : State, exec (.pmbusTransaction answer) s = .next t.wrapUp ∧ t.life.pmb = rest ∧ t.life.retrying = false ∧
          t.life.readAt = some (s.now + 2000000) ∧
          (s.life.expo ≤ 0 → (t.life.vout : Int) = nearest ((mv * 2 ^ (-s.life.expo).toNat : Nat)) 1000) ∧
          (0 < s.life.expo → (t.life.vout : Int) = nearest mv (1000 * 2 ^ s.life.expo.toNat)) ∧ Touches [.life] [] s t) ∧
      (op = .readStart → answer ≠ none →
        ∃ t : State, exec (.pmbusTransaction answer) s = .next t.wrapUp ∧ t.life.pmb = rest ∧ t.life.retrying = false ∧
          t.f F.LIFE_AVS_STAT_TARGET = max 760 (min 900 (5 * (nearest x.1 (5 * x.2)).toNat)) ∧ Touches [.life] [A.LIFE_AVS_STAT] s t) ∧
      (op = .readBack → answer ≠ none → x.1 ≤ (s.f F.LIFE_AVS_STAT_TARGET + 10) * x.2 → s.f F.LIFE_AVS_STAT_TARGET * x.2 ≤ x.1 + 10 * x.2 →
        ∃ t : State, exec (.pmbusTransaction answer) s = .next t.wrapUp ∧ t.life.pmb = rest ∧ t.life.retrying = false ∧ Touches [.life] [] s t) ∧
      (op = .voutMode → answer ≠ none → bits (answer.getD 0).toNat 7 5 = 0 →
        ∃ t : State, exec (.pmbusTransaction answer) s = .next t.wrapUp ∧ t.life.pmb = rest ∧ t.life.retrying = false ∧
          t.life.expo = signed 5 ((answer.getD 0).toNat % 32) ∧ Touches [.life] [] s t)) ∧
    (∀ answer : Option (BitVec 16), s.life.readAt = none ∨ s.life.retryAt.isSome = true → exec (.voutReadback answer) s = .next s.wrapUp) ∧
    (∀ (t0 : Nat) (answer : Option (BitVec 16)) (x : Nat × Nat) (near : Bool), s.life.readAt = some t0 → s.life.retryAt = none →
      x = linearMv (answer.getD 0).toNat s.life.expo →
      near = (answer.isSome && decide (x.1 ≤ (s.f F.LIFE_AVS_STAT_TARGET + 10) * x.2) &&
        decide (s.f F.LIFE_AVS_STAT_TARGET * x.2 ≤ x.1 + 10 * x.2)) →
      (near = true →
        ∃ t : State, exec (.voutReadback answer) s = .next t.wrapUp ∧ t.life.readAt = none ∧ t.life.pmb = s.life.pmb ∧
          t.life.retrying = false ∧ t0 ≤ t.now ∧ Touches [.clk, .life] [] s t) ∧
      (near = false → s.life.retrying = false →
        ∃ t : State, exec (.voutReadback answer) s = .next t.wrapUp ∧ t.life.retrying = true ∧ t.life.retryAt = some (t.now + 10000000) ∧
          t.life.pmb = .readBack :: s.life.pmb ∧ t.life.readAt = none ∧ t0 ≤ t.now ∧ Touches [.clk, .life] [] s t) ∧
      (near = false → s.life.retrying = true →
        ∃ t : State, exec (.voutReadback answer) s = .next t.wrapUp ∧ t.f F.LIFE_AVS_STAT_STATE = 3 ∧ t.life.pmb = [] ∧
          t.hub.raised = s.hub.raised ++ [FS.LIFE_PMBUS] ∧ t0 ≤ t.now ∧ Touches [.clk, .life, .hub] [A.LIFE_AVS_STAT] s t)) ∧
    (∀ answer : Option (BitVec 16), s.life.retryAt = none → exec (.pmbusRetry answer) s = .next s.wrapUp) ∧
    (∀ (t0 : Nat) (answer : Option (BitVec 16)) (op : PmbOp) (rest : List PmbOp), s.life.retryAt = some t0 →
      s.life.pmb = op :: rest → ∀ x : Nat × Nat, x = linearMv (answer.getD 0).toNat s.life.expo → ∀ good : Bool,
      good = (answer.isSome && (op != .voutMode || bits (answer.getD 0).toNat 7 5 == 0) && (op != .readBack ||
        (decide (x.1 ≤ (s.f F.LIFE_AVS_STAT_TARGET + 10) * x.2) && decide (s.f F.LIFE_AVS_STAT_TARGET * x.2 ≤ x.1 + 10 * x.2)))) →
      (good = true →
        ∃ t : State, exec (.pmbusRetry answer) s = .next t.wrapUp ∧ t0 ≤ t.now ∧ t.life.pmb = rest ∧ t.life.retrying = false ∧
          t.life.retryAt = none ∧ (∀ mv, op = .write mv → t.life.readAt = some (t.now + 2000000)) ∧
          (op = .readStart → t.f F.LIFE_AVS_STAT_TARGET = max 760 (min 900 (5 * (nearest x.1 (5 * x.2)).toNat))) ∧
          (op = .voutMode → t.life.expo = signed 5 ((answer.getD 0).toNat % 32)) ∧ Touches [.clk, .life] [A.LIFE_AVS_STAT] s t) ∧
      (good = false → s.life.retrying = true →
        ∃ t : State, exec (.pmbusRetry answer) s = .next t.wrapUp ∧ t0 ≤ t.now ∧ t.f F.LIFE_AVS_STAT_STATE = 3 ∧ t.life.pmb = [] ∧
          t.life.retrying = false ∧ t.life.retryAt = none ∧ t.hub.raised = s.hub.raised ++ [FS.LIFE_PMBUS] ∧
          Touches [.clk, .life, .hub] [A.LIFE_AVS_STAT] s t)) ∧
    (s.siliconRuns = false → exec .laneMargin s = .next s.wrapUp ∧ exec .lifeReport s = .next s.wrapUp) ∧
    (s.siliconRuns = true →
      ∃ t : State, exec .laneMargin s = .next t.wrapUp ∧ Touches [.clk, .life, .lanes, .hub, .free] (laneNumbers.map A.LIFE_LANE) s t ∧
        t.life.hour = (if s.life.hour < s.time / 3600000000000 then s.time / 3600000000000 else s.time / 3600000000000 + 1) ∧
        (s.clk.timePs < 2 ^ 63 * 1000 → t.life.hour * 3600000000000 ≤ t.time) ∧
        ∀ n < 32, (t.lane n).powSum = 0 ∧ (t.lane n).powN = 0 ∧
          ((s.laneUp n && s.on (F.LANE_MOD_ID_OK n) && !s.on (F.LANE_MOD_EXT_CAL n) && (s.lane n).powN != 0) = true →
            t.on (F.LIFE_LANE_TREND n) = decide (t.f (F.LIFE_LANE_DAYS n) < s.f F.LIFE_LANE_CFG_TREND_DAYS) ∧
            (t.lane n).marginHist = ((s.lane n).marginHist ++ [t.fi (F.LIFE_LANE_MARGIN n)]).drop ((s.lane n).marginHist.length + 1 - 32) ∧
            t.f (F.LIFE_LANE_DAYS n) = marginDays (t.lane n).marginHist (t.fi (F.LIFE_LANE_MARGIN n)) ∧
            ((s.lane n).powSum = (s.lane n).powN * (s.lane n).lowWarn → (s.lane n).lowWarn ≠ 0 → t.fi (F.LIFE_LANE_MARGIN n) = 0)) ∧
          ((s.laneUp n && s.on (F.LANE_MOD_ID_OK n) && !s.on (F.LANE_MOD_EXT_CAL n) && (s.lane n).powN != 0) = false →
            t.reg (A.LIFE_LANE n) = s.reg (A.LIFE_LANE n) ∧ (t.lane n).marginHist = (s.lane n).marginHist)) ∧
    (s.siliconRuns = true →
      (∀ t0, s.life.changed = true → s.life.reportAt = some t0 →
        ∃ t : State, exec .lifeReport s = .next t.wrapUp ∧ t.life.changed = false ∧ t.life.reportAt = some t.now ∧ t0 + 10000000000 ≤ t.now ∧
          Touches [.clk, .life, .hub, .lanes, .cmd] (A.FHUB_STAT :: sendRegs) s t) ∧
      (s.life.changed = true → s.life.reportAt = none → exec .lifeReport s = .next s.sendLife.wrapUp) ∧
      (s.life.changed = false → s.f F.LIFE_CTRL_REPORT_M ≠ 0 → s.clk.timePs < 2 ^ 63 * 1000 →
        ∃ t : State, exec .lifeReport s = .next t.wrapUp ∧ t.life.reportAt = some t.now ∧
          (t.time / 1000000000) % (s.f F.LIFE_CTRL_REPORT_M * 60) = s.addr % (s.f F.LIFE_CTRL_REPORT_M * 60) ∧
          s.life.reportSec ≠ some (t.time / 1000000000) ∧ t.life.reportSec = some (t.time / 1000000000) ∧
          Touches [.clk, .life, .hub, .lanes, .cmd] (A.FHUB_STAT :: sendRegs) s t) ∧
      (s.life.changed = false → s.f F.LIFE_CTRL_REPORT_M = 0 → exec .lifeReport s = .next s.wrapUp))

/-- 15 R394, R396, R402, R408, R410, with the refusals of each: a plan item is pinned from the next evaluation of the plan on; baselines are
set again; the saved state is restored in CONFIG; at most two subscribers. With their frames. -/
def Obligations.LifetimeCommands : Prop :=
  (∀ (p p1 : Packet) (s s1 : State), Admitted rowLifePlanSet p s s1 p1 → ∀ item i act v : Nat,
    item = numAt p.params 0 1 → i = numAt p.params 1 1 → act = numAt p.params 2 1 → v = numAt p.params 3 2 →
    p.params.length ≠ 5 ∨ 2 < item ∨ 1 < act ∨ (item ≤ 1 ∧ i ∉ s1.cells) ∨ (item = 0 ∧ act = 1 ∧ v = 0) ∨
      (item = 2 ∧ (i ∉ s1.yarPairs ∨ (act = 1 ∧ (255 < v ∨ s1.dtRoom i < v)))) →
    exec (.lifePlanSet p) s = .next (s1.answers rowLifePlanSet p1 Stat.BAD_PARAM [])) ∧
  (∀ (p p1 : Packet) (s s1 : State) (item i act v : Nat), Admitted rowLifePlanSet p s s1 p1 →
    p.params = [BitVec.ofNat 8 item, BitVec.ofNat 8 i, BitVec.ofNat 8 act] ++ leBytes 2 v → i < 256 → act ≤ 1 → v < 65536 →
    (item = 0 ∧ i ∈ s1.cells ∧ (act = 1 → v ≠ 0)) ∨ (item = 1 ∧ i ∈ s1.cells) ∨
      (item = 2 ∧ i ∈ s1.yarPairs ∧ (act = 1 → v ≤ 255 ∧ v ≤ s1.dtRoom i)) →
    ∃ u : State, exec (.lifePlanSet p) s = .next (u.answers rowLifePlanSet p1 Stat.OK []) ∧
      u.life.requests = s1.life.requests ++ [(item, i, act == 1, v)] ∧ u.life.dirty = true ∧ Touches [.life] [] s1 u) ∧
  (∀ (s : State) (c v : Nat), s.isFloret = true → s.life.dirty = true → c ∈ s.cells → s.life.requests = [(0, c, true, v)] → v < 65536 →
    s.evalPlan.on (F.LIFE_C_PLAN_PIN_C c) = true ∧ s.evalPlan.f (F.LIFE_C_PLAN_CRATIO c) = v ∧ s.evalPlan.f (F.YAR_CRATIO_CRATIO c) = v ∧
      s.evalPlan.life.requests = [] ∧ s.evalPlan.life.dirty = false) ∧
  (∀ (p p1 : Packet) (s s1 : State), Admitted rowLifeBaseline p s s1 p1 → p.params.length ≠ 2 →
    exec (.lifeBaseline p) s = .next (s1.answers rowLifeBaseline p1 Stat.BAD_PARAM [])) ∧
  (∀ (p p1 : Packet) (s s1 : State) (mask fl : Nat), Admitted rowLifeBaseline p s s1 p1 → p.params = [BitVec.ofNat 8 mask, BitVec.ofNat 8 fl] →
    mask < 256 → fl < 256 →
    ∃ u : State, exec (.lifeBaseline p) s = .next (u.answers rowLifeBaseline p1 Stat.OK []) ∧
      (∀ n < 4, bit mask n = true →
        (bit fl 0 = true → u.f (F.LIFE_W_MEAN_BASE n) = 0) ∧
        (bit fl 1 = true → u.f (F.LIFE_W_DAMAGE_DAMAGE n) = 0 ∧ (∀ b < 16, u.reg (A.LIFE_RF n b) = 0) ∧ (u.switchLife n).frac = 0)) ∧
      (∀ n < 4, bit mask n = false → u.reg (A.LIFE_W_MEAN n) = s1.reg (A.LIFE_W_MEAN n) ∧
        u.reg (A.LIFE_W_DAMAGE n) = s1.reg (A.LIFE_W_DAMAGE n) ∧ u.reg (A.LIFE_W_STAT n) = s1.reg (A.LIFE_W_STAT n)) ∧
      (bit fl 2 = true → ∀ c ∈ s1.cells, u.f (F.LIFE_C_CEST_CEST c) = 0 ∧ u.f (F.LIFE_C_ESR_ESR c) = 0) ∧ u.life.dirty = true ∧
      Touches [.life, .hub] ((List.range 2).flatMap (fun c => [A.LIFE_C_CEST c, A.LIFE_C_ESR c]) ++ (List.range 4).flatMap (fun n =>
        [A.LIFE_W_MEAN n, A.LIFE_W_DAMAGE n, A.LIFE_W_STAT n] ++ (List.range 16).map (A.LIFE_RF n))) s1 u) ∧
  (∀ (p p1 : Packet) (s s1 : State), Admitted rowLifeRestore p s s1 p1 → p.params.length ≠ 296 →
    exec (.lifeRestore p) s = .next (s1.answers rowLifeRestore p1 Stat.BAD_PARAM [])) ∧
  (∀ (p p1 : Packet) (s s1 : State), Admitted rowLifeRestore p s s1 p1 → p.params.length = 296 →
    (s1.st = ST.CONFIG →
      ∃ u : State, exec (.lifeRestore p) s = .next (u.answers rowLifeRestore p1 Stat.OK []) ∧
        (∀ c < 2, u.f (F.LIFE_C_CEST_CEST c) = numAt p.params (2 * c) 2 ∧ u.f (F.LIFE_C_ESR_ESR c) = numAt p.params (4 + 2 * c) 2) ∧
        (∀ n < 4, u.f (F.LIFE_W_MEAN_BASE n) = numAt p.params (8 + 72 * n) 2 ∧ u.f (F.LIFE_W_MEAN_MEAN n) = 0 ∧
          u.f (F.LIFE_W_DRIFT_DRIFT n) = 0 ∧ u.f (F.LIFE_W_DAMAGE_DAMAGE n) = numAt p.params (12 + 72 * n) 4 ∧
          ∀ k < 16, u.f (F.LIFE_RF_COUNT n k) = numAt p.params (16 + 72 * n + 4 * k) 4) ∧
        Touches [.life, .hub] ((List.range 2).flatMap (fun c => [A.LIFE_C_CEST c, A.LIFE_C_ESR c]) ++ (List.range 4).flatMap (fun n =>
          [A.LIFE_W_MEAN n, A.LIFE_W_DRIFT n, A.LIFE_W_DAMAGE n, A.LIFE_W_STAT n] ++ (List.range 16).map (A.LIFE_RF n))) s1 u) ∧
    (s1.st ≠ ST.CONFIG → exec (.lifeRestore p) s = .next (s1.answers rowLifeRestore p1 Stat.DENIED []))) ∧
  (∀ (p p1 : Packet) (s s1 : State), Admitted rowLifeSubscribe p s s1 p1 →
    (p.params = [1] → (s1.life.subs.filter (fun u => u.source != p.source)).length < 2 →
      ∃ u : State, exec (.lifeSubscribe p) s = .next (u.answers rowLifeSubscribe p1 Stat.OK []) ∧
        { source := p.source, mac := s1.srcMac (srcKey p) } ∈ u.life.subs ∧ Touches [.life] [] s1 u) ∧
    (p.params = [0] →
      ∃ u : State, exec (.lifeSubscribe p) s = .next (u.answers rowLifeSubscribe p1 Stat.OK []) ∧ (∀ x ∈ u.life.subs, x.source ≠ p.source) ∧
        Touches [.life] [] s1 u) ∧
    (p.params = [1] → 2 ≤ (s1.life.subs.filter (fun u => u.source != p.source)).length →
      exec (.lifeSubscribe p) s = .next (s1.answers rowLifeSubscribe p1 Stat.NO_RESOURCE [])) ∧
    (p.params ≠ [0] → p.params ≠ [1] → exec (.lifeSubscribe p) s = .next (s1.answers rowLifeSubscribe p1 Stat.BAD_PARAM [])))

/-- 16 R414 to R419, R421, R423, R424: the bits of a frame are read at their sample points, with TRIPLE by the majority of three samples; the
frame goes to the first live receive mailbox that takes it; the pending frame of best rank is committed at start-of-frame; a frame sent and a
bus error change the counters and the mailbox and answer a waiting cancel. What comes to a controller that does not run, or is no frame, changes
nothing. The layout of a frame (which bits are its identifier, DLC and data) is that of ISO 11898-1, which the spec names and does not
print (PRESUMED, assumption 67). With their frames. -/
def Obligations.CanFrames : Prop :=
  (∀ l : BitVec 3, sampledBit false l = l.getLsbD 2 ∧
    sampledBit true l = ((l.getLsbD 0 && l.getLsbD 1) || (l.getLsbD 1 && l.getLsbD 2) || (l.getLsbD 0 && l.getLsbD 2))) ∧
  ∀ (s : State) (c : Fin 2), s.running = true →
    (∀ (levels : List (BitVec 3)) (age : Nat), s.canRuns c = false ∨ 2 ≤ s.f (F.FBUS_C_STAT_ESTATE c) ∨ s.canReads c levels = none →
      exec (.canFrameReceived c levels age) s = .next s.wrapUp) ∧
    (∀ (levels : List (BitVec 3)) (age : Nat) (x : CanFrame), s.canRuns c = true → s.f (F.FBUS_C_STAT_ESTATE c) < 2 →
      s.canReads c levels = some x → ∀ box : Option Nat,
      box = boxNumbers.find? (fun m => s.boxOf c 0 m && s.on (F.FBUS_M_CFG_IDE m) == x.ide &&
          (identOf x.ide x.ident ^^^ s.f (F.FBUS_M_ID_ID m)) &&& s.f (F.FBUS_M_MASK_MASK m) == 0) →
      (s.canMode c = 2 → x.fdf = true → x.brs = true →
        ∃ t : State, exec (.canFrameReceived c levels age) s = .next t.wrapUp ∧
          t.f (F.FBUS_C_CNT_LOM_SKIP c) = min (s.f (F.FBUS_C_CNT_LOM_SKIP c) + 1) 255 ∧ Touches [] [A.FBUS_C_CNT c] s t) ∧
      (s.canMode c ≠ 2 ∨ x.fdf = false ∨ x.brs = false → box = none →
        ∃ t : State, exec (.canFrameReceived c levels age) s = .next t.wrapUp ∧
          t.f (F.FBUS_C_CNT_RX_LOST c) = min (s.f (F.FBUS_C_CNT_RX_LOST c) + 1) 255 ∧
          (s.canMode c = 1 → s.f (F.FBUS_C_STAT_REC c) ≤ 127 → t.f (F.FBUS_C_STAT_REC c) = s.f (F.FBUS_C_STAT_REC c) - 1) ∧
          (s.canMode c = 1 → 127 < s.f (F.FBUS_C_STAT_REC c) → 119 ≤ t.f (F.FBUS_C_STAT_REC c) ∧ t.f (F.FBUS_C_STAT_REC c) ≤ 127) ∧
          (s.canMode c ≠ 1 → t.reg (A.FBUS_C_STAT c) = s.reg (A.FBUS_C_STAT c)) ∧
          Touches [.hub, .free] [A.FBUS_C_CNT c, A.FBUS_C_STAT c] s t) ∧
      (∀ m, s.canMode c ≠ 2 ∨ x.fdf = false ∨ x.brs = false → box = some m →
        ∃ t : State, exec (.canFrameReceived c levels age) s = .next t.wrapUp ∧
          t.f (F.FBUS_M_FRAME_ID m) = identOf x.ide x.ident ∧ t.on (F.FBUS_M_FRAME_IDE m) = x.ide ∧ t.on (F.FBUS_M_FRAME_FDF m) = x.fdf ∧
          t.on (F.FBUS_M_FRAME_BRS m) = x.brs ∧ t.on (F.FBUS_M_STAT_ESI m) = (x.fdf && x.esi) ∧ t.on (F.FBUS_M_STAT_RTR_RX m) = (!x.fdf && x.rtr) ∧
          t.f (F.FBUS_M_STAT_SEQ m) = (s.f (F.FBUS_M_STAT_SEQ m) + 1) % 65536 ∧ t.f (F.FBUS_M_STAT_LEN m) = x.len ∧
          t.reg (A.FBUS_M_STAMP_LO m) = BitVec.ofNat 32 (s.time - age) ∧
          t.reg (A.FBUS_M_STAMP_HI m) = BitVec.ofNat 32 ((s.time - age) / 2 ^ 32) ∧ (t.box m).unread = true ∧
          t.boxBytes m x.data.length = x.data ∧
          ((s.box m).unread = true → t.on (F.FBUS_M_STAT_OVW m) = true ∧
            ((s.can c).overrunAt = none → FS.FBUS_RX_OVERRUN ∈ t.hub.raised ∧ (t.can c).overrunAt = some s.now)) ∧
          ((s.box m).unread = false → t.on (F.FBUS_M_STAT_OVW m) = s.on (F.FBUS_M_STAT_OVW m)) ∧
          Touches [.fbus, .hub, .free, .disp] ([A.FBUS_C_STAT c, A.FBUS_M_FRAME m, A.FBUS_M_STAT m, A.FBUS_M_STAMP_LO m, A.FBUS_M_STAMP_HI m, A.DISP_CNT] ++
            (List.range 16).map (A.FBUS_M_DATA m) ++ (List.range 64).map A.DISP_F_STAT) s t)) ∧
    (s.canRuns c = false ∨ s.canMode c ≠ 1 ∨ 2 ≤ s.f (F.FBUS_C_STAT_ESTATE c) ∨ (s.can c).sending.isSome = true ∨
      (∀ m ∈ boxNumbers, s.boxOf c 1 m = false ∨ s.boxPend m = false) → exec (.canSofCommit c) s = .next s.wrapUp) ∧
    (∀ m, s.canRuns c = true → s.canMode c = 1 → s.f (F.FBUS_C_STAT_ESTATE c) < 2 → (s.can c).sending = none → m < 64 →
      s.boxOf c 1 m = true → s.boxPend m = true →
      (∀ k < 64, s.boxOf c 1 k = true → s.boxPend k = true → rankLe (s.txRank m) (s.txRank k) = true) →
      ∃ t : State, exec (.canSofCommit c) s = .next t.wrapUp ∧ (t.can c).sending = some (m, (s.box m).content, s.time) ∧ Touches [.fbus] [] s t) ∧
    (∀ delay : Nat, (s.can c).sending = none → exec (.canFrameSent c delay) s = .next s.wrapUp) ∧
    (∀ (m t0 delay : Nat) (x : Nat × List Byte), (s.can c).sending = some (m, x, t0) → m < 64 →
      ∃ u : State, exec (.canFrameSent c delay) s = .next (u.each (s.box m).cancel (fun v p =>
          v.release 0x0C03 p Stat.TOO_LATE (leBytes 8 t0))).wrapUp ∧
        (u.can c).sending = none ∧ u.f (F.FBUS_C_STAT_TEC c) = s.f (F.FBUS_C_STAT_TEC c) - 1 ∧
        u.f (F.FBUS_M_STAT_SEQ m) = (s.f (F.FBUS_M_STAT_SEQ m) + 1) % 65536 ∧ u.reg (A.FBUS_M_STAMP_LO m) = BitVec.ofNat 32 t0 ∧
        u.reg (A.FBUS_M_STAMP_HI m) = BitVec.ofNat 32 (t0 / 2 ^ 32) ∧
        u.f (F.FBUS_M_FRAME_ID m) = s.f (F.FBUS_M_ID_ID m) ∧ u.on (F.FBUS_M_FRAME_IDE m) = s.on (F.FBUS_M_CFG_IDE m) ∧
        u.on (F.FBUS_M_FRAME_FDF m) = s.on (F.FBUS_M_CFG_FDF m) ∧ u.on (F.FBUS_M_FRAME_BRS m) = s.on (F.FBUS_M_CFG_BRS m) ∧
        ((s.box m).again = false → u.boxPend m = false ∧ (u.box m).slot = none) ∧
        ((s.box m).again = true → u.boxPend m = s.boxPend m ∧ (u.box m).slot = (s.box m).slot) ∧ (u.box m).again = false ∧
        (u.box m).cancel = [] ∧
        (s.on (F.FBUS_M_CFG_FDF m) = true → s.on (F.FBUS_C_TDC_TDC_EN c) = true → u.f (F.FBUS_C_TDC_TDCV c) = min 127 delay) ∧
        (s.on (F.FBUS_M_CFG_FDF m) = false ∨ s.on (F.FBUS_C_TDC_TDC_EN c) = false → u.reg (A.FBUS_C_TDC c) = s.reg (A.FBUS_C_TDC c)) ∧
        Touches [.fbus, .hub, .disp] ([A.FBUS_C_TDC c, A.FBUS_C_STAT c, A.FBUS_M_FRAME m, A.FBUS_M_STAT m, A.FBUS_M_STAMP_LO m,
          A.FBUS_M_STAMP_HI m, A.DISP_CNT] ++ (List.range 64).map A.DISP_F_STAT) s u) ∧
    (∀ (kind : Fin 7) (data exempt severe : Bool), s.canRuns c = false ∨ 2 ≤ s.f (F.FBUS_C_STAT_ESTATE c) →
      exec (.canBusError c kind data exempt severe) s = .next s.wrapUp) ∧
    (∀ (kind : Fin 7) (data exempt severe : Bool), s.canRuns c = true → s.f (F.FBUS_C_STAT_ESTATE c) < 2 →
      ((s.can c).sending = none →
        ∃ t : State, exec (.canBusError c kind data exempt severe) s = .next t.wrapUp ∧ (t.can c).sending = none ∧
          (kind.val = 0 → t.reg (A.FBUS_C_STAT c) = s.reg (A.FBUS_C_STAT c)) ∧
          (kind.val ≠ 0 → t.f (F.FBUS_C_STAT_LAST_ERR c) = kind) ∧
          (kind.val ≠ 0 → s.canMode c ≠ 2 →
            t.f (F.FBUS_C_STAT_REC c) = min (s.f (F.FBUS_C_STAT_REC c) + (if severe then 8 else 1)) 255 ∧
            (128 ≤ t.f (F.FBUS_C_STAT_REC c) → t.f (F.FBUS_C_STAT_ESTATE c) = 1)) ∧
          (s.canMode c = 2 → t.f (F.FBUS_C_STAT_REC c) = s.f (F.FBUS_C_STAT_REC c) ∧ t.f (F.FBUS_C_STAT_ESTATE c) = s.f (F.FBUS_C_STAT_ESTATE c)) ∧
          Touches [.hub, .fbus] [A.FBUS_C_STAT c] s t) ∧
      (∀ (m t0 : Nat) (x : Nat × List Byte), (s.can c).sending = some (m, x, t0) → m < 64 →
        ∃ u : State, exec (.canBusError c kind data exempt severe) s = .next (u.each (s.box m).cancel (fun v p =>
            v.release 0x0C03 p Stat.OK [])).wrapUp ∧
          (u.can c).sending = none ∧ (u.box m).again = false ∧
          ((s.box m).cancel = [] → u.boxPend m = s.boxPend m ∧ (u.box m).slot = (s.box m).slot) ∧
          ((s.box m).cancel ≠ [] → u.boxPend m = false ∧ (u.box m).slot = none ∧ (u.box m).cancel = []) ∧
          (kind.val = 0 → u.reg (A.FBUS_C_STAT c) = s.reg (A.FBUS_C_STAT c)) ∧
          (kind.val ≠ 0 → u.f (F.FBUS_C_STAT_LAST_ERR c) = kind) ∧
          (kind.val ≠ 0 → s.canMode c ≠ 2 → exempt = false → s.f (F.FBUS_C_STAT_TEC c) + 8 ≤ 255 →
            u.f (F.FBUS_C_STAT_TEC c) = s.f (F.FBUS_C_STAT_TEC c) + 8) ∧
          (kind.val ≠ 0 → s.canMode c ≠ 2 → exempt = false → 255 < s.f (F.FBUS_C_STAT_TEC c) + 8 →
            u.f (F.FBUS_C_STAT_ESTATE c) = 2 ∧ FS.FBUS_BUS_OFF ∈ u.hub.raised ∧ (u.can c).offAt = s.now ∧
            u.f (F.FBUS_C_CNT_BUSOFF_CNT c) = min (s.f (F.FBUS_C_CNT_BUSOFF_CNT c) + 1) 255) ∧
          (kind.val = 0 ∨ s.canMode c = 2 ∨ exempt = true → u.f (F.FBUS_C_STAT_TEC c) = s.f (F.FBUS_C_STAT_TEC c)) ∧
          (∀ (id : Nat) (old : List Nat), id = s.f (F.FBUS_M_ID_ID m) → old = ((((s.can c).errors.find? (fun e => e.1 == id)).map (·.2)).getD []) →
            kind.val = 4 ∨ kind.val = 5 → s.canMode c ≠ 2 → data = true → ∀ near : Nat,
            near = (old.filter (fun t => decide (s.time ≤ t + 1000000000))).length →
            (2 ≤ near → u.on (F.FBUS_C_STAT_DUP_SUSPECT c) = true ∧ u.f (F.FBUS_C_DUP_DUP_ID c) = id ∧ FS.FBUS_DUP_ID ∈ u.hub.raised) ∧
            (near < 2 → u.reg (A.FBUS_C_DUP c) = s.reg (A.FBUS_C_DUP c) ∧
              u.on (F.FBUS_C_STAT_DUP_SUSPECT c) = s.on (F.FBUS_C_STAT_DUP_SUSPECT c))) ∧
          Touches [.hub, .fbus] [A.FBUS_C_STAT c, A.FBUS_C_CNT c, A.FBUS_C_DUP c, A.FBUS_M_STAT m] s u))

/-- 16 R421, R425, R426: bus-off ends by delay and recovery; a slot of the schedule makes its mailbox's frame pending until its window
ends, and a frame still pending then, or when its slot opens again, is late; each also where it finds nothing to do. With their frames. -/
def Obligations.CanBusAndSlots : Prop :=
  ∀ (s : State) (c : Fin 2), s.running = true →
    (s.f (F.FBUS_C_STAT_ESTATE c) ≠ 2 ∨ s.on (F.FBUS_C_CTRL_AUTO_REC c) = false → exec (.boffDelay c) s = .next s.wrapUp) ∧
    (s.f (F.FBUS_C_STAT_ESTATE c) = 2 → s.on (F.FBUS_C_CTRL_AUTO_REC c) = true →
      ∃ t : State, exec (.boffDelay c) s = .next t.wrapUp ∧ t.f (F.FBUS_C_STAT_ESTATE c) = 3 ∧
        (s.can c).offAt + s.f (F.FBUS_C_CTRL_BOFF_DELAY c) * 1000000 ≤ t.now ∧ Touches [.clk] [A.FBUS_C_STAT c] s t) ∧
    (s.f (F.FBUS_C_STAT_ESTATE c) ≠ 3 → exec (.busOffRecovery c) s = .next s.wrapUp) ∧
    (s.f (F.FBUS_C_STAT_ESTATE c) = 3 →
      ∃ t : State, exec (.busOffRecovery c) s = .next t.wrapUp ∧ t.f (F.FBUS_C_STAT_ESTATE c) = 0 ∧ t.f (F.FBUS_C_STAT_TEC c) = 0 ∧
        t.f (F.FBUS_C_STAT_REC c) = 0 ∧ Touches [] [A.FBUS_C_STAT c] s t) ∧
    (∀ k : Fin 32, s.canRuns c = false ∨ s.canMode c ≠ 1 ∨ s.on (F.FBUS_C_SCHED_SCHED_EN c) = false ∨ s.on (F.FBUS_C_SLOTA_EN c k) = false ∨
      s.nextSlot c k = none → exec (.slotOpen c k) s = .next s.wrapUp) ∧
    (∀ (k : Fin 32) (m t0 : Nat), s.canRuns c = true → s.canMode c = 1 → s.on (F.FBUS_C_SCHED_SCHED_EN c) = true →
      s.on (F.FBUS_C_SLOTA_EN c k) = true → s.nextSlot c k = some t0 → m = s.f (F.FBUS_C_SLOTA_MB c k) →
      (s.boxOf c 1 m = false ∨ s.on (F.FBUS_M_CFG_SCHED m) = false →
        ∃ t : State, exec (.slotOpen c k) s = .next t.wrapUp ∧ Map.get 0 (t.can c).opened k.val = t0 ∧
          (t0 < 2 ^ 64 → t0 * 1000 ≤ t.clk.timePs) ∧ Touches [.clk, .fbus] [] s t) ∧
      (s.boxOf c 1 m = true → s.on (F.FBUS_M_CFG_SCHED m) = true →
        ∃ t : State, exec (.slotOpen c k) s = .next t.wrapUp ∧ t.boxPend m = true ∧
          (t.box m).slot = some (k.val, t0 + s.f (F.FBUS_C_SLOTB_WINDOW c k) * 10000) ∧ Map.get 0 (t.can c).opened k.val = t0 ∧
          (t.box m).again = s.boxOnBus m ∧ (t0 < 2 ^ 64 → t0 * 1000 ≤ t.clk.timePs) ∧
          (s.boxPend m = false → t.hub = s.hub ∧ t.reg (A.FBUS_C_CNT c) = s.reg (A.FBUS_C_CNT c)) ∧
          (s.boxPend m = true → t.hub.raised = s.hub.raised ++ [FS.FBUS_SLOT_MISSED] ∧
            t.f (F.FBUS_C_CNT_SLOT_LATE c) = min (s.f (F.FBUS_C_CNT_SLOT_LATE c) + 1) 255) ∧
          Touches [.clk, .fbus, .hub] [A.FBUS_M_STAT m, A.FBUS_C_CNT c] s t)) ∧
    (∀ k : Fin 32, boxNumbers.find? (fun m => s.boxOf c 1 m && s.boxPend m && ((s.box m).slot.map (·.1)) == some k.val) = none →
      exec (.slotWindowEnd c k) s = .next s.wrapUp) ∧
    (∀ (k : Fin 32) (m : Nat), boxNumbers.find? (fun m => s.boxOf c 1 m && s.boxPend m && ((s.box m).slot.map (·.1)) == some k.val) = some m →
      (s.boxOnBus m = false →
        ∃ t : State, exec (.slotWindowEnd c k) s = .next t.wrapUp ∧ t.boxPend m = false ∧ (t.box m).slot = none ∧
          (((s.box m).slot.map (·.2)).getD 0 < 2 ^ 64 → ((s.box m).slot.map (·.2)).getD 0 * 1000 ≤ t.clk.timePs) ∧
          t.hub.raised = s.hub.raised ++ [FS.FBUS_SLOT_MISSED] ∧ t.f (F.FBUS_C_CNT_SLOT_LATE c) = min (s.f (F.FBUS_C_CNT_SLOT_LATE c) + 1) 255 ∧
          Touches [.clk, .fbus, .hub] [A.FBUS_M_STAT m, A.FBUS_C_CNT c] s t) ∧
      (s.boxOnBus m = true →
        ∃ t : State, exec (.slotWindowEnd c k) s = .next t.wrapUp ∧ t.boxPend m = true ∧ Touches [.clk] [] s t))

/-- 16 R422: CANc_RXD dominant for 1 ms sets STUCK of a running controller and raises FBUS_BUS_STUCK, once until it clears; 11 recessive bits
clear STUCK. With their frames. -/
def Obligations.CanBusStuck : Prop :=
  ∀ (s : State) (c : Fin 2), s.running = true →
    (s.canRuns c = true → s.on (F.FBUS_C_STAT_STUCK c) = false →
      ∃ t : State, exec (.fbusBusStuck c) s = .next t.wrapUp ∧ t.on (F.FBUS_C_STAT_STUCK c) = true ∧
        t.hub.raised = s.hub.raised ++ [FS.FBUS_BUS_STUCK] ∧ Touches [.hub] [A.FBUS_C_STAT c] s t) ∧
    (s.canRuns c = false ∨ s.on (F.FBUS_C_STAT_STUCK c) = true → exec (.fbusBusStuck c) s = .next s.wrapUp) ∧
    (∃ t : State, exec (.busStuckClear c) s = .next t.wrapUp ∧ t.on (F.FBUS_C_STAT_STUCK c) = false ∧ Touches [] [A.FBUS_C_STAT c] s t)

/-- 16 R412, R413, R417, R421, R423, R428: the mode of a controller, the mailboxes, a send, a withdrawal and a recovery by command, with
the refusals of each. With their frames. -/
def Obligations.CanCommands : Prop :=
  ∀ (p p1 : Packet) (s s1 : State) (c n : Nat),
    (Admitted rowCanMode p s s1 p1 → p.params.length ≠ 2 ∨ 1 < numAt p.params 0 1 ∨ 2 < numAt p.params 1 1 →
      exec (.canMode p) s = .next (s1.answers rowCanMode p1 Stat.BAD_PARAM [])) ∧
    (∀ m, Admitted rowCanMode p s s1 p1 → p.params = [BitVec.ofNat 8 c, BitVec.ofNat 8 m] → c ≤ 1 → m ≤ 2 →
      (m = 0 ∨ s1.bitTimingOk c = true →
        ∃ u : State, exec (.canMode p) s = .next (u.answers rowCanMode p1 Stat.OK []) ∧ u.canMode c = m ∧ (m = 0 → (u.can c).sending = none) ∧
          Touches [.fbus] [A.FBUS_C_CTRL c] s1 u) ∧
      (m ≠ 0 → s1.bitTimingOk c = false → exec (.canMode p) s = .next (s1.answers rowCanMode p1 Stat.BAD_PARAM []))) ∧
    (∀ fl rf : Nat, Admitted rowCanMbCreate p s s1 p1 → fl = numAt p.params 0 1 → rf = numAt p.params 1 2 → ∀ good : Bool,
      good = (p.params.length == 11 && !bit fl 7 && bits rf 14 6 == 0 && bits (numAt p.params 3 4) 31 29 == 0 &&
        bits (numAt p.params 7 4) 31 29 == 0 && !(bit fl 0 && bit fl 3) && !(bit fl 2 && !bit fl 3) &&
        (!bit rf 15 || s1.on (F.DISP_F_CFG_LIVE (rf % 64)))) →
      (good = false → exec (.canMbCreate p) s = .next (s1.answers rowCanMbCreate p1 Stat.BAD_PARAM [])) ∧
      (good = true → (s1.pool TY.MAILBOX).free = [] →
        exec (.canMbCreate p) s = .next ((s1.raise FS.HANDLE_EXHAUSTED).answers rowCanMbCreate p1 Stat.NO_RESOURCE []))) ∧
    (∀ (fl rf id mask i : Nat) (rest : List Nat), Admitted rowCanMbCreate p s s1 p1 →
      p.params = BitVec.ofNat 8 fl :: (leBytes 2 rf ++ leBytes 4 id ++ leBytes 4 mask) → fl < 128 → rf < 65536 → bits rf 14 6 = 0 →
      id < 2 ^ 29 → mask < 2 ^ 29 → (bit fl 0 && bit fl 3) = false → (bit fl 2 && !bit fl 3) = false →
      (bit rf 15 = true → s1.on (F.DISP_F_CFG_LIVE (rf % 64)) = true) → (s1.pool TY.MAILBOX).free = i :: rest → i < 64 →
      ∃ u : State, exec (.canMbCreate p) s = .next (u.answers rowCanMbCreate p1 Stat.OK (leBytes 4 (u.handleAt TY.MAILBOX i).toNat)) ∧
        u.reg (A.FBUS_M_CFG i) = BitVec.ofNat 32 (2 ^ 31 + fl * 2 ^ 24 + rf) ∧ u.f (F.FBUS_M_ID_ID i) = id ∧ u.f (F.FBUS_M_MASK_MASK i) = mask ∧
        u.boxPend i = false ∧ Touches [.cmd, .fbus] ((List.range 32).map (fun w => A.FBUS_M_CFG i + 4 * w)) s1 u) ∧
    (∀ (len : Nat) (d : List Byte), Admitted rowCanMbSend p s s1 p1 → s1.handleStatus TY.MAILBOX p.handle = Stat.OK → n = hIndex p.handle →
      p.params = BitVec.ofNat 8 len :: d → d.length = len → len < 256 →
      (s1.boxOf (s1.f (F.FBUS_M_CFG_CTRL n)) 1 n = true → canLenOk (s1.on (F.FBUS_M_CFG_FDF n)) len = true →
        s1.canMode (s1.f (F.FBUS_M_CFG_CTRL n)) ≠ 2 → s1.boxPend n = false ∨ s1.boxOnBus n = false →
        ∃ u : State, exec (.canMbSend p) s = .next (u.answers rowCanMbSend p1 Stat.OK []) ∧ (u.box n).content = (len, d) ∧
          u.f (F.FBUS_M_STAT_LEN n) = len ∧ (s1.on (F.FBUS_M_CFG_SCHED n) = false → u.boxPend n = true) ∧
          (s1.on (F.FBUS_M_CFG_SCHED n) = true → u.boxPend n = s1.boxPend n) ∧
          Touches [.fbus] (A.FBUS_M_STAT n :: (List.range 16).map (A.FBUS_M_DATA n)) s1 u) ∧
      (s1.boxOf (s1.f (F.FBUS_M_CFG_CTRL n)) 1 n = true → canLenOk (s1.on (F.FBUS_M_CFG_FDF n)) len = true →
        s1.canMode (s1.f (F.FBUS_M_CFG_CTRL n)) ≠ 2 → s1.boxPend n = true → s1.boxOnBus n = true →
        exec (.canMbSend p) s = .next (s1.answers rowCanMbSend p1 Stat.BUSY [])) ∧
      (s1.boxOf (s1.f (F.FBUS_M_CFG_CTRL n)) 1 n = true → canLenOk (s1.on (F.FBUS_M_CFG_FDF n)) len = true →
        s1.canMode (s1.f (F.FBUS_M_CFG_CTRL n)) = 2 → exec (.canMbSend p) s = .next (s1.answers rowCanMbSend p1 Stat.DENIED [])) ∧
      (s1.boxOf (s1.f (F.FBUS_M_CFG_CTRL n)) 1 n = false ∨ canLenOk (s1.on (F.FBUS_M_CFG_FDF n)) len = false →
        exec (.canMbSend p) s = .next (s1.answers rowCanMbSend p1 Stat.BAD_PARAM []))) ∧
    (Admitted rowCanMbSend p s s1 p1 → s1.handleStatus TY.MAILBOX p.handle = Stat.OK → p.params.length ≠ 1 + numAt p.params 0 1 →
      exec (.canMbSend p) s = .next (s1.answers rowCanMbSend p1 Stat.BAD_PARAM [])) ∧
    (Admitted rowCanMbCancel p s s1 p1 → s1.handleStatus TY.MAILBOX p.handle = Stat.OK → p.params ≠ [] →
      exec (.canMbCancel p) s = .next (s1.answers rowCanMbCancel p1 Stat.BAD_PARAM [])) ∧
    (Admitted rowCanMbCancel p s s1 p1 → s1.handleStatus TY.MAILBOX p.handle = Stat.OK → n = hIndex p.handle → p.params = [] →
      (s1.boxPend n = false → exec (.canMbCancel p) s = .next (s1.answers rowCanMbCancel p1 Stat.OK [])) ∧
      (s1.boxPend n = true → s1.boxOnBus n = false →
        ∃ u : State, exec (.canMbCancel p) s = .next (u.answers rowCanMbCancel p1 Stat.OK []) ∧ u.boxPend n = false ∧ (u.box n).slot = none ∧
          Touches [.fbus] [A.FBUS_M_STAT n] s1 u) ∧
      (s1.boxPend n = true → s1.boxOnBus n = true →
        ∃ u : State, exec (.canMbCancel p) s = .next (u.holds rowCanMbCancel p1) ∧ (u.box n).cancel = (s1.box n).cancel ++ [p1] ∧
          Touches [.fbus] [] s1 u)) ∧
    (Admitted rowCanRecover p s s1 p1 → p.params.length ≠ 1 ∨ 1 < numAt p.params 0 1 →
      exec (.canRecover p) s = .next (s1.answers rowCanRecover p1 Stat.BAD_PARAM [])) ∧
    (Admitted rowCanRecover p s s1 p1 → p.params = [BitVec.ofNat 8 c] → c ≤ 1 →
      (s1.f (F.FBUS_C_STAT_ESTATE c) = 2 →
        ∃ u : State, exec (.canRecover p) s = .next (u.answers rowCanRecover p1 Stat.OK []) ∧ u.f (F.FBUS_C_STAT_ESTATE c) = 3 ∧
          Touches [] [A.FBUS_C_STAT c] s1 u) ∧
      (s1.f (F.FBUS_C_STAT_ESTATE c) ≠ 2 → exec (.canRecover p) s = .next (s1.answers rowCanRecover p1 Stat.DENIED [])))

/-- The model's queue (block form): a step runs the command at the front on the state with the queue's rest; with nothing waiting one clk
passes on a part that runs (DESIGN CHOICE, assumption 1), and nothing on one that does not; no word spells a command, for the opcode table
gives no row bits. -/
def Obligations.StepRuns : Prop :=
  (∀ (c : Instr) (s : State) (rest : List Instr), step { s with pending := c :: rest } = exec c { s with pending := rest }) ∧
  (∀ s : State, s.pending = [] →
    (s.running = true → ∃ t : State, step s = .next t ∧ t.clk.nowPs = s.clk.nowPs + 2000 ∧ Touches [.clk] [] s t) ∧
    (s.running = false → step s = .next s)) ∧
  (∀ (s : State) (nbits w : Nat), decodeTableWord nbits w = none ∧ s.withFetchWord nbits w = s)

/-- 00 R12, 06 R172, 12 R336, 13 R360, 17 R429, R431: right after reset the part is held in power-on reset: OFF, every register at its reset
value, memory empty, nothing waiting, gate and safety outputs low, FAULT_OUT_N asserted. In clauses over every register, one
that the spec gives no reset value has the model's (DESIGN CHOICE, assumption 3). -/
def Obligations.ResetState : Prop :=
  State.reset.heldInReset = true ∧ State.reset.gatesLow = true ∧ State.reset.pending = [] ∧ State.reset.running = false ∧
  State.reset.st = ST.OFF ∧ State.reset.faultOut = true ∧ State.reset.interpIdle = true ∧ (∀ a, State.reset.reg a = regReset a) ∧
  (∀ k, State.reset.mem k = 0) ∧ Memory.wf State.reset.bytes = true ∧ (∀ n ch, State.reset.soLevel n ch = false) ∧
  State.reset.f F.TICK_CFG_TICK_PERIOD = 4000 ∧ State.reset.freeCount = 0

/-- 00 R6: global time counts nanoseconds in 64 bits and wraps to zero. -/
def Obligations.GlobalTime : Prop :=
  ∀ (s : State) (d : Nat), s.time < 2 ^ 64 ∧
    (s.clk.timePs < 2 ^ 64 * 1000 → s.clk.freq = 0 → s.clk.freqRem < 10 ^ 12 → (s.pass (1000 * d)).time = (s.time + d) % 2 ^ 64 ∧ (s.pass (1000 * d)).clk.timePs < 2 ^ 64 * 1000 ∧
      Touches [.clk] [] s (s.pass (1000 * d)))

/-- 04 R113, R114, R125, R118, R127, R129, 06 R200, 17 R429: what keeps an opcode from executing, for every row of the opcode tables: a role that lacks it,
a session that is asked for and not shown, the class-0 limits, a handle of another type or that is not live, a queue that is full; a command that finds others before it waits in the
queue of its class; without power or clock nothing happens. -/
def Obligations.RefusedCommands : Prop :=
  ∀ (i : Instr) (r : OpRow) (p : Packet) (s : State), opcodeOf i = some (r, p) →
    (s.running = false → exec i s = .next s) ∧
    (∀ (ty : Nat) (s1 : State) (p1 : Packet), handleTypeOf r.code = some ty → Admitted r p s s1 p1 → s1.handleStatus ty p.handle ≠ Stat.OK →
      exec i s = .next (s1.answers r p1 (s1.handleStatus ty p.handle) [])) ∧
    (s.running = true → (p.slot || s.interpIdle) = true →
      ∀ v : State, v = s.copiesBefore r p →
      (v.hasRole r.roles = false →
        exec i s = .next ((v.reply r.code p false Stat.BAD_OPCODE []).copiesAfter r p).wrapUp) ∧
      (v.hasRole r.roles = true → (p.auth || v.needsSession r) = true → v.authSession r.code p = none →
        ∃ u : State, exec i s = .next ((u.reply r.code p false Stat.DENIED (refusalPayload r.code)).copiesAfter r p).wrapUp ∧
          u.f F.CMD_STAT_AUTH_DENIED = min (v.f F.CMD_STAT_AUTH_DENIED + 1) 255 ∧
          (FS.CMD_AUTH_FAIL ∈ u.hub.raised ↔ FS.CMD_AUTH_FAIL ∈ v.hub.raised ∨ 16 ≤ (slide 1000000000 v.now v.cmd.denyAt).length) ∧
          Touches [.cmd, .hub] [A.CMD_STAT] v u) ∧
      (v.hasRole r.roles = true → p.auth = false → v.needsSession r = false → v.class0Ok r p = false →
        exec i s = .next ((v.reply r.code p false Stat.BAD_PARAM (refusalPayload r.code)).copiesAfter r p).wrapUp)) ∧
    (s.running = true → p.slot = false → s.interpIdle = false →
      (32 ≤ (s.cmdQueue (queueClass p)).length →
        exec i s = .next (((s.raise FS.CMD_QUEUE_FULL).reply r.code p false Stat.BUSY (refusalPayload r.code)).fanOut r.code p).wrapUp) ∧
      ((s.cmdQueue (queueClass p)).length < 32 →
        ∃ u : State, exec i s = .next u.wrapUp ∧ u.cmdQueue (queueClass p) = s.cmdQueue (queueClass p) ++ [(r.code, p)] ∧
          (∀ c, c = 1 ∨ c = 2 ∨ c = 3 → c ≠ queueClass p → u.cmdQueue c = s.cmdQueue c) ∧ u.cmd.busy = s.cmd.busy ∧ Touches [.cmd] [] s u))

/-- 03 R89, R91, R93, R96, 04 R109, R120: what the part writes it reads back, with every field at every value that fits: command packets,
segments, the fragments of a message, tick frames both ways, handles, and the opcode tables by code. -/
def Obligations.EncodingsRoundTrip : Prop :=
  (∀ (op : Nat) (p : Packet), op < 65536 → p.wf = true → p.slot = false → p.lane = none → parsePacket (pktBytes op p) = some (op, p)) ∧
  (∀ g : Segment, g.kind < 256 → g.ctl < 32 → g.frag < 256 → g.dest < 8192 → g.payload.length ≤ 1024 → parseSeg (segBytes g) = some g) ∧
  (∀ (kind cls dest : Nat) (m : Bool) (data : List Byte), kind < 256 → cls < 4 → dest < 8192 → data.length ≤ 262144 →
    ∃ gs : List Segment, (message kind cls dest m data).map parseSeg = gs.map some ∧ gs.flatMap (·.payload) = data ∧
      (∀ g ∈ gs, g.kind = kind ∧ g.dest = dest) ∧ gs.map (·.frag) = List.range gs.length ∧ 1 ≤ gs.length) ∧
  (∀ d : DownFrame, d.epoch < 2 ^ 16 → d.harebell < 2 ^ 16 → d.period < 2 ^ 15 → d.t1 < 2 ^ 64 → d.delay < 2 ^ 24 → d.tfrac < 8 →
    d.trigId < 16 → d.iarm < 2 ^ 24 → d.thresh < 32 → d.dir < 2 → d.share < 4096 → d.frac < 4096 → d.slot.length = 32 →
    downValid d.bytes = true ∧ parseDown d.bytes = d) ∧
  (∀ u : UpFrame, u.epoch < 2 ^ 16 → u.addr < 8192 → u.hbEcho < 2 ^ 16 → u.tally.length = 32 → (∀ x ∈ u.tally, x < 2 ^ 16) →
    u.avail < 2 ^ 16 → u.unavail < 2 ^ 16 → u.stale < 2 ^ 16 → u.state < 16 → u.sev < 4 → u.turn < 2 ^ 24 → u.asym < 2 ^ 16 →
    u.tmax < 256 → u.vsum < 2 ^ 32 → u.fcount < 2 ^ 16 → u.slot.length = 32 →
    upValid u.bytes = true ∧ parseUp u.bytes = u) ∧
  (∀ ty i g : Nat, ty < 64 → i < 16384 → g < 4096 → hType (handleWord ty i g) = ty ∧ hIndex (handleWord ty i g) = i ∧ hGen (handleWord ty i g) = g) ∧
  (∀ (i : Instr) (r : OpRow) (p : Packet), opcodeOf i = some (r, p) → opRow r.code = some r)

/-- 17 R429, 06 R172, R200: the block held in power-on reset stays so under every command but the release of that reset: its registers stay at
their reset values, memory stays empty, its gate outputs and safety outputs stay low and FAULT_OUT_N stays asserted. -/
def Obligations.HeldInResetStays : Prop :=
  ∀ s s' : State, s.heldInReset = true → (∀ r a b, s.pending.head? ≠ some (.powerOnResetRelease r a b)) → step s = .next s' →
    s'.heldInReset = true ∧ s'.gatesLow = true ∧ s'.faultOut = true ∧ (∀ n ch, s'.soLevel n ch = false) ∧ (∀ a, s'.reg a = regReset a) ∧
    (∀ k, s'.mem k = 0) ∧ s'.node.flash = s.node.flash ∧ s'.pending = s.pending.tail
end

