-- ==== Sys2Proof/Laws/Bytes.lean ====
section
/-!
SUPPORT. Laws/Bytes.lean: little-endian numbers in byte lists.
-/
namespace Sys2Proof.Machine
open Sys2Proof

@[simp] theorem leBytes_length (n v : Nat) : (leBytes n v).length = n := by induction n generalizing v <;> simp [leBytes, *]

theorem leNat_lt (b : List Byte) : leNat b < 256 ^ b.length := by
  induction b with
  | nil => simp [leNat]
  | cons x b ih =>
    have := x.isLt
    simp only [leNat, List.length_cons, Nat.pow_succ]
    omega

/-- Bytes of a number give it back, up to their width. -/
theorem leNat_leBytes (n v : Nat) : leNat (leBytes n v) = v % 256 ^ n := by
  induction n generalizing v with
  | zero => simp [leBytes, leNat, Nat.mod_one]
  | succ n ih =>
    simp only [leBytes, leNat, ih, BitVec.toNat_ofNat]
    have : (2 : Nat) ^ 8 = 256 := rfl
    rw [this, Nat.pow_succ', Nat.mod_mul (a := 256)]

/-- A number's bytes are the only ones of their length. -/
theorem leBytes_leNat (b : List Byte) : leBytes b.length (leNat b) = b := by
  induction b with
  | nil => rfl
  | cons x b ih =>
    have hx := x.isLt
    have e : (x.toNat + 256 * leNat b) / 256 = leNat b := by omega
    simp only [List.length_cons, leBytes, leNat, e, ih, List.cons.injEq, and_true]
    apply BitVec.eq_of_toNat_eq
    simp
    omega

/-- A number read beyond a prefix. -/
theorem numAt_append_right (a b : List Byte) (o n : Nat) (h : a.length ≤ o) : numAt (a ++ b) o n = numAt b (o - a.length) n := by
  simp [numAt, slice, List.drop_append, List.drop_eq_nil_of_le h]

/-- A number read within a prefix. -/
theorem numAt_append_left (a b : List Byte) (o n : Nat) (h : o + n ≤ a.length) : numAt (a ++ b) o n = numAt a o n := by
  have e : n - (a.length - o) = 0 := by omega
  simp [numAt, slice, List.drop_append, List.take_append, e]

theorem numAt_leBytes (n v : Nat) : numAt (leBytes n v) 0 n = v % 256 ^ n := by
  have : (leBytes n v).take n = leBytes n v := List.take_of_length_le (by simp)
  simp [numAt, slice, this, leNat_leBytes]

end Sys2Proof.Machine
end

