-- ==== Sys2Proof/Laws/Crc.lean ====
section
/-!
SUPPORT. Crc.lean: CRC-16 is linear, so a single flipped bit moves the check of a line by its syndrome, and a line whose difference is
no syndrome is one that no single flip mends (11 R308, R311).
-/
namespace Sys2Proof.Machine
open Sys2Proof

theorem crc16Bit_xor (a b : BitVec 16) : crc16Bit (a ^^^ b) = crc16Bit a ^^^ crc16Bit b := by
  simp only [crc16Bit, BitVec.getLsbD_xor, BitVec.shiftLeft_xor_distrib]
  have h : ∀ x : BitVec 16, x ^^^ 0x1021 ^^^ 0x1021 = x := fun x => by rw [BitVec.xor_assoc]; exact BitVec.xor_zero
  cases a.getLsbD 15 <;> cases b.getLsbD 15 <;>
    simp only [Bool.xor_false, Bool.xor_true, Bool.not_true, Bool.not_false, if_true, if_false, Bool.false_eq_true]
  · ac_rfl
  · ac_rfl
  · exact (h _).symm.trans (by ac_rfl)

theorem repeat_xor {f : BitVec 16 → BitVec 16} (h : ∀ a b, f (a ^^^ b) = f a ^^^ f b) (n : Nat) (a b : BitVec 16) :
    Nat.repeat f n (a ^^^ b) = Nat.repeat f n a ^^^ Nat.repeat f n b := by
  induction n with
  | zero => rfl
  | succ n ih => simp only [Nat.repeat, ih, h]

theorem crc16Byte_xor (a b : BitVec 16) (x y : Byte) : crc16Byte (a ^^^ b) (x ^^^ y) = crc16Byte a x ^^^ crc16Byte b y := by
  rw [crc16Byte, crc16Byte, crc16Byte, ← repeat_xor crc16Bit_xor]
  congr 1
  simp only [BitVec.truncate_eq_setWidth, BitVec.setWidth_xor, BitVec.shiftLeft_xor_distrib]
  ac_rfl

theorem crc16_foldl_xor : ∀ (xs ys : List Byte) (a b : BitVec 16), xs.length = ys.length →
    (List.zipWith (· ^^^ ·) xs ys).foldl crc16Byte (a ^^^ b) = xs.foldl crc16Byte a ^^^ ys.foldl crc16Byte b
  | [], [], _, _, _ => rfl
  | x :: xs, y :: ys, a, b, h => by
    simp only [List.zipWith_cons_cons, List.foldl_cons, crc16Byte_xor]
    exact crc16_foldl_xor xs ys _ _ (by simpa using h)

/-- The step of CRC-16 over a zero byte. -/
def crcZero (c : BitVec 16) : BitVec 16 := crc16Byte c 0

theorem foldl_zeros (n : Nat) (c : BitVec 16) : (List.replicate n (0 : Byte)).foldl crc16Byte c = Nat.repeat crcZero n c := by
  induction n generalizing c with
  | zero => rfl
  | succ n ih =>
    rw [List.replicate_succ', List.foldl_append, ih]
    rfl

/-- The first values of the iteration of `crcZero`. -/
def crcOrbit : Nat → BitVec 16 → List (BitVec 16)
  | 0, c => [c]
  | n + 1, c => c :: crcOrbit n (crcZero c)

theorem repeat_succ_left (n : Nat) (c : BitVec 16) : Nat.repeat crcZero n (crcZero c) = Nat.repeat crcZero (n + 1) c := by
  induction n with
  | zero => rfl
  | succ n ih => rw [Nat.repeat, ih]; rfl

theorem repeat_mem_orbit {k n : Nat} (h : k ≤ n) (c : BitVec 16) : Nat.repeat crcZero k c ∈ crcOrbit n c := by
  induction n generalizing k c with
  | zero => obtain rfl : k = 0 := by omega
            simp [crcOrbit, Nat.repeat]
  | succ n ih =>
    cases k with
    | zero => simp [crcOrbit, Nat.repeat]
    | succ k => exact List.mem_cons_of_mem _ (repeat_succ_left k c ▸ ih (by omega) (crcZero c))

/-- The syndromes of the 512 data bits of a line. -/
def crcSyndromes : List (BitVec 16) := (List.range 8).flatMap (fun b => crcOrbit 67 (crc16Byte 0 (BitVec.ofNat 8 (2 ^ b))))

/-- A flip of data bit `i` is the sum of the data and of a line that holds that bit alone. -/
theorem flipBit_data {d : List Byte} {chk i : Nat} (hd : d.length = 64) (hi : i < 512) :
    (flipBit d chk i).1 = List.zipWith (· ^^^ ·) d (List.replicate (i / 8) 0 ++ BitVec.ofNat 8 (2 ^ (i % 8)) :: List.replicate (63 - i / 8) 0) := by
  rw [flipBit, if_pos hi]
  apply List.ext_getElem
  · simp only [List.length_mapIdx, List.length_zipWith, List.length_append, List.length_cons, List.length_replicate]
    omega
  intro j h1 h2
  simp only [List.getElem_mapIdx, List.getElem_zipWith, List.getElem_append, List.length_replicate, List.getElem_cons, List.getElem_replicate]
  split
  · rename_i e
    rw [dif_neg (by omega), dif_pos (by omega)]
  · split
    · exact (BitVec.xor_zero).symm
    · rw [dif_neg (by omega)]
      exact (BitVec.xor_zero).symm

/-- The check of a line with one data bit flipped differs from the line's own by a syndrome. -/
theorem lineCheck_flip {line i : Nat} {d : List Byte} {chk : Nat} (hd : d.length = 64) (hi : i < 512) :
    ∃ y ∈ crcSyndromes, lineCheck line (flipBit d chk i).1 = (BitVec.ofNat 16 (lineCheck line d) ^^^ y).toNat := by
  refine ⟨Nat.repeat crcZero (67 - i / 8) (crc16Byte 0 (BitVec.ofNat 8 (2 ^ (i % 8)))),
    List.mem_flatMap.mpr ⟨i % 8, List.mem_range.mpr (by omega), repeat_mem_orbit (by omega) _⟩, ?_⟩
  have hz : List.replicate (63 - i / 8) (0 : Byte) ++ List.replicate 4 0 = List.replicate (67 - i / 8) 0 := by
    rw [List.replicate_append_replicate]
    congr 1
    omega
  have hy : (List.replicate (i / 8) (0 : Byte) ++ BitVec.ofNat 8 (2 ^ (i % 8)) :: (List.replicate (63 - i / 8) 0 ++ List.replicate 4 0)).foldl crc16Byte 0 =
      Nat.repeat crcZero (67 - i / 8) (crc16Byte 0 (BitVec.ofNat 8 (2 ^ (i % 8)))) := by
    have h0 : ∀ n, Nat.repeat crcZero n 0 = 0 := fun n => by
      induction n with
      | zero => rfl
      | succ n ih => rw [Nat.repeat, ih]; decide
    rw [hz, List.foldl_append, foldl_zeros, h0, List.foldl_cons, foldl_zeros]
  rw [lineCheck, lineCheck, crc16, crc16, BitVec.ofNat_toNat, BitVec.setWidth_eq, ← hy, flipBit_data hd hi]
  congr 1
  rw [show (0xFFFF : BitVec 16) = 0xFFFF ^^^ 0 from rfl, ← crc16_foldl_xor _ _ _ _ (by
    simp only [List.length_append, List.length_cons, List.length_replicate, leBytes_length]; omega)]
  rw [show (0xFFFF : BitVec 16) ^^^ 0 = 0xFFFF from rfl]
  congr 1
  rw [show List.replicate (i / 8) (0 : Byte) ++ BitVec.ofNat 8 (2 ^ (i % 8)) :: (List.replicate (63 - i / 8) 0 ++ List.replicate 4 0) =
    (List.replicate (i / 8) (0 : Byte) ++ BitVec.ofNat 8 (2 ^ (i % 8)) :: List.replicate (63 - i / 8) 0) ++ List.replicate 4 0 by simp]
  rw [List.zipWith_append (by simp only [List.length_append, List.length_cons, List.length_replicate]; omega)]
  congr 1
  refine List.ext_getElem (by simp) fun j h1 h2 => ?_
  rw [List.getElem_zipWith, List.getElem_replicate]
  exact (BitVec.xor_zero).symm

/-- No single flip mends a line whose stored check differs from its own by no syndrome and by no single bit (R311). -/
theorem recompute_none {line chk : Nat} {d : List Byte} (hd : d.length = 64)
    (hs : (BitVec.ofNat 16 (lineCheck line d) ^^^ BitVec.ofNat 16 chk) ∉ crcSyndromes)
    (hb : ∀ b < 16, lineCheck line d ≠ chk ^^^ 2 ^ b) : recompute line d chk = none := by
  simp only [recompute, Option.map_eq_none_iff, List.find?_eq_none, List.mem_range]
  intro i hi
  by_cases h : i < 512
  · obtain ⟨y, hy, e⟩ := lineCheck_flip (line := line) (chk := chk) hd h
    have h2 : (flipBit d chk i).2 = chk := by rw [flipBit, if_pos h]
    show ¬ (lineCheck line (flipBit d chk i).1 == (flipBit d chk i).2) = true
    rw [h2, e, beq_iff_eq]
    intro hx
    apply hs
    have h3 : BitVec.ofNat 16 chk = BitVec.ofNat 16 (lineCheck line d) ^^^ y := by
      rw [← hx, BitVec.ofNat_toNat, BitVec.setWidth_eq]
    rw [h3, ← BitVec.xor_assoc, BitVec.xor_self, BitVec.zero_xor]
    exact hy
  · show ¬ (lineCheck line (flipBit d chk i).1 == (flipBit d chk i).2) = true
    rw [flipBit, if_neg h, beq_iff_eq]
    exact hb (i - 512) (by omega)

/-- A read that comes to a line of class 0 that is wrong, that no single flip mends and that no image backs ends there as bad (R311, R314). -/
theorem State.readLines_bad {s : State} {line : Nat} (rest : List Nat) (hp : s.firstPending [line] ≠ some line)
    (hv : s.lineValid (s.lineKey 0 0 line) = true) (hg : s.lineGood (s.lineKey 0 0 line) line = false)
    (hr : recompute line (s.lineBytes (s.lineKey 0 0 line)) (s.storedCheck (s.lineKey 0 0 line) line) = none)
    (hi : Map.get false s.guard.img (classBase 0 + line * 64) = false) :
    s.readLines 0 (line :: rest) = (s.uncorrectable 0 0 line, .bad, line) := by
  rw [State.readLines, if_neg (fun h => hp h.2)]
  have h : s.checkedLine 0 0 line = (s.uncorrectable 0 0 line, .bad) := by
    simp only [State.checkedLine, hv, hg, hr, hi, Bool.not_true, Bool.false_and, Bool.false_eq_true, if_false, if_true]
  rw [h]

end Sys2Proof.Machine
end

