-- ==== Sys2Proof/Laws/Map.lean ====
section
/-!
SUPPORT. Laws/Map.lean: the laws of the sparse collections: what a read after a write gives, and that the canonical form is kept.
-/
namespace Sys2Proof.Machine

variable {α : Type}

@[simp] theorem Map.get_nil (d : α) (k : Nat) : Map.get d [] k = d := rfl

theorem Map.get_erase_same (d : α) (m : List (Nat × α)) (k : Nat) : Map.get d (Map.erase m k) k = d := by
  induction m with
  | nil => rfl
  | cons x m ih =>
    obtain ⟨j, v⟩ := x
    simp only [Map.erase]
    split
    · exact ih
    · simp [Map.get, *]

theorem Map.get_erase_ne (d : α) (m : List (Nat × α)) {k j : Nat} (h : j ≠ k) : Map.get d (Map.erase m k) j = Map.get d m j := by
  induction m with
  | nil => rfl
  | cons x m ih =>
    obtain ⟨i, v⟩ := x
    simp only [Map.erase]
    split
    · rename_i hi
      subst hi
      rw [ih]
      simp [Map.get, Ne.symm h]
    · simp [Map.get, ih]

theorem Map.get_insert_ne (d : α) (m : List (Nat × α)) {k j : Nat} (x : α) (h : j ≠ k) :
    Map.get d (Map.insert m k x) j = Map.get d m j := by
  induction m with
  | nil => simp [Map.insert, Map.get, Ne.symm h]
  | cons y m ih =>
    obtain ⟨i, v⟩ := y
    simp only [Map.insert]
    split
    · simp [Map.get, Ne.symm h]
    · simp [Map.get, ih]

/-- A key that is not listed reads as the value it is given. -/
theorem Map.get_insert_fresh (d : α) (m : List (Nat × α)) (k : Nat) (x : α) (h : ∀ p ∈ m, p.1 ≠ k) :
    Map.get d (Map.insert m k x) k = x := by
  induction m with
  | nil => simp [Map.insert, Map.get]
  | cons y m ih =>
    obtain ⟨i, v⟩ := y
    have hi : i ≠ k := h (i, v) (by simp)
    have hm : ∀ p ∈ m, p.1 ≠ k := fun p hp => h p (by simp [hp])
    simp only [Map.insert]
    split
    · simp [Map.get]
    · simp [Map.get, hi, ih hm]

theorem Map.erase_fresh (m : List (Nat × α)) (k : Nat) : ∀ p ∈ Map.erase m k, p.1 ≠ k := by
  induction m with
  | nil => simp [Map.erase]
  | cons y m ih =>
    obtain ⟨i, v⟩ := y
    simp only [Map.erase]
    split
    · exact ih
    · rename_i hi
      intro p hp
      rcases List.mem_cons.mp hp with rfl | hp
      · exact hi
      · exact ih p hp

/-- A read after a write of the same key gives the value written. -/
@[simp] theorem Map.get_set_same [DecidableEq α] (d : α) (m : List (Nat × α)) (k : Nat) (x : α) :
    Map.get d (Map.set d m k x) k = x := by
  unfold Map.set
  split
  · rename_i h
    rw [Map.get_erase_same, h]
  · exact Map.get_insert_fresh d _ k x (Map.erase_fresh m k)

/-- A write leaves every other key alone. -/
theorem Map.get_set_ne [DecidableEq α] (d e : α) (m : List (Nat × α)) {k j : Nat} (x : α) (h : j ≠ k) :
    Map.get e (Map.set d m k x) j = Map.get e m j := by
  unfold Map.set
  split
  · exact Map.get_erase_ne e m h
  · rw [Map.get_insert_ne e _ x h, Map.get_erase_ne e m h]

/-! The canonical form. -/

/-- Every key of a canonical collection beyond its first is larger. -/
def Map.above (k : Nat) : List (Nat × α) → Bool
  | [] => true
  | (j, _) :: _ => decide (k < j)

theorem Map.wf_cons [DecidableEq α] (d : Nat → α) (j : Nat) (v : α) (m : List (Nat × α)) :
    Map.wf d ((j, v) :: m) = (decide (v ≠ d j) && Map.above j m && Map.wf d m) := by
  cases m with
  | nil => simp [Map.wf, Map.above]
  | cons y m => obtain ⟨i, w⟩ := y; simp [Map.wf, Map.above, Bool.and_assoc]

theorem Map.above_trans {k j : Nat} (m : List (Nat × α)) (h : k < j) (hm : Map.above j m = true) : Map.above k m = true := by
  cases m with
  | nil => rfl
  | cons y m => simp [Map.above] at *; omega

theorem Map.above_erase [DecidableEq α] (d : Nat → α) (m : List (Nat × α)) (k j : Nat) (h : Map.above j m = true)
    (hw : Map.wf d m = true) : Map.above j (Map.erase m k) = true := by
  induction m generalizing j with
  | nil => rfl
  | cons y m ih =>
    obtain ⟨i, v⟩ := y
    simp only [Map.wf_cons, Bool.and_eq_true] at hw
    simp only [Map.above, decide_eq_true_eq] at h
    simp only [Map.erase]
    split
    · exact ih j (Map.above_trans m h hw.1.2) hw.2
    · simpa [Map.above] using h

theorem Map.wf_erase [DecidableEq α] (d : Nat → α) (m : List (Nat × α)) (k : Nat) (hw : Map.wf d m = true) :
    Map.wf d (Map.erase m k) = true := by
  induction m with
  | nil => rfl
  | cons y m ih =>
    obtain ⟨i, v⟩ := y
    have hw' := hw
    simp only [Map.wf_cons, Bool.and_eq_true] at hw
    simp only [Map.erase]
    split
    · exact ih hw.2
    · simp only [Map.wf_cons, Bool.and_eq_true]
      exact ⟨⟨hw.1.1, Map.above_erase d m k i hw.1.2 hw.2⟩, ih hw.2⟩

theorem Map.above_insert (m : List (Nat × α)) (k j : Nat) (x : α) (h : Map.above j m = true) (hk : j < k) :
    Map.above j (Map.insert m k x) = true := by
  cases m with
  | nil => simpa [Map.insert, Map.above] using hk
  | cons y m =>
    obtain ⟨i, v⟩ := y
    simp only [Map.insert]
    split
    · simpa [Map.above] using hk
    · simpa [Map.above] using h

theorem Map.wf_insert [DecidableEq α] (d : Nat → α) (m : List (Nat × α)) (k : Nat) (x : α) (hw : Map.wf d m = true)
    (hf : ∀ p ∈ m, p.1 ≠ k) (hx : x ≠ d k) : Map.wf d (Map.insert m k x) = true := by
  induction m with
  | nil => simp [Map.insert, Map.wf, hx]
  | cons y m ih =>
    obtain ⟨i, v⟩ := y
    have hi : i ≠ k := hf (i, v) (by simp)
    have hw' := hw
    simp only [Map.wf_cons, Bool.and_eq_true] at hw
    simp only [Map.insert]
    split
    · rename_i hlt
      rw [Map.wf_cons, hw']
      simp [Map.above, hlt, hx]
    · rename_i hge
      rw [Map.wf_cons, ih hw.2 (fun p hp => hf p (by simp [hp])), Map.above_insert m k i x hw.1.2 (by omega)]
      simp only [hw.1.1, Bool.and_self]

/-- A write keeps the canonical form. -/
theorem Map.wf_set [DecidableEq α] (d : Nat → α) (m : List (Nat × α)) (k : Nat) (x : α) (hw : Map.wf d m = true) :
    Map.wf d (Map.set (d k) m k x) = true := by
  unfold Map.set
  split
  · exact Map.wf_erase d m k hw
  · exact Map.wf_insert d _ k x (Map.wf_erase d m k hw) (Map.erase_fresh m k) (by assumption)

end Sys2Proof.Machine
end

