-- ==== Sys2Proof/Laws/Fields.lean ====
section
/-!
SUPPORT. Laws/Fields.lean: reading registers and fields after writing them.
-/
namespace Sys2Proof.Machine
open Sys2Proof

@[simp] theorem State.reg_setReg_same (s : State) (a : Nat) (w : Word) : (s.setReg a w).reg a = w := by
  simp [State.setReg, State.reg]

theorem State.reg_setReg_ne (s : State) {a b : Nat} (w : Word) (h : b ≠ a) : (s.setReg a w).reg b = s.reg b := by
  simp [State.setReg, State.reg, Map.get_set_ne _ _ _ _ h]

/-- A field fits its register. -/
@[simp] def Fld.ok (x : Fld) : Bool := decide (x.lo ≤ x.hi) && decide (x.hi < 32)

/-- Two fields of one register share no bit. -/
@[simp] def Fld.apart (x y : Fld) : Bool := decide (x.hi < y.lo) || decide (y.hi < x.lo)

theorem Fld.put_eq (x : Fld) (w v : Nat) (h : x.ok = true) :
    ∃ q, q = w / 2 ^ (x.hi + 1) ∧ x.put w v = (q * 2 ^ (x.hi + 1 - x.lo) + v % 2 ^ (x.hi + 1 - x.lo)) * 2 ^ x.lo + w % 2 ^ x.lo := by
  refine ⟨_, rfl, ?_⟩
  simp only [Fld.ok, Bool.and_eq_true, decide_eq_true_eq] at h
  have e : 2 ^ (x.hi + 1) = 2 ^ (x.hi + 1 - x.lo) * 2 ^ x.lo := by
    rw [← Nat.pow_add]; congr 1; omega
  simp only [Fld.put]
  rw [Nat.add_mul, Nat.mul_assoc, ← e]

theorem Fld.of_put_same (x : Fld) (w v : Nat) (h : x.ok = true) : x.of (x.put w v) = v % 2 ^ (x.hi + 1 - x.lo) := by
  obtain ⟨q, -, e⟩ := x.put_eq w v h
  rw [e, Fld.of]
  have h1 : w % 2 ^ x.lo < 2 ^ x.lo := Nat.mod_lt _ (Nat.two_pow_pos _)
  rw [Nat.add_comm, Nat.add_mul_div_right _ _ (Nat.two_pow_pos _), Nat.div_eq_of_lt h1]
  simp [Nat.add_mod]

theorem Fld.put_lt (x : Fld) (w v : Nat) (h : x.ok = true) (hw : w < 2 ^ 32) : x.put w v < 2 ^ 32 := by
  have h' := h
  simp only [Fld.ok, Bool.and_eq_true, decide_eq_true_eq] at h'
  have a1 : v % 2 ^ (x.hi + 1 - x.lo) * 2 ^ x.lo + w % 2 ^ x.lo < 2 ^ (x.hi + 1) := by
    have e : 2 ^ (x.hi + 1) = 2 ^ (x.hi + 1 - x.lo) * 2 ^ x.lo := by rw [← Nat.pow_add]; congr 1; omega
    have b1 : v % 2 ^ (x.hi + 1 - x.lo) < 2 ^ (x.hi + 1 - x.lo) := Nat.mod_lt _ (Nat.two_pow_pos _)
    have b2 : w % 2 ^ x.lo < 2 ^ x.lo := Nat.mod_lt _ (Nat.two_pow_pos _)
    rw [e]
    calc _ < v % 2 ^ (x.hi + 1 - x.lo) * 2 ^ x.lo + 2 ^ x.lo := by omega
      _ = (v % 2 ^ (x.hi + 1 - x.lo) + 1) * 2 ^ x.lo := by ring
      _ ≤ _ := Nat.mul_le_mul_right _ b1
  have a2 : w / 2 ^ (x.hi + 1) < 2 ^ (32 - (x.hi + 1)) := by
    rw [Nat.div_lt_iff_lt_mul (Nat.two_pow_pos _), ← Nat.pow_add]
    have : 32 - (x.hi + 1) + (x.hi + 1) = 32 := by omega
    rw [this]; exact hw
  have e2 : 2 ^ 32 = 2 ^ (32 - (x.hi + 1)) * 2 ^ (x.hi + 1) := by rw [← Nat.pow_add]; congr 1; omega
  simp only [Fld.put]
  rw [e2]
  calc _ < w / 2 ^ (x.hi + 1) * 2 ^ (x.hi + 1) + 2 ^ (x.hi + 1) := by omega
    _ = (w / 2 ^ (x.hi + 1) + 1) * 2 ^ (x.hi + 1) := by ring
    _ ≤ _ := Nat.mul_le_mul_right _ a2

theorem Fld.of_put_apart (x y : Fld) (w v : Nat) (hx : x.ok = true) (hy : y.ok = true) (h : x.apart y = true) :
    y.of (x.put w v) = y.of w := by
  simp only [Fld.ok, Fld.apart, Bool.and_eq_true, Bool.or_eq_true, decide_eq_true_eq] at hx hy h
  have t (k : Nat) : (y.of k = (k >>> y.lo) % 2 ^ (y.hi + 1 - y.lo)) := by simp [Fld.of, Nat.shiftRight_eq_div_pow]
  rw [t, t]
  apply Nat.eq_of_testBit_eq
  intro i
  simp only [Nat.testBit_mod_two_pow, Nat.testBit_shiftRight]
  by_cases hi : i < y.hi + 1 - y.lo
  · simp only [hi, decide_true, Bool.true_and]
    have put : x.put w v = 2 ^ (x.hi + 1) * (w / 2 ^ (x.hi + 1)) + (2 ^ x.lo * (v % 2 ^ (x.hi + 1 - x.lo)) + w % 2 ^ x.lo) := by
      simp only [Fld.put]; ring
    have low : 2 ^ x.lo * (v % 2 ^ (x.hi + 1 - x.lo)) + w % 2 ^ x.lo < 2 ^ (x.hi + 1) := by
      have e : 2 ^ (x.hi + 1) = 2 ^ x.lo * 2 ^ (x.hi + 1 - x.lo) := by rw [← Nat.pow_add]; congr 1; omega
      have b1 : v % 2 ^ (x.hi + 1 - x.lo) < 2 ^ (x.hi + 1 - x.lo) := Nat.mod_lt _ (Nat.two_pow_pos _)
      have b2 : w % 2 ^ x.lo < 2 ^ x.lo := Nat.mod_lt _ (Nat.two_pow_pos _)
      rw [e]
      calc _ < 2 ^ x.lo * (v % 2 ^ (x.hi + 1 - x.lo)) + 2 ^ x.lo := by omega
        _ = 2 ^ x.lo * (v % 2 ^ (x.hi + 1 - x.lo) + 1) := by ring
        _ ≤ _ := Nat.mul_le_mul_left _ b1
    rw [put, Nat.testBit_two_pow_mul_add _ low]
    split
    · rename_i hlt
      have b2 : w % 2 ^ x.lo < 2 ^ x.lo := Nat.mod_lt _ (Nat.two_pow_pos _)
      rw [Nat.testBit_two_pow_mul_add _ b2]
      rcases h with h | h
      · omega
      · rw [if_pos (by omega), Nat.testBit_mod_two_pow]
        simp; omega
    · rename_i hge
      rw [Nat.testBit_div_two_pow]
      congr 1; omega
  · simp [hi]

/-- A field reads as the value last written to it. -/
theorem State.f_setF_same (s : State) (x : Fld) (v : Nat) (h : x.ok = true) : (s.setF x v).f x = v % 2 ^ (x.hi + 1 - x.lo) := by
  have hw := (s.reg x.addr).isLt
  simp only [State.f, State.setF, State.reg_setReg_same, BitVec.toNat_ofNat, Nat.mod_eq_of_lt (x.put_lt _ v h hw)]
  exact x.of_put_same _ v h

/-- Writing a field leaves the fields of other registers alone. -/
theorem State.f_setF_ne (s : State) (x y : Fld) (v : Nat) (h : y.addr ≠ x.addr) : (s.setF x v).f y = s.f y := by
  simp only [State.f, State.setF, State.reg_setReg_ne _ _ h]

/-- Writing a field leaves the other fields of its register alone. -/
theorem State.f_setF_apart (s : State) (x y : Fld) (v : Nat) (hx : x.ok = true) (hy : y.ok = true) (h : x.apart y = true) :
    (s.setF x v).f y = s.f y := by
  by_cases e : y.addr = x.addr
  · have hw := (s.reg x.addr).isLt
    simp only [State.f, State.setF, e, State.reg_setReg_same, BitVec.toNat_ofNat, Nat.mod_eq_of_lt (x.put_lt _ v hx hw)]
    exact x.of_put_apart y _ v hx hy h
  · exact s.f_setF_ne x y v e

theorem State.reg_setF_ne (s : State) (x : Fld) (v a : Nat) (h : a ≠ x.addr) : (s.setF x v).reg a = s.reg a := by
  simp only [State.setF, State.reg_setReg_ne _ _ h]

end Sys2Proof.Machine
end

