-- ==== Sys2Proof/Laws/State.lean ====
section
/-!
SUPPORT. Laws/State.lean: what each named update of the state leaves alone, one lemma per field.
-/
namespace Sys2Proof.Machine
open Sys2Proof

variable (s : State)

@[simp] theorem State.setReg_pending (a : Nat) (w : Word) : (s.setReg a w).pending = s.pending := (rfl)
@[simp] theorem State.setReg_bytes (a : Nat) (w : Word) : (s.setReg a w).bytes = s.bytes := (rfl)
@[simp] theorem State.setReg_clk (a : Nat) (w : Word) : (s.setReg a w).clk = s.clk := (rfl)
@[simp] theorem State.setReg_node (a : Nat) (w : Word) : (s.setReg a w).node = s.node := (rfl)
@[simp] theorem State.setReg_lanes (a : Nat) (w : Word) : (s.setReg a w).lanes = s.lanes := (rfl)
@[simp] theorem State.setReg_cmd (a : Nat) (w : Word) : (s.setReg a w).cmd = s.cmd := (rfl)
@[simp] theorem State.setReg_hub (a : Nat) (w : Word) : (s.setReg a w).hub = s.hub := (rfl)
@[simp] theorem State.setReg_unitSts (a : Nat) (w : Word) : (s.setReg a w).unitSts = s.unitSts := (rfl)
@[simp] theorem State.setReg_yar (a : Nat) (w : Word) : (s.setReg a w).yar = s.yar := (rfl)
@[simp] theorem State.setReg_tree (a : Nat) (w : Word) : (s.setReg a w).tree = s.tree := (rfl)
@[simp] theorem State.setReg_swu (a : Nat) (w : Word) : (s.setReg a w).swu = s.swu := (rfl)
@[simp] theorem State.setReg_loop (a : Nat) (w : Word) : (s.setReg a w).loop = s.loop := (rfl)
@[simp] theorem State.setReg_safe (a : Nat) (w : Word) : (s.setReg a w).safe = s.safe := (rfl)
@[simp] theorem State.setReg_meas (a : Nat) (w : Word) : (s.setReg a w).meas = s.meas := (rfl)
@[simp] theorem State.setReg_disp (a : Nat) (w : Word) : (s.setReg a w).disp = s.disp := (rfl)
@[simp] theorem State.setReg_guard (a : Nat) (w : Word) : (s.setReg a w).guard = s.guard := (rfl)
@[simp] theorem State.setReg_recorder (a : Nat) (w : Word) : (s.setReg a w).recorder = s.recorder := (rfl)
@[simp] theorem State.setReg_twin (a : Nat) (w : Word) : (s.setReg a w).twin = s.twin := (rfl)
@[simp] theorem State.setReg_child (a : Nat) (w : Word) : (s.setReg a w).child = s.child := (rfl)
@[simp] theorem State.setReg_life (a : Nat) (w : Word) : (s.setReg a w).life = s.life := (rfl)
@[simp] theorem State.setReg_fbus (a : Nat) (w : Word) : (s.setReg a w).fbus = s.fbus := (rfl)
@[simp] theorem State.setReg_freeCount (a : Nat) (w : Word) : (s.setReg a w).freeCount = s.freeCount := (rfl)

@[simp] theorem State.setF_pending (x : Fld) (v : Nat) : (s.setF x v).pending = s.pending := (rfl)
@[simp] theorem State.setF_bytes (x : Fld) (v : Nat) : (s.setF x v).bytes = s.bytes := (rfl)
@[simp] theorem State.setF_clk (x : Fld) (v : Nat) : (s.setF x v).clk = s.clk := (rfl)
@[simp] theorem State.setF_node (x : Fld) (v : Nat) : (s.setF x v).node = s.node := (rfl)
@[simp] theorem State.setF_lanes (x : Fld) (v : Nat) : (s.setF x v).lanes = s.lanes := (rfl)
@[simp] theorem State.setF_cmd (x : Fld) (v : Nat) : (s.setF x v).cmd = s.cmd := (rfl)
@[simp] theorem State.setF_hub (x : Fld) (v : Nat) : (s.setF x v).hub = s.hub := (rfl)
@[simp] theorem State.setF_unitSts (x : Fld) (v : Nat) : (s.setF x v).unitSts = s.unitSts := (rfl)
@[simp] theorem State.setF_yar (x : Fld) (v : Nat) : (s.setF x v).yar = s.yar := (rfl)
@[simp] theorem State.setF_tree (x : Fld) (v : Nat) : (s.setF x v).tree = s.tree := (rfl)
@[simp] theorem State.setF_swu (x : Fld) (v : Nat) : (s.setF x v).swu = s.swu := (rfl)
@[simp] theorem State.setF_loop (x : Fld) (v : Nat) : (s.setF x v).loop = s.loop := (rfl)
@[simp] theorem State.setF_safe (x : Fld) (v : Nat) : (s.setF x v).safe = s.safe := (rfl)
@[simp] theorem State.setF_meas (x : Fld) (v : Nat) : (s.setF x v).meas = s.meas := (rfl)
@[simp] theorem State.setF_disp (x : Fld) (v : Nat) : (s.setF x v).disp = s.disp := (rfl)
@[simp] theorem State.setF_guard (x : Fld) (v : Nat) : (s.setF x v).guard = s.guard := (rfl)
@[simp] theorem State.setF_recorder (x : Fld) (v : Nat) : (s.setF x v).recorder = s.recorder := (rfl)
@[simp] theorem State.setF_twin (x : Fld) (v : Nat) : (s.setF x v).twin = s.twin := (rfl)
@[simp] theorem State.setF_child (x : Fld) (v : Nat) : (s.setF x v).child = s.child := (rfl)
@[simp] theorem State.setF_life (x : Fld) (v : Nat) : (s.setF x v).life = s.life := (rfl)
@[simp] theorem State.setF_fbus (x : Fld) (v : Nat) : (s.setF x v).fbus = s.fbus := (rfl)
@[simp] theorem State.setF_freeCount (x : Fld) (v : Nat) : (s.setF x v).freeCount = s.freeCount := (rfl)

@[simp] theorem State.bumpBy_pending (x : Fld) (n : Nat) : (s.bumpBy x n).pending = s.pending := (rfl)
@[simp] theorem State.bumpBy_bytes (x : Fld) (n : Nat) : (s.bumpBy x n).bytes = s.bytes := (rfl)
@[simp] theorem State.bumpBy_clk (x : Fld) (n : Nat) : (s.bumpBy x n).clk = s.clk := (rfl)
@[simp] theorem State.bumpBy_node (x : Fld) (n : Nat) : (s.bumpBy x n).node = s.node := (rfl)
@[simp] theorem State.bumpBy_lanes (x : Fld) (n : Nat) : (s.bumpBy x n).lanes = s.lanes := (rfl)
@[simp] theorem State.bumpBy_cmd (x : Fld) (n : Nat) : (s.bumpBy x n).cmd = s.cmd := (rfl)
@[simp] theorem State.bumpBy_hub (x : Fld) (n : Nat) : (s.bumpBy x n).hub = s.hub := (rfl)
@[simp] theorem State.bumpBy_unitSts (x : Fld) (n : Nat) : (s.bumpBy x n).unitSts = s.unitSts := (rfl)
@[simp] theorem State.bumpBy_yar (x : Fld) (n : Nat) : (s.bumpBy x n).yar = s.yar := (rfl)
@[simp] theorem State.bumpBy_tree (x : Fld) (n : Nat) : (s.bumpBy x n).tree = s.tree := (rfl)
@[simp] theorem State.bumpBy_swu (x : Fld) (n : Nat) : (s.bumpBy x n).swu = s.swu := (rfl)
@[simp] theorem State.bumpBy_loop (x : Fld) (n : Nat) : (s.bumpBy x n).loop = s.loop := (rfl)
@[simp] theorem State.bumpBy_safe (x : Fld) (n : Nat) : (s.bumpBy x n).safe = s.safe := (rfl)
@[simp] theorem State.bumpBy_meas (x : Fld) (n : Nat) : (s.bumpBy x n).meas = s.meas := (rfl)
@[simp] theorem State.bumpBy_disp (x : Fld) (n : Nat) : (s.bumpBy x n).disp = s.disp := (rfl)
@[simp] theorem State.bumpBy_guard (x : Fld) (n : Nat) : (s.bumpBy x n).guard = s.guard := (rfl)
@[simp] theorem State.bumpBy_recorder (x : Fld) (n : Nat) : (s.bumpBy x n).recorder = s.recorder := (rfl)
@[simp] theorem State.bumpBy_twin (x : Fld) (n : Nat) : (s.bumpBy x n).twin = s.twin := (rfl)
@[simp] theorem State.bumpBy_child (x : Fld) (n : Nat) : (s.bumpBy x n).child = s.child := (rfl)
@[simp] theorem State.bumpBy_life (x : Fld) (n : Nat) : (s.bumpBy x n).life = s.life := (rfl)
@[simp] theorem State.bumpBy_fbus (x : Fld) (n : Nat) : (s.bumpBy x n).fbus = s.fbus := (rfl)
@[simp] theorem State.bumpBy_freeCount (x : Fld) (n : Nat) : (s.bumpBy x n).freeCount = s.freeCount := (rfl)

@[simp] theorem State.bump_pending (x : Fld) : (s.bump x).pending = s.pending := (rfl)
@[simp] theorem State.bump_bytes (x : Fld) : (s.bump x).bytes = s.bytes := (rfl)
@[simp] theorem State.bump_clk (x : Fld) : (s.bump x).clk = s.clk := (rfl)
@[simp] theorem State.bump_node (x : Fld) : (s.bump x).node = s.node := (rfl)
@[simp] theorem State.bump_lanes (x : Fld) : (s.bump x).lanes = s.lanes := (rfl)
@[simp] theorem State.bump_cmd (x : Fld) : (s.bump x).cmd = s.cmd := (rfl)
@[simp] theorem State.bump_hub (x : Fld) : (s.bump x).hub = s.hub := (rfl)
@[simp] theorem State.bump_unitSts (x : Fld) : (s.bump x).unitSts = s.unitSts := (rfl)
@[simp] theorem State.bump_yar (x : Fld) : (s.bump x).yar = s.yar := (rfl)
@[simp] theorem State.bump_tree (x : Fld) : (s.bump x).tree = s.tree := (rfl)
@[simp] theorem State.bump_swu (x : Fld) : (s.bump x).swu = s.swu := (rfl)
@[simp] theorem State.bump_loop (x : Fld) : (s.bump x).loop = s.loop := (rfl)
@[simp] theorem State.bump_safe (x : Fld) : (s.bump x).safe = s.safe := (rfl)
@[simp] theorem State.bump_meas (x : Fld) : (s.bump x).meas = s.meas := (rfl)
@[simp] theorem State.bump_disp (x : Fld) : (s.bump x).disp = s.disp := (rfl)
@[simp] theorem State.bump_guard (x : Fld) : (s.bump x).guard = s.guard := (rfl)
@[simp] theorem State.bump_recorder (x : Fld) : (s.bump x).recorder = s.recorder := (rfl)
@[simp] theorem State.bump_twin (x : Fld) : (s.bump x).twin = s.twin := (rfl)
@[simp] theorem State.bump_child (x : Fld) : (s.bump x).child = s.child := (rfl)
@[simp] theorem State.bump_life (x : Fld) : (s.bump x).life = s.life := (rfl)
@[simp] theorem State.bump_fbus (x : Fld) : (s.bump x).fbus = s.fbus := (rfl)
@[simp] theorem State.bump_freeCount (x : Fld) : (s.bump x).freeCount = s.freeCount := (rfl)

@[simp] theorem State.setBit_pending (x : Fld) (i : Nat) : (s.setBit x i).pending = s.pending := (rfl)
@[simp] theorem State.setBit_bytes (x : Fld) (i : Nat) : (s.setBit x i).bytes = s.bytes := (rfl)
@[simp] theorem State.setBit_clk (x : Fld) (i : Nat) : (s.setBit x i).clk = s.clk := (rfl)
@[simp] theorem State.setBit_node (x : Fld) (i : Nat) : (s.setBit x i).node = s.node := (rfl)
@[simp] theorem State.setBit_lanes (x : Fld) (i : Nat) : (s.setBit x i).lanes = s.lanes := (rfl)
@[simp] theorem State.setBit_cmd (x : Fld) (i : Nat) : (s.setBit x i).cmd = s.cmd := (rfl)
@[simp] theorem State.setBit_hub (x : Fld) (i : Nat) : (s.setBit x i).hub = s.hub := (rfl)
@[simp] theorem State.setBit_unitSts (x : Fld) (i : Nat) : (s.setBit x i).unitSts = s.unitSts := (rfl)
@[simp] theorem State.setBit_yar (x : Fld) (i : Nat) : (s.setBit x i).yar = s.yar := (rfl)
@[simp] theorem State.setBit_tree (x : Fld) (i : Nat) : (s.setBit x i).tree = s.tree := (rfl)
@[simp] theorem State.setBit_swu (x : Fld) (i : Nat) : (s.setBit x i).swu = s.swu := (rfl)
@[simp] theorem State.setBit_loop (x : Fld) (i : Nat) : (s.setBit x i).loop = s.loop := (rfl)
@[simp] theorem State.setBit_safe (x : Fld) (i : Nat) : (s.setBit x i).safe = s.safe := (rfl)
@[simp] theorem State.setBit_meas (x : Fld) (i : Nat) : (s.setBit x i).meas = s.meas := (rfl)
@[simp] theorem State.setBit_disp (x : Fld) (i : Nat) : (s.setBit x i).disp = s.disp := (rfl)
@[simp] theorem State.setBit_guard (x : Fld) (i : Nat) : (s.setBit x i).guard = s.guard := (rfl)
@[simp] theorem State.setBit_recorder (x : Fld) (i : Nat) : (s.setBit x i).recorder = s.recorder := (rfl)
@[simp] theorem State.setBit_twin (x : Fld) (i : Nat) : (s.setBit x i).twin = s.twin := (rfl)
@[simp] theorem State.setBit_child (x : Fld) (i : Nat) : (s.setBit x i).child = s.child := (rfl)
@[simp] theorem State.setBit_life (x : Fld) (i : Nat) : (s.setBit x i).life = s.life := (rfl)
@[simp] theorem State.setBit_fbus (x : Fld) (i : Nat) : (s.setBit x i).fbus = s.fbus := (rfl)
@[simp] theorem State.setBit_freeCount (x : Fld) (i : Nat) : (s.setBit x i).freeCount = s.freeCount := (rfl)

@[simp] theorem State.clrBit_pending (x : Fld) (i : Nat) : (s.clrBit x i).pending = s.pending := (rfl)
@[simp] theorem State.clrBit_bytes (x : Fld) (i : Nat) : (s.clrBit x i).bytes = s.bytes := (rfl)
@[simp] theorem State.clrBit_clk (x : Fld) (i : Nat) : (s.clrBit x i).clk = s.clk := (rfl)
@[simp] theorem State.clrBit_node (x : Fld) (i : Nat) : (s.clrBit x i).node = s.node := (rfl)
@[simp] theorem State.clrBit_lanes (x : Fld) (i : Nat) : (s.clrBit x i).lanes = s.lanes := (rfl)
@[simp] theorem State.clrBit_cmd (x : Fld) (i : Nat) : (s.clrBit x i).cmd = s.cmd := (rfl)
@[simp] theorem State.clrBit_hub (x : Fld) (i : Nat) : (s.clrBit x i).hub = s.hub := (rfl)
@[simp] theorem State.clrBit_unitSts (x : Fld) (i : Nat) : (s.clrBit x i).unitSts = s.unitSts := (rfl)
@[simp] theorem State.clrBit_yar (x : Fld) (i : Nat) : (s.clrBit x i).yar = s.yar := (rfl)
@[simp] theorem State.clrBit_tree (x : Fld) (i : Nat) : (s.clrBit x i).tree = s.tree := (rfl)
@[simp] theorem State.clrBit_swu (x : Fld) (i : Nat) : (s.clrBit x i).swu = s.swu := (rfl)
@[simp] theorem State.clrBit_loop (x : Fld) (i : Nat) : (s.clrBit x i).loop = s.loop := (rfl)
@[simp] theorem State.clrBit_safe (x : Fld) (i : Nat) : (s.clrBit x i).safe = s.safe := (rfl)
@[simp] theorem State.clrBit_meas (x : Fld) (i : Nat) : (s.clrBit x i).meas = s.meas := (rfl)
@[simp] theorem State.clrBit_disp (x : Fld) (i : Nat) : (s.clrBit x i).disp = s.disp := (rfl)
@[simp] theorem State.clrBit_guard (x : Fld) (i : Nat) : (s.clrBit x i).guard = s.guard := (rfl)
@[simp] theorem State.clrBit_recorder (x : Fld) (i : Nat) : (s.clrBit x i).recorder = s.recorder := (rfl)
@[simp] theorem State.clrBit_twin (x : Fld) (i : Nat) : (s.clrBit x i).twin = s.twin := (rfl)
@[simp] theorem State.clrBit_child (x : Fld) (i : Nat) : (s.clrBit x i).child = s.child := (rfl)
@[simp] theorem State.clrBit_life (x : Fld) (i : Nat) : (s.clrBit x i).life = s.life := (rfl)
@[simp] theorem State.clrBit_fbus (x : Fld) (i : Nat) : (s.clrBit x i).fbus = s.fbus := (rfl)
@[simp] theorem State.clrBit_freeCount (x : Fld) (i : Nat) : (s.clrBit x i).freeCount = s.freeCount := (rfl)

@[simp] theorem State.enter_pending (c : Nat) : (s.enter c).pending = s.pending := (rfl)
@[simp] theorem State.enter_bytes (c : Nat) : (s.enter c).bytes = s.bytes := (rfl)
@[simp] theorem State.enter_clk (c : Nat) : (s.enter c).clk = s.clk := (rfl)
@[simp] theorem State.enter_lanes (c : Nat) : (s.enter c).lanes = s.lanes := (rfl)
@[simp] theorem State.enter_cmd (c : Nat) : (s.enter c).cmd = s.cmd := (rfl)
@[simp] theorem State.enter_hub (c : Nat) : (s.enter c).hub = s.hub := (rfl)
@[simp] theorem State.enter_unitSts (c : Nat) : (s.enter c).unitSts = s.unitSts := (rfl)
@[simp] theorem State.enter_yar (c : Nat) : (s.enter c).yar = s.yar := (rfl)
@[simp] theorem State.enter_tree (c : Nat) : (s.enter c).tree = s.tree := (rfl)
@[simp] theorem State.enter_swu (c : Nat) : (s.enter c).swu = s.swu := (rfl)
@[simp] theorem State.enter_loop (c : Nat) : (s.enter c).loop = s.loop := (rfl)
@[simp] theorem State.enter_safe (c : Nat) : (s.enter c).safe = s.safe := (rfl)
@[simp] theorem State.enter_meas (c : Nat) : (s.enter c).meas = s.meas := (rfl)
@[simp] theorem State.enter_disp (c : Nat) : (s.enter c).disp = s.disp := (rfl)
@[simp] theorem State.enter_guard (c : Nat) : (s.enter c).guard = s.guard := (rfl)
@[simp] theorem State.enter_recorder (c : Nat) : (s.enter c).recorder = s.recorder := (rfl)
@[simp] theorem State.enter_twin (c : Nat) : (s.enter c).twin = s.twin := (rfl)
@[simp] theorem State.enter_child (c : Nat) : (s.enter c).child = s.child := (rfl)
@[simp] theorem State.enter_life (c : Nat) : (s.enter c).life = s.life := (rfl)
@[simp] theorem State.enter_fbus (c : Nat) : (s.enter c).fbus = s.fbus := (rfl)
@[simp] theorem State.enter_freeCount (c : Nat) : (s.enter c).freeCount = s.freeCount := (rfl)

@[simp] theorem State.setMem_pending (a : Nat) (b : Byte) : (s.setMem a b).pending = s.pending := (rfl)
@[simp] theorem State.setMem_regs (a : Nat) (b : Byte) : (s.setMem a b).regs = s.regs := (rfl)
@[simp] theorem State.setMem_clk (a : Nat) (b : Byte) : (s.setMem a b).clk = s.clk := (rfl)
@[simp] theorem State.setMem_node (a : Nat) (b : Byte) : (s.setMem a b).node = s.node := (rfl)
@[simp] theorem State.setMem_lanes (a : Nat) (b : Byte) : (s.setMem a b).lanes = s.lanes := (rfl)
@[simp] theorem State.setMem_cmd (a : Nat) (b : Byte) : (s.setMem a b).cmd = s.cmd := (rfl)
@[simp] theorem State.setMem_hub (a : Nat) (b : Byte) : (s.setMem a b).hub = s.hub := (rfl)
@[simp] theorem State.setMem_unitSts (a : Nat) (b : Byte) : (s.setMem a b).unitSts = s.unitSts := (rfl)
@[simp] theorem State.setMem_yar (a : Nat) (b : Byte) : (s.setMem a b).yar = s.yar := (rfl)
@[simp] theorem State.setMem_tree (a : Nat) (b : Byte) : (s.setMem a b).tree = s.tree := (rfl)
@[simp] theorem State.setMem_swu (a : Nat) (b : Byte) : (s.setMem a b).swu = s.swu := (rfl)
@[simp] theorem State.setMem_loop (a : Nat) (b : Byte) : (s.setMem a b).loop = s.loop := (rfl)
@[simp] theorem State.setMem_safe (a : Nat) (b : Byte) : (s.setMem a b).safe = s.safe := (rfl)
@[simp] theorem State.setMem_meas (a : Nat) (b : Byte) : (s.setMem a b).meas = s.meas := (rfl)
@[simp] theorem State.setMem_disp (a : Nat) (b : Byte) : (s.setMem a b).disp = s.disp := (rfl)
@[simp] theorem State.setMem_guard (a : Nat) (b : Byte) : (s.setMem a b).guard = s.guard := (rfl)
@[simp] theorem State.setMem_recorder (a : Nat) (b : Byte) : (s.setMem a b).recorder = s.recorder := (rfl)
@[simp] theorem State.setMem_twin (a : Nat) (b : Byte) : (s.setMem a b).twin = s.twin := (rfl)
@[simp] theorem State.setMem_child (a : Nat) (b : Byte) : (s.setMem a b).child = s.child := (rfl)
@[simp] theorem State.setMem_life (a : Nat) (b : Byte) : (s.setMem a b).life = s.life := (rfl)
@[simp] theorem State.setMem_fbus (a : Nat) (b : Byte) : (s.setMem a b).fbus = s.fbus := (rfl)
@[simp] theorem State.setMem_freeCount (a : Nat) (b : Byte) : (s.setMem a b).freeCount = s.freeCount := (rfl)

@[simp] theorem State.pass_pending (d : Nat) : (s.pass d).pending = s.pending := (rfl)
@[simp] theorem State.pass_regs (d : Nat) : (s.pass d).regs = s.regs := (rfl)
@[simp] theorem State.pass_bytes (d : Nat) : (s.pass d).bytes = s.bytes := (rfl)
@[simp] theorem State.pass_node (d : Nat) : (s.pass d).node = s.node := (rfl)
@[simp] theorem State.pass_lanes (d : Nat) : (s.pass d).lanes = s.lanes := (rfl)
@[simp] theorem State.pass_cmd (d : Nat) : (s.pass d).cmd = s.cmd := (rfl)
@[simp] theorem State.pass_hub (d : Nat) : (s.pass d).hub = s.hub := (rfl)
@[simp] theorem State.pass_unitSts (d : Nat) : (s.pass d).unitSts = s.unitSts := (rfl)
@[simp] theorem State.pass_yar (d : Nat) : (s.pass d).yar = s.yar := (rfl)
@[simp] theorem State.pass_tree (d : Nat) : (s.pass d).tree = s.tree := (rfl)
@[simp] theorem State.pass_swu (d : Nat) : (s.pass d).swu = s.swu := (rfl)
@[simp] theorem State.pass_loop (d : Nat) : (s.pass d).loop = s.loop := (rfl)
@[simp] theorem State.pass_safe (d : Nat) : (s.pass d).safe = s.safe := (rfl)
@[simp] theorem State.pass_meas (d : Nat) : (s.pass d).meas = s.meas := (rfl)
@[simp] theorem State.pass_disp (d : Nat) : (s.pass d).disp = s.disp := (rfl)
@[simp] theorem State.pass_guard (d : Nat) : (s.pass d).guard = s.guard := (rfl)
@[simp] theorem State.pass_recorder (d : Nat) : (s.pass d).recorder = s.recorder := (rfl)
@[simp] theorem State.pass_twin (d : Nat) : (s.pass d).twin = s.twin := (rfl)
@[simp] theorem State.pass_child (d : Nat) : (s.pass d).child = s.child := (rfl)
@[simp] theorem State.pass_life (d : Nat) : (s.pass d).life = s.life := (rfl)
@[simp] theorem State.pass_fbus (d : Nat) : (s.pass d).fbus = s.fbus := (rfl)
@[simp] theorem State.pass_freeCount (d : Nat) : (s.pass d).freeCount = s.freeCount := (rfl)

@[simp] theorem State.raise_pending (n : Nat) : (s.raise n).pending = s.pending := (rfl)
@[simp] theorem State.raise_regs (n : Nat) : (s.raise n).regs = s.regs := (rfl)
@[simp] theorem State.raise_bytes (n : Nat) : (s.raise n).bytes = s.bytes := (rfl)
@[simp] theorem State.raise_clk (n : Nat) : (s.raise n).clk = s.clk := (rfl)
@[simp] theorem State.raise_node (n : Nat) : (s.raise n).node = s.node := (rfl)
@[simp] theorem State.raise_lanes (n : Nat) : (s.raise n).lanes = s.lanes := (rfl)
@[simp] theorem State.raise_cmd (n : Nat) : (s.raise n).cmd = s.cmd := (rfl)
@[simp] theorem State.raise_unitSts (n : Nat) : (s.raise n).unitSts = s.unitSts := (rfl)
@[simp] theorem State.raise_yar (n : Nat) : (s.raise n).yar = s.yar := (rfl)
@[simp] theorem State.raise_tree (n : Nat) : (s.raise n).tree = s.tree := (rfl)
@[simp] theorem State.raise_swu (n : Nat) : (s.raise n).swu = s.swu := (rfl)
@[simp] theorem State.raise_loop (n : Nat) : (s.raise n).loop = s.loop := (rfl)
@[simp] theorem State.raise_safe (n : Nat) : (s.raise n).safe = s.safe := (rfl)
@[simp] theorem State.raise_meas (n : Nat) : (s.raise n).meas = s.meas := (rfl)
@[simp] theorem State.raise_disp (n : Nat) : (s.raise n).disp = s.disp := (rfl)
@[simp] theorem State.raise_guard (n : Nat) : (s.raise n).guard = s.guard := (rfl)
@[simp] theorem State.raise_recorder (n : Nat) : (s.raise n).recorder = s.recorder := (rfl)
@[simp] theorem State.raise_twin (n : Nat) : (s.raise n).twin = s.twin := (rfl)
@[simp] theorem State.raise_child (n : Nat) : (s.raise n).child = s.child := (rfl)
@[simp] theorem State.raise_life (n : Nat) : (s.raise n).life = s.life := (rfl)
@[simp] theorem State.raise_fbus (n : Nat) : (s.raise n).fbus = s.fbus := (rfl)
@[simp] theorem State.raise_freeCount (n : Nat) : (s.raise n).freeCount = s.freeCount := (rfl)

@[simp] theorem State.setLane_pending (n : Nat) (l : Lane) : (s.setLane n l).pending = s.pending := (rfl)
@[simp] theorem State.setLane_regs (n : Nat) (l : Lane) : (s.setLane n l).regs = s.regs := (rfl)
@[simp] theorem State.setLane_bytes (n : Nat) (l : Lane) : (s.setLane n l).bytes = s.bytes := (rfl)
@[simp] theorem State.setLane_clk (n : Nat) (l : Lane) : (s.setLane n l).clk = s.clk := (rfl)
@[simp] theorem State.setLane_node (n : Nat) (l : Lane) : (s.setLane n l).node = s.node := (rfl)
@[simp] theorem State.setLane_cmd (n : Nat) (l : Lane) : (s.setLane n l).cmd = s.cmd := (rfl)
@[simp] theorem State.setLane_hub (n : Nat) (l : Lane) : (s.setLane n l).hub = s.hub := (rfl)
@[simp] theorem State.setLane_unitSts (n : Nat) (l : Lane) : (s.setLane n l).unitSts = s.unitSts := (rfl)
@[simp] theorem State.setLane_yar (n : Nat) (l : Lane) : (s.setLane n l).yar = s.yar := (rfl)
@[simp] theorem State.setLane_tree (n : Nat) (l : Lane) : (s.setLane n l).tree = s.tree := (rfl)
@[simp] theorem State.setLane_swu (n : Nat) (l : Lane) : (s.setLane n l).swu = s.swu := (rfl)
@[simp] theorem State.setLane_loop (n : Nat) (l : Lane) : (s.setLane n l).loop = s.loop := (rfl)
@[simp] theorem State.setLane_safe (n : Nat) (l : Lane) : (s.setLane n l).safe = s.safe := (rfl)
@[simp] theorem State.setLane_meas (n : Nat) (l : Lane) : (s.setLane n l).meas = s.meas := (rfl)
@[simp] theorem State.setLane_disp (n : Nat) (l : Lane) : (s.setLane n l).disp = s.disp := (rfl)
@[simp] theorem State.setLane_guard (n : Nat) (l : Lane) : (s.setLane n l).guard = s.guard := (rfl)
@[simp] theorem State.setLane_recorder (n : Nat) (l : Lane) : (s.setLane n l).recorder = s.recorder := (rfl)
@[simp] theorem State.setLane_twin (n : Nat) (l : Lane) : (s.setLane n l).twin = s.twin := (rfl)
@[simp] theorem State.setLane_child (n : Nat) (l : Lane) : (s.setLane n l).child = s.child := (rfl)
@[simp] theorem State.setLane_life (n : Nat) (l : Lane) : (s.setLane n l).life = s.life := (rfl)
@[simp] theorem State.setLane_fbus (n : Nat) (l : Lane) : (s.setLane n l).fbus = s.fbus := (rfl)
@[simp] theorem State.setLane_freeCount (n : Nat) (l : Lane) : (s.setLane n l).freeCount = s.freeCount := (rfl)

@[simp] theorem State.updLane_pending (n : Nat) (g : Lane → Lane) : (s.updLane n g).pending = s.pending := (rfl)
@[simp] theorem State.updLane_regs (n : Nat) (g : Lane → Lane) : (s.updLane n g).regs = s.regs := (rfl)
@[simp] theorem State.updLane_bytes (n : Nat) (g : Lane → Lane) : (s.updLane n g).bytes = s.bytes := (rfl)
@[simp] theorem State.updLane_clk (n : Nat) (g : Lane → Lane) : (s.updLane n g).clk = s.clk := (rfl)
@[simp] theorem State.updLane_node (n : Nat) (g : Lane → Lane) : (s.updLane n g).node = s.node := (rfl)
@[simp] theorem State.updLane_cmd (n : Nat) (g : Lane → Lane) : (s.updLane n g).cmd = s.cmd := (rfl)
@[simp] theorem State.updLane_hub (n : Nat) (g : Lane → Lane) : (s.updLane n g).hub = s.hub := (rfl)
@[simp] theorem State.updLane_unitSts (n : Nat) (g : Lane → Lane) : (s.updLane n g).unitSts = s.unitSts := (rfl)
@[simp] theorem State.updLane_yar (n : Nat) (g : Lane → Lane) : (s.updLane n g).yar = s.yar := (rfl)
@[simp] theorem State.updLane_tree (n : Nat) (g : Lane → Lane) : (s.updLane n g).tree = s.tree := (rfl)
@[simp] theorem State.updLane_swu (n : Nat) (g : Lane → Lane) : (s.updLane n g).swu = s.swu := (rfl)
@[simp] theorem State.updLane_loop (n : Nat) (g : Lane → Lane) : (s.updLane n g).loop = s.loop := (rfl)
@[simp] theorem State.updLane_safe (n : Nat) (g : Lane → Lane) : (s.updLane n g).safe = s.safe := (rfl)
@[simp] theorem State.updLane_meas (n : Nat) (g : Lane → Lane) : (s.updLane n g).meas = s.meas := (rfl)
@[simp] theorem State.updLane_disp (n : Nat) (g : Lane → Lane) : (s.updLane n g).disp = s.disp := (rfl)
@[simp] theorem State.updLane_guard (n : Nat) (g : Lane → Lane) : (s.updLane n g).guard = s.guard := (rfl)
@[simp] theorem State.updLane_recorder (n : Nat) (g : Lane → Lane) : (s.updLane n g).recorder = s.recorder := (rfl)
@[simp] theorem State.updLane_twin (n : Nat) (g : Lane → Lane) : (s.updLane n g).twin = s.twin := (rfl)
@[simp] theorem State.updLane_child (n : Nat) (g : Lane → Lane) : (s.updLane n g).child = s.child := (rfl)
@[simp] theorem State.updLane_life (n : Nat) (g : Lane → Lane) : (s.updLane n g).life = s.life := (rfl)
@[simp] theorem State.updLane_fbus (n : Nat) (g : Lane → Lane) : (s.updLane n g).fbus = s.fbus := (rfl)
@[simp] theorem State.updLane_freeCount (n : Nat) (g : Lane → Lane) : (s.updLane n g).freeCount = s.freeCount := (rfl)

@[simp] theorem State.setPool_pending (n : Nat) (p : Pool) : (s.setPool n p).pending = s.pending := (rfl)
@[simp] theorem State.setPool_regs (n : Nat) (p : Pool) : (s.setPool n p).regs = s.regs := (rfl)
@[simp] theorem State.setPool_bytes (n : Nat) (p : Pool) : (s.setPool n p).bytes = s.bytes := (rfl)
@[simp] theorem State.setPool_clk (n : Nat) (p : Pool) : (s.setPool n p).clk = s.clk := (rfl)
@[simp] theorem State.setPool_node (n : Nat) (p : Pool) : (s.setPool n p).node = s.node := (rfl)
@[simp] theorem State.setPool_lanes (n : Nat) (p : Pool) : (s.setPool n p).lanes = s.lanes := (rfl)
@[simp] theorem State.setPool_hub (n : Nat) (p : Pool) : (s.setPool n p).hub = s.hub := (rfl)
@[simp] theorem State.setPool_unitSts (n : Nat) (p : Pool) : (s.setPool n p).unitSts = s.unitSts := (rfl)
@[simp] theorem State.setPool_yar (n : Nat) (p : Pool) : (s.setPool n p).yar = s.yar := (rfl)
@[simp] theorem State.setPool_tree (n : Nat) (p : Pool) : (s.setPool n p).tree = s.tree := (rfl)
@[simp] theorem State.setPool_swu (n : Nat) (p : Pool) : (s.setPool n p).swu = s.swu := (rfl)
@[simp] theorem State.setPool_loop (n : Nat) (p : Pool) : (s.setPool n p).loop = s.loop := (rfl)
@[simp] theorem State.setPool_safe (n : Nat) (p : Pool) : (s.setPool n p).safe = s.safe := (rfl)
@[simp] theorem State.setPool_meas (n : Nat) (p : Pool) : (s.setPool n p).meas = s.meas := (rfl)
@[simp] theorem State.setPool_disp (n : Nat) (p : Pool) : (s.setPool n p).disp = s.disp := (rfl)
@[simp] theorem State.setPool_guard (n : Nat) (p : Pool) : (s.setPool n p).guard = s.guard := (rfl)
@[simp] theorem State.setPool_recorder (n : Nat) (p : Pool) : (s.setPool n p).recorder = s.recorder := (rfl)
@[simp] theorem State.setPool_twin (n : Nat) (p : Pool) : (s.setPool n p).twin = s.twin := (rfl)
@[simp] theorem State.setPool_child (n : Nat) (p : Pool) : (s.setPool n p).child = s.child := (rfl)
@[simp] theorem State.setPool_life (n : Nat) (p : Pool) : (s.setPool n p).life = s.life := (rfl)
@[simp] theorem State.setPool_fbus (n : Nat) (p : Pool) : (s.setPool n p).fbus = s.fbus := (rfl)
@[simp] theorem State.setPool_freeCount (n : Nat) (p : Pool) : (s.setPool n p).freeCount = s.freeCount := (rfl)

@[simp] theorem State.setUnit_pending (n : Nat) (u : UnitSt) : (s.setUnit n u).pending = s.pending := (rfl)
@[simp] theorem State.setUnit_regs (n : Nat) (u : UnitSt) : (s.setUnit n u).regs = s.regs := (rfl)
@[simp] theorem State.setUnit_bytes (n : Nat) (u : UnitSt) : (s.setUnit n u).bytes = s.bytes := (rfl)
@[simp] theorem State.setUnit_clk (n : Nat) (u : UnitSt) : (s.setUnit n u).clk = s.clk := (rfl)
@[simp] theorem State.setUnit_node (n : Nat) (u : UnitSt) : (s.setUnit n u).node = s.node := (rfl)
@[simp] theorem State.setUnit_lanes (n : Nat) (u : UnitSt) : (s.setUnit n u).lanes = s.lanes := (rfl)
@[simp] theorem State.setUnit_cmd (n : Nat) (u : UnitSt) : (s.setUnit n u).cmd = s.cmd := (rfl)
@[simp] theorem State.setUnit_hub (n : Nat) (u : UnitSt) : (s.setUnit n u).hub = s.hub := (rfl)
@[simp] theorem State.setUnit_yar (n : Nat) (u : UnitSt) : (s.setUnit n u).yar = s.yar := (rfl)
@[simp] theorem State.setUnit_tree (n : Nat) (u : UnitSt) : (s.setUnit n u).tree = s.tree := (rfl)
@[simp] theorem State.setUnit_swu (n : Nat) (u : UnitSt) : (s.setUnit n u).swu = s.swu := (rfl)
@[simp] theorem State.setUnit_loop (n : Nat) (u : UnitSt) : (s.setUnit n u).loop = s.loop := (rfl)
@[simp] theorem State.setUnit_safe (n : Nat) (u : UnitSt) : (s.setUnit n u).safe = s.safe := (rfl)
@[simp] theorem State.setUnit_meas (n : Nat) (u : UnitSt) : (s.setUnit n u).meas = s.meas := (rfl)
@[simp] theorem State.setUnit_disp (n : Nat) (u : UnitSt) : (s.setUnit n u).disp = s.disp := (rfl)
@[simp] theorem State.setUnit_guard (n : Nat) (u : UnitSt) : (s.setUnit n u).guard = s.guard := (rfl)
@[simp] theorem State.setUnit_recorder (n : Nat) (u : UnitSt) : (s.setUnit n u).recorder = s.recorder := (rfl)
@[simp] theorem State.setUnit_twin (n : Nat) (u : UnitSt) : (s.setUnit n u).twin = s.twin := (rfl)
@[simp] theorem State.setUnit_child (n : Nat) (u : UnitSt) : (s.setUnit n u).child = s.child := (rfl)
@[simp] theorem State.setUnit_life (n : Nat) (u : UnitSt) : (s.setUnit n u).life = s.life := (rfl)
@[simp] theorem State.setUnit_fbus (n : Nat) (u : UnitSt) : (s.setUnit n u).fbus = s.fbus := (rfl)
@[simp] theorem State.setUnit_freeCount (n : Nat) (u : UnitSt) : (s.setUnit n u).freeCount = s.freeCount := (rfl)

@[simp] theorem State.updUnit_pending (n : Nat) (g : UnitSt → UnitSt) : (s.updUnit n g).pending = s.pending := (rfl)
@[simp] theorem State.updUnit_regs (n : Nat) (g : UnitSt → UnitSt) : (s.updUnit n g).regs = s.regs := (rfl)
@[simp] theorem State.updUnit_bytes (n : Nat) (g : UnitSt → UnitSt) : (s.updUnit n g).bytes = s.bytes := (rfl)
@[simp] theorem State.updUnit_clk (n : Nat) (g : UnitSt → UnitSt) : (s.updUnit n g).clk = s.clk := (rfl)
@[simp] theorem State.updUnit_node (n : Nat) (g : UnitSt → UnitSt) : (s.updUnit n g).node = s.node := (rfl)
@[simp] theorem State.updUnit_lanes (n : Nat) (g : UnitSt → UnitSt) : (s.updUnit n g).lanes = s.lanes := (rfl)
@[simp] theorem State.updUnit_cmd (n : Nat) (g : UnitSt → UnitSt) : (s.updUnit n g).cmd = s.cmd := (rfl)
@[simp] theorem State.updUnit_hub (n : Nat) (g : UnitSt → UnitSt) : (s.updUnit n g).hub = s.hub := (rfl)
@[simp] theorem State.updUnit_yar (n : Nat) (g : UnitSt → UnitSt) : (s.updUnit n g).yar = s.yar := (rfl)
@[simp] theorem State.updUnit_tree (n : Nat) (g : UnitSt → UnitSt) : (s.updUnit n g).tree = s.tree := (rfl)
@[simp] theorem State.updUnit_swu (n : Nat) (g : UnitSt → UnitSt) : (s.updUnit n g).swu = s.swu := (rfl)
@[simp] theorem State.updUnit_loop (n : Nat) (g : UnitSt → UnitSt) : (s.updUnit n g).loop = s.loop := (rfl)
@[simp] theorem State.updUnit_safe (n : Nat) (g : UnitSt → UnitSt) : (s.updUnit n g).safe = s.safe := (rfl)
@[simp] theorem State.updUnit_meas (n : Nat) (g : UnitSt → UnitSt) : (s.updUnit n g).meas = s.meas := (rfl)
@[simp] theorem State.updUnit_disp (n : Nat) (g : UnitSt → UnitSt) : (s.updUnit n g).disp = s.disp := (rfl)
@[simp] theorem State.updUnit_guard (n : Nat) (g : UnitSt → UnitSt) : (s.updUnit n g).guard = s.guard := (rfl)
@[simp] theorem State.updUnit_recorder (n : Nat) (g : UnitSt → UnitSt) : (s.updUnit n g).recorder = s.recorder := (rfl)
@[simp] theorem State.updUnit_twin (n : Nat) (g : UnitSt → UnitSt) : (s.updUnit n g).twin = s.twin := (rfl)
@[simp] theorem State.updUnit_child (n : Nat) (g : UnitSt → UnitSt) : (s.updUnit n g).child = s.child := (rfl)
@[simp] theorem State.updUnit_life (n : Nat) (g : UnitSt → UnitSt) : (s.updUnit n g).life = s.life := (rfl)
@[simp] theorem State.updUnit_fbus (n : Nat) (g : UnitSt → UnitSt) : (s.updUnit n g).fbus = s.fbus := (rfl)
@[simp] theorem State.updUnit_freeCount (n : Nat) (g : UnitSt → UnitSt) : (s.updUnit n g).freeCount = s.freeCount := (rfl)

@[simp] theorem State.setPair_pending (p : Nat) (x : PairSt) : (s.setPair p x).pending = s.pending := (rfl)
@[simp] theorem State.setPair_regs (p : Nat) (x : PairSt) : (s.setPair p x).regs = s.regs := (rfl)
@[simp] theorem State.setPair_bytes (p : Nat) (x : PairSt) : (s.setPair p x).bytes = s.bytes := (rfl)
@[simp] theorem State.setPair_clk (p : Nat) (x : PairSt) : (s.setPair p x).clk = s.clk := (rfl)
@[simp] theorem State.setPair_node (p : Nat) (x : PairSt) : (s.setPair p x).node = s.node := (rfl)
@[simp] theorem State.setPair_lanes (p : Nat) (x : PairSt) : (s.setPair p x).lanes = s.lanes := (rfl)
@[simp] theorem State.setPair_cmd (p : Nat) (x : PairSt) : (s.setPair p x).cmd = s.cmd := (rfl)
@[simp] theorem State.setPair_hub (p : Nat) (x : PairSt) : (s.setPair p x).hub = s.hub := (rfl)
@[simp] theorem State.setPair_unitSts (p : Nat) (x : PairSt) : (s.setPair p x).unitSts = s.unitSts := (rfl)
@[simp] theorem State.setPair_yar (p : Nat) (x : PairSt) : (s.setPair p x).yar = s.yar := (rfl)
@[simp] theorem State.setPair_tree (p : Nat) (x : PairSt) : (s.setPair p x).tree = s.tree := (rfl)
@[simp] theorem State.setPair_loop (p : Nat) (x : PairSt) : (s.setPair p x).loop = s.loop := (rfl)
@[simp] theorem State.setPair_safe (p : Nat) (x : PairSt) : (s.setPair p x).safe = s.safe := (rfl)
@[simp] theorem State.setPair_meas (p : Nat) (x : PairSt) : (s.setPair p x).meas = s.meas := (rfl)
@[simp] theorem State.setPair_disp (p : Nat) (x : PairSt) : (s.setPair p x).disp = s.disp := (rfl)
@[simp] theorem State.setPair_guard (p : Nat) (x : PairSt) : (s.setPair p x).guard = s.guard := (rfl)
@[simp] theorem State.setPair_recorder (p : Nat) (x : PairSt) : (s.setPair p x).recorder = s.recorder := (rfl)
@[simp] theorem State.setPair_twin (p : Nat) (x : PairSt) : (s.setPair p x).twin = s.twin := (rfl)
@[simp] theorem State.setPair_child (p : Nat) (x : PairSt) : (s.setPair p x).child = s.child := (rfl)
@[simp] theorem State.setPair_life (p : Nat) (x : PairSt) : (s.setPair p x).life = s.life := (rfl)
@[simp] theorem State.setPair_fbus (p : Nat) (x : PairSt) : (s.setPair p x).fbus = s.fbus := (rfl)
@[simp] theorem State.setPair_freeCount (p : Nat) (x : PairSt) : (s.setPair p x).freeCount = s.freeCount := (rfl)

@[simp] theorem State.updPair_pending (p : Nat) (g : PairSt → PairSt) : (s.updPair p g).pending = s.pending := (rfl)
@[simp] theorem State.updPair_regs (p : Nat) (g : PairSt → PairSt) : (s.updPair p g).regs = s.regs := (rfl)
@[simp] theorem State.updPair_bytes (p : Nat) (g : PairSt → PairSt) : (s.updPair p g).bytes = s.bytes := (rfl)
@[simp] theorem State.updPair_clk (p : Nat) (g : PairSt → PairSt) : (s.updPair p g).clk = s.clk := (rfl)
@[simp] theorem State.updPair_node (p : Nat) (g : PairSt → PairSt) : (s.updPair p g).node = s.node := (rfl)
@[simp] theorem State.updPair_lanes (p : Nat) (g : PairSt → PairSt) : (s.updPair p g).lanes = s.lanes := (rfl)
@[simp] theorem State.updPair_cmd (p : Nat) (g : PairSt → PairSt) : (s.updPair p g).cmd = s.cmd := (rfl)
@[simp] theorem State.updPair_hub (p : Nat) (g : PairSt → PairSt) : (s.updPair p g).hub = s.hub := (rfl)
@[simp] theorem State.updPair_unitSts (p : Nat) (g : PairSt → PairSt) : (s.updPair p g).unitSts = s.unitSts := (rfl)
@[simp] theorem State.updPair_yar (p : Nat) (g : PairSt → PairSt) : (s.updPair p g).yar = s.yar := (rfl)
@[simp] theorem State.updPair_tree (p : Nat) (g : PairSt → PairSt) : (s.updPair p g).tree = s.tree := (rfl)
@[simp] theorem State.updPair_loop (p : Nat) (g : PairSt → PairSt) : (s.updPair p g).loop = s.loop := (rfl)
@[simp] theorem State.updPair_safe (p : Nat) (g : PairSt → PairSt) : (s.updPair p g).safe = s.safe := (rfl)
@[simp] theorem State.updPair_meas (p : Nat) (g : PairSt → PairSt) : (s.updPair p g).meas = s.meas := (rfl)
@[simp] theorem State.updPair_disp (p : Nat) (g : PairSt → PairSt) : (s.updPair p g).disp = s.disp := (rfl)
@[simp] theorem State.updPair_guard (p : Nat) (g : PairSt → PairSt) : (s.updPair p g).guard = s.guard := (rfl)
@[simp] theorem State.updPair_recorder (p : Nat) (g : PairSt → PairSt) : (s.updPair p g).recorder = s.recorder := (rfl)
@[simp] theorem State.updPair_twin (p : Nat) (g : PairSt → PairSt) : (s.updPair p g).twin = s.twin := (rfl)
@[simp] theorem State.updPair_child (p : Nat) (g : PairSt → PairSt) : (s.updPair p g).child = s.child := (rfl)
@[simp] theorem State.updPair_life (p : Nat) (g : PairSt → PairSt) : (s.updPair p g).life = s.life := (rfl)
@[simp] theorem State.updPair_fbus (p : Nat) (g : PairSt → PairSt) : (s.updPair p g).fbus = s.fbus := (rfl)
@[simp] theorem State.updPair_freeCount (p : Nat) (g : PairSt → PairSt) : (s.updPair p g).freeCount = s.freeCount := (rfl)

@[simp] theorem State.setSlice_pending (n : Nat) (x : Slice) : (s.setSlice n x).pending = s.pending := (rfl)
@[simp] theorem State.setSlice_regs (n : Nat) (x : Slice) : (s.setSlice n x).regs = s.regs := (rfl)
@[simp] theorem State.setSlice_bytes (n : Nat) (x : Slice) : (s.setSlice n x).bytes = s.bytes := (rfl)
@[simp] theorem State.setSlice_clk (n : Nat) (x : Slice) : (s.setSlice n x).clk = s.clk := (rfl)
@[simp] theorem State.setSlice_node (n : Nat) (x : Slice) : (s.setSlice n x).node = s.node := (rfl)
@[simp] theorem State.setSlice_lanes (n : Nat) (x : Slice) : (s.setSlice n x).lanes = s.lanes := (rfl)
@[simp] theorem State.setSlice_cmd (n : Nat) (x : Slice) : (s.setSlice n x).cmd = s.cmd := (rfl)
@[simp] theorem State.setSlice_hub (n : Nat) (x : Slice) : (s.setSlice n x).hub = s.hub := (rfl)
@[simp] theorem State.setSlice_unitSts (n : Nat) (x : Slice) : (s.setSlice n x).unitSts = s.unitSts := (rfl)
@[simp] theorem State.setSlice_yar (n : Nat) (x : Slice) : (s.setSlice n x).yar = s.yar := (rfl)
@[simp] theorem State.setSlice_tree (n : Nat) (x : Slice) : (s.setSlice n x).tree = s.tree := (rfl)
@[simp] theorem State.setSlice_swu (n : Nat) (x : Slice) : (s.setSlice n x).swu = s.swu := (rfl)
@[simp] theorem State.setSlice_loop (n : Nat) (x : Slice) : (s.setSlice n x).loop = s.loop := (rfl)
@[simp] theorem State.setSlice_safe (n : Nat) (x : Slice) : (s.setSlice n x).safe = s.safe := (rfl)
@[simp] theorem State.setSlice_disp (n : Nat) (x : Slice) : (s.setSlice n x).disp = s.disp := (rfl)
@[simp] theorem State.setSlice_guard (n : Nat) (x : Slice) : (s.setSlice n x).guard = s.guard := (rfl)
@[simp] theorem State.setSlice_recorder (n : Nat) (x : Slice) : (s.setSlice n x).recorder = s.recorder := (rfl)
@[simp] theorem State.setSlice_twin (n : Nat) (x : Slice) : (s.setSlice n x).twin = s.twin := (rfl)
@[simp] theorem State.setSlice_child (n : Nat) (x : Slice) : (s.setSlice n x).child = s.child := (rfl)
@[simp] theorem State.setSlice_life (n : Nat) (x : Slice) : (s.setSlice n x).life = s.life := (rfl)
@[simp] theorem State.setSlice_fbus (n : Nat) (x : Slice) : (s.setSlice n x).fbus = s.fbus := (rfl)
@[simp] theorem State.setSlice_freeCount (n : Nat) (x : Slice) : (s.setSlice n x).freeCount = s.freeCount := (rfl)

@[simp] theorem State.setSeq_pending (q : Nat) (x : SeqSt) : (s.setSeq q x).pending = s.pending := (rfl)
@[simp] theorem State.setSeq_regs (q : Nat) (x : SeqSt) : (s.setSeq q x).regs = s.regs := (rfl)
@[simp] theorem State.setSeq_bytes (q : Nat) (x : SeqSt) : (s.setSeq q x).bytes = s.bytes := (rfl)
@[simp] theorem State.setSeq_clk (q : Nat) (x : SeqSt) : (s.setSeq q x).clk = s.clk := (rfl)
@[simp] theorem State.setSeq_node (q : Nat) (x : SeqSt) : (s.setSeq q x).node = s.node := (rfl)
@[simp] theorem State.setSeq_lanes (q : Nat) (x : SeqSt) : (s.setSeq q x).lanes = s.lanes := (rfl)
@[simp] theorem State.setSeq_cmd (q : Nat) (x : SeqSt) : (s.setSeq q x).cmd = s.cmd := (rfl)
@[simp] theorem State.setSeq_hub (q : Nat) (x : SeqSt) : (s.setSeq q x).hub = s.hub := (rfl)
@[simp] theorem State.setSeq_unitSts (q : Nat) (x : SeqSt) : (s.setSeq q x).unitSts = s.unitSts := (rfl)
@[simp] theorem State.setSeq_yar (q : Nat) (x : SeqSt) : (s.setSeq q x).yar = s.yar := (rfl)
@[simp] theorem State.setSeq_tree (q : Nat) (x : SeqSt) : (s.setSeq q x).tree = s.tree := (rfl)
@[simp] theorem State.setSeq_swu (q : Nat) (x : SeqSt) : (s.setSeq q x).swu = s.swu := (rfl)
@[simp] theorem State.setSeq_loop (q : Nat) (x : SeqSt) : (s.setSeq q x).loop = s.loop := (rfl)
@[simp] theorem State.setSeq_safe (q : Nat) (x : SeqSt) : (s.setSeq q x).safe = s.safe := (rfl)
@[simp] theorem State.setSeq_disp (q : Nat) (x : SeqSt) : (s.setSeq q x).disp = s.disp := (rfl)
@[simp] theorem State.setSeq_guard (q : Nat) (x : SeqSt) : (s.setSeq q x).guard = s.guard := (rfl)
@[simp] theorem State.setSeq_recorder (q : Nat) (x : SeqSt) : (s.setSeq q x).recorder = s.recorder := (rfl)
@[simp] theorem State.setSeq_twin (q : Nat) (x : SeqSt) : (s.setSeq q x).twin = s.twin := (rfl)
@[simp] theorem State.setSeq_child (q : Nat) (x : SeqSt) : (s.setSeq q x).child = s.child := (rfl)
@[simp] theorem State.setSeq_life (q : Nat) (x : SeqSt) : (s.setSeq q x).life = s.life := (rfl)
@[simp] theorem State.setSeq_fbus (q : Nat) (x : SeqSt) : (s.setSeq q x).fbus = s.fbus := (rfl)
@[simp] theorem State.setSeq_freeCount (q : Nat) (x : SeqSt) : (s.setSeq q x).freeCount = s.freeCount := (rfl)

@[simp] theorem State.updSeq_pending (q : Nat) (g : SeqSt → SeqSt) : (s.updSeq q g).pending = s.pending := (rfl)
@[simp] theorem State.updSeq_regs (q : Nat) (g : SeqSt → SeqSt) : (s.updSeq q g).regs = s.regs := (rfl)
@[simp] theorem State.updSeq_bytes (q : Nat) (g : SeqSt → SeqSt) : (s.updSeq q g).bytes = s.bytes := (rfl)
@[simp] theorem State.updSeq_clk (q : Nat) (g : SeqSt → SeqSt) : (s.updSeq q g).clk = s.clk := (rfl)
@[simp] theorem State.updSeq_node (q : Nat) (g : SeqSt → SeqSt) : (s.updSeq q g).node = s.node := (rfl)
@[simp] theorem State.updSeq_lanes (q : Nat) (g : SeqSt → SeqSt) : (s.updSeq q g).lanes = s.lanes := (rfl)
@[simp] theorem State.updSeq_cmd (q : Nat) (g : SeqSt → SeqSt) : (s.updSeq q g).cmd = s.cmd := (rfl)
@[simp] theorem State.updSeq_hub (q : Nat) (g : SeqSt → SeqSt) : (s.updSeq q g).hub = s.hub := (rfl)
@[simp] theorem State.updSeq_unitSts (q : Nat) (g : SeqSt → SeqSt) : (s.updSeq q g).unitSts = s.unitSts := (rfl)
@[simp] theorem State.updSeq_yar (q : Nat) (g : SeqSt → SeqSt) : (s.updSeq q g).yar = s.yar := (rfl)
@[simp] theorem State.updSeq_tree (q : Nat) (g : SeqSt → SeqSt) : (s.updSeq q g).tree = s.tree := (rfl)
@[simp] theorem State.updSeq_swu (q : Nat) (g : SeqSt → SeqSt) : (s.updSeq q g).swu = s.swu := (rfl)
@[simp] theorem State.updSeq_loop (q : Nat) (g : SeqSt → SeqSt) : (s.updSeq q g).loop = s.loop := (rfl)
@[simp] theorem State.updSeq_safe (q : Nat) (g : SeqSt → SeqSt) : (s.updSeq q g).safe = s.safe := (rfl)
@[simp] theorem State.updSeq_disp (q : Nat) (g : SeqSt → SeqSt) : (s.updSeq q g).disp = s.disp := (rfl)
@[simp] theorem State.updSeq_guard (q : Nat) (g : SeqSt → SeqSt) : (s.updSeq q g).guard = s.guard := (rfl)
@[simp] theorem State.updSeq_recorder (q : Nat) (g : SeqSt → SeqSt) : (s.updSeq q g).recorder = s.recorder := (rfl)
@[simp] theorem State.updSeq_twin (q : Nat) (g : SeqSt → SeqSt) : (s.updSeq q g).twin = s.twin := (rfl)
@[simp] theorem State.updSeq_child (q : Nat) (g : SeqSt → SeqSt) : (s.updSeq q g).child = s.child := (rfl)
@[simp] theorem State.updSeq_life (q : Nat) (g : SeqSt → SeqSt) : (s.updSeq q g).life = s.life := (rfl)
@[simp] theorem State.updSeq_fbus (q : Nat) (g : SeqSt → SeqSt) : (s.updSeq q g).fbus = s.fbus := (rfl)
@[simp] theorem State.updSeq_freeCount (q : Nat) (g : SeqSt → SeqSt) : (s.updSeq q g).freeCount = s.freeCount := (rfl)

@[simp] theorem State.setThread_pending (n : Nat) (t : Thread) : (s.setThread n t).pending = s.pending := (rfl)
@[simp] theorem State.setThread_regs (n : Nat) (t : Thread) : (s.setThread n t).regs = s.regs := (rfl)
@[simp] theorem State.setThread_bytes (n : Nat) (t : Thread) : (s.setThread n t).bytes = s.bytes := (rfl)
@[simp] theorem State.setThread_clk (n : Nat) (t : Thread) : (s.setThread n t).clk = s.clk := (rfl)
@[simp] theorem State.setThread_node (n : Nat) (t : Thread) : (s.setThread n t).node = s.node := (rfl)
@[simp] theorem State.setThread_lanes (n : Nat) (t : Thread) : (s.setThread n t).lanes = s.lanes := (rfl)
@[simp] theorem State.setThread_cmd (n : Nat) (t : Thread) : (s.setThread n t).cmd = s.cmd := (rfl)
@[simp] theorem State.setThread_hub (n : Nat) (t : Thread) : (s.setThread n t).hub = s.hub := (rfl)
@[simp] theorem State.setThread_unitSts (n : Nat) (t : Thread) : (s.setThread n t).unitSts = s.unitSts := (rfl)
@[simp] theorem State.setThread_yar (n : Nat) (t : Thread) : (s.setThread n t).yar = s.yar := (rfl)
@[simp] theorem State.setThread_tree (n : Nat) (t : Thread) : (s.setThread n t).tree = s.tree := (rfl)
@[simp] theorem State.setThread_swu (n : Nat) (t : Thread) : (s.setThread n t).swu = s.swu := (rfl)
@[simp] theorem State.setThread_loop (n : Nat) (t : Thread) : (s.setThread n t).loop = s.loop := (rfl)
@[simp] theorem State.setThread_safe (n : Nat) (t : Thread) : (s.setThread n t).safe = s.safe := (rfl)
@[simp] theorem State.setThread_meas (n : Nat) (t : Thread) : (s.setThread n t).meas = s.meas := (rfl)
@[simp] theorem State.setThread_guard (n : Nat) (t : Thread) : (s.setThread n t).guard = s.guard := (rfl)
@[simp] theorem State.setThread_recorder (n : Nat) (t : Thread) : (s.setThread n t).recorder = s.recorder := (rfl)
@[simp] theorem State.setThread_twin (n : Nat) (t : Thread) : (s.setThread n t).twin = s.twin := (rfl)
@[simp] theorem State.setThread_child (n : Nat) (t : Thread) : (s.setThread n t).child = s.child := (rfl)
@[simp] theorem State.setThread_life (n : Nat) (t : Thread) : (s.setThread n t).life = s.life := (rfl)
@[simp] theorem State.setThread_fbus (n : Nat) (t : Thread) : (s.setThread n t).fbus = s.fbus := (rfl)
@[simp] theorem State.setThread_freeCount (n : Nat) (t : Thread) : (s.setThread n t).freeCount = s.freeCount := (rfl)

@[simp] theorem State.updThread_pending (n : Nat) (g : Thread → Thread) : (s.updThread n g).pending = s.pending := (rfl)
@[simp] theorem State.updThread_regs (n : Nat) (g : Thread → Thread) : (s.updThread n g).regs = s.regs := (rfl)
@[simp] theorem State.updThread_bytes (n : Nat) (g : Thread → Thread) : (s.updThread n g).bytes = s.bytes := (rfl)
@[simp] theorem State.updThread_clk (n : Nat) (g : Thread → Thread) : (s.updThread n g).clk = s.clk := (rfl)
@[simp] theorem State.updThread_node (n : Nat) (g : Thread → Thread) : (s.updThread n g).node = s.node := (rfl)
@[simp] theorem State.updThread_lanes (n : Nat) (g : Thread → Thread) : (s.updThread n g).lanes = s.lanes := (rfl)
@[simp] theorem State.updThread_cmd (n : Nat) (g : Thread → Thread) : (s.updThread n g).cmd = s.cmd := (rfl)
@[simp] theorem State.updThread_hub (n : Nat) (g : Thread → Thread) : (s.updThread n g).hub = s.hub := (rfl)
@[simp] theorem State.updThread_unitSts (n : Nat) (g : Thread → Thread) : (s.updThread n g).unitSts = s.unitSts := (rfl)
@[simp] theorem State.updThread_yar (n : Nat) (g : Thread → Thread) : (s.updThread n g).yar = s.yar := (rfl)
@[simp] theorem State.updThread_tree (n : Nat) (g : Thread → Thread) : (s.updThread n g).tree = s.tree := (rfl)
@[simp] theorem State.updThread_swu (n : Nat) (g : Thread → Thread) : (s.updThread n g).swu = s.swu := (rfl)
@[simp] theorem State.updThread_loop (n : Nat) (g : Thread → Thread) : (s.updThread n g).loop = s.loop := (rfl)
@[simp] theorem State.updThread_safe (n : Nat) (g : Thread → Thread) : (s.updThread n g).safe = s.safe := (rfl)
@[simp] theorem State.updThread_meas (n : Nat) (g : Thread → Thread) : (s.updThread n g).meas = s.meas := (rfl)
@[simp] theorem State.updThread_guard (n : Nat) (g : Thread → Thread) : (s.updThread n g).guard = s.guard := (rfl)
@[simp] theorem State.updThread_recorder (n : Nat) (g : Thread → Thread) : (s.updThread n g).recorder = s.recorder := (rfl)
@[simp] theorem State.updThread_twin (n : Nat) (g : Thread → Thread) : (s.updThread n g).twin = s.twin := (rfl)
@[simp] theorem State.updThread_child (n : Nat) (g : Thread → Thread) : (s.updThread n g).child = s.child := (rfl)
@[simp] theorem State.updThread_life (n : Nat) (g : Thread → Thread) : (s.updThread n g).life = s.life := (rfl)
@[simp] theorem State.updThread_fbus (n : Nat) (g : Thread → Thread) : (s.updThread n g).fbus = s.fbus := (rfl)
@[simp] theorem State.updThread_freeCount (n : Nat) (g : Thread → Thread) : (s.updThread n g).freeCount = s.freeCount := (rfl)

@[simp] theorem State.setLoopSt_pending (n : Nat) (l : LoopSt) : (s.setLoopSt n l).pending = s.pending := (rfl)
@[simp] theorem State.setLoopSt_regs (n : Nat) (l : LoopSt) : (s.setLoopSt n l).regs = s.regs := (rfl)
@[simp] theorem State.setLoopSt_bytes (n : Nat) (l : LoopSt) : (s.setLoopSt n l).bytes = s.bytes := (rfl)
@[simp] theorem State.setLoopSt_clk (n : Nat) (l : LoopSt) : (s.setLoopSt n l).clk = s.clk := (rfl)
@[simp] theorem State.setLoopSt_node (n : Nat) (l : LoopSt) : (s.setLoopSt n l).node = s.node := (rfl)
@[simp] theorem State.setLoopSt_lanes (n : Nat) (l : LoopSt) : (s.setLoopSt n l).lanes = s.lanes := (rfl)
@[simp] theorem State.setLoopSt_cmd (n : Nat) (l : LoopSt) : (s.setLoopSt n l).cmd = s.cmd := (rfl)
@[simp] theorem State.setLoopSt_hub (n : Nat) (l : LoopSt) : (s.setLoopSt n l).hub = s.hub := (rfl)
@[simp] theorem State.setLoopSt_unitSts (n : Nat) (l : LoopSt) : (s.setLoopSt n l).unitSts = s.unitSts := (rfl)
@[simp] theorem State.setLoopSt_yar (n : Nat) (l : LoopSt) : (s.setLoopSt n l).yar = s.yar := (rfl)
@[simp] theorem State.setLoopSt_tree (n : Nat) (l : LoopSt) : (s.setLoopSt n l).tree = s.tree := (rfl)
@[simp] theorem State.setLoopSt_swu (n : Nat) (l : LoopSt) : (s.setLoopSt n l).swu = s.swu := (rfl)
@[simp] theorem State.setLoopSt_safe (n : Nat) (l : LoopSt) : (s.setLoopSt n l).safe = s.safe := (rfl)
@[simp] theorem State.setLoopSt_meas (n : Nat) (l : LoopSt) : (s.setLoopSt n l).meas = s.meas := (rfl)
@[simp] theorem State.setLoopSt_disp (n : Nat) (l : LoopSt) : (s.setLoopSt n l).disp = s.disp := (rfl)
@[simp] theorem State.setLoopSt_guard (n : Nat) (l : LoopSt) : (s.setLoopSt n l).guard = s.guard := (rfl)
@[simp] theorem State.setLoopSt_recorder (n : Nat) (l : LoopSt) : (s.setLoopSt n l).recorder = s.recorder := (rfl)
@[simp] theorem State.setLoopSt_twin (n : Nat) (l : LoopSt) : (s.setLoopSt n l).twin = s.twin := (rfl)
@[simp] theorem State.setLoopSt_child (n : Nat) (l : LoopSt) : (s.setLoopSt n l).child = s.child := (rfl)
@[simp] theorem State.setLoopSt_life (n : Nat) (l : LoopSt) : (s.setLoopSt n l).life = s.life := (rfl)
@[simp] theorem State.setLoopSt_fbus (n : Nat) (l : LoopSt) : (s.setLoopSt n l).fbus = s.fbus := (rfl)
@[simp] theorem State.setLoopSt_freeCount (n : Nat) (l : LoopSt) : (s.setLoopSt n l).freeCount = s.freeCount := (rfl)

@[simp] theorem State.setCap_pending (n : Nat) (c : CapSt) : (s.setCap n c).pending = s.pending := (rfl)
@[simp] theorem State.setCap_regs (n : Nat) (c : CapSt) : (s.setCap n c).regs = s.regs := (rfl)
@[simp] theorem State.setCap_bytes (n : Nat) (c : CapSt) : (s.setCap n c).bytes = s.bytes := (rfl)
@[simp] theorem State.setCap_clk (n : Nat) (c : CapSt) : (s.setCap n c).clk = s.clk := (rfl)
@[simp] theorem State.setCap_node (n : Nat) (c : CapSt) : (s.setCap n c).node = s.node := (rfl)
@[simp] theorem State.setCap_lanes (n : Nat) (c : CapSt) : (s.setCap n c).lanes = s.lanes := (rfl)
@[simp] theorem State.setCap_cmd (n : Nat) (c : CapSt) : (s.setCap n c).cmd = s.cmd := (rfl)
@[simp] theorem State.setCap_hub (n : Nat) (c : CapSt) : (s.setCap n c).hub = s.hub := (rfl)
@[simp] theorem State.setCap_unitSts (n : Nat) (c : CapSt) : (s.setCap n c).unitSts = s.unitSts := (rfl)
@[simp] theorem State.setCap_yar (n : Nat) (c : CapSt) : (s.setCap n c).yar = s.yar := (rfl)
@[simp] theorem State.setCap_tree (n : Nat) (c : CapSt) : (s.setCap n c).tree = s.tree := (rfl)
@[simp] theorem State.setCap_swu (n : Nat) (c : CapSt) : (s.setCap n c).swu = s.swu := (rfl)
@[simp] theorem State.setCap_loop (n : Nat) (c : CapSt) : (s.setCap n c).loop = s.loop := (rfl)
@[simp] theorem State.setCap_safe (n : Nat) (c : CapSt) : (s.setCap n c).safe = s.safe := (rfl)
@[simp] theorem State.setCap_meas (n : Nat) (c : CapSt) : (s.setCap n c).meas = s.meas := (rfl)
@[simp] theorem State.setCap_disp (n : Nat) (c : CapSt) : (s.setCap n c).disp = s.disp := (rfl)
@[simp] theorem State.setCap_guard (n : Nat) (c : CapSt) : (s.setCap n c).guard = s.guard := (rfl)
@[simp] theorem State.setCap_twin (n : Nat) (c : CapSt) : (s.setCap n c).twin = s.twin := (rfl)
@[simp] theorem State.setCap_child (n : Nat) (c : CapSt) : (s.setCap n c).child = s.child := (rfl)
@[simp] theorem State.setCap_life (n : Nat) (c : CapSt) : (s.setCap n c).life = s.life := (rfl)
@[simp] theorem State.setCap_fbus (n : Nat) (c : CapSt) : (s.setCap n c).fbus = s.fbus := (rfl)
@[simp] theorem State.setCap_freeCount (n : Nat) (c : CapSt) : (s.setCap n c).freeCount = s.freeCount := (rfl)

@[simp] theorem State.updCap_pending (n : Nat) (g : CapSt → CapSt) : (s.updCap n g).pending = s.pending := (rfl)
@[simp] theorem State.updCap_regs (n : Nat) (g : CapSt → CapSt) : (s.updCap n g).regs = s.regs := (rfl)
@[simp] theorem State.updCap_bytes (n : Nat) (g : CapSt → CapSt) : (s.updCap n g).bytes = s.bytes := (rfl)
@[simp] theorem State.updCap_clk (n : Nat) (g : CapSt → CapSt) : (s.updCap n g).clk = s.clk := (rfl)
@[simp] theorem State.updCap_node (n : Nat) (g : CapSt → CapSt) : (s.updCap n g).node = s.node := (rfl)
@[simp] theorem State.updCap_lanes (n : Nat) (g : CapSt → CapSt) : (s.updCap n g).lanes = s.lanes := (rfl)
@[simp] theorem State.updCap_cmd (n : Nat) (g : CapSt → CapSt) : (s.updCap n g).cmd = s.cmd := (rfl)
@[simp] theorem State.updCap_hub (n : Nat) (g : CapSt → CapSt) : (s.updCap n g).hub = s.hub := (rfl)
@[simp] theorem State.updCap_unitSts (n : Nat) (g : CapSt → CapSt) : (s.updCap n g).unitSts = s.unitSts := (rfl)
@[simp] theorem State.updCap_yar (n : Nat) (g : CapSt → CapSt) : (s.updCap n g).yar = s.yar := (rfl)
@[simp] theorem State.updCap_tree (n : Nat) (g : CapSt → CapSt) : (s.updCap n g).tree = s.tree := (rfl)
@[simp] theorem State.updCap_swu (n : Nat) (g : CapSt → CapSt) : (s.updCap n g).swu = s.swu := (rfl)
@[simp] theorem State.updCap_loop (n : Nat) (g : CapSt → CapSt) : (s.updCap n g).loop = s.loop := (rfl)
@[simp] theorem State.updCap_safe (n : Nat) (g : CapSt → CapSt) : (s.updCap n g).safe = s.safe := (rfl)
@[simp] theorem State.updCap_meas (n : Nat) (g : CapSt → CapSt) : (s.updCap n g).meas = s.meas := (rfl)
@[simp] theorem State.updCap_disp (n : Nat) (g : CapSt → CapSt) : (s.updCap n g).disp = s.disp := (rfl)
@[simp] theorem State.updCap_guard (n : Nat) (g : CapSt → CapSt) : (s.updCap n g).guard = s.guard := (rfl)
@[simp] theorem State.updCap_twin (n : Nat) (g : CapSt → CapSt) : (s.updCap n g).twin = s.twin := (rfl)
@[simp] theorem State.updCap_child (n : Nat) (g : CapSt → CapSt) : (s.updCap n g).child = s.child := (rfl)
@[simp] theorem State.updCap_life (n : Nat) (g : CapSt → CapSt) : (s.updCap n g).life = s.life := (rfl)
@[simp] theorem State.updCap_fbus (n : Nat) (g : CapSt → CapSt) : (s.updCap n g).fbus = s.fbus := (rfl)
@[simp] theorem State.updCap_freeCount (n : Nat) (g : CapSt → CapSt) : (s.updCap n g).freeCount = s.freeCount := (rfl)

@[simp] theorem State.setTrend_pending (n : Nat) (t : TrendSt) : (s.setTrend n t).pending = s.pending := (rfl)
@[simp] theorem State.setTrend_regs (n : Nat) (t : TrendSt) : (s.setTrend n t).regs = s.regs := (rfl)
@[simp] theorem State.setTrend_bytes (n : Nat) (t : TrendSt) : (s.setTrend n t).bytes = s.bytes := (rfl)
@[simp] theorem State.setTrend_clk (n : Nat) (t : TrendSt) : (s.setTrend n t).clk = s.clk := (rfl)
@[simp] theorem State.setTrend_node (n : Nat) (t : TrendSt) : (s.setTrend n t).node = s.node := (rfl)
@[simp] theorem State.setTrend_lanes (n : Nat) (t : TrendSt) : (s.setTrend n t).lanes = s.lanes := (rfl)
@[simp] theorem State.setTrend_cmd (n : Nat) (t : TrendSt) : (s.setTrend n t).cmd = s.cmd := (rfl)
@[simp] theorem State.setTrend_hub (n : Nat) (t : TrendSt) : (s.setTrend n t).hub = s.hub := (rfl)
@[simp] theorem State.setTrend_unitSts (n : Nat) (t : TrendSt) : (s.setTrend n t).unitSts = s.unitSts := (rfl)
@[simp] theorem State.setTrend_yar (n : Nat) (t : TrendSt) : (s.setTrend n t).yar = s.yar := (rfl)
@[simp] theorem State.setTrend_tree (n : Nat) (t : TrendSt) : (s.setTrend n t).tree = s.tree := (rfl)
@[simp] theorem State.setTrend_swu (n : Nat) (t : TrendSt) : (s.setTrend n t).swu = s.swu := (rfl)
@[simp] theorem State.setTrend_loop (n : Nat) (t : TrendSt) : (s.setTrend n t).loop = s.loop := (rfl)
@[simp] theorem State.setTrend_safe (n : Nat) (t : TrendSt) : (s.setTrend n t).safe = s.safe := (rfl)
@[simp] theorem State.setTrend_meas (n : Nat) (t : TrendSt) : (s.setTrend n t).meas = s.meas := (rfl)
@[simp] theorem State.setTrend_disp (n : Nat) (t : TrendSt) : (s.setTrend n t).disp = s.disp := (rfl)
@[simp] theorem State.setTrend_guard (n : Nat) (t : TrendSt) : (s.setTrend n t).guard = s.guard := (rfl)
@[simp] theorem State.setTrend_twin (n : Nat) (t : TrendSt) : (s.setTrend n t).twin = s.twin := (rfl)
@[simp] theorem State.setTrend_child (n : Nat) (t : TrendSt) : (s.setTrend n t).child = s.child := (rfl)
@[simp] theorem State.setTrend_life (n : Nat) (t : TrendSt) : (s.setTrend n t).life = s.life := (rfl)
@[simp] theorem State.setTrend_fbus (n : Nat) (t : TrendSt) : (s.setTrend n t).fbus = s.fbus := (rfl)
@[simp] theorem State.setTrend_freeCount (n : Nat) (t : TrendSt) : (s.setTrend n t).freeCount = s.freeCount := (rfl)

@[simp] theorem State.updTrend_pending (n : Nat) (g : TrendSt → TrendSt) : (s.updTrend n g).pending = s.pending := (rfl)
@[simp] theorem State.updTrend_regs (n : Nat) (g : TrendSt → TrendSt) : (s.updTrend n g).regs = s.regs := (rfl)
@[simp] theorem State.updTrend_bytes (n : Nat) (g : TrendSt → TrendSt) : (s.updTrend n g).bytes = s.bytes := (rfl)
@[simp] theorem State.updTrend_clk (n : Nat) (g : TrendSt → TrendSt) : (s.updTrend n g).clk = s.clk := (rfl)
@[simp] theorem State.updTrend_node (n : Nat) (g : TrendSt → TrendSt) : (s.updTrend n g).node = s.node := (rfl)
@[simp] theorem State.updTrend_lanes (n : Nat) (g : TrendSt → TrendSt) : (s.updTrend n g).lanes = s.lanes := (rfl)
@[simp] theorem State.updTrend_cmd (n : Nat) (g : TrendSt → TrendSt) : (s.updTrend n g).cmd = s.cmd := (rfl)
@[simp] theorem State.updTrend_hub (n : Nat) (g : TrendSt → TrendSt) : (s.updTrend n g).hub = s.hub := (rfl)
@[simp] theorem State.updTrend_unitSts (n : Nat) (g : TrendSt → TrendSt) : (s.updTrend n g).unitSts = s.unitSts := (rfl)
@[simp] theorem State.updTrend_yar (n : Nat) (g : TrendSt → TrendSt) : (s.updTrend n g).yar = s.yar := (rfl)
@[simp] theorem State.updTrend_tree (n : Nat) (g : TrendSt → TrendSt) : (s.updTrend n g).tree = s.tree := (rfl)
@[simp] theorem State.updTrend_swu (n : Nat) (g : TrendSt → TrendSt) : (s.updTrend n g).swu = s.swu := (rfl)
@[simp] theorem State.updTrend_loop (n : Nat) (g : TrendSt → TrendSt) : (s.updTrend n g).loop = s.loop := (rfl)
@[simp] theorem State.updTrend_safe (n : Nat) (g : TrendSt → TrendSt) : (s.updTrend n g).safe = s.safe := (rfl)
@[simp] theorem State.updTrend_meas (n : Nat) (g : TrendSt → TrendSt) : (s.updTrend n g).meas = s.meas := (rfl)
@[simp] theorem State.updTrend_disp (n : Nat) (g : TrendSt → TrendSt) : (s.updTrend n g).disp = s.disp := (rfl)
@[simp] theorem State.updTrend_guard (n : Nat) (g : TrendSt → TrendSt) : (s.updTrend n g).guard = s.guard := (rfl)
@[simp] theorem State.updTrend_twin (n : Nat) (g : TrendSt → TrendSt) : (s.updTrend n g).twin = s.twin := (rfl)
@[simp] theorem State.updTrend_child (n : Nat) (g : TrendSt → TrendSt) : (s.updTrend n g).child = s.child := (rfl)
@[simp] theorem State.updTrend_life (n : Nat) (g : TrendSt → TrendSt) : (s.updTrend n g).life = s.life := (rfl)
@[simp] theorem State.updTrend_fbus (n : Nat) (g : TrendSt → TrendSt) : (s.updTrend n g).fbus = s.fbus := (rfl)
@[simp] theorem State.updTrend_freeCount (n : Nat) (g : TrendSt → TrendSt) : (s.updTrend n g).freeCount = s.freeCount := (rfl)

@[simp] theorem State.updCan_pending (c : Nat) (g : Can → Can) : (s.updCan c g).pending = s.pending := (rfl)
@[simp] theorem State.updCan_regs (c : Nat) (g : Can → Can) : (s.updCan c g).regs = s.regs := (rfl)
@[simp] theorem State.updCan_bytes (c : Nat) (g : Can → Can) : (s.updCan c g).bytes = s.bytes := (rfl)
@[simp] theorem State.updCan_clk (c : Nat) (g : Can → Can) : (s.updCan c g).clk = s.clk := (rfl)
@[simp] theorem State.updCan_node (c : Nat) (g : Can → Can) : (s.updCan c g).node = s.node := (rfl)
@[simp] theorem State.updCan_lanes (c : Nat) (g : Can → Can) : (s.updCan c g).lanes = s.lanes := (rfl)
@[simp] theorem State.updCan_cmd (c : Nat) (g : Can → Can) : (s.updCan c g).cmd = s.cmd := (rfl)
@[simp] theorem State.updCan_hub (c : Nat) (g : Can → Can) : (s.updCan c g).hub = s.hub := (rfl)
@[simp] theorem State.updCan_unitSts (c : Nat) (g : Can → Can) : (s.updCan c g).unitSts = s.unitSts := (rfl)
@[simp] theorem State.updCan_yar (c : Nat) (g : Can → Can) : (s.updCan c g).yar = s.yar := (rfl)
@[simp] theorem State.updCan_tree (c : Nat) (g : Can → Can) : (s.updCan c g).tree = s.tree := (rfl)
@[simp] theorem State.updCan_swu (c : Nat) (g : Can → Can) : (s.updCan c g).swu = s.swu := (rfl)
@[simp] theorem State.updCan_loop (c : Nat) (g : Can → Can) : (s.updCan c g).loop = s.loop := (rfl)
@[simp] theorem State.updCan_safe (c : Nat) (g : Can → Can) : (s.updCan c g).safe = s.safe := (rfl)
@[simp] theorem State.updCan_meas (c : Nat) (g : Can → Can) : (s.updCan c g).meas = s.meas := (rfl)
@[simp] theorem State.updCan_disp (c : Nat) (g : Can → Can) : (s.updCan c g).disp = s.disp := (rfl)
@[simp] theorem State.updCan_guard (c : Nat) (g : Can → Can) : (s.updCan c g).guard = s.guard := (rfl)
@[simp] theorem State.updCan_recorder (c : Nat) (g : Can → Can) : (s.updCan c g).recorder = s.recorder := (rfl)
@[simp] theorem State.updCan_twin (c : Nat) (g : Can → Can) : (s.updCan c g).twin = s.twin := (rfl)
@[simp] theorem State.updCan_child (c : Nat) (g : Can → Can) : (s.updCan c g).child = s.child := (rfl)
@[simp] theorem State.updCan_life (c : Nat) (g : Can → Can) : (s.updCan c g).life = s.life := (rfl)
@[simp] theorem State.updCan_freeCount (c : Nat) (g : Can → Can) : (s.updCan c g).freeCount = s.freeCount := (rfl)

@[simp] theorem State.updBox_pending (m : Nat) (g : Mailbox → Mailbox) : (s.updBox m g).pending = s.pending := (rfl)
@[simp] theorem State.updBox_regs (m : Nat) (g : Mailbox → Mailbox) : (s.updBox m g).regs = s.regs := (rfl)
@[simp] theorem State.updBox_bytes (m : Nat) (g : Mailbox → Mailbox) : (s.updBox m g).bytes = s.bytes := (rfl)
@[simp] theorem State.updBox_clk (m : Nat) (g : Mailbox → Mailbox) : (s.updBox m g).clk = s.clk := (rfl)
@[simp] theorem State.updBox_node (m : Nat) (g : Mailbox → Mailbox) : (s.updBox m g).node = s.node := (rfl)
@[simp] theorem State.updBox_lanes (m : Nat) (g : Mailbox → Mailbox) : (s.updBox m g).lanes = s.lanes := (rfl)
@[simp] theorem State.updBox_cmd (m : Nat) (g : Mailbox → Mailbox) : (s.updBox m g).cmd = s.cmd := (rfl)
@[simp] theorem State.updBox_hub (m : Nat) (g : Mailbox → Mailbox) : (s.updBox m g).hub = s.hub := (rfl)
@[simp] theorem State.updBox_unitSts (m : Nat) (g : Mailbox → Mailbox) : (s.updBox m g).unitSts = s.unitSts := (rfl)
@[simp] theorem State.updBox_yar (m : Nat) (g : Mailbox → Mailbox) : (s.updBox m g).yar = s.yar := (rfl)
@[simp] theorem State.updBox_tree (m : Nat) (g : Mailbox → Mailbox) : (s.updBox m g).tree = s.tree := (rfl)
@[simp] theorem State.updBox_swu (m : Nat) (g : Mailbox → Mailbox) : (s.updBox m g).swu = s.swu := (rfl)
@[simp] theorem State.updBox_loop (m : Nat) (g : Mailbox → Mailbox) : (s.updBox m g).loop = s.loop := (rfl)
@[simp] theorem State.updBox_safe (m : Nat) (g : Mailbox → Mailbox) : (s.updBox m g).safe = s.safe := (rfl)
@[simp] theorem State.updBox_meas (m : Nat) (g : Mailbox → Mailbox) : (s.updBox m g).meas = s.meas := (rfl)
@[simp] theorem State.updBox_disp (m : Nat) (g : Mailbox → Mailbox) : (s.updBox m g).disp = s.disp := (rfl)
@[simp] theorem State.updBox_guard (m : Nat) (g : Mailbox → Mailbox) : (s.updBox m g).guard = s.guard := (rfl)
@[simp] theorem State.updBox_recorder (m : Nat) (g : Mailbox → Mailbox) : (s.updBox m g).recorder = s.recorder := (rfl)
@[simp] theorem State.updBox_twin (m : Nat) (g : Mailbox → Mailbox) : (s.updBox m g).twin = s.twin := (rfl)
@[simp] theorem State.updBox_child (m : Nat) (g : Mailbox → Mailbox) : (s.updBox m g).child = s.child := (rfl)
@[simp] theorem State.updBox_life (m : Nat) (g : Mailbox → Mailbox) : (s.updBox m g).life = s.life := (rfl)
@[simp] theorem State.updBox_freeCount (m : Nat) (g : Mailbox → Mailbox) : (s.updBox m g).freeCount = s.freeCount := (rfl)

@[simp] theorem State.raise_raised (n : Nat) : (s.raise n).hub.raised = s.hub.raised ++ [n] := (rfl)
@[simp] theorem State.pass_nowPs (d : Nat) : (s.pass d).clk.nowPs = s.clk.nowPs + d := (rfl)
@[simp] theorem State.enter_since (c : Nat) : (s.enter c).node.since = s.now := (rfl)
@[simp] theorem State.setTst_eq (n v : Nat) : s.setTst n v = s.setF (F.DISP_T_CFG_STATE n) v := by rw [State.setTst]

end Sys2Proof.Machine
end

