-- ==== Sys2Proof/Laws/Regs.lean ====
section
/-!
SUPPORT. Laws/Regs.lean: registers and fields as functions of the register list alone, so that a read after any chain of
updates is read off the updates of `regs`.
-/
namespace Sys2Proof.Machine
open Sys2Proof

abbrev Regs := List (Nat × Word)

/-- A register in a register list. -/
def getR (m : Regs) (a : Nat) : Word := Map.get (regReset a) m a
/-- A field in a register list. -/
def getF (m : Regs) (x : Fld) : Nat := x.of (getR m x.addr).toNat
/-- A register list with one register replaced. -/
def putR (m : Regs) (a : Nat) (w : Word) : Regs := Map.set (regReset a) m a w
/-- A register list with one field replaced. -/
def putF (m : Regs) (x : Fld) (v : Nat) : Regs := putR m x.addr (BitVec.ofNat 32 (x.put (getR m x.addr).toNat v))

@[simp] theorem State.reg_eq (s : State) (a : Nat) : s.reg a = getR s.regs a := (rfl)
@[simp] theorem State.f_eq (s : State) (x : Fld) : s.f x = getF s.regs x := (rfl)
@[simp] theorem State.on_eq (s : State) (x : Fld) : s.on x = (getF s.regs x == 1) := (rfl)
@[simp] theorem State.setReg_regs (s : State) (a : Nat) (w : Word) : (s.setReg a w).regs = putR s.regs a w := (rfl)
@[simp] theorem State.setF_regs (s : State) (x : Fld) (v : Nat) : (s.setF x v).regs = putF s.regs x v := (rfl)
@[simp] theorem State.bumpBy_regs (s : State) (x : Fld) (n : Nat) :
    (s.bumpBy x n).regs = putF s.regs x (min (getF s.regs x + n) (2 ^ (x.hi + 1 - x.lo) - 1)) := (rfl)
@[simp] theorem State.bump_regs (s : State) (x : Fld) :
    (s.bump x).regs = putF s.regs x (min (getF s.regs x + 1) (2 ^ (x.hi + 1 - x.lo) - 1)) := (rfl)
@[simp] theorem State.setBit_regs (s : State) (x : Fld) (i : Nat) : (s.setBit x i).regs = putF s.regs x (getF s.regs x ||| 2 ^ i) := (rfl)
@[simp] theorem State.clrBit_regs (s : State) (x : Fld) (i : Nat) :
    (s.clrBit x i).regs = putF s.regs x (if bit (getF s.regs x) i then getF s.regs x - 2 ^ i else getF s.regs x) := (rfl)
@[simp] theorem State.enter_regs (s : State) (c : Nat) :
    (s.enter c).regs = putF (putF s.regs F.SYS_STATE_PREV (getF s.regs F.SYS_STATE_STATE)) F.SYS_STATE_STATE c := (rfl)

@[simp] theorem getR_putR_same (m : Regs) (a : Nat) (w : Word) : getR (putR m a w) a = w := Map.get_set_same _ _ _ _
theorem getR_putR_ne (m : Regs) {a b : Nat} (w : Word) (h : b ≠ a) : getR (putR m a w) b = getR m b := Map.get_set_ne _ _ _ _ h
theorem getR_putF_ne (m : Regs) {x : Fld} {b : Nat} (v : Nat) (h : b ≠ x.addr) : getR (putF m x v) b = getR m b := getR_putR_ne _ _ h
theorem getF_putR_ne (m : Regs) {a : Nat} {y : Fld} (w : Word) (h : y.addr ≠ a) : getF (putR m a w) y = getF m y := by
  simp [getF, getR_putR_ne _ _ h]
theorem getF_putR_same (m : Regs) {a : Nat} {y : Fld} (w : Word) (h : y.addr = a) : getF (putR m a w) y = y.of w.toNat := by
  subst h; simp [getF]

/-- A field reads as the value last written to it. -/
@[simp] theorem getF_putF_same (m : Regs) (x : Fld) (v : Nat) (h : x.ok = true) : getF (putF m x v) x = v % 2 ^ (x.hi + 1 - x.lo) :=
  State.f_setF_same { regs := m } x v h
theorem getF_putF_ne (m : Regs) {x y : Fld} (v : Nat) (h : y.addr ≠ x.addr) : getF (putF m x v) y = getF m y := getF_putR_ne _ _ h
/-- Writing a field leaves every other field alone. -/
@[simp] theorem getF_putF_apart (m : Regs) {x y : Fld} (v : Nat) (hx : x.ok = true) (hy : y.ok = true) (h : x.apart y = true) :
    getF (putF m x v) y = getF m y := State.f_setF_apart { regs := m } x y v hx hy h

end Sys2Proof.Machine
end

