-- ==== Sys2Proof/Laws/Objects.lean ====
section
/-!
SUPPORT. Laws/Objects.lean: each numbered object of the state (lane, unit, pair, slice, sequence, thread, capture, stream, CAN
controller, mailbox, pool) read after it or another was written.
-/
namespace Sys2Proof.Machine
open Sys2Proof

variable (s : State)

@[simp] theorem State.lane_setLane_same (n : Nat) (x : Lane) : (s.setLane n x).lane n = x := Map.get_set_same _ _ _ _
theorem State.lane_setLane_ne {n k : Nat} (x : Lane) (h : k ≠ n) : (s.setLane n x).lane k = s.lane k := Map.get_set_ne _ _ _ _ h
@[simp] theorem State.unit_setUnit_same (n : Nat) (x : UnitSt) : (s.setUnit n x).unit n = x := Map.get_set_same _ _ _ _
theorem State.unit_setUnit_ne {n k : Nat} (x : UnitSt) (h : k ≠ n) : (s.setUnit n x).unit k = s.unit k := Map.get_set_ne _ _ _ _ h
@[simp] theorem State.pair_setPair_same (n : Nat) (x : PairSt) : (s.setPair n x).pair n = x := Map.get_set_same _ _ _ _
theorem State.pair_setPair_ne {n k : Nat} (x : PairSt) (h : k ≠ n) : (s.setPair n x).pair k = s.pair k := Map.get_set_ne _ _ _ _ h
@[simp] theorem State.adc_setSlice_same (n : Nat) (x : Slice) : (s.setSlice n x).adc n = x := Map.get_set_same _ _ _ _
theorem State.adc_setSlice_ne {n k : Nat} (x : Slice) (h : k ≠ n) : (s.setSlice n x).adc k = s.adc k := Map.get_set_ne _ _ _ _ h
@[simp] theorem State.seq_setSeq_same (n : Nat) (x : SeqSt) : (s.setSeq n x).seq n = x := Map.get_set_same _ _ _ _
theorem State.seq_setSeq_ne {n k : Nat} (x : SeqSt) (h : k ≠ n) : (s.setSeq n x).seq k = s.seq k := Map.get_set_ne _ _ _ _ h
@[simp] theorem State.thread_setThread_same (n : Nat) (x : Thread) : (s.setThread n x).thread n = x := Map.get_set_same _ _ _ _
theorem State.thread_setThread_ne {n k : Nat} (x : Thread) (h : k ≠ n) : (s.setThread n x).thread k = s.thread k := Map.get_set_ne _ _ _ _ h
@[simp] theorem State.cap_setCap_same (n : Nat) (x : CapSt) : (s.setCap n x).cap n = x := Map.get_set_same _ _ _ _
theorem State.cap_setCap_ne {n k : Nat} (x : CapSt) (h : k ≠ n) : (s.setCap n x).cap k = s.cap k := Map.get_set_ne _ _ _ _ h
@[simp] theorem State.trend_setTrend_same (n : Nat) (x : TrendSt) : (s.setTrend n x).trend n = x := Map.get_set_same _ _ _ _
theorem State.trend_setTrend_ne {n k : Nat} (x : TrendSt) (h : k ≠ n) : (s.setTrend n x).trend k = s.trend k := Map.get_set_ne _ _ _ _ h
@[simp] theorem State.lane_updLane_same (n : Nat) (f : Lane → Lane) : (s.updLane n f).lane n = f (s.lane n) := Map.get_set_same _ _ _ _
theorem State.lane_updLane_ne {n k : Nat} (f : Lane → Lane) (h : k ≠ n) : (s.updLane n f).lane k = s.lane k := Map.get_set_ne _ _ _ _ h
@[simp] theorem State.unit_updUnit_same (n : Nat) (f : UnitSt → UnitSt) : (s.updUnit n f).unit n = f (s.unit n) := Map.get_set_same _ _ _ _
theorem State.unit_updUnit_ne {n k : Nat} (f : UnitSt → UnitSt) (h : k ≠ n) : (s.updUnit n f).unit k = s.unit k := Map.get_set_ne _ _ _ _ h
@[simp] theorem State.pair_updPair_same (n : Nat) (f : PairSt → PairSt) : (s.updPair n f).pair n = f (s.pair n) := Map.get_set_same _ _ _ _
theorem State.pair_updPair_ne {n k : Nat} (f : PairSt → PairSt) (h : k ≠ n) : (s.updPair n f).pair k = s.pair k := Map.get_set_ne _ _ _ _ h
@[simp] theorem State.seq_updSeq_same (n : Nat) (f : SeqSt → SeqSt) : (s.updSeq n f).seq n = f (s.seq n) := Map.get_set_same _ _ _ _
theorem State.seq_updSeq_ne {n k : Nat} (f : SeqSt → SeqSt) (h : k ≠ n) : (s.updSeq n f).seq k = s.seq k := Map.get_set_ne _ _ _ _ h
@[simp] theorem State.thread_updThread_same (n : Nat) (f : Thread → Thread) : (s.updThread n f).thread n = f (s.thread n) := Map.get_set_same _ _ _ _
theorem State.thread_updThread_ne {n k : Nat} (f : Thread → Thread) (h : k ≠ n) : (s.updThread n f).thread k = s.thread k := Map.get_set_ne _ _ _ _ h
@[simp] theorem State.cap_updCap_same (n : Nat) (f : CapSt → CapSt) : (s.updCap n f).cap n = f (s.cap n) := Map.get_set_same _ _ _ _
theorem State.cap_updCap_ne {n k : Nat} (f : CapSt → CapSt) (h : k ≠ n) : (s.updCap n f).cap k = s.cap k := Map.get_set_ne _ _ _ _ h
@[simp] theorem State.trend_updTrend_same (n : Nat) (f : TrendSt → TrendSt) : (s.updTrend n f).trend n = f (s.trend n) := Map.get_set_same _ _ _ _
theorem State.trend_updTrend_ne {n k : Nat} (f : TrendSt → TrendSt) (h : k ≠ n) : (s.updTrend n f).trend k = s.trend k := Map.get_set_ne _ _ _ _ h
@[simp] theorem State.can_updCan_same (n : Nat) (f : Can → Can) : (s.updCan n f).can n = f (s.can n) := Map.get_set_same _ _ _ _
theorem State.can_updCan_ne {n k : Nat} (f : Can → Can) (h : k ≠ n) : (s.updCan n f).can k = s.can k := Map.get_set_ne _ _ _ _ h
@[simp] theorem State.box_updBox_same (n : Nat) (f : Mailbox → Mailbox) : (s.updBox n f).box n = f (s.box n) := Map.get_set_same _ _ _ _
theorem State.box_updBox_ne {n k : Nat} (f : Mailbox → Mailbox) (h : k ≠ n) : (s.updBox n f).box k = s.box k := Map.get_set_ne _ _ _ _ h
@[simp] theorem State.pool_setPool_same (ty : Nat) (x : Pool) : (s.setPool ty x).pool ty = x := Map.get_set_same _ _ _ _
theorem State.pool_setPool_ne {ty k : Nat} (x : Pool) (h : k ≠ ty) : (s.setPool ty x).pool k = s.pool k := Map.get_set_ne _ _ _ _ h

end Sys2Proof.Machine
end

