-- ==== Sys2Proof/Laws/Interp.lean ====
section
/-!
SUPPORT. Laws/Interp.lean: what the shared operations around every command do: the checks, execution, replies, the end of
every command.
-/
namespace Sys2Proof.Machine
open Sys2Proof

/-- An event of the clocked part, on a part that runs. -/
theorem runEvent_running {s : State} (g : State → State) (h : s.running = true) : runEvent g s = (g s).wrapUp := by simp [runEvent, h]

/-- Without power or clock an event of the clocked part changes nothing. -/
theorem runEvent_stopped {s : State} (g : State → State) (h : s.running = false) : runEvent g s = s := by simp [runEvent, h]

/-- The checks of a command leave the packet but for the key that its reply is authenticated with. -/
theorem vet_packet (s : State) (r : OpRow) (p : Packet) : ∃ k, (s.vet r p).2.1 = { p with ks := k } := by
  unfold State.vet
  dsimp only
  split
  · exact ⟨p.ks, rfl⟩
  · split
    · split
      · exact ⟨p.ks, rfl⟩
      · exact ⟨_, rfl⟩
    · exact ⟨p.ks, rfl⟩

theorem Admitted.packet {r : OpRow} {p : Packet} {s s1 : State} {p1 : Packet} (h : Admitted r p s s1 p1) : ∃ k, p1 = { p with ks := k } := by
  obtain ⟨k, e⟩ := vet_packet s r p
  rw [h.2.2] at e
  exact ⟨k, e⟩

theorem Admitted.params {r : OpRow} {p : Packet} {s s1 : State} {p1 : Packet} (h : Admitted r p s s1 p1) : p1.params = p.params := by
  obtain ⟨k, rfl⟩ := h.packet; rfl

theorem Admitted.handle {r : OpRow} {p : Packet} {s s1 : State} {p1 : Packet} (h : Admitted r p s s1 p1) : p1.handle = p.handle := by
  obtain ⟨k, rfl⟩ := h.packet; rfl

theorem Admitted.cls {r : OpRow} {p : Packet} {s s1 : State} {p1 : Packet} (h : Admitted r p s s1 p1) : p1.cls = p.cls := by
  obtain ⟨k, rfl⟩ := h.packet; rfl

theorem Admitted.source {r : OpRow} {p : Packet} {s s1 : State} {p1 : Packet} (h : Admitted r p s s1 p1) : p1.source = p.source := by
  obtain ⟨k, rfl⟩ := h.packet; rfl

theorem fanOut_ks (s : State) (op : Nat) (p : Packet) (k : List Byte) : s.fanOut op { p with ks := k } = s.fanOut op p := rfl

/-- A command other than WARM_RESET that reaches its opcode runs there, and its copies leave after it. -/
theorem runCommand_admitted {r : OpRow} {p : Packet} {s s1 : State} {p1 : Packet} (h : Admitted r p s s1 p1) (hr : r.code ≠ 0x0003) :
    runCommand r p s = ((s1.runOp r p1).fanOut r.code p1).wrapUp := by
  obtain ⟨k, hk⟩ := h.packet
  obtain ⟨h1, h2, h3⟩ := h
  have e : s.submit r p = (s1.runOp r p1).fanOut r.code p1 := by
    rw [State.submit, if_pos h2, State.perform, State.copiesBefore, State.copiesAfter, if_neg hr, if_neg hr, State.execute, h3]
    simp only [if_true, hk]
    exact (fanOut_ks _ _ _ _).symm
  rw [runCommand, runEvent_running _ h1, e]

/-- An opcode that answers at once. -/
theorem runCommand_answers {r : OpRow} {p : Packet} {s s1 : State} {p1 : Packet} (h : Admitted r p s s1 p1) (hr : r.code ≠ 0x0003)
    {u : State} {status : Nat} {payload : List Byte} (e : r.run p1 s1 = { s := u, status := status, payload := payload }) :
    runCommand r p s = u.answers r p1 status payload := by
  rw [runCommand_admitted h hr]
  simp only [State.runOp, e, State.answers]
  rfl

/-- An opcode that answers later. -/
theorem runCommand_holds {r : OpRow} {p : Packet} {s s1 : State} {p1 : Packet} (h : Admitted r p s s1 p1) (hr : r.code ≠ 0x0003)
    {u : State} (e : r.run p1 s1 = { s := u, hold := true }) : runCommand r p s = u.holds r p1 := by
  rw [runCommand_admitted h hr]
  simp only [State.runOp, e, State.holds]
  rfl

/-- An opcode that answers OK. -/
theorem runCommand_ok {r : OpRow} {p : Packet} {s s1 : State} {p1 : Packet} (h : Admitted r p s s1 p1) (hr : r.code ≠ 0x0003)
    {u : State} {payload : List Byte} (e : r.run p1 s1 = ok u payload) :
    (.next (runCommand r p s) : Host.Outcome State Fault Refusal) = .next (u.answers r p1 Stat.OK payload) :=
  congrArg _ (runCommand_answers h hr e)

theorem Touches.refl (s : State) (ps : List Part) (l : List Nat) : Touches ps l s s :=
  ⟨fun p _ => by cases p <;> rfl, fun _ _ => rfl⟩

theorem Part.same_trans {s t u : State} (p : Part) (h : p.same s t) (k : p.same t u) : p.same s u := by
  cases p <;> simp only [Part.same] at * <;> rw [k, h]

theorem Touches.trans {s t u : State} {ps : List Part} {l : List Nat} (h : Touches ps l s t) (k : Touches ps l t u) : Touches ps l s u :=
  ⟨fun p hp => p.same_trans (h.1 p hp) (k.1 p hp), fun a ha => (k.2 a ha).trans (h.2 a ha)⟩

theorem Touches.mono {s t : State} {ps qs : List Part} {l m : List Nat} (h : Touches ps l s t) (hp : ∀ p ∈ ps, p ∈ qs)
    (hl : ∀ a ∈ l, a ∈ m) : Touches qs m s t :=
  ⟨fun p hq => h.1 p (fun k => hq (hp p k)), fun a ha => h.2 a (fun k => ha (hl a k))⟩

theorem Touches.each {α : Type} {ps : List Part} {l : List Nat} (xs : List α) (g : State → α → State)
    (hg : ∀ s, ∀ x ∈ xs, Touches ps l s (g s x)) (s : State) : Touches ps l s (s.each xs g) := by
  induction xs generalizing s with
  | nil => exact Touches.refl s ps l
  | cons x xs ih =>
    exact (hg s x (by simp)).trans (ih (fun s y hy => hg s y (by simp [hy])) (g s x))

end Sys2Proof.Machine
end

