-- ==== Sys2Proof/Laws/Frames.lean ====
section
/-!
SUPPORT. Laws/Frames.lean: the frame of each named update, and of the operations on lanes and time that many commands share.
-/
set_option linter.unusedSimpArgs false
namespace Sys2Proof.Machine
open Sys2Proof

theorem touch_setReg (s : State) (a : Nat) (w : Word) : Touches [] [a] s (s.setReg a w) :=
  ⟨fun p hp => by cases p <;> simp_all [Part.same], fun k hk => by simp at hk; simp [getR_putF_ne, getR_putR_ne, hk]⟩
theorem touch_setF (s : State) (x : Fld) (v : Nat) : Touches [] [x.addr] s (s.setF x v) :=
  ⟨fun p hp => by cases p <;> simp_all [Part.same], fun k hk => by simp at hk; simp [getR_putF_ne, getR_putR_ne, hk]⟩
theorem touch_bumpBy (s : State) (x : Fld) (n : Nat) : Touches [] [x.addr] s (s.bumpBy x n) :=
  ⟨fun p hp => by cases p <;> simp_all [Part.same], fun k hk => by simp at hk; simp [getR_putF_ne, getR_putR_ne, hk]⟩
theorem touch_bump (s : State) (x : Fld) : Touches [] [x.addr] s (s.bump x) :=
  ⟨fun p hp => by cases p <;> simp_all [Part.same], fun k hk => by simp at hk; simp [getR_putF_ne, getR_putR_ne, hk]⟩
theorem touch_setBit (s : State) (x : Fld) (i : Nat) : Touches [] [x.addr] s (s.setBit x i) :=
  ⟨fun p hp => by cases p <;> simp_all [Part.same], fun k hk => by simp at hk; simp [getR_putF_ne, getR_putR_ne, hk]⟩
theorem touch_clrBit (s : State) (x : Fld) (i : Nat) : Touches [] [x.addr] s (s.clrBit x i) :=
  ⟨fun p hp => by cases p <;> simp_all [Part.same], fun k hk => by simp at hk; simp [getR_putF_ne, getR_putR_ne, hk]⟩
theorem touch_enter (s : State) (c : Nat) : Touches [.node] [A.SYS_STATE] s (s.enter c) :=
  ⟨fun p hp => by cases p <;> simp_all [Part.same], fun k hk => by simp at hk; simp [getR_putF_ne, getR_putR_ne, hk]⟩
theorem touch_setMem (s : State) (a : Nat) (b : Byte) : Touches [.bytes] [] s (s.setMem a b) :=
  ⟨fun p hp => by cases p <;> simp_all [Part.same], fun k hk => by simp⟩
theorem touch_pass (s : State) (d : Nat) : Touches [.clk] [] s (s.pass d) :=
  ⟨fun p hp => by cases p <;> simp_all [Part.same], fun k hk => by simp⟩
theorem touch_raise (s : State) (n : Nat) : Touches [.hub] [] s (s.raise n) :=
  ⟨fun p hp => by cases p <;> simp_all [Part.same], fun k hk => by simp⟩
theorem touch_setLane (s : State) (n : Nat) (l : Lane) : Touches [.lanes] [] s (s.setLane n l) :=
  ⟨fun p hp => by cases p <;> simp_all [Part.same], fun k hk => by simp⟩
theorem touch_updLane (s : State) (n : Nat) (g : Lane → Lane) : Touches [.lanes] [] s (s.updLane n g) :=
  ⟨fun p hp => by cases p <;> simp_all [Part.same], fun k hk => by simp⟩
theorem touch_setPool (s : State) (n : Nat) (p : Pool) : Touches [.cmd] [] s (s.setPool n p) :=
  ⟨fun p hp => by cases p <;> simp_all [Part.same], fun k hk => by simp⟩
theorem touch_setUnit (s : State) (n : Nat) (u : UnitSt) : Touches [.units] [] s (s.setUnit n u) :=
  ⟨fun p hp => by cases p <;> simp_all [Part.same], fun k hk => by simp⟩
theorem touch_updUnit (s : State) (n : Nat) (g : UnitSt → UnitSt) : Touches [.units] [] s (s.updUnit n g) :=
  ⟨fun p hp => by cases p <;> simp_all [Part.same], fun k hk => by simp⟩
theorem touch_setPair (s : State) (p : Nat) (x : PairSt) : Touches [.swu] [] s (s.setPair p x) :=
  ⟨fun p hp => by cases p <;> simp_all [Part.same], fun k hk => by simp⟩
theorem touch_updPair (s : State) (p : Nat) (g : PairSt → PairSt) : Touches [.swu] [] s (s.updPair p g) :=
  ⟨fun p hp => by cases p <;> simp_all [Part.same], fun k hk => by simp⟩
theorem touch_setSlice (s : State) (n : Nat) (x : Slice) : Touches [.meas] [] s (s.setSlice n x) :=
  ⟨fun p hp => by cases p <;> simp_all [Part.same], fun k hk => by simp⟩
theorem touch_setSeq (s : State) (q : Nat) (x : SeqSt) : Touches [.meas] [] s (s.setSeq q x) :=
  ⟨fun p hp => by cases p <;> simp_all [Part.same], fun k hk => by simp⟩
theorem touch_updSeq (s : State) (q : Nat) (g : SeqSt → SeqSt) : Touches [.meas] [] s (s.updSeq q g) :=
  ⟨fun p hp => by cases p <;> simp_all [Part.same], fun k hk => by simp⟩
theorem touch_setThread (s : State) (n : Nat) (t : Thread) : Touches [.disp] [] s (s.setThread n t) :=
  ⟨fun p hp => by cases p <;> simp_all [Part.same], fun k hk => by simp⟩
theorem touch_updThread (s : State) (n : Nat) (g : Thread → Thread) : Touches [.disp] [] s (s.updThread n g) :=
  ⟨fun p hp => by cases p <;> simp_all [Part.same], fun k hk => by simp⟩
theorem touch_setLoopSt (s : State) (n : Nat) (l : LoopSt) : Touches [.loop] [] s (s.setLoopSt n l) :=
  ⟨fun p hp => by cases p <;> simp_all [Part.same], fun k hk => by simp⟩
theorem touch_setCap (s : State) (n : Nat) (c : CapSt) : Touches [.recorder] [] s (s.setCap n c) :=
  ⟨fun p hp => by cases p <;> simp_all [Part.same], fun k hk => by simp⟩
theorem touch_updCap (s : State) (n : Nat) (g : CapSt → CapSt) : Touches [.recorder] [] s (s.updCap n g) :=
  ⟨fun p hp => by cases p <;> simp_all [Part.same], fun k hk => by simp⟩
theorem touch_setTrend (s : State) (n : Nat) (t : TrendSt) : Touches [.recorder] [] s (s.setTrend n t) :=
  ⟨fun p hp => by cases p <;> simp_all [Part.same], fun k hk => by simp⟩
theorem touch_updTrend (s : State) (n : Nat) (g : TrendSt → TrendSt) : Touches [.recorder] [] s (s.updTrend n g) :=
  ⟨fun p hp => by cases p <;> simp_all [Part.same], fun k hk => by simp⟩
theorem touch_updCan (s : State) (c : Nat) (g : Can → Can) : Touches [.fbus] [] s (s.updCan c g) :=
  ⟨fun p hp => by cases p <;> simp_all [Part.same], fun k hk => by simp⟩
theorem touch_updBox (s : State) (m : Nat) (g : Mailbox → Mailbox) : Touches [.fbus] [] s (s.updBox m g) :=
  ⟨fun p hp => by cases p <;> simp_all [Part.same], fun k hk => by simp⟩
theorem touch_raiseIf (s : State) (c : Bool) (n : Nat) : Touches [.hub] [] s (s.raiseIf c n) := by
  unfold State.raiseIf; split
  · exact touch_raise s n
  · exact Touches.refl _ _ _

end Sys2Proof.Machine
end

