-- ==== Sys2Proof/Laws/Lanes.lean ====
section
/-!
SUPPORT. Laws/Lanes.lean: what the shared operations on lanes and on time do.
-/
set_option linter.unusedSimpArgs false
namespace Sys2Proof.Machine
open Sys2Proof

theorem trendLeft_touch (s : State) (b : List Byte) : Touches [.recorder] [] s (s.trendLeft b) := by
  unfold State.trendLeft; split
  · exact touch_updTrend _ _ _
  · exact Touches.refl _ _ _
theorem trendDropped_touch (s : State) (t : TxItem) : Touches [.recorder] [] s (s.trendDropped t) := by
  unfold State.trendDropped
  generalize (if t.eth = true then t.bytes.drop 14 else t.bytes) = seg
  dsimp only; split
  · exact trendLeft_touch _ _
  · exact Touches.refl _ _ _
theorem trendsDropped_touch (q : List TxItem) (s : State) : Touches [.recorder] [] s (q.foldl (fun s t => s.trendDropped t) s) :=
  Touches.each _ _ (fun s t _ => trendDropped_touch s t) s
theorem endTest_touch (s : State) (n : Nat) : Touches [] [A.LANE_PRBS n, A.LANE_PRBS_TIME n] s (s.endTest n) :=
  ((touch_setF _ _ _).mono (by simp) (by simp)).trans ((touch_setF _ _ _).mono (by simp) (by simp))
theorem when_touch {ps : List Part} {m : List Nat} (s : State) (c : Bool) (g : State → State) (h : c = true → Touches ps m s (g s)) :
    Touches ps m s (s.when c g) := by
  unfold State.when; split
  · exact h ‹_›
  · exact Touches.refl _ _ _

theorem touch_field {ps : List Part} {m : List Nat} (s : State) (x : Fld) (v : Nat) (h : x.addr ∈ m) : Touches ps m s (s.setF x v) :=
  (touch_setF s x v).mono (by simp) (by simpa)

/-- The part of `State.laneTo` after the end of a pattern test. -/
theorem laneTo_rest_touch (s s' : State) (n st : Nat) (m : List Nat) (h : Touches [.lanes, .recorder] m s s') (hm : A.LANE_STATUS n ∈ m) :
    Touches [.lanes, .recorder] m s
      (((((((s'.when (s'.laneSt n == 8) (fun s => s.setF (F.LANE_STATUS_AN_DONE n) 0))).lane n).txq.foldl (fun s t => s.trendDropped t)
        (s'.when (s'.laneSt n == 8) (fun s => s.setF (F.LANE_STATUS_AN_DONE n) 0))).setF (F.LANE_STATUS_STATE n) st).setF
        (F.LANE_STATUS_ALIGNED n) 0).when (st == 0 || st == 1 || st == 2) (fun s => s.setF (F.LANE_STATUS_SIGNAL n) 0)) := by
  refine h.trans ?_
  refine .trans ?_ (when_touch _ _ _ fun _ => touch_field _ _ _ hm)
  refine .trans ?_ (touch_field _ _ _ hm)
  refine .trans ?_ (touch_field _ _ _ hm)
  refine .trans ?_ ((trendsDropped_touch _ _).mono (by simp) (by simp))
  exact when_touch _ _ _ fun _ => touch_field _ _ _ hm

theorem laneTo_touch (s : State) (n st : Nat) : Touches [.lanes, .recorder] (laneRegs n) s (s.laneTo n st) :=
  (laneTo_rest_touch s (s.when (s.laneSt n == 6) (fun s => s.endTest n)) n st _
    (when_touch _ _ _ fun _ => (endTest_touch _ _).mono (by simp) (by simp [laneRegs])) (by simp [laneRegs])).trans
    ((touch_updLane _ _ _).mono (by simp) (by simp))

/-- A lane without a pattern test changes its state: LANE_STATUS alone. -/
theorem laneTo_touch_status (s : State) (n st : Nat) (h : s.laneSt n ≠ 6) :
    Touches [.lanes, .recorder] [A.LANE_STATUS n] s (s.laneTo n st) :=
  (laneTo_rest_touch s (s.when (s.laneSt n == 6) (fun s => s.endTest n)) n st _
    (when_touch _ _ _ fun k => absurd (by simpa using k) h) (by simp)).trans ((touch_updLane _ _ _).mono (by simp) (by simp))
theorem laneTo_st (s : State) (n st : Nat) (h : st < 16) : (s.laneTo n st).laneSt n = st := by
  simp only [State.laneTo, State.when, State.laneSt]; split <;> simp <;> omega
theorem laneTo_now (s : State) (n st : Nat) : (s.laneTo n st).now = s.now := by
  have := (laneTo_touch s n st).1 .clk (by simp); simp [Part.same] at this; simp [State.now, this]
theorem laneTo_since (s : State) (n st : Nat) : ((s.laneTo n st).lane n).since = s.now := by
  have h := laneTo_now s n st
  simp only [State.laneTo] at h ⊢
  simp [State.now] at h ⊢
  simpa using h
theorem reachNow_touch (s : State) (t : Nat) : Touches [.clk] [] s (s.reachNow t) := by
  unfold State.reachNow; split
  · exact ⟨fun p hp => by cases p <;> simp_all [Part.same], fun a _ => by simp⟩
  · exact Touches.refl _ _ _
theorem reachNow_le (s : State) (t : Nat) : t ≤ (s.reachNow t).now := by
  unfold State.reachNow; split <;> simp [State.now] <;> omega
theorem reachNow_regs (s : State) (t : Nat) : (s.reachNow t).regs = s.regs := by unfold State.reachNow; split <;> simp
theorem reachNow_lanes (s : State) (t : Nat) : (s.reachNow t).lanes = s.lanes := by unfold State.reachNow; split <;> simp
theorem reachNow_lane (s : State) (t n: Nat) : (s.reachNow t).lane n = s.lane n := by simp [State.lane, reachNow_lanes]

theorem enterPwr_touch (s : State) (n r : Nat) (h : s.laneSt n ≠ 6) :
    Touches [.lanes, .recorder] [A.LANE_STATUS n, A.LANE_EQ n] s (s.enterPwr n r) := by
  unfold State.enterPwr
  refine ((laneTo_touch_status s n 2 h).mono (by simp) (by simp)).trans ?_
  constructor
  · intro p hp; cases p <;> simp_all [Part.same]
  · intro a ha; simp at ha; simp [getR_putF_ne, getR_putR_ne, ha]
theorem enterPwr_st (s : State) (n r : Nat) : (s.enterPwr n r).laneSt n = 2 := by
  have := laneTo_st s n 2 (by omega)
  simp only [State.laneSt, State.f_eq] at this
  simp (disch := first | omega | simp) [State.enterPwr, State.laneSt, getF_putR_ne, this]
theorem enterPwr_rate (s : State) (n r : Nat) : (s.enterPwr n r).f (F.LANE_STATUS_RATE_NOW n) = r % 4 := by
  simp (disch := first | omega | simp) [State.enterPwr, getF_putR_ne]
theorem enterPwr_lane (s : State) (n r : Nat) : (s.enterPwr n r).lane n = (s.laneTo n 2).lane n := by
  unfold State.lane
  rw [State.enterPwr, State.setReg_lanes, State.setF_lanes]


theorem dropSegment_touch (s : State) (n : Nat) : Touches [.lanes, .hub] [A.LANE_SEG n] s (s.dropSegment n) := by
  constructor
  · intro p hp; cases p <;> simp_all [Part.same, State.dropSegment, State.raiseIf] <;> split <;> simp
  · intro a ha; simp only [State.dropSegment, State.raiseIf]; split <;> simp_all [getR_putF_ne]

theorem queueTx_touch (s : State) (n : Nat) (t : TxItem) : Touches [.lanes, .hub] [A.LANE_SEG n] s (s.queueTx n t) := by
  unfold State.queueTx
  split
  · constructor
    · intro p hp; cases p <;> simp_all [Part.same]
    · intro a ha; simp
  · exact dropSegment_touch s n

/-- A segment that finds room stands last in the transmit buffer. -/
theorem queueTx_room (s : State) (n : Nat) (t : TxItem) (h : roomFor (s.lane n).txq t = true) :
    ((s.queueTx n t).lane n).txq = (s.lane n).txq ++ [{ t with ready := s.clkNo }] := by
  simp [State.queueTx, h]

theorem sendSeg_touch (s : State) (n kind cls dest : Nat) (b : List Byte) :
    Touches [.lanes, .hub] [A.LANE_SEG n] s (s.sendSeg n kind cls dest b) := queueTx_touch _ _ _

theorem sendMessage_touch (s : State) (n kind cls dest : Nat) (m : Bool) (b : List Byte) :
    Touches [.lanes, .hub] [A.LANE_SEG n] s (s.sendMessage n kind cls dest m b) :=
  Touches.each _ _ (fun s _ _ => queueTx_touch s n _) s
theorem dropPresent_touch (s : State) (n : Nat) : Touches [.units] [A.CMD_DL n, A.CMD_CAP] s (s.dropPresent n) := by
  unfold State.dropPresent State.showAbsent
  dsimp only
  refine Touches.trans ((touch_setF s (F.CMD_DL_PRESENT n) 0).mono (by simp) (by simp)) (Touches.trans ?_ ((touch_setF _ _ _).mono (by simp) (by simp)))
  split
  · exact (touch_updUnit _ _ _).mono (by simp) (by simp)
  · exact Touches.refl _ _ _
theorem lowerLane_touch (s : State) (n st : Nat) : Touches [.lanes, .recorder, .units] (lowerRegs n) s (s.lowerLane n st) := by
  have hd : A.CMD_DL n ∈ lowerRegs n := by simp [lowerRegs]
  have hs : A.LANE_STATUS n ∈ lowerRegs n := by simp [lowerRegs, laneRegs]
  unfold State.lowerLane
  dsimp only
  have h1 : Touches [.lanes, .recorder, .units] (lowerRegs n) s (if s.laneUp n = true ∧ st = 7 then s.bump (F.LANE_STATUS_LOSSES n) else s) := by
    split
    · exact (touch_setF _ _ _).mono (by simp) (by simpa)
    · exact Touches.refl _ _ _
  generalize (if s.laneUp n = true ∧ st = 7 then s.bump (F.LANE_STATUS_LOSSES n) else s) = s' at *
  refine h1.trans ?_
  have h2 := (laneTo_touch s' n st).mono (qs := [.lanes, .recorder, .units]) (m := lowerRegs n) (by simp)
    (fun a ha => by simp [lowerRegs, ha])
  split
  · exact h2.trans ((dropPresent_touch _ _).mono (by simp) (by simp [lowerRegs]))
  · split
    · exact h2.trans ((touch_setF _ _ _).mono (by simp) (by simpa))
    · exact h2
theorem fallBack_touch (s : State) (n : Nat) : Touches [.lanes, .hub] [A.LANE_STATUS n] s (s.fallBack n) := by
  unfold State.fallBack
  dsimp only
  split
  · exact Touches.refl _ _ _
  · split
    · exact (touch_updLane _ _ _).mono (by simp) (by simp)
    · exact Touches.trans (Touches.trans (Touches.trans ((touch_setF _ _ _).mono (by simp) (by simp)) ((touch_setF _ _ _).mono (by simp) (by simp))) ((touch_updLane _ _ _).mono (by simp) (by simp))) ((touch_raise _ _).mono (by simp) (by simp))
theorem loseLane_touch (s : State) (n : Nat) : Touches [.lanes, .recorder, .hub, .units] (lowerRegs n) s (s.loseLane n) := by
  exact Touches.trans (Touches.trans ((lowerLane_touch _ _ _).mono (by simp) (by simp)) ((fallBack_touch _ _).mono (by simp) (by simp [lowerRegs, laneRegs]))) ((touch_raise _ _).mono (by simp) (by simp))
theorem fallBack_st (s : State) (n : Nat) : (s.fallBack n).laneSt n = s.laneSt n := by
  unfold State.fallBack; dsimp only; split
  · rfl
  · split <;> simp [State.laneSt]
theorem lowerLane_st (s : State) (n st : Nat) (h : st < 16) (hn : n < 32) : (s.lowerLane n st).laneSt n = st := by
  unfold State.lowerLane; dsimp only
  generalize (if s.laneUp n = true ∧ st = 7 then s.bump (F.LANE_STATUS_LOSSES n) else s) = s'
  have h2 := laneTo_st s' n st h
  split
  · have k := (dropPresent_touch (s'.laneTo n st) n).2 (A.LANE_STATUS n) (by simp [A.LANE_STATUS, A.CMD_DL, A.CMD_CAP]; omega)
    rw [State.laneSt, State.f, k]
    exact h2
  · by_cases hx : (s'.laneTo n st).use n = USE.XLINK
    · simp only [hx, if_true]
      rw [State.laneSt, State.f_setF_ne _ _ _ _ (by simp [F.CMD_DL_PRESENT, F.LANE_STATUS_STATE, A.LANE_STATUS, A.CMD_DL]; omega)]
      exact h2
    · simp only [hx, if_false]; exact h2
theorem loseLane_st (s : State) (n : Nat) (hn : n < 32) : (s.loseLane n).laneSt n = 7 := by
  have : (s.loseLane n).laneSt n = ((s.lowerLane n 7).fallBack n).laneSt n := by simp [State.loseLane, State.laneSt]
  rw [this, fallBack_st, lowerLane_st _ _ _ (by omega) hn]
theorem loseLane_raised (s : State) (n : Nat) : FS.LANE_LOSS ∈ (s.loseLane n).hub.raised := by simp [State.loseLane]


end Sys2Proof.Machine
end

