-- ==== Sys2Proof/Laws/Memory.lean ====
section
/-!
SUPPORT. Laws/Memory.lean: bytes of memory read after writes, and the canonical form kept by every operation on memory.
-/
namespace Sys2Proof.Machine
open Sys2Proof

theorem State.reset_memory : Memory.wf State.reset.bytes = true := (rfl)

theorem State.mem_setMem (s : State) (a k : Nat) (b : Byte) : (s.setMem a b).mem k = if k = a then b else s.mem k := by
  unfold State.mem State.setMem
  split
  · rename_i h; rw [h]; exact Map.get_set_same _ _ _ _
  · exact Map.get_set_ne _ _ _ _ (by assumption)

theorem State.setMem_wf (s : State) (a : Nat) (b : Byte) (h : Memory.wf s.bytes = true) : Memory.wf (s.setMem a b).bytes = true :=
  Map.wf_set (fun _ => 0) s.bytes a b h

theorem State.memWrite_wf (s : State) (a : Nat) (bs : List Byte) (h : Memory.wf s.bytes = true) :
    Memory.wf (s.memWrite a bs).bytes = true := by
  induction bs generalizing s a with
  | nil => exact h
  | cons b bs ih => exact ih _ _ (s.setMem_wf a b h)

/-- A write of bytes changes the bytes of memory alone. -/
theorem State.memWrite_frame (s : State) (a : Nat) (bs : List Byte) : s.memWrite a bs = { s with bytes := (s.memWrite a bs).bytes } := by
  induction bs generalizing s a with
  | nil => rfl
  | cons b bs ih => exact ih (s.setMem a b) (a + 1)

/-- Every byte of memory after a write of bytes. -/
theorem State.mem_memWrite (s : State) (a k : Nat) (bs : List Byte) :
    (s.memWrite a bs).mem k = if a ≤ k ∧ k < a + bs.length then bs.getD (k - a) 0 else s.mem k := by
  induction bs generalizing s a with
  | nil => simp [State.memWrite]
  | cons b bs ih =>
    simp only [State.memWrite, ih, State.mem_setMem, List.length_cons]
    by_cases h1 : a + 1 ≤ k ∧ k < a + 1 + bs.length
    · have : k - a = (k - (a + 1)) + 1 := by omega
      rw [if_pos h1, if_pos (by omega), this]; rfl
    · rw [if_neg h1]
      by_cases h2 : k = a
      · subst h2; simp
      · rw [if_neg h2, if_neg (by omega)]

theorem State.memRead_length (s : State) (a n : Nat) : (s.memRead a n).length = n := by
  induction n generalizing a with
  | zero => rfl
  | succ n ih => simp [State.memRead, ih]

theorem State.each_keeps {α : Type} (P : State → Prop) (l : List α) (g : State → α → State) (hg : ∀ s x, P s → P (g s x)) (s : State)
    (h : P s) : P (s.each l g) := by
  induction l generalizing s with
  | nil => exact h
  | cons x l ih => exact ih _ (hg s x h)

theorem State.putLine_wf (s : State) (k : Nat) (data : List Byte) (h : Memory.wf s.bytes = true) :
    Memory.wf (s.putLine k data).bytes = true := s.memWrite_wf k data h

theorem State.putBytes_wf (s : State) (k o : Nat) (bs : List Byte) (h : Memory.wf s.bytes = true) :
    Memory.wf (s.putBytes k o bs).bytes = true := by
  have key (t : State) (ht : Memory.wf t.bytes = true) : Memory.wf ((t.memWrite (k + o) bs).setValid k true).bytes = true :=
    t.memWrite_wf _ _ ht
  by_cases hv : s.lineValid k = true
  · simp only [State.putBytes, hv, if_true]
    exact key s h
  · simp only [State.putBytes, hv]
    exact key _ (s.putLine_wf _ _ h)

/-- A write behind the memory guard keeps the canonical form. -/
theorem State.guardWrite_wf (s : State) (loader : Bool) (a : Nat) (bs : List Byte) (h : Memory.wf s.bytes = true) :
    Memory.wf (s.guardWrite loader a bs).bytes = true := by
  unfold State.guardWrite
  split
  · exact h
  · rename_i c _
    apply State.each_keeps (fun s => Memory.wf s.bytes = true) _ _ _ s h
    intro s line hs
    have key (part : List Byte) : Memory.wf (s.each (if c = 1 then [0, 1] else [0]) (fun s m =>
        s.putBytes (s.lineKey c m line) (a - (classBase c + line * 64)) part)).bytes = true :=
      State.each_keeps (fun s => Memory.wf s.bytes = true) _ _ (fun s m hs => s.putBytes_wf _ _ _ hs) s hs
    dsimp only
    split <;> exact key _

end Sys2Proof.Machine
end

