-- ==== Sys2Proof/Tests/Slice0.lean ====
section
/-!
SUPPORT. Slice0.lean: tests. First the ill-formed terms that well-formedness refuses and values that the spec works out; then, for each
statement with hypotheses, a witness: for each of its clauses a state and operands that meet the clause's hypotheses together.
-/
namespace Sys2Proof.Tests
open Sys2Proof Sys2Proof.Machine
set_option Elab.async false

/-- A part that runs, in a role (0 Floret, 1 Umbel, 2 Meadow) and a state, with the fields given; sessions are not asked for. -/
def node (role st : Nat) (l : List (Fld × Nat)) : State :=
  ([(F.SYS_ID_ROLE, role), (F.SYS_STATE_STATE, st), (F.CMD_AUTH_REQ, 0), (F.SAFE_CAUSE_POWERUP, 0)] ++ l).foldl (fun s x => s.setF x.1 x.2)
    { State.reset with clk.por := false, clk.refclk := true, clk.nowPs := 10000000000000 }
/-- Lanes in state UP. -/
def lanesUp (ls : List Nat) : List (Fld × Nat) := ls.map (fun n => (F.LANE_STATUS_STATE n, 5))
/-- A packet of parameters and a handle. -/
def pk (l : List Byte) (h : Word := 0) : Packet := { params := l, handle := h }
/-- The state with one object of a type created. -/
def obj (ty : Nat) (s : State) : State := match s.takeIndex ty 5 with
  | some x => x.2
  | none => s
def objs (l : List Nat) (s : State) : State := l.foldl (fun s t => obj t s) s
/-- The first handle of a type and index. -/
def hw (ty : Nat) (i : Nat := 0) : Word := handleWord ty i 1
/-- A record entry (01 R31). -/
def entry (addr hi parent role flags str kind la lb xl level : Nat) : List Byte :=
  leBytes 2 addr ++ leBytes 2 hi ++ leBytes 2 parent ++ [role, flags, str, kind, la, lb, xl, level].map (BitVec.ofNat 8) ++ [0, 0]
def meadowA : List Byte := entry 0 8 0xFFFF 2 1 0 0 0 0 0xFF 0
def meadowB : List Byte := entry 1 8 0xFFFF 2 3 0 0 0 0 0xFF 0
def floretE (a kind la : Nat) : List Byte := entry a a 0 0 (if kind = 0 then 0 else 4) 0 kind la la 0xFF 1
/-- A topology record (01 R30). -/
def recordOf (strings : Nat) (es : List (List Byte)) : List Byte :=
  let h := leBytes 1 1 ++ leBytes 1 strings ++ leBytes 2 es.length ++ leBytes 8 0
  h ++ leBytes 4 (crc32 (h ++ es.flatten)) ++ es.flatten
def rec1 : List Byte := recordOf 1 [meadowA, meadowB, floretE 2 0 4, floretE 3 1 5]

/-- A state in which the checks admit command `p` of opcode `r` at once. -/
def admits (r : OpRow) (p : Packet) (s : State) : Bool := s.running && (p.slot || s.interpIdle) && ((s.vet r p).2.2 == Stat.OK)

theorem admitted_self {r : OpRow} {p : Packet} {s : State} (h : admits r p s = true) :
    Admitted r p s (s.vet r p).1 (s.vet r p).2.1 := by
  simp only [admits, Bool.and_eq_true, beq_iff_eq] at h
  exact ⟨h.1.1, h.1.2, by rw [← h.2]⟩

theorem vet_self {r : OpRow} {p : Packet} {s : State} (h : ((s.vet r p).2.2 == Stat.OK) = true) :
    s.vet r p = ((s.vet r p).1, (s.vet r p).2.1, Stat.OK) := by
  rw [← eq_of_beq h]

/-- The segment that bytes spell. -/
def segOf (b : List Byte) : Segment := (parseSeg b).getD { kind := 0, ctl := 0, frag := 0, dest := 0, payload := [] }

theorem no_remap {s : State} {c m line : Nat} (h : (List.range 8).all (fun i => !s.on (F.MGRD_REMAP_VALID c i)) = true) :
    s.remapOf c m line = none := by
  simp only [State.remapOf, List.find?_eq_none]
  intro i hi
  have := List.all_eq_true.mp h i hi
  simp only [Bool.not_eq_true'] at this
  simp only [this, Bool.false_and]
  exact Bool.false_ne_true

/-! Well-formedness: a good command passes, and each check refuses a term that breaks it. -/

theorem test_wf_accepts : (Instr.nop {}).wf = true ∧ (Instr.powerUpSlot none).wf = true ∧ (Instr.hello 3 (segBytes (segOf (0x13 :: 12 :: List.replicate 10 0)))).wf = false := by
  decide +kernel
theorem test_wf_params_length : Packet.wf { params := List.replicate 262113 0 } = false := by
  rw [Packet.wf, List.length_replicate]
  decide
theorem test_wf_mac_length : (Instr.regRead { auth := true, mac := [1, 2] }).wf = false := by decide
theorem test_wf_no_key : (Instr.regRead { ks := [1] }).wf = false := by decide
theorem test_wf_counter_without_auth : (Instr.regRead { counter := 1 }).wf = false := by decide
theorem test_wf_mac_without_auth : (Instr.regRead { mac := [1, 0, 0, 0, 0, 0, 0, 0] }).wf = false := by decide
theorem test_wf_slot_class : (Instr.sysInfo { slot := true, cls := 1, lane := some 0 }).wf = false := by decide
theorem test_wf_slot_lane : (Instr.sysInfo { slot := true, cls := 0 }).wf = false := by decide
theorem test_wf_slot_bytes : (Instr.nop { slot := true, cls := 0, lane := some 0, params := List.replicate 17 0 }).wf = false := by decide
theorem test_wf_slot_bytes_auth : (Instr.nop { slot := true, cls := 0, lane := some 0, auth := true, params := [1, 2, 3, 4, 5] }).wf = false := by decide
theorem test_wf_power_up_answer : (Instr.powerUpSlot (some [1])).wf = false := by decide
theorem test_wf_poll_answer : (Instr.modulePoll 0 (some [1, 2, 3])).wf = false := by decide
theorem test_wf_retry_written : (Instr.cmdRetryExpiry 0x0200 64 {}).wf = false ∧ (Instr.cmdRetryExpiry 0x0201 2 { params := List.replicate 12 0 }).wf = false ∧
    (Instr.cmdRetryExpiry 0x0001 1 {}).wf = false := by decide
theorem test_wf_line_ends : (Instr.segmentForward 0 [.start, .data 1]).wf = false ∧ (Instr.segmentForward 0 [.start, .data 1, .term]).wf = true := by decide
theorem test_wf_alloc_ports : (Instr.cmdAllocReq []).wf = false ∧ (Instr.cmdAllocReq [(1, 2), (1, 3)]).wf = false := by decide
theorem test_wf_kinds : ([Instr.hello 0 [], .assign 0 [0x13], .assignAck 0 [], .assignNak 0 [], .multicast 0 [], .mirror 0 [],
    .event 0 [], .life 0 [], .reply 0 [], .command (.lane 0 [])].map Instr.wf).all (fun b => !b) = true := by decide
theorem test_wf_kind_byte : kindIs 12 (0x13 :: 12 :: List.replicate 10 0) = true ∧ kindIs 12 (0x13 :: 11 :: List.replicate 10 0) = false ∧
    kindIs 12 (0x12 :: 12 :: List.replicate 10 0) = false ∧ kindIs 12 (0x13 :: 12 :: List.replicate 9 0) = false := by decide
theorem test_wf_core_packet : (Instr.command (.core 0 (List.replicate 15 0))).wf = false := by decide

/-! Values that the spec works out or tabulates. -/

/-- 11 R308. -/
theorem test_crc16 : crc16 [0x31, 0x32, 0x33, 0x34, 0x35, 0x36, 0x37, 0x38, 0x39] = 0x29B1 := by decide +kernel
/-- 03 R90. -/
theorem test_crc32 : crc32 [0x31, 0x32, 0x33, 0x34, 0x35, 0x36, 0x37, 0x38, 0x39] = 0xCBF43926 := by decide +kernel
/-- The example of FIPS 197, which 04 R128 rests on. -/
theorem test_aes : aes128 [0, 1, 2, 3, 4, 5, 6, 7, 8, 9, 10, 11, 12, 13, 14, 15]
      [0, 0x11, 0x22, 0x33, 0x44, 0x55, 0x66, 0x77, 0x88, 0x99, 0xAA, 0xBB, 0xCC, 0xDD, 0xEE, 0xFF] =
    [0x69, 0xC4, 0xE0, 0xD8, 0x6A, 0x7B, 0x04, 0x30, 0xD8, 0xCD, 0xB7, 0x80, 0x70, 0xB4, 0xC5, 0x5A] := by decide +kernel
/-- 04, worked case of a session: type 09h, index 1, generation 3. -/
theorem test_handle : handleWord 9 1 3 = 0x24001003 := by decide
/-- 04 R109, byte by byte. -/
theorem test_packet_bytes : pktBytes 0x0123 { cls := 2, mcast := true, seq := 0xBEEF, target := 0x0230, source := 0x2000, handle := 0x24001003, params := [7] } =
    [0x23, 0x01, 0x12, 1, 0, 0, 0xEF, 0xBE, 0x30, 0x02, 0x00, 0x20, 0x03, 0x10, 0x00, 0x24, 7] := by decide +kernel
/-- 03 R96, byte by byte up to the CRC. -/
theorem test_segment_bytes : (segBytes { kind := 1, ctl := 13, frag := 2, dest := 0x0230, payload := [9] }).take 9 =
    [0x13, 1, 13, 2, 1, 0, 0x30, 0x02, 9] := by decide +kernel
/-- 03 R91 and 05, worked case: IARM 850,000 mA, bin 16 with the token, share 5, FRAC 1,536. -/
theorem test_down_frame_bytes : slice (DownFrame.bytes { iarm := 850000, thresh := 16, token := true, share := 5, frac := 1536 }) 20 8 =
    [0x50, 0xF8, 0x0C, 0x50, 0x05, 0x00, 0x00, 0x06] := by decide +kernel
/-- 05, worked case of an aged cell: by energy 123, by voltage 138. -/
theorem test_key : keyRaw 512 15892 20200 20000 = 123 ∧ keyRaw 512 16384 20200 20000 = 138 := by decide +kernel
/-- 05, worked case of arm 2: threshold bin 16, share 5. -/
theorem test_threshold : threshold (List.replicate 13 0 ++ [20, 46, 71, 68, 55, 30] ++ List.replicate 13 0) 142 (preferred 0) 0 = (16, 5) := by decide +kernel
/-- The groups of 05's worked case: bin 16 of each, the rest empty. -/
def groups : List (List Nat) := [6, 5, 7, 4, 6, 8, 5, 6, 4, 3, 7, 7].map (fun k => List.replicate 16 0 ++ [k] ++ List.replicate 15 0)
/-- 05, worked case: group 9 takes 3 and group 10 takes 2 with the token; the pointer moves to group 11. -/
theorem test_split : (split groups 9 16 0 5 true).holder = some 10 ∧ (split groups 9 16 0 5 true).ptr = 11 ∧ (split groups 9 16 0 5 true).rem = 0 ∧
    (split groups 9 16 0 5 true).shares.filter (fun x => x.2 != 0) = [(9, 3), (10, 2)] := by decide +kernel
/-- 05, worked case: 1,536 of 4,096 of 4,000 clk. -/
theorem test_trim_pclk : trimPclk 1536 4000 = 3000 := by decide
/-- 06, worked case of a carrier channel: 1,000, again 1,000, then 9,200 twice. -/
theorem test_carry : formRequest 1000 0 10000 1500 8500 = (0, 1000, true) ∧ formRequest 1000 1000 10000 1500 8500 = (2000, 0, false) ∧
    formRequest 9200 0 10000 1500 8500 = (10000, -800, true) ∧ formRequest 9200 (-800) 10000 1500 8500 = (8400, 0, false) := by decide +kernel
/-- 07, worked case: 341,700 × 290 ÷ 696,000 = 142.375. -/
theorem test_fp32 : Fp.div (Fp.mul (Fp.ofInt 341700) (Fp.ofInt 290)) (Fp.ofInt 696000) = 0x430E6000 := by decide +kernel
/-- 16, worked case: 500 kbit/s of 80 tq with a sample point at 80 %. -/
theorem test_bit_time : (node 1 5 [(⟨A.FBUS_C_NBT 0, 31, 0⟩, 0x013E0F0F)]).f (F.FBUS_C_NBT_NBRP 0) = 1 ∧
    (node 1 5 [(⟨A.FBUS_C_NBT 0, 31, 0⟩, 0x013E0F0F)]).f (F.FBUS_C_NBT_NTSEG1_M1 0) = 62 ∧
    (node 1 5 [(⟨A.FBUS_C_NBT 0, 31, 0⟩, 0x013E0F0F)]).f (F.FBUS_C_NBT_NTSEG2_M1 0) = 15 := by decide +kernel

/-- 16 R411, R414: the bits of a remote frame of base identifier 5 with DLC 2: identifier, RTR, IDE, FDF and DLC, no data. -/
theorem test_can_bits : canDecode ([false, false, false, false, false, false, false, false, true, false, true] ++ [true, false, false] ++ [false, false, true, false]) [] =
    some { ide := false, fdf := false, rtr := true, ident := 5, len := 2, data := [] } := by decide +kernel
/-- 08 R237: AIN[3] at 1.35 V is half of the upper range, and AIN[0] − AIN[1] at −0.9 V half of the lower. -/
theorem test_input_code : inputCode 3 1350000000 0 = 16384 ∧ inputCode 32 0 900000000 = -16384 := by decide +kernel

/-! One step on a small state. -/

/-- The state after one command. -/
def after (c : Instr) (s : State) : State :=
  match step { s with pending := [c] } with
  | .next t => t
  | _ => s

/-- The first reply in the cores' queue, from its header's STATUS on without the reserved bytes (04 R111). -/
def answer (c : Instr) (s : State) : List Byte :=
  match (after c s).cmd.coreReplies with
  | [] => []
  | x :: _ => slice x.2 12 1 ++ x.2.drop 16

/-- 04 R111, R136: the reply to a NOP, byte by byte. -/
theorem test_nop : (after (.nop { seq := 0x0102, params := [8, 9] }) (node 0 5 [])).cmd.coreReplies =
    [(0, [0, 0, 1, 2, 0, 0, 2, 1, 0, 0, 0, 0, 0, 0, 0, 0, 8, 9])] := by decide +kernel
/-- 01 R40: a Floret has no TREE_LOAD. -/
theorem test_role : answer (.treeLoad {}) (node 0 5 []) = [0x10] := by decide +kernel
/-- 04 R125: a handle of another type is a bad parameter, one whose index is not live is stale. -/
theorem test_handle_checks : answer (.loopInfo (pk [] (hw 6))) (node 0 5 []) = [0x11] ∧ answer (.loopInfo (pk [] (hw 1))) (node 0 5 []) = [0x12] := by
  decide +kernel
/-- 17 R429: power-on reset. -/
theorem test_power_on_reset : (after .powerOnReset (node 1 8 [(F.CMD_NODE_ADDR, 5)])).st = ST.OFF ∧
    (after .powerOnReset (node 1 8 [(F.CMD_NODE_ADDR, 5)])).f F.CMD_NODE_ADDR = 0 := by decide +kernel
/-- With nothing waiting one clk passes (assumption 1). -/
theorem test_idle : (match step (node 1 5 []) with | .next t => (t.clk.nowPs, t.clk.timePs) | _ => (0, 0)) = (10000000002000, 2000) := by
  decide +kernel
/-- 12 R343: a raise of severity 2 opens a record of it. -/
theorem test_fault_raise : (after (.faultRaise (pk [2])) (node 1 7 [])).f F.FHUB_REC_SEV = 2 ∧ (after (.faultRaise (pk [2])) (node 1 7 [])).recOpen = true := by
  decide +kernel
/-- 04 R131: REG_WRITE changes the writable bits and no others. -/
theorem test_reg_write : (after (.regWrite (pk (leBytes 4 A.TICK_ASYM_A ++ leBytes 4 0xFFFF1234))) (node 0 5 [])).reg A.TICK_ASYM_A = 0x1234 := by decide +kernel
/-- 06 R200: SWU_FORCE of no pair answers OK and leaves every gate output low. -/
theorem test_swu_force : answer (.swuForce (pk [0])) (node 0 5 []) = [0] ∧ (after (.swuForce (pk [0])) (node 0 5 [])).gatesLow = true := by decide +kernel

/-! Witnesses. -/

namespace LaneBringUp

theorem wit_LaneBringUp :
    (∃ n : Fin 32, ∃ s : State, s.running = true ∧ laneNumbers.find? (fun k => s.laneSt k == 1) = some n.val ∧ (s.node.pendAt.filter (fun t => decide (s.now < t + 10000))).length < 4 ∧ (s.lane n).modRead = true) ∧
    (∃ n : Fin 32, ∃ s : State, s.running = true ∧ s.laneSt n = 2 ∧ s.now ≤ (s.lane n).since + 50000) ∧
    (∃ n : Fin 32, ∃ s : State, s.running = true ∧ s.laneSt n = 3 ∧ s.f (F.LANE_CFG_MODE n) = 1) ∧
    (∃ n : Fin 32, ∃ s : State, s.running = true ∧ s.laneSt n = 3 ∧ s.f (F.LANE_CFG_MODE n) ≠ 1) ∧
    (∃ n : Fin 32, ∃ s : State, s.running = true ∧ s.laneSt n = 3 ∧ s.uplinks.contains n.val = true) ∧
    (∃ n : Fin 32, ∃ s : State, s.running = true ∧ s.laneSt n = 7) ∧
    (∃ n : Fin 32, ∃ s : State, s.running = true ∧ (s.laneSt n = 4 ∨ s.laneSt n = 5) ∧ queued (s.lane n).txq ≤ 14000) :=
  ⟨⟨2, ((node 1 2 [(F.LANE_STATUS_STATE 2, 1), (F.CMD_DL_USE 2, 2)]).updLane 2 (fun l => { l with modRead := true })), by decide +kernel⟩,
   ⟨2, ((node 1 2 [(F.LANE_STATUS_STATE 2, 2)]).updLane 2 (fun l => { l with since := 10000000000 - 10 })), by decide +kernel⟩,
   ⟨2, (node 2 2 [(F.LANE_STATUS_STATE 2, 3), (F.LANE_CFG_MODE 2, 1)]), by decide +kernel⟩,
   ⟨2, (node 0 2 [(F.LANE_STATUS_STATE 2, 3)]), by decide +kernel⟩,
   ⟨0, (node 1 2 [(F.LANE_STATUS_STATE 0, 3), (F.LANE_STATUS_RATE_NOW 0, 3)]), by decide +kernel⟩,
   ⟨5, (node 1 2 [(F.LANE_STATUS_STATE 5, 7)]), by decide +kernel⟩,
   ⟨2, (node 1 2 [(F.LANE_STATUS_STATE 2, 4)]), by decide +kernel⟩⟩

end LaneBringUp

namespace LaneLossHelloAndPatterns

def hel (role fl : Nat) (far : Nat) : List Byte := segBytes { kind := 12, ctl := 12, frag := 0, dest := 0, payload := [BitVec.ofNat 8 role, BitVec.ofNat 8 fl] ++ leBytes 2 0 ++ leBytes 2 far ++ leBytes 2 0 }

theorem wit_LaneLossHelloAndPatterns :
    (∃ n : Fin 32, ∃ s : State, s.running = true ∧ s.laneUp n = false) ∧
    (∃ n : Fin 32, ∃ s : State, s.running = true ∧ s.laneUp n = true ∧ (s.lane n).carried = true ∧ (s.lane n).got = false ∧ 3 ≤ (s.lane n).miss) ∧
    (∃ n : Fin 32, ∃ s : State, s.running = true ∧ s.laneSt n = 8) ∧
    (∃ n : Fin 32, ∃ b : List Byte, ∃ g : Segment, ∃ s : State, s.running = true ∧ s.laneSt n = 4 ∧ parseSeg b = some g ∧ g.kind = KIND.HELLO ∧ 8 ≤ g.payload.length ∧ kindsMatch (s.laneKind n) (numAt g.payload 1 1 / 4 % 4) = true ∧ bit (numAt g.payload 1 1) 1 = true) ∧
    (∃ n : Fin 32, ∃ b : List Byte, ∃ g : Segment, ∃ s : State, s.running = true ∧ s.laneSt n = 4 ∧ parseSeg b = some g ∧ g.kind = KIND.HELLO ∧ 8 ≤ g.payload.length ∧ kindsMatch (s.laneKind n) (numAt g.payload 1 1 / 4 % 4) = true ∧ bit (numAt g.payload 1 1) 1 = false) ∧
    (∃ n : Fin 32, ∃ b : List Byte, ∃ g : Segment, ∃ s : State, s.running = true ∧ s.laneSt n = 4 ∧ parseSeg b = some g ∧ g.kind = KIND.HELLO ∧ 8 ≤ g.payload.length ∧ kindsMatch (s.laneKind n) (numAt g.payload 1 1 / 4 % 4) = false) ∧
    (∃ pattern : Nat, ∃ c : Checker, c.locked = false ∧ c.good = 63 ∧ (prbsTaps pattern).1 ≤ c.past.length) ∧
    (∃ c : Checker, c.locked = true) ∧
    (∃ n : Fin 32, ∃ bits : List Bool, ∃ s : State, s.running = true ∧ s.laneSt n = 6 ∧ 2 ≤ s.f (F.LANE_PRBS_TMODE n) ∧ ∃ c : Checker, c = bits.foldl (Checker.take (s.f (F.LANE_PRBS_PATTERN n))) ⟨(s.lane n).prbsPast, (s.lane n).prbsGood, (s.lane n).prbsWin, s.on (F.LANE_PRBS_LOCKED n), 0, 0⟩) ∧
    (∃ n : Fin 32, ∃ s : State, s.running = true ∧ s.laneSt n = 6 ∧ s.f (F.LANE_PRBS_TMODE n) < 2) :=
  ⟨⟨4, (node 0 8 (lanesUp [0])), by decide +kernel⟩,
   ⟨2, ((node 0 2 (lanesUp [2])).updLane 2 (fun l => { l with carried := true, miss := 3, txq := [{ bytes := [1] }] })), by decide +kernel⟩,
   ⟨4, (node 2 5 [(F.LANE_STATUS_STATE 4, 8), (F.LANE_STATUS_AN_DONE 4, 1)]), by decide +kernel⟩,
   ⟨2, (hel 2 3 7), (segOf (hel 2 3 7)), (node 0 2 [(F.LANE_STATUS_STATE 2, 4), (F.LANE_STATUS_STATE 0, 4)]), by decide +kernel⟩,
   ⟨2, (hel 0 0 4), (segOf (hel 0 0 4)), (node 0 2 [(F.LANE_STATUS_STATE 2, 4), (F.LANE_STATUS_STATE 0, 4)]), by decide +kernel⟩,
   ⟨2, (hel 2 11 7), (segOf (hel 2 11 7)), (node 0 2 [(F.LANE_STATUS_STATE 2, 4), (F.LANE_STATUS_STATE 0, 4)]), by decide +kernel⟩,
   ⟨40, (⟨List.replicate 31 false, 63, [], false, 0, 0⟩), by decide +kernel⟩,
   ⟨(⟨List.replicate 31 false, 0, List.replicate 32 true, true, 5, 0⟩), by decide +kernel⟩,
   ⟨2, (List.replicate 80 false), (node 1 2 [(F.LANE_STATUS_STATE 2, 6), (F.LANE_PRBS_TMODE 2, 2), (F.LANE_PRBS_RUN 2, 1)]), by decide +kernel, by decide +kernel, by decide +kernel, _, rfl⟩,
   ⟨2, (node 1 2 [(F.LANE_STATUS_STATE 2, 6), (F.LANE_PRBS_TMODE 2, 1), (F.LANE_PRBS_RUN 2, 1)]), by decide +kernel⟩⟩

end LaneLossHelloAndPatterns

namespace ModulesAndHostLinks

def pm : Packet := { params := [2, 0xA0, 0, 4], seq := 9, source := 5 }
def sI (b : Nat) : State := { ((node 1 2 [(F.LANE_MOD_BUS 2, b)]).updLane 2 (fun l => { l with i2c := some pm, i2cAt := 9999000000 })) with cmd.busy := some (0x0109, pm) }
def poll : List Byte := (leBytes 8 0) ++ [0, 5] ++ leBytes 2 0

theorem wit_ModulesAndHostLinks :
    (∃ n : Fin 32, ∃ s : State, s.running = true ∧ ∃ b : List Byte, laneNumbers.find? (fun k => s.laneSt k == 1) = some n.val ∧ (s.node.pendAt.filter (fun t => decide (s.now < t + 10000))).length < 4 ∧ (s.lane n).modRead = false ∧ (numAt b 0 1 = 2 ∨ numAt b 0 1 = 3)) ∧
    (∃ n : Fin 32, ∃ s : State, s.running = true ∧ laneNumbers.find? (fun k => s.laneSt k == 1) = some n.val ∧ (s.node.pendAt.filter (fun t => decide (s.now < t + 10000))).length < 4 ∧ (s.lane n).modRead = false) ∧
    (∃ n : Fin 32, ∃ s : State, s.running = true ∧ ∃ b : List Byte, laneNumbers.find? (fun k => s.laneSt k == 1) = some n.val ∧ (s.node.pendAt.filter (fun t => decide (s.now < t + 10000))).length < 4 ∧ (s.lane n).modRead = false ∧ numAt b 0 1 ≠ 2 ∧ numAt b 0 1 ≠ 3) ∧
    (∃ n : Fin 32, ∃ s : State, s.running = true ∧ ∃ b : List Byte, s.laneSt n ≠ 0 ∧ s.on (F.LANE_MOD_POLL_EN n) = true ∧ (s.lane n).modRead = true ∧ (s.lane n).modFail = false ∧ s.on (F.LANE_MOD_EXT_CAL n) = false ∧ (s.lane n).lowWarn ≠ 0 ∧ beNat (slice b 8 2) < (s.lane n).lowWarn ∧ (s.lane n).lowPolls = 2) ∧
    (∃ n : Fin 32, ∃ s : State, s.running = true ∧ ∃ bus : Fin 2, ∃ op : Nat, ∃ p : Packet, laneNumbers.find? (fun k => (s.lane k).i2c.isSome && s.moduleBus k == bus.val) = some n.val ∧ (s.lane n).i2c = some p ∧ s.cmd.busy = some (op, p)) ∧
    (∃ n : Fin 32, ∃ s : State, s.running = true ∧ ∃ fullDuplex : Bool, s.f (F.LANE_CFG_MODE n) = 1 ∧ s.laneSt n = 3 ∧ s.on (F.LANE_STATUS_ALIGNED n) = true ∧ s.macOk = true ∧ (fullDuplex = true ∨ s.on (F.LANE_CFG_AN_EN n) = false)) ∧
    (∃ n : Fin 32, ∃ s : State, s.running = true ∧ s.f (F.LANE_CFG_MODE n) = 1 ∧ s.laneSt n = 3 ∧ s.on (F.LANE_STATUS_ALIGNED n) = true ∧ s.macOk = true ∧ s.on (F.LANE_CFG_AN_EN n) = true) :=
  ⟨⟨2, (node 1 2 [(F.LANE_STATUS_STATE 2, 1), (F.CMD_DL_USE 2, 2)]), by decide +kernel, [2, 0], by decide +kernel⟩,
   ⟨2, (node 1 2 [(F.LANE_STATUS_STATE 2, 1), (F.CMD_DL_USE 2, 2)]), by decide +kernel⟩,
   ⟨2, (node 1 2 [(F.LANE_STATUS_STATE 2, 1), (F.CMD_DL_USE 2, 2)]), by decide +kernel, poll, by decide +kernel⟩,
   ⟨2, ((node 1 5 [(F.LANE_STATUS_STATE 2, 5), (F.LANE_MOD_POLL_EN 2, 1), (F.LANE_MOD_ID_OK 2, 1)]).updLane 2 (fun l => { l with modRead := true, lowWarn := 6, lowPolls := 2 })), by decide +kernel, [2, 0], by decide +kernel⟩,
   ⟨2, (sI 0), by decide +kernel, 0, 265, pm, by decide +kernel⟩,
   ⟨3, (node 2 5 [(F.LANE_CFG_MODE 3, 1), (F.LANE_STATUS_STATE 3, 3), (F.LANE_STATUS_ALIGNED 3, 1), (F.LANE_HOST_MAC_LO_MAC, 7)]), by decide +kernel, false, by decide +kernel⟩,
   ⟨3, (node 2 5 [(F.LANE_CFG_MODE 3, 1), (F.LANE_STATUS_STATE 3, 3), (F.LANE_STATUS_ALIGNED 3, 1), (F.LANE_CFG_AN_EN 3, 1), (F.LANE_HOST_MAC_LO_MAC, 7)]), by decide +kernel⟩⟩

end ModulesAndHostLinks

namespace SystemAndLinkReads

theorem wit_SystemAndLinkReads :
    (∃ p : Packet, ∃ p1 : Packet, ∃ s : State, ∃ s1 : State, Admitted rowNop p s s1 p1 ∧ p.params.length ≤ 64) ∧
    (∃ p : Packet, ∃ p1 : Packet, ∃ s : State, ∃ s1 : State, Admitted rowSysInfo p s s1 p1 ∧ p.params = []) ∧
    (∃ p : Packet, ∃ p1 : Packet, ∃ s : State, ∃ s1 : State, ∃ ty, Admitted rowHandleList p s s1 p1 ∧ p.params = [BitVec.ofNat 8 ty] ∧ 1 ≤ ty ∧ ty ≤ 10) ∧
    (∃ p : Packet, ∃ p1 : Packet, ∃ s : State, ∃ s1 : State, Admitted rowHandlePool p s s1 p1 ∧ p.params = []) ∧
    (∃ p : Packet, ∃ p1 : Packet, ∃ s : State, ∃ s1 : State, ∃ o : Handle, Admitted rowHandleInfo p s s1 p1 ∧ p.params = [] ∧ s1.anyHandleStatus p.handle = Stat.OK ∧ (s1.pool (hType p.handle)).object (hIndex p.handle) = some o) ∧
    (∃ p : Packet, ∃ p1 : Packet, ∃ s : State, ∃ s1 : State, ∃ o : Handle, Admitted rowHandleInfo p s s1 p1 ∧ p.params = [] ∧ s1.anyHandleStatus p.handle ≠ Stat.OK ∧ s1.dyingObject p.handle = some o) ∧
    (∃ p : Packet, ∃ p1 : Packet, ∃ s : State, ∃ s1 : State, Admitted rowTimeRead p s s1 p1 ∧ p.params = []) ∧
    (∃ p : Packet, ∃ p1 : Packet, ∃ s : State, ∃ s1 : State, ∃ first, ∃ n, Admitted rowTreeRead p s s1 p1 ∧ p.params.length = 3 ∧ numAt p.params 0 2 = first ∧ numAt p.params 2 1 = n ∧ 1 ≤ n ∧ n ≤ 64 ∧ first + n ≤ s1.tree.record.length) ∧
    (∃ p : Packet, ∃ p1 : Packet, ∃ s : State, ∃ s1 : State, Admitted rowLaneRead p s s1 p1 ∧ p.params.length = 4) ∧
    (∃ p : Packet, ∃ p1 : Packet, ∃ s : State, ∃ s1 : State, Admitted rowPrbsRead p s s1 p1 ∧ p.params.length = 1 ∧ numAt p.params 0 1 ≤ 31) :=
  ⟨⟨(pk []), _, (node 0 5 []), _, admitted_self (by decide +kernel), by decide +kernel⟩,
   ⟨(pk []), _, (node 0 5 []), _, admitted_self (by decide +kernel), by decide +kernel⟩,
   ⟨(pk [6]), _, (node 0 5 []), _, 6, admitted_self (by decide +kernel), by decide +kernel⟩,
   ⟨(pk []), _, (node 0 5 []), _, admitted_self (by decide +kernel), by decide +kernel⟩,
   ⟨(pk [] (hw 6)), _, (objs [1, 6, 6, 10, 9] (node 0 8 [(F.CMD_NODE_ADDR, 7)])), _, { source := 5, created := 0 }, admitted_self (by decide +kernel), by decide +kernel⟩,
   ⟨(pk [] (hw 6)), _, ((objs [6] (node 0 8 [(F.CMD_NODE_ADDR, 7)])).startDestroy 6 0 (pk [] (hw 6))), _, { source := 5, created := 0, dying := some (pk [] (hw 6)) }, admitted_self (by decide +kernel), by decide +kernel⟩,
   ⟨(pk []), _, (node 0 5 []), _, admitted_self (by decide +kernel), by decide +kernel⟩,
   ⟨(pk [0, 0, 1]), _, { (node 2 8 [(F.CMD_NODE_ASSIGNED, 1)]) with tree.record := [entry 0 8 0 2 0 0 0 0 0 0 0, entry 2 5 0 1 0 0 0 4 4 4 1], clk.timePs := 123456789012 }, _, 0, 1, admitted_self (by decide +kernel), by decide +kernel⟩,
   ⟨(pk [3, 0, 0, 0]), _, (node 0 5 []), _, admitted_self (by decide +kernel), by decide +kernel⟩,
   ⟨(pk [6]), _, (node 0 5 []), _, admitted_self (by decide +kernel), by decide +kernel⟩⟩

end SystemAndLinkReads

namespace ControlReads

theorem wit_ControlReads :
    (∃ p : Packet, ∃ p1 : Packet, ∃ s : State, ∃ s1 : State, Admitted rowYarTallyRead p s s1 p1 ∧ p.params.length = 1 ∧ s1.isMeadow = false) ∧
    (∃ p : Packet, ∃ p1 : Packet, ∃ s : State, ∃ s1 : State, Admitted rowYarTallyRead p s s1 p1 ∧ p.params.length = 1 ∧ s1.isMeadow = true ∧ numAt p.params 0 1 ≤ 15) ∧
    (∃ p : Packet, ∃ p1 : Packet, ∃ s : State, ∃ s1 : State, Admitted rowYarUnitRead p s s1 p1 ∧ p.params.length = 1 ∧ s1.units.contains (numAt p.params 0 1) = true ∧ (s1.unit (numAt p.params 0 1)).status < 2) ∧
    (∃ p : Packet, ∃ p1 : Packet, ∃ s : State, ∃ s1 : State, Admitted rowYarUnitRead p s s1 p1 ∧ p.params.length = 1 ∧ s1.units.contains (numAt p.params 0 1) = true ∧ 2 ≤ (s1.unit (numAt p.params 0 1)).status) ∧
    (∃ p : Packet, ∃ p1 : Packet, ∃ s : State, ∃ s1 : State, Admitted rowYarCellRead p s s1 p1 ∧ p.params.length = 1 ∧ s1.cells.contains (numAt p.params 0 1) = true) ∧
    (∃ p : Packet, ∃ p1 : Packet, ∃ s : State, ∃ s1 : State, Admitted rowSwuStatusRead p s s1 p1 ∧ p.params = []) ∧
    (∃ p : Packet, ∃ p1 : Packet, ∃ s : State, ∃ s1 : State, Admitted rowSwuChanRead p s s1 p1 ∧ p.params.length = 1 ∧ numAt p.params 0 1 ≤ 3) ∧
    (∃ p : Packet, ∃ p1 : Packet, ∃ s : State, ∃ s1 : State, ∃ a, ∃ n, Admitted rowLoopSigRead p s s1 p1 ∧ p.params.length = 3 ∧ numAt p.params 0 2 = a ∧ numAt p.params 2 1 = n ∧ 1 ≤ n ∧ n ≤ 64 ∧ a + n ≤ 0x1000) ∧
    (∃ p : Packet, ∃ p1 : Packet, ∃ s : State, ∃ s1 : State, Admitted rowLoopInfo p s s1 p1 ∧ s1.handleStatus TY.LOOP p.handle = Stat.OK ∧ p.params = []) ∧
    (∃ p : Packet, ∃ p1 : Packet, ∃ s : State, ∃ s1 : State, Admitted rowLoopBudgetRead p s s1 p1 ∧ p.params = []) ∧
    (∃ p : Packet, ∃ p1 : Packet, ∃ s : State, ∃ s1 : State, ∃ q, ∃ e, ∃ n, Admitted rowMeasResultRead p s s1 p1 ∧ p.params.length = 3 ∧ numAt p.params 0 1 = q ∧ numAt p.params 1 1 = e ∧ numAt p.params 2 1 = n ∧ q ≤ 3 ∧ s1.on (F.MEAS_Q_CFG_LIVE q) = true ∧ 1 ≤ n ∧ n ≤ 32 ∧ e + n ≤ s1.seqCount q) ∧
    (∃ p : Packet, ∃ p1 : Packet, ∃ s : State, ∃ s1 : State, Admitted rowMeasSliceRead p s s1 p1 ∧ p.params = []) :=
  ⟨⟨(pk [0]), _, (node 0 8 [(F.CMD_NODE_KIND, 1)]), _, admitted_self (by decide +kernel), by decide +kernel⟩,
   ⟨(pk [0]), _, { (node 2 8 [(F.CMD_DL_USE 4, 2)]) with tree.strings := 2 }, _, admitted_self (by decide +kernel), by decide +kernel⟩,
   ⟨(pk [4]), _, ((node 1 8 [(F.CMD_DL_USE 4, 2)]).updUnit 4 (fun u => { u with status := 1, misses := 300 })), _, admitted_self (by decide +kernel), by decide +kernel⟩,
   ⟨(pk [4]), _, (node 1 8 [(F.CMD_DL_USE 4, 2)]), _, admitted_self (by decide +kernel), by decide +kernel⟩,
   ⟨(pk [0]), _, (node 0 8 [(F.CMD_NODE_KIND, 1)]), _, admitted_self (by decide +kernel), by decide +kernel⟩,
   ⟨(pk []), _, (node 0 8 [(F.CMD_NODE_KIND, 1)]), _, admitted_self (by decide +kernel), by decide +kernel⟩,
   ⟨(pk [0]), _, (node 0 8 [(F.CMD_NODE_KIND, 1)]), _, admitted_self (by decide +kernel), by decide +kernel⟩,
   ⟨(pk [0, 1, 2]), _, (node 0 8 [(F.CMD_NODE_KIND, 1)]), _, 256, 2, admitted_self (by decide +kernel), by decide +kernel⟩,
   ⟨(pk [] (hw 1)), _, (objs [1, 3, 2] (node 0 7 [(F.MEAS_Q_CFG_LIVE 0, 1), (F.MEAS_Q_CFG_COUNT_M1 0, 3), (F.MEAS_RES_CODE 0 1, 0x1234), (F.LOOP_L_CFG_LIVE 0, 1)])), _, admitted_self (by decide +kernel), by decide +kernel⟩,
   ⟨(pk []), _, (node 0 8 [(F.CMD_NODE_KIND, 1)]), _, admitted_self (by decide +kernel), by decide +kernel⟩,
   ⟨(pk [0, 1, 2]), _, (objs [1, 3, 2] (node 0 7 [(F.MEAS_Q_CFG_LIVE 0, 1), (F.MEAS_Q_CFG_COUNT_M1 0, 3), (F.MEAS_RES_CODE 0 1, 0x1234), (F.LOOP_L_CFG_LIVE 0, 1)])), _, 0, 1, 2, admitted_self (by decide +kernel), by decide +kernel⟩,
   ⟨(pk []), _, (node 0 8 [(F.CMD_NODE_KIND, 1)]), _, admitted_self (by decide +kernel), by decide +kernel⟩⟩

end ControlReads

namespace RecorderAndHubReads

theorem wit_RecorderAndHubReads :
    (∃ p : Packet, ∃ p1 : Packet, ∃ s : State, ∃ s1 : State, Admitted rowCaptureInfo p s s1 p1 ∧ s1.handleStatus TY.CAPTURE p.handle = Stat.OK ∧ p.params = []) ∧
    (∃ p : Packet, ∃ p1 : Packet, ∃ s : State, ∃ s1 : State, Admitted rowTrendInfo p s s1 p1 ∧ s1.handleStatus TY.TREND p.handle = Stat.OK ∧ p.params = []) ∧
    (∃ p : Packet, ∃ p1 : Packet, ∃ s : State, ∃ s1 : State, Admitted rowRecPoolRead p s s1 p1 ∧ p.params = []) ∧
    (∃ p : Packet, ∃ p1 : Packet, ∃ s : State, ∃ s1 : State, Admitted rowThreadInfo p s s1 p1 ∧ s1.handleStatus TY.THREAD p.handle = Stat.OK ∧ p.params = []) ∧
    (∃ p : Packet, ∃ p1 : Packet, ∃ s : State, ∃ s1 : State, Admitted rowFlowInfo p s s1 p1 ∧ s1.handleStatus TY.FLOW p.handle = Stat.OK ∧ p.params = []) ∧
    (∃ p : Packet, ∃ p1 : Packet, ∃ s : State, ∃ s1 : State, Admitted rowDispRead p s s1 p1 ∧ p.params = []) ∧
    (∃ p : Packet, ∃ p1 : Packet, ∃ s : State, ∃ s1 : State, Admitted rowMgrdRead p s s1 p1 ∧ p.params = []) ∧
    (∃ p : Packet, ∃ p1 : Packet, ∃ s : State, ∃ s1 : State, Admitted rowFaultRead p s s1 p1 ∧ p.params = []) ∧
    (∃ p : Packet, ∃ p1 : Packet, ∃ s : State, ∃ s1 : State, Admitted rowFaultHistory p s s1 p1 ∧ p.params = []) :=
  ⟨⟨(pk [] (hw 4)), _, (objs [4, 5, 6, 7] (node 0 8 [(F.REC_CAP_STAT_LIVE 0, 1), (F.FHUB_REC_ID, 7)])), _, admitted_self (by decide +kernel), by decide +kernel⟩,
   ⟨(pk [] (hw 5)), _, (objs [4, 5, 6, 7] (node 0 8 [(F.REC_CAP_STAT_LIVE 0, 1), (F.FHUB_REC_ID, 7)])), _, admitted_self (by decide +kernel), by decide +kernel⟩,
   ⟨(pk []), _, (objs [4, 5, 6, 7] (node 0 8 [(F.REC_CAP_STAT_LIVE 0, 1), (F.FHUB_REC_ID, 7)])), _, admitted_self (by decide +kernel), by decide +kernel⟩,
   ⟨(pk [] (hw 6)), _, (objs [4, 5, 6, 7] (node 0 8 [(F.REC_CAP_STAT_LIVE 0, 1), (F.FHUB_REC_ID, 7)])), _, admitted_self (by decide +kernel), by decide +kernel⟩,
   ⟨(pk [] (hw 7)), _, (objs [4, 5, 6, 7] (node 0 8 [(F.REC_CAP_STAT_LIVE 0, 1), (F.FHUB_REC_ID, 7)])), _, admitted_self (by decide +kernel), by decide +kernel⟩,
   ⟨(pk []), _, (objs [4, 5, 6, 7] (node 0 8 [(F.REC_CAP_STAT_LIVE 0, 1), (F.FHUB_REC_ID, 7)])), _, admitted_self (by decide +kernel), by decide +kernel⟩,
   ⟨(pk []), _, (objs [4, 5, 6, 7] (node 0 8 [(F.REC_CAP_STAT_LIVE 0, 1), (F.FHUB_REC_ID, 7)])), _, admitted_self (by decide +kernel), by decide +kernel⟩,
   ⟨(pk []), _, (objs [4, 5, 6, 7] (node 0 8 [(F.REC_CAP_STAT_LIVE 0, 1), (F.FHUB_REC_ID, 7)])), _, admitted_self (by decide +kernel), by decide +kernel⟩,
   ⟨(pk []), _, (objs [4, 5, 6, 7] (node 0 8 [(F.REC_CAP_STAT_LIVE 0, 1), (F.FHUB_REC_ID, 7)])), _, admitted_self (by decide +kernel), by decide +kernel⟩⟩

end RecorderAndHubReads

namespace SafetyAndLifeReads

def fl : State := { obj 8 (node 0 7 [(F.CMD_NODE_KIND, 3), (F.LIFE_C_CEST_CEST 0, 999), (F.FBUS_M_CFG_LIVE 0, 1), (F.FBUS_M_FRAME_ID 0, 77), (F.FBUS_M_STAT_OVW 0, 1)]) with safe.record := List.replicate 306 3, node.flash := [(5, 7), (0x400003, 9)] }

theorem wit_SafetyAndLifeReads :
    (∃ p : Packet, ∃ p1 : Packet, ∃ s : State, ∃ s1 : State, Admitted rowSafeStatusRead p s s1 p1 ∧ p.params = []) ∧
    (∃ p : Packet, ∃ p1 : Packet, ∃ s : State, ∃ s1 : State, Admitted rowSafeCfgRead p s s1 p1 ∧ p.params = []) ∧
    (∃ p : Packet, ∃ p1 : Packet, ∃ s : State, ∃ s1 : State, Admitted rowSafeOutRead p s s1 p1 ∧ p.params = []) ∧
    (∃ p : Packet, ∃ p1 : Packet, ∃ s : State, ∃ s1 : State, Admitted rowTwinRead p s s1 p1 ∧ p.params = []) ∧
    (∃ p : Packet, ∃ p1 : Packet, ∃ s : State, ∃ s1 : State, Admitted rowLifeRead p s s1 p1 ∧ p.params = []) ∧
    (∃ p : Packet, ∃ p1 : Packet, ∃ s : State, ∃ s1 : State, Admitted rowLifeRfRead p s s1 p1 ∧ p.params.length = 1 ∧ numAt p.params 0 1 ≤ 3) ∧
    (∃ p : Packet, ∃ p1 : Packet, ∃ s : State, ∃ s1 : State, Admitted rowLifeStateRead p s s1 p1 ∧ p.params = []) ∧
    (∃ p : Packet, ∃ p1 : Packet, ∃ s : State, ∃ s1 : State, Admitted rowCanStatusRead p s s1 p1 ∧ p.params.length = 1 ∧ numAt p.params 0 1 ≤ 1) ∧
    (∃ p : Packet, ∃ p1 : Packet, ∃ s : State, ∃ s1 : State, ∃ m, Admitted rowCanMbRead p s s1 p1 ∧ hIndex p.handle = m ∧ s1.handleStatus TY.MAILBOX p.handle = Stat.OK ∧ p.params = []) ∧
    (∃ p : Packet, ∃ p1 : Packet, ∃ s : State, ∃ s1 : State, Admitted rowFwStatusRead p s s1 p1 ∧ p.params = []) ∧
    (∃ p : Packet, ∃ p1 : Packet, ∃ s : State, ∃ s1 : State, ∃ slot, ∃ o, ∃ n, Admitted rowFwFlashRead p s s1 p1 ∧ p.params.length = 7 ∧ numAt p.params 0 1 = slot ∧ numAt p.params 1 4 = o ∧ numAt p.params 5 2 = n ∧ slot ≤ 1 ∧ 4 ≤ n ∧ n ≤ 1024 ∧ o + n ≤ 0x400000) :=
  ⟨⟨(pk []), _, fl, _, admitted_self (by decide +kernel), by decide +kernel⟩,
   ⟨(pk []), _, fl, _, admitted_self (by decide +kernel), by decide +kernel⟩,
   ⟨(pk []), _, fl, _, admitted_self (by decide +kernel), by decide +kernel⟩,
   ⟨(pk []), _, fl, _, admitted_self (by decide +kernel), by decide +kernel⟩,
   ⟨(pk []), _, fl, _, admitted_self (by decide +kernel), by decide +kernel⟩,
   ⟨(pk [0]), _, fl, _, admitted_self (by decide +kernel), by decide +kernel⟩,
   ⟨(pk []), _, fl, _, admitted_self (by decide +kernel), by decide +kernel⟩,
   ⟨(pk [0]), _, fl, _, admitted_self (by decide +kernel), by decide +kernel⟩,
   ⟨(pk [] (hw 8)), _, fl, _, 0, admitted_self (by decide +kernel), by decide +kernel⟩,
   ⟨(pk []), _, fl, _, admitted_self (by decide +kernel), by decide +kernel⟩,
   ⟨(pk [0, 0, 0, 0, 0, 4, 0]), _, (node 1 7 [(F.CMD_NODE_TWIN, 1)]), _, 0, 0, 4, admitted_self (by decide +kernel), by decide +kernel⟩⟩

end SafetyAndLifeReads

namespace SessionsAndKeys

def key : List Byte := (List.range 16).map (BitVec.ofNat 8)
def p0 : Packet := { source := 5, target := 3, seq := 2 }
def nr : List Byte := [1, 2, 3, 4, 5, 6, 7, 8]
def st0 : State := { node 0 5 [(F.CMD_NODE_ADDR, 3)] with node.keys := [(0, key), (2, key)] }
def st1 : State := { obj 9 st0 with cmd.sessions := [(0, { source := 5, target := 3, slot := 0, key := key, counter := 9 })] }
def st2 : State := { st0 with cmd.pools := [(9, { Pool.fresh 9 with free := [] })] }
def pLit (h : Word := 0) : Packet := { p0 with params := 0 :: nr ++ [39, 177, 225, 203, 100, 162, 219, 203], handle := h }

theorem proof_lit : sessionProof key nr pLit = [39, 177, 225, 203, 100, 162, 219, 203] := by decide +kernel

theorem proof_shown : sessionProof key (slice pLit.params 1 8) pLit = slice pLit.params 9 8 := by
  rw [show slice pLit.params 1 8 = nr from by decide, proof_lit]
  decide

theorem wit_SessionsAndKeys :
    (∃ p : Packet, ∃ p1 : Packet, ∃ s : State, ∃ s1 : State, Admitted rowSessionOpen p s s1 p1 ∧ (p.params.length ≠ 17 ∨ 3 < numAt p.params 0 1)) ∧
    (∃ p : Packet, ∃ p1 : Packet, ∃ s : State, ∃ s1 : State, Admitted rowSessionOpen p s s1 p1 ∧ p.params.length = 17 ∧ numAt p.params 0 1 ≤ 3 ∧ s1.keySlot (numAt p.params 0 1) = none) ∧
    (∃ p : Packet, ∃ p1 : Packet, ∃ s : State, ∃ s1 : State, ∃ k : List Byte, Admitted rowSessionOpen p s s1 p1 ∧ p.params.length = 17 ∧ numAt p.params 0 1 ≤ 3 ∧ s1.keySlot (numAt p.params 0 1) = some k ∧ sessionProof k (slice p.params 1 8) p ≠ slice p.params 9 8) ∧
    (∃ p : Packet, ∃ p1 : Packet, ∃ s : State, ∃ s1 : State, ∃ k : List Byte, Admitted rowSessionOpen p s s1 p1 ∧ p.params.length = 17 ∧ numAt p.params 0 1 ≤ 3 ∧ s1.keySlot (numAt p.params 0 1) = some k ∧ sessionProof k (slice p.params 1 8) p = slice p.params 9 8 ∧ s1.sessionOf p.source = none ∧ (s1.pool TY.SESSION).free = []) ∧
    (∃ p : Packet, ∃ p1 : Packet, ∃ s : State, ∃ s1 : State, ∃ k : List Byte, ∃ i : Nat, ∃ rest : List Nat, Admitted rowSessionOpen p s s1 p1 ∧ p.params.length = 17 ∧ numAt p.params 0 1 ≤ 3 ∧ s1.keySlot (numAt p.params 0 1) = some k ∧ sessionProof k (slice p.params 1 8) p = slice p.params 9 8 ∧ s1.sessionOf p.source = none ∧ (s1.pool TY.SESSION).free = i :: rest) ∧
    (∃ p : Packet, ∃ p1 : Packet, ∃ s : State, ∃ s1 : State, ∃ k : List Byte, ∃ i : Nat, ∃ j : Nat, ∃ rest : List Nat, ∃ old : Session, Admitted rowSessionOpen p s s1 p1 ∧ p.params.length = 17 ∧ numAt p.params 0 1 ≤ 3 ∧ s1.keySlot (numAt p.params 0 1) = some k ∧ sessionProof k (slice p.params 1 8) p = slice p.params 9 8 ∧ s1.sessionOf p.source = some (j, old) ∧ (s1.pool TY.SESSION).free ++ [j] = i :: rest) ∧
    (∃ p : Packet, ∃ p1 : Packet, ∃ s : State, ∃ s1 : State, Admitted rowSessionClose p s s1 p1 ∧ s1.handleStatus TY.SESSION p.handle = Stat.OK ∧ p.params ≠ []) ∧
    (∃ p : Packet, ∃ p1 : Packet, ∃ s : State, ∃ s1 : State, Admitted rowSessionClose p s s1 p1 ∧ s1.handleStatus TY.SESSION p.handle = Stat.OK ∧ p.params = []) ∧
    (∃ p : Packet, ∃ p1 : Packet, ∃ s : State, ∃ s1 : State, Admitted rowKeyLoad p s s1 p1 ∧ (p.params.length ≠ 17 ∨ 3 < numAt p.params 0 1)) ∧
    (∃ p : Packet, ∃ p1 : Packet, ∃ s : State, ∃ s1 : State, Admitted rowKeyLoad p s s1 p1 ∧ p.params.length = 17 ∧ numAt p.params 0 1 ≤ 3 ∧ (s1.st ≠ ST.CONFIG ∨ (s1.sessionOf p.source).any (fun x => x.2.slot == 0) = false)) ∧
    (∃ p : Packet, ∃ p1 : Packet, ∃ s : State, ∃ s1 : State, Admitted rowKeyLoad p s s1 p1 ∧ p.params.length = 17 ∧ numAt p.params 0 1 ≤ 3 ∧ s1.st = ST.CONFIG ∧ (s1.sessionOf p.source).any (fun x => x.2.slot == 0) = true) :=
  ⟨⟨{ p0 with handle := hw 9 }, _, st0, _, admitted_self (by decide +kernel), by decide +kernel⟩,
   ⟨{ p0 with params := 1 :: key }, _, st0, _, admitted_self (by decide +kernel), by decide +kernel⟩,
   ⟨{ p0 with params := [2] ++ key }, _, st0, _, key, admitted_self (by decide +kernel), by decide +kernel⟩,
   ⟨pLit, _, st2, _, key, admitted_self (by decide +kernel), by decide +kernel, by decide +kernel, by decide +kernel, proof_shown, by decide +kernel⟩,
   ⟨pLit, _, st0, _, key, 0, [1, 2, 3, 4, 5, 6, 7], admitted_self (by decide +kernel), by decide +kernel, by decide +kernel, by decide +kernel, proof_shown, by decide +kernel⟩,
   ⟨pLit, _, st1, _, key, 1, 0, [2, 3, 4, 5, 6, 7, 0], { source := 5, target := 3, slot := 0, key := key, counter := 9 }, admitted_self (by decide +kernel), by decide +kernel, by decide +kernel, by decide +kernel, proof_shown, by decide +kernel⟩,
   ⟨{ p0 with handle := hw 9, params := [1] }, _, st1, _, admitted_self (by decide +kernel), by decide +kernel⟩,
   ⟨{ p0 with handle := hw 9 }, _, st1, _, admitted_self (by decide +kernel), by decide +kernel⟩,
   ⟨{ p0 with handle := hw 9 }, _, st0, _, admitted_self (by decide +kernel), by decide +kernel⟩,
   ⟨{ p0 with params := 3 :: key }, _, st0, _, admitted_self (by decide +kernel), by decide +kernel⟩,
   ⟨{ p0 with params := 3 :: key }, _, st1, _, admitted_self (by decide +kernel), by decide +kernel⟩⟩

end SessionsAndKeys

namespace HandleDestroyStale

def all : State := objs [1, 2, 3, 4, 5, 6, 7, 8, 10, 9] (node 0 5 [(F.LOOP_L_CFG_LIVE 0, 1), (F.MEAS_Q_CFG_LIVE 0, 1), (F.DISP_T_CFG_LIVE 0, 1), (F.DISP_L_LIVE 0, 1), (F.FBUS_M_CFG_LIVE 0, 1), (F.REC_CAP_STAT_LIVE 0, 1), (F.REC_TR_STAT_LIVE 0, 1), (F.DISP_F_CFG_LIVE 0, 1), (F.SWU_P_CFG_MODE 1, 2)])
def all2 : State := { all with cmd.sessions := [(0, { source := 5, key := [1], last := 7000000000 })] }

theorem wit_HandleDestroyStale :
    (∃ p : Packet, ∃ p1 : Packet, ∃ s : State, ∃ s1 : State, Admitted rowHandleDestroy p s s1 p1 ∧ p.params ≠ []) ∧
    (∃ p : Packet, ∃ p1 : Packet, ∃ s : State, ∃ s1 : State, Admitted rowHandleDestroy p s s1 p1 ∧ p.params = [] ∧ s1.anyHandleStatus p.handle ≠ Stat.OK) ∧
    (∃ p : Packet, ∃ p1 : Packet, ∃ s : State, ∃ s1 : State, Admitted rowHandleDestroy p s s1 p1 ∧ p.params = [] ∧ s1.anyHandleStatus p.handle = Stat.OK ∧ (s1.bound (hType p.handle) (hIndex p.handle) = true ∨ (hType p.handle = TY.SESSION ∧ s1.carriedBy p1 = some (hIndex p.handle)))) ∧
    (∃ p : Packet, ∃ p1 : Packet, ∃ s : State, ∃ s1 : State, Admitted rowHandleDestroy p s s1 p1 ∧ p.params = [] ∧ s1.anyHandleStatus p.handle = Stat.OK ∧ s1.bound (hType p.handle) (hIndex p.handle) = false ∧ (hType p.handle = TY.SESSION → s1.carriedBy p1 ≠ some (hIndex p.handle)) ∧ hType p.handle = TY.LOOP) ∧
    (∃ p : Packet, ∃ p1 : Packet, ∃ s : State, ∃ s1 : State, Admitted rowHandleDestroy p s s1 p1 ∧ p.params = [] ∧ s1.anyHandleStatus p.handle = Stat.OK ∧ s1.bound (hType p.handle) (hIndex p.handle) = false ∧ (hType p.handle = TY.SESSION → s1.carriedBy p1 ≠ some (hIndex p.handle)) ∧ hType p.handle = TY.CHANNEL) ∧
    (∃ p : Packet, ∃ p1 : Packet, ∃ s : State, ∃ s1 : State, Admitted rowHandleDestroy p s s1 p1 ∧ p.params = [] ∧ s1.anyHandleStatus p.handle = Stat.OK ∧ s1.bound (hType p.handle) (hIndex p.handle) = false ∧ (hType p.handle = TY.SESSION → s1.carriedBy p1 ≠ some (hIndex p.handle)) ∧ hType p.handle = TY.SEQUENCE) ∧
    (∃ p : Packet, ∃ p1 : Packet, ∃ s : State, ∃ s1 : State, Admitted rowHandleDestroy p s s1 p1 ∧ p.params = [] ∧ s1.anyHandleStatus p.handle = Stat.OK ∧ s1.bound (hType p.handle) (hIndex p.handle) = false ∧ (hType p.handle = TY.SESSION → s1.carriedBy p1 ≠ some (hIndex p.handle)) ∧ hType p.handle = TY.CAPTURE) ∧
    (∃ p : Packet, ∃ p1 : Packet, ∃ s : State, ∃ s1 : State, Admitted rowHandleDestroy p s s1 p1 ∧ p.params = [] ∧ s1.anyHandleStatus p.handle = Stat.OK ∧ s1.bound (hType p.handle) (hIndex p.handle) = false ∧ (hType p.handle = TY.SESSION → s1.carriedBy p1 ≠ some (hIndex p.handle)) ∧ hType p.handle = TY.TREND) ∧
    (∃ p : Packet, ∃ p1 : Packet, ∃ s : State, ∃ s1 : State, Admitted rowHandleDestroy p s s1 p1 ∧ p.params = [] ∧ s1.anyHandleStatus p.handle = Stat.OK ∧ s1.bound (hType p.handle) (hIndex p.handle) = false ∧ (hType p.handle = TY.SESSION → s1.carriedBy p1 ≠ some (hIndex p.handle)) ∧ hType p.handle = TY.THREAD) ∧
    (∃ p : Packet, ∃ p1 : Packet, ∃ s : State, ∃ s1 : State, Admitted rowHandleDestroy p s s1 p1 ∧ p.params = [] ∧ s1.anyHandleStatus p.handle = Stat.OK ∧ s1.bound (hType p.handle) (hIndex p.handle) = false ∧ (hType p.handle = TY.SESSION → s1.carriedBy p1 ≠ some (hIndex p.handle)) ∧ hType p.handle = TY.FLOW) ∧
    (∃ p : Packet, ∃ p1 : Packet, ∃ s : State, ∃ s1 : State, Admitted rowHandleDestroy p s s1 p1 ∧ p.params = [] ∧ s1.anyHandleStatus p.handle = Stat.OK ∧ s1.bound (hType p.handle) (hIndex p.handle) = false ∧ (hType p.handle = TY.SESSION → s1.carriedBy p1 ≠ some (hIndex p.handle)) ∧ hType p.handle = TY.MAILBOX) ∧
    (∃ p : Packet, ∃ p1 : Packet, ∃ s : State, ∃ s1 : State, Admitted rowHandleDestroy p s s1 p1 ∧ p.params = [] ∧ s1.anyHandleStatus p.handle = Stat.OK ∧ s1.bound (hType p.handle) (hIndex p.handle) = false ∧ (hType p.handle = TY.SESSION → s1.carriedBy p1 ≠ some (hIndex p.handle)) ∧ hType p.handle = TY.LOCK) ∧
    (∃ p : Packet, ∃ p1 : Packet, ∃ s : State, ∃ s1 : State, Admitted rowHandleDestroy p s s1 p1 ∧ p.params = [] ∧ s1.anyHandleStatus p.handle = Stat.OK ∧ s1.bound (hType p.handle) (hIndex p.handle) = false ∧ (hType p.handle = TY.SESSION → s1.carriedBy p1 ≠ some (hIndex p.handle)) ∧ hType p.handle = TY.SESSION) ∧
    (∃ h : Word, ∃ s : State, s.running = true ∧ s.dyingObject h = none) ∧
    (∃ h : Word, ∃ s : State, ∃ o : Handle, ∃ p : Packet, s.running = true ∧ s.dyingObject h = some o ∧ o.dying = some p) ∧
    (∃ n : Fin 8, ∃ s : State, s.running = true ∧ s.cmd.sessions.find? (fun y => y.1 == n.val) = none) ∧
    (∃ n : Fin 8, ∃ x : Session, ∃ s : State, s.running = true ∧ s.cmd.sessions.find? (fun y => y.1 == n.val) = some (n.val, x)) :=
  ⟨⟨(pk [1] (hw 3)), _, all, _, admitted_self (by decide +kernel), by decide +kernel⟩,
   ⟨(pk [] 0x12345678), _, all, _, admitted_self (by decide +kernel), by decide +kernel⟩,
   ⟨(pk [] (hw 6)), _, (all.setF (F.DISP_T_CFG_STATE 0) 1), _, admitted_self (by decide +kernel), by decide +kernel⟩,
   ⟨(pk [] (hw 1)), _, all, _, admitted_self (by decide +kernel), by decide +kernel⟩,
   ⟨(pk [] (hw 2)), _, all, _, admitted_self (by decide +kernel), by decide +kernel⟩,
   ⟨(pk [] (hw 3)), _, all, _, admitted_self (by decide +kernel), by decide +kernel⟩,
   ⟨(pk [] (hw 4)), _, all, _, admitted_self (by decide +kernel), by decide +kernel⟩,
   ⟨(pk [] (hw 5)), _, all, _, admitted_self (by decide +kernel), by decide +kernel⟩,
   ⟨(pk [] (hw 6)), _, all, _, admitted_self (by decide +kernel), by decide +kernel⟩,
   ⟨(pk [] (hw 7)), _, all, _, admitted_self (by decide +kernel), by decide +kernel⟩,
   ⟨(pk [] (hw 8)), _, all, _, admitted_self (by decide +kernel), by decide +kernel⟩,
   ⟨(pk [] (hw 10)), _, all, _, admitted_self (by decide +kernel), by decide +kernel⟩,
   ⟨(pk [] (hw 9)), _, all, _, admitted_self (by decide +kernel), by decide +kernel⟩,
   ⟨1, (all2.startDestroy 1 0 (pk [] (hw 1))), by decide +kernel⟩,
   ⟨0x28000001, (all2.startDestroy 10 0 (pk [] (hw 10))), ({ source := 5, created := 0, dying := some (pk [] (hw 10)) } : Handle), (pk [] (hw 10)), by decide +kernel⟩,
   ⟨7, (all2.startDestroy 1 0 (pk [] (hw 1))), by decide +kernel⟩,
   ⟨0, { source := 5, key := [1], last := 7000000000 }, (all2.startDestroy 1 0 (pk [] (hw 1))), by decide +kernel⟩⟩

end HandleDestroyStale

namespace NodeStateCommands

def good (role st : Nat) (l : List (Fld × Nat)) : State := { node role st (l ++ [(F.SAFE_STAT_REC_MATCH, 1), (F.YAR_VNOM_VNOM, 1)]) with safe.record := [1] }

theorem wit_NodeStateCommands :
    (∃ p : Packet, ∃ p1 : Packet, ∃ s : State, ∃ s1 : State, Admitted rowStateReq p s s1 p1 ∧ (p.params.length ≠ 1 ∨ (numAt p.params 0 1 ≠ 5 ∧ numAt p.params 0 1 ≠ 7 ∧ numAt p.params 0 1 ≠ 8))) ∧
    (∃ p : Packet, ∃ p1 : Packet, ∃ s : State, ∃ s1 : State, Admitted rowStateReq p s s1 p1 ∧ ∃ c : Nat, (c = 5 ∨ c = 7 ∨ c = 8) ∧ p.params = [BitVec.ofNat 8 c] ∧ s1.st = c) ∧
    (∃ p : Packet, ∃ p1 : Packet, ∃ s : State, ∃ s1 : State, Admitted rowStateReq p s s1 p1 ∧ p.params = [8] ∧ s1.st = ST.READY ∧ s1.on F.SYS_PANEL_MKEY = false ∧ s1.causes = 0) ∧
    (∃ p : Packet, ∃ p1 : Packet, ∃ s : State, ∃ s1 : State, Admitted rowStateReq p s s1 p1 ∧ p.params = [8] ∧ s1.st ≠ ST.RUN ∧ (s1.st ≠ ST.READY ∨ s1.on F.SYS_PANEL_MKEY = true ∨ s1.causes ≠ 0)) ∧
    (∃ p : Packet, ∃ p1 : Packet, ∃ s : State, ∃ s1 : State, Admitted rowStateReq p s s1 p1 ∧ p.params = [7] ∧ (s1.st = ST.RUN ∨ s1.st = ST.HOLD)) ∧
    (∃ p : Packet, ∃ p1 : Packet, ∃ s : State, ∃ s1 : State, Admitted rowStateReq p s s1 p1 ∧ p.params = [5] ∧ (s1.st = ST.READY ∨ s1.st = ST.WAIT_CREDIT)) ∧
    (∃ p : Packet, ∃ p1 : Packet, ∃ s : State, ∃ s1 : State, Admitted rowStateReq p s s1 p1 ∧ p.params = [5] ∧ s1.st ≠ ST.CONFIG ∧ s1.st ≠ ST.READY ∧ s1.st ≠ ST.WAIT_CREDIT) ∧
    (∃ p : Packet, ∃ p1 : Packet, ∃ s : State, ∃ s1 : State, Admitted rowStateReq p s s1 p1 ∧ p.params = [7] ∧ s1.st ≠ ST.READY ∧ s1.st ≠ ST.RUN ∧ s1.st ≠ ST.HOLD ∧ (s1.st ≠ ST.CONFIG ∨ 2 ≤ s1.level)) ∧
    (∃ p : Packet, ∃ p1 : Packet, ∃ s : State, ∃ s1 : State, Admitted rowStateReq p s s1 p1 ∧ p.params = [7] ∧ s1.st = ST.CONFIG ∧ s1.level < 2 ∧ s1.exitOk = false) ∧
    (∃ p : Packet, ∃ p1 : Packet, ∃ s : State, ∃ s1 : State, Admitted rowStateReq p s s1 p1 ∧ p.params = [7] ∧ s1.st = ST.CONFIG ∧ s1.level < 2 ∧ s1.exitOk = true) ∧
    (∃ p : Packet, ∃ p1 : Packet, ∃ s : State, ∃ s1 : State, s.running = true ∧ (p.slot || s.interpIdle) = true ∧ (s.fanOut 0x0003 p).vet rowWarmReset p = (s1, p1, Stat.OK) ∧ p.params = [] ∧ s1.st ≠ ST.RUN ∧ s1.st ≠ ST.HOLD ∧ s1.st ≠ ST.LOCKOUT) ∧
    (∃ p : Packet, ∃ p1 : Packet, ∃ s : State, ∃ s1 : State, s.running = true ∧ (p.slot || s.interpIdle) = true ∧ (s.fanOut 0x0003 p).vet rowWarmReset p = (s1, p1, Stat.OK) ∧ p.params = [] ∧ (s1.st = ST.RUN ∨ s1.st = ST.HOLD ∨ s1.st = ST.LOCKOUT)) ∧
    (∃ p : Packet, ∃ p1 : Packet, ∃ s : State, ∃ s1 : State, s.running = true ∧ (p.slot || s.interpIdle) = true ∧ (s.fanOut 0x0003 p).vet rowWarmReset p = (s1, p1, Stat.OK) ∧ p.params ≠ []) ∧
    (∃ p : Packet, ∃ p1 : Packet, ∃ s : State, ∃ s1 : State, Admitted rowSysIdent p s s1 p1 ∧ p.params.length ≠ 1) ∧
    (∃ p : Packet, ∃ p1 : Packet, ∃ s : State, ∃ s1 : State, Admitted rowSysIdent p s s1 p1 ∧ p.params.length = 1) :=
  ⟨⟨(pk []), _, (node 0 7 []), _, admitted_self (by decide +kernel), by decide +kernel⟩,
   ⟨(pk [8]), _, (node 1 8 []), _, admitted_self (by decide +kernel), 8, by decide +kernel⟩,
   ⟨(pk [8]), _, (node 0 7 []), _, admitted_self (by decide +kernel), by decide +kernel⟩,
   ⟨(pk [8]), _, (node 0 9 []), _, admitted_self (by decide +kernel), by decide +kernel⟩,
   ⟨(pk [7]), _, (node 1 8 []), _, admitted_self (by decide +kernel), by decide +kernel⟩,
   ⟨(pk [5]), _, (node 0 7 []), _, admitted_self (by decide +kernel), by decide +kernel⟩,
   ⟨(pk [5]), _, (node 1 8 []), _, admitted_self (by decide +kernel), by decide +kernel⟩,
   ⟨(pk [7]), _, (node 1 6 []), _, admitted_self (by decide +kernel), by decide +kernel⟩,
   ⟨(pk [7]), _, (good 0 5 [(F.CMD_NODE_KIND, 1), (F.TICK_PH_SAMPLE_PHASE, 200), (F.MEAS_Q_CFG_LIVE 0, 1)]), _, admitted_self (by decide +kernel), by decide +kernel⟩,
   ⟨(pk [7]), _, (good 1 5 []), _, admitted_self (by decide +kernel), by decide +kernel⟩,
   ⟨(pk []), (pk []), (node 0 7 []), (node 0 7 []), by decide +kernel⟩,
   ⟨(pk []), (pk []), (node 1 8 []), (node 1 8 []), by decide +kernel⟩,
   ⟨(pk [8]), (pk [8]), (node 0 7 []), (node 0 7 []), by decide +kernel⟩,
   ⟨(pk []), _, (node 0 7 []), _, admitted_self (by decide +kernel), by decide +kernel⟩,
   ⟨(pk [8]), _, (node 0 7 []), _, admitted_self (by decide +kernel), by decide +kernel⟩⟩

end NodeStateCommands

namespace RegisterAndMemoryAccess

def ra : Nat → Packet := fun a => pk (leBytes 4 a ++ [1])
def sp : State := { node 2 5 [] with guard.pending := [{ line := 0 }] }
def sgq : State := { node 2 5 [] with guard.valid := [(0x20000000, true), (0x10000000, true)], guard.parity := [(0x20000001, true)], guard.checks := [(0x10000000, 0xFFFF)] }
def p20 : Packet := pk (leBytes 4 0x10000000 ++ leBytes 2 4)

set_option maxRecDepth 100000 in
theorem sgq_bad : ((sgq.vet rowMemRead p20).1.readLines 0 (linesOf 0 268435456 4)).2.1 = .bad := by
  rw [show (sgq.vet rowMemRead p20).1 = sgq by decide +kernel, show linesOf 0 268435456 4 = [0] by decide +kernel,
    State.readLines_bad [] (by decide +kernel) (by decide +kernel) (by decide +kernel) (recompute_none (by decide +kernel) (by decide +kernel) (by decide +kernel)) (by decide +kernel)]

set_option maxRecDepth 100000 in
theorem wit_RegisterAndMemoryAccess :
    (∃ p : Packet, ∃ p1 : Packet, ∃ s : State, ∃ s1 : State, ∃ a : Nat, Admitted rowRegRead p s s1 p1 ∧ p.params = leBytes 4 a ++ [1] ∧ a < 2 ^ 32 ∧ rangeOk a 1 = true) ∧
    (∃ p : Packet, ∃ p1 : Packet, ∃ s : State, ∃ s1 : State, ∃ n, n = numAt p.params 4 1 ∧ Admitted rowRegRead p s s1 p1 ∧ (p.params.length ≠ 5 ∨ rangeOk (numAt p.params 0 4) n = false)) ∧
    (∃ p : Packet, ∃ p1 : Packet, ∃ s : State, ∃ s1 : State, ∃ a : Nat, ∃ n, Admitted rowRegRead p s s1 p1 ∧ p.params = leBytes 4 a ++ leBytes 1 n ∧ a < 2 ^ 32 ∧ n < 256 ∧ rangeOk a n = true ∧ (∀ k, k < n → (s1.readReg (a + 4 * k)).2 = s1)) ∧
    (∃ p : Packet, ∃ p1 : Packet, ∃ s : State, ∃ s1 : State, Admitted rowRegWrite p s s1 p1 ∧ (p.params.length % 4 ≠ 0 ∨ rangeOk (numAt p.params 0 4) (writeValues p).length = false)) ∧
    (∃ p : Packet, ∃ p1 : Packet, ∃ s : State, ∃ s1 : State, ∃ x : State × Nat × Nat, x = s1.writeRegs true (numAt p.params 0 4) (writeValues p) 0 ∧ Admitted rowRegWrite p s s1 p1 ∧ p.params.length % 4 = 0 ∧ rangeOk (numAt p.params 0 4) (writeValues p).length = true ∧ x.2.1 = Stat.OK) ∧
    (∃ p : Packet, ∃ p1 : Packet, ∃ s : State, ∃ s1 : State, Admitted rowRegRmw p s s1 p1 ∧ (p.params.length ≠ 12 ∨ rangeOk (numAt p.params 0 4) 1 = false)) ∧
    (∃ p : Packet, ∃ p1 : Packet, ∃ s : State, ∃ s1 : State, ∃ x : State × Nat, x = s1.writeReg true (numAt p.params 0 4) (numAt p.params 4 4) (numAt p.params 8 4) ∧ Admitted rowRegRmw p s s1 p1 ∧ p.params.length = 12 ∧ rangeOk (numAt p.params 0 4) 1 = true ∧ x.2 = Stat.OK) ∧
    (∃ p : Packet, ∃ p1 : Packet, ∃ s : State, ∃ s1 : State, ∃ x : State × Nat, x = s1.writeReg true (numAt p.params 0 4) (numAt p.params 4 4) (numAt p.params 8 4) ∧ Admitted rowRegRmw p s s1 p1 ∧ p.params.length = 12 ∧ rangeOk (numAt p.params 0 4) 1 = true ∧ x.2 ≠ Stat.OK) ∧
    (∃ p : Packet, ∃ p1 : Packet, ∃ s : State, ∃ s1 : State, ∃ v : Nat, Admitted rowRegWrite p s s1 p1 ∧ p.params = leBytes 4 A.TICK_ASYM_A ++ leBytes 4 v) ∧
    (∃ p : Packet, ∃ p1 : Packet, ∃ s : State, ∃ s1 : State, ∃ v : Nat, Admitted rowRegWrite p s s1 p1 ∧ p.params = leBytes 4 A.TICK_HOLD ++ leBytes 4 v ∧ s1.st ≠ ST.CONFIG ∧ s1.on F.SAFE_PANEL_SEAL_OK = true ∧ v % 128 ≠ s1.f F.TICK_HOLD_HOLD_LIMIT) ∧
    (∃ p : Packet, ∃ p1 : Packet, ∃ s : State, ∃ s1 : State, ∃ v : Nat, ∃ m : Nat, Admitted rowRegRmw p s s1 p1 ∧ p.params = leBytes 4 A.TICK_ASYM_A ++ leBytes 4 m ++ leBytes 4 v) ∧
    (∃ p : Packet, ∃ p1 : Packet, ∃ s : State, ∃ s1 : State, Admitted rowMemWrite p s s1 p1 ∧ (p.params.length < 8 ∨ memRangeOk (numAt p.params 0 4) (p.params.length - 4) = false)) ∧
    (∃ p : Packet, ∃ p1 : Packet, ∃ s : State, ∃ s1 : State, ∃ a : Nat, ∃ d : List Byte, ∃ c : Nat, Admitted rowMemWrite p s s1 p1 ∧ p.params = leBytes 4 a ++ d ∧ a < 2 ^ 32 ∧ memRangeOk a d.length = true ∧ classOf a = some c ∧ ∃ barred : Bool, barred = (c == 2 || (c == 1 && s1.st != ST.CONFIG) || (c == 0 && decide (0x10380000 < a + d.length))) ∧ barred = true) ∧
    (∃ p : Packet, ∃ p1 : Packet, ∃ s : State, ∃ s1 : State, ∃ a : Nat, ∃ d : List Byte, ∃ c : Nat, Admitted rowMemWrite p s s1 p1 ∧ p.params = leBytes 4 a ++ d ∧ a < 2 ^ 32 ∧ memRangeOk a d.length = true ∧ classOf a = some c ∧ ∃ barred : Bool, barred = (c == 2 || (c == 1 && s1.st != ST.CONFIG) || (c == 0 && decide (0x10380000 < a + d.length))) ∧ ∃ l, barred = false ∧ c = 0 ∧ s1.firstPending (linesOf 0 a d.length) = some l) ∧
    (∃ p : Packet, ∃ p1 : Packet, ∃ s : State, ∃ s1 : State, ∃ a : Nat, ∃ d : List Byte, ∃ c : Nat, Admitted rowMemWrite p s s1 p1 ∧ p.params = leBytes 4 a ++ d ∧ a < 2 ^ 32 ∧ memRangeOk a d.length = true ∧ classOf a = some c ∧ ∃ barred : Bool, barred = (c == 2 || (c == 1 && s1.st != ST.CONFIG) || (c == 0 && decide (0x10380000 < a + d.length))) ∧ barred = false ∧ (c = 1 ∨ s1.firstPending (linesOf 0 a d.length) = none)) ∧
    (∃ p : Packet, ∃ p1 : Packet, ∃ s : State, ∃ s1 : State, ∃ a : Nat, ∃ d : List Byte, Admitted rowMemWrite p s s1 p1 ∧ p.params = leBytes 4 a ++ d ∧ a < 2 ^ 32 ∧ memRangeOk a d.length = true ∧ classOf a = some 0 ∧ a + d.length ≤ 0x10380000 ∧ (∀ line, s1.remapOf 0 0 line = none) ∧ s1.firstPending (linesOf 0 a d.length) = none) ∧
    (∃ p : Packet, ∃ p1 : Packet, ∃ s : State, ∃ s1 : State, Admitted rowMemRead p s s1 p1 ∧ (p.params.length ≠ 6 ∨ memRangeOk (numAt p.params 0 4) (numAt p.params 4 2) = false)) ∧
    (∃ p : Packet, ∃ p1 : Packet, ∃ s : State, ∃ s1 : State, ∃ a : Nat, ∃ n, ∃ c, Admitted rowMemRead p s s1 p1 ∧ p.params = leBytes 4 a ++ leBytes 2 n ∧ a < 2 ^ 32 ∧ n < 65536 ∧ memRangeOk a n = true ∧ classOf a = some c ∧ c = 2 ∧ ∃ x : State × List Byte × Nat, x = s1.readRecorder a n ∧ x.2.2 = 0) ∧
    (∃ p : Packet, ∃ p1 : Packet, ∃ s : State, ∃ s1 : State, ∃ a : Nat, ∃ n, ∃ c, Admitted rowMemRead p s s1 p1 ∧ p.params = leBytes 4 a ++ leBytes 2 n ∧ a < 2 ^ 32 ∧ n < 65536 ∧ memRangeOk a n = true ∧ classOf a = some c ∧ c = 2 ∧ ∃ x : State × List Byte × Nat, x = s1.readRecorder a n ∧ 0 < x.2.2) ∧
    (∃ p : Packet, ∃ p1 : Packet, ∃ s : State, ∃ s1 : State, ∃ a : Nat, ∃ n, ∃ c, Admitted rowMemRead p s s1 p1 ∧ p.params = leBytes 4 a ++ leBytes 2 n ∧ a < 2 ^ 32 ∧ n < 65536 ∧ memRangeOk a n = true ∧ classOf a = some c ∧ c ≠ 2 ∧ ∃ x : State × Checked × Nat, x = s1.readLines c (linesOf c a n) ∧ ∃ d : List Byte, x.2.1 = .data d) ∧
    (∃ p : Packet, ∃ p1 : Packet, ∃ s : State, ∃ s1 : State, ∃ a : Nat, ∃ n, ∃ c, Admitted rowMemRead p s s1 p1 ∧ p.params = leBytes 4 a ++ leBytes 2 n ∧ a < 2 ^ 32 ∧ n < 65536 ∧ memRangeOk a n = true ∧ classOf a = some c ∧ c ≠ 2 ∧ ∃ x : State × Checked × Nat, x = s1.readLines c (linesOf c a n) ∧ x.2.1 = .bad) ∧
    (∃ p : Packet, ∃ p1 : Packet, ∃ s : State, ∃ s1 : State, ∃ a : Nat, ∃ n, ∃ c, Admitted rowMemRead p s s1 p1 ∧ p.params = leBytes 4 a ++ leBytes 2 n ∧ a < 2 ^ 32 ∧ n < 65536 ∧ memRangeOk a n = true ∧ classOf a = some c ∧ c ≠ 2 ∧ ∃ x : State × Checked × Nat, x = s1.readLines c (linesOf c a n) ∧ x.2.1 = .pending) ∧
    (∃ p : Packet, ∃ p1 : Packet, ∃ s : State, ∃ s1 : State, ∃ a : Nat, ∃ n : Nat, Admitted rowMemRead p s s1 p1 ∧ p.params = leBytes 4 a ++ leBytes 2 n ∧ a < 2 ^ 32 ∧ memRangeOk a n = true ∧ classOf a = some 2 ∧ (∀ line, s1.remapOf 2 0 line = none) ∧ (∀ k, a ≤ k → k < a + n → s1.lineValid (k / 64 * 64) = true ∧ Map.get false s1.guard.parity k = false)) :=
  ⟨⟨(ra 0), _, (node 0 8 [(F.SAFE_PANEL_SEAL_OK, 1)]), _, 0, admitted_self (by decide +kernel), by decide +kernel⟩,
   ⟨(pk (leBytes 4 A.TICK_ASYM_A ++ leBytes 4 0xFFFF)), _, (node 0 8 [(F.SAFE_PANEL_SEAL_OK, 1)]), _, _, rfl, admitted_self (by decide +kernel), by decide +kernel⟩,
   ⟨(pk (leBytes 4 0 ++ leBytes 1 4)), _, (node 0 8 [(F.SAFE_PANEL_SEAL_OK, 1)]), _, 0, 4, admitted_self (by decide +kernel), by decide +kernel⟩,
   ⟨(ra 0), _, (node 0 8 [(F.SAFE_PANEL_SEAL_OK, 1)]), _, admitted_self (by decide +kernel), by decide +kernel⟩,
   ⟨(pk (leBytes 4 A.TICK_ASYM_A ++ leBytes 4 0xFFFF)), _, (node 0 8 [(F.SAFE_PANEL_SEAL_OK, 1)]), _, _, rfl, admitted_self (by decide +kernel), by decide +kernel⟩,
   ⟨(ra 0), _, (node 0 8 [(F.SAFE_PANEL_SEAL_OK, 1)]), _, admitted_self (by decide +kernel), by decide +kernel⟩,
   ⟨(pk (leBytes 4 A.TICK_ASYM_A ++ leBytes 4 0xFFFF ++ leBytes 4 0x12345678)), _, (node 0 8 [(F.SAFE_PANEL_SEAL_OK, 1)]), _, _, rfl, admitted_self (by decide +kernel), by decide +kernel⟩,
   ⟨(pk (leBytes 4 A.TICK_HOLD ++ leBytes 4 7 ++ leBytes 4 127)), _, (node 0 8 [(F.SAFE_PANEL_SEAL_OK, 1)]), _, _, rfl, admitted_self (by decide +kernel), by decide +kernel⟩,
   ⟨(pk (leBytes 4 A.TICK_ASYM_A ++ leBytes 4 0xFFFF)), _, (node 0 8 [(F.SAFE_PANEL_SEAL_OK, 1)]), _, 65535, admitted_self (by decide +kernel), by decide +kernel⟩,
   ⟨(pk (leBytes 4 A.TICK_HOLD ++ leBytes 4 1)), _, (node 0 8 [(F.SAFE_PANEL_SEAL_OK, 1)]), _, 1, admitted_self (by decide +kernel), by decide +kernel⟩,
   ⟨(pk (leBytes 4 A.TICK_ASYM_A ++ leBytes 4 0xFFFF ++ leBytes 4 0x12345678)), _, (node 0 8 [(F.SAFE_PANEL_SEAL_OK, 1)]), _, 305419896, 65535, admitted_self (by decide +kernel), by decide +kernel⟩,
   ⟨(ra 0), _, (node 0 8 [(F.SAFE_PANEL_SEAL_OK, 1)]), _, admitted_self (by decide +kernel), by decide +kernel⟩,
   ⟨(pk (leBytes 4 0x20000000 ++ [1,2,3,4])), _, (node 0 8 [(F.SAFE_PANEL_SEAL_OK, 1)]), _, 536870912, [1,2,3,4], 2, admitted_self (by decide +kernel), by decide +kernel, by decide +kernel, by decide +kernel, by decide +kernel, _, rfl, by decide +kernel⟩,
   ⟨(pk (leBytes 4 0x10000000 ++ [1,2,3,4])), _, sp, _, 268435456, [1,2,3,4], 0, admitted_self (by decide +kernel), by decide +kernel, by decide +kernel, by decide +kernel, by decide +kernel, _, rfl, 0, by decide +kernel⟩,
   ⟨(pk (leBytes 4 0x30000000 ++ [1,2,3,4])), _, (node 2 5 []), _, 805306368, [1,2,3,4], 1, admitted_self (by decide +kernel), by decide +kernel, by decide +kernel, by decide +kernel, by decide +kernel, _, rfl, by decide +kernel⟩,
   ⟨(pk (leBytes 4 0x1037FFFC ++ [1, 2, 3, 4])), _, (node 0 8 [(F.SAFE_PANEL_SEAL_OK, 1)]), _, 0x1037FFFC, [1, 2, 3, 4], admitted_self (by decide +kernel), by decide +kernel, by decide +kernel, by decide +kernel, by decide +kernel, by decide +kernel, fun _ => no_remap (by decide +kernel), by decide +kernel⟩,
   ⟨(ra 0), _, (node 0 8 [(F.SAFE_PANEL_SEAL_OK, 1)]), _, admitted_self (by decide +kernel), by decide +kernel⟩,
   ⟨(pk (leBytes 4 0x20000000 ++ leBytes 2 4)), _, { node 2 7 [] with clk.timePs := 2 ^ 70, guard.valid := [(0x10000000, true)], bytes := [(0x10000004, 7)] }, _, 536870912, 4, 2, admitted_self (by decide +kernel), by decide +kernel, by decide +kernel, by decide +kernel, by decide +kernel, by decide +kernel, by decide +kernel, _, rfl, by decide +kernel⟩,
   ⟨(pk (leBytes 4 0x20000000 ++ leBytes 2 4)), _, sgq, _, 536870912, 4, 2, admitted_self (by decide +kernel), by decide +kernel, by decide +kernel, by decide +kernel, by decide +kernel, by decide +kernel, by decide +kernel, _, rfl, by decide +kernel⟩,
   ⟨(pk (leBytes 4 0x10000000 ++ leBytes 2 4)), _, { node 2 7 [] with clk.timePs := 2 ^ 70, guard.valid := [(0x10000000, true)], bytes := [(0x10000004, 7)] }, _, 268435456, 4, 0, admitted_self (by decide +kernel), by decide +kernel, by decide +kernel, by decide +kernel, by decide +kernel, by decide +kernel, by decide +kernel, _, rfl, (List.replicate 4 0 ++ [7] ++ List.replicate 59 0), by decide +kernel⟩,
   ⟨p20, _, sgq, _, 268435456, 4, 0, admitted_self (by decide +kernel), by decide +kernel, by decide +kernel, by decide +kernel, by decide +kernel, by decide +kernel, by decide +kernel, _, rfl, sgq_bad⟩,
   ⟨(pk (leBytes 4 0x10000000 ++ leBytes 2 4)), _, sp, _, 268435456, 4, 0, admitted_self (by decide +kernel), by decide +kernel, by decide +kernel, by decide +kernel, by decide +kernel, by decide +kernel, by decide +kernel, _, rfl, by decide +kernel⟩,
   ⟨(pk (leBytes 4 0x2000003C ++ leBytes 2 4)), _, ({ node 0 8 [(F.SAFE_PANEL_SEAL_OK, 1)] with guard.valid := [(0x20000000, true)] } : State), _, 0x2000003C, 4, admitted_self (by decide +kernel), by decide +kernel, by decide +kernel, by decide +kernel, by decide +kernel, fun _ => no_remap (by decide +kernel), by
      intro k h1 h2
      obtain ⟨d, rfl⟩ := Nat.exists_eq_add_of_le h1
      have h3 : d < 4 := by omega
      clear h1 h2
      revert d
      decide +kernel⟩⟩

end RegisterAndMemoryAccess

namespace LaneCommands

def eqE : List Byte := [3, 0x21, 0x47, 0x03]
def eqE2 : List Byte := [67, 0x12, 0x74, 0x02]
def eqT (es : List (List Byte)) : List Byte := let h := [1, BitVec.ofNat 8 es.length, 7, 0]; h ++ leBytes 4 (crc32 (h ++ es.flatten)) ++ es.flatten

theorem wit_LaneCommands :
    (∃ n : Fin 32, ∃ p : Packet, ∃ p1 : Packet, ∃ s : State, ∃ s1 : State, Admitted rowLaneRestart p s s1 p1 ∧ p.params = leBytes 1 n ∧ s1.laneEnabled n = true ∧ s1.onlyLane n = false ∧ cameOn p n = false ∧ (s1.laneUp n = false ∨ s1.f (F.LANE_STATUS_RATE_NOW n) ≠ (s1.setF (F.LANE_STATUS_DEGRADED n) 0).startRate n)) ∧
    (∃ n : Fin 32, ∃ p : Packet, ∃ p1 : Packet, ∃ s : State, ∃ s1 : State, Admitted rowLaneRestart p s s1 p1 ∧ p.params = leBytes 1 n ∧ s1.laneEnabled n = true ∧ s1.onlyLane n = false ∧ cameOn p n = false ∧ s1.laneUp n = true) ∧
    (∃ n : Fin 32, ∃ p : Packet, ∃ p1 : Packet, ∃ s : State, ∃ s1 : State, ∃ r, Admitted rowLaneRate p s s1 p1 ∧ p.params = leBytes 1 n ++ leBytes 1 r ∧ r ≤ 3 ∧ s1.rateFixed n = false ∧ s1.laneUp n = false) ∧
    (∃ n : Fin 32, ∃ p : Packet, ∃ p1 : Packet, ∃ s : State, ∃ s1 : State, ∃ r, Admitted rowLaneRate p s s1 p1 ∧ p.params = leBytes 1 n ++ leBytes 1 r ∧ r ≤ 3 ∧ s1.rateFixed n = false ∧ s1.laneUp n = true ∧ s1.onlyLane n = false ∧ cameOn p n = false ∧ s1.f (F.LANE_STATUS_RATE_NOW n) ≠ r) ∧
    (∃ n : Fin 32, ∃ p : Packet, ∃ p1 : Packet, ∃ s : State, ∃ s1 : State, ∃ r, Admitted rowLaneRate p s s1 p1 ∧ p.params = leBytes 1 n ++ leBytes 1 r ∧ r ≤ 3 ∧ s1.rateFixed n = false ∧ s1.laneUp n = true ∧ s1.onlyLane n = false ∧ cameOn p n = false ∧ s1.f (F.LANE_STATUS_RATE_NOW n) = r) ∧
    (∃ n : Fin 32, ∃ p : Packet, ∃ p1 : Packet, ∃ s : State, ∃ s1 : State, ∃ k : Nat, Admitted rowEqLoad p s s1 p1 ∧ s1.st = ST.CONFIG ∧ p.params.length = 8 + 4 * k ∧ numAt p.params 0 1 = 1 ∧ numAt p.params 1 1 = k ∧ 1 ≤ k ∧ k ≤ 128 ∧ crc32 (p.params.take 4 ++ p.params.drop 8) = numAt p.params 4 4 ∧ (∀ i, i < k → eqEntryOk (slice p.params (8 + 4 * i) 4) = true) ∧ (∀ i j, i < j → j < k → numAt p.params (8 + 4 * i) 1 ≠ numAt p.params (8 + 4 * j) 1)) ∧
    (∃ n : Fin 32, ∃ p : Packet, ∃ p1 : Packet, ∃ s : State, ∃ s1 : State, ∃ pat, ∃ mode, ∃ ms, Admitted rowPrbsStart p s s1 p1 ∧ p.params = leBytes 1 n ++ leBytes 1 pat ++ leBytes 1 mode ++ leBytes 4 ms ∧ pat ≤ 3 ∧ 1 ≤ mode ∧ mode ≤ 3 ∧ 1 ≤ ms ∧ ms ≤ 600000 ∧ s1.onlyLane n = false ∧ s1.isXlink n = false ∧ s1.f (F.LANE_CFG_MODE n) ≠ 1 ∧ cameOn p n = false ∧ s1.laneEnabled n = true ∧ s1.laneSt n ≠ 0) :=
  ⟨⟨4, (pk [4]), _, (node 2 5 [(F.LANE_STATUS_STATE 4, 4), (F.CMD_DL_USE 4, 2), (F.LANE_PRBS_ERR_COUNT 4, 9)]), _, admitted_self (by decide +kernel), by decide +kernel⟩,
   ⟨4, (pk [4]), _, (node 2 5 (lanesUp [4, 5] ++ [(F.CMD_DL_USE 4, 3), (F.CMD_DL_PARTNER 4, 5), (F.CMD_DL_USE 5, 4), (F.CMD_DL_PARTNER 5, 4)])), _, admitted_self (by decide +kernel), by decide +kernel⟩,
   ⟨4, (pk [4, 3]), _, (node 1 5 (lanesUp [0, 1, 3] ++ [(F.CMD_DL_USE 3, 2), (F.LANE_STATUS_DEGRADED 3, 1), (F.LANE_CFG_RATE 3, 2)])), _, 3, admitted_self (by decide +kernel), by decide +kernel⟩,
   ⟨4, (pk [4, 3]), _, (node 2 5 (lanesUp [4, 0])), _, 3, admitted_self (by decide +kernel), by decide +kernel⟩,
   ⟨4, (pk [4, 0]), _, (node 2 5 (lanesUp [4, 0])), _, 0, admitted_self (by decide +kernel), by decide +kernel⟩,
   ⟨0, (pk (eqT [eqE, eqE2])), _, (node 1 5 (lanesUp [0, 1, 3])), _, 2, admitted_self (by decide +kernel), by decide +kernel, by decide +kernel, by decide +kernel, by decide +kernel, by decide +kernel, by decide +kernel, by decide +kernel, by decide +kernel, by
      intro i j h1 h2
      have h3 : i = 0 ∧ j = 1 := by omega
      obtain ⟨rfl, rfl⟩ := h3
      decide +kernel⟩,
   ⟨4, (pk ([4, 1, 3] ++ leBytes 4 1000)), _, (node 2 5 [(F.LANE_STATUS_STATE 4, 4), (F.CMD_DL_USE 4, 2), (F.LANE_PRBS_ERR_COUNT 4, 9)]), _, 1, 3, 1000, admitted_self (by decide +kernel), by decide +kernel⟩⟩

end LaneCommands

namespace ModuleTreeAndTimeCommands

def muxed : State := node 1 5 (lanesUp [0, 1, 3] ++ [(F.LANE_MOD_MUX_ADDR 3, 112), (F.LANE_MOD_MUX_CH 3, 2)])

set_option maxRecDepth 100000 in
theorem wit_ModuleTreeAndTimeCommands :
    (∃ n : Fin 32, ∃ ofs : Nat, ∃ len : Nat, ∃ p : Packet, ∃ p1 : Packet, ∃ s : State, ∃ s1 : State, ∃ dev, Admitted rowModRead p s s1 p1 ∧ p.params = leBytes 1 n ++ leBytes 1 dev ++ leBytes 1 ofs ++ leBytes 1 len ∧ (dev = 0xA0 ∨ dev = 0xA2) ∧ 1 ≤ len ∧ len ≤ 64 ∧ ofs + len ≤ 256) ∧
    (∃ n : Fin 32, ∃ ofs : Nat, ∃ len : Nat, ∃ p : Packet, ∃ p1 : Packet, ∃ s : State, ∃ s1 : State, ∃ d : List Byte, Admitted rowModWrite p s s1 p1 ∧ p.params = leBytes 1 n ++ leBytes 1 ofs ++ leBytes 1 len ++ d ∧ d.length = len ∧ 1 ≤ len ∧ len ≤ 8 ∧ 110 ≤ ofs ∧ ofs + len ≤ 128) ∧
    (∃ n : Fin 32, ∃ s1 : State, s1.moduleMux n = 0) ∧
    (∃ n : Fin 32, ∃ s1 : State, s1.moduleMux n ≠ 0) ∧
    (∃ p : Packet, ∃ p1 : Packet, ∃ s : State, ∃ s1 : State, Admitted rowTreeLoad p s s1 p1 ∧ s1.st = ST.CONFIG ∧ p.params.length ≤ 131088 ∧ s1.recordRefused p.params = none) ∧
    (∃ p : Packet, ∃ p1 : Packet, ∃ s : State, ∃ s1 : State, Admitted rowTreeSurvey p s s1 p1 ∧ p.params.length = 4 ∧ (bitList 32 (numAt p.params 0 4)).all (fun n => decide (2 ≤ n) && s1.use n != USE.XLINK && s1.f (F.LANE_CFG_MODE n) != 1) = true) ∧
    (∃ p : Packet, ∃ p1 : Packet, ∃ s : State, ∃ s1 : State, ∃ v, ∃ m, Admitted rowTimeSet p s s1 p1 ∧ p.params = leBytes 8 v ++ leBytes 1 m ∧ m ≤ 1 ∧ v < 2 ^ 64 ∧ v % (s1.clk.tickLen * 2) = 0 ∧ s1.st ≠ ST.RUN) :=
  ⟨⟨3, 0, 4, (pk [3, 0xA0, 0, 4]), _, muxed, _, 160, admitted_self (by decide +kernel), by decide +kernel⟩,
   ⟨3, 110, 2, (pk [3, 110, 2, 1, 2]), _, muxed, _, [1, 2], admitted_self (by decide +kernel), by decide +kernel⟩,
   ⟨2, muxed, by decide +kernel⟩,
   ⟨3, muxed, by decide +kernel⟩,
   ⟨(pk rec1), _, (node 2 5 [(F.LANE_STATUS_STATE 4, 1)]), _, admitted_self (by decide +kernel), by decide +kernel⟩,
   ⟨(pk (leBytes 4 0x30)), _, (node 2 5 [(F.LANE_STATUS_STATE 4, 1)]), _, admitted_self (by decide +kernel), by decide +kernel⟩,
   ⟨(pk (leBytes 8 8000000 ++ [1])), _, (node 2 5 [(F.LANE_STATUS_STATE 4, 1)]), _, 8000000, 1, admitted_self (by decide +kernel), by decide +kernel⟩⟩

end ModuleTreeAndTimeCommands

namespace SegmentsForwarded

def sg (kind ctl dest : Nat) (pl : List Byte := [1, 2, 3]) : List Byte := segBytes { kind := kind, ctl := ctl, frag := 0, dest := dest, payload := pl }
def own : State := (node 1 8 (lanesUp [4] ++ [(F.CMD_DL_USE 4, 2)])).updLane 4 (fun l => { l with txq := [{ inLane := 32, bytes := [1, 2] }] })

theorem wit_SegmentsForwarded :
    (∃ b : List Byte, ∃ k : Nat, 1 ≤ k ∧ k ≤ b.length + 1) ∧
    (∃ n : Fin 32, ∃ out : Fin 32, ∃ line : List Sym, ∃ b : List Byte, ∃ g : Segment, ∃ s : State, s.running = true ∧ s.laneUp n = true ∧ parseSeg b = some g ∧ s.route g.dest = .lane out ∧ roomFor (s.lane out).txq { prio := segPrio g.kind (g.ctl % 4), inLane := n, ready := s.clk.nowPs / 2000, bytes := b } = true ∧ routedKind g.kind = true ∧ received line = [(b, false)]) ∧
    (∃ n : Fin 32, ∃ out : Fin 32, ∃ b : List Byte, ∃ g : Segment, ∃ s : State, s.running = true ∧ s.laneUp n = true ∧ parseSeg b = some g ∧ s.route g.dest = .lane out ∧ roomFor (s.lane out).txq { prio := segPrio g.kind (g.ctl % 4), inLane := n, ready := s.clk.nowPs / 2000, bytes := b } = true ∧ g.kind = KIND.REPLY) ∧
    (∃ n : Fin 32, ∃ out : Fin 32, ∃ b : List Byte, ∃ g : Segment, ∃ s : State, s.running = true ∧ s.laneUp n = true ∧ parseSeg b = some g ∧ s.route g.dest = .lane out ∧ roomFor (s.lane out).txq { prio := segPrio g.kind (g.ctl % 4), inLane := n, ready := s.clk.nowPs / 2000, bytes := b } = true ∧ g.kind = KIND.COMMAND ∧ bit g.ctl 4 = false) ∧
    (∃ n : Fin 32, ∃ line : List Sym, ∃ b : List Byte, ∃ s : State, s.running = true ∧ s.laneUp n = true ∧ numAt b 0 1 = 0x13 ∧ b.length < 12 ∧ routedKind (segKind b) = true ∧ s.onward n (segKind b) (segDest b) = [] ∧ received line = [(b, false)]) ∧
    (∃ n : Fin 32, ∃ out : Fin 32, ∃ line : List Sym, ∃ b : List Byte, ∃ s : State, s.running = true ∧ s.laneUp n = true ∧ numAt b 0 1 = 0x13 ∧ 8 ≤ b.length ∧ received line = [(b, true)] ∧ s.onward n (segKind b) (segDest b) = [out.val] ∧ roomFor (s.lane out).txq { prio := segPrio (segKind b) (segClass b), inLane := n, bad := true, bytes := b } = true) ∧
    (∃ n : Fin 32, ∃ s : State, s.running = true ∧ ∃ x : TxItem, s.laneUp n = true ∧ (s.lane n).txq = [x] ∧ x.eth = false ∧ (s.lane n).assignRest = [] ∧ x.inLane ≠ 32) ∧
    (∃ n : Fin 32, ∃ s : State, s.running = true ∧ ∃ x : TxItem, s.laneUp n = true ∧ (s.lane n).txq = [x] ∧ x.eth = false ∧ (s.lane n).assignRest = [] ∧ x.inLane = 32) :=
  ⟨⟨(sg 1 13 5), 4, by decide +kernel⟩,
   ⟨4, 4, ((framed false) (sg 1 13 7)), (sg 1 13 7), (segOf (sg 1 13 7)), (node 1 8 (lanesUp [0, 3, 4] ++ [(F.CMD_NODE_ASSIGNED, 1), (F.CMD_NODE_ADDR, 2), (F.CMD_DL_USE 3, 2), (F.CMD_DL_USE 4, 2), (F.CMD_RANGE_LO 3, 5), (F.CMD_RANGE_HI 3, 6), (F.CMD_RANGE_LO 4, 7), (F.CMD_RANGE_HI 4, 7), (F.CMD_NODE_ADDR, 2)])), by decide +kernel⟩,
   ⟨4, 3, (sg 2 14 0), (segOf (sg 2 14 0)), (node 1 8 (lanesUp [0, 3, 4] ++ [(F.CMD_NODE_ASSIGNED, 1), (F.CMD_NODE_ADDR, 2), (F.CMD_DL_USE 3, 2), (F.CMD_DL_USE 4, 2), (F.CMD_RANGE_LO 3, 5), (F.CMD_RANGE_HI 3, 6), (F.CMD_RANGE_LO 4, 7), (F.CMD_RANGE_HI 4, 7), (F.CMD_NODE_ADDR, 2)])), by decide +kernel⟩,
   ⟨4, 4, (sg 1 13 7), (segOf (sg 1 13 7)), (node 1 8 (lanesUp [0, 3, 4] ++ [(F.CMD_NODE_ASSIGNED, 1), (F.CMD_NODE_ADDR, 2), (F.CMD_DL_USE 3, 2), (F.CMD_DL_USE 4, 2), (F.CMD_RANGE_LO 3, 5), (F.CMD_RANGE_HI 3, 6), (F.CMD_RANGE_LO 4, 7), (F.CMD_RANGE_HI 4, 7), (F.CMD_NODE_ADDR, 2)])), by decide +kernel⟩,
   ⟨4, ((framed false) [0x13, 1, 2]), [0x13, 1, 2], ((node 1 8 (lanesUp [4])).updLane 4 (fun l => { l with txq := [{ inLane := 3, bytes := [1] }] })), by decide +kernel⟩,
   ⟨4, 4, ((framed true) (sg 1 13 7)), (sg 1 13 7), (node 1 8 (lanesUp [0, 3, 4] ++ [(F.CMD_NODE_ASSIGNED, 1), (F.CMD_NODE_ADDR, 2), (F.CMD_DL_USE 3, 2), (F.CMD_DL_USE 4, 2), (F.CMD_RANGE_LO 3, 5), (F.CMD_RANGE_HI 3, 6), (F.CMD_RANGE_LO 4, 7), (F.CMD_RANGE_HI 4, 7), (F.CMD_NODE_ADDR, 2)])), by decide +kernel⟩,
   ⟨4, ((node 1 8 (lanesUp [4])).updLane 4 (fun l => { l with txq := [{ inLane := 3, bytes := [1] }] })), by decide +kernel, { inLane := 3, bytes := [1] }, by decide +kernel⟩,
   ⟨4, own, by decide +kernel, { inLane := 32, bytes := [1, 2] }, by decide +kernel⟩⟩

end SegmentsForwarded

namespace CommandsAndReplies

def pa : Packet := { source := 0x2005, target := 2, seq := 9, params := [1, 2] }
def pb : Packet := { source := 2, target := 5, seq := 10, params := [], cls := 2 }
def pc : Packet := { source := 2, target := 8000, seq := 11, params := [] }
def sg (kind ctl dest : Nat) (pl : List Byte) : List Byte := segBytes { kind := kind, ctl := ctl, frag := 0, dest := dest, payload := pl }
def rp (seq final : Nat) : List Byte := replyHeader 1 { source := 2, seq := BitVec.ofNat 16 seq } (final == 1) 5 0 2 ++ [7, 8]
def l1 : List (Fld × Nat) := lanesUp [0, 3, 4] ++ [(F.CMD_NODE_ASSIGNED, 1), (F.CMD_NODE_ADDR, 2), (F.CMD_DL_USE 3, 2), (F.CMD_DL_USE 4, 2), (F.CMD_RANGE_LO 3, 5), (F.CMD_RANGE_HI 3, 6), (F.CMD_RANGE_LO 4, 7), (F.CMD_RANGE_HI 4, 7)]
def tk : Tracked := { source := 2, seq := 10, opcode := 1, cls := 2, deadline := 9000000000, unit := 0 }
def tk2 : Tracked := { source := 2, seq := 12, opcode := 1, cls := 2, deadline := 20000000000 }
def s0 : State := node 1 8 l1
def pz : Packet := { source := 0, target := 5, seq := 7, cls := 0 }
def pw : Packet := { source := 0x2005, target := 2, seq := 9, params := leBytes 4 A.TICK_ASYM_A ++ leBytes 4 5 }
def tk3 : Tracked := { source := 2, seq := 14, opcode := 1, cls := 2, deadline := 9000000000, unit := 0, silent := true }
def s64 : State := { s0 with cmd.tracked := (List.range 64).map (fun i => { tk with seq := BitVec.ofNat 16 (100 + i) }) }
def s3 : State := { s0 with cmd.tracked := [tk3] }
def sm : State := node 2 8 (lanesUp [4] ++ [(F.TWIN_STAT_ROLE, 1), (F.CMD_DL_USE 4, 2), (F.CMD_RANGE_LO 4, 2), (F.CMD_RANGE_HI 4, 7)])
def sw : State := { s0 with cmd.busy := some (0x0201, pw) }
def pb2 : Packet := { source := 2, target := 2, seq := 10, params := [], cls := 2 }

set_option maxRecDepth 100000 in
theorem wit_CommandsAndReplies :
    (∃ n : Fin 32, ∃ b : List Byte, ∃ g : Segment, ∃ op : Nat, ∃ p : Packet, ∃ s : State, s.running = true ∧ ∃ r : OpRow, s.laneUp n = true ∧ parseSeg b = some g ∧ g.kind = KIND.COMMAND ∧ bit g.ctl 4 = false ∧ g.dest = s.addr ∧ bit g.ctl 2 = true ∧ bit g.ctl 3 = true ∧ g.frag = 0 ∧ parsePacket g.payload = some (op, p) ∧ opRow op = some r) ∧
    (∃ n : Fin 32, ∃ b : List Byte, ∃ g : Segment, ∃ op : Nat, ∃ p : Packet, ∃ s : State, s.running = true ∧ ∃ k : Fin 5, ∃ r : OpRow, parsePacket b = some (op, p) ∧ p.cls ≠ 0 ∧ p.target.toNat = s.addr ∧ opRow op = some r) ∧
    (∃ b : List Byte, ∃ op : Nat, ∃ p : Packet, ∃ s : State, s.running = true ∧ parsePacket b = some (op, p) ∧ p.cls ≠ 0 ∧ p.mcast = false ∧ s.route p.target.toNat = .fail) ∧
    (∃ b : List Byte, ∃ op : Nat, ∃ p : Packet, ∃ s : State, s.running = true ∧ ∃ out, parsePacket b = some (op, p) ∧ p.cls ≠ 0 ∧ p.mcast = false ∧ s.route p.target.toNat = .lane out ∧ (∀ x ∈ s.cmd.tracked, x.source ≠ p.source ∨ x.seq ≠ p.seq) ∧ s.cmd.tracked.length < 64) ∧
    (∃ b : List Byte, ∃ op : Nat, ∃ p : Packet, ∃ s : State, s.running = true ∧ ∃ out, parsePacket b = some (op, p) ∧ p.cls ≠ 0 ∧ p.mcast = false ∧ s.route p.target.toNat = .lane out ∧ (∀ x ∈ s.cmd.tracked, x.source ≠ p.source ∨ x.seq ≠ p.seq) ∧ 64 ≤ s.cmd.tracked.length) ∧
    (∃ b : List Byte, ∃ op : Nat, ∃ p : Packet, ∃ s : State, s.running = true ∧ ∃ out, parsePacket b = some (op, p) ∧ p.cls ≠ 0 ∧ p.mcast = false ∧ s.route p.target.toNat = .lane out ∧ (∃ x ∈ s.cmd.tracked, x.source = p.source ∧ x.seq = p.seq)) ∧
    (∃ b : List Byte, ∃ op : Nat, ∃ p : Packet, ∃ s : State, s.running = true ∧ ∃ out, ∃ unit, parsePacket b = some (op, p) ∧ p.cls = 0 ∧ p.params.length ≤ 16 ∧ p.auth = false ∧ p.mcast = false ∧ s.route p.target.toNat = .lane out ∧ (∀ x ∈ s.cmd.tracked, (x.source ≠ p.source ∨ x.seq ≠ p.seq) ∧ (x.slotTick = none ∨ x.unit ≠ unit)) ∧ s.cmd.tracked.length < 64 ∧ s.activeMeadow = true ∧ s.rangeUnit p.target.toNat = some unit ∧ s.cmd.c0q = [] ∧ s.slotsClosed = false ∧ Map.get [] s.cmd.slotsOut unit = []) ∧
    (∃ n : Fin 32, ∃ b : List Byte, ∃ g : Segment, ∃ op : Nat, ∃ p : Packet, ∃ s : State, s.running = true ∧ s.laneUp n = true ∧ parseSeg b = some g ∧ g.kind = KIND.REPLY ∧ g.dest = s.addr ∧ bit g.ctl 2 = true ∧ bit g.ctl 3 = true ∧ g.frag = 0 ∧ s.safe.remote = none ∧ s.cmd.c0q = [] ∧ numAt (slotReply g.payload) 8 2 = s.addr ∧ s.cmd.timedOut.contains (s.addr * 65536 + numAt (slotReply g.payload) 6 2) = false) ∧
    (∃ n : Fin 32, ∃ b : List Byte, ∃ g : Segment, ∃ op : Nat, ∃ p : Packet, ∃ s : State, s.running = true ∧ s.laneUp n = true ∧ parseSeg b = some g ∧ g.kind = KIND.REPLY ∧ g.dest = s.addr ∧ bit g.ctl 2 = true ∧ bit g.ctl 3 = true ∧ g.frag = 0 ∧ s.safe.remote = none ∧ s.cmd.c0q = [] ∧ numAt (slotReply g.payload) 8 2 = s.addr ∧ s.cmd.timedOut.contains (s.addr * 65536 + numAt (slotReply g.payload) 6 2) = true) ∧
    (∃ n : Fin 32, ∃ b : List Byte, ∃ g : Segment, ∃ op : Nat, ∃ p : Packet, ∃ s : State, s.running = true ∧ ∃ src : BitVec 16, ∃ seq : BitVec 16, ∃ x : Tracked, s.cmd.tracked.find? (fun y => y.source == src && y.seq == seq) = some x ∧ x.slotTick = none ∧ x.deadline ≠ 0 ∧ src.toNat < 8192 ∧ s.cmd.c0q = [] ∧ x.silent = false) ∧
    (∃ s : State, s.running = true ∧ ∃ src : BitVec 16, ∃ seq : BitVec 16, ∃ x : Tracked, s.cmd.tracked.find? (fun y => y.source == src && y.seq == seq) = some x ∧ x.slotTick = none ∧ x.deadline ≠ 0 ∧ src.toNat < 8192 ∧ s.cmd.c0q = [] ∧ x.silent = true) ∧
    (∃ p : Packet, ∃ s : State, s.running = true ∧ ∃ o : BitVec 16, ∃ q : Packet, s.cmd.busy = some (o.toNat, q) ∧ (opRow o.toNat).isSome = true ∧ p = { q with ks := [] } ∧ ∃ v, o = 0x0201 ∧ q.params.take 8 = leBytes 4 A.TICK_ASYM_A ++ leBytes 4 v) ∧
    (∃ n : Fin 32, ∃ b : List Byte, ∃ g : Segment, ∃ op : Nat, ∃ p : Packet, ∃ s : State, s.running = true ∧ ∃ o : BitVec 16, ∃ r : OpRow, ∃ p1 : Packet, ∃ s1 : State, s.cmd.busy = none ∧ opRow o.toNat = some r ∧ s.vet r p = (s1, p1, Stat.OK)) :=
  ⟨⟨3, (sg 1 13 2 (pktBytes 0 pa)), segOf (sg 1 13 2 (pktBytes 0 pa)), 0, pa, s0, by decide +kernel, rowNop, by decide +kernel, by decide +kernel, by decide +kernel, by decide +kernel, by decide +kernel, by decide +kernel, by decide +kernel, by decide +kernel, by decide +kernel, rfl⟩,
   ⟨3, pktBytes 1 pb2, segOf [], 1, pb2, s0, by decide +kernel, 4, rowSysInfo, by decide +kernel, by decide +kernel, by decide +kernel, rfl⟩,
   ⟨(pktBytes 0x0E30 pc), 3632, pc, { (node 2 8 (lanesUp [4] ++ [(F.CMD_DL_USE 4, 2), (F.CMD_RANGE_LO 4, 2), (F.CMD_RANGE_HI 4, 7)])) with tree.record := [meadowA, meadowB] }, by decide +kernel⟩,
   ⟨(pktBytes 1 pb), 1, pb, s0, by decide +kernel, 3, by decide +kernel⟩,
   ⟨(pktBytes 1 pb), 1, pb, s64, by decide +kernel, 3, by decide +kernel⟩,
   ⟨(pktBytes 1 pb), 1, pb, { s0 with cmd.tracked := [tk, tk2] }, by decide +kernel, 3, by decide +kernel⟩,
   ⟨(pktBytes 0 pz), 0, pz, sm, by decide +kernel, 4, 4, by decide +kernel⟩,
   ⟨3, (sg 2 13 2 (rp 10 0)), segOf (sg 2 13 2 (rp 10 0)), 0, pa, s0, by decide +kernel⟩,
   ⟨3, (sg 2 13 2 (rp 10 0)), segOf (sg 2 13 2 (rp 10 0)), 0, pa, { s0 with cmd.timedOut := [2 * 65536 + 10] }, by decide +kernel⟩,
   ⟨0, [], segOf [], 0, pa, { s0 with cmd.tracked := [tk, tk2] }, by decide +kernel, 2, 12, tk2, by decide +kernel⟩,
   ⟨s3, by decide +kernel, 2, 0xe, tk3, by decide +kernel⟩,
   ⟨pw, sw, by decide +kernel, 0x201, pw, by decide +kernel, by decide +kernel, by decide +kernel, 5, by decide +kernel⟩,
   ⟨0, [], segOf [], 0, pa, s0, by decide +kernel, 0, rowNop, _, _, by decide +kernel, rfl, vet_self (by decide +kernel)⟩⟩

end CommandsAndReplies

namespace ReportsAndImages

def sg (kind ctl dest : Nat) (pl : List Byte) : List Byte := segBytes { kind := kind, ctl := ctl, frag := 0, dest := dest, payload := pl }
def l1 : List (Fld × Nat) := lanesUp [0, 3, 4] ++ [(F.CMD_NODE_ASSIGNED, 1), (F.CMD_NODE_ADDR, 2), (F.CMD_DL_USE 3, 2), (F.CMD_DL_USE 4, 2), (F.CMD_RANGE_LO 3, 5), (F.CMD_RANGE_HI 3, 6), (F.CMD_RANGE_LO 4, 7), (F.CMD_RANGE_HI 4, 7), (F.CMD_NODE_LEVEL, 1)]
def mir : List Byte := leBytes 4 77 ++ leBytes 4 0 ++ [1, 1] ++ leBytes 2 5 ++ leBytes 4 0xABCD
def sub : Subscriber := { source := 0, mac := 5 }

theorem wit_ReportsAndImages :
    (∃ n : Fin 32, ∃ out : Fin 32, ∃ b : List Byte, ∃ g : Segment, ∃ s : State, s.running = true ∧ s.laneUp n = true ∧ parseSeg b = some g ∧ g.kind = KIND.MULTICAST ∧ s.covered (some n) g.dest = false ∧ s.route g.dest = .lane out ∧ roomFor (s.lane out).txq { prio := 5, inLane := n, ready := s.clk.nowPs / 2000, bytes := b } = true) ∧
    (∃ n : Fin 32, ∃ b : List Byte, ∃ g : Segment, ∃ s : State, s.running = true ∧ s.laneUp n = true ∧ parseSeg b = some g ∧ g.kind = KIND.MULTICAST ∧ s.covered (some n) g.dest = true ∧ s.units = [] ∧ s.mateCopy (some n) g.dest = false ∧ s.mateCovered g.dest = false ∧ s.stagesImage = true ∧ s.tree.taken ≠ [] ∧ s.on F.SYS_STATE_IMG_OK = false ∧ s.node.imgPend = none ∧ s.node.imgId = none ∧ 16 ≤ g.payload.length ∧ 1 ≤ numAt g.payload 4 4 ∧ numAt g.payload 4 4 ≤ 4194304 ∧ (numAt g.payload 4 4 + 65535) / 65536 ≤ s.freePages.length) ∧
    (∃ n : Fin 32, ∃ b : List Byte, ∃ g : Segment, ∃ s : State, s.running = true ∧ s.laneUp n = true ∧ parseSeg b = some g ∧ ∃ o : Nat, ∃ w : Word, ∃ q : Nat, g.kind = KIND.MIRROR ∧ s.isXlink n = true ∧ bit g.ctl 2 = true ∧ bit g.ctl 3 = true ∧ g.frag = 0 ∧ s.isTwin = true ∧ (s.twinRole = ROLE.READY ∨ s.twinRole = ROLE.SYNC) ∧ s.twin.partner.seen = false ∧ o < 2048 ∧ q < 2 ^ 32 ∧ g.payload = leBytes 4 q ++ leBytes 4 0 ++ [1, 1] ++ leBytes 2 o ++ leBytes 4 w.toNat) ∧
    (∃ n : Fin 32, ∃ out : Fin 32, ∃ b : List Byte, ∃ g : Segment, ∃ s : State, s.running = true ∧ s.laneUp n = true ∧ parseSeg b = some g ∧ g.kind = KIND.EVENT ∧ s.activeMeadow = false ∧ s.uplinks.contains n.val = false ∧ s.isXlink n = false ∧ s.reportLane = some out.val ∧ roomFor (s.lane out).txq { prio := 6, inLane := n, ready := s.clk.nowPs / 2000, bytes := b } = true) ∧
    (∃ n : Fin 32, ∃ b : List Byte, ∃ g : Segment, ∃ s : State, s.running = true ∧ s.laneUp n = true ∧ parseSeg b = some g ∧ ∃ u : Subscriber, g.kind = KIND.EVENT ∧ s.activeMeadow = true ∧ s.subscribers KIND.EVENT = [u] ∧ u.source.toNat = s.addr) ∧
    (∃ n : Fin 32, ∃ out : Fin 32, ∃ b : List Byte, ∃ g : Segment, ∃ s : State, s.running = true ∧ s.laneUp n = true ∧ parseSeg b = some g ∧ g.kind = KIND.LIFE ∧ s.activeMeadow = false ∧ s.uplinks.contains n.val = false ∧ s.isXlink n = false ∧ s.reportLane = some out.val ∧ roomFor (s.lane out).txq { prio := 6, inLane := n, ready := s.clk.nowPs / 2000, bytes := b } = true) ∧
    (∃ n : Fin 32, ∃ b : List Byte, ∃ g : Segment, ∃ s : State, s.running = true ∧ s.laneUp n = true ∧ parseSeg b = some g ∧ ∃ u : Subscriber, g.kind = KIND.LIFE ∧ s.activeMeadow = true ∧ s.subscribers KIND.LIFE = [u] ∧ u.source.toNat = s.addr) :=
  ⟨⟨4, 3, (sg 6 28 5 [1]), (segOf (sg 6 28 5 [1])), (node 1 8 l1), by decide +kernel⟩,
   ⟨0, (sg 6 28 0 (leBytes 4 9 ++ leBytes 4 100000 ++ leBytes 4 0 ++ leBytes 4 0 ++ List.replicate 20 3)), (segOf (sg 6 28 0 (leBytes 4 9 ++ leBytes 4 100000 ++ leBytes 4 0 ++ leBytes 4 0 ++ List.replicate 20 3))), { node 0 4 (lanesUp [0, 1] ++ [(F.CMD_NODE_ASSIGNED, 1), (F.CMD_NODE_ADDR, 2)]) with tree.taken := entry 2 2 0 0 4 0 1 4 4 0xFF 1 }, by decide +kernel⟩,
   ⟨0, (sg 10 12 0 mir), (segOf (sg 10 12 0 mir)), (node 2 8 (lanesUp [0, 1, 4] ++ [(F.TWIN_STAT_ROLE, 2), (F.CMD_DL_USE 0, 5), (F.CMD_DL_USE 1, 5)])), by decide +kernel, by decide +kernel, by decide +kernel, 5, 0xabcd, 77, by decide +kernel⟩,
   ⟨4, 0, (sg 9 12 0 [1, 2, 3, 4]), (segOf (sg 9 12 0 [1, 2, 3, 4])), (node 1 8 l1), by decide +kernel⟩,
   ⟨4, (sg 9 12 0 [1, 2, 3, 4]), (segOf (sg 9 12 0 [1, 2, 3, 4])), { (node 2 8 (lanesUp [4] ++ [(F.TWIN_STAT_ROLE, 1), (F.CMD_DL_USE 4, 2)])) with hub.subs := [sub], life.subs := [sub] }, by decide +kernel, by decide +kernel, by decide +kernel, sub, by decide +kernel⟩,
   ⟨4, 0, (sg 11 12 0 [9, 8, 7]), (segOf (sg 11 12 0 [9, 8, 7])), (node 1 8 l1), by decide +kernel⟩,
   ⟨4, (sg 11 12 0 [9, 8, 7]), (segOf (sg 11 12 0 [9, 8, 7])), { (node 2 8 (lanesUp [4] ++ [(F.TWIN_STAT_ROLE, 1), (F.CMD_DL_USE 4, 2)])) with hub.subs := [sub], life.subs := [sub] }, by decide +kernel, by decide +kernel, by decide +kernel, sub, by decide +kernel⟩⟩

end ReportsAndImages

namespace Assignment

def asg (kind : Nat) (e : List (List Byte)) : List Byte := segBytes { kind := kind, ctl := 12, frag := 0, dest := 0, payload := e.flatten }
def e1 : List Byte := entry 2 2 0 0 4 0 1 4 4 0xFF 1
def hl (s : State) : State := (s.updLane 0 (fun l => { l with farAddr := 0 })).updLane 1 (fun l => { l with farAddr := 0 })

theorem wit_Assignment :
    (∃ n : Fin 32, ∃ b : List Byte, ∃ g : Segment, ∃ s : State, s.running = true ∧ s.laneUp n = true ∧ parseSeg b = some g ∧ g.kind = KIND.ASSIGN ∧ bit g.ctl 2 = true ∧ bit g.ctl 3 = true ∧ g.frag = 0 ∧ 16 ≤ g.payload.length ∧ ST.LINK ≤ s.st ∧ s.isMeadow = false ∧ s.uplinks.contains n.val = true ∧ s.on F.CMD_NODE_ASSIGNED = false ∧ s.nakReason n (g.payload.take 16) = 0) ∧
    (∃ n : Fin 32, ∃ b : List Byte, ∃ g : Segment, ∃ s : State, s.running = true ∧ s.laneUp n = true ∧ parseSeg b = some g ∧ g.kind = KIND.ASSIGN ∧ bit g.ctl 2 = true ∧ bit g.ctl 3 = true ∧ g.frag = 0 ∧ 16 ≤ g.payload.length ∧ ST.LINK ≤ s.st ∧ s.isMeadow = false ∧ s.uplinks.contains n.val = true ∧ s.on F.CMD_NODE_ASSIGNED = false ∧ s.nakReason n (g.payload.take 16) ≠ 0) ∧
    (∃ n : Fin 32, ∃ b : List Byte, ∃ g : Segment, ∃ s : State, s.running = true ∧ s.laneUp n = true ∧ parseSeg b = some g ∧ g.kind = KIND.ASSIGN ∧ bit g.ctl 2 = true ∧ bit g.ctl 3 = true ∧ g.frag = 0 ∧ 16 ≤ g.payload.length ∧ ST.LINK ≤ s.st ∧ s.isMeadow = false ∧ s.uplinks.contains n.val = true ∧ s.on F.CMD_NODE_ASSIGNED = true ∧ g.payload = s.tree.taken) ∧
    (∃ n : Fin 32, ∃ s : State, s.running = true ∧ s.laneUp n = true ∧ (s.lane n).assign ≠ [] ∧ (s.lane n).assignRest = []) ∧
    (∃ n : Fin 32, ∃ b : List Byte, ∃ g : Segment, ∃ s : State, s.running = true ∧ s.laneUp n = true ∧ (s.lane n).assign ≠ [] ∧ parseSeg b = some g ∧ g.kind = KIND.ASSIGN_ACK) ∧
    (∃ n : Fin 32, ∃ b : List Byte, ∃ g : Segment, ∃ s : State, s.running = true ∧ s.laneUp n = true ∧ (s.lane n).assign ≠ [] ∧ parseSeg b = some g ∧ g.kind = KIND.ASSIGN_NAK) ∧
    (∃ n : Fin 32, ∃ s : State, s.running = true ∧ s.units.contains n.val = true ∧ s.unitPresent n = false ∧ (s.unit n).absentRaised = false ∧ yarState s.st = true ∧ (s.unit n).lost = false) ∧
    (∃ n : Fin 32, ∃ s : State, s.running = true ∧ s.laneUp n = false) ∧
    (∃ n : Fin 32, ∃ b : List Byte, ∃ g : Segment, ∃ s : State, s.running = true ∧ s.laneUp n = true ∧ parseSeg b = some g ∧ (s.lane n).assign = [] ∧ g.kind = KIND.ASSIGN_NAK) ∧
    (∃ n : Fin 32, ∃ s : State, s.running = true ∧ (s.units.contains n.val = false ∨ s.unitPresent n = true)) :=
  ⟨⟨0, (asg 3 [e1]), (segOf (asg 3 [e1])), (hl (node 0 2 (lanesUp [0, 1] ++ [(F.LANE_STATUS_FAR_ROLE 0, 2)]))), by decide +kernel⟩,
   ⟨0, (asg 3 [e1]), (segOf (asg 3 [e1])), (hl (node 1 2 (lanesUp [0] ++ [(F.LANE_STATUS_FAR_ROLE 0, 2)]))), by decide +kernel⟩,
   ⟨0, (asg 3 [e1]), (segOf (asg 3 [e1])), { hl (node 0 8 (lanesUp [0] ++ [(F.CMD_NODE_ASSIGNED, 1), (F.CMD_NODE_ADDR, 2)])) with tree.taken := e1, tree.takenLane := 0 }, by decide +kernel⟩,
   ⟨4, ((node 2 7 (lanesUp [4] ++ [(F.CMD_DL_USE 4, 2), (F.CMD_DL_FAR_ADDR 4, 2)])).updLane 4 (fun l => { l with assign := e1 })), by decide +kernel⟩,
   ⟨4, (asg 4 [e1]), (segOf (asg 4 [e1])), ((node 2 7 (lanesUp [4] ++ [(F.CMD_DL_USE 4, 2), (F.CMD_DL_FAR_ADDR 4, 2)])).updLane 4 (fun l => { l with assign := e1 })), by decide +kernel⟩,
   ⟨4, (segBytes { kind := 5, ctl := 12, frag := 0, dest := 0, payload := e1 ++ [1] }), (segOf (segBytes { kind := 5, ctl := 12, frag := 0, dest := 0, payload := e1 ++ [1] })), ((node 2 7 (lanesUp [4] ++ [(F.CMD_DL_USE 4, 2), (F.CMD_DL_FAR_ADDR 4, 2)])).updLane 4 (fun l => { l with assign := e1 })), by decide +kernel⟩,
   ⟨4, (node 2 8 [(F.CMD_DL_USE 4, 2)]), by decide +kernel⟩,
   ⟨4, (hl (node 0 2 (lanesUp [0, 1] ++ [(F.LANE_STATUS_FAR_ROLE 0, 2)]))), by decide +kernel⟩,
   ⟨0, (segBytes { kind := 5, ctl := 12, frag := 0, dest := 0, payload := e1 ++ [1] }), (segOf (segBytes { kind := 5, ctl := 12, frag := 0, dest := 0, payload := e1 ++ [1] })), (hl (node 0 2 (lanesUp [0, 1] ++ [(F.LANE_STATUS_FAR_ROLE 0, 2)]))), by decide +kernel⟩,
   ⟨4, (hl (node 0 2 (lanesUp [0, 1] ++ [(F.LANE_STATUS_FAR_ROLE 0, 2)]))), by decide +kernel⟩⟩

end Assignment

namespace Ports

def mac : Nat := 0x020000000007
def hm : List (Fld × Nat) := [(F.LANE_CFG_MODE 4, 1), (F.LANE_STATUS_STATE 4, 8), (F.LANE_HOST_MAC_LO_MAC, 7), (F.LANE_HOST_MAC_HI_MAC, 0x0200), (F.CMD_NODE_ADDR, 0), (F.SYS_PANEL_SVC_LANE, 6), (F.LANE_CFG_MODE 6, 1), (F.LANE_STATUS_STATE 6, 8)]
def pa : Packet := { source := 0x2000, target := 0, seq := 9, params := [1, 2] }
def sg (kind ctl dest : Nat) (pl : List Byte) : List Byte := segBytes { kind := kind, ctl := ctl, frag := 0, dest := dest, payload := pl }
def hf (op : Nat) (p : Packet) : List Byte := etherBytes mac 0x0A0000000001 (sg 1 13 0 (pktBytes op p))
def s0 : State := { node 2 5 (hm ++ [(F.CMD_QSPI_RD_EN, 1), (F.CMD_QSPI_WR_EN, 1)]) with cmd.busy := none }

set_option maxRecDepth 100000 in
theorem wit_Ports :
    (∃ n : Fin 32, ∃ b : List Byte, ∃ s : State, s.running = true ∧ s.laneSt n = 8 ∧ s.etherOk b = false) ∧
    (∃ n : Fin 32, ∃ b : List Byte, ∃ s : State, s.running = true ∧ ∃ g : Segment, ∃ op : Nat, ∃ p : Packet, ∃ r : OpRow, s.laneSt n = 8 ∧ s.etherOk b = true ∧ parseSeg (etherSegment b) = some g ∧ g.kind = KIND.COMMAND ∧ bit g.ctl 2 = true ∧ bit g.ctl 3 = true ∧ g.frag = 0 ∧ parsePacket g.payload = some (op, p) ∧ p.cls ≠ 0 ∧ p.target.toNat = s.addr ∧ opRow op = some r ∧ n.val ≠ s.f F.SYS_PANEL_SVC_LANE) ∧
    (∃ n : Fin 32, ∃ b : List Byte, ∃ s : State, s.running = true ∧ ∃ op : Nat, ∃ p : Packet, ∃ r : OpRow, s.on F.CMD_QSPI_MBX_FULL = false ∧ 16 ≤ b.length ∧ b.length ≤ 4096 ∧ packetLength b = b.length ∧ parsePacket b = some (op, p) ∧ p.cls ≠ 0 ∧ p.target.toNat = s.addr ∧ opRow op = some r) ∧
    (∃ b : List Byte, ∃ s : State, s.running = true ∧ (b.length < 16 ∨ 4096 < b.length)) ∧
    (∃ s : State, s.running = true ∧ s.on F.CMD_QSPI_RPL_READY = true) ∧
    (∃ s : State, s.running = true ∧ s.on F.CMD_QSPI_RD_EN = false) ∧
    (∃ s : State, s.running = true ∧ ∃ a : Word, s.on F.CMD_QSPI_RD_EN = true ∧ a.toNat % 4 = 0 ∧ (regFamilyAt a.toNat).isSome = true) ∧
    (∃ s : State, s.running = true ∧ s.on F.CMD_QSPI_WR_EN = true) ∧
    (∃ s : State, s.running = true ∧ s.on F.CMD_QSPI_WR_EN = false) ∧
    (∃ s : State, s.running = true) ∧
    (∃ s : State, s.running = true ∧ ∃ ty : Nat, ∃ a : Nat, ∃ i : Nat, ∃ rest : List Nat, (ty, a) ∈ [(TY.THREAD, A.DISP_T_CFG i), (TY.FLOW, A.DISP_F_CFG i), (TY.LOCK, A.DISP_L i)] ∧ (s.pool ty).free = i :: rest ∧ i < 64) ∧
    (∃ s : State, s.running = true ∧ ∃ k : Fin 5, ∃ l : Fin 5, ∃ i : Nat, ∃ j : Nat, ∃ rest : List Nat, k < l ∧ (s.pool TY.LOCK).free = i :: j :: rest ∧ i < 64 ∧ j < 64) ∧
    (∃ s : State, s.running = true ∧ (s.pool TY.LOCK).free = []) :=
  ⟨⟨4, ((hf 0 pa).drop 1), s0, by decide +kernel⟩,
   ⟨4, hf 0 pa, s0, by decide +kernel, segOf (etherSegment (hf 0 pa)), 0, pa, rowNop, by decide +kernel, by decide +kernel, by decide +kernel, by decide +kernel, by decide +kernel, by decide +kernel, by decide +kernel, by decide +kernel, by decide +kernel, by decide +kernel, rfl, by decide +kernel⟩,
   ⟨4, pktBytes 0 pa, s0, by decide +kernel, 0, pa, rowNop, by decide +kernel, by decide +kernel, by decide +kernel, by decide +kernel, by decide +kernel, by decide +kernel, by decide +kernel, rfl⟩,
   ⟨[1, 2], s0, by decide +kernel⟩,
   ⟨{ node 0 8 [(F.CMD_QSPI_RPL_READY, 1)] with cmd.qspiReply := [5, 6, 7, 8] }, by decide +kernel⟩,
   ⟨(node 2 5 (hm ++ [(F.CMD_QSPI_MBX_FULL, 1), (F.CMD_QSPI_RD_EN, 0), (F.CMD_QSPI_WR_EN, 0)])), by decide +kernel⟩,
   ⟨s0, by decide +kernel, 0, by decide +kernel⟩,
   ⟨s0, by decide +kernel⟩,
   ⟨(node 2 5 (hm ++ [(F.CMD_QSPI_MBX_FULL, 1), (F.CMD_QSPI_RD_EN, 0), (F.CMD_QSPI_WR_EN, 0)])), by decide +kernel⟩,
   ⟨s0, by decide +kernel⟩,
   ⟨s0, by decide +kernel, 10, 269312, 0, ((List.range 63).map (· + 1)), by decide +kernel⟩,
   ⟨s0, by decide +kernel, 3, 4, 0, 1, ((List.range 62).map (· + 2)), by decide +kernel⟩,
   ⟨{ node 0 8 [(F.CMD_QSPI_RD_EN, 1)] with cmd.pools := [(10, { Pool.fresh 10 with free := [] })] }, by decide +kernel⟩⟩

end Ports

namespace PowerOnAndSelftest

def st : Nat → State := fun r => node r 1 []

theorem wit_PowerOnAndSelftest :
    (∃ s : State, s.heldInReset = true ∧ s.clk.stopped = false) ∧
    (∃ l : List (Int × Int × List Int), ∃ s : State, s.running = true ∧ s.st = ST.SELFTEST ∧ l.length = 5 ∧ ∃ good : List Nat, good = sliceNumbers.filter (fun n => (l[n]?.map (sliceQualifies (s.f F.MEAS_CTRL_XCHK_TOL))).getD false) ∧ s.role < 2 ∧ good.length = 5) ∧
    (∃ l : List (Int × Int × List Int), ∃ s : State, s.running = true ∧ s.st = ST.SELFTEST ∧ l.length = 5 ∧ ∃ good : List Nat, good = sliceNumbers.filter (fun n => (l[n]?.map (sliceQualifies (s.f F.MEAS_CTRL_XCHK_TOL))).getD false) ∧ s.role = 2 ∧ s.on F.SYS_ID_BOOTSRC = false) ∧
    (∃ l : List (Int × Int × List Int), ∃ s : State, s.running = true ∧ s.st = ST.SELFTEST ∧ l.length = 5 ∧ ∃ good : List Nat, good = sliceNumbers.filter (fun n => (l[n]?.map (sliceQualifies (s.f F.MEAS_CTRL_XCHK_TOL))).getD false) ∧ s.role = 3) :=
  ⟨⟨State.reset, by decide +kernel⟩,
   ⟨(List.replicate 5 (0, 0, List.replicate 16 16384)), (st 0), by decide +kernel, by decide +kernel, by decide +kernel, _, rfl, by decide +kernel⟩,
   ⟨(List.replicate 5 (0, 0, List.replicate 16 16384)), (st 2), by decide +kernel, by decide +kernel, by decide +kernel, _, rfl, by decide +kernel⟩,
   ⟨(List.replicate 5 (0, 0, List.replicate 16 16384)), (node 3 1 []), by decide +kernel, by decide +kernel, by decide +kernel, _, rfl, by decide +kernel⟩⟩

end PowerOnAndSelftest

namespace PanelAndPins

theorem wit_PanelAndPins :
    (∃ s : State, s.running = true ∧ ∃ n : Fin 5, s.node.supplyOut.getLsbD n = false) ∧
    (∃ s : State, s.running = true ∧ ∃ n : Fin 5, s.node.supplyOut.getLsbD n = true) ∧
    (∃ s : State, s.running = true ∧ s.f F.SYS_PANEL_IDENT = 0) ∧
    (∃ s : State, s.running = true ∧ ∃ b : Bool, s.on F.SYS_PANEL_MKEY = b) ∧
    (∃ s : State, s.running = true ∧ ∃ b : Bool, s.on F.SYS_PANEL_MKEY = !b) ∧
    (∃ s : State, s.running = true ∧ s.st = ST.WAIT_CREDIT ∧ s.node.creditWaitRaised = false) ∧
    (∃ s : State, s.running = true ∧ (s.st ≠ ST.WAIT_CREDIT ∨ s.node.creditWaitRaised = true)) ∧
    (∃ s : State, s.running = true ∧ s.f F.SYS_PANEL_IDENT ≠ 0) ∧
    (∃ s : State, s.running = true ∧ ∃ c : BitVec 5, (c.toNat = 1 ∨ c.toNat = 2 ∨ c.toNat = 16 ∨ c.toNat = 17)) ∧
    (∃ s : State, s.running = true ∧ ∃ c : BitVec 5, (c.toNat = 0 ∨ c.toNat = 4 ∨ c.toNat = 5)) ∧
    (∃ s : State, s.running = true ∧ ∃ c : BitVec 5, c.toNat ∉ [0, 1, 2, 4, 5, 16, 17]) :=
  ⟨⟨(node 0 8 []), by decide +kernel, 4, by decide +kernel⟩,
   ⟨{ node 2 6 [(F.SYS_PANEL_IDENT, 4)] with node.supplyOut := 31, node.identEnd := 11000000000, node.ejectRefused := 12000000000, node.since := 5000000000 }, by decide +kernel, 4, by decide +kernel⟩,
   ⟨(node 0 8 []), by decide +kernel⟩,
   ⟨(node 0 8 []), by decide +kernel, false, by decide +kernel⟩,
   ⟨(node 0 8 []), by decide +kernel, true, by decide +kernel⟩,
   ⟨{ node 2 6 [(F.SYS_PANEL_IDENT, 4)] with node.supplyOut := 31, node.identEnd := 11000000000, node.ejectRefused := 12000000000, node.since := 5000000000 }, by decide +kernel⟩,
   ⟨(node 0 8 []), by decide +kernel⟩,
   ⟨{ node 2 6 [(F.SYS_PANEL_IDENT, 4)] with node.supplyOut := 31, node.identEnd := 11000000000, node.ejectRefused := 12000000000, node.since := 5000000000 }, by decide +kernel⟩,
   ⟨(node 0 8 []), by decide +kernel, 0x11, by decide +kernel⟩,
   ⟨(node 0 8 []), by decide +kernel, 5, by decide +kernel⟩,
   ⟨(node 0 8 []), by decide +kernel, 0x1f, by decide +kernel⟩⟩

end PanelAndPins

namespace ImageAndFlash

def pa : Packet := { source := 0x2000, target := 0, seq := 9, params := [1] }
def pb : Packet := { source := 0x2000, target := 0, seq := 9, params := [0] }
def mk (l : List (Fld × Nat)) : State := node 2 5 ([(F.SYS_PANEL_MKEY, 1)] ++ l)
def pnd : List PendLine := [{ line := 1, scrub := true }]
def d256 : List Byte := List.replicate 256 7

theorem wit_ImageAndFlash :
    (∃ s : State, ∃ b : List Byte, ∃ boot : Fin 4, s.running = true ∧ s.on F.SYS_STATE_IMG_OK = false ∧ s.st = ST.LOAD ∧ (s.node.imgPend = some (b, boot.val) ∨ s.node.imgPend = none ∧ s.on F.SYS_ID_BOOTSRC = true ∧ s.isFloret = false ∧ s.node.slotsTried < 2 ∧ b = s.flashImage s.node.slotsTried ∧ boot.val = 2 + s.node.slotsTried)) ∧
    (∃ s : State, s.running = true ∧ (s.on F.SYS_STATE_IMG_OK = true ∨ s.st ≠ ST.LOAD ∨ s.node.imgPend = none ∧ s.on F.SYS_ID_BOOTSRC = false)) ∧
    (∃ p : Packet, ∃ p1 : Packet, ∃ s : State, ∃ s1 : State, ∃ slot : Nat, slot ≤ 1 ∧ s1.on F.SYS_PANEL_MKEY = true ∧ yarState s1.st = false ∧ s1.f F.SYS_STATE_BOOT ≠ 2 + slot ∧ Admitted rowFwFlashErase p s s1 p1 ∧ p.params = leBytes 1 slot ∧ s1.node.flashOp = none) ∧
    (∃ p : Packet, ∃ p1 : Packet, ∃ s : State, ∃ s1 : State, ∃ slot : Nat, slot ≤ 1 ∧ s1.on F.SYS_PANEL_MKEY = true ∧ yarState s1.st = false ∧ s1.f F.SYS_STATE_BOOT ≠ 2 + slot ∧ ∃ o, ∃ d : List Byte, Admitted rowFwFlashWrite p s s1 p1 ∧ p.params = leBytes 1 slot ++ leBytes 4 o ++ d ∧ o % 256 = 0 ∧ d.length % 256 = 0 ∧ 256 ≤ d.length ∧ d.length ≤ 1024 ∧ o + d.length ≤ 0x400000 ∧ (∀ i, i < d.length → s1.flashByte (slotBase slot + o + i) = 0xFF)) ∧
    (∃ p : Packet, ∃ p1 : Packet, ∃ s : State, ∃ s1 : State, ∃ slot : Nat, slot ≤ 1 ∧ Admitted rowFwFlashCheck p s s1 p1 ∧ p.params = leBytes 1 slot ∧ s1.node.flashOp = none) ∧
    (∃ p : Packet, ∃ s : State, ∃ slot : Nat, s.running = true ∧ s.node.flashOp = some (p, slot, true)) ∧
    (∃ p : Packet, ∃ s : State, ∃ slot : Nat, s.running = true ∧ s.node.flashOp = some (p, slot, false)) ∧
    (∃ s : State, ∃ line : Nat, ∃ scrub : Bool, ∃ rest : List PendLine, s.running = true ∧ s.guard.pending = ⟨line, scrub, []⟩ :: rest ∧ s.lineGood (s.lineKey 1 0 (0x160000 / 64 + 2 * line / 64)) (0x160000 / 64 + 2 * line / 64) = true) :=
  ⟨⟨{ node 2 4 [] with node.imgPend := some (List.replicate 600 1, 2) }, (List.replicate 600 1), 2, by decide +kernel⟩,
   ⟨(mk []), by decide +kernel⟩,
   ⟨pa, _, (mk []), _, 1, by decide +kernel, by decide +kernel, by decide +kernel, by decide +kernel, admitted_self (by decide +kernel), by decide +kernel⟩,
   ⟨(pk ([1] ++ leBytes 4 256 ++ d256)), _, (mk []), _, 1, by decide +kernel, by decide +kernel, by decide +kernel, by decide +kernel, 256, d256, admitted_self (by decide +kernel), by decide +kernel⟩,
   ⟨pa, _, (mk []), _, 1, by decide +kernel, admitted_self (by decide +kernel), by decide +kernel⟩,
   ⟨pa, { mk [] with node.flashOp := some (pa, 1, true), node.flash := [(0x400005, 9), (5, 1), (0x800000, 3)] }, 1, by decide +kernel⟩,
   ⟨pb, { mk [] with node.flashOp := some (pb, 0, false) }, 0, by decide +kernel⟩,
   ⟨{ mk [(F.SYS_STATE_BOOT, 1)] with guard.pending := pnd, bytes := [(0x10000041, 3)], guard.valid := [(0x10000040, true)] }, 1, true, [], by decide +kernel⟩⟩

end ImageAndFlash

namespace TickToMerge

def ck (s : State) (p : Nat) : State := { s with clk.tickStart := 80000000, clk.tickNum := 10, clk.nextAt := 88000000, clk.timePs := 80000000 + p * 2000 }
def fl : State := { objs [6] (node 0 8 (lanesUp [0, 1] ++ [(F.CMD_NODE_KIND, 3), (F.CMD_NODE_ASSIGNED, 1), (F.YAR_CELL_SEQ 0, 0), (F.YAR_VNOM_VNOM, 100), (F.DISP_T_CFG_LIVE 0, 1), (⟨A.DISP_T_PORTS 0, 31, 0⟩, 0x41)])) with tree.upSends := 2 }
def um : State := (node 1 8 (lanesUp [0, 3, 4] ++ [(F.CMD_NODE_ASSIGNED, 1), (F.CMD_DL_USE 3, 2), (F.CMD_DL_USE 4, 2), (F.CMD_DL_PRESENT 3, 1)])).updUnit 3 (fun u => { u with frame := ({ avail := 3, tally := (List.range 32).map (fun i => if i = 5 then 3 else 0), state := 8 } : UpFrame).bytes, capacity := 4 })
def desc : List Byte := [0, 0, 0, 0, 5] ++ List.replicate 11 0 ++ [0x90, 0x5F, 1, 0] ++ List.replicate 32 0
def flE : State := { ck ((fl.setF F.LOOP_CTRL_ENG_EN 1).setF (F.LOOP_L_CFG_EN 0) 1) 300 with loop.loops := [(0, { desc := desc })] }
def um2 : State := { ck um 890 with clk.merged := true, clk.mergeAt := 1760000, tree.upSends := 2 }
def sx : State := { ck fl 0 with clk.nextAt := 80000001 }

theorem wit_TickToMerge :
    (∃ s : State, s.running = true ∧ s.clk.timeSet = none ∧ s.recorder.trig = none) ∧
    (∃ s : State, s.running = true ∧ s.clk.timeSet = none ∧ (∀ r ∈ s.life.requests, r.1 < 2 → r.2.1 < 2)) ∧
    (∃ s : State, s.running = true ∧ s.phaseFalls s.clk.phSample = true) ∧
    (∃ s : State, s.running = true ∧ s.phaseFalls s.clk.phUp = true ∧ s.isFloret = true) ∧
    (∃ s : State, s.running = true ∧ s.phaseFalls s.clk.phUp = true ∧ s.isFloret = false) ∧
    (∃ s : State, s.running = true ∧ s.phaseFalls s.clk.phTally = true ∧ s.isFloret = false ∧ s.clk.merged = false ∧ s.isUmbel = true) ∧
    (∃ s : State, s.running = true ∧ ∃ reads : List (Fin 24576), s.phaseFalls s.clk.phTally = true ∧ s.isFloret = false ∧ s.clk.merged = false ∧ reads = []) ∧
    (∃ s : State, s.running = true ∧ s.phaseFalls s.clk.phTally = true ∧ s.isFloret = true ∧ s.engineRuns = true) ∧
    (∃ s : State, s.running = true ∧ s.isUmbel = true ∧ s.clk.merged = true ∧ s.clk.upSent = false ∧ 2 ≤ s.tree.upSends) ∧
    (∃ s : State, s.running = true ∧ (s.isUmbel = false ∨ s.clk.merged = false ∨ s.clk.upSent = true)) ∧
    (∃ s : State, s.running = true ∧ s.phaseFalls s.clk.phSample = false) ∧
    (∃ s : State, s.running = true ∧ s.phaseFalls s.clk.phUp = false) ∧
    (∃ s : State, s.running = true ∧ s.phaseFalls s.clk.phTally = false) ∧
    (∃ s : State, s.running = true ∧ s.phaseFalls s.clk.phLoopEnd = false) ∧
    (∃ s : State, s.running = true ∧ s.phaseFalls s.clk.phDown = false) ∧
    (∃ s : State, s.running = true ∧ s.phaseFalls (s.clk.tickLen - 100) = false) :=
  ⟨⟨(ck fl 0), by decide +kernel⟩,
   ⟨(ck fl 0), by decide +kernel⟩,
   ⟨(ck fl 0), by decide +kernel⟩,
   ⟨(ck fl 0), by decide +kernel⟩,
   ⟨(ck um 400), by decide +kernel⟩,
   ⟨(ck um 400), by decide +kernel⟩,
   ⟨(ck um 400), by decide +kernel, [], by decide +kernel⟩,
   ⟨flE, by decide +kernel⟩,
   ⟨um2, by decide +kernel⟩,
   ⟨(ck fl 0), by decide +kernel⟩,
   ⟨sx, by decide +kernel⟩,
   ⟨sx, by decide +kernel⟩,
   ⟨sx, by decide +kernel⟩,
   ⟨sx, by decide +kernel⟩,
   ⟨sx, by decide +kernel⟩,
   ⟨sx, by decide +kernel⟩⟩

end TickToMerge

namespace AllocationToHold

def ck (s : State) (p : Nat) : State := { s with clk.tickStart := 80000000, clk.tickNum := 10, clk.nextAt := 88000000, clk.timePs := 80000000 + p * 2000 }
def bins : List Nat := (List.range 32).map (fun i => if i = 5 then 30 else if i = 9 then 8 else 0)
def me : State := { ck (node 2 8 (lanesUp [4] ++ [(F.TWIN_STAT_ROLE, 1), (F.CMD_DL_USE 4, 2), (F.CMD_DL_PRESENT 4, 1), (F.YAR_S_CFG_EN 0, 1), (F.YAR_S_DEM_DEM 0, 12 * 4096 + 77), (F.YAR_S_IARM_IARM 0, 55), (F.YAR_S_CFG_EN 1, 1), (F.YAR_S_CFG_FB 1, 1), (F.YAR_S_DEM_DEM 1, 2 ^ 26 - 5000)])) 2000 with yar.strings := [(0, { bins := bins, avail := 38 }), (1, { bins := bins, avail := 38 })], tree.strings := 2 }
def me2 : State := (({ me with clk.allocAt := some 10000000000000, loop.done := false }).updLane 4 (fun l => { l with sends := 2 })).updUnit 4 (fun u => { u with share := 9, frac := 3 })
def um : State := (ck (node 1 8 (lanesUp [0, 3, 4] ++ [(F.CMD_NODE_ASSIGNED, 1), (F.CMD_DL_USE 3, 2), (F.CMD_DL_USE 4, 2), (F.CMD_DL_PRESENT 3, 1)])) 300).updUnit 3 (fun u => { u with share := 5, thresh := 4, token := true, frac := 3 })
def um2 : State := ({ um with clk.allocAt := some 10000000000000 }).updLane 3 (fun l => { l with sends := 2 })
def fl (h lim : Nat) : State := ck (node 0 8 (lanesUp [0, 1] ++ [(F.CMD_NODE_KIND, 3), (F.CMD_NODE_ASSIGNED, 1), (F.TICK_HOLD_HOLD_CNT, h), (F.TICK_HOLD_HOLD_LIMIT, lim)])) 100
def dfb : List Byte := ({ active := true, epoch := 3, period := 4000, thresh := 5, share := 1 } : DownFrame).bytes

theorem wit_AllocationToHold :
    (∃ s : State, s.running = true ∧ s.isMeadow = true ∧ s.slotsClosed = false ∧ s.phaseFalls s.clk.phLoopEnd = true ∧ s.loop.run = none) ∧
    (∃ s : State, s.running = true ∧ ∃ t0, s.clk.allocAt = some t0 ∧ s.isTwin = false) ∧
    (∃ s : State, s.running = true ∧ s.isUmbel = true ∧ s.child.closed = false ∧ s.phaseFalls s.clk.phDown = true ∧ s.child.obeyed = none) ∧
    (∃ s : State, s.running = true ∧ s.isUmbel = true ∧ s.child.closed = false ∧ s.phaseFalls s.clk.phDown = true ∧ s.child.obeyed.isSome = true) ∧
    (∃ s : State, s.running = true ∧ s.isFloret = true ∧ s.child.closed = false ∧ yarState s.st = true ∧ s.phaseFalls (s.clk.tickLen - 100) = true ∧ s.child.obeyed = none ∧ s.f F.TICK_HOLD_HOLD_CNT = 0) ∧
    (∃ s : State, s.running = true ∧ s.isFloret = true ∧ s.child.closed = false ∧ yarState s.st = true ∧ s.phaseFalls (s.clk.tickLen - 100) = true ∧ ∃ x : Nat × List Byte, s.child.obeyed = some x ∧ (parseDown x.2).hold = false ∧ s.clk.farOff = false) ∧
    (∃ s : State, s.running = true ∧ s.isFloret = false ∧ s.phaseFalls (s.clk.tickLen - 100) = true) ∧
    (∃ s : State, s.running = true ∧ s.isFloret = true ∧ yarState s.st = true ∧ s.f F.TICK_HOLD_HOLD_LIMIT ≤ s.f F.TICK_HOLD_HOLD_CNT) ∧
    (∃ s : State, s.running = true ∧ s.clk.allocAt = none) ∧
    (∃ s : State, s.running = true ∧ (s.isFloret = false ∨ yarState s.st = false ∨ s.f F.TICK_HOLD_HOLD_CNT < s.f F.TICK_HOLD_HOLD_LIMIT)) ∧
    (∃ s : State, s.running = true ∧ (s.isUmbel = false ∨ s.child.closed = true) ∧ s.phaseFalls s.clk.phDown = true) ∧
    (∃ s : State, s.running = true ∧ (s.isMeadow = false ∨ s.slotsClosed = true) ∧ s.phaseFalls s.clk.phLoopEnd = true ∧ s.loop.run = none) :=
  ⟨⟨me, by decide +kernel⟩,
   ⟨um2, by decide +kernel, 10000000000000, by decide +kernel⟩,
   ⟨um, by decide +kernel⟩,
   ⟨{ um with child.obeyed := some (0, []) }, by decide +kernel⟩,
   ⟨(fl 0 8), by decide +kernel⟩,
   ⟨{ fl 0 8 with child.obeyed := some (0, dfb) }, by decide +kernel, by decide +kernel, by decide +kernel, by decide +kernel, by decide +kernel, (0, dfb), by decide +kernel⟩,
   ⟨me, by decide +kernel⟩,
   ⟨(fl 64 64), by decide +kernel⟩,
   ⟨me, by decide +kernel⟩,
   ⟨me, by decide +kernel⟩,
   ⟨me, by decide +kernel⟩,
   ⟨me2, by decide +kernel⟩⟩

end AllocationToHold

namespace FramesAndDecisions

def ck (s : State) (p : Nat) : State := { s with clk.tickStart := 80000000, clk.tickNum := 10, clk.nextAt := 88000000, clk.timePs := 80000000 + p * 2000 }
def fl (l : List (Fld × Nat)) : State := ck (node 0 8 (lanesUp [0, 1] ++ [(F.CMD_NODE_KIND, 3), (F.CMD_NODE_ASSIGNED, 1)] ++ l)) 100
def df : DownFrame := { active := true, epoch := 3, harebell := 9, period := 4000, t1 := 80000000 / 125, iarm := 700, thresh := 5, share := 1, token := true, frac := 2048, credit := true }
def uf : UpFrame := { avail := 3, tally := (List.range 32).map (fun i => if i = 5 then 3 else 0), state := 8, addr := 2, trigReq := true }
def um : State := ck (node 1 8 (lanesUp [0, 3, 4] ++ [(F.CMD_NODE_ASSIGNED, 1), (F.CMD_DL_USE 3, 2), (F.CMD_DL_USE 4, 2), (F.CMD_DL_PRESENT 3, 1), (F.CMD_DL_PRESENT 4, 1)])) 300
def dec : Decision := { thresh := 3, share := 1, insert := [0], trim := some 0, trimPclk := 4000, iarm := 77 }

set_option maxRecDepth 100000 in
theorem wit_FramesAndDecisions :
    (∃ s : State, s.running = true ∧ ∃ n : Fin 32, ∃ b : List Byte, s.laneUp n = true ∧ s.isXlink n = false ∧ n.val < 2 ∧ s.uplinks.contains n.val = true ∧ downValid b = true ∧ (s.lane n).got = false ∧ s.isFloret = true ∧ s.st = ST.RUN ∧ (parseDown b).active = true ∧ (parseDown b).slotOn = false ∧ s.child.closed = false ∧ s.child.obeyed = none ∧ (parseDown b).period = s.clk.tickLen ∧ (parseDown b).hold = false) ∧
    (∃ s : State, s.running = true ∧ ∃ n : Fin 32, ∃ b : List Byte, s.laneUp n = true ∧ s.isXlink n = false ∧ n.val < 2 ∧ s.uplinks.contains n.val = true ∧ downValid b = true ∧ (s.lane n).got = false ∧ ST.SYNC ≤ s.st ∧ (parseDown b).active = true ∧ (parseDown b).block = false ∧ (parseDown b).sgr = false ∧ s.child.closed = true) ∧
    (∃ s : State, s.running = true ∧ ∃ n : Fin 32, ∃ b : List Byte, s.laneUp n = true ∧ s.isXlink n = false ∧ n.val < 2 ∧ s.uplinks.contains n.val = true ∧ (downValid b = false ∨ (s.lane n).got = true)) ∧
    (∃ s : State, s.running = true ∧ ∃ n : Fin 32, ∃ b : List Byte, s.laneUp n = true ∧ s.isXlink n = false ∧ upValid b = false) ∧
    (∃ s : State, s.running = true ∧ ∃ n : Fin 32, ∃ b : List Byte, s.laneUp n = true ∧ s.isXlink n = false ∧ upValid b = true ∧ s.use n = 2 ∧ (s.lane n).got = false ∧ s.clk.merged = false ∧ (s.unit n).twin = false ∧ (s.unit n).frame = [] ∧ ((s.updLane n (fun l => { l with got := true, carried := true, frame := b })).updUnit n (fun u => { u with frame := b })).allArrived = false) ∧
    (∃ s : State, s.running = true ∧ ∃ d : Decision, s.isFloret = true ∧ (s.st = ST.RUN ∨ s.st = ST.HOLD) ∧ s.yar.pend = some d) ∧
    (∃ s : State, s.running = true ∧ ∃ d : Decision, ∃ c : Nat, ∃ e : Nat, s.yar.trimEnd = some e ∧ s.yar.cur = some d ∧ d.trim = some c ∧ c < 2 ∧ s.f F.CMD_NODE_KIND ≠ 2 ∧ (s.pair (cellPair (s.f F.CMD_NODE_KIND) c)).waits = false ∧ s.forced (cellPair (s.f F.CMD_NODE_KIND) c) = false) ∧
    (∃ s : State, s.running = true ∧ ∃ n : Fin 32, s.laneUp n = false) ∧
    (∃ s : State, s.running = true ∧ s.isFloret = false) ∧
    (∃ s : State, s.running = true ∧ s.yar.trimEnd = none) :=
  ⟨⟨(fl []), by decide +kernel, 0, df.bytes, by decide +kernel⟩,
   ⟨{ fl [] with child.closed := true }, by decide +kernel, 0, df.bytes, by decide +kernel⟩,
   ⟨(fl []), by decide +kernel, 0, [1, 2, 3], by decide +kernel⟩,
   ⟨(fl []), by decide +kernel, 0, df.bytes, by decide +kernel⟩,
   ⟨um, by decide +kernel, 4, uf.bytes, by decide +kernel⟩,
   ⟨{ fl [(F.TICK_HOLD_HOLD_CNT, 3)] with yar.pend := some dec }, by decide +kernel, dec, by decide +kernel⟩,
   ⟨{ fl [] with yar.cur := some dec, yar.trimEnd := some 10000001000 }, by decide +kernel, dec, 0, 10000001000, by decide +kernel⟩,
   ⟨(fl []), by decide +kernel, 3, by decide +kernel⟩,
   ⟨um, by decide +kernel⟩,
   ⟨(fl []), by decide +kernel⟩⟩

end FramesAndDecisions

namespace AlignmentAndPps

def pt : Packet := { source := 3, target := 0, seq := 9 }
def mm (l : List (Fld × Nat)) : State := node 2 7 (l ++ [(F.TWIN_STAT_ROLE, 1)])
def me (t : Nat) (m : Nat) : State := { mm [(F.TICK_CFG_PPS_MODE, m)] with clk.timePs := t }
def tsS (v m st : Nat) : State := { (mm [(F.TICK_CFG_PPS_MODE, 2)]).setF F.SYS_STATE_STATE st with clk.timeSet := some (pt, v, m, 9000000000000), cmd.busy := some (0x0020, pt) }

theorem wit_AlignmentAndPps :
    (∃ s : State, s.running = true ∧ s.activeMeadow = false ∧ ST.SELFTEST < s.st ∧ s.f F.TICK_STATUS_LOCK ≠ 3) ∧
    (∃ s : State, s.running = true ∧ s.st = ST.SYNC ∧ s.clk.syncRaised = false) ∧
    (∃ s : State, s.running = true ∧ s.clk.badTicks = 16 ∧ ST.LOAD ≤ s.st ∧ s.st ≤ ST.HOLD) ∧
    (∃ s : State, s.running = true ∧ ∃ w, s.isMeadow = true ∧ 100 ≤ w ∧ s.f F.TICK_CFG_PPS_MODE = 1 ∧ 1000000 < s.clk.timePs % 1000000000000) ∧
    (∃ s : State, s.running = true ∧ ∃ w, s.isMeadow = true ∧ 100 ≤ w ∧ s.f F.TICK_CFG_PPS_MODE = 1 ∧ s.clk.freq.natAbs ≤ 2000000) ∧
    (∃ s : State, s.running = true ∧ ∃ w, ∃ p : Packet, ∃ v : Nat, ∃ a : Nat, s.isMeadow = true ∧ 100 ≤ w ∧ s.f F.TICK_CFG_PPS_MODE = 2 ∧ s.clk.timeSet = some (p, v, 1, a) ∧ s.st ≠ ST.RUN ∧ v % (s.clk.tickLen * 2) = 0) ∧
    (∃ s : State, s.running = true ∧ ∃ e, s.clk.ppsEdge = some e ∧ s.isMeadow = true ∧ (s.f F.TICK_CFG_PPS_MODE = 1 ∨ s.f F.TICK_CFG_PPS_MODE = 2) ∧ s.clk.ppsLost = false) ∧
    (∃ s : State, s.running = true ∧ s.on F.TICK_PPS_PPS_OUT_EN = true) ∧
    (∃ s : State, s.running = true ∧ ∃ e, s.clk.ppsOutUntil = some e) ∧
    (∃ s : State, s.running = true ∧ ∃ p : Packet, ∃ v : Nat, ∃ a : Nat, s.clk.timeSet = some (p, v, 0, a) ∧ s.st ≠ ST.RUN ∧ v % (s.clk.tickLen * 2) = 0) ∧
    (∃ s : State, s.running = true ∧ ∃ p : Packet, ∃ v : Nat, ∃ a : Nat, s.clk.timeSet = some (p, v, 1, a)) :=
  ⟨⟨(node 0 5 [(F.TICK_STATUS_LOCK, 1)]), by decide +kernel⟩,
   ⟨(node 0 3 []), by decide +kernel⟩,
   ⟨{ node 0 8 [] with clk.badTicks := 16 }, by decide +kernel⟩,
   ⟨(me 123456789000 1), by decide +kernel, 10000000100, by decide +kernel⟩,
   ⟨(me 123456789000 1), by decide +kernel, 10000000100, by decide +kernel⟩,
   ⟨(tsS 8000000 1 7), by decide +kernel, 10000000100, pt, 8000000, 9000000000000, by decide +kernel⟩,
   ⟨{ me 5 1 with clk.ppsEdge := some 9000000000 }, by decide +kernel, 9000000000, by decide +kernel⟩,
   ⟨(node 0 5 [(F.TICK_STATUS_LOCK, 1)]), by decide +kernel⟩,
   ⟨{ mm [] with clk.ppsOutUntil := some 10000000100, node.ppsOut := true }, by decide +kernel, 10000000100, by decide +kernel⟩,
   ⟨(tsS 8000000 0 5), by decide +kernel, pt, 8000000, 9000000000000, by decide +kernel⟩,
   ⟨(tsS 8000000 1 7), by decide +kernel, pt, 8000000, 9000000000000, by decide +kernel⟩⟩

end AlignmentAndPps

namespace ForcedPairs

def fp (l : List (Fld × Nat)) : State := node 0 8 ([(F.CMD_NODE_KIND, 3)] ++ l)
def onPairs (s : State) : State := { s with swu.pairs := [(0, { logical := some true }), (1, { logical := some false, edges := [(10000000001, true, true)] }), (2, { logical := some true, chan := { nextAt := 3 } }), (3, { changed := 5 })] }

theorem wit_ForcedPairs :
    (∃ s : State, ∃ n : Fin 8, s.running = true ∧ s.finEn n = true) ∧
    (∃ s : State, s.running = true) ∧
    (∃ s : State, s.clk.por = false ∧ s.clk.stopped = true) ∧
    (∃ s : State, ∃ n : Fin 8, ∃ level : Bool, s.running = true ∧ s.on (F.SWU_P_CFG_FB_EN (n.val / 2)) = true ∧ level ≠ (s.goLevel n != s.on (F.SWU_P_CFG_FB_INV (n.val / 2))) ∧ s.blankEnd n ≤ s.pclk ∧ bit (s.f F.SWU_FLT_RB_LATCH) (n.val / 2) = false) ∧
    (∃ s : State, ∃ n : Fin 8, ∃ level : Bool, s.running = true ∧ (s.on (F.SWU_P_CFG_FB_EN (n.val / 2)) = false ∨ level = (s.goLevel n != s.on (F.SWU_P_CFG_FB_INV (n.val / 2))) ∨ s.pclk < s.blankEnd n)) ∧
    (∃ p : Packet, ∃ p1 : Packet, ∃ s : State, ∃ s1 : State, ∃ m : BitVec 4, Admitted rowSwuForce p s s1 p1 ∧ p.params = leBytes 1 m.toNat) ∧
    (∃ p : Packet, ∃ p1 : Packet, ∃ s : State, ∃ s1 : State, ∃ m : BitVec 4, Admitted rowSwuFaultClear p s s1 p1 ∧ p.params = leBytes 1 m.toNat) :=
  ⟨⟨(onPairs (fp [(⟨A.SWU_FIN_CFG0, 31, 0⟩, 0x2F283335), (⟨A.SWU_FIN_CFG1, 31, 0⟩, 0x21203F3F)])), 7, by decide +kernel⟩,
   ⟨(onPairs (fp [(⟨A.SWU_FIN_CFG0, 31, 0⟩, 0x2F283335), (⟨A.SWU_FIN_CFG1, 31, 0⟩, 0x21203F3F)])), by decide +kernel⟩,
   ⟨{ onPairs (fp []) with clk.stopped := true }, by decide +kernel⟩,
   ⟨(onPairs (node 1 8 [(F.SWU_P_CFG_FB_EN 1, 1), (F.SWU_P_CFG_FB_EN 0, 1), (F.SWU_P_CFG_FB_INV 0, 1), (F.SWU_P_CARRY_ACC 0, 9)])), 3, true, by decide +kernel⟩,
   ⟨(onPairs (fp [(⟨A.SWU_FIN_CFG0, 31, 0⟩, 0x2F283335), (⟨A.SWU_FIN_CFG1, 31, 0⟩, 0x21203F3F)])), 7, false, by decide +kernel⟩,
   ⟨(pk [BitVec.ofNat 8 0]), _, (onPairs (fp [(⟨A.SWU_FIN_CFG0, 31, 0⟩, 0x2F283335), (⟨A.SWU_FIN_CFG1, 31, 0⟩, 0x21203F3F)])), _, 0, admitted_self (by decide +kernel), by decide +kernel⟩,
   ⟨(pk [BitVec.ofNat 8 0]), _, (onPairs (fp [(⟨A.SWU_FIN_CFG0, 31, 0⟩, 0x2F283335), (⟨A.SWU_FIN_CFG1, 31, 0⟩, 0x21203F3F)])), _, 0, admitted_self (by decide +kernel), by decide +kernel⟩⟩

end ForcedPairs

namespace ChannelCommands

def ch (q i : Nat) (l : List (Fld × Nat)) (role := 1) (st := 7) : State := obj 2 (node role st ([(F.SWU_P_CFG_MODE q, 2), (F.SWU_P_CFG_HIDX q, i)] ++ l))
def cr (n cm upd per duty : Nat) : Packet := pk ([BitVec.ofNat 8 n, BitVec.ofNat 8 cm, BitVec.ofNat 8 upd] ++ leBytes 4 per ++ leBytes 4 duty)

theorem wit_ChannelCommands :
    (∃ p : Packet, ∃ p1 : Packet, ∃ s : State, ∃ s1 : State, ∃ n : Fin 4, ∃ cm : Fin 2, ∃ upd : Fin 2, ∃ per : Nat, ∃ duty : Nat, ∃ i : Nat, ∃ rest : List Nat, Admitted rowSwuCreate p s s1 p1 ∧ p.params = [BitVec.ofNat 8 n, BitVec.ofNat 8 cm, BitVec.ofNat 8 upd] ++ leBytes 4 per ++ leBytes 4 duty ∧ per < 2 ^ 24 ∧ duty ≤ per ∧ chanValuesOk cm (s1.window n) per duty = true ∧ s1.gapsOk n = true ∧ s1.yarPairs.contains n.val = false ∧ s1.hasChan n = false ∧ (s1.pool TY.CHANNEL).free = i :: rest ∧ i < 4) ∧
    (∃ p : Packet, ∃ p1 : Packet, ∃ s : State, ∃ s1 : State, ∃ n : Fin 4, ∃ per : Nat, ∃ duty : Nat, Admitted rowSwuSet p s s1 p1 ∧ s1.handleStatus TY.CHANNEL p.handle = Stat.OK ∧ s1.chanPair (hIndex p.handle) = n ∧ s1.hasChan n = true ∧ p.params = leBytes 4 per ++ leBytes 4 duty ∧ per < 2 ^ 24 ∧ duty ≤ per ∧ s1.ported n = false ∧ chanValuesOk (s1.f (F.SWU_P_CFG_CMODE n)) (s1.window n) per duty = true) ∧
    (∃ p : Packet, ∃ p1 : Packet, ∃ s : State, ∃ s1 : State, Admitted rowSwuCommit p s s1 p1 ∧ s1.handleStatus TY.CHANNEL p.handle = Stat.OK ∧ s1.hasChan (s1.chanPair (hIndex p.handle)) = true ∧ s1.ported (s1.chanPair (hIndex p.handle)) = false ∧ p.params = []) ∧
    (∃ p : Packet, ∃ p1 : Packet, ∃ s : State, ∃ s1 : State, ∃ o, Admitted rowSwuStart p s s1 p1 ∧ s1.handleStatus TY.CHANNEL p.handle = Stat.OK ∧ p.params = leBytes 2 o ∧ o < 65536 ∧ chanState s1.st = true ∧ s1.chanBound (hIndex p.handle) = false) ∧
    (∃ p : Packet, ∃ p1 : Packet, ∃ s : State, ∃ s1 : State, Admitted rowSwuStop p s s1 p1 ∧ s1.handleStatus TY.CHANNEL p.handle = Stat.OK ∧ p.params = [] ∧ s1.on (F.SWU_P_CFG_RUN (s1.chanPair (hIndex p.handle))) = true) ∧
    (∃ p : Packet, ∃ p1 : Packet, ∃ s : State, ∃ s1 : State, Admitted rowSwuStop p s s1 p1 ∧ s1.handleStatus TY.CHANNEL p.handle = Stat.OK ∧ p.params = [] ∧ s1.on (F.SWU_P_CFG_RUN (s1.chanPair (hIndex p.handle))) = false) ∧
    (∃ p : Packet, ∃ p1 : Packet, ∃ s : State, ∃ s1 : State, ∃ c, ∃ x, Admitted rowYarCellExclude p s s1 p1 ∧ p.params = [BitVec.ofNat 8 c, BitVec.ofNat 8 x] ∧ c ∈ s1.cells ∧ x ≤ 1 ∧ x = 1) ∧
    (∃ p : Packet, ∃ p1 : Packet, ∃ s : State, ∃ s1 : State, ∃ k : Fin 16, ∃ d : Nat, ∃ i : Nat, Admitted rowYarDemandSet p s s1 p1 ∧ p.params = [BitVec.ofNat 8 k] ++ leBytes 4 d ++ leBytes 3 i ∧ d < 2 ^ 26 ∧ i < 2 ^ 24 ∧ s1.on (F.YAR_S_CFG_SRC k) = true) ∧
    (∃ s : State, s.running = true ∧ s.unlocked = true) ∧
    (∃ s : State, s.running = true ∧ s.unlocked = false) :=
  ⟨⟨(cr 0 0 0 20000 5000), _, (node 1 7 [(F.SWU_P_DT_DT 0, 200), (F.SWU_P_DT_DT 1, 200), (F.SWU_P_DT_DT 2, 255), (F.SWU_P_STAT_PW 1, 1), (F.SWU_P_DT_DT 3, 1)]), _, 0, 0, 0, 20000, 5000, 0, [1, 2, 3], admitted_self (by decide +kernel), by decide +kernel⟩,
   ⟨(pk (leBytes 4 20000 ++ leBytes 4 5000) (hw 2)), _, (ch 1 0 []), _, 1, 20000, 5000, admitted_self (by decide +kernel), by decide +kernel⟩,
   ⟨(pk [] (hw 2)), _, (ch 1 0 []), _, admitted_self (by decide +kernel), by decide +kernel⟩,
   ⟨(pk (leBytes 2 255) (hw 2)), _, (ch 1 0 []), _, 255, admitted_self (by decide +kernel), by decide +kernel⟩,
   ⟨(pk [] (hw 2)), _, (ch 1 0 [(F.SWU_P_CFG_RUN 1, 1)]), _, admitted_self (by decide +kernel), by decide +kernel⟩,
   ⟨(pk [] (hw 2)), _, (ch 1 0 []), _, admitted_self (by decide +kernel), by decide +kernel⟩,
   ⟨(pk [0, 1]), _, (node 0 7 [(F.CMD_NODE_KIND, 3), (F.YAR_CELL_SEQ 0, 1)]), _, 0, 1, admitted_self (by decide +kernel), by decide +kernel⟩,
   ⟨(pk ([3] ++ leBytes 4 67108863 ++ leBytes 3 77)), _, { (node 2 5 [(F.YAR_S_CFG_SRC 3, 1), (F.YAR_S_CFG_SRC 0, 1)]) with clk.timePs := 81000000, clk.nextAt := 88000000 }, _, 3, 67108863, 77, admitted_self (by decide +kernel), by decide +kernel⟩,
   ⟨(node 1 7 [(F.SWU_P_DT_DT 0, 200), (F.SWU_P_DT_DT 1, 200), (F.SWU_P_DT_DT 2, 255), (F.SWU_P_STAT_PW 1, 1), (F.SWU_P_DT_DT 3, 1)]), by decide +kernel⟩,
   ⟨(node 0 7 [(F.SAFE_PANEL_SEAL_OK, 1)]), by decide +kernel⟩⟩

end ChannelCommands

namespace CarrierPeriods

def pc : Packet := { source := 2, target := 0, seq := 3, handle := hw 2 }
def ch (l : List (Fld × Nat)) (c : Chan) : State := { obj 2 (node 1 7 ([(F.SWU_P_CFG_MODE 1, 2), (F.SWU_P_CFG_HIDX 1, 0), (F.SWU_P_ACTP_VALUE 1, 20000), (F.SWU_P_ACTD_VALUE 1, 5000), (F.SWU_P_PERIOD_VALUE 1, 30000), (F.SWU_P_DUTY_VALUE 1, 3000)] ++ l)) with swu.pairs := [(1, { chan := c })] }

theorem wit_CarrierPeriods :
    (∃ q : Fin 4, ∃ s : State, s.running = true ∧ (s.hasChan q = false ∨ (s.pair q).chan.startAt = none ∧ s.on (F.SWU_P_CFG_RUN q) = false)) ∧
    (∃ q : Fin 4, ∃ s : State, s.running = true ∧ ∃ t0 : Nat, ∃ c : Packet, s.hasChan q = true ∧ (s.pair q).chan.startAt = some t0 ∧ (s.pair q).chan.startCmd = some c) ∧
    (∃ q : Fin 4, ∃ s : State, s.running = true ∧ s.hasChan q = true ∧ (s.pair q).chan.startAt = none ∧ s.on (F.SWU_P_CFG_RUN q) = true ∧ (s.pair q).chan.stopCmds = [] ∧ (s.pair q).chan.commit = false) ∧
    (∃ q : Fin 4, ∃ s : State, s.running = true ∧ ∃ cs : List Packet, s.hasChan q = true ∧ (s.pair q).chan.startAt = none ∧ s.on (F.SWU_P_CFG_RUN q) = true ∧ cs ≠ [] ∧ (s.pair q).chan.stopCmds = cs) ∧
    (∃ q : Fin 4, ∃ s : State, s.running = true ∧ (s.pair q).chan.changes = []) ∧
    (∃ q : Fin 4, ∃ s : State, s.running = true ∧ ∃ at0 : Nat, ∃ e : Bool, ∃ rest : List (Nat × Bool), (s.pair q).chan.changes = (at0, e) :: rest ∧ (s.pair q).waits = false) ∧
    (∃ q : Fin 4, ∃ s : State, s.running = true ∧ ∃ at0 : Nat, ∃ e : Bool, ∃ rest : List (Nat × Bool), (s.pair q).chan.changes = (at0, e) :: rest ∧ ((s.pair q).waits = true ∨ s.forced q = true)) ∧
    (∃ q : Fin 4, ∃ s : State, s.running = true ∧ s.hasChan q = true ∧ s.ported q = false) ∧
    (∃ q : Fin 4, ∃ s : State, s.running = true ∧ (s.hasChan q = false ∨ s.ported q = true)) :=
  ⟨⟨3, (ch [] { startAt := some 10000000500, startCmd := some pc }), by decide +kernel⟩,
   ⟨1, (ch [] { startAt := some 10000000500, startCmd := some pc }), by decide +kernel, 10000000500, pc, by decide +kernel⟩,
   ⟨1, (ch [(F.SWU_P_CFG_RUN 1, 1)] { nextAt := 10000009000, periodAt := 9999989000 }), by decide +kernel⟩,
   ⟨1, (ch [(F.SWU_P_CFG_RUN 1, 1)] { nextAt := 10000009000, stopCmds := [pc] }), by decide +kernel, [pc], by decide +kernel⟩,
   ⟨3, (ch [] { startAt := some 10000000500, startCmd := some pc }), by decide +kernel⟩,
   ⟨1, (ch [(F.SWU_P_CFG_RUN 1, 1)] { changes := [(10000000100, true), (10000000900, false)] }), by decide +kernel, 10000000100, true, [(10000000900, false)], by decide +kernel⟩,
   ⟨1, (ch [(F.SWU_P_CFG_RUN 1, 1), (F.SWU_FLT_SWF_LATCH, 2)] { changes := [(10000000100, true)] }), by decide +kernel, 10000000100, true, [], by decide +kernel⟩,
   ⟨1, (ch [] { startAt := some 10000000500, startCmd := some pc }), by decide +kernel⟩,
   ⟨3, (ch [] { startAt := some 10000000500, startCmd := some pc }), by decide +kernel⟩⟩

end CarrierPeriods

namespace LoopProgram

def desc (cnt : Nat) (rate : Nat := 0) : List Byte := leBytes 1 1 ++ leBytes 1 rate ++ leBytes 1 0 ++ leBytes 1 0 ++ leBytes 2 cnt ++ leBytes 2 0x300 ++ List.replicate 80 0
def blk (t out coef : Nat) (sch := 0) : List Byte := leBytes 1 t ++ leBytes 1 sch ++ leBytes 2 out ++ leBytes 8 0 ++ leBytes 2 coef ++ leBytes 2 0
def r1 : LoopRun := { sigs := [(0x300, 5), (0x301, 6)], words := [(0, 7)], regions := [(0, 1)], ran := [0], opened := 10000000100, clks := 80, ramps := [(1, 5)] }
def phs : List (Fld × Nat) := [(F.TICK_PH_TALLY_PHASE, 700), (F.TICK_PH_LOOP_END_PHASE, 4000), (F.TICK_PH_SAMPLE_PHASE, 100), (F.TICK_CFG_TICK_PERIOD, 10000)]
def lpx (l : List (Fld × Nat)) (role := 1) : State := obj 1 (node role 7 (phs ++ l))
def dur (s : State) (e : Nat) : State := { s with clk.tickStart := e, clk.phLoopEnd := 4000, clk.tickLen := 10000, clk.timePs := e + 1000000 }
def withRun (s : State) (e : Nat) (r : LoopRun) : State := { (dur s e) with loop.run := some r }

theorem wit_LoopProgram :
    (∃ s : State, s.running = true ∧ s.loop.run = none) ∧
    (∃ s : State, ∃ r : LoopRun, s.running = true ∧ s.loop.run = some r ∧ (∀ n ∈ r.ran, n < 32) ∧ (∀ x ∈ r.regions, x.1 < 32) ∧ (s.reachNow (r.opened + 2 * r.clks)).clk.timePs ≤ s.clk.tickStart + s.clk.phLoopEnd * 2000) ∧
    (∃ s : State, ∃ r : LoopRun, s.running = true ∧ s.loop.run = some r ∧ s.clk.tickStart + s.clk.phLoopEnd * 2000 < (s.reachNow (r.opened + 2 * r.clks)).clk.timePs) ∧
    (∃ s : State, ∃ r : LoopRun, s.running = true ∧ s.loop.run = some r ∧ s.isMeadow = false) ∧
    (∃ p : Packet, ∃ p1 : Packet, ∃ s : State, ∃ s1 : State, ∃ i : Nat, ∃ f : Nat, ∃ rest : List Nat, Admitted rowLoopCreate p s s1 p1 ∧ s1.loopDescOk p.params = true ∧ s1.firstFit (lCount (p.params.take 88)) = some f ∧ (s1.pool TY.LOOP).free = i :: rest ∧ i < 32) ∧
    (∃ p : Packet, ∃ p1 : Packet, ∃ s : State, ∃ s1 : State, ∃ n, Admitted rowLoopEnable p s s1 p1 ∧ s1.handleStatus TY.LOOP p.handle = Stat.OK ∧ n = hIndex p.handle ∧ p.params = [0]) ∧
    (∃ p : Packet, ∃ p1 : Packet, ∃ s : State, ∃ s1 : State, ∃ n, Admitted rowLoopEnable p s s1 p1 ∧ s1.handleStatus TY.LOOP p.handle = Stat.OK ∧ n = hIndex p.handle ∧ s1.loopPhaseOk = true ∧ s1.loopEstimate (if s1.on (F.LOOP_L_CFG_EN n) then s1.enabledLoops else s1.enabledLoops ++ [n]) ≤ s1.loopWindow ∧ p.params = [1]) ∧
    (∃ p : Packet, ∃ p1 : Packet, ∃ s : State, ∃ s1 : State, ∃ n, Admitted rowLoopEnable p s s1 p1 ∧ s1.handleStatus TY.LOOP p.handle = Stat.OK ∧ n = hIndex p.handle ∧ s1.loopPhaseOk = true ∧ s1.loopEstimate (if s1.on (F.LOOP_L_CFG_EN n) then s1.enabledLoops else s1.enabledLoops ++ [n]) ≤ s1.loopWindow ∧ p.params = [2]) ∧
    (∃ p : Packet, ∃ p1 : Packet, ∃ s : State, ∃ s1 : State, ∃ c, Admitted rowLoopCoefSet p s s1 p1 ∧ p.params.length = 65 ∧ numAt p.params 0 1 = c ∧ c < 64) ∧
    (∃ p : Packet, ∃ p1 : Packet, ∃ s : State, ∃ s1 : State, ∃ a, ∃ n, Admitted rowLoopParamSet p s s1 p1 ∧ numAt p.params 0 2 = a ∧ numAt p.params 2 1 = n ∧ p.params.length = 3 + 4 * n ∧ 1 ≤ n ∧ n ≤ 64 ∧ 0x100 ≤ a ∧ a + n ≤ 0x200) :=
  ⟨⟨(lpx [] 0), by decide +kernel⟩,
   ⟨{ (withRun (lpx []) 0 r1) with clk.nowPs := 10000000000000, clk.timePs := (withRun (lpx []) 0 r1).clk.tickStart + 1000000}, r1, by decide +kernel⟩,
   ⟨{ (withRun (lpx []) 0 { r1 with opened := 10001000100 }) with clk.nowPs := 10000000000000, clk.timePs := (withRun (lpx []) 0 { r1 with opened := 10001000100 }).clk.tickStart + 1000000}, { r1 with opened := 10001000100 }, by decide +kernel⟩,
   ⟨{ (withRun (lpx []) 0 r1) with clk.nowPs := 10000000000000, clk.timePs := (withRun (lpx []) 0 r1).clk.tickStart + 1000000}, r1, by decide +kernel⟩,
   ⟨(pk (desc 2 ++ blk 2 0x300 0x100 ++ blk 3 0x302 0x110)), _, (node 1 7 phs), _, 0, 0, ((List.range 31).map (· + 1)), admitted_self (by decide +kernel), by decide +kernel⟩,
   ⟨(pk [0] (hw 1)), _, (lpx [] 0), _, 0, admitted_self (by decide +kernel), by decide +kernel⟩,
   ⟨(pk [1] (hw 1)), _, (lpx [] 0), _, 0, admitted_self (by decide +kernel), by decide +kernel⟩,
   ⟨(pk [2] (hw 1)), _, (lpx [] 0), _, 0, admitted_self (by decide +kernel), by decide +kernel⟩,
   ⟨(pk ((leBytes 1 63) ++ List.replicate 64 5)), _, (lpx [] 0), _, 63, admitted_self (by decide +kernel), by decide +kernel⟩,
   ⟨(pk (leBytes 2 0x1FF ++ leBytes 1 1 ++ leBytes 4 0xFFFFFFFF)), _, (lpx [] 0), _, 511, 1, admitted_self (by decide +kernel), by decide +kernel⟩⟩

end LoopProgram

namespace Conversions

def pc : Packet := { source := 2, target := 0, seq := 3, handle := hw 3 }
def sqx (q i : Nat) (l : List (Fld × Nat)) (role := 1) : State := obj 3 (node role 7 ([(F.MEAS_Q_CFG_LIVE q, 1), (F.MEAS_Q_CFG_STARTED q, 1), (F.MEAS_Q_CFG_TRIG q, 0), (F.MEAS_Q_CFG_COUNT_M1 q, 1), (F.MEAS_Q_E_INPUT q 1, 3), (F.MEAS_SLICE_ACTIVE, 15), (F.MEAS_SLICE_SPARE, 4)] ++ l))
def tmx (s : State) : State := { s with clk.tickStart := 0, clk.phSample := 100, clk.tickLen := 10000, clk.nextAt := 20000000 }
def cv (e : Option (Nat × Nat)) (c : Option Packet) : Conversion := { since := 9999999900, tick := 300, entry := e, cmd := c }
def onx (s : State) (n : Nat) (c : Conversion) : State := s.setSlice n { conv := some c, settle := 1 }
def s0 : State := tmx (sqx 0 0 [])
def runx (s : State) (x : SeqSt) : State := s.setSeq 0 x
def busyAll (s : State) : State := [0,1,2,3,4].foldl (fun s n => onx s n (cv (some (0, 1)) none)) s
def cl (t : Nat) : Conversion := { since := t, tick := 300, entry := some (0, 1) }
def i4 : List Inject := List.replicate 4 { input := 1, since := 9999999000 }

theorem wit_Conversions :
    (∃ i : Nat, ∃ a : Int, ∃ b : Int, ∃ loose : Bool, -32768 ≤ inputCode i a b ∧ inputCode i a b ≤ 32767 ∧ loose = false) ∧
    (∃ i : Nat, ∃ a : Int, ∃ b : Int, inputCode i a b < -32768) ∧
    (∃ i : Nat, ∃ a : Int, ∃ b : Int, 32767 < inputCode i a b) ∧
    (∃ s : State, s.running = true ∧ ∃ q : Fin 4, (s.on (F.MEAS_Q_CFG_STARTED q) = false ∨ (s.seq q).stopping = true)) ∧
    (∃ s : State, s.running = true ∧ ∃ q : Fin 4, ∃ o, o = s.clk.phSample + s.f (F.MEAS_Q_OFS_OFS q) ∧ s.on (F.MEAS_Q_CFG_STARTED q) = true ∧ (s.seq q).stopping = false ∧ s.f (F.MEAS_Q_CFG_TRIG q) = 0 ∧ (s.phaseTrigger q = false ∨ o < s.clk.tickLen ∧ s.phaseFalls o = false)) ∧
    (∃ s : State, s.running = true ∧ ∃ q : Fin 4, ∃ o, o = s.clk.phSample + s.f (F.MEAS_Q_OFS_OFS q) ∧ s.on (F.MEAS_Q_CFG_STARTED q) = true ∧ (s.seq q).stopping = false ∧ s.f (F.MEAS_Q_CFG_TRIG q) = 0 ∧ s.phaseTrigger q = true ∧ s.clk.tickLen ≤ o) ∧
    (∃ s : State, s.running = true ∧ ∃ q : Fin 4, ∃ o, o = s.clk.phSample + s.f (F.MEAS_Q_OFS_OFS q) ∧ s.on (F.MEAS_Q_CFG_STARTED q) = true ∧ (s.seq q).stopping = false ∧ s.f (F.MEAS_Q_CFG_TRIG q) = 0 ∧ s.phaseTrigger q = true ∧ o < s.clk.tickLen ∧ s.phaseFalls o = true ∧ (s.seq q).running = false) ∧
    (∃ s : State, s.running = true ∧ ∃ q : Fin 4, ∃ o, o = s.clk.phSample + s.f (F.MEAS_Q_OFS_OFS q) ∧ s.on (F.MEAS_Q_CFG_STARTED q) = true ∧ (s.seq q).stopping = false ∧ s.f (F.MEAS_Q_CFG_TRIG q) = 0 ∧ s.phaseTrigger q = true ∧ o < s.clk.tickLen ∧ s.phaseFalls o = true ∧ (s.seq q).running = true ∧ s.entryWaits q = false ∧ (s.adcs q).all (fun c => (c.since + 200) / 2 == (s.reachPhase o).now / 2) = true) ∧
    (∃ s : State, s.running = true ∧ ∃ q : Fin 4, ∃ o, o = s.clk.phSample + s.f (F.MEAS_Q_OFS_OFS q) ∧ s.on (F.MEAS_Q_CFG_STARTED q) = true ∧ (s.seq q).stopping = false ∧ s.f (F.MEAS_Q_CFG_TRIG q) = 0 ∧ s.phaseTrigger q = true ∧ o < s.clk.tickLen ∧ s.phaseFalls o = true ∧ (s.seq q).running = true ∧ (s.adcs q).any (fun c => decide ((s.reachPhase o).now / 2 < (c.since + 200) / 2)) = true) ∧
    (∃ s : State, s.running = true ∧ ∃ q : Fin 4, s.on (F.MEAS_Q_CFG_STARTED q) = true ∧ (s.seq q).stopping = false ∧ s.f (F.MEAS_Q_CFG_TRIG q) ≠ 0 ∧ (s.seq q).dues = []) ∧
    (∃ s : State, s.running = true ∧ ∃ q : Fin 4, s.on (F.MEAS_Q_CFG_STARTED q) = true ∧ (s.seq q).stopping = false ∧ s.f (F.MEAS_Q_CFG_TRIG q) ≠ 0 ∧ ∃ d : Nat, ∃ ds : List Nat, (s.seq q).dues = d :: ds ∧ (s.seq q).running = false) ∧
    (∃ s : State, s.running = true ∧ ∃ n : Fin 5, (s.adc n).conv = none ∧ seqNumbers.all (fun q => !s.entryWaits q) = true ∧ s.meas.inj = []) ∧
    (∃ s : State, s.running = true ∧ ∃ n : Fin 5, ∃ a : Int, ∃ b : Int, ∃ err : Int, ∃ near : List (Fin 24 × Nat), ∃ c : Conversion, (s.adc n).conv = some c ∧ ∃ st : Bool, st = decide (0 < (s.adc n).settle) ∧ ∃ x : Int × Bool, x = sampleCode c.input a b (exposed c.input a b near) (st || s.on F.MEAS_SLICE_NOSPARE) err ∧ ∃ q : Fin 4, ∃ e : Fin 32, c.entry = some (q.val, e.val)) ∧
    (∃ s : State, s.running = true ∧ ∃ n : Fin 5, ∃ a : Int, ∃ b : Int, ∃ err : Int, ∃ near : List (Fin 24 × Nat), ∃ c : Conversion, (s.adc n).conv = some c ∧ ∃ st : Bool, st = decide (0 < (s.adc n).settle) ∧ ∃ x : Int × Bool, x = sampleCode c.input a b (exposed c.input a b near) (st || s.on F.MEAS_SLICE_NOSPARE) err ∧ c.entry = none ∧ c.cmd = none) ∧
    (∃ s : State, s.running = true ∧ ∃ n : Fin 5, ∃ a : Int, ∃ b : Int, ∃ err : Int, ∃ near : List (Fin 24 × Nat), ∃ c : Conversion, (s.adc n).conv = some c ∧ ∃ st : Bool, st = decide (0 < (s.adc n).settle) ∧ ∃ x : Int × Bool, x = sampleCode c.input a b (exposed c.input a b near) (st || s.on F.MEAS_SLICE_NOSPARE) err ∧ ∃ p : Packet, c.entry = none ∧ c.cmd = some p) ∧
    (∃ s : State, s.running = true ∧ s.on F.MEAS_SLICE_NOSPARE = true) ∧
    (∃ s : State, s.running = true ∧ s.on F.MEAS_SLICE_NOSPARE = false) ∧
    (∃ s : State, s.running = true ∧ s.meas.calibrating = false) ∧
    (∃ s : State, s.running = true ∧ ∃ g : Int, s.meas.calibrating = true ∧ s.f F.MEAS_SLICE_SPARE < 5 ∧ -32768 ≤ g) ∧
    (∃ s : State, s.running = true ∧ ∃ g : Int, ∃ o : Int, s.meas.calibrating = true ∧ s.f F.MEAS_SLICE_SPARE < 5 ∧ (g < -32768 ∨ 32767 < g ∨ o < -32768 ∨ 32767 < o)) ∧
    (∃ s : State, s.running = true ∧ ∃ i : BitVec 5, ∃ d : Bool, inputOk (i.toNat + 32 * b2n d) = false) ∧
    (∃ s : State, s.running = true ∧ ∃ core : Fin 4, ∃ i : BitVec 5, ∃ d : Bool, ∃ ahead : List Inject, ∃ rest : List Inject, inputOk (i.toNat + 32 * b2n d) = true ∧ (s.measAt s.now).meas.inj = ahead ++ rest ∧ ahead.all (s.before (core.val + 1)) = true ∧ rest.all (fun x => !s.before (core.val + 1) x) = true ∧ ahead.length < 4) ∧
    (∃ s : State, s.running = true ∧ ∃ core : Fin 4, ∃ i : BitVec 5, ∃ d : Bool, ∃ ahead : List Inject, ∃ rest : List Inject, inputOk (i.toNat + 32 * b2n d) = true ∧ (s.measAt s.now).meas.inj = ahead ++ rest ∧ ahead.all (s.before (core.val + 1)) = true ∧ rest.all (fun x => !s.before (core.val + 1) x) = true ∧ 4 ≤ ahead.length) :=
  ⟨⟨10000000500, 0, 0, false, by decide +kernel⟩,
   ⟨1, (-1000000), 2000000000, by decide +kernel⟩,
   ⟨1, 2000000000, 2000000000, by decide +kernel⟩,
   ⟨s0, by decide +kernel, 3, by decide +kernel⟩,
   ⟨(runx s0 { seen := 1 }), by decide +kernel, 0, _, rfl, by decide +kernel⟩,
   ⟨(tmx (sqx 1 0 [(F.MEAS_Q_OFS_OFS 1, 9900)] 2)), by decide +kernel, 1, _, rfl, by decide +kernel⟩,
   ⟨s0, by decide +kernel, 0, _, rfl, by decide +kernel⟩,
   ⟨(runx (onx s0 2 (cl 10000000000)) { running := true, next := 2 }), by decide +kernel, 0, _, rfl, by decide +kernel⟩,
   ⟨(onx (runx (tmx (sqx 0 0 [(F.MEAS_Q_STAT_MISSED 0, 65535)])) { running := true, next := 1 }) 2 (cl 10000000100)), by decide +kernel, 0, _, rfl, by decide +kernel⟩,
   ⟨(tmx (sqx 0 0 [(F.MEAS_Q_CFG_TRIG 0, 1)])), by decide +kernel, 0, by decide +kernel⟩,
   ⟨(runx (tmx (sqx 0 0 [(F.MEAS_Q_CFG_TRIG 0, 1)])) { dues := [500] }), by decide +kernel, 0, by decide +kernel, by decide +kernel, by decide +kernel, 500, [], by decide +kernel⟩,
   ⟨s0, by decide +kernel, 4, by decide +kernel⟩,
   ⟨(onx (runx s0 { running := true, next := 2, written := 1 }) 1 (cv (some (0, 1)) none)), by decide +kernel, 1, 32768, 32768, 32768, [], (cv (some (0, 1)) none), by decide +kernel, _, rfl, _, rfl, 0, 1, by decide +kernel⟩,
   ⟨(onx s0 0 (cv none none)), by decide +kernel, 0, 32768, 32768, 32768, [], (cv none none), by decide +kernel, _, rfl, _, rfl, by decide +kernel⟩,
   ⟨(onx s0 4 (cv none (some pc))), by decide +kernel, 4, 32768, 32768, 32768, [], (cv none (some pc)), by decide +kernel, _, rfl, _, rfl, pc, by decide +kernel⟩,
   ⟨(tmx (sqx 0 0 [(F.MEAS_SLICE_NOSPARE, 1)])), by decide +kernel⟩,
   ⟨s0, by decide +kernel⟩,
   ⟨s0, by decide +kernel⟩,
   ⟨{ s0 with meas.calibrating := true }, by decide +kernel, 32768, by decide +kernel⟩,
   ⟨{ s0 with meas.calibrating := true }, by decide +kernel, 32768, 32768, by decide +kernel⟩,
   ⟨s0, by decide +kernel, 1, true, by decide +kernel⟩,
   ⟨s0, by decide +kernel, 3, 0x14, false, [], [], by decide +kernel⟩,
   ⟨{ (busyAll s0) with meas.inj := i4 }, by decide +kernel, 3, 5, false, i4, [], by decide +kernel⟩⟩

end Conversions

namespace SequenceCommands

def sqx (q i : Nat) (l : List (Fld × Nat)) (role := 1) : State := obj 3 (node role 7 ([(F.MEAS_Q_CFG_LIVE q, 1), (F.MEAS_Q_CFG_TRIG q, 0), (F.MEAS_Q_CFG_COUNT_M1 q, 1), (F.MEAS_Q_E_INPUT q 1, 3), (F.MEAS_SLICE_ACTIVE, 15), (F.MEAS_SLICE_SPARE, 4)] ++ l))
def tmx (s : State) : State := { s with clk.tickStart := 0, clk.phSample := 100, clk.tickLen := 10000, clk.nextAt := 20000000 }
def cv (e : Option (Nat × Nat)) (c : Option Packet) : Conversion := { since := 9999999900, tick := 300, entry := e, cmd := c }
def busyAll (s : State) : State := [0,1,2,3,4].foldl (fun s n => s.setSlice n { conv := some (cv (some (0, 1)) none), settle := 1 }) s
def runx (s : State) (x : SeqSt) : State := s.setSeq 0 x
def i4 : List Inject := List.replicate 4 { input := 3, since := 9999999000 }

theorem wit_SequenceCommands :
    (∃ p : Packet, ∃ p1 : Packet, ∃ s : State, ∃ s1 : State, ∃ i : Nat, ∃ rest : List Nat, Admitted rowMeasSeqCreate p s s1 p1 ∧ s1.seqParamsOk p.params = true ∧ (s1.pool TY.SEQUENCE).free = i :: rest ∧ i < 4) ∧
    (∃ p : Packet, ∃ p1 : Packet, ∃ s : State, ∃ s1 : State, ∃ q, Admitted rowMeasSeqStart p s s1 p1 ∧ s1.handleStatus TY.SEQUENCE p.handle = Stat.OK ∧ q = hIndex p.handle ∧ p.params = [] ∧ s1.f (F.MEAS_Q_CFG_TRIG q) = 2 ∧ (s1.seq q).running = false) ∧
    (∃ p : Packet, ∃ p1 : Packet, ∃ s : State, ∃ s1 : State, ∃ q, Admitted rowMeasSeqStart p s s1 p1 ∧ s1.handleStatus TY.SEQUENCE p.handle = Stat.OK ∧ q = hIndex p.handle ∧ p.params = [] ∧ s1.f (F.MEAS_Q_CFG_TRIG q) = 2 ∧ (s1.seq q).running = true ∧ s1.endsNow q = true ∧ (s1.seq q).again = false) ∧
    (∃ p : Packet, ∃ p1 : Packet, ∃ s : State, ∃ s1 : State, ∃ q, Admitted rowMeasSeqStart p s s1 p1 ∧ s1.handleStatus TY.SEQUENCE p.handle = Stat.OK ∧ q = hIndex p.handle ∧ p.params = [] ∧ s1.f (F.MEAS_Q_CFG_TRIG q) = 2 ∧ (s1.seq q).running = true ∧ (s1.endsNow q = false ∨ (s1.seq q).again = true)) ∧
    (∃ p : Packet, ∃ p1 : Packet, ∃ s : State, ∃ s1 : State, ∃ q, Admitted rowMeasSeqStart p s s1 p1 ∧ s1.handleStatus TY.SEQUENCE p.handle = Stat.OK ∧ q = hIndex p.handle ∧ p.params = [] ∧ s1.f (F.MEAS_Q_CFG_TRIG q) = 1) ∧
    (∃ p : Packet, ∃ p1 : Packet, ∃ s : State, ∃ s1 : State, ∃ q, Admitted rowMeasSeqStart p s s1 p1 ∧ s1.handleStatus TY.SEQUENCE p.handle = Stat.OK ∧ q = hIndex p.handle ∧ p.params = [] ∧ (s1.f (F.MEAS_Q_CFG_TRIG q) = 0 ∨ s1.f (F.MEAS_Q_CFG_TRIG q) = 3)) ∧
    (∃ p : Packet, ∃ p1 : Packet, ∃ s : State, ∃ s1 : State, ∃ q, Admitted rowMeasSeqStop p s s1 p1 ∧ s1.handleStatus TY.SEQUENCE p.handle = Stat.OK ∧ q = hIndex p.handle ∧ p.params = [] ∧ s1.on (F.MEAS_Q_CFG_STARTED q) = false) ∧
    (∃ p : Packet, ∃ p1 : Packet, ∃ s : State, ∃ s1 : State, ∃ q, Admitted rowMeasSeqStop p s s1 p1 ∧ s1.handleStatus TY.SEQUENCE p.handle = Stat.OK ∧ q = hIndex p.handle ∧ p.params = [] ∧ s1.on (F.MEAS_Q_CFG_STARTED q) = true ∧ (s1.triggerNow q = false ∨ (s1.seq q).stopping = true) ∧ (s1.seq q).running = true) ∧
    (∃ p : Packet, ∃ p1 : Packet, ∃ s : State, ∃ s1 : State, ∃ q, Admitted rowMeasSeqStop p s s1 p1 ∧ s1.handleStatus TY.SEQUENCE p.handle = Stat.OK ∧ q = hIndex p.handle ∧ p.params = [] ∧ s1.on (F.MEAS_Q_CFG_STARTED q) = true ∧ (s1.triggerNow q = false ∨ (s1.seq q).stopping = true) ∧ (s1.seq q).running = false) ∧
    (∃ p : Packet, ∃ p1 : Packet, ∃ s : State, ∃ s1 : State, ∃ q, Admitted rowMeasSeqStop p s s1 p1 ∧ s1.handleStatus TY.SEQUENCE p.handle = Stat.OK ∧ q = hIndex p.handle ∧ p.params = [] ∧ s1.on (F.MEAS_Q_CFG_STARTED q) = true ∧ s1.triggerNow q = true ∧ (s1.seq q).stopping = false ∧ (s1.seq q).running = false) ∧
    (∃ p : Packet, ∃ p1 : Packet, ∃ s : State, ∃ s1 : State, ∃ i : Nat, ∃ ahead : List Inject, ∃ rest : List Inject, Admitted rowMeasInject p s s1 p1 ∧ p.params = leBytes 1 i ∧ i < 64 ∧ inputOk i = true ∧ (s1.measAt s1.now).meas.inj = ahead ++ rest ∧ ahead.all (s1.before 0) = true ∧ rest.all (fun x => !s1.before 0 x) = true ∧ ahead.length < 4) ∧
    (∃ p : Packet, ∃ p1 : Packet, ∃ s : State, ∃ s1 : State, ∃ i : Nat, ∃ ahead : List Inject, ∃ rest : List Inject, Admitted rowMeasInject p s s1 p1 ∧ p.params = leBytes 1 i ∧ i < 64 ∧ inputOk i = true ∧ (s1.measAt s1.now).meas.inj = ahead ++ rest ∧ ahead.all (s1.before 0) = true ∧ rest.all (fun x => !s1.before 0 x) = true ∧ 4 ≤ ahead.length) :=
  ⟨⟨(pk ([0, 5] ++ leBytes 2 50 ++ [3, 1, 2, 7, 0x20])), _, (tmx (node 1 7 [])), _, 0, [1,2,3], admitted_self (by decide +kernel), by decide +kernel⟩,
   ⟨(pk [] (hw 3)), _, (tmx (sqx 0 0 [(F.MEAS_Q_CFG_TRIG 0, 2)])), _, 0, admitted_self (by decide +kernel), by decide +kernel⟩,
   ⟨(pk [] (hw 3)), _, (runx (tmx (sqx 0 0 [(F.MEAS_Q_CFG_TRIG 0, 2), (F.MEAS_Q_CFG_STARTED 0, 1)])) { running := true, next := 2 }), _, 0, admitted_self (by decide +kernel), by decide +kernel⟩,
   ⟨(pk [] (hw 3)), _, (runx (tmx (sqx 0 0 [(F.MEAS_Q_CFG_TRIG 0, 2), (F.MEAS_Q_CFG_STARTED 0, 1)])) { running := true }), _, 0, admitted_self (by decide +kernel), by decide +kernel⟩,
   ⟨(pk [] (hw 3)), _, (tmx (sqx 0 0 [(F.MEAS_Q_CFG_TRIG 0, 1)] 0)), _, 0, admitted_self (by decide +kernel), by decide +kernel⟩,
   ⟨(pk [] (hw 3)), _, (tmx (sqx 0 0 [])), _, 0, admitted_self (by decide +kernel), by decide +kernel⟩,
   ⟨(pk [] (hw 3)), _, (tmx (sqx 0 0 [])), _, 0, admitted_self (by decide +kernel), by decide +kernel⟩,
   ⟨(pk [] (hw 3)), _, (runx (tmx (sqx 0 0 [(F.MEAS_Q_CFG_TRIG 0, 2), (F.MEAS_Q_CFG_STARTED 0, 1)])) { running := true }), _, 0, admitted_self (by decide +kernel), by decide +kernel⟩,
   ⟨(pk [] (hw 3)), _, (tmx (sqx 0 0 [(F.MEAS_Q_CFG_STARTED 0, 1)])), _, 0, admitted_self (by decide +kernel), by decide +kernel⟩,
   ⟨(pk [] (hw 3)), _, (runx (tmx (sqx 0 0 [(F.MEAS_Q_CFG_TRIG 0, 1), (F.MEAS_Q_CFG_STARTED 0, 1)])) { dues := [0] }), _, 0, admitted_self (by decide +kernel), by decide +kernel⟩,
   ⟨(pk [0]), _, (tmx (node 1 7 [])), _, 0, [], [], admitted_self (by decide +kernel), by decide +kernel⟩,
   ⟨(pk [0]), _, { (busyAll (tmx (sqx 0 0 []))) with meas.inj := i4 }, _, 0, i4, [], admitted_self (by decide +kernel), by decide +kernel⟩⟩

end SequenceCommands

namespace RecorderEvents

def pc : Packet := { source := 2, target := 0, seq := 3, handle := hw 4 }
def bsx (role : Nat) (l : List (Fld × Nat)) : State := node role 7 l
def csx (c : CapSt) (l : List (Fld × Nat) := []) (role := 1) : State := (obj 4 (bsx role l)).setCap 0 c
def sqx (k ca na cb nb : Nat) (l : List (Fld × Nat)) : State := bsx 1 ([(F.REC_CTRL_SEQ_EN, 1), (F.REC_TSTATE_STATE, k), (F.REC_TS_CND_CND_A k, ca), (F.REC_TS_CND_NEXT_A k, na), (F.REC_TS_CND_CND_B k, cb), (F.REC_TS_CND_NEXT_B k, nb)] ++ l)
def rdx (frag page : Nat) (src : BitVec 16 := 2) : RecRead := { cmd := { pc with source := src }, first := 0, count := 2, page := page, frag := frag }
def ring2 : List RecPage := [{ page := 3, count := 5 }, { page := 4, first := 5, count := 5 }]
def tsx (t : TrendSt) (l : List (Fld × Nat) := []) : State := (obj 5 (bsx 1 l)).setTrend 0 t
def fullL : State := (csx { ring := ring2, reading := some (rdx 0 0 5) } (lanesUp [3] ++ [(F.CMD_NODE_ASSIGNED, 1), (F.CMD_NODE_ADDR, 2), (F.CMD_DL_USE 3, 2), (F.CMD_RANGE_LO 3, 5), (F.CMD_RANGE_HI 3, 6)])).updLane 3 (fun l => { l with txq := [{ bytes := List.replicate 13000 0 }] })

theorem wit_RecorderEvents :
    (∃ s : State, s.running = true ∧ ∃ n : Fin 16, (s.cap n).headersDue = false) ∧
    (∃ s : State, s.running = true ∧ ∃ n : Fin 16, (s.cap n).headersDue = true) ∧
    (∃ s : State, s.running = true ∧ s.on F.REC_CTRL_SEQ_EN = false) ∧
    (∃ s : State, s.running = true ∧ ∃ k, k = s.f F.REC_TSTATE_STATE ∧ ∃ a, a = s.f (F.REC_TS_CND_CND_A k) ∧ ∃ b, b = s.f (F.REC_TS_CND_CND_B k) ∧ s.on F.REC_CTRL_SEQ_EN = true ∧ s.condSince a = none ∧ s.condSince b = none) ∧
    (∃ s : State, s.running = true ∧ ∃ k, k = s.f F.REC_TSTATE_STATE ∧ ∃ a, a = s.f (F.REC_TS_CND_CND_A k) ∧ ∃ b, b = s.f (F.REC_TS_CND_CND_B k) ∧ s.on F.REC_CTRL_SEQ_EN = true ∧ ∃ c, ∃ x, ∃ next, (s.condSince a = some x ∧ (∀ y, s.condSince b = some y → x / 2000 ≤ max (y / 2000) (s.clk.nowPs / 2000 - 1)) ∧ c = a ∧ next = s.f (F.REC_TS_CND_NEXT_A k) ∨ s.condSince b = some x ∧ (∀ y, s.condSince a = some y → max (x / 2000) (s.clk.nowPs / 2000 - 1) < y / 2000) ∧ c = b ∧ next = s.f (F.REC_TS_CND_NEXT_B k)) ∧ ∃ act, act = s.f (F.REC_TS_ACT_ACT next)) ∧
    (∃ s : State, s.running = true ∧ ∃ k : Fin 2, Map.get 0 s.recorder.timerEnd k.val = 0) ∧
    (∃ s : State, s.running = true ∧ ∃ k : Fin 2, Map.get 0 s.recorder.timerEnd k.val ≠ 0 ∧ Map.get 0 s.recorder.timerEnd k.val ≤ 2 ^ 64) ∧
    (∃ s : State, s.running = true ∧ ∃ b : Bool, b = true) ∧
    (∃ s : State, s.running = true ∧ ∃ b : Bool, b = false) ∧
    (∃ s : State, s.running = true ∧ ∃ i : Fin 4, bit (s.f F.REC_TRIGIO_EN) i = true) ∧
    (∃ s : State, s.running = true ∧ ∃ i : Fin 4, ∃ r : Bool, (bit (s.f F.REC_TRIGIO_EN) i = false ∨ r = bit (s.f F.REC_TRIGIO_POL) i)) ∧
    (∃ s : State, s.running = true ∧ ∃ o : Fin 2, Map.get 0 s.recorder.outEnd o.val = 0) ∧
    (∃ s : State, s.running = true ∧ ∃ o : Fin 2, Map.get 0 s.recorder.outEnd o.val ≠ 0) ∧
    (∃ s : State, s.running = true ∧ s.on F.REC_SYS_REQ = true ∧ s.recorder.reqTick + 16 ≤ s.tickNo) ∧
    (∃ s : State, s.running = true ∧ (s.on F.REC_SYS_REQ = false ∨ s.tickNo < s.recorder.reqTick + 16)) ∧
    (∃ s : State, s.running = true ∧ ∃ n : Fin 8, (s.trend n).fill = []) ∧
    (∃ s : State, s.running = true ∧ ∃ n : Fin 8, (s.trend n).fill ≠ []) ∧
    (∃ s : State, s.running = true ∧ ∃ n : Fin 16, (s.cap n).reading = none) ∧
    (∃ s : State, s.running = true ∧ ∃ n : Fin 16, ∃ r : RecRead, ∃ l : Nat, (s.cap n).reading = some r ∧ s.trendLane r.cmd.source = some l ∧ 16384 < queued (s.lane l).txq + 4096) ∧
    (∃ s : State, s.running = true ∧ ∃ n : Fin 16, ∃ r : RecRead, (s.cap n).reading = some r ∧ (∀ l, s.trendLane r.cmd.source = some l → queued (s.lane l).txq + 4096 ≤ 16384) ∧ ∃ d : List Byte, d = (s.readRecorder (pageBase (((s.cap n).ring[r.page]?.map (·.page)).getD 0) + 1024 * r.frag) 1024).2.1 ∧ ∃ bad : Nat, bad = (if (s.readRecorder (pageBase (((s.cap n).ring[r.page]?.map (·.page)).getD 0) + 1024 * r.frag) 1024).2.2 = 0 then r.bad else r.bad ||| 2 ^ (r.page - r.first)) ∧ (r.frag < 63 ∨ r.page + 1 < r.first + r.count)) ∧
    (∃ s : State, s.running = true ∧ ∃ n : Fin 16, ∃ r : RecRead, (s.cap n).reading = some r ∧ (∀ l, s.trendLane r.cmd.source = some l → queued (s.lane l).txq + 4096 ≤ 16384) ∧ ∃ d : List Byte, d = (s.readRecorder (pageBase (((s.cap n).ring[r.page]?.map (·.page)).getD 0) + 1024 * r.frag) 1024).2.1 ∧ ∃ bad : Nat, bad = (if (s.readRecorder (pageBase (((s.cap n).ring[r.page]?.map (·.page)).getD 0) + 1024 * r.frag) 1024).2.2 = 0 then r.bad else r.bad ||| 2 ^ (r.page - r.first)) ∧ 63 ≤ r.frag ∧ r.first + r.count ≤ r.page + 1) :=
  ⟨⟨(csx { headersDue := true, chans := [0], ring := ring2, trig := some {} } [(F.REC_CAP_STAT_STATE 0, 3)]), by decide +kernel, 15, by decide +kernel⟩,
   ⟨(csx { headersDue := true, chans := [0], ring := ring2, trig := some {} } [(F.REC_CAP_STAT_STATE 0, 3)]), by decide +kernel, 0, by decide +kernel⟩,
   ⟨(csx { headersDue := true, chans := [0], ring := ring2, trig := some {} } [(F.REC_CAP_STAT_STATE 0, 3)]), by decide +kernel⟩,
   ⟨(sqx 0 0 3 8 7 []), by decide +kernel, _, rfl, _, rfl, _, rfl, by decide +kernel⟩,
   ⟨(sqx 2 1 3 0 0 [(F.REC_TS_ACT_ACT 3, 2^25-1)]), by decide +kernel, _, rfl, _, rfl, _, rfl, by decide +kernel, 1, 0, 3, by decide +kernel, _, rfl⟩,
   ⟨(csx { headersDue := true, chans := [0], ring := ring2, trig := some {} } [(F.REC_CAP_STAT_STATE 0, 3)]), by decide +kernel, 1, by decide +kernel⟩,
   ⟨{ bsx 0 [] with recorder.timerEnd := [(0, 10000000500), (1, 5)] }, by decide +kernel, 1, by decide +kernel⟩,
   ⟨(csx { headersDue := true, chans := [0], ring := ring2, trig := some {} } [(F.REC_CAP_STAT_STATE 0, 3)]), by decide +kernel, _, rfl⟩,
   ⟨(csx { headersDue := true, chans := [0], ring := ring2, trig := some {} } [(F.REC_CAP_STAT_STATE 0, 3)]), by decide +kernel, _, rfl⟩,
   ⟨(bsx 1 [(F.REC_TRIGIO_EN, 5), (F.REC_TRIGIO_POL, 4)]), by decide +kernel, 2, by decide +kernel⟩,
   ⟨(csx { headersDue := true, chans := [0], ring := ring2, trig := some {} } [(F.REC_CAP_STAT_STATE 0, 3)]), by decide +kernel, 3, false, by decide +kernel⟩,
   ⟨(csx { headersDue := true, chans := [0], ring := ring2, trig := some {} } [(F.REC_CAP_STAT_STATE 0, 3)]), by decide +kernel, 1, by decide +kernel⟩,
   ⟨{ bsx 2 [] with recorder.outEnd := [(0, 10000000500), (1, 5)] }, by decide +kernel, 1, by decide +kernel⟩,
   ⟨{ bsx 1 [(F.REC_SYS_REQ, 1)] with clk.tickNum := 16 }, by decide +kernel⟩,
   ⟨(csx { headersDue := true, chans := [0], ring := ring2, trig := some {} } [(F.REC_CAP_STAT_STATE 0, 3)]), by decide +kernel⟩,
   ⟨(csx { headersDue := true, chans := [0], ring := ring2, trig := some {} } [(F.REC_CAP_STAT_STATE 0, 3)]), by decide +kernel, 7, by decide +kernel⟩,
   ⟨(tsx { fill := [[1,2,3,4]], fillAt := 9900000000, pages := [1], chans := [0] }), by decide +kernel, 0, by decide +kernel⟩,
   ⟨(csx { headersDue := true, chans := [0], ring := ring2, trig := some {} } [(F.REC_CAP_STAT_STATE 0, 3)]), by decide +kernel, 15, by decide +kernel⟩,
   ⟨fullL, by decide +kernel, 0, (rdx 0 0 5), 3, by decide +kernel⟩,
   ⟨(csx { ring := ring2, reading := some (rdx 0 0) }), by decide +kernel, 0, (rdx 0 0), by decide +kernel, by decide +kernel, _, rfl, _, rfl, by decide +kernel⟩,
   ⟨(csx { ring := ring2, reading := some (rdx 63 1) }), by decide +kernel, 0, (rdx 63 1), by decide +kernel, by decide +kernel, _, rfl, _, rfl, by decide +kernel⟩⟩

end RecorderEvents

namespace RecorderCommands

def bsx (role : Nat) (l : List (Fld × Nat)) : State := let s := node role 7 l; s
def csx (c : CapSt) (st : Nat) (role := 1) : State := (obj 4 (bsx role [(F.REC_CAP_STAT_STATE 0, st)])).setCap 0 c
def ring2 : List RecPage := [{ page := 3, count := 5 }, { page := 4, first := 5, count := 5 }]
def tsx (t : TrendSt) (l : List (Fld × Nat) := []) : State := (obj 5 (bsx 1 l)).setTrend 0 t
def c0 : CapSt := { chans := [0x40000000, 1], ring := ring2, taken := 9 }
def tg : RecTrig := { actedAt := 10000000000000, cause := 1 }
def armx (a b m : Nat) : Packet := pk (leBytes 4 a ++ leBytes 4 b ++ leBytes 1 m) (hw 4)
def spp1 : Nat := CapSt.spp { chans := [0x40000000] }
def chs1 : List Nat := [0x40000000, 1, 0x10000FFF, 0x30000000]
def cre (clk div : Nat) (l : List Nat) (x : List Byte := []) : Packet := pk (leBytes 1 clk ++ leBytes 1 div ++ leBytes 1 l.length ++ (l.map (leBytes 4)).flatten ++ x)

theorem wit_RecorderCommands :
    (∃ p : Packet, ∃ p1 : Packet, ∃ s : State, ∃ s1 : State, ∃ clock : Nat, ∃ div : Nat, ∃ i : Nat, ∃ chans : List Nat, ∃ rest : List Nat, Admitted rowCaptureCreate p s s1 p1 ∧ s1.recParams p.params 0 = some (clock, div, chans) ∧ (s1.pool TY.CAPTURE).free = i :: rest ∧ i < 16) ∧
    (∃ p : Packet, ∃ p1 : Packet, ∃ s : State, ∃ s1 : State, ∃ n : Nat, ∃ pre, ∃ post, ∃ m, Admitted rowCaptureArm p s s1 p1 ∧ s1.handleStatus TY.CAPTURE p.handle = Stat.OK ∧ n = hIndex p.handle ∧ s1.capState n = CAP.IDLE ∧ p.params = leBytes 4 pre ++ leBytes 4 post ++ [BitVec.ofNat 8 m] ∧ pre < 2 ^ 32 ∧ post < 2 ^ 32 ∧ m < 256 ∧ min s1.freePages.length 511 < (pre + (s1.cap n).spp - 1) / (s1.cap n).spp + 1) ∧
    (∃ p : Packet, ∃ p1 : Packet, ∃ s : State, ∃ s1 : State, ∃ n : Nat, ∃ pre, ∃ post, ∃ m, Admitted rowCaptureArm p s s1 p1 ∧ s1.handleStatus TY.CAPTURE p.handle = Stat.OK ∧ n = hIndex p.handle ∧ s1.capState n = CAP.IDLE ∧ p.params = leBytes 4 pre ++ leBytes 4 post ++ [BitVec.ofNat 8 m] ∧ pre < 2 ^ 32 ∧ post < 2 ^ 32 ∧ m < 256 ∧ (pre + (s1.cap n).spp - 1) / (s1.cap n).spp + 1 ≤ min s1.freePages.length 511 ∧ (pre + post + (s1.cap n).spp - 1) / (s1.cap n).spp + 1 ≤ min s1.freePages.length 511) ∧
    (∃ p : Packet, ∃ p1 : Packet, ∃ s : State, ∃ s1 : State, ∃ n : Nat, ∃ pre, ∃ post, ∃ m, Admitted rowCaptureArm p s s1 p1 ∧ s1.handleStatus TY.CAPTURE p.handle = Stat.OK ∧ n = hIndex p.handle ∧ s1.capState n = CAP.IDLE ∧ p.params = leBytes 4 pre ++ leBytes 4 post ++ [BitVec.ofNat 8 m] ∧ pre < 2 ^ 32 ∧ post < 2 ^ 32 ∧ m < 256 ∧ (pre + (s1.cap n).spp - 1) / (s1.cap n).spp + 1 ≤ min s1.freePages.length 511 ∧ min s1.freePages.length 511 < (pre + post + (s1.cap n).spp - 1) / (s1.cap n).spp + 1) ∧
    (∃ p : Packet, ∃ p1 : Packet, ∃ s : State, ∃ s1 : State, ∃ n : Nat, Admitted rowCaptureTrigger p s s1 p1 ∧ s1.handleStatus TY.CAPTURE p.handle = Stat.OK ∧ n = hIndex p.handle ∧ p.params = [] ∧ s1.capState n = CAP.ARMED) ∧
    (∃ p : Packet, ∃ p1 : Packet, ∃ s : State, ∃ s1 : State, ∃ n : Nat, Admitted rowCaptureTrigger p s s1 p1 ∧ s1.handleStatus TY.CAPTURE p.handle = Stat.OK ∧ n = hIndex p.handle ∧ p.params = [] ∧ ∃ g : RecTrig, s1.capState n ≠ CAP.ARMED ∧ (s1.cap n).trig = some g ∧ s1.inClk g.actedAt = true) ∧
    (∃ p : Packet, ∃ p1 : Packet, ∃ s : State, ∃ s1 : State, ∃ n : Nat, Admitted rowCaptureTrigger p s s1 p1 ∧ s1.handleStatus TY.CAPTURE p.handle = Stat.OK ∧ n = hIndex p.handle ∧ p.params = [] ∧ s1.capState n ≠ CAP.ARMED ∧ (s1.cap n).trig.any (fun g => s1.inClk g.actedAt) = false ∧ (s1.capState n ≠ CAP.STOPPED ∨ (s1.cap n).stopAt.any s1.inClk = false)) ∧
    (∃ p : Packet, ∃ p1 : Packet, ∃ s : State, ∃ s1 : State, ∃ n : Nat, Admitted rowCaptureStop p s s1 p1 ∧ s1.handleStatus TY.CAPTURE p.handle = Stat.OK ∧ n = hIndex p.handle ∧ p.params = [] ∧ (s1.capState n = CAP.ARMED ∨ s1.capState n = CAP.TRIGGERED) ∧ (s1.cap n).trig.any (fun g => s1.inClk g.actedAt) = false) ∧
    (∃ p : Packet, ∃ p1 : Packet, ∃ s : State, ∃ s1 : State, ∃ n : Nat, Admitted rowCaptureStop p s s1 p1 ∧ s1.handleStatus TY.CAPTURE p.handle = Stat.OK ∧ n = hIndex p.handle ∧ p.params = [] ∧ (s1.capState n = CAP.ARMED ∨ s1.capState n = CAP.TRIGGERED) ∧ (s1.cap n).trig.any (fun g => s1.inClk g.actedAt) = true) ∧
    (∃ p : Packet, ∃ p1 : Packet, ∃ s : State, ∃ s1 : State, ∃ n : Nat, Admitted rowCaptureStop p s s1 p1 ∧ s1.handleStatus TY.CAPTURE p.handle = Stat.OK ∧ n = hIndex p.handle ∧ p.params = [] ∧ s1.capState n ≠ CAP.ARMED ∧ s1.capState n ≠ CAP.TRIGGERED) ∧
    (∃ p : Packet, ∃ p1 : Packet, ∃ s : State, ∃ s1 : State, ∃ n : Nat, Admitted rowCaptureRelease p s s1 p1 ∧ s1.handleStatus TY.CAPTURE p.handle = Stat.OK ∧ n = hIndex p.handle ∧ p.params = [] ∧ (s1.capState n = CAP.ARMED ∨ s1.capState n = CAP.TRIGGERED ∨ (s1.cap n).reading.isSome = true)) ∧
    (∃ p : Packet, ∃ p1 : Packet, ∃ s : State, ∃ s1 : State, ∃ n : Nat, Admitted rowCaptureRelease p s s1 p1 ∧ s1.handleStatus TY.CAPTURE p.handle = Stat.OK ∧ n = hIndex p.handle ∧ p.params = [] ∧ s1.capState n ≠ CAP.ARMED ∧ s1.capState n ≠ CAP.TRIGGERED ∧ (s1.cap n).reading = none) ∧
    (∃ p : Packet, ∃ p1 : Packet, ∃ s : State, ∃ s1 : State, ∃ n : Nat, ∃ first, ∃ count, Admitted rowCaptureRead p s s1 p1 ∧ s1.handleStatus TY.CAPTURE p.handle = Stat.OK ∧ n = hIndex p.handle ∧ p.params = leBytes 2 first ++ leBytes 1 count ∧ first < 65536 ∧ count < 256 ∧ s1.capState n < CAP.DONE) ∧
    (∃ p : Packet, ∃ p1 : Packet, ∃ s : State, ∃ s1 : State, ∃ n : Nat, ∃ first, ∃ count, Admitted rowCaptureRead p s s1 p1 ∧ s1.handleStatus TY.CAPTURE p.handle = Stat.OK ∧ n = hIndex p.handle ∧ p.params = leBytes 2 first ++ leBytes 1 count ∧ first < 65536 ∧ count < 256 ∧ CAP.DONE ≤ s1.capState n ∧ (count < 1 ∨ 16 < count ∨ (s1.cap n).ring.length < first + count)) ∧
    (∃ p : Packet, ∃ p1 : Packet, ∃ s : State, ∃ s1 : State, ∃ n : Nat, ∃ first, ∃ count, Admitted rowCaptureRead p s s1 p1 ∧ s1.handleStatus TY.CAPTURE p.handle = Stat.OK ∧ n = hIndex p.handle ∧ p.params = leBytes 2 first ++ leBytes 1 count ∧ first < 65536 ∧ count < 256 ∧ CAP.DONE ≤ s1.capState n ∧ 1 ≤ count ∧ count ≤ 16 ∧ first + count ≤ (s1.cap n).ring.length ∧ (s1.cap n).reading.isSome = true) ∧
    (∃ p : Packet, ∃ p1 : Packet, ∃ s : State, ∃ s1 : State, ∃ n : Nat, ∃ first, ∃ count, Admitted rowCaptureRead p s s1 p1 ∧ s1.handleStatus TY.CAPTURE p.handle = Stat.OK ∧ n = hIndex p.handle ∧ p.params = leBytes 2 first ++ leBytes 1 count ∧ first < 65536 ∧ count < 256 ∧ CAP.DONE ≤ s1.capState n ∧ 1 ≤ count ∧ count ≤ 16 ∧ first + count ≤ (s1.cap n).ring.length ∧ (s1.cap n).reading = none) ∧
    (∃ p : Packet, ∃ p1 : Packet, ∃ s : State, ∃ s1 : State, ∃ clock : Nat, ∃ div : Nat, ∃ i : Nat, ∃ chans : List Nat, ∃ rest : List Nat, Admitted rowTrendCreate p s s1 p1 ∧ s1.recParams p.params 1 = some (clock, div, chans) ∧ 1 ≤ numAt p.params (p.params.length - 1) 1 ∧ numAt p.params (p.params.length - 1) 1 ≤ 8 ∧ numAt p.params (p.params.length - 1) 1 ≤ s1.freePages.length ∧ (s1.pool TY.TREND).free = i :: rest ∧ i < 8) ∧
    (∃ p : Packet, ∃ p1 : Packet, ∃ s : State, ∃ s1 : State, ∃ n : Nat, ∃ k, Admitted rowTrendStart p s s1 p1 ∧ s1.handleStatus TY.TREND p.handle = Stat.OK ∧ n = hIndex p.handle ∧ p.params = leBytes 8 k ∧ k < 2 ^ 64 ∧ (s1.trend n).startTick.isSome = true) ∧
    (∃ p : Packet, ∃ p1 : Packet, ∃ s : State, ∃ s1 : State, ∃ n : Nat, ∃ k, Admitted rowTrendStart p s s1 p1 ∧ s1.handleStatus TY.TREND p.handle = Stat.OK ∧ n = hIndex p.handle ∧ p.params = leBytes 8 k ∧ k < 2 ^ 64 ∧ (s1.trend n).startTick = none ∧ k ≠ 0 ∧ k < s1.tickNo) ∧
    (∃ p : Packet, ∃ p1 : Packet, ∃ s : State, ∃ s1 : State, ∃ n : Nat, ∃ k, Admitted rowTrendStart p s s1 p1 ∧ s1.handleStatus TY.TREND p.handle = Stat.OK ∧ n = hIndex p.handle ∧ p.params = leBytes 8 k ∧ k < 2 ^ 64 ∧ (s1.trend n).startTick = none ∧ (k = 0 ∨ s1.tickNo ≤ k)) ∧
    (∃ p : Packet, ∃ p1 : Packet, ∃ s : State, ∃ s1 : State, ∃ n : Nat, Admitted rowTrendStop p s s1 p1 ∧ s1.handleStatus TY.TREND p.handle = Stat.OK ∧ n = hIndex p.handle ∧ p.params = []) ∧
    (∃ p : Packet, ∃ p1 : Packet, ∃ s : State, ∃ s1 : State, Admitted rowSysTrigger p s s1 p1 ∧ p.params = []) :=
  ⟨⟨(cre 0 255 chs1), _, (bsx 1 [(F.MEAS_Q_CFG_LIVE 3, 1)]), _, 0, 256, 0, chs1, ((List.range 15).map (· + 1)), admitted_self (by decide +kernel), by decide +kernel⟩,
   ⟨(armx (600 * spp1) 0 0), _, (csx { chans := [0x40000000] } 0), _, 0, 9811200, 0, 0, admitted_self (by decide +kernel), by decide +kernel⟩,
   ⟨(armx 0 0 0), _, (csx { chans := [0x40000000] } 0), _, 0, 0, 0, 0, admitted_self (by decide +kernel), by decide +kernel⟩,
   ⟨(armx 0 (600 * spp1) 0), _, (csx { chans := [0x40000000] } 0), _, 0, 0, 9811200, 0, admitted_self (by decide +kernel), by decide +kernel⟩,
   ⟨(pk [] (hw 4)), _, (csx { c0 with post := 3 } 1), _, 0, admitted_self (by decide +kernel), by decide +kernel⟩,
   ⟨(pk [] (hw 4)), _, (csx { c0 with trig := some tg } 2), _, 0, admitted_self (by decide +kernel), by decide +kernel, by decide +kernel, by decide +kernel, tg, by decide +kernel⟩,
   ⟨(pk [] (hw 4)), _, (csx { chans := [0x40000000] } 0), _, 0, admitted_self (by decide +kernel), by decide +kernel⟩,
   ⟨(pk [] (hw 4)), _, (csx { c0 with post := 3 } 1), _, 0, admitted_self (by decide +kernel), by decide +kernel⟩,
   ⟨(pk [] (hw 4)), _, (csx { c0 with trig := some tg } 2), _, 0, admitted_self (by decide +kernel), by decide +kernel⟩,
   ⟨(pk [] (hw 4)), _, (csx { chans := [0x40000000] } 0), _, 0, admitted_self (by decide +kernel), by decide +kernel⟩,
   ⟨(pk [] (hw 4)), _, (csx { c0 with post := 3 } 1), _, 0, admitted_self (by decide +kernel), by decide +kernel⟩,
   ⟨(pk [] (hw 4)), _, (csx { chans := [0x40000000] } 0), _, 0, admitted_self (by decide +kernel), by decide +kernel⟩,
   ⟨(pk (leBytes 2 0 ++ leBytes 1 0) (hw 4)), _, (csx { c0 with trig := some tg } 2), _, 0, 0, 0, admitted_self (by decide +kernel), by decide +kernel⟩,
   ⟨(pk (leBytes 2 0 ++ leBytes 1 0) (hw 4)), _, (csx { c0 with trig := some {} } 3), _, 0, 0, 0, admitted_self (by decide +kernel), by decide +kernel⟩,
   ⟨(pk (leBytes 2 0 ++ leBytes 1 2) (hw 4)), _, (csx { c0 with reading := some {} } 4 2), _, 0, 0, 2, admitted_self (by decide +kernel), by decide +kernel⟩,
   ⟨(pk (leBytes 2 0 ++ leBytes 1 2) (hw 4)), _, (csx { c0 with trig := some {} } 3), _, 0, 0, 2, admitted_self (by decide +kernel), by decide +kernel⟩,
   ⟨(cre 0 255 chs1 [8]), _, (bsx 1 []), _, 0, 256, 0, chs1, ((List.range 7).map (· + 1)), admitted_self (by decide +kernel), by decide +kernel⟩,
   ⟨(pk (leBytes 8 0) (hw 5)), _, (tsx { startTick := some 4, fill := [[1,2,3,4]], pages := [1], chans := [0] }), _, 0, 0, admitted_self (by decide +kernel), by decide +kernel⟩,
   ⟨(pk (leBytes 8 1) (hw 5)), _, { tsx {} with clk.tickNum := 16 }, _, 0, 1, admitted_self (by decide +kernel), by decide +kernel⟩,
   ⟨(pk (leBytes 8 0) (hw 5)), _, (tsx {}), _, 0, 0, admitted_self (by decide +kernel), by decide +kernel⟩,
   ⟨(pk [] (hw 5)), _, (tsx {}), _, 0, admitted_self (by decide +kernel), by decide +kernel⟩,
   ⟨(pk [] (hw 4)), _, (bsx 1 [(F.MEAS_Q_CFG_LIVE 3, 1)]), _, admitted_self (by decide +kernel), by decide +kernel⟩⟩

end RecorderCommands

namespace ThreadEvents

def pc : Packet := { source := 2, target := 0, seq := 3, handle := hw 6 }
def tcfg (n st prio aff mask mode : Nat) : List (Fld × Nat) := [(F.DISP_T_CFG_LIVE n, 1), (F.DISP_T_CFG_STATE n, st), (F.DISP_T_CFG_PRIO n, prio), (F.DISP_T_CFG_EPRIO n, prio), (F.DISP_T_CFG_AFFINITY n, aff), (F.DISP_T_CFG_MASK n, mask), (F.DISP_T_CFG_MODE n, mode)]
def bsx (role : Nat) (l : List (Fld × Nat)) (tys : List Nat) : State := (objs tys (node role 7 l))
def thx (n : Nat) (t : Thread) (s : State) : State := s.setThread n { t with stackKb := 4 }
def op1 : Operand := { value := 5 }
def onc (n c : Nat) (t : Thread) (l : List (Fld × Nat)) (tys : List Nat) (role := 1) : State := ({ thx n t (bsx role (tcfg n 3 5 15 1 0 ++ l) tys) with disp.cores := [(c, n + 1)] } : State)
def lkx (l : Nat) (c held holder : Nat) : List (Fld × Nat) := [(F.DISP_L_LIVE l, 1), (F.DISP_L_CEILING l, c), (F.DISP_L_HELD l, held), (F.DISP_L_HOLDER l, holder)]
def flx (f d : Nat) : List (Fld × Nat) := [(F.DISP_F_CFG_LIVE f, 1), (F.DISP_F_CFG_DEPTH_M1 f, d)]
def wtx : State := { onc 0 0 { locks := [0] } (lkx 0 4 1 0 ++ tcfg 9 4 3 15 1 0) [6, 10] with disp.waiters := [(0, [9])] }
def dbg : State := { (node 1 5 [(F.DISP_DBG_EN, 1)]) with safe.chbLost := true }
def full : State := { onc 0 0 { held := [(0, [op1]), (1, [op1])] } [] [6] with disp.ready := [] }

theorem wit_ThreadEvents :
    (∃ s : State, s.running = true ∧ s.readyOrder.find? (fun m => (s.chooseCore m).isSome) = none) ∧
    (∃ s : State, s.running = true ∧ ∃ c : Fin 4, s.coreThread c = none) ∧
    (∃ s : State, s.running = true ∧ ∃ a : Word, ∃ k : Nat, classOf a.toNat = some k ∧ (k = 2 → (s.readRecorder a.toNat 1).2.2 = 0) ∧ (k ≠ 2 → ∀ line ∈ linesOf k a.toNat 1, s.lineGood (s.lineKey k 0 line) line = true)) ∧
    (∃ s : State, s.running = true ∧ ∃ c : Fin 4, ∃ n : Fin 128, ∃ cause : Word, ∃ pc : Word, ∃ access : Option Word, s.coreThread c = some n.val ∧ (∀ a, access = some a → classOf a.toNat = none ∨ classOf a.toNat = some 2 ∧ 0 < (s.readRecorder a.toNat 1).2.2) ∧ n.val ∉ s.disp.ready ∧ (∀ m ∈ s.disp.ready, m < 128) ∧ (∀ d m, d ≠ c.val → s.coreThread d = some m → m ≠ n.val ∧ m < 128) ∧ (s.thread n).stopCmds = [] ∧ (∀ l ∈ (s.thread n).locks, l < 64 ∧ s.lockWaiters l = [])) ∧
    (∃ s : State, s.running = true ∧ ∃ c : Fin 4, (∀ n, s.coreThread c = some n → s.f (F.DISP_T_STAT_RUN_LIMIT n) = 0 ∨ (s.thread n).ran < s.f (F.DISP_T_STAT_RUN_LIMIT n) ∨ (s.thread n).limitSaid = true)) ∧
    (∃ s : State, s.running = true ∧ ∃ c : Fin 4, ∃ n : Nat, s.coreThread c = some n ∧ s.f (F.DISP_T_STAT_RUN_LIMIT n) ≠ 0 ∧ s.f (F.DISP_T_STAT_RUN_LIMIT n) ≤ (s.thread n).ran ∧ (s.thread n).limitSaid = false) ∧
    (∃ s : State, s.running = true ∧ s.on F.DISP_DBG_EN = false) ∧
    (∃ s : State, s.running = true ∧ s.on F.DISP_DBG_EN = false) ∧
    (∃ s : State, s.running = true ∧ s.on F.DISP_DBG_EN = true) ∧
    (∃ s : State, s.running = true ∧ s.on F.DISP_DBG_EN = true ∧ yarState s.st = false ∧ s.safe.chbLost = true) ∧
    (∃ s : State, s.running = true ∧ s.on F.DISP_DBG_EN = true ∧ yarState s.st = true) ∧
    (∃ s : State, s.running = true ∧ s.on F.DISP_DBG_EN = true ∧ s.on F.DISP_DBG_SAFE_HALTED = false) ∧
    (∃ s : State, s.running = true ∧ s.on F.DISP_DBG_EN = true ∧ s.on F.DISP_DBG_SAFE_HALTED = true) ∧
    (∃ s : State, s.running = true ∧ ∃ c : Fin 4, (s.coreThread c = none ∨ s.halted c = true)) ∧
    (∃ s : State, s.running = true ∧ ∃ c : Fin 4, ∃ n : Fin 128, s.coreThread c = some n.val ∧ s.halted c = false ∧ ∃ cs : List Packet, (s.thread n).locks = [] ∧ (s.thread n).stopCmds = cs ∧ cs ≠ []) ∧
    (∃ s : State, s.running = true ∧ ∃ c : Fin 4, ∃ n : Fin 128, s.coreThread c = some n.val ∧ s.halted c = false ∧ (s.thread n).locks = [] ∧ (s.thread n).stopCmds = []) ∧
    (∃ s : State, s.running = true ∧ ∃ c : Fin 4, ∃ n : Fin 128, s.coreThread c = some n.val ∧ s.halted c = false ∧ (s.thread n).locks ≠ []) ∧
    (∃ s : State, s.running = true ∧ ∃ c : Fin 4, ∃ n : Fin 128, s.coreThread c = some n.val ∧ s.halted c = false ∧ ∃ h : Word, s.handleLive TY.FLOW h = true ∧ (s.flow (hIndex h)).length ≤ s.f (F.DISP_F_CFG_DEPTH_M1 (hIndex h))) ∧
    (∃ s : State, s.running = true ∧ ∃ c : Fin 4, ∃ n : Fin 128, s.coreThread c = some n.val ∧ s.halted c = false ∧ ∃ h : Word, s.handleLive TY.FLOW h = true ∧ s.f (F.DISP_F_CFG_DEPTH_M1 (hIndex h)) < (s.flow (hIndex h)).length) ∧
    (∃ s : State, s.running = true ∧ ∃ c : Fin 4, ∃ n : Fin 128, s.coreThread c = some n.val ∧ s.halted c = false ∧ ∃ p : Fin 4, ∃ h : Word, s.handleLive TY.THREAD h = true ∧ s.portKind (hIndex h) p = 0 ∧ (s.portHeld (hIndex h) p).length ≤ s.portArg (hIndex h) p % 16) ∧
    (∃ s : State, s.running = true ∧ ∃ c : Fin 4, ∃ n : Fin 128, s.coreThread c = some n.val ∧ s.halted c = false ∧ ∃ p : Fin 4, ∃ h : Word, s.handleLive TY.THREAD h = true ∧ s.portKind (hIndex h) p = 0 ∧ s.portArg (hIndex h) p % 16 < (s.portHeld (hIndex h) p).length) ∧
    (∃ s : State, s.running = true ∧ ∃ c : Fin 4, ∃ n : Fin 128, s.coreThread c = some n.val ∧ s.halted c = false ∧ ∃ p : Fin 4, ∃ h : Word, s.handleLive TY.THREAD h = true ∧ s.portKind (hIndex h) p = 1) ∧
    (∃ s : State, s.running = true ∧ ∃ c : Fin 4, ∃ n : Fin 128, s.coreThread c = some n.val ∧ s.halted c = false ∧ ∃ h : Word, s.handleLive TY.FLOW h = false ∧ s.handleLive TY.THREAD h = false) ∧
    (∃ s : State, s.running = true ∧ ∃ c : Fin 4, ∃ n : Fin 128, s.coreThread c = some n.val ∧ s.halted c = false ∧ ∃ h : Word, s.handleLive TY.LOCK h = true ∧ s.f (F.DISP_L_CEILING (hIndex h)) ≤ s.f (F.DISP_T_CFG_PRIO n) ∧ (s.thread n).locks.length < 4 ∧ (s.thread n).locks.contains (hIndex h) = false ∧ s.on (F.DISP_L_HELD (hIndex h)) = false) ∧
    (∃ s : State, s.running = true ∧ ∃ c : Fin 4, ∃ n : Fin 128, s.coreThread c = some n.val ∧ s.halted c = false ∧ ∃ h : Word, s.handleLive TY.LOCK h = true ∧ s.f (F.DISP_L_CEILING (hIndex h)) ≤ s.f (F.DISP_T_CFG_PRIO n) ∧ (s.thread n).locks.length < 4 ∧ (s.thread n).locks.contains (hIndex h) = false ∧ s.on (F.DISP_L_HELD (hIndex h)) = true) ∧
    (∃ s : State, s.running = true ∧ ∃ c : Fin 4, ∃ n : Fin 128, s.coreThread c = some n.val ∧ s.halted c = false ∧ ∃ h : Word, s.handleLive TY.LOCK h = false) ∧
    (∃ s : State, s.running = true ∧ ∃ c : Fin 4, ∃ n : Fin 128, s.coreThread c = some n.val ∧ s.halted c = false ∧ ∃ h : Word, s.handleLive TY.LOCK h = true ∧ (s.f (F.DISP_T_CFG_PRIO n) < s.f (F.DISP_L_CEILING (hIndex h)) ∨ 4 ≤ (s.thread n).locks.length ∨ (s.thread n).locks.contains (hIndex h) = true)) ∧
    (∃ s : State, s.running = true ∧ ∃ c : Fin 4, ∃ n : Fin 128, s.coreThread c = some n.val ∧ s.halted c = false ∧ ∃ h : Word, (s.handleLive TY.LOCK h = false ∨ (s.thread n).locks.head? ≠ some (hIndex h))) ∧
    (∃ s : State, s.running = true ∧ ∃ c : Fin 4, ∃ n : Fin 128, s.coreThread c = some n.val ∧ s.halted c = false ∧ ∃ h : Word, s.handleLive TY.LOCK h = true ∧ (s.thread n).locks.head? = some (hIndex h) ∧ s.lockWaiters (hIndex h) = []) ∧
    (∃ s : State, s.running = true ∧ ∃ c : Fin 4, ∃ n : Fin 128, s.coreThread c = some n.val ∧ s.halted c = false ∧ ∃ h : Word, s.handleLive TY.LOCK h = true ∧ (s.thread n).locks.head? = some (hIndex h) ∧ ∃ w : Fin 128, s.lockWaiters (hIndex h) = [w.val] ∧ w ≠ n) :=
  ⟨⟨dbg, by decide +kernel⟩,
   ⟨dbg, by decide +kernel, 3, by decide +kernel⟩,
   ⟨(onc 0 0 {} [] [6]), by decide +kernel, 0x10280000, 0, by decide +kernel⟩,
   ⟨{ node 1 7 (tcfg 127 3 5 15 1 0) with disp.cores := [(3, 128)], disp.ready := [0] }, by decide +kernel, 3, 127, 0, 0x10000000, none, by decide +kernel, (fun _ h => nomatch h), by decide +kernel, by decide +kernel, by
      intro d m hd h
      have h2 : Map.get 0 [(3, 128)] d = 0 := by simpa [Map.get, Ne, eq_comm] using hd
      simp only [State.coreThread] at h
      split at h
      · cases h
      · rename_i k hk
        exact absurd (h2.symm.trans hk) (by omega), by decide +kernel⟩,
   ⟨dbg, by decide +kernel, 3, by decide +kernel⟩,
   ⟨(onc 127 3 { locks := [0], ran := 3 } (lkx 0 4 1 127 ++ [(F.DISP_T_STAT_RUN_LIMIT 127, 3)]) [6, 10]), by decide +kernel, 3, 127, by decide +kernel⟩,
   ⟨full, by decide +kernel⟩,
   ⟨full, by decide +kernel⟩,
   ⟨dbg, by decide +kernel⟩,
   ⟨dbg, by decide +kernel⟩,
   ⟨((onc 0 0 {} [(F.DISP_DBG_EN, 1)] [6]).setF F.SYS_STATE_STATE 8), by decide +kernel⟩,
   ⟨dbg, by decide +kernel⟩,
   ⟨{ onc 0 0 {} [(F.DISP_DBG_EN, 1), (F.DISP_DBG_SAFE_HALTED, 1)] [6] with disp.pairReset := true }, by decide +kernel⟩,
   ⟨dbg, by decide +kernel, 3, by decide +kernel⟩,
   ⟨(onc 0 0 { stopCmds := [pc] } [] [6]), by decide +kernel, 0, 0, by decide +kernel, by decide +kernel, [pc], by decide +kernel⟩,
   ⟨full, by decide +kernel, 0, 0, by decide +kernel⟩,
   ⟨(onc 127 3 { locks := [0], ran := 3 } (lkx 0 4 1 127 ++ [(F.DISP_T_STAT_RUN_LIMIT 127, 3)]) [6, 10]), by decide +kernel, 3, 127, by decide +kernel⟩,
   ⟨(onc 0 0 { locks := [1, 0] } (lkx 0 4 1 0 ++ lkx 1 3 1 0 ++ flx 0 3) [6, 10, 10, 7]), by decide +kernel, 0, 0, by decide +kernel, by decide +kernel, 0x1c000001, by decide +kernel⟩,
   ⟨((onc 0 0 {} (flx 0 1) [6, 7]).setFlow 0 [op1, op1]), by decide +kernel, 0, 0, by decide +kernel, by decide +kernel, 0x1c000001, by decide +kernel⟩,
   ⟨full, by decide +kernel, 0, 0, by decide +kernel, by decide +kernel, 3, 0x18000001, by decide +kernel⟩,
   ⟨full, by decide +kernel, 0, 0, by decide +kernel, by decide +kernel, 1, 0x18000001, by decide +kernel⟩,
   ⟨((onc 0 0 {} [] [6]).setReg (A.DISP_T_PORTS 0) 0x00000041), by decide +kernel, 0, 0, by decide +kernel, by decide +kernel, 0, 0x18000001, by decide +kernel⟩,
   ⟨full, by decide +kernel, 0, 0, by decide +kernel, by decide +kernel, 0, by decide +kernel⟩,
   ⟨{ (onc 0 0 {} (lkx 0 4 1 7 ++ lkx 1 5 0 0 ++ flx 0 1) [6, 10, 10, 7] 0) with disp.ready := [9], disp.waiters := [(0, [9])] }, by decide +kernel, 0, 0, by decide +kernel, by decide +kernel, 0x28001001, by decide +kernel⟩,
   ⟨{ (onc 0 0 {} (lkx 0 4 1 7 ++ lkx 1 5 0 0 ++ flx 0 1) [6, 10, 10, 7] 0) with disp.ready := [9], disp.waiters := [(0, [9])] }, by decide +kernel, 0, 0, by decide +kernel, by decide +kernel, 0x28000001, by decide +kernel⟩,
   ⟨full, by decide +kernel, 0, 0, by decide +kernel, by decide +kernel, 0, by decide +kernel⟩,
   ⟨wtx, by decide +kernel, 0, 0, by decide +kernel, by decide +kernel, 0x28000001, by decide +kernel⟩,
   ⟨full, by decide +kernel, 0, 0, by decide +kernel, by decide +kernel, 0, by decide +kernel⟩,
   ⟨(onc 0 0 { locks := [1, 0] } (lkx 0 4 1 0 ++ lkx 1 3 1 0 ++ flx 0 3) [6, 10, 10, 7]), by decide +kernel, 0, 0, by decide +kernel, by decide +kernel, 0x28001001, by decide +kernel⟩,
   ⟨wtx, by decide +kernel, 0, 0, by decide +kernel, by decide +kernel, 0x28000001, by decide +kernel, by decide +kernel, 9, by decide +kernel⟩⟩

end ThreadEvents

namespace ThreadCommands

def tcfg (n st prio aff mask mode : Nat) : List (Fld × Nat) := [(F.DISP_T_CFG_LIVE n, 1), (F.DISP_T_CFG_STATE n, st), (F.DISP_T_CFG_PRIO n, prio), (F.DISP_T_CFG_EPRIO n, prio), (F.DISP_T_CFG_AFFINITY n, aff), (F.DISP_T_CFG_MASK n, mask), (F.DISP_T_CFG_MODE n, mode)]
def bsx (role : Nat) (l : List (Fld × Nat)) (tys : List Nat) : State := (objs tys (node role 7 l))
def thx (n : Nat) (t : Thread) (s : State) : State := s.setThread n { t with stackKb := 4 }
def op1 : Operand := { value := 5 }
def flx (f d : Nat) : List (Fld × Nat) := [(F.DISP_F_CFG_LIVE f, 1), (F.DISP_F_CFG_DEPTH_M1 f, d)]
def tstx (st : Nat) (t : Thread := {}) (role := 1) : State := ({ thx 0 t (bsx role (tcfg 0 st 5 15 1 0 ++ flx 0 1) [6, 7]) with disp.ready := if st = 2 then [3, 0, 1] else [1] } : State)
def tcr (kb ports : Nat) (h : Word := 0) : Packet := pk (leBytes 4 0x10000000 ++ [BitVec.ofNat 8 kb, 7, 15, 3] ++ leBytes 4 ports ++ [9]) h

theorem wit_ThreadCommands :
    (∃ p : Packet, ∃ p1 : Packet, ∃ s : State, ∃ s1 : State, ∃ i : Nat, ∃ rest : List Nat, Admitted rowThreadCreate p s s1 p1 ∧ p.handle = 0 ∧ s1.threadParamsOk p.params = true ∧ s1.threadFits p.params = true ∧ (s1.pool TY.THREAD).free = i :: rest ∧ i < 128) ∧
    (∃ p : Packet, ∃ p1 : Packet, ∃ s : State, ∃ s1 : State, ∃ n : Nat, Admitted rowThreadCreate p s s1 p1 ∧ p.handle ≠ 0 ∧ s1.handleStatus TY.THREAD p.handle = Stat.OK ∧ n = hIndex p.handle ∧ s1.made n = false ∧ s1.threadParamsOk p.params = true ∧ s1.threadFits p.params = true) ∧
    (∃ p : Packet, ∃ p1 : Packet, ∃ s : State, ∃ s1 : State, ∃ n : Nat, Admitted rowThreadStart p s s1 p1 ∧ s1.handleStatus TY.THREAD p.handle = Stat.OK ∧ n = hIndex p.handle ∧ p.params = [] ∧ (s1.tst n ≠ TS.DORMANT ∧ s1.tst n ≠ TS.FAULTED ∨ s1.made n = false)) ∧
    (∃ p : Packet, ∃ p1 : Packet, ∃ s : State, ∃ s1 : State, ∃ n : Nat, Admitted rowThreadStart p s s1 p1 ∧ s1.handleStatus TY.THREAD p.handle = Stat.OK ∧ n = hIndex p.handle ∧ p.params = [] ∧ (s1.tst n = TS.DORMANT ∨ s1.tst n = TS.FAULTED) ∧ s1.made n = true) ∧
    (∃ p : Packet, ∃ p1 : Packet, ∃ s : State, ∃ s1 : State, ∃ n : Nat, Admitted rowThreadStop p s s1 p1 ∧ s1.handleStatus TY.THREAD p.handle = Stat.OK ∧ n = hIndex p.handle ∧ p.params = [] ∧ (s1.tst n = TS.RUNNING ∨ s1.tst n = TS.LOCKWAIT)) ∧
    (∃ p : Packet, ∃ p1 : Packet, ∃ s : State, ∃ s1 : State, ∃ n : Nat, Admitted rowThreadStop p s s1 p1 ∧ s1.handleStatus TY.THREAD p.handle = Stat.OK ∧ n = hIndex p.handle ∧ p.params = [] ∧ s1.tst n ≠ TS.RUNNING ∧ s1.tst n ≠ TS.LOCKWAIT ∧ s1.tst n ≠ TS.FAULTED) ∧
    (∃ p : Packet, ∃ p1 : Packet, ∃ s : State, ∃ s1 : State, ∃ n : Nat, Admitted rowThreadStop p s s1 p1 ∧ s1.handleStatus TY.THREAD p.handle = Stat.OK ∧ n = hIndex p.handle ∧ p.params = [] ∧ s1.tst n = TS.FAULTED) ∧
    (∃ p : Packet, ∃ p1 : Packet, ∃ s : State, ∃ s1 : State, ∃ n : Nat, Admitted rowThreadCancel p s s1 p1 ∧ s1.handleStatus TY.THREAD p.handle = Stat.OK ∧ n = hIndex p.handle ∧ p.params = [] ∧ (s1.tst n = TS.RUNNING ∨ s1.tst n = TS.LOCKWAIT)) ∧
    (∃ p : Packet, ∃ p1 : Packet, ∃ s : State, ∃ s1 : State, ∃ n : Nat, Admitted rowThreadCancel p s s1 p1 ∧ s1.handleStatus TY.THREAD p.handle = Stat.OK ∧ n = hIndex p.handle ∧ p.params = [] ∧ s1.tst n ≠ TS.RUNNING ∧ s1.tst n ≠ TS.LOCKWAIT ∧ s1.tst n ≠ TS.READY) ∧
    (∃ p : Packet, ∃ p1 : Packet, ∃ s : State, ∃ s1 : State, ∃ n : Nat, Admitted rowThreadCancel p s s1 p1 ∧ s1.handleStatus TY.THREAD p.handle = Stat.OK ∧ n = hIndex p.handle ∧ p.params = [] ∧ s1.tst n = TS.READY) ∧
    (∃ p : Packet, ∃ p1 : Packet, ∃ s : State, ∃ s1 : State, ∃ n : Nat, ∃ port, ∃ v, Admitted rowOperandPost p s s1 p1 ∧ s1.handleStatus TY.THREAD p.handle = Stat.OK ∧ n = hIndex p.handle ∧ p.params = leBytes 1 port ++ leBytes 4 v ∧ port ≤ 3 ∧ v < 2 ^ 32 ∧ s1.portKind n port = 0 ∧ (s1.portHeld n port).length ≤ s1.portArg n port % 16) ∧
    (∃ p : Packet, ∃ p1 : Packet, ∃ s : State, ∃ s1 : State, ∃ n : Nat, ∃ port, ∃ v, Admitted rowOperandPost p s s1 p1 ∧ s1.handleStatus TY.THREAD p.handle = Stat.OK ∧ n = hIndex p.handle ∧ p.params = leBytes 1 port ++ leBytes 4 v ∧ port ≤ 3 ∧ v < 2 ^ 32 ∧ s1.portKind n port = 0 ∧ s1.portArg n port % 16 < (s1.portHeld n port).length) ∧
    (∃ p : Packet, ∃ p1 : Packet, ∃ s : State, ∃ s1 : State, ∃ n : Nat, ∃ port, ∃ v, Admitted rowOperandPost p s s1 p1 ∧ s1.handleStatus TY.THREAD p.handle = Stat.OK ∧ n = hIndex p.handle ∧ p.params = leBytes 1 port ++ leBytes 4 v ∧ port ≤ 3 ∧ v < 2 ^ 32 ∧ s1.portKind n port = 1) ∧
    (∃ p : Packet, ∃ p1 : Packet, ∃ s : State, ∃ s1 : State, ∃ n : Nat, ∃ port, ∃ v, Admitted rowOperandPost p s s1 p1 ∧ s1.handleStatus TY.THREAD p.handle = Stat.OK ∧ n = hIndex p.handle ∧ p.params = leBytes 1 port ++ leBytes 4 v ∧ port ≤ 3 ∧ v < 2 ^ 32 ∧ s1.portKind n port = 2 ∧ s1.f (F.DISP_F_CFG_DEPTH_M1 (s1.portArg n port)) < (s1.flow (s1.portArg n port)).length) ∧
    (∃ p : Packet, ∃ p1 : Packet, ∃ s : State, ∃ s1 : State, ∃ n : Nat, ∃ port, ∃ v, Admitted rowOperandPost p s s1 p1 ∧ s1.handleStatus TY.THREAD p.handle = Stat.OK ∧ n = hIndex p.handle ∧ p.params = leBytes 1 port ++ leBytes 4 v ∧ port ≤ 3 ∧ v < 2 ^ 32 ∧ s1.portKind n port = 2 ∧ (s1.flow (s1.portArg n port)).length ≤ s1.f (F.DISP_F_CFG_DEPTH_M1 (s1.portArg n port))) ∧
    (∃ p : Packet, ∃ p1 : Packet, ∃ s : State, ∃ s1 : State, ∃ port, ∃ v, Admitted rowOperandPost p s s1 p1 ∧ s1.handleStatus TY.FLOW p.handle = Stat.OK ∧ p.params = leBytes 1 port ++ leBytes 4 v ∧ port ≤ 3 ∧ v < 2 ^ 32 ∧ (s1.flow (hIndex p.handle)).length ≤ s1.f (F.DISP_F_CFG_DEPTH_M1 (hIndex p.handle))) ∧
    (∃ p : Packet, ∃ p1 : Packet, ∃ s : State, ∃ s1 : State, ∃ d : Nat, ∃ i : Nat, ∃ rest : List Nat, Admitted rowFlowCreate p s s1 p1 ∧ p.params = leBytes 2 d ∧ 1 ≤ d ∧ d ≤ 256 ∧ s1.flowRsvd + d ≤ 2048 ∧ (s1.pool TY.FLOW).free = i :: rest) ∧
    (∃ p : Packet, ∃ p1 : Packet, ∃ s : State, ∃ s1 : State, ∃ c : Nat, ∃ i : Nat, ∃ rest : List Nat, Admitted rowLockCreate p s s1 p1 ∧ p.params = leBytes 1 c ∧ c ≤ 31 ∧ (s1.pool TY.LOCK).free = i :: rest) :=
  ⟨⟨(tcr 4 0x00810080), _, (bsx 0 (flx 0 3 ++ flx 1 4) [7, 7]), _, 0, ((List.range 127).map (· + 1)), admitted_self (by decide +kernel), by decide +kernel⟩,
   ⟨(tcr 4 0 (hw 6)), _, (bsx 2 (tcfg 0 0 0 0 0 0) [6]), _, 0, admitted_self (by decide +kernel), by decide +kernel⟩,
   ⟨(pk [] (hw 6)), _, (bsx 2 (tcfg 0 0 0 0 0 0) [6]), _, 0, admitted_self (by decide +kernel), by decide +kernel⟩,
   ⟨(pk [] (hw 6)), _, (tstx 0), _, 0, admitted_self (by decide +kernel), by decide +kernel⟩,
   ⟨(pk [] (hw 6)), _, (tstx 3), _, 0, admitted_self (by decide +kernel), by decide +kernel⟩,
   ⟨(pk [] (hw 6)), _, (bsx 2 (tcfg 0 0 0 0 0 0) [6]), _, 0, admitted_self (by decide +kernel), by decide +kernel⟩,
   ⟨(pk [] (hw 6)), _, (tstx 5), _, 0, admitted_self (by decide +kernel), by decide +kernel⟩,
   ⟨(pk [] (hw 6)), _, (tstx 3), _, 0, admitted_self (by decide +kernel), by decide +kernel⟩,
   ⟨(pk [] (hw 6)), _, (bsx 2 (tcfg 0 0 0 0 0 0) [6]), _, 0, admitted_self (by decide +kernel), by decide +kernel⟩,
   ⟨(pk [] (hw 6)), _, (tstx 2 { held := [(0, [op1, op1]), (1, [op1])] } 0), _, 0, admitted_self (by decide +kernel), by decide +kernel⟩,
   ⟨(pk (leBytes 1 0 ++ leBytes 4 77) (hw 6)), _, (bsx 2 (tcfg 0 0 0 0 0 0) [6]), _, 0, 0, 77, admitted_self (by decide +kernel), by decide +kernel⟩,
   ⟨(pk (leBytes 1 0 ++ leBytes 4 77) (hw 6)), _, (tstx 1 { held := [(0, [op1])] }), _, 0, 0, 77, admitted_self (by decide +kernel), by decide +kernel⟩,
   ⟨(pk (leBytes 1 0 ++ leBytes 4 77) (hw 6)), _, ((tstx 0).setReg (A.DISP_T_PORTS 0) 0x00008042), _, 0, 0, 77, admitted_self (by decide +kernel), by decide +kernel⟩,
   ⟨(pk (leBytes 1 1 ++ leBytes 4 77) (hw 6)), _, { (tstx 0).setReg (A.DISP_T_PORTS 0) 0x00008042 with disp.flows := [(0, [op1, op1])] }, _, 0, 1, 77, admitted_self (by decide +kernel), by decide +kernel⟩,
   ⟨(pk (leBytes 1 1 ++ leBytes 4 77) (hw 6)), _, ((tstx 0).setReg (A.DISP_T_PORTS 0) 0x00008042), _, 0, 1, 77, admitted_self (by decide +kernel), by decide +kernel⟩,
   ⟨(pk (leBytes 1 3 ++ leBytes 4 0xFFFFFFFF) (hw 7)), _, (bsx 0 (flx 0 3 ++ flx 1 4) [7, 7]), _, 3, 4294967295, admitted_self (by decide +kernel), by decide +kernel⟩,
   ⟨(pk (leBytes 2 256)), _, (bsx 1 [] []), _, 256, 0, ((List.range 63).map (· + 1)), admitted_self (by decide +kernel), by decide +kernel⟩,
   ⟨(pk [31]), _, (bsx 1 [] []), _, 31, 0, ((List.range 63).map (· + 1)), admitted_self (by decide +kernel), by decide +kernel⟩⟩

end ThreadCommands

namespace MemoryGuard

def bsx (role : Nat) (l : List (Fld × Nat)) (st := 7) : State := (node role st l)
def dat : List Byte := (List.range 64).map (fun i => BitVec.ofNat 8 (i * 7 + 1))
def lnx (c m line : Nat) (d : List Byte) (chk : Option Nat) (s : State) : State :=
  let s := s.putLine (s.lineKey c m line) d
  match chk with
  | some k => { s with guard.checks := (s.lineKey c m line, k) :: s.guard.checks }
  | none => s
def bad1 : List Byte := (flipBit dat 0 0).1
def goodx (l : Nat) : Nat := lineCheck l dat
def en : List (Fld × Nat) := [(F.MGRD_CTRL_SCRUB_EN, 1)]
def fullx (c : Nat) (st := 5) : State := (List.range 8).foldl (fun s i => (s.setF (F.MGRD_REMAP_VALID c i) 1).setF (F.MGRD_REMAP_LINE c i) (i + 1)) (bsx 0 [] st)
def rm (c act m l : Nat) : Packet := pk ([BitVec.ofNat 8 c, BitVec.ofNat 8 act, BitVec.ofNat 8 m] ++ leBytes 4 l)
def inj (c m a b : Nat) (n := 2) : Packet := pk ([BitVec.ofNat 8 c, BitVec.ofNat 8 m] ++ leBytes 4 a ++ leBytes n b)
def ena : List (Fld × Nat) := [(F.MGRD_CTRL_SCRUB_EN, 1), (F.MGRD_SCRUB_CLASS, 1), (F.MGRD_SCRUB_MIRROR, 1)]
def tb : State := lnx 1 1 5 dat none (bsx 1 ena)
def two : State := lnx 0 0 5 (flipBit bad1 9 1).1 (some (goodx 5)) (bsx 1 en)
def recE : List (Fld × Nat) := [(F.MGRD_CTRL_SCRUB_EN, 1), (F.MGRD_SCRUB_CLASS, 2)]

set_option maxRecDepth 100000 in
theorem wit_MemoryGuard :
    (∃ s : State, s.running = true ∧ (s.on F.MGRD_CTRL_SCRUB_EN = false ∨ s.guard.pending.any (fun x => x.scrub) = true)) ∧
    (∃ s : State, s.running = true ∧ ∃ c : Nat, ∃ m : Nat, ∃ l : Nat, s.on F.MGRD_CTRL_SCRUB_EN = true ∧ s.guard.pending.all (fun x => !x.scrub) = true ∧ c = s.f F.MGRD_SCRUB_CLASS ∧ m = s.f F.MGRD_SCRUB_MIRROR ∧ c ≤ 1 ∧ (m = 1 → c = 1) ∧ s.nextScrub c m (s.f F.MGRD_SCRUB_LINE) = some l ∧ l + 1 < classLines c ∧ s.lineGood (s.lineKey c m l) l = true ∧ (m = 0 ∨ s.lineGood (s.lineKey 1 0 l) l = false ∨ s.lineValid (s.lineKey 1 0 l) = false ∨ s.lineBytes (s.lineKey 1 0 l) = s.lineBytes (s.lineKey 1 1 l))) ∧
    (∃ s : State, s.running = true ∧ ∃ c : Nat, ∃ m : Nat, ∃ l : Nat, s.on F.MGRD_CTRL_SCRUB_EN = true ∧ s.guard.pending.all (fun x => !x.scrub) = true ∧ c = s.f F.MGRD_SCRUB_CLASS ∧ m = s.f F.MGRD_SCRUB_MIRROR ∧ c ≤ 1 ∧ (m = 1 → c = 1) ∧ s.nextScrub c m (s.f F.MGRD_SCRUB_LINE) = some l ∧ l + 1 < classLines c ∧ s.lineGood (s.lineKey c m l) l = true ∧ m = 1) ∧
    (∃ s : State, s.running = true ∧ ∃ c : Nat, ∃ m : Nat, ∃ l : Nat, s.on F.MGRD_CTRL_SCRUB_EN = true ∧ s.guard.pending.all (fun x => !x.scrub) = true ∧ c = s.f F.MGRD_SCRUB_CLASS ∧ m = s.f F.MGRD_SCRUB_MIRROR ∧ c ≤ 1 ∧ (m = 1 → c = 1) ∧ s.nextScrub c m (s.f F.MGRD_SCRUB_LINE) = some l ∧ l + 1 < classLines c ∧ ∃ d : List Byte, c = 0 ∧ s.lineGood (s.lineKey 0 0 l) l = false ∧ recompute l (s.lineBytes (s.lineKey 0 0 l)) (s.storedCheck (s.lineKey 0 0 l) l) = some d) ∧
    (∃ s : State, s.running = true ∧ ∃ c : Nat, ∃ m : Nat, ∃ l : Nat, s.on F.MGRD_CTRL_SCRUB_EN = true ∧ s.guard.pending.all (fun x => !x.scrub) = true ∧ c = s.f F.MGRD_SCRUB_CLASS ∧ m = s.f F.MGRD_SCRUB_MIRROR ∧ c ≤ 1 ∧ (m = 1 → c = 1) ∧ s.nextScrub c m (s.f F.MGRD_SCRUB_LINE) = some l ∧ l + 1 < classLines c ∧ c = 0 ∧ s.lineGood (s.lineKey 0 0 l) l = false ∧ recompute l (s.lineBytes (s.lineKey 0 0 l)) (s.storedCheck (s.lineKey 0 0 l) l) = none ∧ Map.get false s.guard.img (0x10000000 + l * 64) = true ∧ s.on F.SYS_ID_BOOTSRC = true ∧ s.isFloret = false) ∧
    (∃ s : State, s.running = true ∧ ∃ c : Nat, ∃ m : Nat, ∃ l : Nat, s.on F.MGRD_CTRL_SCRUB_EN = true ∧ s.guard.pending.all (fun x => !x.scrub) = true ∧ c = s.f F.MGRD_SCRUB_CLASS ∧ m = s.f F.MGRD_SCRUB_MIRROR ∧ c ≤ 1 ∧ (m = 1 → c = 1) ∧ s.nextScrub c m (s.f F.MGRD_SCRUB_LINE) = some l ∧ l + 1 < classLines c ∧ c = 0 ∧ s.lineGood (s.lineKey 0 0 l) l = false ∧ recompute l (s.lineBytes (s.lineKey 0 0 l)) (s.storedCheck (s.lineKey 0 0 l) l) = none ∧ (Map.get false s.guard.img (0x10000000 + l * 64) = false ∨ s.on F.SYS_ID_BOOTSRC = false ∨ s.isFloret = true)) ∧
    (∃ s : State, s.running = true ∧ ∃ l : Nat, s.on F.MGRD_CTRL_SCRUB_EN = true ∧ s.guard.pending.all (fun x => !x.scrub) = true ∧ s.f F.MGRD_SCRUB_CLASS = 2 ∧ s.f F.MGRD_SCRUB_MIRROR = 0 ∧ s.nextScrub 2 0 (s.f F.MGRD_SCRUB_LINE) = some l ∧ l + 1 < 524288 ∧ s.heldPages.contains (l / 1024) = false ∧ s.guard.retired.contains (l / 1024) = false) ∧
    (∃ s : State, s.running = true ∧ ∃ l : Nat, s.on F.MGRD_CTRL_SCRUB_EN = true ∧ s.guard.pending.all (fun x => !x.scrub) = true ∧ s.f F.MGRD_SCRUB_CLASS = 2 ∧ s.f F.MGRD_SCRUB_MIRROR = 0 ∧ s.nextScrub 2 0 (s.f F.MGRD_SCRUB_LINE) = some l ∧ l + 1 < 524288 ∧ (s.heldPages.contains (l / 1024) = true ∨ s.guard.retired.contains (l / 1024) = true)) ∧
    (∃ s : State, s.running = true ∧ s.on F.MGRD_CTRL_SCRUB_EN = true ∧ s.guard.pending = [] ∧ s.guard.valid = [] ∧ s.f F.MGRD_SCRUB_CLASS = 0 ∧ s.f F.MGRD_SCRUB_MIRROR = 0) ∧
    (∃ s : State, s.running = true ∧ s.on F.MGRD_CTRL_SCRUB_EN = true ∧ s.guard.slowSaid = false) ∧
    (∃ s : State, s.running = true ∧ (s.on F.MGRD_CTRL_SCRUB_EN = false ∨ s.guard.slowSaid = true)) ∧
    (∃ p : Packet, ∃ p1 : Packet, ∃ s : State, ∃ s1 : State, ∃ c : Nat, ∃ m : Nat, ∃ line : Nat, ∃ act : Nat, Admitted rowMgrdRemapSet p s s1 p1 ∧ c ≤ 2 ∧ m ≤ 1 ∧ (m = 1 → c = 1) ∧ line < classLines c ∧ act ≤ 1 ∧ p.params = [BitVec.ofNat 8 c, BitVec.ofNat 8 act, BitVec.ofNat 8 m] ++ leBytes 4 line ∧ s1.st ≠ ST.CONFIG) ∧
    (∃ p : Packet, ∃ p1 : Packet, ∃ s : State, ∃ s1 : State, ∃ c : Nat, ∃ m : Nat, ∃ line : Nat, ∃ act : Nat, Admitted rowMgrdRemapSet p s s1 p1 ∧ c ≤ 2 ∧ m ≤ 1 ∧ (m = 1 → c = 1) ∧ line < classLines c ∧ act ≤ 1 ∧ p.params = [BitVec.ofNat 8 c, BitVec.ofNat 8 act, BitVec.ofNat 8 m] ++ leBytes 4 line ∧ s1.st = ST.CONFIG ∧ act = 0 ∧ s1.remapOf c m line = none) ∧
    (∃ p : Packet, ∃ p1 : Packet, ∃ s : State, ∃ s1 : State, ∃ c : Nat, ∃ m : Nat, ∃ line : Nat, ∃ act : Nat, ∃ i : Nat, Admitted rowMgrdRemapSet p s s1 p1 ∧ c ≤ 2 ∧ m ≤ 1 ∧ (m = 1 → c = 1) ∧ line < classLines c ∧ act ≤ 1 ∧ p.params = [BitVec.ofNat 8 c, BitVec.ofNat 8 act, BitVec.ofNat 8 m] ++ leBytes 4 line ∧ s1.st = ST.CONFIG ∧ act = 0 ∧ s1.remapOf c m line = some i) ∧
    (∃ p : Packet, ∃ p1 : Packet, ∃ s : State, ∃ s1 : State, ∃ c : Nat, ∃ m : Nat, ∃ line : Nat, ∃ act : Nat, ∃ i : Nat, Admitted rowMgrdRemapSet p s s1 p1 ∧ c ≤ 2 ∧ m ≤ 1 ∧ (m = 1 → c = 1) ∧ line < classLines c ∧ act ≤ 1 ∧ p.params = [BitVec.ofNat 8 c, BitVec.ofNat 8 act, BitVec.ofNat 8 m] ++ leBytes 4 line ∧ s1.st = ST.CONFIG ∧ act = 1 ∧ s1.remapOf c m line = some i) ∧
    (∃ p : Packet, ∃ p1 : Packet, ∃ s : State, ∃ s1 : State, ∃ c : Nat, ∃ m : Nat, ∃ line : Nat, ∃ act : Nat, ∃ i : Nat, Admitted rowMgrdRemapSet p s s1 p1 ∧ c ≤ 2 ∧ m ≤ 1 ∧ (m = 1 → c = 1) ∧ line < classLines c ∧ act ≤ 1 ∧ p.params = [BitVec.ofNat 8 c, BitVec.ofNat 8 act, BitVec.ofNat 8 m] ++ leBytes 4 line ∧ s1.st = ST.CONFIG ∧ act = 1 ∧ s1.remapOf c m line = none ∧ (List.range 8).find? (fun i => !s1.on (F.MGRD_REMAP_VALID c i)) = some i) ∧
    (∃ p : Packet, ∃ p1 : Packet, ∃ s : State, ∃ s1 : State, ∃ c : Nat, ∃ m : Nat, ∃ line : Nat, ∃ act : Nat, ∃ i : Nat, Admitted rowMgrdRemapSet p s s1 p1 ∧ c ≤ 2 ∧ m ≤ 1 ∧ (m = 1 → c = 1) ∧ line < classLines c ∧ act ≤ 1 ∧ p.params = [BitVec.ofNat 8 c, BitVec.ofNat 8 act, BitVec.ofNat 8 m] ++ leBytes 4 line ∧ s1.st = ST.CONFIG ∧ act = 1 ∧ s1.remapOf c m line = none ∧ (∀ i < 8, s1.on (F.MGRD_REMAP_VALID c i) = true)) ∧
    (∃ p : Packet, ∃ p1 : Packet, ∃ s : State, ∃ s1 : State, ∃ c : Nat, ∃ m : Nat, ∃ a : Nat, ∃ line : Nat, ∃ k : Nat, Admitted rowMgrdInject p s s1 p1 ∧ a < 2 ^ 32 ∧ c ≤ 2 ∧ m ≤ 1 ∧ (m = 1 → c = 1) ∧ classOf a = some c ∧ line = (a - classBase c) / 64 ∧ k = s1.lineKey c m line ∧ s1.st ≠ ST.CONFIG ∧ 7 ≤ p.params.length ∧ numAt p.params 0 1 = c ∧ numAt p.params 1 1 = m ∧ numAt p.params 2 4 = a) ∧
    (∃ p : Packet, ∃ p1 : Packet, ∃ s : State, ∃ s1 : State, ∃ c : Nat, ∃ m : Nat, ∃ a : Nat, ∃ line : Nat, ∃ k : Nat, Admitted rowMgrdInject p s s1 p1 ∧ a < 2 ^ 32 ∧ c ≤ 2 ∧ m ≤ 1 ∧ (m = 1 → c = 1) ∧ classOf a = some c ∧ line = (a - classBase c) / 64 ∧ k = s1.lineKey c m line ∧ ∃ bs : List Nat, s1.st = ST.CONFIG ∧ c ≤ 1 ∧ (bs.length = 1 ∨ bs.length = 2) ∧ (∀ b ∈ bs, b < 528) ∧ p.params = [BitVec.ofNat 8 c, BitVec.ofNat 8 m] ++ leBytes 4 a ++ (bs.map (leBytes 2)).flatten) ∧
    (∃ p : Packet, ∃ p1 : Packet, ∃ s : State, ∃ s1 : State, ∃ c : Nat, ∃ m : Nat, ∃ a : Nat, ∃ line : Nat, ∃ k : Nat, Admitted rowMgrdInject p s s1 p1 ∧ a < 2 ^ 32 ∧ c ≤ 2 ∧ m ≤ 1 ∧ (m = 1 → c = 1) ∧ classOf a = some c ∧ line = (a - classBase c) / 64 ∧ k = s1.lineKey c m line ∧ ∃ b, s1.st = ST.CONFIG ∧ c = 2 ∧ p.params = [2, 0] ++ leBytes 4 a ++ leBytes 1 b ∧ b < 64) :=
  ⟨⟨(bsx 1 [(F.MGRD_CTRL_SCRUB_EN, 0)]), by decide +kernel⟩,
   ⟨(lnx 0 0 5 dat none (bsx 1 en)), by decide +kernel, 0, 0, 5, by decide +kernel⟩,
   ⟨tb, by decide +kernel, 1, 1, 5, by decide +kernel⟩,
   ⟨(lnx 0 0 5 bad1 (some (goodx 5)) (bsx 1 en)), by decide +kernel, 0, 0, 5, by decide +kernel, by decide +kernel, by decide +kernel, by decide +kernel, by decide +kernel, by decide +kernel, by decide +kernel, by decide +kernel, dat, by decide +kernel⟩,
   ⟨{ two.setF F.SYS_ID_BOOTSRC 1 with guard.img := [(0x10000140, true)] }, by decide +kernel, 0, 0, 5, by decide +kernel, by decide +kernel, by decide +kernel, by decide +kernel, by decide +kernel, by decide +kernel, by decide +kernel, by decide +kernel, by decide +kernel, by decide +kernel, recompute_none (by decide +kernel) (by decide +kernel) (by decide +kernel), by decide +kernel⟩,
   ⟨two, by decide +kernel, 0, 0, 5, by decide +kernel, by decide +kernel, by decide +kernel, by decide +kernel, by decide +kernel, by decide +kernel, by decide +kernel, by decide +kernel, by decide +kernel, by decide +kernel, recompute_none (by decide +kernel) (by decide +kernel) (by decide +kernel), by decide +kernel⟩,
   ⟨(lnx 2 0 5 dat none (bsx 1 recE)), by decide +kernel, 5, by decide +kernel⟩,
   ⟨{ lnx 2 0 5 dat none (bsx 1 recE) with guard.retired := [0], guard.parity := [(0x20000141, true)] }, by decide +kernel, 5, by decide +kernel⟩,
   ⟨{ (bsx 1 (en ++ [(F.MGRD_CTRL_SLOW_LIMIT, 9)])) with guard.passStart := 1000000000 }, by decide +kernel⟩,
   ⟨(lnx 0 0 5 dat none (bsx 1 en)), by decide +kernel⟩,
   ⟨(bsx 1 [(F.MGRD_CTRL_SCRUB_EN, 0)]), by decide +kernel⟩,
   ⟨(rm 0 0 0 5), _, (bsx 1 []), _, 0, 0, 5, 0, admitted_self (by decide +kernel), by decide +kernel⟩,
   ⟨(rm 0 0 0 5), _, (lnx 0 0 5 dat none (bsx 1 [] 5)), _, 0, 0, 5, 0, admitted_self (by decide +kernel), by decide +kernel⟩,
   ⟨(rm 0 0 0 5), _, (lnx 0 0 5 bad1 (some (goodx 5)) (bsx 1 [(F.MGRD_REMAP_VALID 0 3, 1), (F.MGRD_REMAP_LINE 0 3, 5)] 5)), _, 0, 0, 5, 0, 3, admitted_self (by decide +kernel), by decide +kernel⟩,
   ⟨(rm 0 1 0 5), _, (lnx 0 0 5 bad1 (some (goodx 5)) (bsx 1 [(F.MGRD_REMAP_VALID 0 3, 1), (F.MGRD_REMAP_LINE 0 3, 5)] 5)), _, 0, 0, 5, 1, 3, admitted_self (by decide +kernel), by decide +kernel⟩,
   ⟨(rm 0 1 0 5), _, (lnx 0 0 5 dat none (bsx 1 [] 5)), _, 0, 0, 5, 1, 0, admitted_self (by decide +kernel), by decide +kernel⟩,
   ⟨(rm 0 1 0 100), _, (fullx 0), _, 0, 0, 100, 1, 100, admitted_self (by decide +kernel), by decide +kernel⟩,
   ⟨(pk ([0, 0] ++ leBytes 4 (0x10000000 + 325) ++ leBytes 2 527 ++ leBytes 2 77)), _, (bsx 1 []), _, 0, 0, 268435781, 5, 268435776, admitted_self (by decide +kernel), by decide +kernel⟩,
   ⟨(pk ([0, 0] ++ leBytes 4 (0x10000000 + 325) ++ leBytes 2 527 ++ leBytes 2 77)), _, (lnx 0 0 5 dat none (bsx 1 [] 5)), _, 0, 0, 268435781, 5, 268435776, admitted_self (by decide +kernel), by decide +kernel, by decide +kernel, by decide +kernel, by decide +kernel, by decide +kernel, by decide +kernel, by decide +kernel, [527, 77], by decide +kernel⟩,
   ⟨(inj 2 0 0x20000000 63 1), _, (lnx 0 0 5 dat none (bsx 1 [] 5)), _, 2, 0, 536870912, 0, 536870912, admitted_self (by decide +kernel), by decide +kernel, by decide +kernel, by decide +kernel, by decide +kernel, by decide +kernel, by decide +kernel, by decide +kernel, 63, by decide +kernel⟩⟩

end MemoryGuard

namespace FaultHubEvents

def bsx (role : Nat) (l : List (Fld × Nat)) (st := 7) : State := { (node role st l) with hub.react := none }
def rec1x (sv : Nat) : List (Fld × Nat) := [(F.FHUB_REC_OPEN, 1), (F.FHUB_REC_ID, 9), (F.FHUB_REC_SOURCE, 5), (F.FHUB_REC_SEV, sv), (F.FHUB_REC_OUT_HOLD, if sv ≥ 2 then 1 else 0), (F.FHUB_REC_MERGE_MERGE_CNT, 3)]

theorem wit_FaultHubEvents :
    (∃ s : State, s.running = true ∧ ∃ t0, s.hub.react = some t0 ∧ t0 < 2 ^ 64) ∧
    (∃ s : State, s.running = true ∧ s.hub.react = none) ∧
    (∃ s : State, s.running = true ∧ s.standing < 2) ∧
    (∃ s : State, s.running = true ∧ 2 ≤ s.standing) ∧
    (∃ s : State, s.running = true ∧ ∃ id : BitVec 16, s.recOpen = true ∧ s.f F.FHUB_REC_ID = id.toNat ∧ (s.f F.FHUB_REC_SEV = 3 → s.st ≠ ST.BLOCKED ∧ s.st ≠ ST.LOCKOUT)) ∧
    (∃ s : State, s.running = true ∧ ∃ id : BitVec 16, (s.recOpen = false ∨ s.f F.FHUB_REC_ID ≠ id.toNat ∨ (s.f F.FHUB_REC_SEV = 3 ∧ (s.st = ST.BLOCKED ∨ s.st = ST.LOCKOUT)))) :=
  ⟨⟨{ bsx 1 (rec1x 2) with hub.react := some 10000005000 }, by decide +kernel, 10000005000, by decide +kernel⟩,
   ⟨(bsx 1 (rec1x 1)), by decide +kernel⟩,
   ⟨(bsx 1 (rec1x 1)), by decide +kernel⟩,
   ⟨{ bsx 1 (rec1x 2) with hub.react := some 10000005000 }, by decide +kernel⟩,
   ⟨{ bsx 1 (rec1x 2) with hub.react := some 10000005000 }, by decide +kernel, 9, by decide +kernel⟩,
   ⟨{ bsx 1 (rec1x 2) with hub.react := some 10000005000 }, by decide +kernel, 0xa, by decide +kernel⟩⟩

end FaultHubEvents

namespace FaultOutCompared

theorem wit_FaultOutCompared :
    (∃ s : State, s.running = true ∧ ∃ level : Bool, level = s.faultOut) ∧
    (∃ s : State, s.running = true ∧ ∃ level : Bool, level = !s.faultOut) :=
  ⟨⟨(node 1 7 []), by decide +kernel, _, rfl⟩,
   ⟨(node 1 7 []), by decide +kernel, _, rfl⟩⟩

end FaultOutCompared

namespace FaultHubCommands

def bsx (role : Nat) (l : List (Fld × Nat)) (st := 7) : State := { (node role st l) with hub.react := none }
def rec1x (sv : Nat) : List (Fld × Nat) := [(F.FHUB_REC_OPEN, 1), (F.FHUB_REC_ID, 9), (F.FHUB_REC_SOURCE, 5), (F.FHUB_REC_SEV, sv), (F.FHUB_REC_OUT_HOLD, if sv ≥ 2 then 1 else 0), (F.FHUB_REC_MERGE_MERGE_CNT, 3)]

set_option maxRecDepth 100000 in
theorem wit_FaultHubCommands :
    (∃ p : Packet, ∃ p1 : Packet, ∃ s : State, ∃ s1 : State, ∃ id, Admitted rowFaultResolve p s s1 p1 ∧ p.params = leBytes 2 id ∧ id < 65536 ∧ s1.recOpen = true ∧ s1.f F.FHUB_REC_ID = id ∧ (s1.f F.FHUB_REC_SEV = 3 → s1.st ≠ ST.BLOCKED ∧ s1.st ≠ ST.LOCKOUT)) ∧
    (∃ p : Packet, ∃ p1 : Packet, ∃ s : State, ∃ s1 : State, ∃ id, Admitted rowFaultResolve p s s1 p1 ∧ p.params = leBytes 2 id ∧ id < 65536 ∧ (s1.recOpen = false ∨ s1.f F.FHUB_REC_ID ≠ id)) ∧
    (∃ p : Packet, ∃ p1 : Packet, ∃ s : State, ∃ s1 : State, ∃ id, Admitted rowFaultResolve p s s1 p1 ∧ p.params = leBytes 2 id ∧ id < 65536 ∧ s1.recOpen = true ∧ s1.f F.FHUB_REC_ID = id ∧ s1.f F.FHUB_REC_SEV = 3 ∧ (s1.st = ST.BLOCKED ∨ s1.st = ST.LOCKOUT)) ∧
    (∃ p : Packet, ∃ p1 : Packet, ∃ s : State, ∃ s1 : State, Admitted rowFaultLatchClear p s s1 p1 ∧ p.params.length = 16) ∧
    (∃ p : Packet, ∃ p1 : Packet, ∃ s : State, ∃ s1 : State, ∃ n, ∃ v, Admitted rowFaultSrcSet p s s1 p1 ∧ p.params = BitVec.ofNat 8 n :: leBytes 2 v ∧ n < 128 ∧ (sourceSeverity n).isSome ∧ v < 1024 ∧ bits v 7 6 = 0) ∧
    (∃ p : Packet, ∃ p1 : Packet, ∃ s : State, ∃ s1 : State, Admitted rowFaultRaise p s s1 p1 ∧ (p.params = [2] ∨ (p.params = [3] ∧ s1.st ≠ ST.RUN ∧ s1.st ≠ ST.HOLD))) ∧
    (∃ p : Packet, ∃ p1 : Packet, ∃ s : State, ∃ s1 : State, Admitted rowFaultRaise p s s1 p1 ∧ p.params = [3] ∧ (s1.st = ST.RUN ∨ s1.st = ST.HOLD)) ∧
    (∃ p : Packet, ∃ p1 : Packet, ∃ s : State, ∃ s1 : State, Admitted rowFaultSubscribe p s s1 p1 ∧ p.params = [1] ∧ (s1.hub.subs.filter (fun u => u.source != p.source)).length < 2) ∧
    (∃ p : Packet, ∃ p1 : Packet, ∃ s : State, ∃ s1 : State, Admitted rowFaultSubscribe p s s1 p1 ∧ p.params = [0]) ∧
    (∃ p : Packet, ∃ p1 : Packet, ∃ s : State, ∃ s1 : State, Admitted rowFaultSubscribe p s s1 p1 ∧ p.params = [1] ∧ 2 ≤ (s1.hub.subs.filter (fun u => u.source != p.source)).length) :=
  ⟨⟨(pk (leBytes 2 9)), _, (bsx 0 (rec1x 2)), _, 9, admitted_self (by decide +kernel), by decide +kernel⟩,
   ⟨(pk (leBytes 2 9)), _, (bsx 2 []), _, 9, admitted_self (by decide +kernel), by decide +kernel⟩,
   ⟨(pk (leBytes 2 9)), _, (bsx 0 (rec1x 3) 10), _, 9, admitted_self (by decide +kernel), by decide +kernel⟩,
   ⟨(pk (List.replicate 16 0x5A)), _, ((List.range 4).foldl (fun s w => s.setReg (A.FHUB_LATCH w) 0xFFFF1234) (bsx 0 (rec1x 2))), _, admitted_self (by decide +kernel), by decide +kernel⟩,
   ⟨(pk (5 :: leBytes 2 0x33F)), _, (bsx 0 (rec1x 2)), _, 5, 831, admitted_self (by decide +kernel), by decide +kernel⟩,
   ⟨(pk [2]), _, (bsx 0 (rec1x 2)), _, admitted_self (by decide +kernel), by decide +kernel⟩,
   ⟨(pk [3]), _, (bsx 0 [(F.FHUB_REC_ID, 9)] 8), _, admitted_self (by decide +kernel), by decide +kernel⟩,
   ⟨{ pk [1] with source := 5 }, _, (bsx 2 []), _, admitted_self (by decide +kernel), by decide +kernel⟩,
   ⟨{ pk [0] with source := 5 }, _, (bsx 2 []), _, admitted_self (by decide +kernel), by decide +kernel⟩,
   ⟨{ pk [1] with source := 5 }, _, { bsx 2 [] with hub.subs := [{ source := 7, mac := 3 }, { source := 6, mac := 3 }] }, _, admitted_self (by decide +kernel), by decide +kernel⟩⟩

end FaultHubCommands

namespace SettledRaises

def bsx (role : Nat) (l : List (Fld × Nat)) (n : Nat) (st := 7) : State := { (node role st l) with hub.react := none, hub.raised := [n] }
def rec1x (sv : Nat) : List (Fld × Nat) := [(F.FHUB_REC_OPEN, 1), (F.FHUB_REC_ID, 65535), (F.FHUB_REC_SOURCE, 5), (F.FHUB_REC_SEV, sv), (F.FHUB_REC_OUT_HOLD, if sv ≥ 2 then 1 else 0), (F.FHUB_REC_MERGE_MERGE_CNT, 65535)]

theorem wit_SettledRaises :
    (∃ s : State, ∃ n : Nat, ∃ v : Nat, n < 128 ∧ s.hub.raised = [n] ∧ sourceSeverity n = some v ∧ v = 0) ∧
    (∃ s : State, ∃ n : Nat, ∃ v : Nat, n < 128 ∧ s.hub.raised = [n] ∧ sourceSeverity n = some v ∧ 1 ≤ v ∧ s.recOpen = false ∧ v = 2) ∧
    (∃ s : State, ∃ n : Nat, ∃ v : Nat, n < 128 ∧ s.hub.raised = [n] ∧ sourceSeverity n = some v ∧ 1 ≤ v ∧ s.recOpen = false ∧ 2 ≤ v) ∧
    (∃ s : State, ∃ n : Nat, ∃ v : Nat, n < 128 ∧ s.hub.raised = [n] ∧ sourceSeverity n = some v ∧ 1 ≤ v ∧ s.recOpen = true) ∧
    (∃ s : State, ∃ n : Nat, ∃ v : Nat, n < 128 ∧ s.hub.raised = [n] ∧ sourceSeverity n = some v ∧ v = 3 ∧ s3ActOf n = 1) ∧
    (∃ s : State, ∃ n : Nat, ∃ v : Nat, n < 128 ∧ s.hub.raised = [n] ∧ sourceSeverity n = some v ∧ v = 3 ∧ s3ActOf n = 2 ∧ s.on F.SYS_STATE_IMG_OK = true) ∧
    (∃ s : State, ∃ n : Nat, ∃ v : Nat, n < 128 ∧ s.hub.raised = [n] ∧ sourceSeverity n = some v ∧ v = 3 ∧ s3ActOf n = 2 ∧ s.on F.SYS_STATE_IMG_OK = false) :=
  ⟨⟨bsx 1 [] 1 7, 1, 0, by decide +kernel⟩,
   ⟨bsx 1 [] 2 7, 2, 2, by decide +kernel⟩,
   ⟨bsx 1 [] 2 7, 2, 2, by decide +kernel⟩,
   ⟨bsx 1 (rec1x 1) 0 9, 0, 1, by decide +kernel⟩,
   ⟨bsx 1 [] 3 7, 3, 3, by decide +kernel⟩,
   ⟨bsx 1 [(F.SYS_STATE_IMG_OK, 1)] 93 7, 93, 3, by decide +kernel⟩,
   ⟨bsx 1 [] 93 7, 93, 3, by decide +kernel⟩⟩

end SettledRaises

namespace WrapUpAtRest

theorem wit_WrapUpAtRest :
    ∃ s : State, s.atRest = true ∧ s.st ≠ ST.BLOCKED ∧ (∀ n < 4, s.on (F.SAFE_OUT_DEG n) = true → s.outWanted n = true) :=
  ⟨node 1 8 [(F.SAFE_OUT_FUNC 1, 1), (F.SAFE_OUT_FUNC 2, 2), (F.SAFE_OUT_ON_A 3, 1)], by decide +kernel⟩

end WrapUpAtRest

namespace SafetyInputs

def recBytes (l : List (Nat × Nat × Nat)) : List Byte :=
  let base : List (Nat × Nat × Nat) := [(0, 1, 1), (1, 1, 1), (2, 2, 9), (4, 1, 20), (5, 1, 5), (6, 2, 100), (8, 2, 100), (10, 2, 10), (12, 1, 3), (13, 1, 4)] ++ ([0,1,2,3].map (fun n => (34 + 4 * n, 2, 5)))
  let b := (base ++ l).foldl (fun (b : List Byte) x => b.take x.1 ++ leBytes x.2.1 x.2.2 ++ b.drop (x.1 + x.2.1)) (List.replicate 304 0)
  b ++ leBytes 2 (crc16 b)
def rA : List Byte := recBytes [(16, 1, 2), (20, 1, 1), (32, 1, 1), (36, 1, 2), (37, 1, 4), (40, 1, 3), (48, 4, 0x3F800000), (60, 1, 0x80)]
def bsx (role : Nat) (l : List (Fld × Nat)) (st := 7) : State := { (node role st l) with safe.record := rA }
def known (s : State) : State := { s with safe.known := (List.range 8).map (fun i => (i, true)) }
def inp (n f : Nat) (l : List (Fld × Nat)) (role := 1) (st := 7) : State := known (bsx role ([(F.SAFE_IN_FUNC n, f), (F.SAFE_IN_LVL_A n, 1), (F.SAFE_IN_LVL_B n, 1)] ++ l) st)
def rea : State := { (inp 1 1 [(F.SAFE_IN_DEM 1, 1), (F.SAFE_IN_LVL_A 1, 0), (F.SAFE_IN_LVL_B 1, 0)]) with safe.rearm := [(1, 1)] }

theorem wit_SafetyInputs :
    (∃ s : State, s.running = true ∧ ∃ i : Fin 4, Map.get 0 s.safe.rearm i.val = 1) ∧
    (∃ s : State, s.running = true ∧ ∃ i : Fin 4, Map.get 0 s.safe.rearm i.val = 2) ∧
    (∃ s : State, s.running = true ∧ ∃ i : Fin 4, ∃ b : Bool, ∃ level : Bool, level = s.demandLevel i (b2n b)) ∧
    (∃ s : State, s.running = true ∧ ∃ i : Fin 4, ∃ b : Bool, ∃ level : Bool, level ≠ s.demandLevel i (b2n b)) ∧
    (∃ s : State, s.running = true ∧ ∃ i : Fin 4, (Map.get none s.safe.disc i.val = none ∨ Map.get false s.safe.discOver i.val = true)) ∧
    (∃ s : State, s.running = true ∧ ∃ i : Fin 4, ∃ t0 : Nat, Map.get none s.safe.disc i.val = some t0 ∧ Map.get false s.safe.discOver i.val = false ∧ s.inFunc i ≠ 0) ∧
    (∃ s : State, s.running = true ∧ ∃ d : Fin 4, s.testedBy d = []) ∧
    (∃ s : State, s.running = true ∧ ∃ d : Fin 4, ∃ reads : List (BitVec 8), s.testedBy d ≠ [] ∧ (∀ n, n ∈ s.testedBy d → ∀ ch, ch < 2 → s.pulseFails n ch d (reads.map (fun r => bit r.toNat (2 * n + ch))) = false)) ∧
    (∃ s : State, s.running = true ∧ (s.safe.chbLost = true ∨ s.on F.SYS_STATE_IMG_OK = false)) ∧
    (∃ s : State, s.running = true ∧ ∃ ran : Bool, ∃ differs : Bool, ∃ fault : Bool, ∃ demand : Fin 4, s.safe.chbLost = false ∧ s.on F.SYS_STATE_IMG_OK = true ∧ ∃ good : Bool, good = (ran && !s.disp.pairReset) ∧ ∃ other : Bool, other = (differs || s.levelOf 0x3FE != demand.val) ∧ fault = false ∧ (good = true → other = true → s.safe.diffs < 2) ∧ (good = false → s.safe.missed = 0) ∧ good = true) ∧
    (∃ s : State, s.running = true ∧ ∃ ran : Bool, ∃ differs : Bool, ∃ fault : Bool, ∃ demand : Fin 4, s.safe.chbLost = false ∧ s.on F.SYS_STATE_IMG_OK = true ∧ ∃ good : Bool, good = (ran && !s.disp.pairReset) ∧ ∃ other : Bool, other = (differs || s.levelOf 0x3FE != demand.val) ∧ fault = false ∧ (good = true → other = true → s.safe.diffs < 2) ∧ (good = false → s.safe.missed = 0) ∧ good = false) ∧
    (∃ s : State, s.running = true ∧ ∃ ran : Bool, ∃ differs : Bool, ∃ fault : Bool, ∃ demand : Fin 4, s.safe.chbLost = false ∧ s.on F.SYS_STATE_IMG_OK = true ∧ ∃ good : Bool, good = (ran && !s.disp.pairReset) ∧ ∃ other : Bool, other = (differs || s.levelOf 0x3FE != demand.val) ∧ (fault = true ∨ (good = false ∧ 1 ≤ s.safe.missed) ∨ (good = true ∧ other = true ∧ 2 ≤ s.safe.diffs))) ∧
    (∃ s : State, s.running = true ∧ ∃ k : Fin 16, s.ssActive k = false) ∧
    (∃ s : State, s.running = true ∧ ∃ k : Fin 16, s.ssActive k = true) ∧
    (∃ s : State, s.running = true ∧ s.safe.sgrSince = none) ∧
    (∃ s : State, s.running = true ∧ ∃ t0, s.safe.sgrSince = some t0) :=
  ⟨⟨rea, by decide +kernel, 1, by decide +kernel⟩,
   ⟨{ (inp 1 1 [(F.SAFE_IN_DEM 1, 1), (F.SAFE_IN_LVL_A 1, 0)]) with safe.rearm := [(1, 2)] }, by decide +kernel, 1, by decide +kernel⟩,
   ⟨rea, by decide +kernel, 3, false, _, rfl⟩,
   ⟨rea, by decide +kernel, 3, false, true, by decide +kernel⟩,
   ⟨rea, by decide +kernel, 3, by decide +kernel⟩,
   ⟨{ (inp 0 1 [(F.SAFE_IN_DISC 0, 7)] 2 8) with safe.disc := [(0, some 9000000000)] }, by decide +kernel, 0, 9000000000, by decide +kernel⟩,
   ⟨{ (inp 0 1 [(F.SAFE_IN_DISC 0, 7)] 2 8) with safe.disc := [(0, some 9000000000)] }, by decide +kernel, 3, by decide +kernel⟩,
   ⟨{ (inp 0 1 [(F.SAFE_IN_TEST 0, 1), (F.SAFE_IN_TEST 1, 1), (F.SAFE_IN_TEST 3, 1)]) with safe.tp := (List.range 16).map (fun i => (i, 1)) }, by decide +kernel, 3, [0], by decide +kernel⟩,
   ⟨rea, by decide +kernel⟩,
   ⟨(bsx 1 [(F.SYS_STATE_IMG_OK, 1)]), by decide +kernel, true, false, false, 3, by decide +kernel, by decide +kernel, _, rfl, _, rfl, by decide +kernel⟩,
   ⟨(bsx 1 [(F.SYS_STATE_IMG_OK, 1)]), by decide +kernel, false, false, false, 3, by decide +kernel, by decide +kernel, _, rfl, _, rfl, by decide +kernel⟩,
   ⟨(bsx 1 [(F.SYS_STATE_IMG_OK, 1)]), by decide +kernel, false, false, true, 3, by decide +kernel, by decide +kernel, _, rfl, _, rfl, by decide +kernel⟩,
   ⟨rea, by decide +kernel, 1, by decide +kernel⟩,
   ⟨{ (bsx 2 [(F.SAFE_STAT_SS, 1), (F.SAFE_SS_STATE 0, 1), (F.SAFE_CAUSE_COMMAND, 1)]) with tree.strings := 2, safe.commandLvl := 1, safe.ssAt := [(0, 9999999999)] }, by decide +kernel, 0, by decide +kernel⟩,
   ⟨rea, by decide +kernel⟩,
   ⟨{ (bsx 2 [(F.SAFE_CAUSE_FHUB_LOCKOUT, 1), (F.SYS_STATE_CREDIT, 1)]) with safe.sgrSince := some 9999999999 }, by decide +kernel, 9999999999, by decide +kernel⟩⟩

end SafetyInputs

namespace SafetyOutputs

def recBytes (l : List (Nat × Nat × Nat)) : List Byte :=
  let base : List (Nat × Nat × Nat) := [(0, 1, 1), (1, 1, 1), (2, 2, 9), (4, 1, 20), (5, 1, 5), (6, 2, 100), (8, 2, 100), (10, 2, 10), (12, 1, 3), (13, 1, 4)] ++ ([0,1,2,3].map (fun n => (34 + 4 * n, 2, 5)))
  let b := (base ++ l).foldl (fun (b : List Byte) x => b.take x.1 ++ leBytes x.2.1 x.2.2 ++ b.drop (x.1 + x.2.1)) (List.replicate 304 0)
  b ++ leBytes 2 (crc16 b)
def rA : List Byte := recBytes [(16, 1, 2), (20, 1, 1), (32, 1, 1), (36, 1, 2), (37, 1, 4), (40, 1, 3), (48, 4, 0x3F800000), (60, 1, 0x80)]
def pc : Packet := { source := 2, target := 0, seq := 3 }
def bsx (role : Nat) (l : List (Fld × Nat)) (st := 7) : State := { (node role st l) with safe.record := rA }
def outp (n f : Nat) (l : List (Fld × Nat)) (role := 1) (st := 8) : State := bsx role ([(F.SAFE_OUT_FUNC n, f), (F.SAFE_STAT_CHB_OK, 1), (F.SYS_STATE_CREDIT, 1)] ++ l) st
def onn (l : List (Fld × Nat)) (f : Fire) (ch : List (Nat × Nat)) : State := { (outp 1 2 ([(F.SAFE_OUT_ON_A 1, 1), (F.SAFE_OUT_ON_B 1, 1)] ++ l) 0) with safe.fire := [(1, some f)], safe.changeAt := ch }
def fA : Fire := { since := 9999999999, fbA := true, cmd := some pc }
def fD : Fire := { since := 9999999999, fbA := true, decided := true }
def ch2 : List (Nat × Nat) := [(2, 10000000000), (3, 10000000000)]

theorem wit_SafetyOutputs :
    (∃ s : State, s.running = true ∧ ∃ n : Fin 4, ∃ b : Bool, ∃ c : Nat, c = 2 * n.val + b2n b ∧ ∃ v : State, v = s.reachNow (Map.get 0 s.safe.sampleAt c + 10000) ∧ ∃ settle : Nat, settle = numAt s.safe.record 10 2 * 1000 ∧ ∃ early : Bool, early = decide (v.now < Map.get 0 s.safe.changeAt c + settle) ∧ (∀ x, s.firing n = some x → x.decided = true) ∧ (s.outFunc n = 0 ∨ s.chFaulty c = true ∨ early = true ∨ v.pulseSettles n (b2n b) settle = true)) ∧
    (∃ s : State, s.running = true ∧ ∃ n : Fin 4, ∃ b : Bool, ∃ c : Nat, c = 2 * n.val + b2n b ∧ ∃ v : State, v = s.reachNow (Map.get 0 s.safe.sampleAt c + 10000) ∧ ∃ settle : Nat, settle = numAt s.safe.record 10 2 * 1000 ∧ ∃ early : Bool, early = decide (v.now < Map.get 0 s.safe.changeAt c + settle) ∧ (∀ x, s.firing n = some x → x.decided = true) ∧ s.outFunc n ≠ 0) ∧
    (∃ s : State, s.running = true ∧ ∃ n : Fin 4, ∃ b : Bool, ∃ level : Bool, ∃ c : Nat, c = 2 * n.val + b2n b ∧ ∃ v : State, v = s.reachNow (Map.get 0 s.safe.sampleAt c + 10000) ∧ ∃ settle : Nat, settle = numAt s.safe.record 10 2 * 1000 ∧ ∃ early : Bool, early = decide (v.now < Map.get 0 s.safe.changeAt c + settle) ∧ ∃ x : Fire, s.firing n = some x ∧ x.decided = false ∧ early = true ∧ level = true ∧ s.outOn n (b2n b) = true ∧ (if b then x.fbA else x.fbB) = true) ∧
    (∃ s : State, s.running = true ∧ ∃ n : Fin 4, ∃ b : Bool, ∃ level : Bool, ∃ c : Nat, c = 2 * n.val + b2n b ∧ ∃ v : State, v = s.reachNow (Map.get 0 s.safe.sampleAt c + 10000) ∧ ∃ settle : Nat, settle = numAt s.safe.record 10 2 * 1000 ∧ ∃ early : Bool, early = decide (v.now < Map.get 0 s.safe.changeAt c + settle) ∧ ∃ x : Fire, s.firing n = some x ∧ x.decided = false ∧ early = true ∧ (if b then x.fbB else x.fbA) = false ∧ (level = false ∨ s.outOn n (b2n b) = false ∨ (if b then x.fbA else x.fbB) = false)) ∧
    (∃ s : State, s.running = true ∧ ∃ n : Fin 4, ∃ b : Bool, ∃ c : Nat, c = 2 * n.val + b2n b ∧ ∃ v : State, v = s.reachNow (Map.get 0 s.safe.sampleAt c + 10000) ∧ ∃ settle : Nat, settle = numAt s.safe.record 10 2 * 1000 ∧ ∃ early : Bool, early = decide (v.now < Map.get 0 s.safe.changeAt c + settle) ∧ ∃ x : Fire, s.firing n = some x ∧ x.decided = false ∧ early = false ∧ s.outOn n (b2n b) = true ∧ (x.fbA && x.fbB) = false) ∧
    (∃ s : State, s.running = true ∧ ∃ n : Fin 4, ((s.outFunc n ≠ 1 ∧ s.outFunc n ≠ 3) ∨ s.safe.record = [])) ∧
    (∃ s : State, s.running = true ∧ ∃ n : Fin 4, ∃ b : Bool, ∃ saw : Bool, (s.outFunc n = 1 ∨ s.outFunc n = 3) ∧ s.safe.record ≠ [] ∧ ∃ v : State, v = s.reachPulseEnd (outSlot n (b2n b)) ∧ (saw = true ∨ v.chanWanted n (b2n b) = false ∨ v.now < Map.get 0 s.safe.changeAt (2 * n.val + b2n b) + s.tpWidth)) ∧
    (∃ s : State, s.running = true ∧ ∃ n : Fin 4, ∃ b : Bool, ∃ saw : Bool, (s.outFunc n = 1 ∨ s.outFunc n = 3) ∧ s.safe.record ≠ [] ∧ ∃ v : State, v = s.reachPulseEnd (outSlot n (b2n b)) ∧ saw = false ∧ v.chanWanted n (b2n b) = true ∧ Map.get 0 s.safe.changeAt (2 * n.val + b2n b) + s.tpWidth ≤ v.now) ∧
    (∃ s : State, s.running = true ∧ ∃ n : Fin 4, Map.get none s.safe.degEnd n.val = none) ∧
    (∃ s : State, s.running = true ∧ ∃ n : Fin 4, ∃ t0 : Nat, Map.get none s.safe.degEnd n.val = some t0 ∧ s.locked n = false) ∧
    (∃ s : State, s.running = true ∧ s.safe.bypAt = none) ∧
    (∃ s : State, s.running = true ∧ ∃ t0, s.safe.bypAt = some t0) ∧
    (∃ s : State, s.running = true ∧ ∃ n : Fin 4, s.firing n = none) ∧
    (∃ s : State, s.running = true ∧ ∃ n : Fin 4, ∃ x : Fire, s.firing n = some x ∧ x.decided = true) ∧
    (∃ s : State, s.running = true ∧ ∃ n : Fin 4, ∃ x : Fire, s.firing n = some x ∧ x.decided = false) :=
  ⟨⟨(outp 0 1 [(F.SAFE_OUT_ON_A 0, 1), (F.SAFE_OUT_ON_B 0, 1), (F.SAFE_OUT_CLASS 0, 1)]), by decide +kernel, 3, false, _, rfl, _, rfl, _, rfl, _, rfl, by decide +kernel⟩,
   ⟨(outp 0 1 [(F.SAFE_OUT_ON_A 0, 1), (F.SAFE_OUT_ON_B 0, 1), (F.SAFE_OUT_CLASS 0, 1)]), by decide +kernel, 0, false, _, rfl, _, rfl, _, rfl, _, rfl, by decide +kernel⟩,
   ⟨(onn [] fA ch2), by decide +kernel, 1, true, true, _, rfl, _, rfl, _, rfl, _, rfl, fA, by decide +kernel⟩,
   ⟨(onn [] fA ch2), by decide +kernel, 1, true, false, _, rfl, _, rfl, _, rfl, _, rfl, fA, by decide +kernel⟩,
   ⟨(onn [] fA []), by decide +kernel, 1, false, _, rfl, _, rfl, _, rfl, _, rfl, fA, by decide +kernel⟩,
   ⟨(outp 0 1 [(F.SAFE_OUT_ON_A 0, 1), (F.SAFE_OUT_ON_B 0, 1), (F.SAFE_OUT_CLASS 0, 1)]), by decide +kernel, 3, by decide +kernel⟩,
   ⟨(outp 0 1 [(F.SAFE_OUT_ON_A 0, 1), (F.SAFE_OUT_ON_B 0, 1), (F.SAFE_OUT_CLASS 0, 1)]), by decide +kernel, 0, false, true, by decide +kernel, by decide +kernel, _, rfl, by decide +kernel⟩,
   ⟨(outp 0 1 [(F.SAFE_OUT_ON_A 0, 1), (F.SAFE_OUT_ON_B 0, 1), (F.SAFE_OUT_CLASS 0, 1)]), by decide +kernel, 0, false, false, by decide +kernel, by decide +kernel, _, rfl, by decide +kernel⟩,
   ⟨(outp 0 1 [(F.SAFE_OUT_ON_A 0, 1), (F.SAFE_OUT_ON_B 0, 1), (F.SAFE_OUT_CLASS 0, 1)]), by decide +kernel, 3, by decide +kernel⟩,
   ⟨{ (outp 0 1 [(F.SAFE_OUT_CLASS 0, 1), (F.SAFE_OUT_DEG 0, 1)]) with safe.chFault := [(0, true)], safe.degEnd := [(0, some 10000000500)] }, by decide +kernel, 0, 10000000500, by decide +kernel⟩,
   ⟨(outp 0 1 [(F.SAFE_OUT_ON_A 0, 1), (F.SAFE_OUT_ON_B 0, 1), (F.SAFE_OUT_CLASS 0, 1)]), by decide +kernel⟩,
   ⟨{ (outp 1 2 [(F.SAFE_OUT_BYP_AUTO 1, 1), (F.CMD_NODE_KIND, 1), (F.SAFE_CAUSE_FHUB_BLOCK, 1)] 0 10) with safe.bypAt := some 10000000500 }, by decide +kernel, 10000000500, by decide +kernel⟩,
   ⟨(outp 0 1 [(F.SAFE_OUT_ON_A 0, 1), (F.SAFE_OUT_ON_B 0, 1), (F.SAFE_OUT_CLASS 0, 1)]), by decide +kernel, 3, by decide +kernel⟩,
   ⟨(onn [] fD []), by decide +kernel, 1, fD, by decide +kernel⟩,
   ⟨(onn [] fA ch2), by decide +kernel, 1, fA, by decide +kernel⟩⟩

end SafetyOutputs

namespace SafetyPanel

def pc : Packet := { source := 2, target := 0, seq := 3 }
def bsx (role : Nat) (l : List (Fld × Nat)) (st := 7) : State := (node role st l)
def al (t : Nat) (l : List (Fld × Nat)) (long := false) : State := { (bsx 1 l) with safe.ackLow := some t, safe.ackLong := long }

theorem wit_SafetyPanel :
    (∃ s : State, s.running = true ∧ s.on F.SAFE_PANEL_SEAL_OK = true) ∧
    (∃ s : State, s.running = true ∧ ∃ closed : Bool, (s.on F.SAFE_PANEL_SEAL_OK = false ∨ closed = true ∨ s.st = ST.CONFIG)) ∧
    (∃ s : State, s.running = true ∧ ∃ v : BitVec 16, s.f F.SAFE_PANEL_SW ≠ v.toNat) ∧
    (∃ s : State, s.running = true ∧ ∃ v : BitVec 16, (s.f F.SAFE_PANEL_SW = v.toNat ∨ s.on F.SAFE_PANEL_SEAL_OK = false)) ∧
    (∃ s : State, s.running = true ∧ s.safe.ackLow.isSome = true) ∧
    (∃ s : State, s.running = true ∧ s.safe.ackLow = none ∧ (s.safe.ackBarred = false ∨ s.safe.ackHigh + 1000000000 ≤ s.now)) ∧
    (∃ s : State, s.running = true ∧ s.safe.ackLow = none ∧ s.safe.ackBarred = true ∧ s.now < s.safe.ackHigh + 1000000000) ∧
    (∃ s : State, s.running = true ∧ ∃ t0, s.safe.ackLow = some t0 ∧ s.safe.ackLong = false ∧ s.f F.SAFE_ACK_ACK_MODE = 1 ∧ 1000000000 ≤ s.now - t0 ∧ s.now - t0 ≤ 5000000000) ∧
    (∃ s : State, s.running = true ∧ ∃ t0, s.safe.ackLow = some t0 ∧ (s.safe.ackLong = true ∨ s.f F.SAFE_ACK_ACK_MODE ≠ 1 ∨ s.now - t0 < 1000000000 ∨ 5000000000 < s.now - t0)) ∧
    (∃ s : State, s.running = true ∧ (s.safe.ackLow = none ∨ s.safe.ackLong = true)) ∧
    (∃ s : State, s.running = true ∧ s.safe.winEnd = none) ∧
    (∃ s : State, s.running = true ∧ ∃ t0, s.safe.winEnd = some t0) ∧
    (∃ s : State, s.running = true ∧ s.safe.remote = none) ∧
    (∃ s : State, s.running = true ∧ ∃ p : Packet, ∃ t0 : Nat, ∃ q : Nat, s.safe.remote = some (p, t0, q)) :=
  ⟨⟨(bsx 1 [(F.SAFE_PANEL_SEAL_OK, 1), (F.SAFE_STAT_SEAL, 1), (F.SAFE_STAT_REC_MATCH, 1)]), by decide +kernel⟩,
   ⟨(bsx 1 [(F.SAFE_PANEL_SEAL_OK, 1), (F.SAFE_STAT_SEAL, 1), (F.SAFE_STAT_REC_MATCH, 1)]), by decide +kernel, true, by decide +kernel⟩,
   ⟨(bsx 1 [(F.SAFE_PANEL_SEAL_OK, 1), (F.SAFE_STAT_SEAL, 1), (F.SAFE_STAT_REC_MATCH, 1)]), by decide +kernel, 0xffff, by decide +kernel⟩,
   ⟨(bsx 1 [(F.SAFE_PANEL_SEAL_OK, 1), (F.SAFE_STAT_SEAL, 1), (F.SAFE_STAT_REC_MATCH, 1)]), by decide +kernel, 0, by decide +kernel⟩,
   ⟨(al 9000000000 [(F.SAFE_ACK_ACK_MODE, 1), (F.SAFE_ACK_WIN_ID, 65535)]), by decide +kernel⟩,
   ⟨(bsx 1 [(F.SAFE_PANEL_SEAL_OK, 1), (F.SAFE_STAT_SEAL, 1), (F.SAFE_STAT_REC_MATCH, 1)]), by decide +kernel⟩,
   ⟨{ (bsx 1 []) with safe.ackBarred := true, safe.ackHigh := 9500000000 }, by decide +kernel⟩,
   ⟨(al 9000000000 [(F.SAFE_ACK_ACK_MODE, 1), (F.SAFE_ACK_WIN_ID, 65535)]), by decide +kernel, 9000000000, by decide +kernel⟩,
   ⟨(al 4999999999 [(F.SAFE_ACK_ACK_MODE, 1)]), by decide +kernel, 4999999999, by decide +kernel⟩,
   ⟨(bsx 1 [(F.SAFE_PANEL_SEAL_OK, 1), (F.SAFE_STAT_SEAL, 1), (F.SAFE_STAT_REC_MATCH, 1)]), by decide +kernel⟩,
   ⟨(bsx 1 [(F.SAFE_PANEL_SEAL_OK, 1), (F.SAFE_STAT_SEAL, 1), (F.SAFE_STAT_REC_MATCH, 1)]), by decide +kernel⟩,
   ⟨{ (bsx 1 [(F.SAFE_PANEL_WIN, 1), (F.SAFE_PANEL_WIN_LEFT, 3)]) with safe.winEnd := some 10000000500 }, by decide +kernel, 10000000500, by decide +kernel⟩,
   ⟨(bsx 1 [(F.SAFE_PANEL_SEAL_OK, 1), (F.SAFE_STAT_SEAL, 1), (F.SAFE_STAT_REC_MATCH, 1)]), by decide +kernel⟩,
   ⟨{ (bsx 1 []) with safe.remote := some (pc, 9999999999, 5) }, by decide +kernel, pc, 9999999999, 5, by decide +kernel⟩⟩

end SafetyPanel

namespace SafetyCommands

def recBytes (l : List (Nat × Nat × Nat)) : List Byte :=
  let base : List (Nat × Nat × Nat) := [(0, 1, 1), (1, 1, 1), (2, 2, 9), (4, 1, 20), (5, 1, 5), (6, 2, 100), (8, 2, 100), (10, 2, 10), (12, 1, 3), (13, 1, 4)] ++ ([0,1,2,3].map (fun n => (34 + 4 * n, 2, 5))) ++ ((List.range 16).map (fun k => (48 + 16 * k, 4, 0x3F800000)))
  let b := (base ++ l).foldl (fun (b : List Byte) x => b.take x.1 ++ leBytes x.2.1 x.2.2 ++ b.drop (x.1 + x.2.1)) (List.replicate 304 0)
  b ++ leBytes 2 (crc16 b)
def rA : List Byte := recBytes [(16, 1, 2), (20, 1, 1), (32, 1, 1), (36, 1, 2), (37, 1, 4), (40, 1, 3), (48, 4, 0x3F800000), (60, 1, 0x80)]
def pc : Packet := { source := 2, target := 0, seq := 3 }
def bsx (role : Nat) (l : List (Fld × Nat)) (st := 7) : State := (node role st ([(F.SAFE_PANEL_SEAL_OK, 1)] ++ l))
def crcOf (b : List Byte) : Nat := numAt b 304 2
def dm (l : List (Fld × Nat)) (st := 7) : State := { (bsx 2 l st) with safe.record := rA, tree.strings := 2 }
def rs (l : List (Fld × Nat)) : State := bsx 1 ([(F.SAFE_STAT_CHB_OK, 1), (F.SAFE_ACK_ACK_MODE, 1), (F.SAFE_PANEL_WIN, 1), (F.SAFE_ACK_WIN_ID, 77)] ++ l)

set_option maxRecDepth 100000 in
theorem wit_SafetyCommands :
    (∃ p : Packet, ∃ p1 : Packet, ∃ s : State, ∃ s1 : State, Admitted rowSafeCfgLoad p s s1 p1 ∧ (s1.st ≠ ST.CONFIG ∨ s1.on F.SAFE_PANEL_SEAL_OK = false)) ∧
    (∃ p : Packet, ∃ p1 : Packet, ∃ s : State, ∃ s1 : State, Admitted rowSafeCfgLoad p s s1 p1 ∧ s1.st = ST.CONFIG ∧ s1.on F.SAFE_PANEL_SEAL_OK = true ∧ (∀ x ∈ recordChecks p.params, x.2 = false) ∧ numAt p.params 304 2 = s1.f F.SAFE_PANEL_SW) ∧
    (∃ p : Packet, ∃ p1 : Packet, ∃ s : State, ∃ s1 : State, Admitted rowSafeCfgLoad p s s1 p1 ∧ s1.st = ST.CONFIG ∧ s1.on F.SAFE_PANEL_SEAL_OK = true ∧ (∀ x ∈ recordChecks p.params, x.2 = false) ∧ numAt p.params 304 2 ≠ s1.f F.SAFE_PANEL_SW) ∧
    (∃ p : Packet, ∃ p1 : Packet, ∃ s : State, ∃ s1 : State, ∃ o, Admitted rowSafeCfgLoad p s s1 p1 ∧ s1.st = ST.CONFIG ∧ s1.on F.SAFE_PANEL_SEAL_OK = true ∧ (recordChecks p.params).find? (fun x => x.2) = some (o, true)) ∧
    (∃ p : Packet, ∃ p1 : Packet, ∃ s : State, ∃ s1 : State, Admitted rowSafeDemand p s s1 p1 ∧ ((p.params.length ≠ 1 ∧ p.params.length ≠ 3) ∨ (numAt p.params 0 1 ≠ 1 ∧ numAt p.params 0 1 ≠ 3))) ∧
    (∃ p : Packet, ∃ p1 : Packet, ∃ s : State, ∃ s1 : State, Admitted rowSafeDemand p s s1 p1 ∧ (p.params.length = 1 ∨ p.params.length = 3) ∧ (numAt p.params 0 1 = 1 ∨ numAt p.params 0 1 = 3) ∧ (numAt p.params 0 1 = 3 ∨ s1.isMeadow = false)) ∧
    (∃ p : Packet, ∃ p1 : Packet, ∃ s : State, ∃ s1 : State, ∃ mask, ∃ k, Admitted rowSafeDemand p s s1 p1 ∧ s1.isMeadow = true ∧ p.params = 1 :: leBytes 2 mask ∧ mask < 65536 ∧ s1.level = 0 ∧ s1.safe.commandLvl = 0 ∧ s1.on F.SAFE_STAT_SS = false ∧ s1.safe.ssEnded = false ∧ k ∈ s1.strings ∧ bit mask k = true ∧ s1.ssEn k = true ∧ bit s1.safe.ssSgr k = false ∧ s1.ssActive k = false) ∧
    (∃ p : Packet, ∃ p1 : Packet, ∃ s : State, ∃ s1 : State, Admitted rowSafeReset p s s1 p1 ∧ p.params.length ≠ 2) ∧
    (∃ p : Packet, ∃ p1 : Packet, ∃ s : State, ∃ s1 : State, ∃ id, Admitted rowSafeReset p s s1 p1 ∧ p.params = leBytes 2 id ∧ id < 65536 ∧ s1.resetAllowed = false) ∧
    (∃ p : Packet, ∃ p1 : Packet, ∃ s : State, ∃ s1 : State, ∃ id, Admitted rowSafeReset p s s1 p1 ∧ p.params = leBytes 2 id ∧ id < 65536 ∧ s1.resetAllowed = true ∧ (s1.f F.SAFE_ACK_ACK_MODE = 1 ∨ (s1.f F.SAFE_ACK_ACK_MODE = 2 ∧ s1.route (s1.f F.SAFE_ACK_ACK_NODE) = .here)) ∧ s1.on F.SAFE_PANEL_WIN = true ∧ s1.f F.SAFE_ACK_WIN_ID = id ∧ ∃ late : Bool, late = s1.safe.setAt.any (fun x => s1.cause x.1 && decide (x.1 < 10) && x.1 != 4 && x.1 != 5 && x.1 != 6 && x.2 / 2000 == s1.clk.nowPs / 2000)) ∧
    (∃ p : Packet, ∃ p1 : Packet, ∃ s : State, ∃ s1 : State, ∃ id, Admitted rowSafeReset p s s1 p1 ∧ p.params = leBytes 2 id ∧ id < 65536 ∧ s1.resetAllowed = true ∧ (s1.f F.SAFE_ACK_ACK_MODE = 1 ∨ (s1.f F.SAFE_ACK_ACK_MODE = 2 ∧ s1.route (s1.f F.SAFE_ACK_ACK_NODE) = .here)) ∧ (s1.on F.SAFE_PANEL_WIN = false ∨ s1.f F.SAFE_ACK_WIN_ID ≠ id)) ∧
    (∃ p : Packet, ∃ p1 : Packet, ∃ s : State, ∃ s1 : State, ∃ id, Admitted rowSafeReset p s s1 p1 ∧ p.params = leBytes 2 id ∧ id < 65536 ∧ s1.resetAllowed = true ∧ s1.f F.SAFE_ACK_ACK_MODE ≠ 1 ∧ s1.f F.SAFE_ACK_ACK_MODE ≠ 2) ∧
    (∃ p : Packet, ∃ p1 : Packet, ∃ s : State, ∃ s1 : State, ∃ id, Admitted rowSafeReset p s s1 p1 ∧ p.params = leBytes 2 id ∧ id < 65536 ∧ s1.resetAllowed = true ∧ s1.f F.SAFE_ACK_ACK_MODE = 2 ∧ s1.route (s1.f F.SAFE_ACK_ACK_NODE) ≠ .here ∧ s1.safe.remote.isSome = true) ∧
    (∃ p : Packet, ∃ p1 : Packet, ∃ s : State, ∃ s1 : State, ∃ id, Admitted rowSafeReset p s s1 p1 ∧ p.params = leBytes 2 id ∧ id < 65536 ∧ s1.resetAllowed = true ∧ s1.f F.SAFE_ACK_ACK_MODE = 2 ∧ s1.route (s1.f F.SAFE_ACK_ACK_NODE) ≠ .here ∧ s1.safe.remote = none) ∧
    (∃ p : Packet, ∃ p1 : Packet, ∃ s : State, ∃ s1 : State, ∃ c, Admitted rowSafeBypass p s s1 p1 ∧ (p.params.length ≠ 1 ∨ (p.params = [BitVec.ofNat 8 c] ∧ c < 256 ∧ c ∉ s1.cells))) ∧
    (∃ p : Packet, ∃ p1 : Packet, ∃ s : State, ∃ s1 : State, ∃ c, Admitted rowSafeBypass p s s1 p1 ∧ p.params = [BitVec.ofNat 8 c] ∧ c < 256 ∧ c ∈ s1.cells ∧ ∃ out : Option Nat, out = outNumbers.find? (fun n => s1.outFunc n == 2 && s1.f (F.SAFE_OUT_CELL n) == c && !s1.locked n && (s1.firing n).isNone) ∧ ∃ n, out = some n ∧ s1.cellForced c = true) ∧
    (∃ p : Packet, ∃ p1 : Packet, ∃ s : State, ∃ s1 : State, ∃ c, Admitted rowSafeBypass p s s1 p1 ∧ p.params = [BitVec.ofNat 8 c] ∧ c < 256 ∧ c ∈ s1.cells ∧ ∃ out : Option Nat, out = outNumbers.find? (fun n => s1.outFunc n == 2 && s1.f (F.SAFE_OUT_CELL n) == c && !s1.locked n && (s1.firing n).isNone) ∧ (out = none ∨ s1.cellForced c = false)) :=
  ⟨⟨(pk [3]), _, (bsx 1 []), _, admitted_self (by decide +kernel), by decide +kernel⟩,
   ⟨(pk rA), _, (bsx 1 [(F.SAFE_PANEL_SW, crcOf rA)] 5), _, admitted_self (by decide +kernel), by decide +kernel⟩,
   ⟨(pk rA), _, (bsx 2 [] 5), _, admitted_self (by decide +kernel), by decide +kernel⟩,
   ⟨(pk (rA.take 300)), _, (bsx 1 [(F.SAFE_PANEL_SW, crcOf rA)] 5), _, 0, admitted_self (by decide +kernel), by decide +kernel⟩,
   ⟨(pk rA), _, (bsx 1 [(F.SAFE_PANEL_SW, crcOf rA)] 5), _, admitted_self (by decide +kernel), by decide +kernel⟩,
   ⟨(pk [3]), _, (bsx 1 []), _, admitted_self (by decide +kernel), by decide +kernel⟩,
   ⟨(pk ([1] ++ leBytes 2 65535)), _, (dm [] 7), _, 65535, 0, admitted_self (by decide +kernel), by decide +kernel⟩,
   ⟨(pk rA), _, (bsx 1 [(F.SAFE_PANEL_SW, crcOf rA)] 5), _, admitted_self (by decide +kernel), by decide +kernel⟩,
   ⟨(pk (leBytes 2 77)), _, (rs [(F.SAFE_IN_FUNC 2, 1), (F.SAFE_IN_DEM 2, 1)]), _, 77, admitted_self (by decide +kernel), by decide +kernel⟩,
   ⟨(pk (leBytes 2 77)), _, (rs []), _, 77, admitted_self (by decide +kernel), by decide +kernel, by decide +kernel, by decide +kernel, by decide +kernel, by decide +kernel, by decide +kernel, _, rfl⟩,
   ⟨(pk (leBytes 2 77)), _, (rs [(F.SAFE_PANEL_WIN, 0)]), _, 77, admitted_self (by decide +kernel), by decide +kernel⟩,
   ⟨(pk (leBytes 2 77)), _, (rs [(F.SAFE_ACK_ACK_MODE, 0)]), _, 77, admitted_self (by decide +kernel), by decide +kernel⟩,
   ⟨(pk (leBytes 2 77)), _, { rs [(F.SAFE_ACK_ACK_MODE, 2), (F.SAFE_ACK_ACK_NODE, 5)] with safe.remote := some (pc, 9999999999, 5) }, _, 77, admitted_self (by decide +kernel), by decide +kernel⟩,
   ⟨(pk (leBytes 2 77)), _, (rs [(F.SAFE_ACK_ACK_MODE, 2), (F.SAFE_ACK_ACK_NODE, 5)]), _, 77, admitted_self (by decide +kernel), by decide +kernel⟩,
   ⟨(pk rA), _, { (bsx 0 [(F.SAFE_PANEL_SW, crcOf rA)] 5) with safe.known := (List.range 8).map (fun i => (i, true)) }, _, 304, admitted_self (by decide +kernel), by decide +kernel⟩,
   ⟨(pk [0]), _, (bsx 0 [(F.CMD_NODE_KIND, 1), (F.SAFE_OUT_FUNC 2, 2)] 10), _, 0, admitted_self (by decide +kernel), by decide +kernel, by decide +kernel, by decide +kernel, _, rfl, 2, by decide +kernel⟩,
   ⟨(pk [0]), _, (bsx 0 [(F.CMD_NODE_KIND, 3), (F.SAFE_OUT_FUNC 2, 2), (F.SAFE_OUT_CELL 2, 1), (F.SAFE_CAUSE_FHUB_BLOCK, 1)] 10), _, 0, admitted_self (by decide +kernel), by decide +kernel, by decide +kernel, by decide +kernel, _, rfl, by decide +kernel⟩⟩

end SafetyCommands

namespace TwinPairs

def pc : Packet := { source := 2, target := 0, seq := 3 }
def twx (r : Nat) (l : List (Fld × Nat)) (t : Twin := {}) (role := 2) : State := { (node role 7 ([(F.TWIN_STAT_ROLE, r), (F.CMD_NODE_TWIN, 1)] ++ l)) with twin := t }
def q2 : Partner := { seen := true, role := 2, img := 7 }
def framex (f wa wb : Nat) : List Byte := List.replicate 78 0 ++ [BitVec.ofNat 8 (f + 2 * wa + 4 * wb)] ++ List.replicate 49 0
def unx (s : State) (fr : List (List Byte)) : State := fr.zipIdx.foldl (fun s x => ((s.setF (F.CMD_DL_USE (x.2)) 2).setUnit x.2 { frame := x.1 })) s
def w1 : Swap := { cmd := some pc, tick := 3, eject := false }
def tkx (s : State) : State := { s with clk.tickNum := 7 }

theorem wit_TwinPairs :
    (∃ s : State, s.running = true ∧ s.twin.waitAt = none) ∧
    (∃ s : State, s.running = true ∧ ∃ t0, s.twin.waitAt = some t0) ∧
    (∃ s : State, s.running = true ∧ (s.isTwin = false ∨ s.f F.TWIN_STAT_HB_MISS ≠ 2 ∨ s.twin.hbFresh = true)) ∧
    (∃ s : State, s.running = true ∧ s.isTwin = true ∧ s.f F.TWIN_STAT_HB_MISS = 2 ∧ s.twin.hbFresh = false ∧ ∃ k : Nat, k = (s.reporting.filter (fun u => !(if s.memberB then u.witA else u.witB))).length ∧ s.reporting.length < 32) ∧
    (∃ s : State, s.running = true ∧ s.isTwin = true ∧ s.f F.TWIN_STAT_HB_MISS = 2 ∧ s.twin.hbFresh = false ∧ ∃ k : Nat, k = (s.reporting.filter (fun u => !(if s.memberB then u.witA else u.witB))).length ∧ s.twinRole = ROLE.ACTIVE) ∧
    (∃ s : State, s.running = true ∧ s.isTwin = true ∧ s.f F.TWIN_STAT_HB_MISS = 2 ∧ s.twin.hbFresh = false ∧ ∃ k : Nat, k = (s.reporting.filter (fun u => !(if s.memberB then u.witA else u.witB))).length ∧ s.twinRole = ROLE.READY) ∧
    (∃ s : State, s.running = true ∧ s.isTwin = true ∧ s.f F.TWIN_STAT_HB_MISS = 2 ∧ s.twin.hbFresh = false ∧ ∃ k : Nat, k = (s.reporting.filter (fun u => !(if s.memberB then u.witA else u.witB))).length ∧ s.twinRole ≠ ROLE.READY) ∧
    (∃ s : State, s.running = true ∧ s.isTwin = true ∧ s.f F.TWIN_STAT_HB_MISS = 2 ∧ s.twin.hbFresh = false ∧ ∃ k : Nat, k = (s.reporting.filter (fun u => !(if s.memberB then u.witA else u.witB))).length ∧ s.reporting = []) ∧
    (∃ s : State, s.running = true ∧ (∀ w : Swap, s.twin.swap = some w → s.tickNo < w.tick + 4 ∨ s.twinRole ≠ ROLE.ACTIVE)) ∧
    (∃ s : State, s.running = true ∧ ∃ w : Swap, s.twin.swap = some w ∧ w.tick + 4 ≤ s.tickNo ∧ s.twinRole = ROLE.ACTIVE) ∧
    (∃ s : State, s.running = true ∧ (s.f F.TWIN_CFG_SWAP_DAYS = 0 ∨ s.twinRole ≠ ROLE.ACTIVE ∨ s.twin.swap.isSome = true)) ∧
    (∃ s : State, s.running = true ∧ s.f F.TWIN_CFG_SWAP_DAYS ≠ 0 ∧ s.twinRole = ROLE.ACTIVE ∧ s.twin.swap = none ∧ s.twin.retryAt = none) ∧
    (∃ s : State, s.running = true ∧ s.f F.TWIN_CFG_SWAP_DAYS ≠ 0 ∧ s.twinRole = ROLE.ACTIVE ∧ s.twin.swap = none ∧ s.swapAllowed = true) ∧
    (∃ s : State, s.running = true ∧ s.f F.TWIN_CFG_SWAP_DAYS ≠ 0 ∧ s.twinRole = ROLE.ACTIVE ∧ s.twin.swap = none ∧ s.swapAllowed = false) ∧
    (∃ s : State, s.running = true ∧ s.swapAllowed = true) ∧
    (∃ s : State, s.running = true ∧ s.isTwin = true ∧ (s.twinRole = ROLE.READY ∨ s.twinRole = ROLE.SYNC)) ∧
    (∃ s : State, s.running = true ∧ s.swapAllowed = false ∧ (s.isTwin = false ∨ (s.twinRole ≠ ROLE.READY ∧ s.twinRole ≠ ROLE.SYNC))) ∧
    (∃ s : State, s.running = true ∧ s.twin.ejected = true) ∧
    (∃ s : State, s.running = true ∧ s.twin.ejected = false) ∧
    (∃ s : State, s.running = true ∧ s.twinRole = ROLE.ACTIVE ∧ s.twin.partner.role ≠ ROLE.READY ∧ s.twin.noStandbySaid = false) ∧
    (∃ s : State, s.running = true ∧ (s.twinRole ≠ ROLE.ACTIVE ∨ s.twin.partner.role = ROLE.READY ∨ s.twin.noStandbySaid = true)) ∧
    (∃ s : State, s.running = true ∧ (s.twinRole = ROLE.READY ∨ s.twinRole = ROLE.SYNC) ∧ 16 ≤ s.f F.TWIN_AGE_IMG_AGE ∧ s.twin.lagSaid = false) ∧
    (∃ s : State, s.running = true ∧ ((s.twinRole ≠ ROLE.READY ∧ s.twinRole ≠ ROLE.SYNC) ∨ s.f F.TWIN_AGE_IMG_AGE < 16 ∨ s.twin.lagSaid = true)) ∧
    (∃ p : Packet, ∃ p1 : Packet, ∃ s : State, ∃ s1 : State, Admitted rowDuplexSwap p s s1 p1 ∧ p.params ≠ []) ∧
    (∃ p : Packet, ∃ p1 : Packet, ∃ s : State, ∃ s1 : State, Admitted rowDuplexSwap p s s1 p1 ∧ p.params = [] ∧ s1.swapAllowed = true) ∧
    (∃ p : Packet, ∃ p1 : Packet, ∃ s : State, ∃ s1 : State, Admitted rowDuplexSwap p s s1 p1 ∧ p.params = [] ∧ s1.swapAllowed = false) ∧
    (∃ p : Packet, ∃ p1 : Packet, ∃ s : State, ∃ s1 : State, Admitted rowTwinResync p s s1 p1 ∧ p.params ≠ []) ∧
    (∃ p : Packet, ∃ p1 : Packet, ∃ s : State, ∃ s1 : State, Admitted rowTwinResync p s s1 p1 ∧ p.params = [] ∧ s1.twinRole ≠ ROLE.ACTIVE) ∧
    (∃ p : Packet, ∃ p1 : Packet, ∃ s : State, ∃ s1 : State, Admitted rowTwinResync p s s1 p1 ∧ p.params = [] ∧ s1.twinRole = ROLE.ACTIVE) :=
  ⟨⟨(twx 1 [(F.TWIN_STAT_HB_MISS, 2)]), by decide +kernel⟩,
   ⟨(twx 0 [(F.TWIN_CFG_START_WAIT, 5)] { waitAt := some 9800000000 }), by decide +kernel, 9800000000, by decide +kernel⟩,
   ⟨(twx 0 [(F.TWIN_CFG_START_WAIT, 5)] { waitAt := some 9800000000 }), by decide +kernel⟩,
   ⟨(twx 1 [(F.TWIN_STAT_HB_MISS, 2)]), by decide +kernel, by decide +kernel, by decide +kernel, by decide +kernel, _, rfl, by decide +kernel⟩,
   ⟨(twx 1 [(F.TWIN_STAT_HB_MISS, 2)]), by decide +kernel, by decide +kernel, by decide +kernel, by decide +kernel, _, rfl, by decide +kernel⟩,
   ⟨(unx (twx 2 [(F.TWIN_STAT_HB_MISS, 2)] { noSee := true, epochSeen := 65535 }) [framex 0 0 0, framex 1 1 0, framex 1 0 1]), by decide +kernel, by decide +kernel, by decide +kernel, by decide +kernel, _, rfl, by decide +kernel⟩,
   ⟨(twx 1 [(F.TWIN_STAT_HB_MISS, 2)]), by decide +kernel, by decide +kernel, by decide +kernel, by decide +kernel, _, rfl, by decide +kernel⟩,
   ⟨(twx 1 [(F.TWIN_STAT_HB_MISS, 2)]), by decide +kernel, by decide +kernel, by decide +kernel, by decide +kernel, _, rfl, by decide +kernel⟩,
   ⟨(twx 0 [(F.TWIN_CFG_START_WAIT, 5)] { waitAt := some 9800000000 }), by decide +kernel⟩,
   ⟨(tkx (twx 1 [] { swap := some w1, partner := q2 })), by decide +kernel, w1, by decide +kernel⟩,
   ⟨(twx 0 [(F.TWIN_CFG_START_WAIT, 5)] { waitAt := some 9800000000 }), by decide +kernel⟩,
   ⟨(twx 1 [(F.TWIN_STAT_HB_MISS, 2)]), by decide +kernel⟩,
   ⟨(twx 1 [(F.TWIN_CFG_SWAP_DAYS, 1)] { partner := q2, commits := 8 }), by decide +kernel⟩,
   ⟨(twx 1 [(F.TWIN_STAT_HB_MISS, 2)]), by decide +kernel⟩,
   ⟨(twx 1 [(F.TWIN_CFG_SWAP_DAYS, 1)] { partner := q2, commits := 8 }), by decide +kernel⟩,
   ⟨(unx (twx 2 [(F.TWIN_STAT_HB_MISS, 2)] { noSee := true, epochSeen := 65535 }) [framex 0 0 0, framex 1 1 0, framex 1 0 1]), by decide +kernel⟩,
   ⟨(twx 0 [(F.TWIN_CFG_START_WAIT, 5)] { waitAt := some 9800000000 }), by decide +kernel⟩,
   ⟨(twx 0 [(F.TWIN_STAT_EJECT, 2)] { ejected := true }), by decide +kernel⟩,
   ⟨(twx 0 [(F.TWIN_CFG_START_WAIT, 5)] { waitAt := some 9800000000 }), by decide +kernel⟩,
   ⟨(twx 1 [(F.TWIN_STAT_HB_MISS, 2)]), by decide +kernel⟩,
   ⟨(twx 0 [(F.TWIN_CFG_START_WAIT, 5)] { waitAt := some 9800000000 }), by decide +kernel⟩,
   ⟨(twx 2 [(F.TWIN_AGE_IMG_AGE, 16)]), by decide +kernel⟩,
   ⟨(twx 0 [(F.TWIN_CFG_START_WAIT, 5)] { waitAt := some 9800000000 }), by decide +kernel⟩,
   ⟨(pk [1]), _, (tkx (twx 1 [] { swap := some w1, partner := q2 })), _, admitted_self (by decide +kernel), by decide +kernel⟩,
   ⟨(pk []), _, (twx 1 [(F.TWIN_CFG_SWAP_DAYS, 1)] { partner := q2, commits := 8 }), _, admitted_self (by decide +kernel), by decide +kernel⟩,
   ⟨(pk []), _, (tkx (twx 1 [] { swap := some w1, partner := q2 })), _, admitted_self (by decide +kernel), by decide +kernel⟩,
   ⟨(pk [1]), _, (tkx (twx 1 [] { swap := some w1, partner := q2 })), _, admitted_self (by decide +kernel), by decide +kernel⟩,
   ⟨(pk []), _, (twx 2 []), _, admitted_self (by decide +kernel), by decide +kernel⟩,
   ⟨(pk []), _, (tkx (twx 1 [] { swap := some w1, partner := q2 })), _, admitted_self (by decide +kernel), by decide +kernel⟩⟩

end TwinPairs

namespace AgingEstimates

def clx (c : Nat) (x : CellLife) (l : List (Fld × Nat)) (kind := 3) : State := { (node 0 8 ([(F.CMD_NODE_KIND, kind), (F.LIFE_C_EST_EST_N c, 4)] ++ l)) with life.cells := [(c, x)] }
def swl (n : Nat) (x : SwitchLife) (l : List (Fld × Nat)) : State := { (node 0 8 ([(F.CMD_NODE_KIND, 3)] ++ l)) with life.switches := [(n, x)] }

theorem wit_AgingEstimates :
    (∃ s : State, s.running = true ∧ ∃ c : Fin 2, (c.val ∉ s.cells ∨ (s.cellLife c).n < 2 ^ s.f (F.LIFE_C_EST_EST_N c))) ∧
    (∃ s : State, s.running = true ∧ ∃ c : Fin 2, c.val ∈ s.cells ∧ 2 ^ s.f (F.LIFE_C_EST_EST_N c) ≤ (s.cellLife c).n ∧ ((s.cellLife c).sqv ≤ 0 ∨ s.f (F.LIFE_C_CNOM_CNOM c) = 0)) ∧
    (∃ s : State, s.running = true ∧ ∃ c : Fin 2, c.val ∈ s.cells ∧ 2 ^ s.f (F.LIFE_C_EST_EST_N c) ≤ (s.cellLife c).n ∧ 0 < (s.cellLife c).sqv ∧ s.f (F.LIFE_C_CNOM_CNOM c) ≠ 0) ∧
    (∃ s : State, s.running = true ∧ ∃ c : Fin 2, (s.cellLife c).esrN < 256) ∧
    (∃ s : State, s.running = true ∧ ∃ c : Fin 2, ∃ num : Int, ∃ den : Int, 256 ≤ (s.cellLife c).esrN ∧ num = (s.cellLife c).esrNum ∧ den = 256 * (s.cellLife c).esrDen ∧ 0 ≤ num) ∧
    (∃ s : State, s.running = true ∧ ∃ n : Fin 4, (s.switchLife n).n < 4096) ∧
    (∃ s : State, s.running = true ∧ ∃ n : Fin 4, 4096 ≤ (s.switchLife n).n ∧ (s.switchLife n).sum < 65535 * 4096) ∧
    (∃ s : State, s.running = true ∧ s.siliconRuns = false) ∧
    (∃ s : State, s.running = true ∧ ∃ v : Int, s.siliconRuns = true ∧ clampInt (-8192) 8191 v < s.f F.LIFE_AVS_CFG_SLACK_CRIT) ∧
    (∃ s : State, s.running = true ∧ ∃ v : Int, s.siliconRuns = true ∧ (s.f F.LIFE_AVS_CFG_SLACK_CRIT : Int) ≤ clampInt (-8192) 8191 v) :=
  ⟨⟨(clx 0 { n := 16, sqv := 0, sqq := 5 } [(F.LIFE_C_CNOM_CNOM 0, 1000)]), by decide +kernel, 1, by decide +kernel⟩,
   ⟨(clx 0 { n := 16, sqv := 0, sqq := 5 } [(F.LIFE_C_CNOM_CNOM 0, 1000)]), by decide +kernel, 0, by decide +kernel⟩,
   ⟨(clx 0 { n := 16, sqv := 3000000000000, sqq := 500000000000 } [(F.LIFE_C_CNOM_CNOM 0, 1000), (F.LIFE_C_CLIM_CWARN 0, 60000), (F.LIFE_C_CEST_WINDOWS 0, 65535)] 1), by decide +kernel, 0, by decide +kernel⟩,
   ⟨(clx 0 { n := 16, sqv := 0, sqq := 5 } [(F.LIFE_C_CNOM_CNOM 0, 1000)]), by decide +kernel, 1, by decide +kernel⟩,
   ⟨(clx 0 { esrN := 256, esrNum := 256 * 77, esrDen := 1 } [(F.LIFE_C_ELIM_ESR_WARN 0, 76)]), by decide +kernel, 0, 19712, 256, by decide +kernel⟩,
   ⟨(clx 0 { n := 16, sqv := 0, sqq := 5 } [(F.LIFE_C_CNOM_CNOM 0, 1000)]), by decide +kernel, 3, by decide +kernel⟩,
   ⟨(swl 0 { n := 4096, sum := 4096 * 55 } []), by decide +kernel, 0, by decide +kernel⟩,
   ⟨(node 2 4 []), by decide +kernel⟩,
   ⟨(clx 0 { n := 16, sqv := 0, sqq := 5 } [(F.LIFE_C_CNOM_CNOM 0, 1000)]), by decide +kernel, 0, by decide +kernel⟩,
   ⟨(clx 0 { esrN := 256, esrNum := 256 * 77, esrDen := 1 } [(F.LIFE_C_ELIM_ESR_WARN 0, 76)]), by decide +kernel, 16776959, by decide +kernel⟩⟩

end AgingEstimates

namespace SupplyLanesAndReports

def avx (tg st slack : Nat) (sl : List Int) (l : List (Fld × Nat) := []) : State := { (node 1 8 ([(F.LIFE_CTRL_AVS_EN, 1), (F.LIFE_AVS_STAT_STATE, st), (F.LIFE_AVS_STAT_TARGET, tg), (F.LIFE_AVS_STAT_SLACK, slack), (F.LIFE_AVS_CFG_SLACK_LOW, 50), (F.LIFE_AVS_CFG_SLACK_HIGH, 90)] ++ l)) with life.slacks := sl }
def pmx (l : Life) (x : List (Fld × Nat)) : State := { (node 1 8 x) with life := l }
def opsx : List PmbOp := [.voutMode, .readStart, .write 805, .readBack]
def rpx (l : Life) (x : List (Fld × Nat)) : State := { (node 1 8 x) with life := l, clk.timePs := 77000000000123 }

theorem wit_SupplyLanesAndReports :
    (∃ s : State, s.running = true ∧ (s.siliconRuns = false ∨ s.on F.LIFE_CTRL_AVS_EN = false ∨ (s.f F.LIFE_AVS_STAT_STATE ≠ 1 ∧ s.f F.LIFE_AVS_STAT_STATE ≠ 2) ∨ s.f F.LIFE_AVS_STAT_TARGET = 0)) ∧
    (∃ s : State, s.running = true ∧ ∃ tg, ∃ st, s.siliconRuns = true ∧ s.on F.LIFE_CTRL_AVS_EN = true ∧ st = s.f F.LIFE_AVS_STAT_STATE ∧ (st = 1 ∨ st = 2) ∧ tg = s.f F.LIFE_AVS_STAT_TARGET ∧ tg ≠ 0 ∧ s.fi F.LIFE_AVS_STAT_SLACK < s.f F.LIFE_AVS_CFG_SLACK_LOW) ∧
    (∃ s : State, s.running = true ∧ ∃ tg, ∃ st, s.siliconRuns = true ∧ s.on F.LIFE_CTRL_AVS_EN = true ∧ st = s.f F.LIFE_AVS_STAT_STATE ∧ (st = 1 ∨ st = 2) ∧ tg = s.f F.LIFE_AVS_STAT_TARGET ∧ tg ≠ 0 ∧ (s.f F.LIFE_AVS_CFG_SLACK_LOW : Int) ≤ s.fi F.LIFE_AVS_STAT_SLACK) ∧
    (∃ s : State, s.running = true ∧ s.on F.LIFE_CTRL_AVS_EN = true ∧ s.f F.LIFE_AVS_STAT_STATE ≠ 3) ∧
    (∃ s : State, s.running = true ∧ (s.on F.LIFE_CTRL_AVS_EN = false ∨ s.f F.LIFE_AVS_STAT_STATE = 3)) ∧
    (∃ s : State, s.running = true ∧ (s.life.retryAt.isSome = true ∨ s.life.pmb = [])) ∧
    (∃ s : State, s.running = true ∧ ∃ op : PmbOp, ∃ rest : List PmbOp, ∃ answer : Option (BitVec 16), s.life.retryAt = none ∧ s.life.pmb = op :: rest ∧ ∃ x : Nat × Nat, x = linearMv (answer.getD 0).toNat s.life.expo ∧ (answer = none ∨ (op = .voutMode ∧ bits (answer.getD 0).toNat 7 5 ≠ 0) ∨ (op = .readBack ∧ ((s.f F.LIFE_AVS_STAT_TARGET + 10) * x.2 < x.1 ∨ x.1 + 10 * x.2 < s.f F.LIFE_AVS_STAT_TARGET * x.2))) ∧ s.life.retrying = false) ∧
    (∃ s : State, s.running = true ∧ ∃ op : PmbOp, ∃ rest : List PmbOp, ∃ answer : Option (BitVec 16), s.life.retryAt = none ∧ s.life.pmb = op :: rest ∧ ∃ x : Nat × Nat, x = linearMv (answer.getD 0).toNat s.life.expo ∧ (answer = none ∨ (op = .voutMode ∧ bits (answer.getD 0).toNat 7 5 ≠ 0) ∨ (op = .readBack ∧ ((s.f F.LIFE_AVS_STAT_TARGET + 10) * x.2 < x.1 ∨ x.1 + 10 * x.2 < s.f F.LIFE_AVS_STAT_TARGET * x.2))) ∧ s.life.retrying = true) ∧
    (∃ s : State, s.running = true ∧ ∃ op : PmbOp, ∃ rest : List PmbOp, ∃ answer : Option (BitVec 16), s.life.retryAt = none ∧ s.life.pmb = op :: rest ∧ ∃ x : Nat × Nat, x = linearMv (answer.getD 0).toNat s.life.expo ∧ ∃ mv : Nat, op = .write mv ∧ answer ≠ none ∧ s.life.expo ≤ 0) ∧
    (∃ s : State, s.running = true ∧ ∃ op : PmbOp, ∃ rest : List PmbOp, ∃ answer : Option (BitVec 16), s.life.retryAt = none ∧ s.life.pmb = op :: rest ∧ ∃ x : Nat × Nat, x = linearMv (answer.getD 0).toNat s.life.expo ∧ ∃ mv : Nat, op = .write mv ∧ answer ≠ none ∧ 0 < s.life.expo) ∧
    (∃ s : State, s.running = true ∧ ∃ op : PmbOp, ∃ rest : List PmbOp, ∃ answer : Option (BitVec 16), s.life.retryAt = none ∧ s.life.pmb = op :: rest ∧ ∃ x : Nat × Nat, x = linearMv (answer.getD 0).toNat s.life.expo ∧ op = .readStart ∧ answer ≠ none) ∧
    (∃ s : State, s.running = true ∧ ∃ op : PmbOp, ∃ rest : List PmbOp, ∃ answer : Option (BitVec 16), s.life.retryAt = none ∧ s.life.pmb = op :: rest ∧ ∃ x : Nat × Nat, x = linearMv (answer.getD 0).toNat s.life.expo ∧ op = .readBack ∧ answer ≠ none ∧ x.1 ≤ (s.f F.LIFE_AVS_STAT_TARGET + 10) * x.2 ∧ s.f F.LIFE_AVS_STAT_TARGET * x.2 ≤ x.1 + 10 * x.2) ∧
    (∃ s : State, s.running = true ∧ ∃ op : PmbOp, ∃ rest : List PmbOp, ∃ answer : Option (BitVec 16), s.life.retryAt = none ∧ s.life.pmb = op :: rest ∧ ∃ x : Nat × Nat, x = linearMv (answer.getD 0).toNat s.life.expo ∧ op = .voutMode ∧ answer ≠ none ∧ bits (answer.getD 0).toNat 7 5 = 0) ∧
    (∃ s : State, s.running = true ∧ (s.life.readAt = none ∨ s.life.retryAt.isSome = true)) ∧
    (∃ s : State, s.running = true ∧ ∃ t0 : Nat, ∃ answer : Option (BitVec 16), ∃ x : Nat × Nat, ∃ near : Bool, s.life.readAt = some t0 ∧ s.life.retryAt = none ∧ x = linearMv (answer.getD 0).toNat s.life.expo ∧ near = (answer.isSome && decide (x.1 ≤ (s.f F.LIFE_AVS_STAT_TARGET + 10) * x.2) && decide (s.f F.LIFE_AVS_STAT_TARGET * x.2 ≤ x.1 + 10 * x.2)) ∧ near = true) ∧
    (∃ s : State, s.running = true ∧ ∃ t0 : Nat, ∃ answer : Option (BitVec 16), ∃ x : Nat × Nat, ∃ near : Bool, s.life.readAt = some t0 ∧ s.life.retryAt = none ∧ x = linearMv (answer.getD 0).toNat s.life.expo ∧ near = (answer.isSome && decide (x.1 ≤ (s.f F.LIFE_AVS_STAT_TARGET + 10) * x.2) && decide (s.f F.LIFE_AVS_STAT_TARGET * x.2 ≤ x.1 + 10 * x.2)) ∧ near = false ∧ s.life.retrying = false) ∧
    (∃ s : State, s.running = true ∧ ∃ t0 : Nat, ∃ answer : Option (BitVec 16), ∃ x : Nat × Nat, ∃ near : Bool, s.life.readAt = some t0 ∧ s.life.retryAt = none ∧ x = linearMv (answer.getD 0).toNat s.life.expo ∧ near = (answer.isSome && decide (x.1 ≤ (s.f F.LIFE_AVS_STAT_TARGET + 10) * x.2) && decide (s.f F.LIFE_AVS_STAT_TARGET * x.2 ≤ x.1 + 10 * x.2)) ∧ near = false ∧ s.life.retrying = true) ∧
    (∃ s : State, s.running = true ∧ s.life.retryAt = none) ∧
    (∃ s : State, s.running = true ∧ ∃ t0 : Nat, ∃ answer : Option (BitVec 16), ∃ op : PmbOp, ∃ rest : List PmbOp, s.life.retryAt = some t0 ∧ s.life.pmb = op :: rest ∧ ∃ x : Nat × Nat, x = linearMv (answer.getD 0).toNat s.life.expo ∧ ∃ good : Bool, good = (answer.isSome && (op != .voutMode || bits (answer.getD 0).toNat 7 5 == 0) && (op != .readBack || (decide (x.1 ≤ (s.f F.LIFE_AVS_STAT_TARGET + 10) * x.2) && decide (s.f F.LIFE_AVS_STAT_TARGET * x.2 ≤ x.1 + 10 * x.2)))) ∧ good = true ∧ op = .readStart) ∧
    (∃ s : State, s.running = true ∧ ∃ t0 : Nat, ∃ answer : Option (BitVec 16), ∃ op : PmbOp, ∃ rest : List PmbOp, s.life.retryAt = some t0 ∧ s.life.pmb = op :: rest ∧ ∃ x : Nat × Nat, x = linearMv (answer.getD 0).toNat s.life.expo ∧ ∃ good : Bool, good = (answer.isSome && (op != .voutMode || bits (answer.getD 0).toNat 7 5 == 0) && (op != .readBack || (decide (x.1 ≤ (s.f F.LIFE_AVS_STAT_TARGET + 10) * x.2) && decide (s.f F.LIFE_AVS_STAT_TARGET * x.2 ≤ x.1 + 10 * x.2)))) ∧ good = true ∧ op = .voutMode) ∧
    (∃ s : State, s.running = true ∧ ∃ t0 : Nat, ∃ answer : Option (BitVec 16), ∃ op : PmbOp, ∃ rest : List PmbOp, s.life.retryAt = some t0 ∧ s.life.pmb = op :: rest ∧ ∃ x : Nat × Nat, x = linearMv (answer.getD 0).toNat s.life.expo ∧ ∃ good : Bool, good = (answer.isSome && (op != .voutMode || bits (answer.getD 0).toNat 7 5 == 0) && (op != .readBack || (decide (x.1 ≤ (s.f F.LIFE_AVS_STAT_TARGET + 10) * x.2) && decide (s.f F.LIFE_AVS_STAT_TARGET * x.2 ≤ x.1 + 10 * x.2)))) ∧ good = false ∧ s.life.retrying = true) ∧
    (∃ s : State, s.running = true ∧ s.siliconRuns = false) ∧
    (∃ s : State, s.running = true ∧ s.siliconRuns = true ∧ s.clk.timePs < 2 ^ 63 * 1000) ∧
    (∃ s : State, s.running = true ∧ s.siliconRuns = true ∧ ∃ t0, s.life.changed = true ∧ s.life.reportAt = some t0) ∧
    (∃ s : State, s.running = true ∧ s.siliconRuns = true ∧ s.life.changed = true ∧ s.life.reportAt = none) ∧
    (∃ s : State, s.running = true ∧ s.siliconRuns = true ∧ s.life.changed = false ∧ s.f F.LIFE_CTRL_REPORT_M ≠ 0 ∧ s.clk.timePs < 2 ^ 63 * 1000) ∧
    (∃ s : State, s.running = true ∧ s.siliconRuns = true ∧ s.life.changed = false ∧ s.f F.LIFE_CTRL_REPORT_M = 0) :=
  ⟨⟨(pmx { pmb := [.write 805], expo := 1 } []), by decide +kernel⟩,
   ⟨(avx 895 1 49 []), by decide +kernel, 895, 1, by decide +kernel⟩,
   ⟨(avx 765 2 100 (List.replicate 100 91)), by decide +kernel, 765, 2, by decide +kernel⟩,
   ⟨(avx 895 1 49 []), by decide +kernel⟩,
   ⟨(pmx { pmb := [.write 805], expo := 1 } []), by decide +kernel⟩,
   ⟨(pmx { retryAt := some 5, pmb := [.readStart, .write 805], retrying := true, expo := -12 } []), by decide +kernel⟩,
   ⟨(pmx { pmb := [.write 805], expo := 1 } []), by decide +kernel, (.write 805), [], none, by decide +kernel, by decide +kernel, _, rfl, by decide +kernel⟩,
   ⟨(pmx { pmb := opsx, retrying := true } [(F.LIFE_AVS_STAT_STATE, 1)]), by decide +kernel, .voutMode, (opsx.drop 1), none, by decide +kernel, by decide +kernel, _, rfl, by decide +kernel⟩,
   ⟨(pmx { pmb := [(.write 805), .write 5], expo := -12 } []), by decide +kernel, (.write 805), [.write 5], (some (BitVec.ofNat 16 805)), by decide +kernel, by decide +kernel, _, rfl, 805, by decide +kernel⟩,
   ⟨(pmx { pmb := [.write 805], expo := 1 } []), by decide +kernel, (.write 805), [], (some (BitVec.ofNat 16 0xFFFF)), by decide +kernel, by decide +kernel, _, rfl, 805, by decide +kernel⟩,
   ⟨(pmx { pmb := [(.readStart), .write 5], expo := -12 } []), by decide +kernel, .readStart, [.write 5], (some (BitVec.ofNat 16 805)), by decide +kernel, by decide +kernel, _, rfl, by decide +kernel⟩,
   ⟨(pmx { pmb := [(.readBack), .write 5], expo := -12 } []), by decide +kernel, .readBack, [.write 5], (some (BitVec.ofNat 16 0x17)), by decide +kernel, by decide +kernel, _, rfl, by decide +kernel⟩,
   ⟨(pmx { pmb := opsx } []), by decide +kernel, .voutMode, (opsx.drop 1), (some (BitVec.ofNat 16 0x17)), by decide +kernel, by decide +kernel, _, rfl, by decide +kernel⟩,
   ⟨(pmx { pmb := [.write 805], expo := 1 } []), by decide +kernel⟩,
   ⟨(pmx { readAt := some 10000000500, expo := -12 } [(F.LIFE_AVS_STAT_TARGET, 800)]), by decide +kernel, 10000000500, (some (BitVec.ofNat 16 (800 * 4096 / 1000))), ((· * 1000) (800 * 4096 / 1000), 4096), true, by decide +kernel⟩,
   ⟨(pmx { readAt := some 10000000500, expo := -12 } [(F.LIFE_AVS_STAT_TARGET, 800)]), by decide +kernel, 10000000500, (some (BitVec.ofNat 16 0xFFFF)), ((· * 1000) 0xFFFF, 4096), false, by decide +kernel⟩,
   ⟨(pmx { readAt := some 5, expo := -12, retrying := true, pmb := [.write 5] } [(F.LIFE_AVS_STAT_TARGET, 800)]), by decide +kernel, 5, (some (BitVec.ofNat 16 0xFFFF)), ((· * 1000) 0xFFFF, 4096), false, by decide +kernel⟩,
   ⟨(pmx { pmb := [.write 805], expo := 1 } []), by decide +kernel⟩,
   ⟨(pmx { retryAt := some 5, pmb := [.readStart, .write 805], retrying := true, expo := -12 } []), by decide +kernel, 5, (some (BitVec.ofNat 16 0xFFFF)), .readStart, [.write 805], by decide +kernel, by decide +kernel, _, rfl, _, rfl, by decide +kernel⟩,
   ⟨(pmx { retryAt := some 10000000500, pmb := [.voutMode, .readStart], retrying := true, expo := 0 } []), by decide +kernel, 10000000500, (some (BitVec.ofNat 16 0x17)), .voutMode, [.readStart], by decide +kernel, by decide +kernel, _, rfl, _, rfl, by decide +kernel⟩,
   ⟨(pmx { retryAt := some 5, pmb := [.readStart, .write 805], retrying := true, expo := -12 } []), by decide +kernel, 5, none, .readStart, [.write 805], by decide +kernel, by decide +kernel, _, rfl, _, rfl, by decide +kernel⟩,
   ⟨(node 1 1 []), by decide +kernel⟩,
   ⟨(pmx { pmb := [.write 805], expo := 1 } []), by decide +kernel⟩,
   ⟨(rpx { changed := true, reportAt := some 5000000000 } []), by decide +kernel, by decide +kernel, 5000000000, by decide +kernel⟩,
   ⟨(rpx { changed := true } (lanesUp [1])), by decide +kernel⟩,
   ⟨(pmx { pmb := [.write 805], expo := 1 } []), by decide +kernel⟩,
   ⟨(rpx {} [(F.LIFE_CTRL_REPORT_M, 0)]), by decide +kernel⟩⟩

end SupplyLanesAndReports

namespace LifetimeCommands

def flx (kind : Nat) (l : List (Fld × Nat)) (st := 7) : State := { (node 0 st ([(F.CMD_NODE_KIND, kind)] ++ l)) with clk.tickLen := 10000 }
def psx (it i a v : Nat) : Packet := pk ([BitVec.ofNat 8 it, BitVec.ofNat 8 i, BitVec.ofNat 8 a] ++ leBytes 2 v)
def evx (c v : Nat) (l : List (Fld × Nat)) : State := { flx 3 l with life.dirty := true, life.requests := [(0, c, true, v)] }

theorem wit_LifetimeCommands :
    (∃ p : Packet, ∃ p1 : Packet, ∃ s : State, ∃ s1 : State, Admitted rowLifePlanSet p s s1 p1 ∧ ∃ item : Nat, ∃ i : Nat, ∃ act : Nat, ∃ v : Nat, item = numAt p.params 0 1 ∧ i = numAt p.params 1 1 ∧ act = numAt p.params 2 1 ∧ v = numAt p.params 3 2 ∧ (p.params.length ≠ 5 ∨ 2 < item ∨ 1 < act ∨ (item ≤ 1 ∧ i ∉ s1.cells) ∨ (item = 0 ∧ act = 1 ∧ v = 0) ∨ (item = 2 ∧ (i ∉ s1.yarPairs ∨ (act = 1 ∧ (255 < v ∨ s1.dtRoom i < v)))))) ∧
    (∃ p : Packet, ∃ p1 : Packet, ∃ s : State, ∃ s1 : State, ∃ item : Nat, ∃ i : Nat, ∃ act : Nat, ∃ v : Nat, Admitted rowLifePlanSet p s s1 p1 ∧ p.params = [BitVec.ofNat 8 item, BitVec.ofNat 8 i, BitVec.ofNat 8 act] ++ leBytes 2 v ∧ i < 256 ∧ act ≤ 1 ∧ v < 65536 ∧ ((item = 0 ∧ i ∈ s1.cells ∧ (act = 1 → v ≠ 0)) ∨ (item = 1 ∧ i ∈ s1.cells) ∨ (item = 2 ∧ i ∈ s1.yarPairs ∧ (act = 1 → v ≤ 255 ∧ v ≤ s1.dtRoom i)))) ∧
    (∃ s : State, ∃ c : Nat, ∃ v : Nat, s.isFloret = true ∧ s.life.dirty = true ∧ c ∈ s.cells ∧ s.life.requests = [(0, c, true, v)] ∧ v < 65536) ∧
    (∃ p : Packet, ∃ p1 : Packet, ∃ s : State, ∃ s1 : State, Admitted rowLifeBaseline p s s1 p1 ∧ p.params.length ≠ 2) ∧
    (∃ p : Packet, ∃ p1 : Packet, ∃ s : State, ∃ s1 : State, ∃ mask : Nat, ∃ fl : Nat, Admitted rowLifeBaseline p s s1 p1 ∧ p.params = [BitVec.ofNat 8 mask, BitVec.ofNat 8 fl] ∧ mask < 256 ∧ fl < 256 ∧ bit fl 2 = true) ∧
    (∃ p : Packet, ∃ p1 : Packet, ∃ s : State, ∃ s1 : State, Admitted rowLifeRestore p s s1 p1 ∧ p.params.length ≠ 296) ∧
    (∃ p : Packet, ∃ p1 : Packet, ∃ s : State, ∃ s1 : State, Admitted rowLifeRestore p s s1 p1 ∧ p.params.length = 296 ∧ s1.st = ST.CONFIG) ∧
    (∃ p : Packet, ∃ p1 : Packet, ∃ s : State, ∃ s1 : State, Admitted rowLifeRestore p s s1 p1 ∧ p.params.length = 296 ∧ s1.st ≠ ST.CONFIG) ∧
    (∃ p : Packet, ∃ p1 : Packet, ∃ s : State, ∃ s1 : State, Admitted rowLifeSubscribe p s s1 p1 ∧ p.params = [1] ∧ (s1.life.subs.filter (fun u => u.source != p.source)).length < 2) ∧
    (∃ p : Packet, ∃ p1 : Packet, ∃ s : State, ∃ s1 : State, Admitted rowLifeSubscribe p s s1 p1 ∧ p.params = [0]) ∧
    (∃ p : Packet, ∃ p1 : Packet, ∃ s : State, ∃ s1 : State, Admitted rowLifeSubscribe p s s1 p1 ∧ p.params = [1] ∧ 2 ≤ (s1.life.subs.filter (fun u => u.source != p.source)).length) ∧
    (∃ p : Packet, ∃ p1 : Packet, ∃ s : State, ∃ s1 : State, Admitted rowLifeSubscribe p s s1 p1 ∧ p.params ≠ [0] ∧ p.params ≠ [1]) :=
  ⟨⟨(psx 0 0 1 65535), _, (flx 0 []), _, admitted_self (by decide +kernel), 0, 0, 1, 65535, by decide +kernel⟩,
   ⟨(psx 0 0 1 65535), _, (flx 1 []), _, 0, 0, 1, 65535, admitted_self (by decide +kernel), by decide +kernel⟩,
   ⟨(evx 0 65535 [(F.LIFE_C_CEST_CEST 0, 5000), (F.LIFE_C_EST_CSTEP 0, 3)]), 0, 65535, by decide +kernel⟩,
   ⟨(psx 0 0 1 65535), _, (flx 1 []), _, admitted_self (by decide +kernel), by decide +kernel⟩,
   ⟨(pk [255, 7]), _, (flx 3 [(F.LIFE_W_MEAN_BASE 0, 7), (F.LIFE_W_DAMAGE_DAMAGE 0, 0xFFFFFFFF), (F.LIFE_C_CEST_CEST 1, 50), (F.LIFE_C_ESR_ESR 1, 60), (F.LIFE_W_STAT_DUE 0, 1)]), _, 255, 7, admitted_self (by decide +kernel), by decide +kernel⟩,
   ⟨(psx 0 0 1 65535), _, (flx 1 []), _, admitted_self (by decide +kernel), by decide +kernel⟩,
   ⟨(pk ((List.range 296).map (fun i => BitVec.ofNat 8 (i * 11 + 3)))), _, { flx 1 [(F.LIFE_W_DAMAGE_DAMAGE 3, 0xFFFFFFFF)] 5 with life.switches := [(3, { frac := 9 }), (0, { frac := 8 })] }, _, admitted_self (by decide +kernel), by decide +kernel⟩,
   ⟨(pk ((List.range 296).map (fun i => BitVec.ofNat 8 (i * 11 + 3)))), _, (flx 3 [(F.LIFE_W_MEAN_BASE 0, 7), (F.LIFE_W_DAMAGE_DAMAGE 0, 0xFFFFFFFF), (F.LIFE_C_CEST_CEST 1, 50), (F.LIFE_C_ESR_ESR 1, 60), (F.LIFE_W_STAT_DUE 0, 1)]), _, admitted_self (by decide +kernel), by decide +kernel⟩,
   ⟨{ pk [1] with source := 5 }, _, (node 2 7 []), _, admitted_self (by decide +kernel), by decide +kernel⟩,
   ⟨{ pk [0] with source := 5 }, _, (node 2 7 []), _, admitted_self (by decide +kernel), by decide +kernel⟩,
   ⟨{ pk [1] with source := 7 }, _, { node 2 7 [] with life.subs := [{ source := 5, mac := 3 }, { source := 6, mac := 3 }] }, _, admitted_self (by decide +kernel), by decide +kernel⟩,
   ⟨(pk [2]), _, (node 2 7 []), _, admitted_self (by decide +kernel), by decide +kernel⟩⟩

end LifetimeCommands

namespace CanFrames

def mbx (m c d : Nat) (l : List (Fld × Nat) := []) : List (Fld × Nat) := [(F.FBUS_M_CFG_LIVE m, 1), (F.FBUS_M_CFG_CTRL m, c), (F.FBUS_M_CFG_DIR m, d)] ++ l
def pc : Packet := { source := 2, target := 0, seq := 3 }
def cnx (c mode es : Nat) (l : List (Fld × Nat)) (x : FBus := {}) (st := 7) : State := { (node 1 st ([(F.FBUS_C_CTRL_MODE c, mode), (F.FBUS_C_STAT_ESTATE c, es)] ++ l)) with fbus := x }
def bxs (m : Nat) (b : Mailbox) : FBus := { boxes := [(m, b)] }
def sndx (c m : Nat) (b : Mailbox) : FBus := { boxes := [(m, b)], ctls := [(c, { sending := some (m, (3, [1, 2, 3]), 9999) })] }
def nb (w n : Nat) : List Bool := (List.range w).map (fun i => n.testBit (w - 1 - i))
def lv (l : List Bool) : List (BitVec 3) := l.map (fun b => if b then 7 else 0)
def lvA : List (BitVec 3) := lv (nb 11 5 ++ [false, false, false] ++ nb 4 2 ++ nb 16 0x1234)
def lvC : List (BitVec 3) := lv (nb 11 5 ++ [false, false, true, false, true, true] ++ nb 4 1 ++ nb 8 0x12)
def lvD : List (BitVec 3) := lv (nb 11 1 ++ [true, true] ++ nb 18 5 ++ [false, false, false] ++ nb 4 1 ++ nb 8 0x77)
def frA : CanFrame := { ide := false, fdf := false, ident := 5, len := 2, data := [0x12, 0x34] }
def frC : CanFrame := { ide := false, fdf := true, brs := true, esi := true, ident := 5, len := 1, data := [0x12] }
def frD : CanFrame := { ide := true, fdf := false, ident := 2 ^ 18 + 5, len := 1, data := [0x77] }

theorem wit_CanFrames :
    (∃ s : State, ∃ c : Fin 2, s.running = true ∧ ∃ levels : List (BitVec 3), (s.canRuns c = false ∨ 2 ≤ s.f (F.FBUS_C_STAT_ESTATE c) ∨ s.canReads c levels = none)) ∧
    (∃ s : State, ∃ c : Fin 2, s.running = true ∧ ∃ levels : List (BitVec 3), ∃ x : CanFrame, s.canRuns c = true ∧ s.f (F.FBUS_C_STAT_ESTATE c) < 2 ∧ s.canReads c levels = some x ∧ ∃ box : Option Nat, box = boxNumbers.find? (fun m => s.boxOf c 0 m && s.on (F.FBUS_M_CFG_IDE m) == x.ide && (identOf x.ide x.ident ^^^ s.f (F.FBUS_M_ID_ID m)) &&& s.f (F.FBUS_M_MASK_MASK m) == 0) ∧ s.canMode c = 2 ∧ x.fdf = true ∧ x.brs = true) ∧
    (∃ s : State, ∃ c : Fin 2, s.running = true ∧ ∃ levels : List (BitVec 3), ∃ x : CanFrame, s.canRuns c = true ∧ s.f (F.FBUS_C_STAT_ESTATE c) < 2 ∧ s.canReads c levels = some x ∧ ∃ box : Option Nat, box = boxNumbers.find? (fun m => s.boxOf c 0 m && s.on (F.FBUS_M_CFG_IDE m) == x.ide && (identOf x.ide x.ident ^^^ s.f (F.FBUS_M_ID_ID m)) &&& s.f (F.FBUS_M_MASK_MASK m) == 0) ∧ (s.canMode c ≠ 2 ∨ x.fdf = false ∨ x.brs = false) ∧ box = none ∧ s.canMode c = 1) ∧
    (∃ s : State, ∃ c : Fin 2, s.running = true ∧ ∃ levels : List (BitVec 3), ∃ x : CanFrame, s.canRuns c = true ∧ s.f (F.FBUS_C_STAT_ESTATE c) < 2 ∧ s.canReads c levels = some x ∧ ∃ box : Option Nat, box = boxNumbers.find? (fun m => s.boxOf c 0 m && s.on (F.FBUS_M_CFG_IDE m) == x.ide && (identOf x.ide x.ident ^^^ s.f (F.FBUS_M_ID_ID m)) &&& s.f (F.FBUS_M_MASK_MASK m) == 0) ∧ (s.canMode c ≠ 2 ∨ x.fdf = false ∨ x.brs = false) ∧ box = none ∧ s.canMode c ≠ 1) ∧
    (∃ s : State, ∃ c : Fin 2, s.running = true ∧ ∃ levels : List (BitVec 3), ∃ x : CanFrame, s.canRuns c = true ∧ s.f (F.FBUS_C_STAT_ESTATE c) < 2 ∧ s.canReads c levels = some x ∧ ∃ box : Option Nat, box = boxNumbers.find? (fun m => s.boxOf c 0 m && s.on (F.FBUS_M_CFG_IDE m) == x.ide && (identOf x.ide x.ident ^^^ s.f (F.FBUS_M_ID_ID m)) &&& s.f (F.FBUS_M_MASK_MASK m) == 0) ∧ ∃ m, (s.canMode c ≠ 2 ∨ x.fdf = false ∨ x.brs = false) ∧ box = some m ∧ (s.box m).unread = true) ∧
    (∃ s : State, ∃ c : Fin 2, s.running = true ∧ ∃ levels : List (BitVec 3), ∃ x : CanFrame, s.canRuns c = true ∧ s.f (F.FBUS_C_STAT_ESTATE c) < 2 ∧ s.canReads c levels = some x ∧ ∃ box : Option Nat, box = boxNumbers.find? (fun m => s.boxOf c 0 m && s.on (F.FBUS_M_CFG_IDE m) == x.ide && (identOf x.ide x.ident ^^^ s.f (F.FBUS_M_ID_ID m)) &&& s.f (F.FBUS_M_MASK_MASK m) == 0) ∧ ∃ m, (s.canMode c ≠ 2 ∨ x.fdf = false ∨ x.brs = false) ∧ box = some m ∧ (s.box m).unread = false) ∧
    (∃ s : State, ∃ c : Fin 2, s.running = true ∧ (s.canRuns c = false ∨ s.canMode c ≠ 1 ∨ 2 ≤ s.f (F.FBUS_C_STAT_ESTATE c) ∨ (s.can c).sending.isSome = true ∨ (∀ m ∈ boxNumbers, s.boxOf c 1 m = false ∨ s.boxPend m = false))) ∧
    (∃ s : State, ∃ c : Fin 2, s.running = true ∧ ∃ m, s.canRuns c = true ∧ s.canMode c = 1 ∧ s.f (F.FBUS_C_STAT_ESTATE c) < 2 ∧ (s.can c).sending = none ∧ m < 64 ∧ s.boxOf c 1 m = true ∧ s.boxPend m = true ∧ (∀ k < 64, s.boxOf c 1 k = true → s.boxPend k = true → rankLe (s.txRank m) (s.txRank k) = true)) ∧
    (∃ s : State, ∃ c : Fin 2, s.running = true ∧ (s.can c).sending = none) ∧
    (∃ s : State, ∃ c : Fin 2, s.running = true ∧ ∃ m : Nat, ∃ t0 : Nat, ∃ x : Nat × List Byte, (s.can c).sending = some (m, x, t0) ∧ m < 64 ∧ (s.box m).again = false) ∧
    (∃ s : State, ∃ c : Fin 2, s.running = true ∧ ∃ m : Nat, ∃ t0 : Nat, ∃ x : Nat × List Byte, (s.can c).sending = some (m, x, t0) ∧ m < 64 ∧ (s.box m).again = true) ∧
    (∃ s : State, ∃ c : Fin 2, s.running = true ∧ ∃ m : Nat, ∃ t0 : Nat, ∃ x : Nat × List Byte, (s.can c).sending = some (m, x, t0) ∧ m < 64 ∧ s.on (F.FBUS_M_CFG_FDF m) = true) ∧
    (∃ s : State, ∃ c : Fin 2, s.running = true ∧ ∃ m : Nat, ∃ t0 : Nat, ∃ x : Nat × List Byte, (s.can c).sending = some (m, x, t0) ∧ m < 64 ∧ (s.on (F.FBUS_M_CFG_FDF m) = false ∨ s.on (F.FBUS_C_TDC_TDC_EN c) = false)) ∧
    (∃ s : State, ∃ c : Fin 2, s.running = true ∧ (s.canRuns c = false ∨ 2 ≤ s.f (F.FBUS_C_STAT_ESTATE c))) ∧
    (∃ s : State, ∃ c : Fin 2, s.running = true ∧ ∃ kind : Fin 7, s.canRuns c = true ∧ s.f (F.FBUS_C_STAT_ESTATE c) < 2 ∧ (s.can c).sending = none ∧ kind.val = 0) ∧
    (∃ s : State, ∃ c : Fin 2, s.running = true ∧ ∃ kind : Fin 7, s.canRuns c = true ∧ s.f (F.FBUS_C_STAT_ESTATE c) < 2 ∧ (s.can c).sending = none ∧ kind.val ≠ 0) ∧
    (∃ s : State, ∃ c : Fin 2, s.running = true ∧ s.canRuns c = true ∧ s.f (F.FBUS_C_STAT_ESTATE c) < 2 ∧ (s.can c).sending = none ∧ s.canMode c = 2) ∧
    (∃ s : State, ∃ c : Fin 2, s.running = true ∧ s.canRuns c = true ∧ s.f (F.FBUS_C_STAT_ESTATE c) < 2 ∧ ∃ m : Nat, ∃ t0 : Nat, ∃ x : Nat × List Byte, (s.can c).sending = some (m, x, t0) ∧ m < 64 ∧ (s.box m).cancel = []) ∧
    (∃ s : State, ∃ c : Fin 2, s.running = true ∧ s.canRuns c = true ∧ s.f (F.FBUS_C_STAT_ESTATE c) < 2 ∧ ∃ m : Nat, ∃ t0 : Nat, ∃ x : Nat × List Byte, (s.can c).sending = some (m, x, t0) ∧ m < 64 ∧ (s.box m).cancel ≠ []) ∧
    (∃ s : State, ∃ c : Fin 2, s.running = true ∧ ∃ kind : Fin 7, s.canRuns c = true ∧ s.f (F.FBUS_C_STAT_ESTATE c) < 2 ∧ ∃ m : Nat, ∃ t0 : Nat, ∃ x : Nat × List Byte, (s.can c).sending = some (m, x, t0) ∧ m < 64 ∧ kind.val = 0) ∧
    (∃ s : State, ∃ c : Fin 2, s.running = true ∧ ∃ kind : Fin 7, s.canRuns c = true ∧ s.f (F.FBUS_C_STAT_ESTATE c) < 2 ∧ ∃ m : Nat, ∃ t0 : Nat, ∃ x : Nat × List Byte, (s.can c).sending = some (m, x, t0) ∧ m < 64 ∧ kind.val ≠ 0) ∧
    (∃ s : State, ∃ c : Fin 2, s.running = true ∧ ∃ kind : Fin 7, ∃ exempt : Bool, s.canRuns c = true ∧ s.f (F.FBUS_C_STAT_ESTATE c) < 2 ∧ ∃ m : Nat, ∃ t0 : Nat, ∃ x : Nat × List Byte, (s.can c).sending = some (m, x, t0) ∧ m < 64 ∧ (kind.val = 0 ∨ s.canMode c = 2 ∨ exempt = true)) :=
  ⟨⟨(cnx 0 1 0 []), 1, by decide +kernel, lvA, by decide +kernel⟩,
   ⟨(cnx 1 2 1 (mbx 63 1 0)), 1, by decide +kernel, lvC, frC, by decide +kernel, by decide +kernel, by decide +kernel, _, rfl, by decide +kernel⟩,
   ⟨(cnx 0 1 0 []), 0, by decide +kernel, lvA, frA, by decide +kernel, by decide +kernel, by decide +kernel, _, rfl, by decide +kernel⟩,
   ⟨(cnx 1 2 1 (mbx 63 1 0)), 1, by decide +kernel, lvD, frD, by decide +kernel, by decide +kernel, by decide +kernel, _, rfl, by decide +kernel⟩,
   ⟨(cnx 0 2 0 (mbx 3 0 0 [(F.FBUS_M_CFG_ROUTE 3, 1), (F.FBUS_M_STAT_SEQ 3, 65535)]) (bxs 3 { unread := true })), 0, by decide +kernel, lvA, frA, by decide +kernel, by decide +kernel, by decide +kernel, _, rfl, 3, by decide +kernel⟩,
   ⟨(cnx 0 1 0 (mbx 3 0 0 [(F.FBUS_M_ID_ID 3, 5 * 2^18), (F.FBUS_M_MASK_MASK 3, 0x1FFC0000)] ++ mbx 7 0 0 [(F.FBUS_M_CFG_IDE 7, 1)])), 0, by decide +kernel, lvA, frA, by decide +kernel, by decide +kernel, by decide +kernel, _, rfl, 3, by decide +kernel⟩,
   ⟨(cnx 0 1 0 []), 1, by decide +kernel⟩,
   ⟨(cnx 0 1 0 (mbx 3 0 1 [(F.FBUS_M_STAT_PEND 3, 1), (F.FBUS_M_ID_ID 3, 7)] ++ mbx 5 0 1 [(F.FBUS_M_STAT_PEND 5, 1), (F.FBUS_M_ID_ID 5, 6)]) (bxs 3 { slot := some (9, 7) })), 0, by decide +kernel, 3, by decide +kernel⟩,
   ⟨(cnx 0 1 0 []), 1, by decide +kernel⟩,
   ⟨(cnx 0 1 0 (mbx 3 0 1 [(F.FBUS_M_STAT_PEND 3, 1), (F.FBUS_C_STAT_TEC 0, 128), (F.FBUS_M_CFG_FDF 3, 1), (F.FBUS_C_TDC_TDC_EN 0, 1)]) (sndx 0 3 {})), 0, by decide +kernel, 3, 9999, (3, [1, 2, 3]), by decide +kernel⟩,
   ⟨(cnx 0 1 1 (mbx 3 0 1 [(F.FBUS_M_STAT_PEND 3, 1), (F.FBUS_C_STAT_TEC 0, 0), (F.FBUS_M_STAT_SEQ 3, 65535)]) (sndx 0 3 { again := true, slot := some (3, 5) })), 0, by decide +kernel, 3, 9999, (3, [1, 2, 3]), by decide +kernel⟩,
   ⟨(cnx 0 1 0 (mbx 3 0 1 [(F.FBUS_M_STAT_PEND 3, 1), (F.FBUS_C_STAT_TEC 0, 128), (F.FBUS_M_CFG_FDF 3, 1), (F.FBUS_C_TDC_TDC_EN 0, 1)]) (sndx 0 3 {})), 0, by decide +kernel, 3, 9999, (3, [1, 2, 3]), by decide +kernel⟩,
   ⟨(cnx 0 1 1 (mbx 3 0 1 [(F.FBUS_M_STAT_PEND 3, 1), (F.FBUS_C_STAT_TEC 0, 0), (F.FBUS_M_STAT_SEQ 3, 65535)]) (sndx 0 3 { again := true, slot := some (3, 5) })), 0, by decide +kernel, 3, 9999, (3, [1, 2, 3]), by decide +kernel⟩,
   ⟨(cnx 0 1 0 []), 1, by decide +kernel⟩,
   ⟨(cnx 0 1 0 []), 0, by decide +kernel, 0, by decide +kernel⟩,
   ⟨(cnx 0 1 0 []), 0, by decide +kernel, 6, by decide +kernel⟩,
   ⟨(cnx 1 2 1 (mbx 63 1 0)), 1, by decide +kernel⟩,
   ⟨(cnx 0 1 0 (mbx 3 0 1 [(F.FBUS_M_STAT_PEND 3, 1), (F.FBUS_C_STAT_TEC 0, 128), (F.FBUS_M_CFG_FDF 3, 1), (F.FBUS_C_TDC_TDC_EN 0, 1)]) (sndx 0 3 {})), 0, by decide +kernel, by decide +kernel, by decide +kernel, 3, 9999, (3, [1, 2, 3]), by decide +kernel⟩,
   ⟨(cnx 0 1 1 (mbx 3 0 1 [(F.FBUS_M_STAT_PEND 3, 1)]) (sndx 0 3 { cancel := [pc] })), 0, by decide +kernel, by decide +kernel, by decide +kernel, 3, 9999, (3, [1, 2, 3]), by decide +kernel⟩,
   ⟨(cnx 0 1 0 (mbx 3 0 1 [(F.FBUS_M_STAT_PEND 3, 1), (F.FBUS_C_STAT_TEC 0, 128), (F.FBUS_M_CFG_FDF 3, 1), (F.FBUS_C_TDC_TDC_EN 0, 1)]) (sndx 0 3 {})), 0, by decide +kernel, 0, by decide +kernel, by decide +kernel, 3, 9999, (3, [1, 2, 3]), by decide +kernel⟩,
   ⟨(cnx 0 1 0 (mbx 3 0 1 [(F.FBUS_M_STAT_PEND 3, 1), (F.FBUS_C_STAT_TEC 0, 128), (F.FBUS_M_CFG_FDF 3, 1), (F.FBUS_C_TDC_TDC_EN 0, 1)]) (sndx 0 3 {})), 0, by decide +kernel, 6, by decide +kernel, by decide +kernel, 3, 9999, (3, [1, 2, 3]), by decide +kernel⟩,
   ⟨(cnx 0 1 0 (mbx 3 0 1 [(F.FBUS_M_STAT_PEND 3, 1), (F.FBUS_C_STAT_TEC 0, 128), (F.FBUS_M_CFG_FDF 3, 1), (F.FBUS_C_TDC_TDC_EN 0, 1)]) (sndx 0 3 {})), 0, by decide +kernel, 6, true, by decide +kernel, by decide +kernel, 3, 9999, (3, [1, 2, 3]), by decide +kernel⟩⟩

end CanFrames

namespace CanBusAndSlots

def mbx (m c d : Nat) (l : List (Fld × Nat) := []) : List (Fld × Nat) := [(F.FBUS_M_CFG_LIVE m, 1), (F.FBUS_M_CFG_CTRL m, c), (F.FBUS_M_CFG_DIR m, d)] ++ l
def cnx (c mode es : Nat) (l : List (Fld × Nat)) (x : FBus := {}) (st := 7) : State := { (node 1 st ([(F.FBUS_C_CTRL_MODE c, mode), (F.FBUS_C_STAT_ESTATE c, es)] ++ l)) with fbus := x }
def schx (c k m : Nat) : List (Fld × Nat) := [(F.FBUS_C_SCHED_SCHED_EN c, 1), (F.FBUS_C_SLOTA_EN c k, 1), (F.FBUS_C_SLOTA_MB c k, m), (F.FBUS_C_SCHED_CYCLE_US c, 1000), (F.FBUS_C_SCHED_CYCLES_M1 c, 3), (F.FBUS_C_SLOTB_START c k, 500), (F.FBUS_C_SLOTB_WINDOW c k, 9), (F.FBUS_C_SLOTA_CMASK c k, 5), (F.FBUS_M_CFG_SCHED m, 1)]
def sndx (c m : Nat) (b : Mailbox) : FBus := { boxes := [(m, b)], ctls := [(c, { sending := some (m, (3, [1, 2, 3]), 9999) })] }

theorem wit_CanBusAndSlots :
    (∃ s : State, ∃ c : Fin 2, s.running = true ∧ (s.f (F.FBUS_C_STAT_ESTATE c) ≠ 2 ∨ s.on (F.FBUS_C_CTRL_AUTO_REC c) = false)) ∧
    (∃ s : State, ∃ c : Fin 2, s.running = true ∧ s.f (F.FBUS_C_STAT_ESTATE c) = 2 ∧ s.on (F.FBUS_C_CTRL_AUTO_REC c) = true) ∧
    (∃ s : State, ∃ c : Fin 2, s.running = true ∧ s.f (F.FBUS_C_STAT_ESTATE c) ≠ 3) ∧
    (∃ s : State, ∃ c : Fin 2, s.running = true ∧ s.f (F.FBUS_C_STAT_ESTATE c) = 3) ∧
    (∃ s : State, ∃ c : Fin 2, s.running = true ∧ ∃ k : Fin 32, (s.canRuns c = false ∨ s.canMode c ≠ 1 ∨ s.on (F.FBUS_C_SCHED_SCHED_EN c) = false ∨ s.on (F.FBUS_C_SLOTA_EN c k) = false ∨ s.nextSlot c k = none)) ∧
    (∃ s : State, ∃ c : Fin 2, s.running = true ∧ ∃ k : Fin 32, ∃ m : Nat, ∃ t0 : Nat, s.canRuns c = true ∧ s.canMode c = 1 ∧ s.on (F.FBUS_C_SCHED_SCHED_EN c) = true ∧ s.on (F.FBUS_C_SLOTA_EN c k) = true ∧ s.nextSlot c k = some t0 ∧ m = s.f (F.FBUS_C_SLOTA_MB c k) ∧ (s.boxOf c 1 m = false ∨ s.on (F.FBUS_M_CFG_SCHED m) = false) ∧ t0 < 2 ^ 64) ∧
    (∃ s : State, ∃ c : Fin 2, s.running = true ∧ ∃ k : Fin 32, ∃ m : Nat, ∃ t0 : Nat, s.canRuns c = true ∧ s.canMode c = 1 ∧ s.on (F.FBUS_C_SCHED_SCHED_EN c) = true ∧ s.on (F.FBUS_C_SLOTA_EN c k) = true ∧ s.nextSlot c k = some t0 ∧ m = s.f (F.FBUS_C_SLOTA_MB c k) ∧ s.boxOf c 1 m = true ∧ s.on (F.FBUS_M_CFG_SCHED m) = true ∧ t0 < 2 ^ 64) ∧
    (∃ s : State, ∃ c : Fin 2, s.running = true ∧ ∃ k : Fin 32, ∃ m : Nat, ∃ t0 : Nat, s.canRuns c = true ∧ s.canMode c = 1 ∧ s.on (F.FBUS_C_SCHED_SCHED_EN c) = true ∧ s.on (F.FBUS_C_SLOTA_EN c k) = true ∧ s.nextSlot c k = some t0 ∧ m = s.f (F.FBUS_C_SLOTA_MB c k) ∧ s.boxOf c 1 m = true ∧ s.on (F.FBUS_M_CFG_SCHED m) = true ∧ s.boxPend m = false) ∧
    (∃ s : State, ∃ c : Fin 2, s.running = true ∧ ∃ k : Fin 32, ∃ m : Nat, ∃ t0 : Nat, s.canRuns c = true ∧ s.canMode c = 1 ∧ s.on (F.FBUS_C_SCHED_SCHED_EN c) = true ∧ s.on (F.FBUS_C_SLOTA_EN c k) = true ∧ s.nextSlot c k = some t0 ∧ m = s.f (F.FBUS_C_SLOTA_MB c k) ∧ s.boxOf c 1 m = true ∧ s.on (F.FBUS_M_CFG_SCHED m) = true ∧ s.boxPend m = true) ∧
    (∃ s : State, ∃ c : Fin 2, s.running = true ∧ ∃ k : Fin 32, boxNumbers.find? (fun m => s.boxOf c 1 m && s.boxPend m && ((s.box m).slot.map (·.1)) == some k.val) = none) ∧
    (∃ s : State, ∃ c : Fin 2, s.running = true ∧ ∃ k : Fin 32, ∃ m : Nat, boxNumbers.find? (fun m => s.boxOf c 1 m && s.boxPend m && ((s.box m).slot.map (·.1)) == some k.val) = some m ∧ s.boxOnBus m = false ∧ ((s.box m).slot.map (·.2)).getD 0 < 2 ^ 64) ∧
    (∃ s : State, ∃ c : Fin 2, s.running = true ∧ ∃ k : Fin 32, ∃ m : Nat, boxNumbers.find? (fun m => s.boxOf c 1 m && s.boxPend m && ((s.box m).slot.map (·.1)) == some k.val) = some m ∧ s.boxOnBus m = true) :=
  ⟨⟨(cnx 0 1 2 [(F.FBUS_C_CTRL_AUTO_REC 0, 1), (F.FBUS_C_CTRL_BOFF_DELAY 0, 9)] { ctls := [(0, { offAt := 9999999999 })] }), 1, by decide +kernel⟩,
   ⟨(cnx 0 1 2 [(F.FBUS_C_CTRL_AUTO_REC 0, 1), (F.FBUS_C_CTRL_BOFF_DELAY 0, 9)] { ctls := [(0, { offAt := 9999999999 })] }), 0, by decide +kernel⟩,
   ⟨(cnx 0 1 2 [(F.FBUS_C_CTRL_AUTO_REC 0, 1), (F.FBUS_C_CTRL_BOFF_DELAY 0, 9)] { ctls := [(0, { offAt := 9999999999 })] }), 1, by decide +kernel⟩,
   ⟨(cnx 1 1 3 [(F.FBUS_C_STAT_TEC 1, 255), (F.FBUS_C_STAT_REC 1, 25)]), 1, by decide +kernel⟩,
   ⟨(cnx 0 1 2 [(F.FBUS_C_CTRL_AUTO_REC 0, 1), (F.FBUS_C_CTRL_BOFF_DELAY 0, 9)] { ctls := [(0, { offAt := 9999999999 })] }), 1, by decide +kernel, 31, by decide +kernel⟩,
   ⟨(cnx 0 1 0 (mbx 3 0 0 ++ schx 0 31 3)), 0, by decide +kernel, 31, 3, 500000, by decide +kernel⟩,
   ⟨(cnx 0 1 0 (mbx 3 0 1 ++ schx 0 31 3)), 0, by decide +kernel, 31, 3, 500000, by decide +kernel⟩,
   ⟨(cnx 0 1 0 (mbx 3 0 1 ++ schx 0 31 3)), 0, by decide +kernel, 31, 3, 500000, by decide +kernel⟩,
   ⟨(cnx 1 1 0 (mbx 3 1 1 [(F.FBUS_M_STAT_PEND 3, 1)] ++ schx 1 0 3) { boxes := [(3, { slot := some (0, 9) })] }), 1, by decide +kernel, 0, 3, 500000, by decide +kernel⟩,
   ⟨(cnx 0 1 2 [(F.FBUS_C_CTRL_AUTO_REC 0, 1), (F.FBUS_C_CTRL_BOFF_DELAY 0, 9)] { ctls := [(0, { offAt := 9999999999 })] }), 1, by decide +kernel, 31, by decide +kernel⟩,
   ⟨(cnx 1 1 0 (mbx 3 1 1 [(F.FBUS_M_STAT_PEND 3, 1)] ++ schx 1 0 3) { boxes := [(3, { slot := some (0, 9) })] }), 1, by decide +kernel, 0, 3, by decide +kernel⟩,
   ⟨(cnx 1 1 0 (mbx 3 1 1 [(F.FBUS_M_STAT_PEND 3, 1)] ++ schx 1 0 3) (sndx 1 3 { slot := some (0, 10000900000) })), 1, by decide +kernel, 0, 3, by decide +kernel⟩⟩

end CanBusAndSlots

namespace CanBusStuck

theorem wit_CanBusStuck :
    (∃ s : State, ∃ c : Fin 2, s.running = true ∧ s.canRuns c = true ∧ s.on (F.FBUS_C_STAT_STUCK c) = false) ∧
    (∃ s : State, ∃ c : Fin 2, s.running = true ∧ (s.canRuns c = false ∨ s.on (F.FBUS_C_STAT_STUCK c) = true)) :=
  ⟨⟨(node 1 7 [(F.FBUS_C_CTRL_MODE 0, 1), (F.FBUS_C_CTRL_MODE 1, 2)]), 1, by decide +kernel⟩,
   ⟨(node 1 7 []), 1, by decide +kernel⟩⟩

end CanBusStuck

namespace CanCommands

def mbx (m c d : Nat) (l : List (Fld × Nat) := []) : List (Fld × Nat) := [(F.FBUS_M_CFG_LIVE m, 1), (F.FBUS_M_CFG_CTRL m, c), (F.FBUS_M_CFG_DIR m, d)] ++ l
def cnx (c mode es : Nat) (l : List (Fld × Nat)) (x : FBus := {}) (st := 7) : State := { obj 8 (node 1 st ([(F.FBUS_C_CTRL_MODE c, mode), (F.FBUS_C_STAT_ESTATE c, es)] ++ l)) with fbus := x }
def sndx (c m : Nat) (b : Mailbox) : FBus := { boxes := [(m, b)], ctls := [(c, { sending := some (m, (3, [1, 2, 3]), 9999) })] }
def cr (fl rf id mask : Nat) : Packet := pk (BitVec.ofNat 8 fl :: (leBytes 2 rf ++ leBytes 4 id ++ leBytes 4 mask))
def snd2 (len : Nat) : Packet := pk (BitVec.ofNat 8 len :: (List.range len).map (fun i => BitVec.ofNat 8 (i + 9))) (hw 8)

theorem wit_CanCommands :
    (∃ p : Packet, ∃ p1 : Packet, ∃ s : State, ∃ s1 : State, Admitted rowCanMode p s s1 p1 ∧ (p.params.length ≠ 2 ∨ 1 < numAt p.params 0 1 ∨ 2 < numAt p.params 1 1)) ∧
    (∃ p : Packet, ∃ p1 : Packet, ∃ s : State, ∃ s1 : State, ∃ c : Nat, ∃ m, Admitted rowCanMode p s s1 p1 ∧ p.params = [BitVec.ofNat 8 c, BitVec.ofNat 8 m] ∧ c ≤ 1 ∧ m ≤ 2 ∧ (m = 0 ∨ s1.bitTimingOk c = true) ∧ m = 0) ∧
    (∃ p : Packet, ∃ p1 : Packet, ∃ s : State, ∃ s1 : State, ∃ c : Nat, ∃ m, Admitted rowCanMode p s s1 p1 ∧ p.params = [BitVec.ofNat 8 c, BitVec.ofNat 8 m] ∧ c ≤ 1 ∧ m ≤ 2 ∧ m ≠ 0 ∧ s1.bitTimingOk c = false) ∧
    (∃ p : Packet, ∃ p1 : Packet, ∃ s : State, ∃ s1 : State, ∃ fl : Nat, ∃ rf : Nat, Admitted rowCanMbCreate p s s1 p1 ∧ fl = numAt p.params 0 1 ∧ rf = numAt p.params 1 2 ∧ ∃ good : Bool, good = (p.params.length == 11 && !bit fl 7 && bits rf 14 6 == 0 && bits (numAt p.params 3 4) 31 29 == 0 && bits (numAt p.params 7 4) 31 29 == 0 && !(bit fl 0 && bit fl 3) && !(bit fl 2 && !bit fl 3) && (!bit rf 15 || s1.on (F.DISP_F_CFG_LIVE (rf % 64)))) ∧ good = false) ∧
    (∃ p : Packet, ∃ p1 : Packet, ∃ s : State, ∃ s1 : State, ∃ fl : Nat, ∃ rf : Nat, Admitted rowCanMbCreate p s s1 p1 ∧ fl = numAt p.params 0 1 ∧ rf = numAt p.params 1 2 ∧ ∃ good : Bool, good = (p.params.length == 11 && !bit fl 7 && bits rf 14 6 == 0 && bits (numAt p.params 3 4) 31 29 == 0 && bits (numAt p.params 7 4) 31 29 == 0 && !(bit fl 0 && bit fl 3) && !(bit fl 2 && !bit fl 3) && (!bit rf 15 || s1.on (F.DISP_F_CFG_LIVE (rf % 64)))) ∧ good = true ∧ (s1.pool TY.MAILBOX).free = []) ∧
    (∃ p : Packet, ∃ p1 : Packet, ∃ s : State, ∃ s1 : State, ∃ c : Nat, ∃ n : Nat, ∃ fl : Nat, ∃ rf : Nat, ∃ id : Nat, ∃ mask : Nat, ∃ i : Nat, ∃ rest : List Nat, Admitted rowCanMbCreate p s s1 p1 ∧ p.params = BitVec.ofNat 8 fl :: (leBytes 2 rf ++ leBytes 4 id ++ leBytes 4 mask) ∧ fl < 128 ∧ rf < 65536 ∧ bits rf 14 6 = 0 ∧ id < 2 ^ 29 ∧ mask < 2 ^ 29 ∧ (bit fl 0 && bit fl 3) = false ∧ (bit fl 2 && !bit fl 3) = false ∧ (bit rf 15 = true → s1.on (F.DISP_F_CFG_LIVE (rf % 64)) = true) ∧ (s1.pool TY.MAILBOX).free = i :: rest ∧ i < 64) ∧
    (∃ p : Packet, ∃ p1 : Packet, ∃ s : State, ∃ s1 : State, ∃ n : Nat, ∃ len : Nat, ∃ d : List Byte, Admitted rowCanMbSend p s s1 p1 ∧ s1.handleStatus TY.MAILBOX p.handle = Stat.OK ∧ n = hIndex p.handle ∧ p.params = BitVec.ofNat 8 len :: d ∧ d.length = len ∧ len < 256 ∧ s1.boxOf (s1.f (F.FBUS_M_CFG_CTRL n)) 1 n = true ∧ canLenOk (s1.on (F.FBUS_M_CFG_FDF n)) len = true ∧ s1.canMode (s1.f (F.FBUS_M_CFG_CTRL n)) ≠ 2 ∧ (s1.boxPend n = false ∨ s1.boxOnBus n = false) ∧ s1.on (F.FBUS_M_CFG_SCHED n) = false) ∧
    (∃ p : Packet, ∃ p1 : Packet, ∃ s : State, ∃ s1 : State, ∃ n : Nat, ∃ len : Nat, ∃ d : List Byte, Admitted rowCanMbSend p s s1 p1 ∧ s1.handleStatus TY.MAILBOX p.handle = Stat.OK ∧ n = hIndex p.handle ∧ p.params = BitVec.ofNat 8 len :: d ∧ d.length = len ∧ len < 256 ∧ s1.boxOf (s1.f (F.FBUS_M_CFG_CTRL n)) 1 n = true ∧ canLenOk (s1.on (F.FBUS_M_CFG_FDF n)) len = true ∧ s1.canMode (s1.f (F.FBUS_M_CFG_CTRL n)) ≠ 2 ∧ (s1.boxPend n = false ∨ s1.boxOnBus n = false) ∧ s1.on (F.FBUS_M_CFG_SCHED n) = true) ∧
    (∃ p : Packet, ∃ p1 : Packet, ∃ s : State, ∃ s1 : State, ∃ n : Nat, ∃ len : Nat, ∃ d : List Byte, Admitted rowCanMbSend p s s1 p1 ∧ s1.handleStatus TY.MAILBOX p.handle = Stat.OK ∧ n = hIndex p.handle ∧ p.params = BitVec.ofNat 8 len :: d ∧ d.length = len ∧ len < 256 ∧ s1.boxOf (s1.f (F.FBUS_M_CFG_CTRL n)) 1 n = true ∧ canLenOk (s1.on (F.FBUS_M_CFG_FDF n)) len = true ∧ s1.canMode (s1.f (F.FBUS_M_CFG_CTRL n)) ≠ 2 ∧ s1.boxPend n = true ∧ s1.boxOnBus n = true) ∧
    (∃ p : Packet, ∃ p1 : Packet, ∃ s : State, ∃ s1 : State, ∃ n : Nat, ∃ len : Nat, ∃ d : List Byte, Admitted rowCanMbSend p s s1 p1 ∧ s1.handleStatus TY.MAILBOX p.handle = Stat.OK ∧ n = hIndex p.handle ∧ p.params = BitVec.ofNat 8 len :: d ∧ d.length = len ∧ len < 256 ∧ s1.boxOf (s1.f (F.FBUS_M_CFG_CTRL n)) 1 n = true ∧ canLenOk (s1.on (F.FBUS_M_CFG_FDF n)) len = true ∧ s1.canMode (s1.f (F.FBUS_M_CFG_CTRL n)) = 2) ∧
    (∃ p : Packet, ∃ p1 : Packet, ∃ s : State, ∃ s1 : State, ∃ n : Nat, ∃ len : Nat, ∃ d : List Byte, Admitted rowCanMbSend p s s1 p1 ∧ s1.handleStatus TY.MAILBOX p.handle = Stat.OK ∧ n = hIndex p.handle ∧ p.params = BitVec.ofNat 8 len :: d ∧ d.length = len ∧ len < 256 ∧ (s1.boxOf (s1.f (F.FBUS_M_CFG_CTRL n)) 1 n = false ∨ canLenOk (s1.on (F.FBUS_M_CFG_FDF n)) len = false)) ∧
    (∃ p : Packet, ∃ p1 : Packet, ∃ s : State, ∃ s1 : State, Admitted rowCanMbSend p s s1 p1 ∧ s1.handleStatus TY.MAILBOX p.handle = Stat.OK ∧ p.params.length ≠ 1 + numAt p.params 0 1) ∧
    (∃ p : Packet, ∃ p1 : Packet, ∃ s : State, ∃ s1 : State, Admitted rowCanMbCancel p s s1 p1 ∧ s1.handleStatus TY.MAILBOX p.handle = Stat.OK ∧ p.params ≠ []) ∧
    (∃ p : Packet, ∃ p1 : Packet, ∃ s : State, ∃ s1 : State, ∃ n : Nat, Admitted rowCanMbCancel p s s1 p1 ∧ s1.handleStatus TY.MAILBOX p.handle = Stat.OK ∧ n = hIndex p.handle ∧ p.params = [] ∧ s1.boxPend n = false) ∧
    (∃ p : Packet, ∃ p1 : Packet, ∃ s : State, ∃ s1 : State, ∃ n : Nat, Admitted rowCanMbCancel p s s1 p1 ∧ s1.handleStatus TY.MAILBOX p.handle = Stat.OK ∧ n = hIndex p.handle ∧ p.params = [] ∧ s1.boxPend n = true ∧ s1.boxOnBus n = false) ∧
    (∃ p : Packet, ∃ p1 : Packet, ∃ s : State, ∃ s1 : State, ∃ n : Nat, Admitted rowCanMbCancel p s s1 p1 ∧ s1.handleStatus TY.MAILBOX p.handle = Stat.OK ∧ n = hIndex p.handle ∧ p.params = [] ∧ s1.boxPend n = true ∧ s1.boxOnBus n = true) ∧
    (∃ p : Packet, ∃ p1 : Packet, ∃ s : State, ∃ s1 : State, Admitted rowCanRecover p s s1 p1 ∧ (p.params.length ≠ 1 ∨ 1 < numAt p.params 0 1)) ∧
    (∃ p : Packet, ∃ p1 : Packet, ∃ s : State, ∃ s1 : State, ∃ c : Nat, Admitted rowCanRecover p s s1 p1 ∧ p.params = [BitVec.ofNat 8 c] ∧ c ≤ 1 ∧ s1.f (F.FBUS_C_STAT_ESTATE c) = 2) ∧
    (∃ p : Packet, ∃ p1 : Packet, ∃ s : State, ∃ s1 : State, ∃ c : Nat, Admitted rowCanRecover p s s1 p1 ∧ p.params = [BitVec.ofNat 8 c] ∧ c ≤ 1 ∧ s1.f (F.FBUS_C_STAT_ESTATE c) ≠ 2) :=
  ⟨⟨(pk [0]), _, (node 1 7 []), _, admitted_self (by decide +kernel), by decide +kernel⟩,
   ⟨(pk [0, 0]), _, (node 1 7 []), _, 0, 0, admitted_self (by decide +kernel), by decide +kernel⟩,
   ⟨(pk [0, 1]), _, (node 1 7 []), _, 0, 1, admitted_self (by decide +kernel), by decide +kernel⟩,
   ⟨(pk [0, 0]), _, (node 1 7 []), _, 0, 0, admitted_self (by decide +kernel), by decide +kernel, by decide +kernel, _, rfl, by decide +kernel⟩,
   ⟨(cr 0x7E 0 0 0), _, { node 1 7 [] with cmd.pools := [(8, { Pool.fresh 8 with free := [] })] }, _, 126, 0, admitted_self (by decide +kernel), by decide +kernel, by decide +kernel, _, rfl, by decide +kernel⟩,
   ⟨(pk (0x30 :: (leBytes 2 0x8000 ++ leBytes 4 (2 ^ 29 - 1) ++ leBytes 4 0))), _, (node 1 7 [(F.DISP_F_CFG_LIVE 0, 1)]), _, 0, 0, 0x30, 0x8000, 2 ^ 29 - 1, 0, 0, (List.range 63).map (· + 1), admitted_self (by decide +kernel), by decide +kernel⟩,
   ⟨(snd2 0), _, (cnx 0 1 0 (mbx 0 0 1)), _, 0, 0, ((snd2 0).params.drop 1), admitted_self (by decide +kernel), by decide +kernel⟩,
   ⟨(snd2 0), _, (cnx 0 1 0 (mbx 0 0 1 [(F.FBUS_M_CFG_FDF 0, 1), (F.FBUS_M_STAT_PEND 0, 1), (F.FBUS_M_CFG_SCHED 0, 1)])), _, 0, 0, ((snd2 0).params.drop 1), admitted_self (by decide +kernel), by decide +kernel⟩,
   ⟨(snd2 0), _, (cnx 0 1 0 (mbx 0 0 1 [(F.FBUS_M_STAT_PEND 0, 1)]) (sndx 0 0 { slot := some (3, 4) })), _, 0, 0, ((snd2 0).params.drop 1), admitted_self (by decide +kernel), by decide +kernel⟩,
   ⟨(snd2 0), _, (cnx 1 2 0 (mbx 0 1 1)), _, 0, 0, ((snd2 0).params.drop 1), admitted_self (by decide +kernel), by decide +kernel⟩,
   ⟨(snd2 0), _, (cnx 1 1 0 (mbx 0 1 0)), _, 0, 0, ((snd2 0).params.drop 1), admitted_self (by decide +kernel), by decide +kernel⟩,
   ⟨(pk [] (hw 8)), _, (cnx 0 1 0 (mbx 0 0 1)), _, admitted_self (by decide +kernel), by decide +kernel⟩,
   ⟨(snd2 0), _, (cnx 0 1 0 (mbx 0 0 1)), _, admitted_self (by decide +kernel), by decide +kernel⟩,
   ⟨(pk [] (hw 8)), _, (cnx 0 1 0 (mbx 0 0 1)), _, 0, admitted_self (by decide +kernel), by decide +kernel⟩,
   ⟨(pk [] (hw 8)), _, (cnx 0 1 0 (mbx 0 0 1 [(F.FBUS_M_CFG_FDF 0, 1), (F.FBUS_M_STAT_PEND 0, 1), (F.FBUS_M_CFG_SCHED 0, 1)])), _, 0, admitted_self (by decide +kernel), by decide +kernel⟩,
   ⟨(pk [] (hw 8)), _, (cnx 0 1 0 (mbx 0 0 1 [(F.FBUS_M_STAT_PEND 0, 1)]) (sndx 0 0 { slot := some (3, 4) })), _, 0, admitted_self (by decide +kernel), by decide +kernel⟩,
   ⟨(pk [0, 0]), _, (node 1 7 []), _, admitted_self (by decide +kernel), by decide +kernel⟩,
   ⟨(pk [0]), _, (cnx 0 1 2 [] (sndx 0 0 {})), _, 0, admitted_self (by decide +kernel), by decide +kernel⟩,
   ⟨(pk [0]), _, (node 1 7 []), _, 0, admitted_self (by decide +kernel), by decide +kernel⟩⟩

end CanCommands

namespace WalksConserve

theorem wit_WalksConserve : ∃ (bins : List Nat) (n : Nat), bins.length = 32 ∧ n ≤ bins.foldl (· + ·) 0 :=
  ⟨List.replicate 32 2, 64, by decide +kernel⟩

end WalksConserve

namespace Whole

def d1 : DownFrame := { active := true, credit := true, trig := true, epoch := 65535, harebell := 65535, period := 32767, t1 := 2 ^ 64 - 1, delay := 2 ^ 24 - 1, tfrac := 7, trigId := 15, iarm := 2 ^ 24 - 1, thresh := 31, dir := 1, token := true, share := 4095, frac := 4095, slot := List.replicate 32 0xA5 }
def u1 : UpFrame := { active := true, creditReq := true, trigReq := true, epoch := 65535, addr := 8191, hbEcho := 65535, tally := List.replicate 32 65535, avail := 65535, unavail := 65535, stale := 65535, follow := true, witB := true, state := 15, sev := 3, turn := 2 ^ 24 - 1, asym := 65535, tmax := 255, vsum := 2 ^ 32 - 1, fcount := 65535, slot := List.replicate 32 0x5A }
def pBig : Packet := { cls := 3, auth := true, mcast := true, noReply := true, seq := 0xFFFF, target := 0x1FFF, source := 0xE001, handle := 0x80000001, params := [1, 2, 3], counter := 0xDEADBEEF, mac := [1, 2, 3, 4, 5, 6, 7, 8] }
def held : State := { State.reset with pending := [.tickBoundary] }
def sBusy (l : List (Nat × Packet)) : State := { node 1 7 [] with cmd.busy := some (1, {}), cmd.q2 := l }

theorem wit_StepRuns : (∃ s : State, s.pending = [] ∧ s.running = true) ∧ (∃ s : State, s.pending = [] ∧ s.running = false) :=
  ⟨⟨node 1 7 [], by decide +kernel⟩, ⟨State.reset, by decide +kernel⟩⟩

theorem wit_GlobalTime : ∃ s : State, s.clk.timePs < 2 ^ 64 * 1000 ∧ s.clk.freq = 0 ∧ s.clk.freqRem < 10 ^ 12 :=
  ⟨{ State.reset with clk.timePs := 2 ^ 64 * 1000 - 1 }, by decide +kernel⟩

theorem wit_RefusedCommands :
    (∃ i r p, ∃ s : State, opcodeOf i = some (r, p) ∧ s.running = false) ∧
    (∃ i r p, ∃ s : State, opcodeOf i = some (r, p) ∧ ∃ ty s1 p1, handleTypeOf r.code = some ty ∧ Admitted r p s s1 p1 ∧
      s1.handleStatus ty p.handle ≠ Stat.OK) ∧
    (∃ i r p, ∃ s v : State, opcodeOf i = some (r, p) ∧ v = s.copiesBefore r p ∧ s.running = true ∧ (p.slot || s.interpIdle) = true ∧
      v.hasRole r.roles = false) ∧
    (∃ i r p, ∃ s v : State, opcodeOf i = some (r, p) ∧ v = s.copiesBefore r p ∧ s.running = true ∧ (p.slot || s.interpIdle) = true ∧
      v.hasRole r.roles = true ∧ (p.auth || v.needsSession r) = true ∧ v.authSession r.code p = none) ∧
    (∃ i r p, ∃ s v : State, opcodeOf i = some (r, p) ∧ v = s.copiesBefore r p ∧ s.running = true ∧ (p.slot || s.interpIdle) = true ∧
      v.hasRole r.roles = true ∧ p.auth = false ∧ v.needsSession r = false ∧ v.class0Ok r p = false) ∧
    (∃ i r p, ∃ s : State, opcodeOf i = some (r, p) ∧ s.running = true ∧ p.slot = false ∧ s.interpIdle = false ∧
      32 ≤ (s.cmdQueue (queueClass p)).length) ∧
    (∃ i r p, ∃ s : State, opcodeOf i = some (r, p) ∧ s.running = true ∧ p.slot = false ∧ s.interpIdle = false ∧
      (s.cmdQueue (queueClass p)).length < 32) :=
  ⟨⟨.nop {}, rowNop, {}, State.reset, rfl, by decide +kernel⟩,
   ⟨.loopInfo {}, rowLoopInfo, {}, node 1 7 [], rfl, TY.LOOP, _, _, rfl, admitted_self (by decide +kernel), by decide +kernel⟩,
   ⟨.treeLoad {}, rowTreeLoad, {}, node 0 7 [], _, rfl, rfl, by decide +kernel⟩,
   ⟨.warmReset {}, rowWarmReset, {}, node 1 7 [(F.CMD_AUTH_REQ, 1)], _, rfl, rfl, by decide +kernel⟩,
   ⟨.warmReset { cls := 0 }, rowWarmReset, { cls := 0 }, node 1 7 [], _, rfl, rfl, by decide +kernel⟩,
   ⟨.nop { cls := 2 }, rowNop, { cls := 2 }, sBusy (List.replicate 32 (1, {})), rfl, by decide +kernel⟩,
   ⟨.nop { cls := 2 }, rowNop, { cls := 2 }, sBusy (List.replicate 31 (1, {})), rfl, by decide +kernel⟩⟩

theorem wit_EncodingsRoundTrip :
    (∃ (op : Nat) (p : Packet), op < 65536 ∧ p.wf = true ∧ p.slot = false ∧ p.lane = none) ∧
    (∃ g : Segment, g.kind < 256 ∧ g.ctl < 32 ∧ g.frag < 256 ∧ g.dest < 8192 ∧ g.payload.length ≤ 1024) ∧
    (∃ (kind cls dest : Nat) (data : List Byte), kind < 256 ∧ cls < 4 ∧ dest < 8192 ∧ data.length ≤ 262144) ∧
    (∃ d : DownFrame, d.epoch < 2 ^ 16 ∧ d.harebell < 2 ^ 16 ∧ d.period < 2 ^ 15 ∧ d.t1 < 2 ^ 64 ∧ d.delay < 2 ^ 24 ∧ d.tfrac < 8 ∧
      d.trigId < 16 ∧ d.iarm < 2 ^ 24 ∧ d.thresh < 32 ∧ d.dir < 2 ∧ d.share < 4096 ∧ d.frac < 4096 ∧ d.slot.length = 32) ∧
    (∃ u : UpFrame, u.epoch < 2 ^ 16 ∧ u.addr < 8192 ∧ u.hbEcho < 2 ^ 16 ∧ u.tally.length = 32 ∧ (∀ x ∈ u.tally, x < 2 ^ 16) ∧
      u.avail < 2 ^ 16 ∧ u.unavail < 2 ^ 16 ∧ u.stale < 2 ^ 16 ∧ u.state < 16 ∧ u.sev < 4 ∧ u.turn < 2 ^ 24 ∧ u.asym < 2 ^ 16 ∧
      u.tmax < 256 ∧ u.vsum < 2 ^ 32 ∧ u.fcount < 2 ^ 16 ∧ u.slot.length = 32) ∧
    (∃ ty i g : Nat, ty < 64 ∧ i < 16384 ∧ g < 4096) ∧ (∃ i r p, opcodeOf i = some (r, p)) :=
  ⟨⟨65535, pBig, by decide +kernel⟩, ⟨{ kind := 255, ctl := 31, frag := 255, dest := 8191, payload := List.replicate 1024 0xA5 }, by decide +kernel⟩,
   ⟨255, 3, 8191, List.replicate 5000 7, by decide +kernel⟩, ⟨d1, by decide +kernel⟩, ⟨u1, by decide +kernel⟩,
   ⟨63, 16383, 4095, by decide +kernel⟩, ⟨.nop {}, rowNop, {}, rfl⟩⟩

theorem wit_HeldInResetStays : ∃ s s' : State, s.heldInReset = true ∧
    (∀ r a b, s.pending.head? ≠ some (.powerOnResetRelease r a b)) ∧ step s = .next s' :=
  ⟨held, { State.reset with pending := [] }, by decide +kernel, (by intro r a b h; cases h), rfl⟩

end Whole

end Sys2Proof.Tests
end

section
/-!
SUPPORT. The scope chapter: what a part with power-on reset asserted drives, what a state with empty lists of differences
reads, and how global time passes; the two statements about the block as a whole follow from these.
-/
namespace Sys2Proof.Machine
open Sys2Proof

/-! Power-on reset asserted (06 R172, 12 R336, 13 R360, 17 R429). -/

theorem State.running_of_por {s : State} (h : s.clk.por = true) : s.running = false := by simp [State.running, h]

theorem State.goLevel_of_por {s : State} (h : s.clk.por = true) (n : Nat) : s.goLevel n = false := by simp [State.goLevel, h]

theorem State.gatesLow_of_por {s : State} (h : s.clk.por = true) : s.gatesLow = true := by
  simp [State.gatesLow, State.goLevel_of_por h]

theorem State.soLevel_of_por {s : State} (h : s.clk.por = true) (n ch : Nat) : s.soLevel n ch = false := by
  simp [State.soLevel, h]

theorem State.faultOut_of_por {s : State} (h : s.clk.por = true) : s.faultOut = true := by simp [State.faultOut, h]

/-! Registers and memory are kept as the differences from their reset values (00 R12, 11 R310). -/

theorem State.reg_of_regs_nil {s : State} (h : s.regs = []) (a : Nat) : s.reg a = regReset a := by
  rw [State.reg, h, Map.get_nil]

theorem State.f_of_regs_nil {s : State} (h : s.regs = []) (x : Fld) : s.f x = x.of (regReset x.addr).toNat := by
  rw [State.f, State.reg_of_regs_nil h]

theorem State.mem_of_bytes_nil {s : State} (h : s.bytes = []) (k : Nat) : s.mem k = 0 := by
  rw [State.mem, h, Map.get_nil]

/-! The state after reset. -/

theorem State.reset_por : State.reset.clk.por = true := rfl

theorem State.reset_regs : State.reset.regs = [] := rfl

theorem State.reset_bytes : State.reset.bytes = [] := rfl

theorem State.reset_heldInReset : State.reset.heldInReset = true := by decide

theorem State.reset_interpIdle : State.reset.interpIdle = true := rfl

theorem State.reset_st : State.reset.st = ST.OFF := by
  rw [State.st, State.f_of_regs_nil State.reset_regs]
  decide +kernel

theorem State.reset_tickPeriod : State.reset.f F.TICK_CFG_TICK_PERIOD = 4000 := by
  rw [State.f_of_regs_nil State.reset_regs]
  decide +kernel

/-- Settles O56: the outputs follow from power-on reset being asserted, the registers and memory from no difference being held. -/
theorem resetState : Obligations.ResetState := by
  unfold Obligations.ResetState
  have por := State.reset_por
  exact ⟨State.reset_heldInReset, State.gatesLow_of_por por, rfl, State.running_of_por por, State.reset_st,
    State.faultOut_of_por por, State.reset_interpIdle, State.reg_of_regs_nil State.reset_regs,
    State.mem_of_bytes_nil State.reset_bytes, State.reset_memory, State.soLevel_of_por por, State.reset_tickPeriod, rfl⟩

/-! Global time (00 R6). -/

theorem State.time_lt (s : State) : s.time < 2 ^ 64 := Nat.mod_lt _ (by decide)

theorem Clk.rate_of_freq_zero {c : Clk} (h : c.freq = 0) : c.rate = 10 ^ 12 := by simp [Clk.rate, h]

/-- Global time in ps stays below its wrap. -/
theorem State.pass_timePs_lt (s : State) (d : Nat) : (s.pass d).clk.timePs < 2 ^ 64 * 1000 := Nat.mod_lt _ (by decide)

/-- Without a frequency correction global time moves with elapsed time; less than one ps is carried on, and adds nothing. -/
theorem State.pass_timePs {s : State} (hf : s.clk.freq = 0) (hr : s.clk.freqRem < 10 ^ 12) (d : Nat) :
    (s.pass d).clk.timePs = (s.clk.timePs + d) % (2 ^ 64 * 1000) := by
  have whole : (d * 10 ^ 12 + s.clk.freqRem) / 10 ^ 12 = d := by omega
  simp only [State.pass, Clk.rate_of_freq_zero hf, whole]

/-- Whole ns that pass are added to the count of ns, 64 bits wide. -/
theorem State.pass_time {s : State} (hf : s.clk.freq = 0) (hr : s.clk.freqRem < 10 ^ 12) (d : Nat) :
    (s.pass (1000 * d)).time = (s.time + d) % 2 ^ 64 := by
  simp only [State.time, State.pass_timePs hf hr]
  omega

/-- Settles O57: the clock in ps wraps at 2^64 ns, so the count of ns wraps at 2^64, and a pass of time writes the clock alone. -/
theorem globalTime : Obligations.GlobalTime := by
  unfold Obligations.GlobalTime
  intro s d
  exact ⟨s.time_lt, fun _ hf hr => ⟨State.pass_time hf hr d, s.pass_timePs_lt _, touch_pass s _⟩⟩

end Sys2Proof.Machine
end

section
/-!
SUPPORT. The end of a command: the rounds of the fault hub, the safety outputs and the leaving of BLOCKED (`State.finish`)
leave aside the tree, the commands that wait and the trend streams; with none of the last two, so does `State.wrapUp`.
-/
namespace Sys2Proof.Machine
open Sys2Proof

/-- What stands aside while a command ends: the tree with the assignment taken, the commands that wait, the trend streams. -/
structure Aside where
  tree : Tree
  q1 : List (Nat × Packet)
  q2 : List (Nat × Packet)
  q3 : List (Nat × Packet)
  trends : List (Nat × TrendSt)

/-- The state has `v` aside. -/
def Aside.Of (v : Aside) (s : State) : Prop :=
  s.tree = v.tree ∧ s.cmd.q1 = v.q1 ∧ s.cmd.q2 = v.q2 ∧ s.cmd.q3 = v.q3 ∧ s.recorder.trends = v.trends

namespace Aside.Of
variable {v : Aside} {s : State}

theorem touches {ps : List Part} {l : List Nat} {t : State} (h : v.Of s) (k : Touches ps l s t) (ht : .tree ∉ ps) (hc : .cmd ∉ ps)
    (hr : .recorder ∉ ps) : v.Of t := by
  have tree : t.tree = s.tree := k.1 .tree ht
  have cmd : t.cmd = s.cmd := k.1 .cmd hc
  have recorder : t.recorder = s.recorder := k.1 .recorder hr
  rw [Aside.Of, tree, cmd, recorder]
  exact h

/-- An update of other parts. -/
theorem update (h : v.Of s) {clk node hub yar swu safe disp} :
    v.Of { s with clk := clk, node := node, hub := hub, yar := yar, swu := swu, safe := safe, disp := disp } := h

/-- An update of the hub, with pulses for the sequencer. -/
theorem updatePulses (h : v.Of s) {hub pulses} : v.Of { s with hub := hub, recorder.pulses := pulses } := h

/-- An update of the commands beside those that wait. -/
theorem updateCmd (h : v.Of s) {replySlot sent busy qspiReply coreReplies} :
    v.Of { s with cmd.replySlot := replySlot, cmd.sent := sent, cmd.busy := busy, cmd.qspiReply := qspiReply,
                  cmd.coreReplies := coreReplies } := h

theorem setReg (h : v.Of s) (a : Nat) (w : Word) : v.Of (s.setReg a w) := h
theorem setF (h : v.Of s) (x : Fld) (n : Nat) : v.Of (s.setF x n) := h
theorem bump (h : v.Of s) (x : Fld) : v.Of (s.bump x) := h
theorem raise (h : v.Of s) (n : Nat) : v.Of (s.raise n) := h
theorem updPair (h : v.Of s) (n : Nat) (g : PairSt → PairSt) : v.Of (s.updPair n g) := h
theorem enter (h : v.Of s) (c : Nat) : v.Of (s.enter c) := h

theorem ite {t : State} {c : Prop} [Decidable c] (h : v.Of s) (k : v.Of t) : v.Of (if c then s else t) := by
  split
  · exact h
  · exact k

theorem raiseIf (h : v.Of s) (c : Bool) (n : Nat) : v.Of (s.raiseIf c n) := ite (h.raise n) h

theorem each {α : Type} (h : v.Of s) (l : List α) {g : State → α → State} (hg : ∀ s x, v.Of s → v.Of (g s x)) :
    v.Of (s.each l g) := State.each_keeps v.Of l g hg s h

theorem when (h : v.Of s) (c : Bool) {g : State → State} (hg : ∀ s, v.Of s → v.Of (g s)) : v.Of (s.when c g) := ite (hg s h) h

/-! Replies and reports. -/

theorem queueTx (h : v.Of s) (n : Nat) (t : TxItem) : v.Of (s.queueTx n t) :=
  h.touches (queueTx_touch s n t) (by simp) (by simp) (by simp)

theorem sendMessage (h : v.Of s) (n kind cls dest : Nat) (m : Bool) (b : List Byte) (bad : Bool) :
    v.Of (s.sendMessage n kind cls dest m b bad) := h.each _ fun _ _ h => h.queueTx _ _

theorem sendHost (h : v.Of s) (port mac prio : Nat) (segs : List (List Byte)) (bad : Bool) :
    v.Of (s.sendHost port mac prio segs bad) := by
  unfold State.sendHost
  split
  · exact h
  · exact ite (h.each _ fun _ _ h => h.queueTx _ _) h

theorem deliver (h : v.Of s) (source : BitVec 16) (key cls : Nat) (b : List Byte) : v.Of (s.deliver source key cls b) := by
  unfold State.deliver
  split
  · exact h.updateCmd
  · exact h.updateCmd.setF _ _
  · exact h.sendHost _ _ _ _ _
  · exact h.sendHost _ _ _ _ _
  · exact h

theorem deliverTo (h : v.Of s) (kind : Nat) (sub : Subscriber) (b : List Byte) (bad : Bool) : v.Of (s.deliverTo kind sub b bad) := by
  unfold State.deliverTo
  refine ite ?_ ?_
  · split
    · exact h.updateCmd
    · exact h.updateCmd.setF _ _
    · exact h.sendHost _ _ _ _ _
    · exact h.sendHost _ _ _ _ _
    · exact h
  · split
    · exact h.sendMessage _ _ _ _ _ _ _
    · exact h

theorem routeReply (h : v.Of s) (p : Packet) (b : List Byte) : v.Of (s.routeReply p b) := by
  unfold State.routeReply
  refine ite (h.deliver _ _ _ _) (ite h.updateCmd ?_)
  split
  · exact h.sendMessage _ _ _ _ _ _ _
  · exact h

theorem reply (h : v.Of s) (op : Nat) (p : Packet) (final : Bool) (st : Nat) (b : List Byte) : v.Of (s.reply op p final st b) :=
  ite h ((h.when _ fun _ h => h.bump _).updateCmd.routeReply _ _)

theorem release (h : v.Of s) (op : Nat) (p : Packet) (st : Nat) (b : List Byte) : v.Of (s.release op p st b) :=
  h.updateCmd.reply _ _ _ _ _

theorem eventDrop (h : v.Of s) : v.Of s.eventDrop := (h.bump _).raise _

theorem report (h : v.Of s) (kind : Nat) (b : List Byte) : v.Of (s.report kind b) := by
  unfold State.report
  refine ite (h.each _ fun _ _ h => h.deliverTo _ _ _ _) ?_
  split
  · exact h.queueTx _ _
  · exact h.eventDrop

theorem event (h : v.Of s) (src flags rec mcnt : Nat) : v.Of (s.event src flags rec mcnt) :=
  ite h.eventDrop (h.update.report _ _)

/-! Pairs, channels and node states. -/

theorem failedFlags (h : v.Of s) : v.Of s.failedFlags := h.each _ fun _ _ h => h.setF _ _

theorem applyForces (h : v.Of s) : v.Of s.applyForces :=
  ((h.each _ fun _ _ h => (h.updPair _ _).setF _ _).each _ fun _ _ h => h.updPair _ _).failedFlags

theorem yarrowSafe (h : v.Of s) : v.Of s.yarrowSafe :=
  ((((h.each _ fun _ _ h => h.updPair _ _).each _ fun _ _ h => ite h ((h.setF _ _).bump _)).each _
    fun _ _ h => ((h.setF _ _).setF _ _).setF _ _).setF _ _).update

theorem haltChan (h : v.Of s) (p : Nat) : v.Of (s.haltChan p) := ((h.updPair _ _).setF _ _).updPair _ _

theorem dropChan (h : v.Of s) (p : Nat) : v.Of (s.dropChan p) := by
  unfold State.dropChan
  refine (each ?_ _ fun _ _ h => h.reply _ _ _ _ _).haltChan p
  split
  · exact h.release _ _ _ _
  · exact h

theorem loadTick (h : v.Of s) : v.Of s.loadTick := (ite h h.update).update

theorem go (h : v.Of s) (c : Nat) : v.Of (s.go c) := by
  refine ite h (when (when (when (when (when ?_ _ ?_) _ ?_) _ ?_) _ ?_) _ ?_)
  · exact h.enter c
  · exact fun _ h => h.loadTick
  · exact fun _ h => h.update
  · exact fun _ h => h.yarrowSafe
  · exact fun _ h => h.each _ fun _ _ h => h.dropChan _
  · exact fun _ h => h.applyForces

theorem goWaitCredit (h : v.Of s) : v.Of s.goWaitCredit := by
  have waits : v.Of { s.go ST.WAIT_CREDIT with node.creditWaitRaised := false } := (h.go _).update
  exact ite ((waits.setF _ _).go _) waits

/-! Causes of demand and safety outputs. -/

theorem endSafeStop (h : v.Of s) : v.Of s.endSafeStop := (h.each _ fun _ _ h => h.setF _ _).setF _ _

theorem checkSafeStopEnd (h : v.Of s) : v.Of s.checkSafeStopEnd := ite (h.setF _ _).update h

theorem obeyLevel (h : v.Of s) : v.Of s.obeyLevel := by
  have shown (l g) : v.Of ((s.checkSafeStopEnd.setF F.SAFE_CAUSE_LEVEL l).setF F.SAFE_STAT_SGR g) := (h.checkSafeStopEnd.setF _ _).setF _ _
  have stopped {c : Prop} [Decidable c] (l g b) := ite (c := c) ((shown l g).when b fun _ h => h.endSafeStop) (shown l g)
  exact ((ite (stopped _ _ _).update (stopped _ _ _).update).when _ fun _ h => h.go _).applyForces

theorem setCause (h : v.Of s) (c lvl : Nat) : v.Of (s.setCause c lvl) :=
  (((ite h.update.update (ite h.update.update h.update)).setReg _ _).raiseIf _ _).obeyLevel

theorem lockOut (h : v.Of s) (n : Nat) : v.Of (s.lockOut n) := by
  have locks {safe} : v.Of { ((s.setF (F.SAFE_OUT_LOCK n) 1).setF (F.SAFE_OUT_DEG n) 0).setF (F.SAFE_OUT_DEG_LEFT n) 0 with safe := safe } :=
    (((h.setF _ _).setF _ _).setF _ _).update
  exact ite h (ite ((locks.raise _).setCause _ _) (locks.raise _))

theorem driveOutputs (h : v.Of s) : v.Of s.driveOutputs := by
  refine (((h.each _ fun s n h => ?_).setF _ _).setF _ _).setF _ _
  exact (ite (h.lockOut n) h).each [0, 1] fun _ _ h => ite h (h.setF _ _).update

/-! The fault hub. -/

theorem addToSet (h : v.Of s) (base : Nat → Nat) (n : Nat) : v.Of (s.addToSet base n) := h.setReg _ _

theorem clearSet (h : v.Of s) (base : Nat → Nat) : v.Of (s.clearSet base) := h.each _ fun _ _ h => h.setReg _ _

theorem reachSev (h : v.Of s) (n : Nat) : v.Of (s.reachSev n) := ite (h.setF _ _) ((h.setF _ _).setF _ _).updatePulses.update

theorem openRecord (h : v.Of s) (srcs : List Nat) : v.Of (s.openRecord srcs) :=
  (((((((h.setReg _ _).setReg _ _).setReg _ _).clearSet _).clearSet _).setReg _ _).each _ fun _ _ h => h.addToSet _ _).reachSev _

theorem mergeRaise (h : v.Of s) (n : Nat) : v.Of (s.mergeRaise n) :=
  ite (((h.addToSet _ _).bump _).reachSev _) ((h.addToSet _ _).bump _)

theorem s3Action (h : v.Of s) (act : Nat) : v.Of (s.s3Action act) := by
  have acted {c : Prop} [Decidable c] {safe} :
      v.Of (if c then { s.setF F.FHUB_REC_S3_ACTED 1 with safe := safe } else s.setF F.FHUB_REC_S3_ACTED 1) :=
    ite (h.setF _ _).update (h.setF _ _)
  exact ite (ite ((acted.setCause _ _).go _) (acted.setCause _ _).update) (ite (acted.setCause _ _) acted)

theorem postFlow (h : v.Of s) (f : Nat) (w : Word) : v.Of (s.postFlow f w).1 := by
  unfold State.postFlow
  split
  · exact h
  · exact h.update.setF _ _

theorem postFlowIndex (h : v.Of s) (f : Nat) (w : Word) : v.Of (s.postFlowIndex f w).1 := by
  have posted := h.postFlow f w
  unfold State.postFlowIndex
  split
  · exact h
  · split
    · next e =>
      rw [e] at posted
      exact (posted.bump _).raise _
    · next e =>
      rw [e] at posted
      exact posted

theorem reportRaise (h : v.Of s) (opened fresh : Bool) (n : Nat) : v.Of (s.reportRaise opened fresh n) :=
  have routed {c d : Prop} [Decidable c] [Decidable d] {f w} := ite (c := c) (ite (c := d) (h.postFlowIndex f w) h.eventDrop) h
  ite (routed.event _ _ _ _) routed

theorem evalRaises (h : v.Of s) : v.Of s.evalRaises :=
  (((ite ((h.update.each _ fun _ _ h => (h.addToSet _ _).bump _).openRecord _)
    ((h.update.each _ fun _ _ h => (h.addToSet _ _).bump _).each _ fun _ _ h => h.mergeRaise _)).each _
    fun _ _ h => h.reportRaise _ _ _).each _ fun _ _ h => h.s3Action _)

theorem settle (h : v.Of s) (n : Nat) : v.Of (State.settle n s) := by
  induction n generalizing s with
  | zero => exact h
  | succ n ih => exact ite h (ih h.evalRaises)

theorem resolveRecord (h : v.Of s) : v.Of s.resolveRecord := by
  have closed : v.Of (s.closeRecord false) := h.update.setF _ _
  exact ite ((closed.event _ _ _ _).setF _ _) (closed.event _ _ _ _)

theorem leaveBlocked (h : v.Of s) : v.Of s.leaveBlocked := by
  have resolved {c : Prop} [Decidable c] := ite (c := c) h.resolveRecord h
  exact ite (ite (resolved.go _) resolved.goWaitCredit) h

theorem finish (h : v.Of s) : v.Of s.finish := (h.settle 16).driveOutputs.leaveBlocked.settle 16

end Aside.Of

theorem State.each_unchanged {α : Type} (s : State) (l : List α) (g : State → α → State) (hg : ∀ x, g s x = s) : s.each l g = s := by
  induction l with
  | nil => rfl
  | cons x l ih => rw [State.each, List.foldl_cons, hg x]; exact ih

theorem State.endSurvey_of_none {s : State} (h : s.tree.survey = none) : s.endSurvey = s := by
  rw [State.endSurvey, h]

theorem State.trend_of_nil {s : State} (h : s.recorder.trends = []) (n : Nat) : s.trend n = {} := by
  rw [State.trend, h, Map.get_nil]

theorem State.trendPump_of_nil {s : State} (h : s.recorder.trends = []) : s.trendPump = s := by
  have none_closed : trendNumbers.filter (fun n => (s.trend n).closed != []) = [] := by simp [State.trend_of_nil h]
  rw [State.trendPump, none_closed]
  rfl

theorem State.watchTrends_of_nil {s : State} (h : s.recorder.trends = []) : s.watchTrends = s :=
  s.each_unchanged _ _ fun n => by simp [State.watchTrend, State.trend_of_nil h]

/-- With no survey, no waiting command and no trend stream, the end of a command leaves the tree alone. -/
theorem State.wrapUp_tree {s : State} (hs : s.tree.survey = none) (h1 : s.cmd.q1 = []) (h2 : s.cmd.q2 = []) (h3 : s.cmd.q3 = [])
    (ht : s.recorder.trends = []) : s.wrapUp.tree = s.tree := by
  have aside : Aside.Of ⟨s.tree, [], [], [], []⟩ s := ⟨rfl, h1, h2, h3, ht⟩
  have ended := aside.finish
  obtain ⟨tree, q1, q2, q3, trends⟩ := ended
  have wraps : s.wrapUp = s.finish.finish := by
    rw [State.wrapUp, State.endSurvey_of_none (by rw [tree]; exact hs), State.trendPump_of_nil trends, State.watchTrends_of_nil trends, q1, q2, q3]
    rfl
  rw [wraps]
  exact aside.finish.finish.1

end Sys2Proof.Machine
end

section
/-!
SUPPORT. ASSIGN at a child (01 R31 to R38): two ASSIGN messages complete in one clk.
-/
namespace Sys2Proof.Machine
open Sys2Proof

/-- The entry of a Floret at address 2 under address 0, on its parent's lanes 4 and 5. -/
def floretEntry : Entry := leBytes 2 2 ++ leBytes 2 2 ++ leBytes 2 0 ++ [0, 0, 0, 0, 4, 5, 0xFF, 1, 0, 0]

/-- That entry as an ASSIGN of one segment. -/
def floretAssign : Segment := { kind := KIND.ASSIGN, ctl := 12, frag := 0, dest := 0, payload := floretEntry }

/-- A Floret in SYNC with uplink A up, which has taken the entry from uplink B in the present clk. -/
def takenFromB : State :=
  ((({ clk := { por := false }, tree := { taken := floretEntry, takenLane := 1, takenAt := some 0 } : State }.setF F.SYS_STATE_STATE ST.SYNC).setF
    (F.LANE_STATUS_STATE 0) 5).setF F.CMD_NODE_ADDR 2).setF F.CMD_NODE_ASSIGNED 1

/-- The repetition on uplink A is taken in place of the one taken from uplink B. -/
theorem takenFromB_assign : ∃ t, exec (.assign 0 (segBytes floretAssign)) takenFromB = .next t ∧ t.tree.takenLane = 0 :=
  ⟨_, rfl, by decide +kernel⟩

/-- An ASSIGN that is only answered leaves the uplink whose ASSIGN was taken. -/
theorem answerAssign_wrapUp_takenLane {u : State} (h : Touches [.lanes] [] takenFromB u) (n kind : Nat) (p b : List Byte) :
    (u.answerAssign n kind p b).wrapUp.tree.takenLane = 1 := by
  have k : Touches [.lanes, .hub] [A.LANE_SEG n] takenFromB (u.answerAssign n kind p b) :=
    (h.mono (by simp) (by simp)).trans (sendSeg_touch u n kind 0 _ _)
  have tree : (u.answerAssign n kind p b).tree = takenFromB.tree := k.1 .tree (by simp)
  have cmd : (u.answerAssign n kind p b).cmd = takenFromB.cmd := k.1 .cmd (by simp)
  have recorder : (u.answerAssign n kind p b).recorder = takenFromB.recorder := k.1 .recorder (by simp)
  rw [State.wrapUp_tree (by rw [tree]; rfl) (by rw [cmd]; rfl) (by rw [cmd]; rfl) (by rw [cmd]; rfl) (by rw [recorder]; rfl), tree]
  rfl

/-- Refutes O17: a repetition of the assignment on uplink A in the very clk in which it was taken from uplink B is not only
answered, as the statement says of every repetition, but taken in place of that one (R33: of two ASSIGN messages complete in
one clk the node takes the one on uplink A). -/
theorem not_assignment : ¬ Obligations.Assignment := by
  unfold Obligations.Assignment
  intro h
  obtain ⟨assigned, -⟩ := h 0 (segBytes floretAssign) floretAssign takenFromB (by decide +kernel)
  obtain ⟨-, -, repeated⟩ := assigned (by decide +kernel) (by decide +kernel) rfl rfl rfl rfl (by decide +kernel) (by decide +kernel)
    (by decide +kernel) (by decide +kernel)
  obtain ⟨u, answered, touched⟩ := repeated (by decide +kernel) rfl
  obtain ⟨t, taken, lane⟩ := takenFromB_assign
  rw [taken, Host.Outcome.next.injEq] at answered
  rw [answered, answerAssign_wrapUp_takenLane touched] at lane
  exact absurd lane (by decide)

end Sys2Proof.Machine
end

section
/-!
SUPPORT. Segments and packets on their way to the interpreter (03 R96, 04 R109 to R117): what each shared operation of Segments.lean,
Interp.lean and Track.lean does, one lemma per case.
-/
namespace Sys2Proof.Machine
open Sys2Proof

/-! What a frame leaves readable. -/

theorem Touches.f {ps : List Part} {l : List Nat} {s t : State} (h : Touches ps l s t) {x : Fld} (hx : x.addr ∉ l) : t.f x = s.f x := by
  rw [State.f, State.f, h.2 _ hx]

theorem Touches.running {ps : List Part} {l : List Nat} {s t : State} (h : Touches ps l s t) (hc : .clk ∉ ps) : t.running = s.running := by
  have clk : t.clk = s.clk := h.1 .clk hc
  rw [State.running, State.running, clk]

theorem Touches.cmd {ps : List Part} {l : List Nat} {s t : State} (h : Touches ps l s t) (hc : .cmd ∉ ps) : t.cmd = s.cmd := h.1 .cmd hc
theorem Touches.safe {ps : List Part} {l : List Nat} {s t : State} (h : Touches ps l s t) (hc : .safe ∉ ps) : t.safe = s.safe := h.1 .safe hc
theorem Touches.addr {ps : List Part} {l : List Nat} {s t : State} (h : Touches ps l s t) (hc : F.CMD_NODE_ADDR.addr ∉ l) : t.addr = s.addr :=
  h.f hc

theorem touch_cmd (s : State) (c : Cmd) : Touches [.cmd] [] s { s with cmd := c } :=
  ⟨fun p hp => by cases p <;> simp_all [Part.same], fun _ _ => rfl⟩

theorem touch_freeCount (s : State) (k : Nat) : Touches [.free] [] s { s with freeCount := k } :=
  ⟨fun p hp => by cases p <;> simp_all [Part.same], fun _ _ => rfl⟩

/-! Events of a part that runs. -/

theorem exec_command {s : State} (h : s.running = true) (e : CmdEntry) : exec (.command e) s = .next (onCommand e s).wrapUp :=
  congrArg _ (runEvent_running _ h)
theorem exec_reply {s : State} (h : s.running = true) (n : Fin 32) (b : List Byte) : exec (.reply n b) s = .next (onReply n b s).wrapUp :=
  congrArg _ (runEvent_running _ h)
theorem exec_commandTimeout {s : State} (h : s.running = true) (src seq : BitVec 16) :
    exec (.commandTimeout src seq) s = .next (onCommandTimeout src seq s).wrapUp := congrArg _ (runEvent_running _ h)
theorem exec_cmdRetryExpiry {s : State} (h : s.running = true) (o : BitVec 16) (k : Nat) (p : Packet) :
    exec (.cmdRetryExpiry o k p) s = .next (onCmdRetryExpiry o k p s).wrapUp := congrArg _ (runEvent_running _ h)

/-! Segments on a lane (03 R96, R97). -/

/-- A lane notes what it has received (LANE_LOAD). -/
def State.heard (s : State) (n : Nat) (b : List Byte) : State :=
  s.updLane n (fun l => { l with rxLog := noteLoad s.now (b.length + 2) l.rxLog })

theorem heard_touch (s : State) (n : Nat) (b : List Byte) : Touches [.lanes] [] s (s.heard n b) := touch_updLane _ _ _

theorem parseSeg_kind {b : List Byte} {g : Segment} (h : parseSeg b = some g) : segKind b = g.kind := by
  unfold parseSeg at h
  dsimp only at h
  split at h
  · cases h; rfl
  · cases h

/-- A good segment of the kind listed for its row is taken. -/
theorem State.segment_good {s : State} {n : Fin 32} {kind : Nat} {b : List Byte} {g : Segment} (up : s.laneUp n = true)
    (hp : parseSeg b = some g) (hk : g.kind = kind) (listed : kindListed kind = true) (hm : kind ≠ KIND.MIRROR)
    (take : State → Segment → State) : s.segment n kind b take = take (s.heard n b) g := by
  subst hk
  have taken : s.takeSegment n b = (s.heard n b, some g) := by simp [State.takeSegment, hp, listed, hm, State.heard]
  simp [State.segment, up, parseSeg_kind hp, taken]

/-- A lane keeps nothing of a message that is whole. -/
def State.gathered (s : State) (n : Nat) (g : Segment) : State :=
  s.updLane n (fun l => { l with rx := Map.set {} l.rx (g.dest * 64 + g.ctl % 4 * 16 + g.kind) {} })

theorem gathered_touch (s : State) (n : Nat) (g : Segment) : Touches [.lanes] [] s (s.gathered n g) := touch_updLane _ _ _

/-- A message of one segment is whole. -/
theorem State.assemble_single (s : State) (n : Nat) {g : Segment} (first : bit g.ctl 2 = true) (last : bit g.ctl 3 = true)
    (frag : g.frag = 0) : s.assemble n g = (s.gathered n g, some g.payload) := by
  simp [State.assemble, first, last, frag, State.gathered]

theorem State.route_self (s : State) : s.route s.addr = .here := by simp [State.route]

/-! Entry of a command from a core (04 R110, R114, R117). -/

theorem noteEntry_cmd (s : State) (op : Nat) (p : Packet) (mac : Nat) :
    s.noteEntry op p mac = { s with cmd := (s.noteEntry op p mac).cmd } := by
  unfold State.noteEntry
  dsimp only
  split <;> rfl

theorem noteEntry_touch (s : State) (op : Nat) (p : Packet) (mac : Nat) : Touches [.cmd] [] s (s.noteEntry op p mac) := by
  rw [noteEntry_cmd]
  exact touch_cmd _ _

theorem noteEntry_tracked (s : State) (op : Nat) (p : Packet) (mac : Nat) : (s.noteEntry op p mac).cmd.tracked = s.cmd.tracked := by
  unfold State.noteEntry
  dsimp only
  split <;> rfl
theorem noteEntry_c0q (s : State) (op : Nat) (p : Packet) (mac : Nat) : (s.noteEntry op p mac).cmd.c0q = s.cmd.c0q := by
  unfold State.noteEntry
  dsimp only
  split <;> rfl
theorem noteEntry_slotsOut (s : State) (op : Nat) (p : Packet) (mac : Nat) : (s.noteEntry op p mac).cmd.slotsOut = s.cmd.slotsOut := by
  unfold State.noteEntry
  dsimp only
  split <;> rfl

theorem noteEntry_route (s : State) (op : Nat) (p : Packet) (mac dest : Nat) : (s.noteEntry op p mac).route dest = s.route dest := by
  rw [noteEntry_cmd]
  rfl

theorem noteEntry_rangeUnit (s : State) (op : Nat) (p : Packet) (mac dest : Nat) :
    (s.noteEntry op p mac).rangeUnit dest = s.rangeUnit dest := by
  rw [noteEntry_cmd]
  rfl
theorem noteEntry_activeMeadow (s : State) (op : Nat) (p : Packet) (mac : Nat) :
    (s.noteEntry op p mac).activeMeadow = s.activeMeadow := by
  rw [noteEntry_cmd]
  rfl
theorem noteEntry_clk (s : State) (op : Nat) (p : Packet) (mac : Nat) : (s.noteEntry op p mac).clk = s.clk :=
  (noteEntry_touch s op p mac).1 .clk (by decide)
theorem noteEntry_slotsClosed (s : State) (op : Nat) (p : Packet) (mac : Nat) :
    (s.noteEntry op p mac).slotsClosed = s.slotsClosed := by
  rw [State.slotsClosed, State.slotsClosed, noteEntry_clk]

/-- A packet within the class-0 limit of its entry (R114). -/
def fitsClass (p : Packet) : Prop := p.cls = 0 → p.params.length ≤ if p.auth then 0 else 16

theorem fitsClass.not_over {p : Packet} (fits : fitsClass p) : ¬ (p.cls = 0 ∧ (if p.auth then 0 else 16) < p.params.length) :=
  fun ⟨cls, large⟩ => Nat.not_lt.mpr (fits cls) large

theorem State.enterCommand_here {s : State} {op : Nat} {p : Packet} {k : Nat} (fits : fitsClass p)
    (h : (s.noteEntry op p k).routeCmd p = .here) : s.enterCommand op p 0 k = (s.noteEntry op p k).takeCommand op p := by
  simp only [State.enterCommand, State.portDenied, if_true, if_neg fits.not_over, h]
  rfl

theorem State.enterCommand_fail {s : State} {op : Nat} {p : Packet} {k : Nat} (fits : fitsClass p)
    (h : (s.noteEntry op p k).routeCmd p = .fail) :
    s.enterCommand op p 0 k = (s.noteEntry op p k).refuseEntry op p Stat.ROUTE_FAIL := by
  simp only [State.enterCommand, State.portDenied, if_true, if_neg fits.not_over, h]
  rfl

theorem State.enterCommand_lane {s : State} {op : Nat} {p : Packet} {k out : Nat} (fits : fitsClass p)
    (h : (s.noteEntry op p k).routeCmd p = .lane out) :
    s.enterCommand op p 0 k = (s.noteEntry op p k).sendOnward op p out := by
  simp only [State.enterCommand, State.portDenied, if_true, if_neg fits.not_over, h]
  rfl

theorem State.routeCmd_single {s : State} {p : Packet} (h : p.mcast = false) : s.routeCmd p = s.route p.target.toNat := by
  simp [State.routeCmd, h]

/-- A command for this node stays here, MCAST or not. -/
theorem State.routeCmd_self {s : State} {p : Packet} (h : p.target.toNat = s.addr) : s.routeCmd p = .here := by
  rw [State.routeCmd, h, State.route_self, ite_self]

theorem State.takeCommand_row {s : State} {op : Nat} {p : Packet} {r : OpRow} (h : opRow op = some r) : s.takeCommand op p = s.submit r p := by
  rw [State.takeCommand, h]

/-! Tracking (04 R117). -/

/-- A command with this SOURCE and SEQ is tracked. -/
def State.tracks (s : State) (p : Packet) : Prop := ∃ x ∈ s.cmd.tracked, x.source = p.source ∧ x.seq = p.seq

theorem State.tracks_iff {s : State} {p : Packet} :
    s.cmd.tracked.any (fun t => t.source == p.source && t.seq == p.seq) = true ↔ s.tracks p := by
  simp [State.tracks]

theorem State.not_tracks_iff {s : State} {p : Packet} :
    ¬ s.tracks p ↔ ∀ x ∈ s.cmd.tracked, x.source ≠ p.source ∨ x.seq ≠ p.seq := by
  simp only [State.tracks, not_exists, not_and_or, ne_eq, imp_iff_not_or]

theorem State.sendOnward_tracked {s : State} {op : Nat} {p : Packet} (out : Nat) (h : s.tracks p) :
    s.sendOnward op p out = s.refuseEntry op p Stat.BAD_PARAM := by
  rw [State.sendOnward, if_pos (State.tracks_iff.mpr h)]

theorem State.sendOnward_full {s : State} {op : Nat} {p : Packet} (out : Nat) (h : ¬ s.tracks p) (full : 64 ≤ s.cmd.tracked.length) :
    s.sendOnward op p out = s.refuseEntry op p Stat.BUSY := by
  rw [State.sendOnward, if_neg (fun k => h (State.tracks_iff.mp k)), if_pos full]

/-- What the entry node keeps of a command it sends onward, before its deadline or slot. -/
def State.trackedAs (s : State) (op : Nat) (p : Packet) : Tracked :=
  { source := p.source, seq := p.seq, opcode := BitVec.ofNat 16 op, cls := p.cls.toNat
    unit := (s.rangeUnit p.target.toNat).getD 0, silent := p.noReply || p.mcast }

/-- The state with one more command tracked. -/
def State.track (s : State) (x : Tracked) : State := { s with cmd.tracked := s.cmd.tracked ++ [x] }

theorem track_touch (s : State) (x : Tracked) : Touches [.cmd] [] s (s.track x) := touch_cmd _ _

/-- What it keeps of a command outside class 0: its deadline as well. -/
def State.messageAs (s : State) (op : Nat) (p : Packet) : Tracked :=
  { s.trackedAs op p with deadline := s.now + s.f F.CMD_TMO_TMO_BE * 100000 }

/-- A command outside class 0 goes onward as a message, with its deadline. -/
theorem State.sendOnward_message {s : State} {op : Nat} {p : Packet} (out : Nat) (h : ¬ s.tracks p) (room : s.cmd.tracked.length < 64)
    (cls : p.cls ≠ 0) : s.sendOnward op p out =
      (s.track (s.messageAs op p)).sendMessage out KIND.COMMAND (max 1 p.cls.toNat) p.target.toNat p.mcast (pktBytes op p) := by
  rw [State.sendOnward, if_neg (fun k => h (State.tracks_iff.mp k)), if_neg (by omega), if_neg (fun k => cls k.1)]
  rfl

/-- A class-0 command that the active Meadow places goes onward in its slot. -/
theorem State.sendOnward_placed {s t : State} {op : Nat} {p : Packet} (out : Nat) (h : ¬ s.tracks p) (room : s.cmd.tracked.length < 64)
    (cls : p.cls = 0) (active : s.activeMeadow = true) (unit : (s.rangeUnit p.target.toNat).isSome = true)
    (placed : (s.track (s.trackedAs op p)).originateC0 (pktBytes op p) = some t) : s.sendOnward op p out = t := by
  rw [State.sendOnward, if_neg (fun k => h (State.tracks_iff.mp k)), if_neg (by omega), if_pos ⟨cls, active, unit⟩]
  change (match (s.track (s.trackedAs op p)).originateC0 (pktBytes op p) with | some s => s | none => _) = t
  rw [placed]

/-! The fields of a packet in its bytes (04 R109). -/

/-- A number that stands between two other parts. -/
theorem numAt_between {a c : List Byte} {o n v : Nat} (ho : a.length = o) : numAt (a ++ (leBytes n v ++ c)) o n = v % 256 ^ n := by
  rw [numAt_append_right _ _ _ _ ho.le, ho, Nat.sub_self, numAt_append_left _ _ _ _ (by simp), numAt_leBytes]

theorem numAt_middle {a c : List Byte} {o n v : Nat} (ho : a.length = o) (hv : v < 256 ^ n) : numAt (a ++ (leBytes n v ++ c)) o n = v :=
  (numAt_between ho).trans (Nat.mod_eq_of_lt hv)

/-- What stands behind the first bytes of a packet. -/
def pktRest (p : Packet) : List Byte :=
  leBytes 4 p.handle.toNat ++ (p.params ++ (if p.auth then leBytes 4 p.counter.toNat ++ p.mac else []))

theorem pktBytes_eq (op : Nat) (p : Packet) : pktBytes op p =
    leBytes 2 op ++ (leBytes 1 (pktFlags p) ++ (leBytes 3 p.params.length ++ (leBytes 2 p.seq.toNat ++
      (leBytes 2 p.target.toNat ++ (leBytes 2 p.source.toNat ++ pktRest p))))) := by
  simp [pktBytes, pktHeader, pktRest, leBytes]

theorem pktFlags_lt (p : Packet) : pktFlags p < 256 := by
  have cls := p.cls.isLt
  have auth : b2n p.auth ≤ 1 := by cases p.auth <;> decide
  have mcast : b2n p.mcast ≤ 1 := by cases p.mcast <;> decide
  have noReply : b2n p.noReply ≤ 1 := by cases p.noReply <;> decide
  simp only [pktFlags]
  omega

theorem numAt_pktBytes_flags (op : Nat) (p : Packet) : numAt (pktBytes op p) 2 1 = pktFlags p := by
  rw [pktBytes_eq]
  exact numAt_middle (a := leBytes 2 op) rfl (pktFlags_lt p)

theorem numAt_pktBytes_seq (op : Nat) (p : Packet) : numAt (pktBytes op p) 6 2 = p.seq.toNat := by
  have h := numAt_middle (a := leBytes 2 op ++ (leBytes 1 (pktFlags p) ++ leBytes 3 p.params.length))
    (c := leBytes 2 p.target.toNat ++ (leBytes 2 p.source.toNat ++ pktRest p)) (o := 6) (n := 2) (by simp) p.seq.isLt
  simpa only [pktBytes_eq, List.append_assoc] using h

theorem numAt_pktBytes_target (op : Nat) (p : Packet) : numAt (pktBytes op p) 8 2 = p.target.toNat := by
  have h := numAt_middle (a := leBytes 2 op ++ (leBytes 1 (pktFlags p) ++ (leBytes 3 p.params.length ++ leBytes 2 p.seq.toNat)))
    (c := leBytes 2 p.source.toNat ++ pktRest p) (o := 8) (n := 2) (by simp) (Nat.lt_trans p.target.isLt (by decide))
  simpa only [pktBytes_eq, List.append_assoc] using h

theorem numAt_pktBytes_source (op : Nat) (p : Packet) : numAt (pktBytes op p) 10 2 = p.source.toNat := by
  have h := numAt_middle (a := leBytes 2 op ++ (leBytes 1 (pktFlags p) ++ (leBytes 3 p.params.length ++ (leBytes 2 p.seq.toNat ++
    leBytes 2 p.target.toNat)))) (c := pktRest p) (o := 10) (n := 2) (by simp) p.source.isLt
  simpa only [pktBytes_eq, List.append_assoc] using h

/-- Bit 4 of FLAGS is MCAST. -/
theorem bit_pktFlags_mcast (p : Packet) : bit (pktFlags p) 4 = p.mcast := by
  have cls := p.cls.isLt
  have auth : b2n p.auth ≤ 1 := by cases p.auth <;> decide
  have value : pktFlags p / 2 ^ 4 % 2 = b2n p.mcast := by
    have mcast : b2n p.mcast ≤ 1 := by cases p.mcast <;> decide
    simp only [pktFlags]
    omega
  rw [bit, value]
  cases p.mcast <;> rfl

/-! The class-0 slots of the active Meadow (04 R115, R116). -/

/-- A packet for one target goes to the unit that holds it. -/
theorem State.slotUnits_pktBytes {s : State} {op : Nat} {p : Packet} (single : p.mcast = false) {unit : Nat}
    (h : s.rangeUnit p.target.toNat = some unit) : s.slotUnits (pktBytes op p) = [unit] := by
  rw [State.slotUnits, numAt_pktBytes_flags, bit_pktFlags_mcast, single, numAt_pktBytes_target, Nat.mod_eq_of_lt p.target.isLt, h]
  rfl

/-- With the slots of this tick open and that of its unit free, and no earlier command to the unit awaiting its reply, a packet
enters the slot of this tick. -/
theorem State.placeC0_now {s : State} {b : List Byte} {unit : Nat} (us : s.slotUnits b = [unit])
    (free : Map.get [] s.cmd.slotsOut unit = []) (opened : s.slotsClosed = false)
    (alone : ∀ t ∈ s.cmd.tracked, t.slotTick = none ∨ t.unit ≠ unit) :
    s.placeC0 b = some ({ s with cmd.slotsOut := putSlots s.cmd.slotsOut [unit] b }, s.tickNo) := by
  have quiet : s.cmd.tracked.any (fun t => t.slotTick.isSome && !t.silent && [unit].contains t.unit) = false := by
    simp only [List.any_eq_false]
    intro t ht
    rcases alone t ht with e | e <;> simp [e]
  simp only [State.placeC0, us, quiet, opened, List.all_cons, List.all_nil, free]
  simp

theorem State.originateC0_now {s : State} {b : List Byte} {unit : Nat} (us : s.slotUnits b = [unit]) (queue : s.cmd.c0q = [])
    (free : Map.get [] s.cmd.slotsOut unit = []) (opened : s.slotsClosed = false)
    (alone : ∀ t ∈ s.cmd.tracked, t.slotTick = none ∨ t.unit ≠ unit) :
    s.originateC0 b = some (({ s with cmd.slotsOut := putSlots s.cmd.slotsOut [unit] b } : State).noteSlot b s.tickNo) := by
  simp [State.originateC0, queue, State.placeC0_now us free opened alone]

/-- Only the entry of the packet takes the tick of its slot. -/
theorem State.noteSlot_tracked {s : State} {op : Nat} {p : Packet} {l : List Tracked} {x : Tracked} (tick : Nat)
    (tracked : s.cmd.tracked = l ++ [x]) (others : ∀ t ∈ l, t.source ≠ p.source ∨ t.seq ≠ p.seq) (hs : x.source = p.source)
    (hq : x.seq = p.seq) : (s.noteSlot (pktBytes op p) tick).cmd.tracked = l ++ [{ x with slotTick := some tick }] := by
  have kept : l.map (fun t : Tracked => if t.source.toNat = p.source.toNat ∧ t.seq.toNat = p.seq.toNat then
      { t with slotTick := some tick } else t) = l := by
    refine (List.map_congr_left fun t ht => if_neg fun ⟨source, seq⟩ => ?_).trans l.map_id
    exact (others t ht).elim (· (BitVec.eq_of_toNat_eq source)) (· (BitVec.eq_of_toNat_eq seq))
  simp [State.noteSlot, tracked, numAt_pktBytes_source, numAt_pktBytes_seq, hs, hq, kept]

/-- No class-0 command waits: none enters a slot. -/
theorem State.pumpC0_of_nil {s : State} (h : s.cmd.c0q = []) : s.pumpC0 = s := by
  have empty : s.pumpC0 = { s with cmd.c0q := [] } := by rw [State.pumpC0, h]; rfl
  rw [empty, ← h]

/-- A packet tracked and placed in the slot of this tick for its unit. -/
def State.slotted (s : State) (x : Tracked) (unit : Nat) (b : List Byte) : State :=
  ({ s.track x with cmd.slotsOut := putSlots s.cmd.slotsOut [unit] b } : State).noteSlot b s.tickNo

theorem slotted_touch (s : State) (x : Tracked) (unit : Nat) (b : List Byte) : Touches [.cmd] [] s (s.slotted x unit b) :=
  (track_touch s x).trans ((touch_cmd _ _).trans (touch_cmd _ _))

theorem slotted_slotsOut (s : State) (x : Tracked) (unit : Nat) (b : List Byte) :
    Map.get [] (s.slotted x unit b).cmd.slotsOut unit = slotBytes b := Map.get_set_same _ _ _ _

/-- A class-0 command, with a free slot for its unit, goes onward in the slot of this tick. -/
theorem State.sendOnward_slot {s : State} {op : Nat} {p : Packet} {unit : Nat} (out : Nat) (fresh : ¬ s.tracks p)
    (room : s.cmd.tracked.length < 64) (cls : p.cls = 0) (single : p.mcast = false) (active : s.activeMeadow = true)
    (member : s.rangeUnit p.target.toNat = some unit) (queue : s.cmd.c0q = []) (free : Map.get [] s.cmd.slotsOut unit = [])
    (opened : s.slotsClosed = false) (alone : ∀ t ∈ s.cmd.tracked, t.slotTick = none ∨ t.unit ≠ unit) :
    s.sendOnward op p out = s.slotted (s.trackedAs op p) unit (pktBytes op p) := by
  have units : (s.track (s.trackedAs op p)).slotUnits (pktBytes op p) = [unit] := State.slotUnits_pktBytes single member
  refine State.sendOnward_placed out fresh room cls active (Option.isSome_iff_exists.mpr ⟨unit, member⟩)
    (State.originateC0_now units queue free opened ?_)
  intro t ht
  rcases List.mem_append.mp ht with old | new
  · exact alone t old
  · exact Or.inl (List.mem_singleton.mp new ▸ rfl)

theorem slotted_tracked {s : State} {op : Nat} {p : Packet} (fresh : ¬ s.tracks p) (unit : Nat) :
    (s.slotted (s.trackedAs op p) unit (pktBytes op p)).cmd.tracked =
      s.cmd.tracked ++ [{ s.trackedAs op p with slotTick := some s.tickNo }] :=
  State.noteSlot_tracked s.tickNo rfl (State.not_tracks_iff.mp fresh) rfl rfl

end Sys2Proof.Machine
end

section
/-!
SUPPORT. Replies and timeouts at the entry node (04 R112, R117, R119): what takeReply and the timeout do, one lemma per case.
-/
namespace Sys2Proof.Machine
open Sys2Proof

theorem State.addr_lt (s : State) : s.addr < 8192 := Nat.mod_lt _ (by decide)

/-- A SOURCE of the node's own cores (port 0) takes its reply in the core that sent the command. -/
theorem State.deliver_core (s : State) {source : BitVec 16} (h : source.toNat < 8192) (key cls : Nat) (b : List Byte) :
    s.deliver source key cls b = s.toCore (s.srcMac key) b := by
  rw [State.deliver, Nat.div_eq_of_lt h]
  rfl

theorem touch_toCore (s : State) (core : Nat) (b : List Byte) : Touches [.cmd] [] s (s.toCore core b) := touch_cmd _ _

/-- A command whose tracking has ended is tracked no more. -/
theorem State.untrack_untracked (s : State) (source seq : Nat) :
    ∀ x ∈ (s.untrack source seq).cmd.tracked, x.source.toNat ≠ source ∨ x.seq.toNat ≠ seq := by
  intro x hx
  have kept : (!(x.source.toNat == source && x.seq.toNat == seq)) = true := (List.mem_filter.mp hx).2
  simp only [Bool.not_eq_true', Bool.and_eq_false_iff, beq_eq_false_iff_ne] at kept
  exact kept

theorem touch_untrack (s : State) (source seq : Nat) : Touches [.cmd] [] s (s.untrack source seq) := touch_cmd _ _

/-- A reply may give a trend stream its handle, nothing else. -/
theorem State.noteTrend_streams (s : State) (b : List Byte) : ∃ l, s.noteTrend b = { s with cmd.streams := l } := by
  unfold State.noteTrend
  split
  · exact ⟨_, rfl⟩
  · exact ⟨s.cmd.streams, rfl⟩

/-- A reply to a command of this node's own cores goes to the core, and ends tracking. -/
theorem State.takeReply_core {s : State} {b : List Byte} (noRemote : s.safe.remote = none) (queue : s.cmd.c0q = [])
    (own : numAt (slotReply b) 8 2 = s.addr)
    (inTime : s.cmd.timedOut.contains (s.addr * 65536 + numAt (slotReply b) 6 2) = false) :
    (s.takeReply b).cmd.coreReplies =
        s.cmd.coreReplies ++ [(s.srcMac (s.addr * 65536 + numAt (slotReply b) 6 2), slotReply b)] ∧
      (∀ x ∈ (s.takeReply b).cmd.tracked, x.source.toNat ≠ s.addr ∨ x.seq.toNat ≠ numAt (slotReply b) 6 2) ∧
      Touches [.cmd] [] s (s.takeReply b) := by
  have port : (BitVec.ofNat 16 s.addr).toNat < 8192 := by
    have small := s.addr_lt
    rw [BitVec.toNat_ofNat]
    omega
  obtain ⟨l, trend⟩ := State.noteTrend_streams (s.untrack s.addr (numAt (slotReply b) 6 2)) (slotReply b)
  have taken : s.takeReply b = ({ s.untrack s.addr (numAt (slotReply b) 6 2) with cmd.streams := l } : State).toCore
      (s.srcMac (s.addr * 65536 + numAt (slotReply b) 6 2)) (slotReply b) := by
    simp only [State.takeReply, own, noRemote, inTime, trend, Option.isSome_none, Bool.false_eq_true, false_and, if_false]
    rw [State.deliver_core _ port, State.pumpC0_of_nil (by exact queue)]
    rfl
  rw [taken]
  exact ⟨rfl, s.untrack_untracked _ _, (touch_untrack _ _ _).trans ((touch_cmd _ _).trans (touch_toCore _ _ _))⟩

/-- A reply after the TIMEOUT reply is counted and goes nowhere. -/
theorem State.takeReply_late {s : State} {b : List Byte} (noRemote : s.safe.remote = none)
    (own : numAt (slotReply b) 8 2 = s.addr)
    (late : s.cmd.timedOut.contains (s.addr * 65536 + numAt (slotReply b) 6 2) = true) :
    s.takeReply b = s.bump F.CMD_STAT_LATE_REPLY := by
  simp only [State.takeReply, own, noRemote, late, Option.isSome_none, Bool.false_eq_true, false_and, if_false, if_true]

/-- A counter of eight bits stays at its end. -/
theorem State.f_bump_byte (s : State) {x : Fld} (ok : x.ok = true) (width : x.hi + 1 - x.lo = 8) :
    (s.bump x).f x = min (s.f x + 1) 255 := by
  rw [State.bump, State.bumpBy, State.f_setF_same _ _ _ ok, width]
  exact Nat.mod_eq_of_lt (by omega)

/-- A whole reply for this node is taken. -/
theorem onReply_here {s : State} {n : Fin 32} {b : List Byte} {g : Segment} (up : s.laneUp n = true) (hp : parseSeg b = some g)
    (kind : g.kind = KIND.REPLY) (dest : g.dest = s.addr) (first : bit g.ctl 2 = true) (last : bit g.ctl 3 = true) (frag : g.frag = 0) :
    onReply n b s = ((s.heard n b).gathered n g).takeReply g.payload := by
  have here : (s.heard n b).route g.dest = .here := by rw [dest]; exact State.route_self (s.heard n b)
  rw [onReply, State.segment_good up hp kind rfl (by decide)]
  simp only [here, State.assemble_single (s.heard n b) n first last frag]

/-- A whole command for this node is taken as its opcode's row. -/
theorem onCommand_here {s : State} {n : Fin 32} {b : List Byte} {g : Segment} {op : Nat} {p : Packet} {r : OpRow}
    (up : s.laneUp n = true) (hp : parseSeg b = some g) (kind : g.kind = KIND.COMMAND) (single : bit g.ctl 4 = false)
    (dest : g.dest = s.addr) (first : bit g.ctl 2 = true) (last : bit g.ctl 3 = true) (frag : g.frag = 0)
    (pkt : parsePacket g.payload = some (op, p)) (row : opRow op = some r) :
    onCommand (.lane n b) s = ((s.heard n b).gathered n g).submit r { p with lane := some n } := by
  have here : (s.heard n b).route g.dest = .here := by rw [dest]; exact State.route_self (s.heard n b)
  have taken : onCommand (.lane n b) s = (s.heard n b).commandSegment n g b := State.segment_good up hp kind rfl (by decide) _
  rw [taken, State.commandSegment]
  simp only [single, Bool.false_and, Bool.false_eq_true, if_false, here, State.assemble_single (s.heard n b) n first last frag, pkt]
  exact State.takeCommand_row row

/-! The timeout of a command (04 R119). -/

/-- The state in which the deadline of a command ends its tracking. -/
def State.expired (s : State) (x : Tracked) : State :=
  ((s.reachNow x.deadline).untrack x.source.toNat x.seq.toNat).reachNow (x.deadline + 2)

theorem reachNow_cmd (s : State) (t : Nat) : (s.reachNow t).cmd = s.cmd := (reachNow_touch s t).1 .cmd (by decide)

theorem expired_cmd (s : State) (x : Tracked) : (s.expired x).cmd = (s.untrack x.source.toNat x.seq.toNat).cmd := by
  rw [State.expired, reachNow_cmd, State.untrack, State.untrack, reachNow_cmd]

theorem expired_touch (s : State) (x : Tracked) : Touches [.cmd, .clk] [] s (s.expired x) := by
  refine ((reachNow_touch s x.deadline).mono (by simp) (by simp)).trans (.trans ?_ ((reachNow_touch _ _).mono (by simp) (by simp)))
  exact (touch_untrack _ _ _).mono (by simp) (by simp)

theorem expired_deadline (s : State) (x : Tracked) : x.deadline ≤ (s.expired x).now :=
  Nat.le_trans (Nat.le_add_right _ 2) (reachNow_le _ _)

theorem expired_untracked (s : State) (x : Tracked) :
    ∀ y ∈ (s.expired x).cmd.tracked, y.source ≠ x.source ∨ y.seq ≠ x.seq := by
  intro y hy
  rw [expired_cmd] at hy
  exact (s.untrack_untracked _ _ y hy).imp (fun h e => h (e ▸ rfl)) (fun h e => h (e ▸ rfl))

/-- The packet a TIMEOUT reply answers, as far as it is tracked. -/
def Tracked.packet (x : Tracked) (source seq : BitVec 16) : Packet := { cls := BitVec.ofNat 2 x.cls, source := source, seq := seq }

/-- A command timed out is kept among those whose reply comes late. -/
def State.noteTimedOut (s : State) (key : Nat) : State := { s with cmd.timedOut := key :: s.cmd.timedOut.filter (· != key) }

/-- A command whose reply is missing is counted and noted. -/
def State.missed (s : State) (key : Nat) : State := (s.bump F.CMD_STAT_TIMEOUTS).noteTimedOut key

theorem noteTimedOut_cmd (s : State) (key : Nat) :
    (s.noteTimedOut key).cmd = { s.cmd with timedOut := key :: s.cmd.timedOut.filter (· != key) } := rfl
theorem missed_cmd (s : State) (key : Nat) :
    (s.missed key).cmd = { s.cmd with timedOut := key :: s.cmd.timedOut.filter (· != key) } := by
  rw [State.missed, noteTimedOut_cmd, State.bump_cmd]
theorem noteTimedOut_touch (s : State) (key : Nat) : Touches [.cmd] [] s (s.noteTimedOut key) := touch_cmd _ _
theorem missed_touch (s : State) (key : Nat) : Touches [.cmd] [A.CMD_STAT] s (s.missed key) :=
  ((touch_bump s F.CMD_STAT_TIMEOUTS).mono (by simp) (by decide)).trans ((noteTimedOut_touch _ _).mono (by simp) (by simp))
theorem missed_counted (s : State) (key : Nat) :
    (s.missed key).f F.CMD_STAT_TIMEOUTS = min (s.f F.CMD_STAT_TIMEOUTS + 1) 255 :=
  ((noteTimedOut_touch _ key).f (by simp)).trans (s.f_bump_byte (by decide) (by decide))

/-- The count of a REG_WRITE is a free value; another command's reply is empty. -/
def State.timeoutCount (s : State) (x : Tracked) : Nat × State := if x.opcode = 0x0201 then s.free else (0, s)
def Tracked.timeoutPayload (x : Tracked) (count : Nat) : List Byte :=
  if x.opcode = 0x0201 then leBytes 2 (Config.openWord count).toNat else []

/-- The reply with status TIMEOUT. -/
def State.timeoutReply (s : State) (x : Tracked) (source seq : BitVec 16) (payload : List Byte) : List Byte :=
  replyHeader x.opcode.toNat (x.packet source seq) false s.addr Stat.TIMEOUT payload.length ++ payload

theorem timeoutCount_cmd (s : State) (x : Tracked) : (s.timeoutCount x).2.cmd = s.cmd := by
  unfold State.timeoutCount
  split <;> rfl
theorem timeoutCount_touch (s : State) (x : Tracked) : Touches [.free] [] s (s.timeoutCount x).2 := by
  unfold State.timeoutCount
  split
  · exact touch_freeCount _ _
  · exact Touches.refl _ _ _

theorem timeoutReply_status (s : State) (x : Tracked) (source seq : BitVec 16) (payload : List Byte) :
    (s.timeoutReply x source seq payload).getD 12 0 = BitVec.ofNat 8 Stat.TIMEOUT := rfl
theorem timeoutReply_length (s : State) (x : Tracked) (source seq : BitVec 16) (count : Nat) :
    (s.timeoutReply x source seq (x.timeoutPayload count)).length = if x.opcode = 0x0201 then 18 else 16 := by
  unfold State.timeoutReply Tracked.timeoutPayload
  split <;> simp [replyHeader]

/-- The reply with status TIMEOUT has been made, and is delivered. -/
def State.timeoutSent (s : State) (x : Tracked) (source seq : BitVec 16) (payload : List Byte) : State :=
  ({ s with cmd.sent := s.timeoutReply x source seq payload } : State).deliver source (srcKey (x.packet source seq)) x.cls
    (s.timeoutReply x source seq payload)

/-- What a command without its reply in time brings about once its tracking has ended. -/
def State.answerTimeout (s : State) (x : Tracked) (source seq : BitVec 16) : State :=
  let counted := (s.missed (srcKey (x.packet source seq))).timeoutCount x
  (counted.2.timeoutSent x source seq (x.timeoutPayload counted.1)).pumpC0.raise FS.CMD_TIMEOUT

/-- With no class-0 command waiting, the TIMEOUT reply goes to the core that sent the command. -/
theorem State.answerTimeout_core {s : State} (x : Tracked) {source seq : BitVec 16} (core : source.toNat < 8192) (queue : s.cmd.c0q = []) :
    ∃ r t, s.answerTimeout x source seq = t ∧ FS.CMD_TIMEOUT ∈ t.hub.raised ∧
      t.f F.CMD_STAT_TIMEOUTS = min (s.f F.CMD_STAT_TIMEOUTS + 1) 255 ∧ t.cmd.tracked = s.cmd.tracked ∧
      t.cmd.coreReplies = s.cmd.coreReplies ++ [(s.srcMac (source.toNat * 65536 + seq.toNat), r)] ∧
      r.getD 12 0 = BitVec.ofNat 8 Stat.TIMEOUT ∧ r.length = (if x.opcode = 0x0201 then 18 else 16) ∧
      Touches [.cmd, .hub, .free] [A.CMD_STAT] s t := by
  let key := srcKey (x.packet source seq)
  let counted := (s.missed key).timeoutCount x
  let r := counted.2.timeoutReply x source seq (x.timeoutPayload counted.1)
  have cmd : counted.2.cmd = { s.cmd with timedOut := key :: s.cmd.timedOut.filter (· != key) } :=
    (timeoutCount_cmd _ x).trans (missed_cmd s key)
  have free : Touches [.free] [] (s.missed key) counted.2 := timeoutCount_touch _ x
  refine ⟨r, (State.toCore { counted.2 with cmd.sent := r } (counted.2.srcMac key) r).raise FS.CMD_TIMEOUT, ?_,
    List.mem_append_right _ (List.mem_singleton_self _), ?_, ?_, ?_, timeoutReply_status _ _ _ _ _, timeoutReply_length _ _ _ _ _, ?_⟩
  · change (State.pumpC0 (State.deliver _ _ _ _ _)).raise _ = _
    rw [State.deliver_core _ core, State.pumpC0_of_nil]
    · rfl
    · change counted.2.cmd.c0q = []
      rw [cmd]
      exact queue
  · exact (free.f (by simp)).trans (missed_counted s key)
  · change counted.2.cmd.tracked = _
    rw [cmd]
  · change counted.2.cmd.coreReplies ++ [(Map.get 0 counted.2.cmd.hostSrc key, r)] = _
    rw [cmd]
    rfl
  · refine ((missed_touch s key).mono (by simp) (by simp)).trans ((free.mono (by simp) (by simp)).trans ?_)
    exact (touch_cmd _ _).mono (by simp) (by simp) |>.trans <| (touch_toCore _ _ _).mono (by simp) (by simp) |>.trans <|
      (touch_raise _ _).mono (by simp) (by simp)

section
variable {s : State} {source seq : BitVec 16} {x : Tracked}
  (found : s.cmd.tracked.find? (fun y => y.source == source && y.seq == seq) = some x) (unslotted : x.slotTick = none)
  (due : x.deadline ≠ 0)
include found unslotted due

theorem onCommandTimeout_silent (silent : x.silent = true) : onCommandTimeout source seq s = (s.expired x).pumpC0 := by
  simp -zeta only [onCommandTimeout, found, unslotted, silent, bne_iff_ne.mpr due, Option.isNone_none, if_true]
  rfl

theorem onCommandTimeout_answers (silent : x.silent = false) :
    onCommandTimeout source seq s = (s.expired x).answerTimeout x source seq := by
  simp -zeta only [onCommandTimeout, found, unslotted, silent, bne_iff_ne.mpr due, Option.isNone_none, Bool.false_eq_true,
    if_false, if_true, State.expired]
  rfl

end

end Sys2Proof.Machine
end

section
/-!
SUPPORT. The end of the interpreter's wait (04 R110): what has been carried out of a command by then, over a write of TICK_ASYM_A, a plain
register of 16 bits (02 R51), and what its end leaves.
-/
namespace Sys2Proof.Machine
open Sys2Proof

/-! A write of TICK_ASYM_A (01 R9, 02 R51): a plain register of 16 bits. -/

theorem regFamilyAt_asym : regFamilyAt A.TICK_ASYM_A = some ⟨0x10020, [], 0x0, .warm, [(15, 0, .rw)]⟩ := by decide

theorem hiddenReg_asym (s : State) : s.hiddenReg A.TICK_ASYM_A = false := rfl

theorem ignoredBits_asym (s : State) : s.ignoredBits A.TICK_ASYM_A = 0 := rfl

theorem writeDenied_asym (s : State) (old new v : Nat) : s.writeDenied A.TICK_ASYM_A old new v = false := by
  change ((s.st != ST.CONFIG && (false || false)) || false || false) = false
  simp

theorem badValue_asym (s : State) (new : Nat) : s.badValue A.TICK_ASYM_A new = false := rfl

theorem afterWrite_asym (s : State) (old new v mask : Nat) : s.afterWrite A.TICK_ASYM_A old new v mask = s := rfl

/-- What a register keeps of a write that reaches its low 16 bits only. -/
def lowHalf (old v : Word) : Word := (old &&& ~~~0xFFFF#32) ||| (v &&& 0xFFFF#32)

theorem lowHalf_mod (old v : Word) : (lowHalf old v).toNat % 65536 = v.toNat % 65536 := by
  have low : (lowHalf old v).setWidth 16 = v.setWidth 16 := by
    ext i hi
    have kept : (0xFFFF#16)[i] = true := BitVec.getElem_allOnes i hi
    simp [lowHalf, kept]
  simpa using congrArg BitVec.toNat low

theorem State.writeReg_asym (s : State) (v : Nat) : s.writeReg true A.TICK_ASYM_A (2 ^ 32 - 1) v =
    (s.setReg A.TICK_ASYM_A (lowHalf (s.reg A.TICK_ASYM_A) (BitVec.ofNat 32 v)), Stat.OK) := by
  have mask : BitVec.ofNat 32 (2 ^ 32 - 1) = BitVec.allOnes 32 := by decide
  have unlocked : ((0#32 : Word) != 0) = false := by decide
  have set : accBits ⟨0x10020, [], 0x0, .warm, [(15, 0, .rw)]⟩ (fun x => x == .rw || x == .lk) = 0xFFFF := by decide
  have clear : accBits ⟨0x10020, [], 0x0, .warm, [(15, 0, .rw)]⟩ (· == .w1c) = 0 := by decide
  have lock : accBits ⟨0x10020, [], 0x0, .warm, [(15, 0, .rw)]⟩ (· == .lk) = 0 := by decide
  have here : (A.TICK_ASYM_A = A.FHUB_RESOLVE) = False := by decide
  have own : otherPort true A.TICK_ASYM_A = false := by decide
  have period : pairNumbers.find? (fun p => A.TICK_ASYM_A == A.SWU_P_PERIOD p) = none := by decide
  have duty : pairNumbers.find? (fun p => A.TICK_ASYM_A == A.SWU_P_DUTY p) = none := by decide
  have plain : (A.TICK_ASYM_A = A.CMD_ALLOC_REQ 0) = False := by decide
  simp only [State.writeReg, regFamilyAt_asym, hiddenReg_asym, ignoredBits_asym, writeDenied_asym, badValue_asym, afterWrite_asym,
    mask, unlocked, set, clear, lock, here, own, period, duty, plain, BitVec.and_allOnes, BitVec.zero_and, BitVec.and_zero, BitVec.not_zero,
    Bool.and_false, Bool.or_false, Bool.false_eq_true, if_false]
  rfl

theorem opRow_code {op : Nat} {r : OpRow} (h : opRow op = some r) : r.code = op := by
  simpa using List.find?_some h

/-- A command that has carried nothing out yet refuses with an empty count. -/
theorem State.partly_none (s : State) (op : Nat) (p : Packet) : s.partly op 0 p = (s, refusalPayload op) := by
  have short : (p.params.take 4).length < 8 := Nat.lt_of_le_of_lt (List.length_take_le 4 _) (by decide)
  unfold State.partly refusalPayload
  split
  · rfl
  · split
    · rfl
    · split
      · rw [opMemWrite]
        dsimp only
        rw [if_pos (Or.inl short)]
        rfl
      · rfl

/-- The words a REG_WRITE of at least one word would write begin with the one behind its address. -/
theorem writeValues_take_one {p : Packet} (h : 8 ≤ p.params.length) : (writeValues p).take 1 = [numAt p.params 4 4] := by
  obtain ⟨m, hm⟩ : ∃ m, (p.params.length - 4) / 4 = m + 1 := ⟨(p.params.length - 4) / 4 - 1, by omega⟩
  rw [writeValues, hm, List.range_succ_eq_map]
  rfl

/-- TICK_ASYM_A holds the low half of a word written. -/
def State.asymWritten (s : State) (v : Nat) : State :=
  s.setReg A.TICK_ASYM_A (lowHalf (s.reg A.TICK_ASYM_A) (BitVec.ofNat 32 (v % 256 ^ 4)))

theorem asymWritten_touch (s : State) (v : Nat) : Touches [] [A.TICK_ASYM_A] s (s.asymWritten v) := touch_setReg _ _ _
theorem asymWritten_busy (s : State) (v : Nat) : (s.asymWritten v).cmd.busy = s.cmd.busy := by rw [State.asymWritten, State.setReg_cmd]
theorem asymWritten_asym (s : State) (v : Nat) : (s.asymWritten v).f F.TICK_ASYM_A_ASYM = v % 65536 := by
  have whole (w : Nat) : F.TICK_ASYM_A_ASYM.of w = w % 65536 := by simp [Fld.of]
  rw [State.f, whole, State.asymWritten, State.reg_setReg_same, lowHalf_mod]
  simp

/-- A REG_WRITE whose first word, for TICK_ASYM_A, is written. -/
theorem State.partly_asym (s : State) {q : Packet} {v : Nat} (h : q.params.take 8 = leBytes 4 A.TICK_ASYM_A ++ leBytes 4 v) :
    s.partly 0x0201 1 q = (s.asymWritten v, [1, 0]) := by
  have params : q.params = leBytes 4 A.TICK_ASYM_A ++ (leBytes 4 v ++ q.params.drop 8) := by
    rw [← List.append_assoc, ← h, List.take_append_drop]
  have long : 8 ≤ q.params.length := by
    have both : (q.params.take 8).length = 8 := by rw [h]; simp
    rw [List.length_take] at both
    omega
  have address : numAt q.params 0 4 = A.TICK_ASYM_A := by
    rw [params]; exact numAt_middle (a := []) rfl (by decide)
  have value : numAt q.params 4 4 = v % 256 ^ 4 := by
    rw [params]; exact numAt_between (by simp)
  simp only [State.partly, if_true, writeValues_take_one long, address, value, State.writeRegs, State.writeReg_asym]
  rfl

/-- The interpreter stands free again. -/
def State.freed (s : State) : State := { s with cmd.busy := none }
theorem freed_touch (s : State) : Touches [.cmd] [] s s.freed := touch_cmd _ _

theorem State.release_busy {s : State} {op : Nat} {p : Packet} (busy : s.cmd.busy = some (op, p)) (status : Nat) (payload : List Byte) :
    s.release op p status payload = s.freed.reply op p false status payload := by
  rw [State.release, if_pos busy]
  rfl

/-- The end of the wait of the command that holds execution. -/
theorem onCmdRetryExpiry_holding {s t : State} {o : BitVec 16} {q p : Packet} {k : Nat} {payload : List Byte}
    (busy : s.cmd.busy = some (o.toNat, q)) (row : (opRow o.toNat).isSome = true) (hp : p = { q with ks := [] })
    (part : s.partly o.toNat k q = (t, payload)) : onCmdRetryExpiry o k p s = t.release o.toNat q Stat.BUSY payload := by
  obtain ⟨r, hr⟩ := Option.isSome_iff_exists.mp row
  simp only [onCmdRetryExpiry, hr, busy, hp, and_self, if_true, part]

/-- The end of the wait of another command. -/
theorem onCmdRetryExpiry_waiting {s s1 : State} {o : BitVec 16} {r : OpRow} {p p1 : Packet} (busy : s.cmd.busy = none)
    (row : opRow o.toNat = some r) (vetted : s.vet r p = (s1, p1, Stat.OK)) :
    onCmdRetryExpiry o 0 p s = s1.reply o.toNat p1 false Stat.BUSY (refusalPayload o.toNat) := by
  simp only [onCmdRetryExpiry, row, busy, vetted, if_true, State.partly_none, opRow_code row]

end Sys2Proof.Machine
end

section
/-!
O15: each clause over any state in which the part runs, and the statement assembled from them.
-/
namespace Sys2Proof.Machine
open Sys2Proof

theorem laneCommand_taken {s : State} (on : s.running = true) {n : Fin 32} {b : List Byte} {g : Segment} {op : Nat} {p : Packet} {r : OpRow}
    (up : s.laneUp n = true) (hp : parseSeg b = some g) (kind : g.kind = KIND.COMMAND) (single : bit g.ctl 4 = false)
    (dest : g.dest = s.addr) (first : bit g.ctl 2 = true) (last : bit g.ctl 3 = true) (frag : g.frag = 0)
    (pkt : parsePacket g.payload = some (op, p)) (row : opRow op = some r) :
    ∃ u : State, exec (.command (.lane n b)) s = .next (runCommand r { p with lane := some n } u) ∧ Touches [.lanes] [] s u := by
  have heard : Touches [.lanes] [] s ((s.heard n b).gathered n g) := (heard_touch s n b).trans (gathered_touch _ n g)
  refine ⟨_, ?_, heard⟩
  rw [exec_command on, onCommand_here up hp kind single dest first last frag pkt row, runCommand,
    runEvent_running _ ((heard.running (by decide)).trans on)]

theorem coreCommand_enters {s : State} {k : Fin 5} {b : List Byte} {op : Nat} {p : Packet} (pkt : parsePacket b = some (op, p)) :
    onCommand (.core k b) s = s.enterCommand op p 0 k := by
  simp only [onCommand, pkt]

theorem fitsClass_of_ne {p : Packet} (h : p.cls ≠ 0) : fitsClass p := fun c => absurd c h

theorem coreCommand_taken {s : State} (on : s.running = true) {k : Fin 5} {b : List Byte} {op : Nat} {p : Packet} {r : OpRow}
    (pkt : parsePacket b = some (op, p)) (cls : p.cls ≠ 0) (here : p.target.toNat = s.addr) (row : opRow op = some r) :
    ∃ u : State, exec (.command (.core k b)) s = .next (runCommand r p u) ∧ Touches [.cmd] [] s u := by
  have noted := noteEntry_touch s op p k
  refine ⟨_, ?_, noted⟩
  have addr : p.target.toNat = (s.noteEntry op p k).addr := here.trans (noted.f (by simp)).symm
  rw [exec_command on, coreCommand_enters pkt, State.enterCommand_here (fitsClass_of_ne cls) (State.routeCmd_self addr),
    State.takeCommand_row row, runCommand, runEvent_running _ ((noted.running (by decide)).trans on)]

section
variable {s : State} (on : s.running = true) {k : Fin 5} {b : List Byte} {op : Nat} {p : Packet} (pkt : parsePacket b = some (op, p))
  (single : p.mcast = false)
include on pkt single

theorem coreCommand_unrouted (cls : p.cls ≠ 0) (nowhere : s.route p.target.toNat = .fail) :
    ∃ u : State, exec (.command (.core k b)) s = .next (u.reply op p false Stat.ROUTE_FAIL (refusalPayload op)).wrapUp ∧
      Touches [.cmd] [] s u := by
  refine ⟨_, ?_, noteEntry_touch s op p k⟩
  rw [exec_command on, coreCommand_enters pkt, State.enterCommand_fail (fitsClass_of_ne cls)
    ((State.routeCmd_single single).trans ((noteEntry_route _ _ _ _ _).trans nowhere)), State.refuseEntry]

/-- A command with a route from its entry node is sent onward. -/
theorem coreCommand_onward (fits : fitsClass p) {out : Nat} (routed : s.route p.target.toNat = .lane out) :
    exec (.command (.core k b)) s = .next ((s.noteEntry op p k).sendOnward op p out).wrapUp := by
  rw [exec_command on, coreCommand_enters pkt,
    State.enterCommand_lane fits ((State.routeCmd_single single).trans ((noteEntry_route _ _ _ _ _).trans routed))]

theorem coreCommand_tracked (cls : p.cls ≠ 0) {out : Nat} (routed : s.route p.target.toNat = .lane out)
    (fresh : ¬ s.tracks p) (room : s.cmd.tracked.length < 64) :
    ∃ (u : State) (x : Tracked), exec (.command (.core k b)) s = .next u.wrapUp ∧ u.cmd.tracked = s.cmd.tracked ++ [x] ∧
      x.source = p.source ∧ x.seq = p.seq ∧ x.silent = p.noReply ∧ x.deadline = s.now + s.f F.CMD_TMO_TMO_BE * 100000 ∧
      Touches [.cmd, .lanes, .hub] [A.LANE_SEG out] s u := by
  have noted := noteEntry_touch s op p k
  have tracked := noteEntry_tracked s op p k
  have message := sendMessage_touch ((s.noteEntry op p k).track ((s.noteEntry op p k).messageAs op p)) out KIND.COMMAND
    (max 1 p.cls.toNat) p.target.toNat p.mcast (pktBytes op p)
  refine ⟨_, (s.noteEntry op p k).messageAs op p, ?_, ?_, rfl, rfl, ?_, ?_, (noted.mono (by simp) (by simp)).trans
    (((track_touch _ _).mono (by simp) (by simp)).trans (message.mono (by simp) (by simp)))⟩
  · rw [coreCommand_onward on pkt single (fitsClass_of_ne cls) routed, State.sendOnward_message out _ _ cls]
    · rwa [State.tracks, tracked]
    · rwa [tracked]
  · have cmd : State.cmd _ = State.cmd _ := message.1 .cmd (by decide)
    rw [cmd, State.track, tracked]
  · simp [State.messageAs, State.trackedAs, single]
  · have clk : (s.noteEntry op p k).clk = s.clk := noted.1 .clk (by decide)
    rw [State.messageAs, State.now, clk, noted.f (by simp)]
    rfl

theorem coreCommand_full (cls : p.cls ≠ 0) {out : Nat} (routed : s.route p.target.toNat = .lane out)
    (fresh : ¬ s.tracks p) (full : 64 ≤ s.cmd.tracked.length) :
    ∃ u : State, exec (.command (.core k b)) s = .next (u.reply op p false Stat.BUSY (refusalPayload op)).wrapUp ∧ Touches [.cmd] [] s u := by
  refine ⟨_, ?_, noteEntry_touch s op p k⟩
  rw [coreCommand_onward on pkt single (fitsClass_of_ne cls) routed, State.sendOnward_full, State.refuseEntry]
  · rwa [State.tracks, noteEntry_tracked]
  · rwa [noteEntry_tracked]

theorem coreCommand_repeated (cls : p.cls ≠ 0) {out : Nat} (routed : s.route p.target.toNat = .lane out) (known : s.tracks p) :
    ∃ u : State, exec (.command (.core k b)) s = .next (u.reply op p false Stat.BAD_PARAM (refusalPayload op)).wrapUp ∧
      Touches [.cmd] [] s u := by
  refine ⟨_, ?_, noteEntry_touch s op p k⟩
  rw [coreCommand_onward on pkt single (fitsClass_of_ne cls) routed, State.sendOnward_tracked, State.refuseEntry]
  rwa [State.tracks, noteEntry_tracked]

theorem coreCommand_slot (cls : p.cls = 0) (small : p.params.length ≤ 16) (plain : p.auth = false) {out unit : Nat}
    (routed : s.route p.target.toNat = .lane out) (fresh : ¬ s.tracks p)
    (alone : ∀ t ∈ s.cmd.tracked, t.slotTick = none ∨ t.unit ≠ unit) (room : s.cmd.tracked.length < 64)
    (active : s.activeMeadow = true) (member : s.rangeUnit p.target.toNat = some unit) (queue : s.cmd.c0q = [])
    (opened : s.slotsClosed = false) (free : Map.get [] s.cmd.slotsOut unit = []) :
    ∃ (u : State) (x : Tracked), exec (.command (.core k b)) s = .next u.wrapUp ∧ u.cmd.tracked = s.cmd.tracked ++ [x] ∧
      x.source = p.source ∧ x.seq = p.seq ∧ x.slotTick = some s.tickNo ∧ x.unit = unit ∧
      Map.get [] u.cmd.slotsOut unit = slotBytes (pktBytes op p) ∧ Touches [.cmd] [] s u := by
  have fits : fitsClass p := fun _ => by simpa [plain] using small
  have unit' : (s.noteEntry op p k).rangeUnit p.target.toNat = some unit := (noteEntry_rangeUnit ..).trans member
  have entered := noteEntry_tracked s op p k
  have fresh' : ¬ (s.noteEntry op p k).tracks p := by rwa [State.tracks, entered]
  have onward := State.sendOnward_slot (s := s.noteEntry op p k) (op := op) out fresh' (by rwa [entered]) cls single
    ((noteEntry_activeMeadow ..).trans active) unit' ((noteEntry_c0q ..).trans queue) ((noteEntry_slotsOut ..).symm ▸ free)
    ((noteEntry_slotsClosed ..).trans opened) (by rwa [entered])
  refine ⟨_, { (s.noteEntry op p k).trackedAs op p with slotTick := some (s.noteEntry op p k).tickNo }, ?_,
    (slotted_tracked fresh' unit).trans (by rw [entered]), rfl, rfl, ?_, ?_, slotted_slotsOut _ _ _ _,
    (noteEntry_touch s op p k).trans (slotted_touch _ _ _ _)⟩
  · rw [coreCommand_onward on pkt single fits routed, onward]
  · rw [State.tickNo, noteEntry_clk]
    rfl
  · simp [State.trackedAs, unit']

end

/-- A reply for this node on a lane is taken. -/
theorem laneReply_taken {s : State} (on : s.running = true) {n : Fin 32} {b : List Byte} {g : Segment} (up : s.laneUp n = true)
    (hp : parseSeg b = some g) (kind : g.kind = KIND.REPLY) (dest : g.dest = s.addr) (first : bit g.ctl 2 = true)
    (last : bit g.ctl 3 = true) (frag : g.frag = 0) :
    ∃ u : State, exec (.reply n b) s = .next (u.takeReply g.payload).wrapUp ∧ Touches [.lanes] [] s u :=
  ⟨_, (exec_reply on n b).trans (by rw [onReply_here up hp kind dest first last frag]),
    (heard_touch s n b).trans (gathered_touch _ n g)⟩

/-- The source of a tracked command that its timeout finds. -/
theorem tracked_found {l : List Tracked} {source seq : BitVec 16} {x : Tracked}
    (found : l.find? (fun y => y.source == source && y.seq == seq) = some x) : x.source = source ∧ x.seq = seq := by
  simpa using List.find?_some found

section
variable {s : State} (on : s.running = true) {source seq : BitVec 16} {x : Tracked}
  (found : s.cmd.tracked.find? (fun y => y.source == source && y.seq == seq) = some x) (unslotted : x.slotTick = none)
  (due : x.deadline ≠ 0) (queue : s.cmd.c0q = [])
include on found unslotted due queue

theorem timeout_answered (core : source.toNat < 8192) (answers : x.silent = false) :
    ∃ (t : State) (r : List Byte), exec (.commandTimeout source seq) s = .next t.wrapUp ∧ x.deadline ≤ t.now ∧
      FS.CMD_TIMEOUT ∈ t.hub.raised ∧ t.f F.CMD_STAT_TIMEOUTS = min (s.f F.CMD_STAT_TIMEOUTS + 1) 255 ∧
      (∀ y ∈ t.cmd.tracked, y.source ≠ source ∨ y.seq ≠ seq) ∧
      t.cmd.coreReplies = s.cmd.coreReplies ++ [(s.srcMac (source.toNat * 65536 + seq.toNat), r)] ∧
      r.getD 12 0 = BitVec.ofNat 8 Stat.TIMEOUT ∧ r.length = (if x.opcode = 0x0201 then 18 else 16) ∧
      Touches [.cmd, .clk, .hub, .free] [A.CMD_STAT] s t := by
  obtain ⟨hs, hq⟩ := tracked_found found
  have expired := expired_touch s x
  have cmd := expired_cmd s x
  obtain ⟨r, t, answered, raised, counted, tracked, replies, status, length, touched⟩ :=
    State.answerTimeout_core (s := s.expired x) x (seq := seq) core (by rw [cmd]; exact queue)
  refine ⟨t, r, (exec_commandTimeout on source seq).trans ?_, ?_, raised, ?_, ?_, ?_, status, length, ?_⟩
  · rw [onCommandTimeout_answers found unslotted due answers, answered]
  · have clk : t.clk = (s.expired x).clk := touched.1 .clk (by decide)
    rw [State.now, clk]
    exact expired_deadline s x
  · rw [counted, expired.f (by simp)]
  · have left := expired_untracked s x
    rwa [hs, hq, ← tracked] at left
  · rw [replies, State.srcMac, cmd]
    rfl
  · exact (expired.mono (by simp) (by simp)).trans (touched.mono (by simp) (by simp))

theorem timeout_silent (silent : x.silent = true) :
    ∃ t : State, exec (.commandTimeout source seq) s = .next t.wrapUp ∧ x.deadline ≤ t.now ∧
      (∀ y ∈ t.cmd.tracked, y.source ≠ source ∨ y.seq ≠ seq) ∧ t.cmd.coreReplies = s.cmd.coreReplies ∧
      Touches [.cmd, .clk] [] s t := by
  obtain ⟨hs, hq⟩ := tracked_found found
  have cmd := expired_cmd s x
  refine ⟨s.expired x, (exec_commandTimeout on source seq).trans ?_, expired_deadline s x, ?_, ?_, expired_touch s x⟩
  · rw [onCommandTimeout_silent found unslotted due silent, State.pumpC0_of_nil (by rw [cmd]; exact queue)]
  · have left := expired_untracked s x
    rwa [hs, hq] at left
  · rw [cmd]
    rfl

end

theorem reply_delivered {s u : State} {b : List Byte} (heard : Touches [.lanes] [] s u) (noRemote : s.safe.remote = none)
    (queue : s.cmd.c0q = []) (own : numAt (slotReply b) 8 2 = s.addr)
    (inTime : s.cmd.timedOut.contains (s.addr * 65536 + numAt (slotReply b) 6 2) = false) :
    (u.takeReply b).cmd.coreReplies =
        s.cmd.coreReplies ++ [(s.srcMac (s.addr * 65536 + numAt (slotReply b) 6 2), slotReply b)] ∧
      (∀ x ∈ (u.takeReply b).cmd.tracked, x.source.toNat ≠ s.addr ∨ x.seq.toNat ≠ numAt (slotReply b) 6 2) ∧
      Touches [.lanes, .cmd] [] s (u.takeReply b) := by
  have cmd : u.cmd = s.cmd := heard.cmd (by decide)
  have addr : u.addr = s.addr := heard.addr (by simp)
  have safe : u.safe = s.safe := heard.safe (by decide)
  have taken := State.takeReply_core (s := u) (b := b) (by rwa [safe]) (by rwa [cmd]) (by rwa [addr]) (by rwa [cmd, addr])
  rw [State.srcMac, cmd, addr] at taken
  obtain ⟨replies, ended, touched⟩ := taken
  exact ⟨replies, ended, (heard.mono (by simp) (by simp)).trans (touched.mono (by simp) (by simp))⟩

theorem reply_late {s u : State} {b : List Byte} (heard : Touches [.lanes] [] s u) (noRemote : s.safe.remote = none)
    (own : numAt (slotReply b) 8 2 = s.addr) (late : s.cmd.timedOut.contains (s.addr * 65536 + numAt (slotReply b) 6 2) = true) :
    (u.takeReply b).cmd.coreReplies = s.cmd.coreReplies ∧
      (u.takeReply b).f F.CMD_STAT_LATE_REPLY = min (s.f F.CMD_STAT_LATE_REPLY + 1) 255 ∧
      Touches [.lanes, .cmd] [A.CMD_STAT] s (u.takeReply b) := by
  have cmd : u.cmd = s.cmd := heard.cmd (by decide)
  have addr : u.addr = s.addr := heard.addr (by simp)
  have safe : u.safe = s.safe := heard.safe (by decide)
  rw [State.takeReply_late (s := u) (b := b) (by rwa [safe]) (by rwa [addr]) (by rwa [cmd, addr])]
  refine ⟨by rw [State.bump_cmd, cmd], ?_, (heard.mono (by simp) (by simp)).trans ((touch_bump _ _).mono (by simp) (by simp))⟩
  rw [State.f_bump_byte _ (by decide) (by decide), heard.f (by simp)]

section
variable {s : State} (on : s.running = true) {o : BitVec 16} {p q : Packet}
include on

theorem retry_holding (busy : s.cmd.busy = some (o.toNat, q)) (row : (opRow o.toNat).isSome = true) (hp : p = { q with ks := [] }) :
    ∃ u : State, exec (.cmdRetryExpiry o 0 p) s = .next (u.reply o.toNat q false Stat.BUSY (refusalPayload o.toNat)).wrapUp ∧
      u.cmd.busy = none ∧ Touches [.cmd] [] s u :=
  ⟨s.freed, by rw [exec_cmdRetryExpiry on, onCmdRetryExpiry_holding busy row hp (State.partly_none _ _ _), State.release_busy busy], rfl,
    freed_touch s⟩

theorem retry_written {v : Nat} (busy : s.cmd.busy = some (o.toNat, q)) (row : (opRow o.toNat).isSome = true)
    (hp : p = { q with ks := [] }) (write : o = 0x0201) (params : q.params.take 8 = leBytes 4 A.TICK_ASYM_A ++ leBytes 4 v) :
    ∃ u : State, exec (.cmdRetryExpiry o 1 p) s = .next (u.reply 0x0201 q false Stat.BUSY [1, 0]).wrapUp ∧
      u.cmd.busy = none ∧ u.f F.TICK_ASYM_A_ASYM = v % 65536 ∧ Touches [.cmd] [A.TICK_ASYM_A] s u := by
  subst write
  have busy' := (asymWritten_busy s v).trans busy
  have freed := freed_touch (s.asymWritten v)
  refine ⟨_, ?_, rfl, (freed.f (by simp)).trans (asymWritten_asym s v),
    ((asymWritten_touch s v).mono (by simp) (by simp)).trans (freed.mono (by simp) (by simp))⟩
  rw [exec_cmdRetryExpiry on, onCmdRetryExpiry_holding busy row hp (s.partly_asym params), State.release_busy busy']
  rfl

theorem retry_waiting {r : OpRow} {p1 : Packet} {s1 : State} (busy : s.cmd.busy = none) (row : opRow o.toNat = some r)
    (vetted : s.vet r p = (s1, p1, Stat.OK)) :
    ∃ u : State, exec (.cmdRetryExpiry o 0 p) s = .next (u.reply o.toNat p1 false Stat.BUSY (refusalPayload o.toNat)).wrapUp ∧
      Touches [] [] s1 u :=
  ⟨s1, by rw [exec_cmdRetryExpiry on, onCmdRetryExpiry_waiting busy row vetted], Touches.refl _ _ _⟩

end

/-- Settles O15: each clause is the case of the operation it speaks of, over the state as the entry or the lane leaves it. -/
theorem commandsAndReplies : Obligations.CommandsAndReplies := by
  unfold Obligations.CommandsAndReplies
  intro n b g op p s on
  refine ⟨?lane, ?core, ?unrouted, ?onward, ?slot, ?reply, ?timeout, ?holding, ?waiting⟩
  case lane =>
    intro r up hp kind single dest first last frag pkt row
    exact laneCommand_taken on up hp kind single dest first last frag pkt row
  case core =>
    intro k r pkt cls here row
    exact coreCommand_taken on pkt cls here row
  case unrouted =>
    intro k pkt cls single nowhere
    exact coreCommand_unrouted on pkt single cls nowhere
  case onward =>
    intro k out pkt cls single routed
    refine ⟨fun fresh room => ?_, fun fresh full => ?_, fun known => ?_⟩
    · exact coreCommand_tracked on pkt single cls routed (State.not_tracks_iff.mpr fresh) room
    · exact coreCommand_full on pkt single cls routed (State.not_tracks_iff.mpr fresh) full
    · exact coreCommand_repeated on pkt single cls routed known
  case slot =>
    intro k out unit pkt cls small plain single routed fresh room active member queue opened free
    exact coreCommand_slot on pkt single cls small plain routed (State.not_tracks_iff.mpr fun x hx => (fresh x hx).1)
      (fun x hx => (fresh x hx).2) room active member queue opened free
  case reply =>
    intro up hp kind dest first last frag noRemote queue own
    obtain ⟨u, taken, heard⟩ := laneReply_taken on up hp kind dest first last frag
    exact ⟨fun inTime => ⟨_, taken, reply_delivered heard noRemote queue own inTime⟩,
      fun late => ⟨_, taken, reply_late heard noRemote own late⟩⟩
  case timeout =>
    intro src seq x found unslotted due core queue
    exact ⟨timeout_answered on found unslotted due queue core, timeout_silent on found unslotted due queue⟩
  case holding =>
    intro o q busy row hp
    exact ⟨retry_holding on busy row hp, fun v write params => retry_written on busy row hp write params⟩
  case waiting =>
    intro o r p1 s1 busy row vetted
    exact retry_waiting on busy row vetted

end Sys2Proof.Machine
end

section
/-!
SUPPORT. Frames put in a row, one frame per part of the state, and the clocks that move on to an instant (02 R56): what the statements
about the tick's phases, its frames and its alignment share.
-/
namespace Sys2Proof.Machine
open Sys2Proof

/-- A narrower frame after a wider one. -/
theorem Touches.then {ps qs : List Part} {l m : List Nat} {s t u : State} (h : Touches ps l s t) (k : Touches qs m t u)
    (hp : ∀ p ∈ qs, p ∈ ps) (hl : ∀ a ∈ m, a ∈ l) : Touches ps l s u := h.trans (k.mono hp hl)

theorem touch_clk (s : State) (x : Clk) : Touches [.clk] [] s { s with clk := x } :=
  ⟨fun p hp => by cases p <;> simp_all [Part.same], fun _ _ => rfl⟩
theorem touch_node (s : State) (x : Node) : Touches [.node] [] s { s with node := x } :=
  ⟨fun p hp => by cases p <;> simp_all [Part.same], fun _ _ => rfl⟩

/-- An event of the clocked part whose operation is known. -/
theorem runEvent_of_eq {s t : State} {g : State → State} (on : s.running = true) (h : g s = t) :
    (.next (runEvent g s) : Host.Outcome State Fault Refusal) = .next t.wrapUp := by rw [runEvent_running g on, h]

/-! Time (02 R56). -/

theorem reachTime_touch (s : State) (t : Nat) : Touches [.clk] [] s (s.reachTime t) := by
  unfold State.reachTime
  split
  · exact touch_clk s _
  · exact Touches.refl _ _ _

/-- A reading of the clock that the running counts of time do not enter is kept. -/
theorem reachTime_keeps {α : Type} (g : Clk → α)
    (h : ∀ c now time pulse rem, g { c with nowPs := now, timePs := time, pulsePs := pulse, freqRem := rem } = g c) (s : State) (t : Nat) :
    g (s.reachTime t).clk = g s.clk := by
  unfold State.reachTime
  split
  · exact h _ _ _ _ _
  · rfl

theorem reachTime_timeSet (s : State) (t : Nat) : (s.reachTime t).clk.timeSet = s.clk.timeSet := reachTime_keeps _ (fun _ _ _ _ _ => rfl) s t
theorem reachTime_tickLen (s : State) (t : Nat) : (s.reachTime t).clk.tickLen = s.clk.tickLen := reachTime_keeps _ (fun _ _ _ _ _ => rfl) s t

end Sys2Proof.Machine
end

section
/-!
SUPPORT. Tick alignment, PPS and the load of a set time (02 R42, R47 to R49, R53 to R55, R70).
-/
namespace Sys2Proof.Machine
open Sys2Proof

/-! Loss of alignment. -/

theorem onHoldover_unlocked {s : State} (standby : s.activeMeadow = false) (past : ST.SELFTEST < s.st) (unheld : s.f F.TICK_STATUS_LOCK ≠ 3) :
    onHoldover s = (s.setF F.TICK_STATUS_LOCK 3).raise FS.TICK_HOLDOVER :=
  if_neg (by simp only [standby, unheld, or_false, Bool.false_eq_true, false_or]; omega)

theorem holdover_locks (s : State) : ((s.setF F.TICK_STATUS_LOCK 3).raise FS.TICK_HOLDOVER).f F.TICK_STATUS_LOCK = 3 :=
  ((touch_raise _ FS.TICK_HOLDOVER).f (by simp)).trans (s.f_setF_same _ _ (by decide))

/-- The loss of synchronisation is reported. -/
def State.syncLost (s : State) : State := { s with clk.syncRaised := true }.raise FS.TICK_SYNC_LOSS

theorem syncLost_touch (s : State) : Touches [.clk, .hub] [] s s.syncLost :=
  ((touch_clk s _).mono (by simp) (by simp)).then (touch_raise _ _) (by simp) (by simp)
theorem syncLost_raised (s : State) : s.syncLost.hub.raised = s.hub.raised ++ [FS.TICK_SYNC_LOSS] := rfl
theorem syncLost_syncRaised (s : State) : s.syncLost.clk.syncRaised = true := rfl
theorem syncLost_now (s : State) : s.syncLost.now = s.now := rfl

theorem onSyncTimeout_waiting {s : State} (sync : s.st = ST.SYNC) (quiet : s.clk.syncRaised = false) :
    onSyncTimeout s = (s.reachNow (s.node.since + 500000000)).syncLost := if_pos ⟨sync, by simp [quiet]⟩

theorem onTickAlign_exceeded {s : State} (bad : s.clk.badTicks = 16) (lo : ST.LOAD ≤ s.st) (hi : s.st ≤ ST.HOLD) :
    onTickAlign s = { s with clk.badTicks := 17 }.raise FS.TICK_ALIGN := if_pos ⟨bad, lo, hi⟩

theorem reachNow_hub (s : State) (t : Nat) : (s.reachNow t).hub = s.hub := (reachNow_touch s t).1 .hub (by decide)

/-! Steering of the frequency (R45, R53). -/

theorem steerFreq_touch (s : State) (dir : Int) (limit gap : Nat) : Touches [.clk, .free] [] s (s.steerFreq dir limit gap) :=
  ((touch_freeCount s (s.freeCount + 1)).mono (by simp) (by simp)).then (touch_clk _ _) (by simp) (by simp)

theorem steerFreq_limit (s : State) (dir : Int) (limit gap : Nat) : (s.steerFreq dir limit gap).clk.freq.natAbs ≤ limit := by
  simp only [State.steerFreq, clampInt]
  omega

section
variable {s : State} {limit : Nat} (held : s.clk.freq.natAbs ≤ limit) (dir : Int) (gap : Nat)
include held

/-- 0.1 ppm for each second (R53). -/
theorem steerFreq_step : ((s.steerFreq dir limit gap).clk.freq - s.clk.freq).natAbs ≤ gap / 10000 := by
  simp only [State.steerFreq, State.free, clampInt]
  generalize Config.steer s.freeCount = a
  split <;> split <;> omega

theorem steerFreq_down (down : dir ≤ 0) : (s.steerFreq dir limit gap).clk.freq ≤ s.clk.freq := by
  simp only [State.steerFreq, State.free, clampInt, if_neg (Int.not_lt.mpr down)]
  generalize Config.steer s.freeCount = a
  split <;> omega

theorem steerFreq_up (up : 0 ≤ dir) : s.clk.freq ≤ (s.steerFreq dir limit gap).clk.freq := by
  simp only [State.steerFreq, State.free, clampInt, if_neg (Int.not_lt.mpr up)]
  generalize Config.steer s.freeCount = a
  split <;> omega

end

/-! PPS in (R53, R54). -/

/-- The state that has noted an edge. -/
def State.ppsEdgeTaken (s : State) : State := { s with clk.ppsEdge := some s.now, clk.ppsLost := false }

/-- The time since the last edge, one second before the first. -/
def State.ppsGap (s : State) : Nat := match s.clk.ppsEdge with
  | some t => s.now - t
  | none => 1000000000

/-- The offset of global time from the nearest whole second, in ps. -/
def State.ppsDiff (s : State) : Int :=
  if s.clk.timePs % 1000000000000 < 500000000000 then ((s.clk.timePs % 1000000000000 : Nat) : Int)
  else ((s.clk.timePs % 1000000000000 : Nat) : Int) - 1000000000000

/-- That offset exceeds 1 µs. -/
def State.ppsWide (s : State) : Bool := decide (1000000 < s.ppsDiff.natAbs)

/-- The edge is noted, and a wide offset reported. -/
def State.ppsNoted (s : State) : State := s.ppsEdgeTaken.raiseIf s.ppsWide FS.PPS_OFFSET

section
variable {s : State} {w : Nat} (meadow : s.isMeadow = true) (width : 100 ≤ w)
include meadow width

theorem onPpsIn_steers (mode : s.f F.TICK_CFG_PPS_MODE = 1) :
    onPpsIn w s = if s.ppsWide && s.ppsNoted.st == ST.RUN then s.ppsNoted else s.ppsNoted.steerFreq (-s.ppsDiff) 2000000 s.ppsGap := by
  unfold onPpsIn
  rw [if_neg (by rw [mode]; simp [meadow, width])]
  exact if_pos mode

theorem onPpsIn_loads (mode : s.f F.TICK_CFG_PPS_MODE = 2) {p : Packet} {v a : Nat} (set : s.clk.timeSet = some (p, v, 1, a)) :
    onPpsIn w s = s.ppsEdgeTaken.loadTime true := by
  unfold onPpsIn
  rw [if_neg (by rw [mode]; simp [meadow, width])]
  refine (if_neg (by rw [mode]; decide)).trans ?_
  split
  · rfl
  · next other => exact (other _ _ _ set).elim

end

theorem ppsEdgeTaken_touch (s : State) : Touches [.clk] [] s s.ppsEdgeTaken := touch_clk _ _

theorem ppsNoted_touch (s : State) : Touches [.clk, .hub] [] s s.ppsNoted :=
  ((ppsEdgeTaken_touch s).mono (by simp) (by simp)).then (touch_raiseIf _ _ _) (by simp) (by simp)

theorem ppsNoted_clk (s : State) : s.ppsNoted.clk = s.ppsEdgeTaken.clk := (touch_raiseIf s.ppsEdgeTaken _ _).1 .clk (by simp)

theorem ppsNoted_st (s : State) : s.ppsNoted.st = s.st := (ppsNoted_touch s).f (by simp)

theorem ppsNoted_wide {s : State} (wide : s.ppsWide = true) : s.ppsNoted.hub.raised = s.hub.raised ++ [FS.PPS_OFFSET] := by
  rw [State.ppsNoted, State.raiseIf, if_pos wide]
  rfl

theorem ppsWide_of_between {s : State} (lo : 1000000 < s.clk.timePs % 1000000000000)
    (hi : 1000000 < 1000000000000 - s.clk.timePs % 1000000000000) : s.ppsWide = true := by
  refine decide_eq_true ?_
  rw [State.ppsDiff]
  split <;> omega

theorem ppsGap_edge {s : State} {e : Nat} (h : s.clk.ppsEdge = some e) : s.ppsGap = s.now - e := by rw [State.ppsGap, h]

theorem ppsDiff_early {s : State} (h : s.clk.timePs % 1000000000000 < 500000000000) : 0 ≤ s.ppsDiff := by
  simp only [State.ppsDiff, if_pos h]
  omega

theorem ppsDiff_late {s : State} (h : 500000000000 ≤ s.clk.timePs % 1000000000000) : s.ppsDiff ≤ 0 := by
  simp only [State.ppsDiff, if_neg (Nat.not_lt.mpr h)]
  omega

/-- PPS_IN with PPS_MODE 1h: the edge is noted, a wide offset reported; in RUN a wide one steers nothing (R53). -/
theorem ppsIn_disciplines {s : State} (on : s.running = true) {w : Nat} (meadow : s.isMeadow = true) (width : 100 ≤ w)
    (mode : s.f F.TICK_CFG_PPS_MODE = 1) :
    ∃ t : State, exec (.ppsIn w) s = .next t.wrapUp ∧ t.clk.ppsEdge = some s.now ∧ t.clk.ppsLost = false ∧
      (1000000 < s.clk.timePs % 1000000000000 → 1000000 < 1000000000000 - s.clk.timePs % 1000000000000 →
        t.hub.raised = s.hub.raised ++ [FS.PPS_OFFSET] ∧ (s.st = ST.RUN → t.clk.freq = s.clk.freq)) ∧
      (s.clk.freq.natAbs ≤ 2000000 → t.clk.freq.natAbs ≤ 2000000 ∧
        (∀ e, s.clk.ppsEdge = some e → (t.clk.freq - s.clk.freq).natAbs ≤ (s.now - e) / 10000) ∧
        (s.clk.timePs % 1000000000000 < 500000000000 → t.clk.freq ≤ s.clk.freq) ∧
        (500000000000 ≤ s.clk.timePs % 1000000000000 → s.clk.freq ≤ t.clk.freq)) ∧ Touches [.clk, .hub, .free] [] s t := by
  have noted := ppsNoted_touch s
  have clk := ppsNoted_clk s
  have freq : s.ppsNoted.clk.freq = s.clk.freq := by rw [clk]; rfl
  refine ⟨_, runEvent_of_eq on (onPpsIn_steers meadow width mode), ?_⟩
  by_cases still : (s.ppsWide && s.ppsNoted.st == ST.RUN) = true
  · rw [if_pos still]
    refine ⟨by rw [clk]; rfl, by rw [clk]; rfl, fun lo hi => ⟨ppsNoted_wide (ppsWide_of_between lo hi), fun _ => freq⟩, fun held => ?_,
      noted.mono (by simp) (by simp)⟩
    rw [freq]
    exact ⟨held, fun e _ => by simp, fun _ => le_refl _, fun _ => le_refl _⟩
  · rw [if_neg still]
    have steered := steerFreq_touch s.ppsNoted (-s.ppsDiff) 2000000 s.ppsGap
    have hub : (s.ppsNoted.steerFreq (-s.ppsDiff) 2000000 s.ppsGap).hub = s.ppsNoted.hub := steered.1 .hub (by simp)
    refine ⟨?_, ?_, fun lo hi => ?_, fun held => ⟨steerFreq_limit _ _ _ _, fun e edge => ?_, fun early => ?_, fun late => ?_⟩,
      (noted.mono (by simp) (by simp)).then steered (by simp) (by simp)⟩
    · exact congrArg Clk.ppsEdge clk
    · exact congrArg Clk.ppsLost clk
    · have wide := ppsWide_of_between lo hi
      rw [hub, ppsNoted_wide wide]
      exact ⟨rfl, fun run => absurd (by simp [wide, ppsNoted_st, run]) still⟩
    · rw [← freq, ← ppsGap_edge edge]
      exact steerFreq_step (by rw [freq]; exact held) _ _
    · rw [← freq]
      exact steerFreq_down (by rw [freq]; exact held) _ _ (by have := ppsDiff_early early; omega)
    · rw [← freq]
      exact steerFreq_up (by rw [freq]; exact held) _ _ (by have := ppsDiff_late late; omega)

/-! The load of a set time (R42, R70). -/

/-- The state that has left the pending TIME_SET. -/
def State.unset (s : State) : State := { s with clk.timeSet := none }

theorem unset_touch (s : State) : Touches [.clk] [] s s.unset := touch_clk s _
theorem unset_timeSet (s : State) : s.unset.clk.timeSet = none := rfl
theorem unset_now (s : State) : s.unset.now = s.now := rfl

section
variable {s : State} {p : Packet} {v m a : Nat} (set : s.clk.timeSet = some (p, v, m, a)) (idle : s.st ≠ ST.RUN)
  (whole : v % (s.clk.tickLen * 2) = 0)
include set idle whole

/-- Where the boundary at the new time has still to be taken, it is the next. -/
theorem loadTime_fresh :
    s.loadTime true = { s.unset with clk.timePs := v * 1000, clk.nextAt := v * 1000 }.release 0x0020 p Stat.OK [] := by
  have idle' : s.unset.st ≠ ST.RUN := idle
  have whole' : ¬ v % (s.unset.clk.tickLen * 2) ≠ 0 := fun h => h whole
  rw [State.loadTime, set]
  exact (if_neg idle').trans (if_neg whole')

theorem loadTime_taken : s.loadTime false = (s.unset.setTime (v * 1000)).release 0x0020 p Stat.OK [] := by
  have idle' : s.unset.st ≠ ST.RUN := idle
  have whole' : ¬ v % (s.unset.clk.tickLen * 2) ≠ 0 := fun h => h whole
  rw [State.loadTime, set]
  exact (if_neg idle').trans (if_neg whole')

end

/-- TIME_SET_LOAD in a boundary already taken loads there, otherwise at the next one. -/
theorem timeSetLoad_loads {s : State} (on : s.running = true) {p : Packet} {v a : Nat} (set : s.clk.timeSet = some (p, v, 0, a))
    (idle : s.st ≠ ST.RUN) (whole : v % (s.clk.tickLen * 2) = 0) :
    ∃ u : State, exec .timeSetLoad s = .next (u.release 0x0020 p Stat.OK []).wrapUp ∧ u.clk.timePs = v * 1000 ∧ u.clk.timeSet = none ∧
      Touches [.clk] [] s u := by
  have loads : onTimeSetLoad s = if s.clk.timePs = s.clk.tickStart ∧ s.timeSetDue then s.loadTime false
      else (s.reachTime s.clk.nextAt).loadTime true := by simp only [onTimeSetLoad, set]
  by_cases taken : s.clk.timePs = s.clk.tickStart ∧ s.timeSetDue
  · exact ⟨_, runEvent_of_eq on (loads.trans ((if_pos taken).trans (loadTime_taken set idle whole))), rfl, rfl, touch_clk s _⟩
  · have reached := reachTime_touch s s.clk.nextAt
    have set' := (reachTime_timeSet s s.clk.nextAt).trans set
    have idle' : (s.reachTime s.clk.nextAt).st ≠ ST.RUN := by rw [State.st, reached.f (by simp)]; exact idle
    have whole' : v % ((s.reachTime s.clk.nextAt).clk.tickLen * 2) = 0 := by rw [reachTime_tickLen]; exact whole
    exact ⟨_, runEvent_of_eq on (loads.trans ((if_neg taken).trans (loadTime_fresh set' idle' whole'))), rfl, rfl,
      reached.trans (touch_clk _ _)⟩

theorem onTimeSetEdgeTimeout_pending {s : State} {p : Packet} {v a : Nat} (set : s.clk.timeSet = some (p, v, 1, a)) :
    onTimeSetEdgeTimeout s = (s.reachNow (a / 1000 + 2000000000)).unset.release 0x0020 p Stat.TIMEOUT [] := by
  simp only [onTimeSetEdgeTimeout, set, State.unset]

/-! PPS out and the loss of PPS (R54, R55). -/

/-- The loss of PPS is reported. -/
def State.ppsLossTaken (s : State) : State := { s with clk.ppsLost := true }.raise FS.PPS_LOSS

theorem ppsLossTaken_touch (s : State) : Touches [.clk, .hub] [] s s.ppsLossTaken :=
  ((touch_clk s _).mono (by simp) (by simp)).then (touch_raise _ _) (by simp) (by simp)
theorem ppsLossTaken_raised (s : State) : s.ppsLossTaken.hub.raised = s.hub.raised ++ [FS.PPS_LOSS] := rfl
theorem ppsLossTaken_ppsLost (s : State) : s.ppsLossTaken.clk.ppsLost = true := rfl
theorem ppsLossTaken_now (s : State) : s.ppsLossTaken.now = s.now := rfl

theorem onPpsLoss_waiting {s : State} {e : Nat} (edge : s.clk.ppsEdge = some e) (meadow : s.isMeadow = true)
    (mode : s.f F.TICK_CFG_PPS_MODE = 1 ∨ s.f F.TICK_CFG_PPS_MODE = 2) (held : s.clk.ppsLost = false) :
    onPpsLoss s = (s.reachNow (e + 1000001000)).ppsLossTaken := by
  rw [onPpsLoss, edge]
  exact if_pos ⟨meadow, mode, by rw [held]; rfl⟩

theorem touch_clk_node (s : State) (x : Clk) (y : Node) : Touches [.clk, .node] [] s { s with clk := x, node := y } :=
  ((touch_clk s x).mono (by simp) (by simp)).then (touch_node _ y) (by simp) (by simp)

/-- The state at the next whole second of global time. -/
def State.atSecond (s : State) : State := s.reachTime ((s.clk.timePs + 999999999999) / 1000000000000 * 1000000000000)

theorem atSecond_touch (s : State) : Touches [.clk] [] s s.atSecond := reachTime_touch s _

/-- The pulse goes out. -/
def State.ppsRaised (s : State) : State :=
  { s with node.ppsOut := true, clk.ppsOutUntil := some (s.now + s.f F.TICK_PPS_PPS_WIDTH * 1000000) }

theorem ppsRaised_touch (s : State) : Touches [.clk, .node] [] s s.ppsRaised := touch_clk_node s _ _
theorem ppsRaised_ppsOut (s : State) : s.ppsRaised.node.ppsOut = true := rfl
theorem ppsRaised_until (s : State) :
    s.ppsRaised.clk.ppsOutUntil = some (s.ppsRaised.now + s.f F.TICK_PPS_PPS_WIDTH * 1000000) := rfl

theorem onPpsOut_enabled {s : State} (enabled : s.on F.TICK_PPS_PPS_OUT_EN = true) : onPpsOut s = s.atSecond.ppsRaised := by
  simp only [onPpsOut, State.atSecond, State.ppsRaised, enabled, Bool.not_true, Bool.false_eq_true, if_false]

/-- The pulse ends. -/
def State.ppsLowered (s : State) : State := { s with node.ppsOut := false, clk.ppsOutUntil := none }

theorem ppsLowered_touch (s : State) : Touches [.clk, .node] [] s s.ppsLowered := touch_clk_node s _ _
theorem ppsLowered_ppsOut (s : State) : s.ppsLowered.node.ppsOut = false := rfl
theorem ppsLowered_until (s : State) : s.ppsLowered.clk.ppsOutUntil = none := rfl
theorem ppsLowered_now (s : State) : s.ppsLowered.now = s.now := rfl

theorem onPpsWidth_running {s : State} {e : Nat} (pulse : s.clk.ppsOutUntil = some e) : onPpsWidth s = (s.reachNow e).ppsLowered := by
  rw [onPpsWidth, pulse, State.ppsLowered]

/-- Settles O25: each clause is the branch of its event's operation, and the moves of the clock on to the event's instant. -/
theorem alignmentAndPps : Obligations.AlignmentAndPps := by
  unfold Obligations.AlignmentAndPps
  intro s on
  refine ⟨?holdover, ?sync, ?align, ?ppsIn, ?ppsSet, ?ppsLoss, ?ppsOut, ?ppsWidth, ?load, ?edgeTimeout⟩
  case holdover =>
    intro standby past unheld
    exact ⟨_, runEvent_of_eq on (onHoldover_unlocked standby past unheld), holdover_locks s, rfl,
      ((touch_setF s _ _).mono (by simp) (by simp)).then (touch_raise _ _) (by simp) (by simp)⟩
  case sync =>
    intro sync quiet
    refine ⟨_, runEvent_of_eq on (onSyncTimeout_waiting sync quiet), ?_, syncLost_syncRaised _, ?_,
      ((reachNow_touch s _).mono (by simp) (by simp)).trans (syncLost_touch _)⟩
    · rw [syncLost_raised, reachNow_hub]
    · rw [syncLost_now]
      exact reachNow_le _ _
  case align =>
    intro bad lo hi
    exact ⟨_, runEvent_of_eq on (onTickAlign_exceeded bad lo hi), rfl,
      ((touch_clk s _).mono (by simp) (by simp)).then (touch_raise _ _) (by simp) (by simp)⟩
  case ppsIn => exact fun w meadow width mode => ppsIn_disciplines on meadow width mode
  case ppsSet =>
    intro w p v a meadow width mode set idle whole
    have loads := (onPpsIn_loads meadow width mode set).trans (loadTime_fresh (s := s.ppsEdgeTaken) set idle whole)
    exact ⟨_, runEvent_of_eq on loads, rfl, rfl, rfl, touch_clk s _⟩
  case ppsLoss =>
    intro e edge meadow mode held
    refine ⟨_, runEvent_of_eq on (onPpsLoss_waiting edge meadow mode held), ?_, ppsLossTaken_ppsLost _, ?_,
      ((reachNow_touch s _).mono (by simp) (by simp)).trans (ppsLossTaken_touch _)⟩
    · rw [ppsLossTaken_raised, reachNow_hub]
    · rw [ppsLossTaken_now]
      exact reachNow_le _ _
  case ppsOut =>
    intro enabled
    refine ⟨_, runEvent_of_eq on (onPpsOut_enabled enabled), ppsRaised_ppsOut _, ?_,
      ((atSecond_touch s).mono (by simp) (by simp)).trans (ppsRaised_touch _)⟩
    rw [ppsRaised_until, (atSecond_touch s).f (by simp)]
  case ppsWidth =>
    intro e pulse
    refine ⟨_, runEvent_of_eq on (onPpsWidth_running pulse), ppsLowered_ppsOut _, ppsLowered_until _, ?_,
      ((reachNow_touch s e).mono (by simp) (by simp)).trans (ppsLowered_touch _)⟩
    rw [ppsLowered_now]
    exact reachNow_le s e
  case load => exact fun p v a set idle whole => timeSetLoad_loads on set idle whole
  case edgeTimeout =>
    intro p v a set
    refine ⟨_, runEvent_of_eq on (onTimeSetEdgeTimeout_pending set), unset_timeSet _, ?_, (reachNow_touch s _).trans (unset_touch _)⟩
    rw [unset_now]
    exact reachNow_le _ _

end Sys2Proof.Machine
end

section
/-!
SUPPORT. The end of an event at rest (`State.wrapUp`): with no source raised, no degraded output, outside BLOCKED, and with no
survey, trend stream or waiting command, it drives the safety outputs and their registers and changes nothing else.
-/
namespace Sys2Proof.Machine
open Sys2Proof

/-- What holds before a pass over a list, and is kept by each of its elements, holds after it. -/
theorem State.each_keeps_mem {α : Type} (P : State → Prop) (l : List α) (g : State → α → State) (hg : ∀ s, ∀ x ∈ l, P s → P (g s x))
    (s : State) (h : P s) : P (s.each l g) := by
  induction l generalizing s with
  | nil => exact h
  | cons x l ih => exact ih (fun s y hy => hg s y (by simp [hy])) _ (hg s x (by simp) h)

/-- The registers of the safety outputs. -/
def driveRegs : List Nat := A.SAFE_STAT :: outNumbers.map A.SAFE_OUT

/-- No safety output is degraded. -/
def State.undegraded (s : State) : Prop := ∀ n ∈ outNumbers, s.on (F.SAFE_OUT_DEG n) = false

theorem touch_safe (s : State) (x : Safe) : Touches [.safe] [] s { s with safe := x } :=
  ⟨fun p hp => by cases p <;> simp_all [Part.same], fun _ _ => rfl⟩

theorem undegraded_setF {s : State} (h : s.undegraded) {x : Fld} (ok : x.ok = true) (apart : x.hi < 5 ∨ 5 < x.lo) (v : Nat) :
    (s.setF x v).undegraded := fun n hn => by
  rw [State.on, s.f_setF_apart x (F.SAFE_OUT_DEG n) v ok (by simp) (by simpa using apart)]
  exact h n hn

theorem undegraded_setF_ne {s : State} (h : s.undegraded) {x : Fld} (other : ∀ n, A.SAFE_OUT n ≠ x.addr) (v : Nat) :
    (s.setF x v).undegraded := fun n hn => by
  rw [State.on, s.f_setF_ne x _ v (other n)]
  exact h n hn

/-- The outputs driven, no output degraded: from `s` only they and their registers change. -/
def Driven (s t : State) : Prop := Touches [.safe] driveRegs s t ∧ t.undegraded

namespace Driven
variable {s t : State}

theorem start (h : s.undegraded) : Driven s s := ⟨Touches.refl _ _ _, h⟩

theorem setOut (h : Driven s t) {n : Nat} (hn : n ∈ outNumbers) {x : Fld} (at_n : x.addr = A.SAFE_OUT n) (ok : x.ok = true)
    (apart : x.hi < 5 ∨ 5 < x.lo) (v : Nat) : Driven s (t.setF x v) := by
  have listed : x.addr ∈ driveRegs := by
    rw [at_n]
    exact List.mem_cons_of_mem _ (List.mem_map_of_mem hn)
  exact ⟨h.1.trans (touch_field t x v listed), undegraded_setF h.2 ok apart v⟩

theorem setStat (h : Driven s t) {x : Fld} (stat : x.addr = A.SAFE_STAT) (v : Nat) : Driven s (t.setF x v) :=
  ⟨h.1.trans (touch_field t x v (by rw [stat]; exact List.mem_cons_self)),
    undegraded_setF_ne h.2 (fun n => by rw [stat, A.SAFE_OUT, A.SAFE_STAT]; omega) v⟩

theorem setSafe (h : Driven s t) (x : Safe) : Driven s { t with safe := x } := ⟨h.1.trans ((touch_safe t x).mono (by simp) (by simp)), h.2⟩

theorem ite {u : State} {c : Prop} [Decidable c] (h : Driven s t) (k : Driven s u) : Driven s (if c then t else u) := by
  split
  · exact h
  · exact k

end Driven

theorem driveOutputs_undegraded {s : State} (h : s.undegraded) : Driven s s.driveOutputs := by
  have outputs := State.each_keeps_mem (Driven s) outNumbers (fun s n =>
    let s := if s.on (F.SAFE_OUT_DEG n) ∧ !s.outWanted n then s.lockOut n else s
    [0, 1].foldl (fun s ch =>
      let fld := if ch = 0 then F.SAFE_OUT_ON_A n else F.SAFE_OUT_ON_B n
      let want := s.chanWanted n ch
      if s.on fld = want then s
      else { s.setF fld (b2n want) with safe.changeAt := Map.set 0 s.safe.changeAt (2 * n + ch) s.now,
                                        safe.mism := Map.set 0 s.safe.mism (2 * n + ch) 0 }) s) ?_ s (.start h)
  · exact ((outputs.setStat rfl _).setStat rfl _).setStat rfl _
  · intro t n hn driven
    have whole : ¬ (t.on (F.SAFE_OUT_DEG n) = true ∧ (!t.outWanted n) = true) := by rw [driven.2 n hn]; simp
    dsimp only
    rw [if_neg whole]
    refine State.each_keeps (Driven s) [0, 1] _ (fun u ch driven => ?_) t driven
    refine driven.ite (Driven.setSafe ?_ _)
    split
    · exact driven.setOut hn rfl (by simp) (by simp) _
    · exact driven.setOut hn rfl (by simp) (by simp) _

theorem State.settle_of_none {s : State} (h : s.hub.raised = []) (k : Nat) : State.settle k s = s := by
  cases k with
  | zero => rfl
  | succ k => rw [State.settle, if_pos h]

/-- Nothing that the fault hub or the leaving of BLOCKED would act on. -/
def State.calm (s : State) : Prop := s.hub.raised = [] ∧ s.st ≠ ST.BLOCKED ∧ s.undegraded

theorem st_of_driven {s t : State} (h : Touches [.safe] driveRegs s t) : t.st = s.st := h.f (by decide)

theorem finish_calm {s : State} (h : s.calm) : Touches [.safe] driveRegs s s.finish ∧ s.finish.calm := by
  obtain ⟨quiet, free, whole⟩ := h
  obtain ⟨driven, whole'⟩ := driveOutputs_undegraded whole
  have hub : s.driveOutputs.hub = s.hub := driven.1 .hub (by simp)
  have quiet' : s.driveOutputs.hub.raised = [] := by rw [hub, quiet]
  have free' : s.driveOutputs.st ≠ ST.BLOCKED := by rw [st_of_driven driven]; exact free
  have stays : s.finish = s.driveOutputs := by
    rw [State.finish, State.settle_of_none quiet, State.leaveBlocked, if_neg (fun c => free' c.1), State.settle_of_none quiet']
  rw [stays]
  exact ⟨driven, quiet', free', whole'⟩

/-- Nothing waits for the end of an event. -/
structure State.Still (s : State) : Prop where
  calm : s.calm
  survey : s.tree.survey = none
  trends : s.recorder.trends = []
  q1 : s.cmd.q1 = []
  q2 : s.cmd.q2 = []
  q3 : s.cmd.q3 = []

/-- The end of an event at rest drives the safety outputs alone. -/
theorem State.Still.wrapUp {s : State} (h : s.Still) : Touches [.safe] driveRegs s s.wrapUp := by
  obtain ⟨once, calm⟩ := finish_calm h.calm
  have tree : s.finish.tree = s.tree := once.1 .tree (by simp)
  have cmd : s.finish.cmd = s.cmd := once.1 .cmd (by simp)
  have recorder : s.finish.recorder = s.recorder := once.1 .recorder (by simp)
  have wraps : s.wrapUp = s.finish.finish := by
    rw [State.wrapUp, State.endSurvey_of_none (by rw [tree]; exact h.survey), State.trendPump_of_nil (by rw [recorder]; exact h.trends),
      State.watchTrends_of_nil (by rw [recorder]; exact h.trends), cmd, h.q1, h.q2, h.q3]
    rfl
  rw [wraps]
  exact once.trans (finish_calm calm).1

/-- A state stays at rest through a change of other parts and registers. -/
theorem State.Still.touches {s t : State} {ps : List Part} {l : List Nat} (h : s.Still) (k : Touches ps l s t)
    (parts : ∀ p ∈ [Part.hub, .tree, .recorder, .cmd], p ∉ ps) (regs : A.SYS_STATE ∉ l ∧ ∀ n ∈ outNumbers, A.SAFE_OUT n ∉ l) : t.Still := by
  have hub : t.hub = s.hub := k.1 .hub (parts _ (by simp))
  have tree : t.tree = s.tree := k.1 .tree (parts _ (by simp))
  have recorder : t.recorder = s.recorder := k.1 .recorder (parts _ (by simp))
  have cmd : t.cmd = s.cmd := k.1 .cmd (parts _ (by simp))
  have st : t.st = s.st := k.f regs.1
  obtain ⟨quiet, free, whole⟩ := h.calm
  have degraded (n) (hn : n ∈ outNumbers) : t.on (F.SAFE_OUT_DEG n) = false := by
    rw [State.on, k.f (x := F.SAFE_OUT_DEG n) (regs.2 n hn)]
    exact whole n hn
  exact ⟨⟨by rw [hub]; exact quiet, by rw [st]; exact free, degraded⟩, by rw [tree]; exact h.survey, by rw [recorder]; exact h.trends,
    by rw [cmd]; exact h.q1, by rw [cmd]; exact h.q2, by rw [cmd]; exact h.q3⟩

end Sys2Proof.Machine
end

section
/-!
SUPPORT. The end of a trim (05 R156) beside a measurement sequence that waits for the pair it changes (08 R242).
-/
namespace Sys2Proof.Machine
open Sys2Proof

/-- A Floret of one cell in RUN whose trim pulse on pair 0 ends at pclk 100; sequence 0 is started by that pair's change to odd. -/
def trimming : State :=
  (((((({ clk := { por := false }, yar := { cur := some { trim := some 0 }, trimEnd := some 100 }, swu := { pairs := [(0, { logical := some true })] } : State
    }.setF F.SYS_STATE_STATE ST.RUN).setF F.CMD_NODE_KIND 1).setF (F.MEAS_Q_CFG_STARTED 0) 1).setF (F.MEAS_Q_CFG_TRIG 0) 3).setF
    (F.MEAS_Q_CFG_PAIR 0) 0).setF (F.MEAS_Q_CFG_LEVEL 0) 1)

/-- The change of the pair sets the sequence's run. -/
theorem trimming_trimEnd : ∃ u, exec .trimEnd trimming = .next u ∧ (u.seq 0).dues = [100] := ⟨_, rfl, by decide +kernel⟩

theorem trimming_still : trimming.Still := ⟨⟨rfl, by decide +kernel, by unfold State.undegraded; decide +kernel⟩, rfl, rfl, rfl, rfl, rfl⟩

/-- Refutes O24: the end of a trim pulse bypasses the trim cell again, and that edge sets the run of a sequence with TRIG 3h
(08 R242); the clause about TRIM_END lists the clock, the yarrow unit, the switch unit and the lifetime unit as all that changes,
and leaves out the measurement unit (the clause about DECISION_APPLY leaves it out as well). -/
theorem not_framesAndDecisions : ¬ Obligations.FramesAndDecisions := by
  unfold Obligations.FramesAndDecisions
  intro h
  obtain ⟨-, -, -, trimEnd, -⟩ := h trimming (by decide +kernel)
  obtain ⟨t, ended, -, -, -, frame⟩ := trimEnd { trim := some 0 } 0 100 rfl rfl rfl (by decide) (by decide +kernel) (by decide +kernel)
    (by decide +kernel)
  obtain ⟨u, ran, due⟩ := trimming_trimEnd
  have meas : t.meas = trimming.meas := frame.1 .meas (by simp)
  have still : t.Still := trimming_still.touches frame (by decide) (by decide +kernel)
  have kept : t.wrapUp.meas = t.meas := still.wrapUp.1 .meas (by simp)
  rw [ran, Host.Outcome.next.injEq] at ended
  rw [State.seq, ended, kept, meas] at due
  exact absurd due (by decide +kernel)

end Sys2Proof.Machine
end

section
/-!
SUPPORT. The up frame of an Umbel whose Tally is not of 32 bins (03 R93, 05 R144).
-/
namespace Sys2Proof.Machine
open Sys2Proof

/-- An Umbel in RUN with uplink A up that has merged; its Tally has no bins. -/
def binless : State :=
  (((({ clk := { por := false, merged := true }, yar := { own := { bins := [] } }, tree := { upSends := 2 } : State }.setF F.SYS_ID_ROLE 1).setF
    F.SYS_STATE_STATE ST.RUN).setF F.CMD_NODE_ASSIGNED 1).setF (F.LANE_STATUS_STATE 0) 5)

/-- Its up frame lacks the 64 bytes of the bins. -/
theorem binless_mergeComplete : ∃ u, exec .mergeComplete binless = .next u ∧ (u.lane 0).txFrame.length = 64 := ⟨_, rfl, by decide +kernel⟩

theorem binless_still : binless.Still := ⟨⟨rfl, by decide +kernel, by unfold State.undegraded; decide +kernel⟩, rfl, rfl, rfl, rfl, rfl⟩

/-- Refutes O22: the statement is about every state, and the clause about an Umbel's up frame says that it has 128 bytes without
asking that the Tally it carries has 32 bins, as the Tallies that the model forms do. The model sends the bins that stand in the
state, and a Tally of none makes a frame of 64 bytes: the clause lacks the condition `s.yar.own.bins.length = 32`. -/
theorem not_tickToMerge : ¬ Obligations.TickToMerge := by
  unfold Obligations.TickToMerge
  intro h
  obtain ⟨-, -, -, -, mergeComplete, -⟩ := h binless (by decide +kernel)
  obtain ⟨t, sent, -, -, -, -, full, -, frame⟩ := mergeComplete (by decide +kernel) rfl rfl
  obtain ⟨u, ran, short⟩ := binless_mergeComplete
  have whole : (t.lane 0).txFrame.length = 128 := full (by decide) 0 (by decide +kernel) (by decide +kernel)
  have still : t.Still := binless_still.touches frame (by decide) (by decide +kernel)
  have kept : t.wrapUp.lanes = t.lanes := still.wrapUp.1 .lanes (by simp)
  rw [ran, Host.Outcome.next.injEq] at sent
  rw [State.lane, sent, kept] at short
  exact absurd (short.symm.trans whole) (by decide)

end Sys2Proof.Machine
end

section
/-!
SUPPORT. What an operation changes and what it raises: frames together with the sources added to those raised in the step (12 R329).
-/
namespace Sys2Proof.Machine
open Sys2Proof

/-- From `s` to `t` nothing changes but the listed parts and registers, and the sources raised on the way are among those listed. -/
def Moves (ps : List Part) (l rs : List Nat) (s t : State) : Prop :=
  Touches ps l s t ∧ ∃ e, t.hub.raised = s.hub.raised ++ e ∧ ∀ x ∈ e, x ∈ rs

namespace Moves
variable {ps qs : List Part} {l m rs us : List Nat} {s t u : State}

theorem refl (s : State) (ps : List Part) (l rs : List Nat) : Moves ps l rs s s := ⟨Touches.refl _ _ _, [], by simp, by simp⟩

theorem trans (h : Moves ps l rs s t) (k : Moves ps l rs t u) : Moves ps l rs s u := by
  obtain ⟨touched, e, raised, listed⟩ := h
  obtain ⟨touched', e', raised', listed'⟩ := k
  refine ⟨touched.trans touched', e ++ e', by rw [raised', raised, List.append_assoc], fun x hx => ?_⟩
  rcases List.mem_append.mp hx with h | h
  · exact listed x h
  · exact listed' x h

theorem mono (h : Moves ps l rs s t) (hp : ∀ p ∈ ps, p ∈ qs) (hl : ∀ a ∈ l, a ∈ m) (hr : ∀ x ∈ rs, x ∈ us) : Moves qs m us s t := by
  obtain ⟨touched, e, raised, listed⟩ := h
  exact ⟨touched.mono hp hl, e, raised, fun x hx => hr x (listed x hx)⟩

theorem andThen (h : Moves ps l rs s t) (k : Moves qs m us t u) (hp : ∀ p ∈ qs, p ∈ ps) (hl : ∀ a ∈ m, a ∈ l)
    (hr : ∀ x ∈ us, x ∈ rs) : Moves ps l rs s u := h.trans (k.mono hp hl hr)

/-- What leaves the hub alone raises nothing. -/
theorem of_touches (h : Touches ps l s t) (hub : .hub ∉ ps) (rs : List Nat) : Moves ps l rs s t := by
  have same : t.hub = s.hub := h.1 .hub hub
  exact ⟨h, [], by simp [same], by simp⟩

theorem each {α : Type} (xs : List α) {g : State → α → State} (hg : ∀ s, ∀ x ∈ xs, Moves ps l rs s (g s x)) (s : State) :
    Moves ps l rs s (s.each xs g) :=
  State.each_keeps_mem (Moves ps l rs s) xs g (fun _ x hx h => h.trans (hg _ x hx)) s (refl s ps l rs)

theorem ite {c : Prop} [Decidable c] (h : c → Moves ps l rs s t) (k : ¬ c → Moves ps l rs s u) :
    Moves ps l rs s (if c then t else u) := by
  split
  · exact h ‹_›
  · exact k ‹_›

theorem when (c : Bool) {g : State → State} (h : c = true → Moves ps l rs s (g s)) : Moves ps l rs s (s.when c g) :=
  ite h fun _ => refl s ps l rs

/-- What stood raised stays raised. -/
theorem raised (h : Moves ps l rs s t) {x : Nat} (hx : x ∈ s.hub.raised) : x ∈ t.hub.raised := by
  obtain ⟨-, e, eq, -⟩ := h
  rw [eq]
  exact List.mem_append_left _ hx

/-- A source that the operation does not raise stood raised before. -/
theorem raised_before (h : Moves ps l rs s t) {x : Nat} (hx : x ∈ t.hub.raised) (other : x ∉ rs) : x ∈ s.hub.raised := by
  obtain ⟨-, e, eq, listed⟩ := h
  rw [eq] at hx
  exact (List.mem_append.mp hx).resolve_right fun k => other (listed x k)

theorem raise (s : State) (n : Nat) : Moves [.hub] [] [n] s (s.raise n) := ⟨touch_raise s n, [n], rfl, by simp⟩

theorem raiseIf (s : State) (c : Bool) (n : Nat) : Moves [.hub] [] [n] s (s.raiseIf c n) :=
  ite (fun _ => raise s n) fun _ => refl _ _ _ _

/-! Updates that raise nothing, in a wider frame. -/

theorem setF (s : State) (x : Fld) (v : Nat) (h : x.addr ∈ l) : Moves ps l rs s (s.setF x v) :=
  (of_touches (touch_setF s x v) (by simp) rs).mono (by simp) (by simpa using h) (by simp)

theorem setReg (s : State) (a : Nat) (w : Word) (h : a ∈ l) : Moves ps l rs s (s.setReg a w) :=
  (of_touches (touch_setReg s a w) (by simp) rs).mono (by simp) (by simpa using h) (by simp)

theorem bumpBy (s : State) (x : Fld) (n : Nat) (h : x.addr ∈ l) : Moves ps l rs s (s.bumpBy x n) := setF s x _ h

theorem bump (s : State) (x : Fld) (h : x.addr ∈ l) : Moves ps l rs s (s.bump x) := bumpBy s x 1 h

theorem part {p : Part} (h : Touches [p] [] s t) (hub : p ≠ .hub) (hp : p ∈ ps) : Moves ps l rs s t :=
  (of_touches h (by simpa using hub.symm) rs).mono (by simpa using hp) (by simp) (by simp)

theorem raises (s : State) {n : Nat} (hp : Part.hub ∈ ps) (hn : n ∈ rs) : Moves ps l rs s (s.raise n) :=
  (raise s n).mono (by simpa using hp) (by simp) (by simpa using hn)

theorem raisesIf (s : State) (c : Bool) {n : Nat} (hp : Part.hub ∈ ps) (hn : n ∈ rs) : Moves ps l rs s (s.raiseIf c n) :=
  (raiseIf s c n).mono (by simpa using hp) (by simp) (by simpa using hn)

end Moves

/-! What a frame keeps, part by part. -/

theorem Touches.clk {ps : List Part} {l : List Nat} {s t : State} (h : Touches ps l s t) (hc : .clk ∉ ps) : t.clk = s.clk := h.1 .clk hc
theorem Touches.hub {ps : List Part} {l : List Nat} {s t : State} (h : Touches ps l s t) (hc : .hub ∉ ps) : t.hub = s.hub := h.1 .hub hc
theorem Touches.yar {ps : List Part} {l : List Nat} {s t : State} (h : Touches ps l s t) (hc : .yar ∉ ps) : t.yar = s.yar := h.1 .yar hc
theorem Touches.child {ps : List Part} {l : List Nat} {s t : State} (h : Touches ps l s t) (hc : .child ∉ ps) : t.child = s.child :=
  h.1 .child hc
theorem Touches.loop {ps : List Part} {l : List Nat} {s t : State} (h : Touches ps l s t) (hc : .loop ∉ ps) : t.loop = s.loop := h.1 .loop hc
theorem Touches.lanes {ps : List Part} {l : List Nat} {s t : State} (h : Touches ps l s t) (hc : .lanes ∉ ps) : t.lanes = s.lanes :=
  h.1 .lanes hc
theorem Touches.units {ps : List Part} {l : List Nat} {s t : State} (h : Touches ps l s t) (hc : .units ∉ ps) : t.unitSts = s.unitSts :=
  h.1 .units hc

/-! One part of the state replaced. -/

theorem touch_yar (s : State) (x : Yar) : Touches [.yar] [] s { s with yar := x } :=
  ⟨fun p hp => by cases p <;> simp_all [Part.same], fun _ _ => rfl⟩
theorem touch_loop (s : State) (x : LoopEng) : Touches [.loop] [] s { s with loop := x } :=
  ⟨fun p hp => by cases p <;> simp_all [Part.same], fun _ _ => rfl⟩
theorem touch_twin (s : State) (x : Twin) : Touches [.twin] [] s { s with twin := x } :=
  ⟨fun p hp => by cases p <;> simp_all [Part.same], fun _ _ => rfl⟩
theorem touch_life (s : State) (x : Life) : Touches [.life] [] s { s with life := x } :=
  ⟨fun p hp => by cases p <;> simp_all [Part.same], fun _ _ => rfl⟩
theorem touch_child (s : State) (x : Child) : Touches [.child] [] s { s with child := x } :=
  ⟨fun p hp => by cases p <;> simp_all [Part.same], fun _ _ => rfl⟩
theorem touch_recorder (s : State) (x : Rec) : Touches [.recorder] [] s { s with recorder := x } :=
  ⟨fun p hp => by cases p <;> simp_all [Part.same], fun _ _ => rfl⟩
theorem touch_guard (s : State) (x : Guard) : Touches [.guard] [] s { s with guard := x } :=
  ⟨fun p hp => by cases p <;> simp_all [Part.same], fun _ _ => rfl⟩

end Sys2Proof.Machine
end

section
/-!
SUPPORT. What a reply may change (03 R99, R100, 04 R112): the commands' own state, the transmit buffer of a lane or the count of
segments it drops, the registers of the reply ports.
-/
namespace Sys2Proof.Machine
open Sys2Proof

/-- The parts that a reply may change. -/
def sendParts : List Part := [.cmd, .lanes, .hub]

/-- A reply is sent, or a segment of it dropped. -/
def Sends (s t : State) : Prop := Moves sendParts sendRegs [FS.SEG_DROP] s t

theorem f_lt (s : State) (x : Fld) : s.f x < 2 ^ (x.hi + 1 - x.lo) := Nat.mod_lt _ (Nat.two_pow_pos _)

theorem seg_mem_sendRegs {n : Nat} (h : n < 32) : A.LANE_SEG n ∈ sendRegs :=
  List.mem_append_right _ (List.mem_map_of_mem (List.mem_range.mpr h))

theorem dropSegment_moves (s : State) (n : Nat) : Moves [.lanes, .hub] [A.LANE_SEG n] [FS.SEG_DROP] s (s.dropSegment n) :=
  ((Moves.bump s _ (by simp)).trans (.part (touch_updLane _ _ _) (by decide) (by simp))).trans (.raisesIf _ _ (by simp) (by simp))

theorem queueTx_moves (s : State) (n : Nat) (x : TxItem) : Moves [.lanes, .hub] [A.LANE_SEG n] [FS.SEG_DROP] s (s.queueTx n x) :=
  .ite (fun _ => .part (touch_updLane _ _ _) (by decide) (by simp)) fun _ => dropSegment_moves s n

namespace Sends

theorem refl (s : State) : Sends s s := Moves.refl _ _ _ _

theorem queueTx (s : State) {n : Nat} (h : n < 32) (x : TxItem) : Sends s (s.queueTx n x) :=
  (queueTx_moves s n x).mono (by simp [sendParts]) (by simpa using seg_mem_sendRegs h) (by simp)

theorem sendMessage (s : State) {n : Nat} (h : n < 32) (kind cls dest : Nat) (mcast : Bool) (data : List Byte) (bad : Bool) :
    Sends s (s.sendMessage n kind cls dest mcast data bad) := Moves.each _ (fun s _ _ => queueTx s h _) s

end Sends

/-! The lanes that commands and replies go on. -/

theorem State.portLane_lt {s : State} {port n : Nat} (h : s.portLane port = some n) : n < 32 := by
  have host (q : Nat → Bool) (hq : s.hostLanes.find? q = some n) : n < 32 :=
    List.mem_range.mp (List.mem_of_mem_filter (List.mem_of_find?_eq_some hq))
  unfold State.portLane at h
  dsimp only at h
  split at h
  · exact host _ h
  · exact host _ h

theorem State.unitLanes_lt {s : State} {n l : Nat} (hn : n ∈ s.units) (hl : l ∈ s.unitLanes n) : l < 32 := by
  have first : n < 32 := List.mem_range.mp (List.mem_of_mem_filter hn)
  have partner := f_lt s (F.CMD_DL_PARTNER n)
  unfold State.unitLanes at hl
  split at hl <;> simp at hl
  · rcases hl with rfl | rfl
    · exact first
    · exact partner
  · exact hl ▸ first

theorem State.unitLane_lt {s : State} {n l : Nat} (hn : n ∈ s.units) (h : s.unitLane n = some l) : l < 32 := by
  unfold State.unitLane at h
  dsimp only at h
  split at h
  · rcases Option.or_eq_some_iff.mp h with h | ⟨-, h⟩
    · exact State.unitLanes_lt hn (List.mem_of_find?_eq_some h)
    · exact State.unitLanes_lt hn (List.mem_of_find?_eq_some h)
  · exact State.unitLanes_lt hn (List.mem_of_find?_eq_some h)

theorem State.xlinks_lt {s : State} {n : Nat} (h : n ∈ s.xlinks) : n < 32 := by
  unfold State.xlinks at h
  split at h
  · simp at h; omega
  · exact List.mem_range.mp (List.mem_of_mem_filter h)

theorem State.uplinks_lt {s : State} {n : Nat} (h : n ∈ s.uplinks) : n < 2 := by
  unfold State.uplinks at h
  split at h
  · simp at h
  · have := List.mem_of_mem_filter h
    simp at this
    omega

theorem State.upLane_lt {s : State} {n : Nat} (h : s.upLane = some n) : n < 32 := by
  have up (m : Nat) (hm : (s.uplinks.contains m && s.laneUp m) = true) : m < 32 := by
    have : m ∈ s.uplinks := by simpa using (Bool.and_eq_true_iff.mp hm).1
    have := State.uplinks_lt this
    omega
  unfold State.upLane at h
  dsimp only at h
  split at h
  · split at h
    · next hm => cases h; exact up _ hm
    · cases h
  · split at h
    · cases h; omega
    · split at h
      · cases h; omega
      · cases h

theorem State.route_lane_lt {s : State} {dest n : Nat} (h : s.route dest = .lane n) : n < 32 := by
  unfold State.route at h
  dsimp only at h
  split at h
  · cases h
  split at h
  · split at h
    · next m hm => cases h; exact State.xlinks_lt (List.mem_of_find?_eq_some hm)
    · cases h
  split at h
  · next m hm =>
    cases h
    exact List.mem_range.mp (List.mem_of_mem_filter (List.mem_of_mem_filter (List.mem_of_head? hm)))
  split at h
  · next m hm =>
    split at h
    · next l hl => cases h; exact State.unitLane_lt (List.mem_of_find?_eq_some hm) hl
    · cases h
  split at h
  · split at h
    · next l hl => cases h; exact State.upLane_lt hl
    · cases h
  · cases h

/-! Replies. -/

namespace Sends

theorem cmd (s : State) (x : Cmd) : Sends s { s with cmd := x } := .part (touch_cmd s x) (by decide) (by simp [sendParts])

theorem sendHost (s : State) (port mac prio : Nat) (segs : List (List Byte)) (bad : Bool) : Sends s (s.sendHost port mac prio segs bad) := by
  unfold State.sendHost
  split
  · exact refl s
  · next n h => exact .ite (fun _ => .each _ (fun s _ _ => queueTx s (State.portLane_lt h) _) s) fun _ => refl s

theorem deliver (s : State) (source : BitVec 16) (key cls : Nat) (b : List Byte) : Sends s (s.deliver source key cls b) := by
  unfold State.deliver
  split
  · exact .part (touch_toCore s _ _) (by decide) (by simp [sendParts])
  · exact (cmd s _).trans (.setF _ _ _ (by decide))
  · exact sendHost s _ _ _ _ _
  · exact sendHost s _ _ _ _ _
  · exact refl s

theorem routeReply (s : State) (p : Packet) (b : List Byte) : Sends s (s.routeReply p b) := by
  refine .ite (fun _ => deliver s _ _ _ _) fun _ => .ite (fun _ => cmd s _) fun _ => ?_
  split
  · next n h => exact sendMessage s (State.route_lane_lt h) _ _ _ _ _ _
  · exact refl s

theorem reply (s : State) (op : Nat) (p : Packet) (final : Bool) (status : Nat) (b : List Byte) : Sends s (s.reply op p final status b) :=
  .ite (fun _ => refl s) fun _ => ((Moves.when _ fun _ => .bump s _ (by decide)).trans (cmd _ _)).trans (routeReply _ _ _)

theorem release (s : State) (op : Nat) (p : Packet) (status : Nat) (b : List Byte) : Sends s (s.release op p status b) :=
  (cmd s _).trans (reply _ _ _ _ _ _)

end Sends

end Sys2Proof.Machine
end

section
/-!
SUPPORT. Entering a node state (06 R176, R186, 17 R433): what it changes, and that the state is the one entered.
-/
namespace Sys2Proof.Machine
open Sys2Proof

/-- The registers of `goRegs` beside SYS_STATE. -/
def settleRegs : List Nat := A.YAR_DEC1 :: (pairNumbers.map A.SWU_P_CFG ++ forceRegs ++ sendRegs)

/-- What follows the entry of a node state: pairs off, channels stopped, forces applied. -/
def Settles (s t : State) : Prop := Moves goParts settleRegs [FS.SEG_DROP] s t

theorem settleRegs_send {a : Nat} (h : a ∈ sendRegs) : a ∈ settleRegs := List.mem_cons_of_mem _ (List.mem_append_right _ h)
theorem settleRegs_force {a : Nat} (h : a ∈ forceRegs) : a ∈ settleRegs :=
  List.mem_cons_of_mem _ (List.mem_append_left _ (List.mem_append_right _ h))

theorem State.cells_lt {s : State} {c : Nat} (h : c ∈ s.cells) : c < 2 := by
  have two (k : Nat) : kindCells k ≤ 2 := by
    unfold kindCells
    split
    · omega
    · split <;> omega
  have := two (s.f F.CMD_NODE_KIND)
  have h := List.mem_range.mp h
  split at h <;> omega

theorem cell_mem_forceRegs {s : State} {c : Nat} (h : c ∈ s.cells) : A.YAR_CELL c ∈ forceRegs := by
  have := State.cells_lt h
  interval_cases c <;> decide

theorem carry_mem_forceRegs {p : Nat} (h : p < 4) : A.SWU_P_CARRY p ∈ forceRegs := by
  interval_cases p <;> decide

theorem cellPair_lt {c : Nat} (h : c < 2) (kind : Nat) : cellPair kind c < 4 := by
  unfold cellPair
  split <;> omega

theorem pairNumbers_lt {p : Nat} (h : p ∈ pairNumbers) : p < 4 := by
  simp [pairNumbers] at h
  omega

/-- A pair forced drops to its safe level. -/
theorem dropPair_moves (s : State) {p : Nat} (h : p < 4) : Moves [.swu] forceRegs [] s (s.dropPair p) :=
  (Moves.part (touch_updPair s p _) (by decide) (by simp)).trans (.setF _ _ _ (carry_mem_forceRegs h))

/-- Forces write the pairs, their carries and the FAILED flags of the cells. -/
theorem applyForces_moves (s : State) : Moves [.swu] forceRegs [] s s.applyForces :=
  ((Moves.each _ (fun s _ hp => dropPair_moves s (pairNumbers_lt (List.mem_of_mem_filter hp))) s).trans
    (.each _ (fun s p _ => .part (touch_updPair s p _) (by decide) (by simp)) _)).trans
    (.each _ (fun _ _ hc => .setF _ _ _ (cell_mem_forceRegs hc)) _)

theorem loadTick_moves (s : State) : Moves [.clk] [] [] s s.loadTick :=
  (Moves.ite (fun _ => .refl s _ _ _) fun _ => .part (touch_clk s _) (by decide) (by simp)).trans
    (.part (touch_clk _ _) (by decide) (by simp))

namespace Settles

theorem refl (s : State) : Settles s s := Moves.refl _ _ _ _

theorem of_sends {s t : State} (h : Sends s t) : Settles s t := h.mono (by decide) (fun _ => settleRegs_send) (by simp)

theorem updPair (s : State) (p : Nat) (g : PairSt → PairSt) : Settles s (s.updPair p g) :=
  .part (touch_updPair s p g) (by decide) (by simp [goParts])

theorem node (s : State) (x : Node) : Settles s { s with node := x } := .part (touch_node s x) (by decide) (by simp [goParts])
theorem yar (s : State) (x : Yar) : Settles s { s with yar := x } := .part (touch_yar s x) (by decide) (by simp [goParts])

theorem pairOff (s : State) (p : Nat) : Settles s (s.pairOff p) := updPair s p _

theorem discardCarry (s : State) {c : Nat} (h : c < 2) : Settles s (s.discardCarry c) := by
  have listed := settleRegs_force (carry_mem_forceRegs (cellPair_lt h (s.f F.CMD_NODE_KIND)))
  exact .ite (fun _ => refl s) fun _ => (Moves.setF s _ _ listed).trans (.bump _ _ listed)

theorem yarrowSafe (s : State) : Settles s s.yarrowSafe := by
  refine (((((Moves.each _ (fun s p _ => pairOff s p) s).trans (.each _ (fun s c hc => ?carry) _)).trans
    (.each _ (fun s c hc => ?cell) _)).trans (.setF _ _ _ (by decide))).trans (yar _ _))
  case carry => exact discardCarry s (State.cells_lt (List.mem_of_mem_filter hc))
  case cell =>
    have listed := settleRegs_force (cell_mem_forceRegs hc)
    exact ((Moves.setF s _ _ listed).trans (.setF _ _ _ listed)).trans (.setF _ _ _ listed)

theorem haltChan (s : State) {p : Nat} (h : p < 4) : Settles s (s.haltChan p) := by
  have listed : A.SWU_P_CFG p ∈ settleRegs := by interval_cases p <;> decide
  exact ((pairOff s p).trans (.setF _ _ _ listed)).trans (updPair _ _ _)

theorem dropChan (s : State) {p : Nat} (h : p < 4) : Settles s (s.dropChan p) := by
  unfold State.dropChan
  dsimp only
  refine (Moves.trans ?_ (.each _ (fun s c _ => of_sends (.reply s _ _ _ _ _)) _)).trans (haltChan _ h)
  split
  · exact of_sends (.release _ _ _ _ _)
  · exact refl s

theorem loadTick (s : State) : Settles s s.loadTick := (loadTick_moves s).mono (by decide) (by simp) (by simp)

theorem applyForces (s : State) : Settles s s.applyForces :=
  (applyForces_moves s).mono (by decide) (fun _ => settleRegs_force) (by simp)

end Settles

/-- Another state is entered, and what follows from it happens. -/
theorem go_enters {s : State} {c : Nat} (other : s.st ≠ c) : Settles (s.enter c) (s.go c) := by
  unfold State.go
  dsimp only
  rw [if_neg other]
  refine ((((Moves.when _ fun _ => ?_).trans (.when _ fun _ => ?_)).trans (.when _ fun _ => ?_)).trans (.when _ fun _ => ?_)).trans
    (.when _ fun _ => ?_)
  · exact Settles.loadTick _
  · exact Settles.node _ _
  · exact Settles.yarrowSafe _
  · exact .each _ (fun s p hp => Settles.dropChan s (pairNumbers_lt (List.mem_of_mem_filter hp))) _
  · exact Settles.applyForces _

theorem settleRegs_goRegs {a : Nat} (h : a ∈ settleRegs) : a ∈ goRegs := List.mem_cons_of_mem _ (by simpa [settleRegs, goRegs] using h)

theorem enter_moves (s : State) (c : Nat) : Moves goParts goRegs [FS.SEG_DROP] s (s.enter c) :=
  (Moves.of_touches (touch_enter s c) (by simp) []).mono (by decide) (by simp [goRegs]) (by simp)

theorem go_moves {s : State} {c : Nat} (other : s.st ≠ c) : Moves goParts goRegs [FS.SEG_DROP] s (s.go c) :=
  (enter_moves s c).andThen (go_enters other) (by simp) (fun _ => settleRegs_goRegs) (by simp)

theorem st_notMem_settleRegs : A.SYS_STATE ∉ settleRegs := by decide +kernel

theorem enter_st (s : State) {c : Nat} (h : c < 16) : (s.enter c).st = c := by
  have : (s.enter c).st = c % 2 ^ (3 + 1 - 0) := (s.setF F.SYS_STATE_PREV s.st).f_setF_same F.SYS_STATE_STATE c (by decide)
  rw [this]
  omega

theorem go_st {s : State} {c : Nat} (other : s.st ≠ c) (h : c < 16) : (s.go c).st = c :=
  ((go_enters other).1.f st_notMem_settleRegs).trans (enter_st s h)

/-- The entry of a state leaves BLK_HOLD. -/
theorem go_blkHold {s : State} {c : Nat} (other : s.st ≠ c) : (s.go c).f F.SYS_STATE_BLK_HOLD = s.f F.SYS_STATE_BLK_HOLD := by
  have entered : (s.enter c).f F.SYS_STATE_BLK_HOLD = s.f F.SYS_STATE_BLK_HOLD :=
    ((s.setF F.SYS_STATE_PREV s.st).f_setF_apart F.SYS_STATE_STATE F.SYS_STATE_BLK_HOLD c (by decide) (by decide) (by decide)).trans
      (s.f_setF_apart F.SYS_STATE_PREV F.SYS_STATE_BLK_HOLD _ (by decide) (by decide) (by decide))
  exact ((go_enters other).1.f st_notMem_settleRegs).trans entered

/-! No decision stands to be applied, and the entry of a state places none (05 R157). -/

/-- No decision stands to be applied. -/
def State.unpended (s : State) : Prop := s.yar.pend = none

theorem yarrowSafe_unpended (s : State) : s.yarrowSafe.unpended := rfl

namespace State.unpended
variable {s : State} (h : s.unpended)
include h

theorem moves {t : State} {ps : List Part} {l rs : List Nat} (k : Moves ps l rs s t) (hp : .yar ∉ ps) : t.unpended := by
  have yar : t.yar = s.yar := k.1.1 .yar hp
  rw [State.unpended, yar]
  exact h

theorem sends {t : State} (k : Sends s t) : t.unpended := h.moves k (by decide)

theorem dropChan (p : Nat) : (s.dropChan p).unpended := by
  have stopped (u : State) (k : u.unpended) : (u.haltChan p).unpended := k
  refine stopped _ (State.each_keeps State.unpended _ _ (fun u c k => k.sends (.reply u _ _ _ _ _)) _ ?_)
  split
  · exact h.sends (.release _ _ _ _ _)
  · exact h

theorem when {c : Bool} {g : State → State} (hg : ∀ u, u.unpended → (g u).unpended) : (s.when c g).unpended := by
  unfold State.when
  split
  · exact hg s h
  · exact h

theorem go (c : Nat) : (s.go c).unpended := by
  unfold State.go
  dsimp only
  split
  · exact h
  · have entered : (s.enter c).unpended := h
    refine when (when (when (when (when entered ?tick) ?run) ?safe) ?channels) ?forces
    case tick => exact fun u k => k.moves (loadTick_moves u) (by simp)
    case run => exact fun _ k => k
    case safe => exact fun u _ => yarrowSafe_unpended u
    case channels => exact fun _ k => State.each_keeps State.unpended _ _ (fun _ p k => k.dropChan p) _ k
    case forces => exact fun u k => k.moves (applyForces_moves u) (by simp)

end State.unpended

end Sys2Proof.Machine
end

section
/-!
SUPPORT. The samples of a tick (09 R258, R263 to R266, R275 to R277): what the captures and streams write.
-/
namespace Sys2Proof.Machine
open Sys2Proof

/-- The sources that a sample may raise. -/
def sampleSources : List Nat := [FS.REC_OVERFLOW, FS.REC_CAPTURE_DONE, FS.REC_TREND_LOST, FS.SEG_DROP]

/-- A sample is taken, or a part of that done. -/
def Samples (s t : State) : Prop := Moves sampleParts sampleRegs sampleSources s t

/-! Memory (11 R309, R310). -/

theorem memWrite_touch (s : State) (a : Nat) (bs : List Byte) : Touches [.bytes] [] s (s.memWrite a bs) := by
  induction bs generalizing s a with
  | nil => exact Touches.refl _ _ _
  | cons b bs ih => exact (touch_setMem s a b).trans (ih _ _)

theorem putLine_touch (s : State) (k : Nat) (data : List Byte) : Touches [.bytes, .guard] [] s (s.putLine k data) :=
  ((memWrite_touch s k data).mono (by simp) (by simp)).trans
    (((touch_guard _ _).trans (touch_guard _ _)).mono (by simp) (by simp))

theorem putBytes_touch (s : State) (k o : Nat) (bs : List Byte) : Touches [.bytes, .guard] [] s (s.putBytes k o bs) := by
  unfold State.putBytes
  dsimp only
  refine Touches.trans (t := if s.lineValid k then s else s.putLine k (List.replicate 64 0)) ?_
    (((memWrite_touch _ _ _).mono (by simp) (by simp)).trans (((touch_guard _ _).trans (touch_guard _ _)).mono (by simp) (by simp)))
  split
  · exact Touches.refl _ _ _
  · exact putLine_touch _ _ _

theorem guardWrite_touch (s : State) (loader : Bool) (a : Nat) (bs : List Byte) : Touches [.bytes, .guard] [] s (s.guardWrite loader a bs) := by
  unfold State.guardWrite
  dsimp only
  split
  · exact Touches.refl _ _ _
  · refine Touches.each _ _ (fun s line _ => ?_) s
    have written (ms : List Nat) (key : State → Nat → Nat) (o : Nat) (part : List Byte) :
        Touches [.bytes, .guard] [] s (s.each ms (fun s m => s.putBytes (key s m) o part)) :=
      Touches.each _ _ (fun s m _ => putBytes_touch s _ _ _) s
    split
    · exact (written _ (fun s m => s.lineKey _ m line) _ _).trans ((touch_guard _ _).mono (by simp) (by simp))
    · exact written _ (fun s m => s.lineKey _ m line) _ _

namespace Samples

theorem refl (s : State) : Samples s s := Moves.refl _ _ _ _

theorem of_sends {s t : State} (h : Sends s t) : Samples s t :=
  h.mono (by decide) (fun _ => List.mem_append_right _) (by decide)

theorem guardWrite (s : State) (loader : Bool) (a : Nat) (bs : List Byte) : Samples s (s.guardWrite loader a bs) :=
  (Moves.of_touches (guardWrite_touch s loader a bs) (by simp) []).mono (by decide) (by simp) (by simp)

theorem recorder (s : State) (x : Rec) : Samples s { s with recorder := x } := .part (touch_recorder s x) (by decide) (by decide)

theorem setCap (s : State) (n : Nat) (c : CapSt) : Samples s (s.setCap n c) := recorder s _
theorem updCap (s : State) (n : Nat) (g : CapSt → CapSt) : Samples s (s.updCap n g) := recorder s _
theorem setTrend (s : State) (n : Nat) (t : TrendSt) : Samples s (s.setTrend n t) := recorder s _
theorem updTrend (s : State) (n : Nat) (g : TrendSt → TrendSt) : Samples s (s.updTrend n g) := recorder s _
theorem fillBuf (s : State) (n : Nat) : Samples s (s.fillBuf n) := recorder s _

theorem recStat (s : State) {x : Fld} (h : x.addr = A.REC_STAT) : Samples s (s.bump x) :=
  .bump s x (by rw [h]; exact List.mem_cons_self)

/-! Captures. -/

theorem writeHeader (s : State) (n i : Nat) : Samples s (s.writeHeader n i) := by
  unfold State.writeHeader
  dsimp only
  split
  · exact refl s
  · exact (Moves.part (touch_freeCount s (s.freeCount + 1)) (by decide) (by decide)).trans (guardWrite _ _ _ _)

theorem putSample (s : State) (n time : Nat) (data : List Byte) : Samples s (s.putSample n time data) := by
  unfold State.putSample
  dsimp only
  have closed (c : Bool) (i : Nat) : Samples s (s.when c (fun s => s.writeHeader n i)) := .when _ fun _ => writeHeader s n i
  split
  · exact closed _ _
  · exact ((closed _ _).trans (guardWrite _ _ _ _)).trans (setCap _ _ _)

section
variable {n : Nat} (capture : n ∈ capNumbers)
include capture

theorem capStat_mem : A.REC_CAP_STAT n ∈ sampleRegs := by
  have := List.mem_map_of_mem (f := A.REC_CAP_STAT) capture
  simp only [sampleRegs, List.mem_append, List.mem_cons, this, true_or, or_true]

theorem capPre_mem : A.REC_CAP_PRE n ∈ sampleRegs := by
  have := List.mem_map_of_mem (f := A.REC_CAP_PRE) capture
  simp only [sampleRegs, List.mem_append, this, true_or, or_true]

theorem capPost_mem : A.REC_CAP_POST n ∈ sampleRegs := by
  have := List.mem_map_of_mem (f := A.REC_CAP_POST) capture
  simp only [sampleRegs, List.mem_append, this, true_or, or_true]

theorem endCapture (s : State) (st : Nat) : Samples s (s.endCapture n st) :=
  (((Moves.setF s _ _ (capStat_mem capture)).trans (updCap _ _ _)).trans (writeHeader _ _ _)).trans
    (.raisesIf _ _ (by decide) (by decide))

theorem showCap (s : State) : Samples s (s.showCap n) :=
  ((Moves.setF s _ _ (capPre_mem capture)).trans (.setF _ _ _ (capPost_mem capture))).trans (.setF _ _ _ (capStat_mem capture))

/-- A record that has its last sample ends; one that has ended writes its last header. -/
theorem closeFull (s : State) (full : Bool) :
    Samples s ((if s.capState n = CAP.DONE then s.writeHeader n ((s.cap n).ring.length - 1)
      else if full then s.endCapture n CAP.DONE else s).showCap n) :=
  Moves.trans (.ite (fun _ => writeHeader _ _ _) fun _ => .ite (fun _ => endCapture capture _ _) fun _ => refl _) (showCap capture _)

theorem sampleCap (s : State) (time t0 : Nat) : Samples s (s.sampleCap time t0 n) := by
  unfold State.sampleCap
  dsimp only
  refine .ite (fun _ => refl s) fun _ => .ite (fun _ => ?overflow) fun _ => ?taken
  case overflow => exact ((recStat s rfl).trans (endCapture capture _ _)).trans (.raises _ (by decide) (by decide))
  case taken =>
    have noted (u : State) (c : Bool) (g : CapSt → CapSt) : Samples u (u.when c (fun u => u.updCap n g)) := .when c fun _ => updCap u n g
    exact (((fillBuf s _).trans (putSample _ _ _ _)).trans (noted _ _ _)).trans (closeFull capture _ _)

end

/-! Streams. -/

section
variable {n : Nat} (stream : n ∈ trendNumbers)
include stream

theorem trStat_mem : A.REC_TR_STAT n ∈ sampleRegs := by
  have := List.mem_map_of_mem (f := A.REC_TR_STAT) stream
  simp only [sampleRegs, List.mem_append, this, true_or, or_true]

theorem trLost_mem : A.REC_TR_LOST n ∈ sampleRegs := by
  have := List.mem_map_of_mem (f := A.REC_TR_LOST) stream
  simp only [sampleRegs, List.mem_append, this, true_or, or_true]

theorem loseBlock (s : State) : Samples s (s.loseBlock n) := by
  have said (u : State) : Samples u (State.raise { u with recorder.lostAt := some u.now } FS.REC_TREND_LOST) :=
    (recorder u _).trans (.raises _ (by decide) (by decide))
  have reported (u : State) : Samples u (match u.recorder.lostAt with
      | some at0 => if u.now < at0 + 1000000000 then u else State.raise { u with recorder.lostAt := some u.now } FS.REC_TREND_LOST
      | none => State.raise { u with recorder.lostAt := some u.now } FS.REC_TREND_LOST) := by
    split
    · exact .ite (fun _ => refl u) fun _ => said u
    · exact said u
  exact (((setTrend s n _).trans (.bump _ (F.REC_TR_LOST_LOST n) (trLost_mem stream))).trans
    (recStat _ (x := F.REC_STAT_TREND_LOST) rfl)).trans (reported _)

theorem closeBlock (s : State) : Samples s (s.closeBlock n) := by
  refine .ite (fun _ => refl s) fun _ => ?_
  exact (((guardWrite s _ _ _).trans (.setF _ _ _ (trStat_mem stream))).trans (setTrend _ _ _)).trans
    (.ite (fun _ => loseBlock stream _) fun _ => refl _)

theorem keepTrend (s : State) (time : Nat) (data : List Byte) (index : Nat) : Samples s (s.keepTrend n time data index) := by
  refine .ite (fun _ => updTrend s _ _) fun _ => ?_
  exact ((fillBuf s _).trans (.ite (fun _ => closeBlock stream _) fun _ => refl _)).trans (updTrend _ _ _)

theorem sampleTrend (s : State) (time t0 : Nat) : Samples s (s.sampleTrend time t0 n) := by
  have answered (u : State) (cmd : Option Packet) : Samples u (match cmd with
      | some p => u.release 0x0711 p Stat.OK []
      | none => u) := by
    split
    · exact of_sends (.release _ _ _ _ _)
    · exact refl u
  have kept (u : State) (c : Prop) [Decidable c] (data : List Byte) (index : Nat) :
      Samples u (if c then u.keepTrend n time data index else u) := .ite (fun _ => keepTrend stream u _ _ _) fun _ => refl u
  refine .ite (fun _ => refl s) fun _ => ?_
  exact (((Moves.setF s _ _ (trStat_mem stream)).trans (setTrend _ n _)).trans (answered _ _)).trans (kept _ _ _ _)

end

/-- APPLY of a tick samples the captures and streams on the tick's clock. -/
theorem sampleTick (s : State) : Samples s s.sampleTick :=
  (Moves.each _ (fun s _ hn => sampleCap (List.mem_of_mem_filter hn) s _ _) s).trans
    (.each _ (fun s _ hn => sampleTrend (List.mem_of_mem_filter hn) s _ _) _)

end Samples

end Sys2Proof.Machine
end

section
/-!
SUPPORT. What happens at a phase of the tick (02 R58): the tick operands (10 R291), the rainflow counters (15 R401), a hold at the
apply deadline (02 R63, R64).
-/
namespace Sys2Proof.Machine
open Sys2Proof

/-! The tick operands. -/

theorem setPort_touch {s : State} {n p : Nat} (kind : s.portKind n p = 1) (l : List Operand) : Touches [.disp] [] s (s.setPort n p l) := by
  rw [State.setPort, if_neg (by rw [kind]; decide)]
  exact touch_updThread s n _

theorem tickOperands_moves (s : State) (phase : Nat) : Moves [.disp, .hub] [A.DISP_CNT] [FS.DISP_TICK_MISS] s (s.tickOperands phase) := by
  refine Moves.each _ (fun s n _ => Moves.each _ (fun s p _ => Moves.ite (fun tick => ?_) fun _ => .refl s _ _ _) s) s
  have posted : Moves [.disp, .hub] [A.DISP_CNT] [FS.DISP_TICK_MISS] s (s.setPort n p [s.operand (BitVec.ofNat 32 s.tickNo)]) :=
    .part (setPort_touch tick.1 _) (by decide) (by simp)
  exact .ite (fun _ => (posted.trans (.bump _ _ (by simp))).trans (.raises _ (by simp) (by simp))) fun _ => posted

/-! The rainflow counters. -/

/-- The registers that the rainflow counters write. -/
def rainRegs : List Nat := (List.range 4).map A.LIFE_W_DAMAGE ++ (List.range 4).map A.LIFE_W_STAT ++
  ((List.range 4).map (fun n => (List.range 16).map (A.LIFE_RF n))).flatten

/-- A temperature sample is counted, or a part of that done. -/
def Rains (s t : State) : Prop := Moves [.life, .hub] rainRegs [FS.LIFE_SEMI] s t

namespace Rains

theorem refl (s : State) : Rains s s := Moves.refl _ _ _ _

theorem updSwitchLife (s : State) (n : Nat) (g : SwitchLife → SwitchLife) : Rains s (s.updSwitchLife n g) :=
  .part (touch_life s _) (by decide) (by simp)

section
variable {n : Nat} (switch : n ∈ List.range 4)
include switch

theorem damage_mem : A.LIFE_W_DAMAGE n ∈ rainRegs := by
  have := List.mem_map_of_mem (f := A.LIFE_W_DAMAGE) switch
  simp only [rainRegs, List.mem_append, this, true_or]

theorem stat_mem : A.LIFE_W_STAT n ∈ rainRegs := by
  have := List.mem_map_of_mem (f := A.LIFE_W_STAT) switch
  simp only [rainRegs, List.mem_append, this, true_or, or_true]

theorem count_mem {b : Nat} (h : b < 16) : A.LIFE_RF n b ∈ rainRegs :=
  List.mem_append_right _ (List.mem_flatten.mpr ⟨_, List.mem_map_of_mem switch, List.mem_map_of_mem (List.mem_range.mpr h)⟩)

theorem countCycle (s : State) (range halves : Nat) : Rains s (s.countCycle n range halves) :=
  ((Moves.bumpBy s (F.LIFE_RF_COUNT n _) _ (count_mem switch (by omega))).trans (updSwitchLife _ _ _)).trans
    (.bumpBy _ (F.LIFE_W_DAMAGE_DAMAGE n) _ (damage_mem switch))

theorem turningPoint (s : State) (v : Int) : Rains s (s.turningPoint n v) := by
  have dropped (range : Nat) (g : SwitchLife → SwitchLife) :
      Rains s (((s.countCycle n range 1).bump (F.LIFE_W_STAT_RF_OVF n)).updSwitchLife n g) :=
    ((countCycle switch s range 1).trans (.bump _ _ (stat_mem switch))).trans (updSwitchLife _ _ _)
  have counted (u : State) (rs : List Nat) : Rains u (u.each rs (fun s r => s.countCycle n r 2)) :=
    Moves.each _ (fun s r _ => countCycle switch s r 2) u
  unfold State.turningPoint
  dsimp only
  generalize fourPoint 32 _ = rule
  exact (Moves.trans (.ite (fun _ => dropped _ _) fun _ => refl s) (counted _ _)).trans (updSwitchLife _ _ _)

theorem rainflowSample (s : State) (v : Int) : Rains s (s.rainflowSample n v) :=
  .ite (fun _ => updSwitchLife s _ _) fun _ => .ite (fun _ => (turningPoint switch s _).trans (updSwitchLife _ _ _)) fun _ =>
    .ite (fun _ => (turningPoint switch s _).trans (updSwitchLife _ _ _)) fun _ => updSwitchLife s _ _

theorem switchFlags (s : State) : Rains s (s.switchFlags n) :=
  (((Moves.setF s _ _ (stat_mem switch)).trans (.setF _ _ _ (stat_mem switch))).trans (.part (touch_life _ _) (by decide) (by simp))).trans
    (.raisesIf _ _ (by simp) (by simp))

end

theorem rainflow (s : State) : Rains s s.rainflow :=
  .ite (fun _ => refl s) fun _ => .each _ (fun s _ hn =>
    .ite (fun _ => (rainflowSample hn s _).trans (switchFlags hn _)) fun _ => refl s) s

end Rains

end Sys2Proof.Machine
end

section
/-!
SUPPORT. The apply deadline (02 R58, R63, R64): a tick held, the hold limit reached, and what else the deadline does.
-/
namespace Sys2Proof.Machine
open Sys2Proof

theorem clkOver_touch (s : State) (c : Nat) : Touches [.clk] [] s (s.clkOver c) := reachTime_touch s _

/-! HOLD_LIMIT reached (R64). -/

/-- The reach of HOLD_LIMIT is noted. -/
def State.limitNoted (s : State) : State := { (s.setF F.SYS_STATE_BLK_HOLD 1).raise FS.HOLD_LIMIT_REACHED with node.blkClean := 0 }

theorem holdLimit_eq (s : State) : s.holdLimit = s.limitNoted.go ST.BLOCKED := rfl

/-- A read after BLK_HOLD is set. -/
theorem limitNoted_f (s : State) (x : Fld) : s.limitNoted.f x = (s.setF F.SYS_STATE_BLK_HOLD 1).f x := by
  have rest : Moves [.node, .hub] [] [FS.HOLD_LIMIT_REACHED] (s.setF F.SYS_STATE_BLK_HOLD 1) s.limitNoted :=
    (Moves.raises _ (by simp) (by simp)).trans (.part (touch_node _ _) (by decide) (by simp))
  exact rest.1.f (by simp)

theorem limitNoted_st (s : State) : s.limitNoted.st = s.st := by
  rw [State.st, limitNoted_f, s.f_setF_apart _ _ _ (by decide) (by decide) (by decide), State.st]

theorem limitNoted_blkHold (s : State) : s.limitNoted.f F.SYS_STATE_BLK_HOLD = 1 := by
  rw [limitNoted_f, s.f_setF_same _ _ (by decide)]
  rfl

theorem limitNoted_moves (s : State) : Moves [.node, .hub] [A.SYS_STATE] [FS.HOLD_LIMIT_REACHED] s s.limitNoted :=
  ((Moves.setF s _ _ (by simp)).trans (.raises _ (by simp) (by simp))).trans (.part (touch_node _ _) (by decide) (by simp))

/-- The sources of a hold limit reached. -/
def limitSources : List Nat := [FS.HOLD_LIMIT_REACHED, FS.SEG_DROP]

section
variable {s : State} (free : s.st ≠ ST.BLOCKED)
include free

theorem limitNoted_free : s.limitNoted.st ≠ ST.BLOCKED := by rw [limitNoted_st]; exact free

theorem holdLimit_moves : Moves goParts goRegs limitSources s s.holdLimit :=
  ((limitNoted_moves s).mono (by decide) (by simp [goRegs]) (by decide)).andThen (go_moves (limitNoted_free free)) (by simp) (by simp)
    (by decide)

theorem holdLimit_st : s.holdLimit.st = ST.BLOCKED := go_st (limitNoted_free free) (by decide)

theorem holdLimit_blkHold : s.holdLimit.on F.SYS_STATE_BLK_HOLD = true := by
  rw [State.on, holdLimit_eq, go_blkHold (limitNoted_free free), limitNoted_blkHold]
  rfl

theorem holdLimit_raised : FS.HOLD_LIMIT_REACHED ∈ s.holdLimit.hub.raised :=
  (go_moves (limitNoted_free free)).raised (List.mem_append_right _ (List.mem_singleton.mpr rfl))

end

theorem free_of_yarState {s : State} (h : yarState s.st = true) : s.st ≠ ST.BLOCKED := by
  intro blocked
  rw [blocked] at h
  exact absurd h (by decide)

/-! A hold (R63). -/

/-- The hold is counted and shown; the decision that stood to be applied is dropped. -/
def State.holdNoted (s : State) : State :=
  ((({ s.setF F.TICK_HOLD_HOLD_CNT (min 64 (s.f F.TICK_HOLD_HOLD_CNT + 1)) with yar.pend := none } : State).raiseIf
    (s.f F.TICK_HOLD_HOLD_CNT == 0) FS.DOWN_HOLD).setF F.YAR_DEC0_HELD 1)

theorem holdTick_eq (s : State) : s.holdTick = if s.holdNoted.f F.TICK_HOLD_HOLD_LIMIT ≤ s.holdNoted.f F.TICK_HOLD_HOLD_CNT then
    s.holdNoted.holdLimit else if s.holdNoted.st = ST.RUN then s.holdNoted.enter ST.HOLD else s.holdNoted := rfl

theorem holdNoted_moves (s : State) : Moves [.yar, .hub] [A.TICK_HOLD, A.YAR_DEC0] [FS.DOWN_HOLD] s s.holdNoted :=
  (((Moves.setF s _ _ (by decide)).trans (.part (touch_yar _ _) (by decide) (by decide))).trans (.raisesIf _ _ (by decide) (by decide))).trans
    (.setF _ _ _ (by decide))

theorem raiseIf_raised (s : State) (n : Nat) : n ∈ (s.raiseIf true n).hub.raised := List.mem_append_right _ (List.mem_singleton.mpr rfl)

/-- The first hold of a row is raised. -/
theorem holdNoted_first {s : State} (first : s.f F.TICK_HOLD_HOLD_CNT = 0) : FS.DOWN_HOLD ∈ s.holdNoted.hub.raised := by
  rw [State.holdNoted, State.setF_hub, first]
  exact raiseIf_raised _ _

theorem holdNoted_held (s : State) : s.holdNoted.f F.YAR_DEC0_HELD = 1 := by
  rw [State.holdNoted, State.f_setF_same _ _ _ (by decide)]
  rfl

/-- A read of TICK_HOLD after the count is written. -/
theorem holdNoted_tickHold (s : State) {x : Fld} (at_hold : x.addr = A.TICK_HOLD) :
    s.holdNoted.f x = (s.setF F.TICK_HOLD_HOLD_CNT (min 64 (s.f F.TICK_HOLD_HOLD_CNT + 1))).f x := by
  have rest : Moves [.yar, .hub] [A.YAR_DEC0] [FS.DOWN_HOLD] (s.setF F.TICK_HOLD_HOLD_CNT (min 64 (s.f F.TICK_HOLD_HOLD_CNT + 1))) s.holdNoted :=
    ((Moves.part (touch_yar _ _) (by decide) (by decide)).trans (.raisesIf _ _ (by decide) (by decide))).trans (.setF _ _ _ (by decide))
  exact rest.1.f (by rw [at_hold]; decide)

theorem holdNoted_count (s : State) : s.holdNoted.f F.TICK_HOLD_HOLD_CNT = min 64 (s.f F.TICK_HOLD_HOLD_CNT + 1) := by
  rw [holdNoted_tickHold s rfl, s.f_setF_same _ _ (by decide)]
  exact Nat.mod_eq_of_lt (by simp only; omega)

theorem holdNoted_limit (s : State) : s.holdNoted.f F.TICK_HOLD_HOLD_LIMIT = s.f F.TICK_HOLD_HOLD_LIMIT := by
  rw [holdNoted_tickHold s rfl, s.f_setF_apart _ _ _ (by decide) (by decide) (by decide)]

theorem holdNoted_st (s : State) : s.holdNoted.st = s.st := (holdNoted_moves s).1.f (by decide)

/-- The sources of a hold. -/
def holdSources : List Nat := FS.DOWN_HOLD :: limitSources

section
variable {s : State} (yar : yarState s.st = true)
include yar

theorem holdNoted_free : s.holdNoted.st ≠ ST.BLOCKED := by rw [holdNoted_st]; exact free_of_yarState yar

/-- What follows the count of a hold: BLOCKED at the limit, else HOLD. -/
theorem holdTick_after : Moves goParts goRegs limitSources s.holdNoted s.holdTick := by
  rw [holdTick_eq]
  exact .ite (fun _ => holdLimit_moves (holdNoted_free yar)) fun _ =>
    .ite (fun _ => (enter_moves _ _).mono (by simp) (by simp) (by decide)) fun _ => .refl _ _ _ _

theorem holdTick_moves : Moves goParts (A.TICK_HOLD :: A.YAR_DEC0 :: goRegs) holdSources s s.holdTick :=
  ((holdNoted_moves s).mono (by decide) (by simp) (by decide)).andThen (holdTick_after yar) (by simp)
    (fun _ h => List.mem_cons_of_mem _ (List.mem_cons_of_mem _ h)) (by decide)

theorem holdTick_held : s.holdTick.on F.YAR_DEC0_HELD = true := by
  rw [State.on, (holdTick_after yar).1.f (by decide +kernel), holdNoted_held]
  rfl

theorem holdTick_count : s.holdTick.f F.TICK_HOLD_HOLD_CNT = min 64 (s.f F.TICK_HOLD_HOLD_CNT + 1) :=
  ((holdTick_after yar).1.f (by decide +kernel)).trans (holdNoted_count s)

theorem holdTick_first (first : s.f F.TICK_HOLD_HOLD_CNT = 0) : FS.DOWN_HOLD ∈ s.holdTick.hub.raised :=
  (holdTick_after yar).raised (holdNoted_first first)

theorem holdTick_st : s.holdTick.st = if s.f F.TICK_HOLD_HOLD_LIMIT ≤ min 64 (s.f F.TICK_HOLD_HOLD_CNT + 1) then ST.BLOCKED else ST.HOLD := by
  rw [holdTick_eq, holdNoted_count, holdNoted_limit]
  split
  · exact holdLimit_st (holdNoted_free yar)
  · split
    · exact enter_st _ (by decide)
    · next notRun =>
      rw [holdNoted_st] at notRun ⊢
      simpa [yarState, notRun] using yar

end

theorem holdTick_unpended (s : State) : s.holdTick.unpended := by
  have dropped : ({ s.setF F.TICK_HOLD_HOLD_CNT (min 64 (s.f F.TICK_HOLD_HOLD_CNT + 1)) with yar.pend := none } : State).unpended := rfl
  have rest : Moves [.hub] [A.YAR_DEC0] [FS.DOWN_HOLD]
      { s.setF F.TICK_HOLD_HOLD_CNT (min 64 (s.f F.TICK_HOLD_HOLD_CNT + 1)) with yar.pend := none } s.holdNoted :=
    (Moves.raisesIf _ _ (by decide) (by decide)).trans (.setF _ _ _ (by decide))
  have noted : s.holdNoted.unpended := dropped.moves rest (by decide)
  rw [holdTick_eq]
  split
  · exact (noted.moves (limitNoted_moves _) (by decide)).go _
  · split
    · exact noted.moves (.of_touches (touch_enter _ _) (by decide) []) (by decide)
    · exact noted

end Sys2Proof.Machine
end

section
/-!
SUPPORT. APPLY of a tick (02 R58, R63, R64).
-/
namespace Sys2Proof.Machine
open Sys2Proof

/-! What reaching a phase leaves. -/

/-- The part reaches a phase and posts its tick operands. -/
def State.atPhase (s : State) (c phase : Nat) : State := (s.reachPhase c).tickOperands phase

theorem reachPhase_touch (s : State) (c : Nat) : Touches [.clk] [] s (s.reachPhase c) := reachTime_touch s _

theorem atPhase_eq (s : State) (c phase : Nat) : (s.reachPhase c).tickOperands phase = s.atPhase c phase := rfl

theorem atPhase_moves (s : State) (c phase : Nat) : Moves [.clk, .disp, .hub] [A.DISP_CNT] [FS.DISP_TICK_MISS] s (s.atPhase c phase) :=
  ((Moves.of_touches (reachPhase_touch s c) (by simp) []).mono (by simp) (by simp) (by simp)).andThen (tickOperands_moves _ phase)
    (by simp) (by simp) (by simp)

theorem atPhase_clk (s : State) (c phase : Nat) : (s.atPhase c phase).clk = (s.reachPhase c).clk :=
  (tickOperands_moves (s.reachPhase c) phase).1.1 .clk (by simp)

theorem atPhase_now (s : State) (c phase : Nat) : (s.atPhase c phase).now = (s.reachPhase c).now := by rw [State.now, atPhase_clk, State.now]

theorem atPhase_child (s : State) (c phase : Nat) : (s.atPhase c phase).child = s.child := (atPhase_moves s c phase).1.child (by simp)

/-- A frame that leaves the role's strap keeps the role. -/
theorem Touches.role {ps : List Part} {l : List Nat} {s t : State} (h : Touches ps l s t) (hl : A.SYS_ID ∉ l) : t.role = s.role := h.f hl

theorem Touches.isFloret {ps : List Part} {l : List Nat} {s t : State} (h : Touches ps l s t) (hl : A.SYS_ID ∉ l) :
    t.isFloret = s.isFloret := by rw [State.isFloret, h.role hl, State.isFloret]
theorem Touches.isUmbel {ps : List Part} {l : List Nat} {s t : State} (h : Touches ps l s t) (hl : A.SYS_ID ∉ l) :
    t.isUmbel = s.isUmbel := by rw [State.isUmbel, h.role hl, State.isUmbel]
theorem Touches.isMeadow {ps : List Part} {l : List Nat} {s t : State} (h : Touches ps l s t) (hl : A.SYS_ID ∉ l) :
    t.isMeadow = s.isMeadow := by rw [State.isMeadow, h.role hl, State.isMeadow]

/-! APPLY. -/

/-- The part at APPLY: operands posted, samples taken. -/
def State.atApply (s : State) : State := (s.atPhase (s.clk.tickLen - 100) 6).sampleTick

theorem atApply_eq (s : State) : ((s.reachPhase (s.clk.tickLen - 100)).tickOperands 6).sampleTick = s.atApply := rfl

theorem atApply_moves (s : State) :
    Moves ([.clk, .disp] ++ sampleParts) (A.DISP_CNT :: sampleRegs) (FS.DISP_TICK_MISS :: sampleSources) s s.atApply :=
  ((atPhase_moves s _ 6).mono (by decide) (by simp) (by simp)).andThen (Samples.sampleTick _) (fun _ => List.mem_append_right _)
    (fun _ => List.mem_cons_of_mem _) (fun _ => List.mem_cons_of_mem _)

theorem atApply_clk (s : State) : s.atApply.clk = (s.reachPhase (s.clk.tickLen - 100)).clk := by
  have sampled : s.atApply.clk = (s.atPhase (s.clk.tickLen - 100) 6).clk := (Samples.sampleTick _).1.1 .clk (by decide)
  rw [sampled, atPhase_clk]

theorem atApply_child (s : State) : s.atApply.child = s.child := (atApply_moves s).1.1 .child (by decide)

/-- The state in which the deadline's decision falls. -/
def State.atDeadline (s : State) : State := s.atApply.closeTick.rainflow

section
variable {s : State} (falls : s.phaseFalls (s.clk.tickLen - 100) = true)
include falls

/-- A node that is no Floret posts the operands and samples. -/
theorem onApply_other (other : s.isFloret = false) : onApply s = s.atApply := by
  have role : s.atApply.isFloret = false := ((atApply_moves s).1.isFloret (by decide +kernel)).trans other
  simp only [onApply, falls, State.when, if_true, atApply_eq, role, Bool.not_false, true_or, or_true]

/-- A Floret whose tick is not closed meets its deadline. -/
theorem onApply_floret (floret : s.isFloret = true) (opened : s.child.closed = false) :
    onApply s = s.atDeadline.applyDeadline.clkOver (s.clk.tickLen - 100) := by
  have role : s.atApply.isFloret = true := ((atApply_moves s).1.isFloret (by decide +kernel)).trans floret
  have child : s.atApply.child.closed = false := by rw [atApply_child]; exact opened
  simp only [onApply, falls, State.when, if_true, atApply_eq, role, child, Bool.not_true, Bool.false_eq_true, or_self, if_false,
    State.atDeadline]

end

/-- The parts and registers that may have changed by then. -/
def deadlineParts : List Part := [.clk, .disp] ++ sampleParts ++ [.child, .life]
def deadlineRegs : List Nat := (A.DISP_CNT :: sampleRegs) ++ rainRegs

theorem atDeadline_touch (s : State) : Touches deadlineParts deadlineRegs s s.atDeadline :=
  (((atApply_moves s).1.mono (by decide) (fun _ => List.mem_append_left _)).then (touch_child _ _) (by decide) (by simp)).then
    (Rains.rainflow _).1 (by decide) (fun _ => List.mem_append_right _)

theorem atDeadline_child (s : State) : s.atDeadline.child = s.atApply.closeTick.child := (Rains.rainflow _).1.child (by decide)

theorem atDeadline_closed (s : State) : s.atDeadline.child.closed = true := by
  rw [atDeadline_child]
  rfl

theorem atDeadline_obeyed (s : State) : s.atDeadline.child.obeyed = s.child.obeyed := by
  rw [atDeadline_child, State.closeTick, atApply_child]

theorem atDeadline_farOff (s : State) : s.atDeadline.clk.farOff = s.clk.farOff := by
  have rained : s.atDeadline.clk = s.atApply.closeTick.clk := (Rains.rainflow s.atApply.closeTick).1.1 .clk (by decide)
  rw [rained, State.closeTick, atApply_clk]
  exact reachTime_keeps Clk.farOff (fun _ _ _ _ _ => rfl) s _

theorem tickHold_notMem_deadlineRegs : A.TICK_HOLD ∉ deadlineRegs := by decide +kernel

theorem atDeadline_st (s : State) : s.atDeadline.st = s.st := (atDeadline_touch s).f (by decide +kernel)
theorem atDeadline_count (s : State) : s.atDeadline.f F.TICK_HOLD_HOLD_CNT = s.f F.TICK_HOLD_HOLD_CNT :=
  (atDeadline_touch s).f tickHold_notMem_deadlineRegs
theorem atDeadline_limit (s : State) : s.atDeadline.f F.TICK_HOLD_HOLD_LIMIT = s.f F.TICK_HOLD_HOLD_LIMIT :=
  (atDeadline_touch s).f tickHold_notMem_deadlineRegs

/-- No frame obeyed: the tick is held. -/
theorem applyDeadline_hold {s : State} (yar : yarState s.st = true) (none : s.child.obeyed = none) : s.applyDeadline = s.holdTick := by
  rw [State.applyDeadline, yar, none]
  rfl

/-- A frame obeyed without HOLD, no step of the frequency: the tick is not held. -/
theorem applyDeadline_obeyed {s : State} {x : Nat × List Byte} (obeyed : s.child.obeyed = some x) (free : (parseDown x.2).hold = false)
    (near : s.clk.farOff = false) : s.applyDeadline = s.setF F.YAR_DEC0_HELD 0 := by
  have released : s.obeyedHold = false := by rw [State.obeyedHold, obeyed]; exact free
  rw [State.applyDeadline, obeyed, released, near]
  exact if_neg (by simp)

end Sys2Proof.Machine
end

section
/-!
SUPPORT. The clauses of the apply deadline and of HOLD_LIMIT reached (02 R63, R64).
-/
namespace Sys2Proof.Machine
open Sys2Proof

/-- All that the apply deadline of a Floret may write. -/
def applyRegs : List Nat := [A.DISP_CNT, A.TICK_HOLD, A.YAR_DEC0] ++ (List.range 4).map A.LIFE_W_DAMAGE ++ (List.range 4).map A.LIFE_W_STAT ++
  ((List.range 4).map (fun n => (List.range 16).map (A.LIFE_RF n))).flatten ++ sampleRegs ++ goRegs

theorem deadlineRegs_applyRegs {a : Nat} (h : a ∈ deadlineRegs) : a ∈ applyRegs := by
  simp only [deadlineRegs, rainRegs, applyRegs, List.mem_append, List.mem_cons] at h ⊢
  tauto

theorem holdRegs_applyRegs {a : Nat} (h : a ∈ A.TICK_HOLD :: A.YAR_DEC0 :: goRegs) : a ∈ applyRegs := by
  simp only [applyRegs, List.mem_append, List.mem_cons] at h ⊢
  tauto

section
variable {s : State} (on : s.running = true) (floret : s.isFloret = true) (opened : s.child.closed = false)
  (falls : s.phaseFalls (s.clk.tickLen - 100) = true)
include on floret opened falls

/-- A Floret that obeyed no frame holds (R63, R64). -/
theorem apply_holds (yar : yarState s.st = true) (unobeyed : s.child.obeyed = none) :
    ∃ t : State, exec .apply s = .next t.wrapUp ∧ t.child.closed = true ∧ t.on F.YAR_DEC0_HELD = true ∧ t.yar.pend = none ∧
      t.f F.TICK_HOLD_HOLD_CNT = min 64 (s.f F.TICK_HOLD_HOLD_CNT + 1) ∧
      t.st = (if s.f F.TICK_HOLD_HOLD_LIMIT ≤ min 64 (s.f F.TICK_HOLD_HOLD_CNT + 1) then ST.BLOCKED else ST.HOLD) ∧
      (s.f F.TICK_HOLD_HOLD_CNT = 0 → FS.DOWN_HOLD ∈ t.hub.raised) ∧
      Touches ([.disp, .child, .life] ++ sampleParts ++ goParts) applyRegs s t := by
  have yar' : yarState s.atDeadline.st = true := by rw [atDeadline_st]; exact yar
  have holds : onApply s = s.atDeadline.holdTick.clkOver (s.clk.tickLen - 100) := by
    rw [onApply_floret falls floret opened, applyDeadline_hold yar' ((atDeadline_obeyed s).trans unobeyed)]
  have held := holdTick_moves yar'
  have later := clkOver_touch s.atDeadline.holdTick (s.clk.tickLen - 100)
  refine ⟨_, runEvent_of_eq on holds, ?child, ?held, ?pend, ?count, ?st, ?first, ?frame⟩
  case child => rw [later.child (by decide), held.1.child (by decide), atDeadline_closed]
  case held => rw [State.on, later.f (by simp)]; exact holdTick_held yar'
  case pend => rw [later.yar (by decide)]; exact holdTick_unpended _
  case count => rw [later.f (by simp), holdTick_count yar', atDeadline_count]
  case st => rw [State.st, later.f (by simp), ← atDeadline_count s, ← atDeadline_limit s]; exact holdTick_st yar'
  case first =>
    intro first
    rw [later.hub (by decide)]
    exact holdTick_first yar' (by rw [atDeadline_count]; exact first)
  case frame =>
    exact (((atDeadline_touch s).mono (by decide) (fun _ => deadlineRegs_applyRegs)).then held.1 (by decide)
      (fun _ => holdRegs_applyRegs)).then later (by decide) (by simp)

/-- A Floret that obeyed a frame without HOLD does not hold (R63). -/
theorem apply_obeys {x : Nat × List Byte} (obeyed : s.child.obeyed = some x) (free : (parseDown x.2).hold = false) (near : s.clk.farOff = false) :
    ∃ t : State, exec .apply s = .next t.wrapUp ∧ t.child.closed = true ∧ t.on F.YAR_DEC0_HELD = false ∧ t.st = s.st ∧
      t.f F.TICK_HOLD_HOLD_CNT = s.f F.TICK_HOLD_HOLD_CNT := by
  have near' : s.atDeadline.clk.farOff = false := by rw [atDeadline_farOff]; exact near
  have obeys : onApply s = (s.atDeadline.setF F.YAR_DEC0_HELD 0).clkOver (s.clk.tickLen - 100) := by
    rw [onApply_floret falls floret opened, applyDeadline_obeyed ((atDeadline_obeyed s).trans obeyed) free near']
  have later := clkOver_touch (s.atDeadline.setF F.YAR_DEC0_HELD 0) (s.clk.tickLen - 100)
  have shown := touch_setF s.atDeadline F.YAR_DEC0_HELD 0
  refine ⟨_, runEvent_of_eq on obeys, ?child, ?held, ?st, ?count⟩
  case child => rw [later.child (by decide), shown.child (by decide), atDeadline_closed]
  case held =>
    rw [State.on, later.f (by simp), State.f_setF_same _ _ _ (by decide)]
    rfl
  case st => rw [State.st, later.f (by simp), shown.f (by decide)]; exact atDeadline_st s
  case count => rw [later.f (by simp), shown.f (by decide), atDeadline_count]

end

theorem holdLimitReached_blocks {s : State} (on : s.running = true) (floret : s.isFloret = true) (yar : yarState s.st = true)
    (reached : s.f F.TICK_HOLD_HOLD_LIMIT ≤ s.f F.TICK_HOLD_HOLD_CNT) :
    ∃ t : State, exec .holdLimitReached s = .next t.wrapUp ∧ t.st = ST.BLOCKED ∧ t.on F.SYS_STATE_BLK_HOLD = true ∧
      FS.HOLD_LIMIT_REACHED ∈ t.hub.raised ∧ Touches goParts goRegs s t := by
  have free := free_of_yarState yar
  exact ⟨_, runEvent_of_eq on (if_pos ⟨floret, yar, reached⟩), holdLimit_st free, holdLimit_blkHold free, holdLimit_raised free,
    (holdLimit_moves free).1⟩

theorem onHoldLimitReached_below {s : State} (h : s.isFloret = false ∨ yarState s.st = false ∨ s.f F.TICK_HOLD_HOLD_CNT < s.f F.TICK_HOLD_HOLD_LIMIT) :
    onHoldLimitReached s = s := by
  refine if_neg ?_
  rintro ⟨floret, yar, reached⟩
  rcases h with h | h | h
  · exact absurd (floret.symm.trans h) (by decide)
  · exact absurd (yar.symm.trans h) (by decide)
  · omega

end Sys2Proof.Machine
end

section
/-!
SUPPORT. DOWN of a tick (02 R58, 05 R162, 14 R388).
-/
namespace Sys2Proof.Machine
open Sys2Proof

/-! A pass over a list, and what one of its elements sets. -/

/-- What an element sets, and every element keeps, holds after the pass, under what every element keeps. -/
theorem State.each_sets {α : Type} (P Q : State → Prop) {l : List α} {x : α} (hx : x ∈ l) (g : State → α → State)
    (inv : ∀ s, ∀ y ∈ l, P s → P (g s y)) (set : ∀ s, P s → Q (g s x)) (keep : ∀ s, ∀ y ∈ l, P s → Q s → Q (g s y)) (s : State) (h : P s) :
    Q (s.each l g) := by
  induction l generalizing s with
  | nil => cases hx
  | cons y l ih =>
    have inv' (s) (y) (hy : y ∈ l) := inv s y (List.mem_cons_of_mem _ hy)
    have keep' (s) (y) (hy : y ∈ l) := keep s y (List.mem_cons_of_mem _ hy)
    rcases List.mem_cons.mp hx with rfl | hx
    · exact (State.each_keeps_mem (fun s => P s ∧ Q s) l g (fun s y hy h => ⟨inv' s y hy h.1, keep' s y hy h.1 h.2⟩) _
        ⟨inv s x List.mem_cons_self h, set s h⟩).2
    · exact ih hx inv' keep' _ (inv s y List.mem_cons_self h)

/-- A frame that leaves the lanes' uses keeps the units. -/
theorem Touches.childUnits {ps : List Part} {l : List Nat} {s t : State} (h : Touches ps l s t) (hl : ∀ n ∈ laneNumbers, A.CMD_DL n ∉ l) :
    t.units = s.units := by
  refine List.filter_congr fun n hn => ?_
  have use : t.use n = s.use n := h.f (hl n hn)
  rw [use]

theorem Touches.unit {ps : List Part} {l : List Nat} {s t : State} (h : Touches ps l s t) (hu : .units ∉ ps) (n : Nat) : t.unit n = s.unit n := by
  rw [State.unit, State.unit, h.units hu]

/-! An Umbel that obeyed no frame (05 R162). -/

/-- A unit gets no cells, no threshold, no token. -/
def UnitSt.idle (u : UnitSt) : Prop := u.share = 0 ∧ u.thresh = 0 ∧ u.token = false ∧ u.frac = 0

theorem unsplit_moves (s : State) : Moves [.yar] [A.YAR_USTAT] [] s s.unsplit :=
  (((Moves.setF s _ _ (by simp)).trans (.setF _ _ _ (by simp))).trans (.setF _ _ _ (by simp))).trans (.part (touch_yar _ _) (by decide) (by simp))

/-- Every unit is to hold. -/
def State.unitsHeld (s : State) : State :=
  s.unsplit.each s.unsplit.units (fun s n => s.updUnit n (fun u =>
    { u with thresh := 0, dir := 0, share := 0, token := false, frac := 0, iarm := s.yar.iarm }))

theorem unitsHeld_moves (s : State) : Moves [.yar, .units] [A.YAR_USTAT] [] s s.unitsHeld :=
  ((unsplit_moves s).mono (by simp) (by simp) (by simp)).trans
    (.each _ (fun s n _ => .part (touch_updUnit s n _) (by decide) (by simp)) _)

theorem unitsHeld_idle {s : State} {n : Nat} (hn : n ∈ s.units) : (s.unitsHeld.unit n).idle := by
  have hn : n ∈ s.unsplit.units := by rw [(unsplit_moves s).1.childUnits (by decide +kernel)]; exact hn
  refine State.each_sets (fun _ => True) (fun s => (s.unit n).idle) hn _ (fun _ _ _ _ => trivial) (fun s _ => ?_) (fun s m _ _ h => ?_) _ trivial
  · rw [State.unit_updUnit_same]
    exact ⟨rfl, rfl, rfl, rfl⟩
  · by_cases e : n = m
    · subst e
      rw [State.unit_updUnit_same]
      exact ⟨rfl, rfl, rfl, rfl⟩
    · rw [State.unit_updUnit_ne _ _ e]
      exact h

/-- The down frames of this tick carry HOLD. -/
def State.holdOut (s : State) : State :=
  { s with yar.allHold := true, clk.allocAt := if s.clk.allocated then s.clk.allocAt else some s.clk.nowPs }

theorem holdOut_touch (s : State) : Touches [.yar, .clk] [] s s.holdOut :=
  ⟨fun p hp => by cases p <;> simp_all [Part.same, State.holdOut], fun _ _ => rfl⟩

theorem holdAll_eq (s : State) : s.holdAll = if s.unitsHeld.holdOut.st = ST.RUN then s.unitsHeld.holdOut.enter ST.HOLD else s.unitsHeld.holdOut := rfl

theorem holdOut_st (s : State) : s.unitsHeld.holdOut.st = s.st :=
  ((holdOut_touch _).f (by simp)).trans ((unitsHeld_moves s).1.f (by decide))

theorem enter_touch_or (s : State) : Touches [.node] [A.SYS_STATE] s (if s.st = ST.RUN then s.enter ST.HOLD else s) := by
  split
  · exact touch_enter s _
  · exact Touches.refl _ _ _

theorem holdOut_holdAll (s : State) : Touches [.node] [A.SYS_STATE] s.unitsHeld.holdOut s.holdAll := by
  rw [holdAll_eq]
  exact enter_touch_or _

theorem holdAll_touch (s : State) : Touches [.yar, .units, .clk, .node] [A.YAR_USTAT, A.SYS_STATE] s s.holdAll :=
  (((unitsHeld_moves s).1.mono (by decide) (by simp)).then (holdOut_touch _) (by decide) (by simp)).then (holdOut_holdAll s)
    (by decide) (by simp)

theorem holdAll_allHold (s : State) : s.holdAll.yar.allHold = true := by
  rw [(holdOut_holdAll s).yar (by decide)]
  rfl

theorem holdAll_idle {s : State} {n : Nat} (hn : n ∈ s.units) : (s.holdAll.unit n).idle := by
  rw [(holdOut_holdAll s).unit (by decide), (holdOut_touch _).unit (by decide)]
  exact unitsHeld_idle hn

theorem holdAll_st (s : State) : s.holdAll.st = if s.st = ST.RUN then ST.HOLD else s.st := by
  rw [holdAll_eq, holdOut_st]
  split
  · exact enter_st _ (by decide)
  · exact holdOut_st s

/-! DOWN. -/

theorem startSwap_moves (s : State) (cmd : Option Packet) (eject planned : Bool) :
    Moves [.twin] [A.TWIN_STAT] [] s (s.startSwap cmd eject planned) :=
  (Moves.setF s _ _ (by simp)).trans (.part (touch_twin _ _) (by decide) (by simp))

theorem uplinkHandover_moves (s : State) : Moves [.twin] [A.TWIN_STAT] [] s s.uplinkHandover := by
  have noted (u : State) (x : Twin) : Moves [.twin] [A.TWIN_STAT] [] u { u with twin := x } := .part (touch_twin u x) (by decide) (by simp)
  refine .ite (fun _ => .refl s _ _ _) fun _ => .ite (fun _ => .ite (fun _ => noted s _) fun _ => ?_) fun _ => noted s _
  exact (Moves.ite (fun _ => startSwap_moves s _ _ _) fun _ => .refl s _ _ _).trans (noted _ _)

section
variable {s : State} (falls : s.phaseFalls s.clk.phDown = true)
include falls

/-- An Umbel whose tick is open closes it, and sends HOLD when it obeyed no frame. -/
theorem onDown_umbel (umbel : s.isUmbel = true) (opened : s.child.closed = false) :
    onDown s = (if s.child.obeyed.isNone then (s.atPhase s.clk.phDown 5).closeTick.holdAll
      else (s.atPhase s.clk.phDown 5).closeTick).uplinkHandover.clkOver (s.atPhase s.clk.phDown 5).clk.phDown := by
  have role := ((atPhase_moves s s.clk.phDown 5).1.isUmbel (by decide)).trans umbel
  simp only [onDown, falls, State.when, if_true, atPhase_eq, atPhase_child, role, opened, Bool.not_true, Bool.false_eq_true, or_self,
    if_false, State.closeTick]

theorem onDown_other (other : s.isUmbel = false ∨ s.child.closed = true) : onDown s = s.atPhase s.clk.phDown 5 := by
  have role := (atPhase_moves s s.clk.phDown 5).1.isUmbel (by decide)
  have other : (!s.isUmbel) = true ∨ s.child.closed = true := by rwa [Bool.not_eq_true']
  simp only [onDown, falls, State.when, if_true, atPhase_eq, atPhase_child, role, other, or_true]

end

section
variable {s : State} (on : s.running = true) (falls : s.phaseFalls s.clk.phDown = true) (umbel : s.isUmbel = true)
  (opened : s.child.closed = false)
include on falls umbel opened

/-- An Umbel that obeyed no frame holds (R162). -/
theorem down_holds (unobeyed : s.child.obeyed = none) :
    ∃ t : State, exec .down s = .next t.wrapUp ∧ t.child.closed = true ∧ t.yar.allHold = true ∧ t.st = (if s.st = ST.RUN then ST.HOLD else s.st) ∧
      (∀ n, n ∈ s.units → (t.unit n).share = 0 ∧ (t.unit n).thresh = 0 ∧ (t.unit n).token = false ∧ (t.unit n).frac = 0) ∧
      Touches [.clk, .disp, .hub, .units, .yar, .node, .child, .twin] [A.DISP_CNT, A.SYS_STATE, A.TWIN_STAT, A.YAR_USTAT] s t := by
  have reached := (atPhase_moves s s.clk.phDown 5).1
  have closed := touch_child (s.atPhase s.clk.phDown 5) (s.atPhase s.clk.phDown 5).closeTick.child
  have open' : Touches [.clk, .disp, .hub, .child] [A.DISP_CNT] s (s.atPhase s.clk.phDown 5).closeTick :=
    (reached.mono (by simp) (by simp)).then closed (by simp) (by simp)
  have held := holdAll_touch (s.atPhase s.clk.phDown 5).closeTick
  have handed : Touches [.clk, .twin] [A.TWIN_STAT] (s.atPhase s.clk.phDown 5).closeTick.holdAll
      ((s.atPhase s.clk.phDown 5).closeTick.holdAll.uplinkHandover.clkOver (s.atPhase s.clk.phDown 5).clk.phDown) :=
    ((uplinkHandover_moves _).1.mono (by simp) (by simp)).then (clkOver_touch _ _) (by simp) (by simp)
  have holds := (onDown_umbel falls umbel opened).trans (by rw [unobeyed, Option.isNone_none, if_pos rfl])
  refine ⟨_, runEvent_of_eq on holds, ?closed, ?allHold, ?st, ?units, ?frame⟩
  case closed =>
    rw [handed.child (by decide), held.child (by decide)]
    rfl
  case allHold => rw [handed.yar (by decide), holdAll_allHold]
  case st =>
    have st : (s.atPhase s.clk.phDown 5).closeTick.st = s.st := open'.f (by decide)
    rw [State.st, handed.f (by decide), ← st]
    exact holdAll_st _
  case units =>
    intro n hn
    rw [handed.unit (by decide)]
    exact holdAll_idle (by rw [open'.childUnits (by decide +kernel)]; exact hn)
  case frame => exact ((open'.mono (by decide) (by decide)).then held (by decide) (by decide)).then handed (by decide) (by decide)

/-- An Umbel that obeyed a frame keeps its split. -/
theorem down_obeyed (obeyed : s.child.obeyed.isSome = true) :
    ∃ t : State, exec .down s = .next t.wrapUp ∧ t.child.closed = true ∧ Touches [.clk, .disp, .hub, .child, .twin] [A.DISP_CNT, A.TWIN_STAT] s t := by
  have unheld : ¬ s.child.obeyed.isNone = true := by rw [← Option.not_isSome, obeyed]; decide
  have handed : Touches [.clk, .twin] [A.TWIN_STAT] (s.atPhase s.clk.phDown 5).closeTick
      ((s.atPhase s.clk.phDown 5).closeTick.uplinkHandover.clkOver (s.atPhase s.clk.phDown 5).clk.phDown) :=
    ((uplinkHandover_moves _).1.mono (by simp) (by simp)).then (clkOver_touch _ _) (by simp) (by simp)
  refine ⟨_, runEvent_of_eq on ((onDown_umbel falls umbel opened).trans (by rw [if_neg unheld])), ?closed, ?frame⟩
  case closed =>
    rw [handed.child (by decide)]
    rfl
  case frame =>
    exact (((atPhase_moves s s.clk.phDown 5).1.mono (by decide) (by decide)).then (touch_child _ _) (by decide) (by simp)).then handed
      (by decide) (by decide)

end

end Sys2Proof.Machine
end

section
/-!
SUPPORT. ALLOCATION_COMPLETE (02 R58, R59): the down tick frames leave (03 R91, R92).
-/
namespace Sys2Proof.Machine
open Sys2Proof

/-! The bytes of a down tick frame (R91). -/

/-- The bytes before the share. -/
def DownFrame.front (d : DownFrame) : List Byte :=
  [0x11, BitVec.ofNat 8 (b2n d.active + 2 * b2n d.block + 4 * b2n d.hold + 8 * b2n d.sgr + 16 * b2n d.credit +
    32 * b2n d.slotOn + 64 * b2n d.trig)] ++ leBytes 2 d.epoch ++ leBytes 2 d.harebell ++ leBytes 2 (d.period % 2 ^ 15) ++
  leBytes 8 d.t1 ++ leBytes 3 d.delay ++ [BitVec.ofNat 8 (d.tfrac % 8 + 8 * (d.trigId % 16))] ++ leBytes 3 d.iarm ++
  [BitVec.ofNat 8 (d.thresh % 32 + 32 * (d.dir % 2) + 64 * b2n d.token)]

theorem DownFrame.front_length (d : DownFrame) : d.front.length = 24 := by simp [DownFrame.front]

theorem DownFrame.bytes_eq (d : DownFrame) :
    d.bytes = d.front ++ (leBytes 2 (d.share % 4096) ++ (leBytes 2 (d.frac % 4096) ++ d.slot ++ leBytes 4 (crc32 d.body))) := by
  simp only [DownFrame.bytes, DownFrame.body, DownFrame.front, List.append_assoc]

theorem DownFrame.bytes_length (d : DownFrame) : d.bytes.length = 32 + d.slot.length := by
  rw [DownFrame.bytes_eq]
  simp [DownFrame.front_length]
  omega

theorem DownFrame.numAt_share (d : DownFrame) : numAt d.bytes 24 2 = d.share % 4096 := by
  rw [DownFrame.bytes_eq, numAt_between d.front_length]
  omega

theorem slotBytes_length (b : List Byte) : (slotBytes b).length = 32 := by simp [slotBytes]

/-! A tick frame on a lane. -/

/-- The lane's tick frame is of the length of a down frame, and gives the share. -/
def Lane.carries (l : Lane) (share : Nat) : Prop := l.txFrame.length = 64 ∧ numAt l.txFrame 24 2 = share % 4096

theorem sendDownOn_touch (s : State) (n : Nat) (d : DownFrame) : Touches [.lanes] [] s (s.sendDownOn n d) :=
  (touch_updLane _ _ _).trans (touch_updLane _ _ _)

theorem sendUpOn_touch (s : State) (n : Nat) (u : UpFrame) : Touches [.lanes] [] s (s.sendUpOn n u) :=
  (touch_updLane _ _ _).trans (touch_updLane _ _ _)

theorem sendDownOn_carries (s : State) (n : Nat) {d : DownFrame} (slot : d.slot.length = 32) :
    ((s.sendDownOn n d).lane n).carries d.share := by
  unfold State.sendDownOn State.putFrame
  dsimp only
  rw [State.lane_updLane_same]
  exact ⟨by rw [DownFrame.bytes_length]; simp only; omega, DownFrame.numAt_share _⟩

theorem sendDownOn_lane_ne (s : State) {n l : Nat} (h : l ≠ n) (d : DownFrame) : (s.sendDownOn n d).lane l = s.lane l := by
  unfold State.sendDownOn State.putFrame
  dsimp only
  rw [State.lane_updLane_ne _ _ h, State.lane_updLane_ne _ _ h]

theorem sendDownOn_sends (s : State) (n l : Nat) (d : DownFrame) : ((s.sendDownOn n d).lane l).sends = (s.lane l).sends := by
  by_cases e : l = n
  · subst e
    unfold State.sendDownOn State.putFrame
    dsimp only
    rw [State.lane_updLane_same, State.lane_updLane_same]
  · rw [sendDownOn_lane_ne s e]

theorem downFields_share (s : State) (n : Nat) : (s.downFields n).share = (s.unit n).share := rfl
theorem downFields_slot (s : State) (n : Nat) : (s.downFields n).slot.length = 32 := slotBytes_length _

/-! The frames of a pass over the units. -/

/-- The frames of one unit leave on those of its lanes that are UP and have sent twice. -/
def State.sendUnit (s : State) (n : Nat) : State :=
  s.each ((s.unitLanes n).filter (fun l => s.laneUp l && (s.lane l).sends == 2)) (fun s l => s.sendDownOn l (s.downFields n))

theorem sendUnit_touch (s : State) (n : Nat) : Touches [.lanes] [] s (s.sendUnit n) :=
  Touches.each _ _ (fun s l _ => sendDownOn_touch s l _) s

theorem sendUnit_sends (s : State) (n l : Nat) : ((s.sendUnit n).lane l).sends = (s.lane l).sends :=
  State.each_keeps (fun u => (u.lane l).sends = (s.lane l).sends) _ _ (fun u m h => (sendDownOn_sends u m l _).trans h) s rfl

theorem sendUnit_lane_ne (s : State) {n l : Nat} (h : l ∉ s.unitLanes n) : (s.sendUnit n).lane l = s.lane l := by
  refine State.each_keeps_mem (fun u => u.lane l = s.lane l) _ _ (fun u m hm h' => ?_) s rfl
  have other : l ≠ m := fun e => h (e ▸ List.mem_of_mem_filter hm)
  rw [sendDownOn_lane_ne u other, h']

theorem sendUnit_carries (s : State) {n l : Nat} (hl : l ∈ s.unitLanes n) (up : s.laneUp l = true) (twice : (s.lane l).sends = 2) :
    ((s.sendUnit n).lane l).carries (s.unit n).share := by
  have listed : l ∈ (s.unitLanes n).filter (fun l => s.laneUp l && (s.lane l).sends == 2) := List.mem_filter.mpr ⟨hl, by simp [up, twice]⟩
  have sent (u : State) (touched : Touches [.lanes] [] s u) : ((u.sendDownOn l (u.downFields n)).lane l).carries (s.unit n).share := by
    rw [← touched.unit (by simp) n, ← downFields_share]
    exact sendDownOn_carries u l (downFields_slot u n)
  refine State.each_sets (Touches [.lanes] [] s) (fun u => (u.lane l).carries (s.unit n).share) listed _
    (fun u m _ h => h.trans (sendDownOn_touch u m _)) sent (fun u m _ touched h => ?_) s (Touches.refl _ _ _)
  by_cases e : l = m
  · subst e
    exact sent u touched
  · rw [sendDownOn_lane_ne u e]
    exact h

/-- A frame that leaves the lanes' uses and partners keeps a unit's lanes. -/
theorem Touches.unitLanes {ps : List Part} {s t : State} (h : Touches ps [] s t) (n : Nat) : t.unitLanes n = s.unitLanes n := by
  rw [State.unitLanes, State.unitLanes, State.use, State.use, h.f (by simp), h.f (by simp)]

theorem Touches.laneUp {ps : List Part} {s t : State} (h : Touches ps [] s t) (n : Nat) : t.laneUp n = s.laneUp n := by
  rw [State.laneUp, State.laneUp, State.laneSt, State.laneSt, h.f (by simp)]

/-- The frames of all units. -/
def State.sendUnits (s : State) : State := s.each s.units (fun s n => s.sendUnit n)

theorem sendUnits_touch (s : State) : Touches [.lanes] [] s s.sendUnits := Touches.each _ _ (fun s n _ => sendUnit_touch s n) s

theorem sendUnits_carries (s : State) {n l : Nat} (hn : n ∈ s.units) (hl : l ∈ s.unitLanes n)
    (own : ∀ m, m ∈ s.units → l ∈ s.unitLanes m → m = n) (up : s.laneUp l = true) (twice : (s.lane l).sends = 2) :
    (s.sendUnits.lane l).carries (s.unit n).share := by
  have sent (u : State) (h : Touches [.lanes] [] s u ∧ (u.lane l).sends = 2) : ((u.sendUnit n).lane l).carries (s.unit n).share := by
    rw [← h.1.unit (by simp) n]
    exact sendUnit_carries u (by rw [h.1.unitLanes]; exact hl) (by rw [h.1.laneUp]; exact up) h.2
  refine State.each_sets (fun u => Touches [.lanes] [] s u ∧ (u.lane l).sends = 2) (fun u => (u.lane l).carries (s.unit n).share) hn _
    (fun u m _ h => ⟨h.1.trans (sendUnit_touch u m), (sendUnit_sends u m l).trans h.2⟩) sent (fun u m hm h k => ?_) s
    ⟨Touches.refl _ _ _, twice⟩
  by_cases e : m = n
  · subst e
    exact sent u h
  · have other : l ∉ u.unitLanes m := by
      rw [h.1.unitLanes]
      exact fun k => e (own m hm k)
    rw [sendUnit_lane_ne u other]
    exact k

/-! ALLOCATION_COMPLETE. -/

theorem sendCross_touch (s : State) : Touches [.lanes, .twin] [] s s.sendCross := by
  unfold State.sendCross
  split
  · exact Touches.refl _ _ _
  · refine ((touch_twin s _).mono (by simp) (by simp)).then (Touches.each (ps := [.lanes]) (l := []) _ _ (fun u n _ => ?_) _) (by simp) (by simp)
    split
    · exact sendDownOn_touch _ _ _
    · exact sendUpOn_touch _ _ _

theorem sendCross_single {s : State} (single : s.isTwin = false) : s.sendCross = s := by
  rw [State.sendCross, single]
  rfl

/-- The allocation is over. -/
def State.allocDone (s : State) : State := { s with clk.allocAt := none, clk.allocated := true }

theorem allocDone_touch (s : State) : Touches [.clk] [] s s.allocDone := touch_clk s _
theorem allocDone_now (s : State) : s.allocDone.now = s.now := rfl
theorem allocDone_lane (s : State) (n : Nat) : s.allocDone.lane n = s.lane n := rfl

theorem onAllocationComplete_pending {s : State} {t : Nat} (at_t : s.clk.allocAt = some t) :
    onAllocationComplete s = (s.reachNow (t / 1000 + 80)).sendUnits.sendCross.allocDone := by
  simp only [onAllocationComplete, at_t, State.sendUnits, State.sendUnit, State.allocDone]

/-- A frame that leaves the strap and the twin bit keeps the membership of a twin pair. -/
theorem Touches.isTwin {ps : List Part} {s t : State} (h : Touches ps [] s t) : t.isTwin = s.isTwin := by
  rw [State.isTwin, State.isTwin, h.isMeadow (by simp), h.isUmbel (by simp), State.on, State.on, h.f (by simp)]

theorem allocationComplete_sends {s : State} (on : s.running = true) {t0 : Nat} (at_t : s.clk.allocAt = some t0) :
    ∃ t : State, exec .allocationComplete s = .next t.wrapUp ∧ t.clk.allocAt = none ∧ t.clk.allocated = true ∧ t0 / 1000 + 80 ≤ t.now ∧
      (s.isTwin = false → ∀ n l, n ∈ s.units → l ∈ s.unitLanes n → (∀ m, m ∈ s.units → l ∈ s.unitLanes m → m = n) → s.laneUp l = true →
        (s.lane l).sends = 2 → (t.lane l).txFrame.length = 64 ∧ numAt (t.lane l).txFrame 24 2 = (s.unit n).share % 4096) ∧
      Touches [.clk, .lanes, .twin] [] s t := by
  have reached := reachNow_touch s (t0 / 1000 + 80)
  have sent := sendUnits_touch (s.reachNow (t0 / 1000 + 80))
  have crossed := sendCross_touch (s.reachNow (t0 / 1000 + 80)).sendUnits
  refine ⟨_, runEvent_of_eq on (onAllocationComplete_pending at_t), rfl, rfl, ?now, ?frames, ?frame⟩
  case now =>
    rw [allocDone_now, State.now, crossed.clk (by decide), sent.clk (by decide)]
    exact reachNow_le s _
  case frames =>
    intro single n l hn hl own up twice
    have single : (s.reachNow (t0 / 1000 + 80)).sendUnits.isTwin = false := by rw [sent.isTwin, reached.isTwin, single]
    rw [allocDone_lane, sendCross_single single, ← reached.unit (by simp) n]
    have units := reached.childUnits (by simp)
    refine sendUnits_carries _ (by rw [units]; exact hn) (by rw [reached.unitLanes]; exact hl) (fun m hm h => ?_)
      (by rw [reached.laneUp]; exact up) (by rw [reachNow_lane]; exact twice)
    rw [units] at hm
    rw [reached.unitLanes] at h
    exact own m hm h
  case frame =>
    exact (((reached.mono (by decide) (by simp)).then sent (by decide) (by simp)).then crossed (by decide) (by simp)).then (allocDone_touch _)
      (by decide) (by simp)

end Sys2Proof.Machine
end

section
/-!
SUPPORT. The end of the loop window (02 R56, R65): a run commits or is abandoned.
-/
namespace Sys2Proof.Machine
open Sys2Proof

/-! A run commits (07 R222). -/

/-- The registers that a run writes by what it computed. -/
def runRegs (r : LoopRun) : List Nat :=
  r.sigs.map (fun p => sigAddr p.1) ++ r.regions.map (fun p => A.LOOP_L_SCHED p.1) ++ r.ran.map A.LOOP_L_RUNS

/-- The registers that every commit may write. -/
def commitRegs : List Nat := [A.LOOP_CNT, A.LOOP_STAT] ++ stringNumbers.map A.YAR_S_DEM ++ stringNumbers.map A.YAR_S_IARM

/-- What a run computed is written. -/
def State.runWritten (s : State) (r : LoopRun) : State :=
  let s := s.each r.sigs (fun s p => s.setReg (sigAddr p.1) p.2)
  let s := s.each r.words (fun s p => { s with loop.words := Map.set 0 s.loop.words p.1 p.2 })
  let s := s.each r.regions (fun s p =>
    let l := s.loopSt p.1
    ((s.setF (F.LOOP_L_SCHED_REGION p.1) p.2).setF (F.LOOP_L_SCHED_SET p.1) (lSet l.desc p.2)).setLoopSt p.1 { l with fresh := false })
  let s := s.each r.ran (fun s n => s.setReg (A.LOOP_L_RUNS n) (s.reg (A.LOOP_L_RUNS n) + 1))
  { s with loop.ramps := r.ramps, loop.run := none, loop.done := true }

/-- The counts of a run and the string ports. -/
def State.runCounted (s : State) (r : LoopRun) : State :=
  let s := (s.bumpBy F.LOOP_CNT_NUMERIC_CNT r.numeric).raiseIf (decide (0 < r.numeric)) FS.LOOP_NUMERIC
  let len := min r.clks 0xFFFE
  ((s.setF F.LOOP_STAT_LAST_CLK len).setF F.LOOP_STAT_PEAK_CLK (max len (s.f F.LOOP_STAT_PEAK_CLK))).stringPorts

/-- The values for the carrier ports wait for the next boundary. -/
def State.portsHeld (s : State) : State := { s with loop.portWrites := s.pairPorts }

theorem commitRun_eq (s : State) (r : LoopRun) : s.commitRun r = ((s.runWritten r).runCounted r).portsHeld := by
  simp only [State.commitRun, State.runWritten, State.runCounted, State.portsHeld]

theorem runWritten_touch (s : State) (r : LoopRun) : Touches [.loop] (runRegs r) s (s.runWritten r) := by
  have loop (u : State) (x : LoopEng) : Touches [.loop] (runRegs r) u { u with loop := x } := (touch_loop u x).mono (by simp) (by simp)
  have reg (u : State) {a : Nat} (w : Word) (h : a ∈ runRegs r) : Touches [.loop] (runRegs r) u (u.setReg a w) :=
    (touch_setReg u a w).mono (by simp) (by simpa using h)
  refine ((((Touches.each _ _ (fun u p hp => ?sigs) s).trans (Touches.each _ _ (fun u p _ => loop u _) _)).trans
    (Touches.each _ _ (fun u p hp => ?regions) _)).trans (Touches.each _ _ (fun u n hn => ?runs) _)).trans (loop _ _)
  case sigs =>
    exact reg u _ (List.mem_append_left _ (List.mem_append_left _ (List.mem_map_of_mem (f := fun p => sigAddr p.1) hp)))
  case regions =>
    have listed : A.LOOP_L_SCHED p.1 ∈ runRegs r :=
      List.mem_append_left _ (List.mem_append_right _ (List.mem_map_of_mem (f := fun p => A.LOOP_L_SCHED p.1) hp))
    exact ((touch_field u _ _ listed).trans (touch_field _ _ _ listed)).trans (loop _ _)
  case runs => exact reg u _ (List.mem_append_right _ (List.mem_map_of_mem hn))

theorem stringPorts_moves (s : State) : Moves [] commitRegs [] s s.stringPorts := by
  have dem {k : Nat} (hk : k ∈ stringNumbers) : A.YAR_S_DEM k ∈ commitRegs :=
    List.mem_append_left _ (List.mem_append_right _ (List.mem_map_of_mem hk))
  have iarm {k : Nat} (hk : k ∈ stringNumbers) : A.YAR_S_IARM k ∈ commitRegs := List.mem_append_right _ (List.mem_map_of_mem hk)
  refine .ite (fun _ => .refl s _ _ _) fun _ => .each _ (fun u k hk => .ite (fun _ => .refl u _ _ _) fun _ => ?_) s
  have demSet (u : State) (v : Option Word) : Moves [] commitRegs [] u (match v with
      | some v => u.setF (F.YAR_S_DEM_DEM k) (unsigned 26 (clampInt (-33554432) 33554431 (Fp.roundInt v 4096)))
      | none => u) := by
    split
    · exact .setF u _ _ (dem hk)
    · exact .refl u _ _ _
  have iarmSet (u : State) (v : Option Word) : Moves [] commitRegs [] u (match v with
      | some v => u.setF (F.YAR_S_IARM_IARM k) (unsigned 24 (clampInt (-8388608) 8388607 (Fp.roundInt v 1000)))
      | none => u) := by
    split
    · exact .setF u _ _ (iarm hk)
    · exact .refl u _ _ _
  exact (demSet u _).trans (iarmSet _ _)

theorem runCounted_moves (s : State) (r : LoopRun) : Moves [.hub] commitRegs [FS.LOOP_NUMERIC] s (s.runCounted r) :=
  ((((Moves.bumpBy s _ _ (by decide)).trans (.raisesIf _ _ (by simp) (by simp))).trans (.setF _ _ _ (by decide))).trans
    (.setF _ _ _ (by decide))).andThen (stringPorts_moves _) (by simp) (by simp) (by simp)

theorem portsHeld_touch (s : State) : Touches [.loop] [] s s.portsHeld := touch_loop s _

theorem commitRun_moves (s : State) (r : LoopRun) : Moves [.loop, .hub] (runRegs r ++ commitRegs) [FS.LOOP_NUMERIC] s (s.commitRun r) := by
  rw [commitRun_eq]
  exact (((Moves.of_touches (runWritten_touch s r) (by simp) []).mono (by simp) (fun _ => List.mem_append_left _) (by simp)).andThen
    (runCounted_moves _ r) (by simp) (fun _ => List.mem_append_right _) (by simp)).andThen (.of_touches (portsHeld_touch _) (by simp) [])
    (by simp) (by simp) (by simp)

theorem commitRun_run (s : State) (r : LoopRun) : (s.commitRun r).loop.run = none := by
  have counted := (runCounted_moves (s.runWritten r) r).1.loop (by simp)
  rw [commitRun_eq, State.portsHeld, counted]
  rfl

theorem commitRun_done (s : State) (r : LoopRun) : (s.commitRun r).loop.done = true := by
  have counted := (runCounted_moves (s.runWritten r) r).1.loop (by simp)
  rw [commitRun_eq, State.portsHeld, counted]
  rfl

/-! A run is abandoned (07 R223). -/

/-- No run stands, and none is done. -/
def State.runDropped (s : State) : State := { s with loop.run := none, loop.done := false }

theorem abandonRun_after (s : State) : Moves [.hub] [A.LOOP_CNT, A.LOOP_STAT] [FS.LOOP_OVERRUN] s.runDropped s.abandonRun :=
  ((Moves.bump _ _ (by simp)).trans (.setF _ _ _ (by simp))).trans (.raisesIf _ _ (by simp) (by simp))

theorem abandonRun_moves (s : State) : Moves [.loop, .hub] [A.LOOP_CNT, A.LOOP_STAT] [FS.LOOP_OVERRUN] s s.abandonRun :=
  (Moves.part (touch_loop s _) (by decide) (by simp)).andThen (abandonRun_after s) (by simp) (by simp) (by simp)

theorem abandonRun_run (s : State) : s.abandonRun.loop.run = none := by rw [(abandonRun_after s).1.loop (by simp)]; rfl
theorem abandonRun_done (s : State) : s.abandonRun.loop.done = false := by rw [(abandonRun_after s).1.loop (by simp)]; rfl

/-! The window closes. -/

theorem closeLoops_none {s : State} (h : s.loop.run = none) : s.closeLoops = s := by rw [State.closeLoops, h]

theorem closeLoops_commits {s : State} {r : LoopRun} (h : s.loop.run = some r) (complete : r.opened + 2 * r.clks ≤ s.now) :
    s.closeLoops = s.commitRun r := by simp only [State.closeLoops, h, if_pos complete]

theorem closeLoops_abandons {s : State} {r : LoopRun} (h : s.loop.run = some r) (late : s.now < r.opened + 2 * r.clks) :
    s.closeLoops = s.abandonRun := by simp only [State.closeLoops, h, if_neg (Nat.not_le.mpr late)]

/-- The sources that the close of the window may raise. -/
def closeSources : List Nat := [FS.LOOP_NUMERIC, FS.LOOP_OVERRUN]

/-- What the close of the window may write, and that it keeps the node's role. -/
theorem closeLoops_moves (s : State) : ∃ l, A.SYS_ID ∉ l ∧ Moves [.loop, .hub] l closeSources s s.closeLoops := by
  unfold State.closeLoops
  split
  · exact ⟨[], by simp, .refl s _ _ _⟩
  · next r _ =>
    refine ⟨runRegs r ++ commitRegs, ?_, .ite (fun _ => (commitRun_moves s r).mono (by simp) (by simp) (by simp [closeSources])) fun _ =>
      (abandonRun_moves s).mono (by simp) (by simp [commitRegs]) (by simp [closeSources])⟩
    have written : A.SYS_ID ∉ runRegs r := by simp [runRegs, sigAddr, A.SYS_ID]
    exact fun h => (List.mem_append.mp h).elim written (by decide)

end Sys2Proof.Machine
end

section
/-!
SUPPORT. The top allocation (05 R147 to R151): the registers that show it, string by string.
-/
namespace Sys2Proof.Machine
open Sys2Proof

/-! What a top allocation can be. -/

theorem threshold_lt (bins : List Nat) {n : Nat} (hn : n < 4096) {l : List Nat} (hl : ∀ b ∈ l, b < 32) (cum : Nat) :
    (threshold bins n l cum).1 < 32 ∧ (threshold bins n l cum).2 < 4096 := by
  induction l generalizing cum with
  | nil => exact ⟨Nat.mod_lt _ (by decide), Nat.mod_lt _ (by decide)⟩
  | cons b l ih =>
    rw [threshold]
    split
    · exact ⟨hl b List.mem_cons_self, by simp only; omega⟩
    · exact ih (fun c hc => hl c (List.mem_cons_of_mem _ hc)) _

theorem preferred_lt (dir : Nat) : ∀ b ∈ preferred dir, b < 32 := by
  intro b hb
  unfold preferred at hb
  split at hb <;> simpa using hb

/-- The allocation fits the fields that show it. -/
def TopAlloc.fits (a : TopAlloc) : Prop := a.share < 4096 ∧ a.thresh < 32 ∧ a.dir < 2

theorem topAllocate_fits (bins : List Nat) (avail : Nat) (dem iarm : Int) (fb : Bool) (h : (topAllocate bins avail dem iarm fb).n < 4096) :
    (topAllocate bins avail dem iarm fb).fits := by
  unfold topAllocate at h ⊢
  dsimp only at h ⊢
  obtain ⟨thresh, share⟩ := threshold_lt bins h (preferred_lt _) 0
  have binary (c : Bool) : (if c then 0 else 1) < 2 := by cases c <;> decide
  exact ⟨share, thresh, binary _⟩

/-- The top allocation of string `k` at a Meadow. -/
def State.topAlloc (s : State) (k : Nat) : TopAlloc :=
  if s.on (F.YAR_S_CFG_EN k) then topAllocate (Map.get {} s.yar.strings k).bins (Map.get {} s.yar.strings k).avail
    (s.fi (F.YAR_S_DEM_DEM k)) (s.fi (F.YAR_S_IARM_IARM k)) (s.on (F.YAR_S_CFG_FB k)) else {}

theorem topAlloc_fits {s : State} {k : Nat} (h : (s.topAlloc k).n < 4096) : (s.topAlloc k).fits := by
  unfold State.topAlloc at h ⊢
  split at h
  · next en =>
    rw [if_pos en]
    exact topAllocate_fits _ _ _ _ _ h
  · next off =>
    rw [if_neg off]
    exact ⟨by decide, by decide, by decide⟩

/-- YAR_S_ALLOC as it shows an allocation. -/
def allocWord (a : TopAlloc) (token : Bool) : Word :=
  BitVec.ofNat 32 (a.n * 2 ^ 20 + a.share * 2 ^ 8 + b2n a.neg * 128 + b2n token * 64 + a.dir * 32 + a.thresh)

theorem b2n_lt (b : Bool) : b2n b < 2 := by cases b <;> decide

/-- The fields of the word, whatever register it stands in. -/
theorem allocWord_fields {a : TopAlloc} (token : Bool) (hn : a.n < 4096) (fits : a.fits) (r : Nat) :
    Fld.of ⟨r, 31, 20⟩ (allocWord a token).toNat = a.n ∧ Fld.of ⟨r, 19, 8⟩ (allocWord a token).toNat = a.share ∧
    Fld.of ⟨r, 4, 0⟩ (allocWord a token).toNat = a.thresh ∧ Fld.of ⟨r, 5, 5⟩ (allocWord a token).toNat = a.dir ∧
    Fld.of ⟨r, 7, 7⟩ (allocWord a token).toNat = b2n a.neg := by
  obtain ⟨share, thresh, dir⟩ := fits
  have neg := b2n_lt a.neg
  have tok := b2n_lt token
  have word : (allocWord a token).toNat = a.n * 2 ^ 20 + a.share * 2 ^ 8 + b2n a.neg * 128 + b2n token * 64 + a.dir * 32 + a.thresh := by
    rw [allocWord, BitVec.toNat_ofNat]
    exact Nat.mod_eq_of_lt (by omega)
  simp only [Fld.of, word]
  refine ⟨?_, ?_, ?_, ?_, ?_⟩ <;> omega

theorem b2n_beq_one (b : Bool) : (b2n b == 1) = b := by cases b <;> rfl

/-! The registers of a string. -/

/-- The registers that the allocation of a string may write. -/
def allocStringRegs (k : Nat) : List Nat := [A.YAR_S_ALLOC k, A.YAR_S_SAT k, A.YAR_S_PTR k]

/-- The registers of string `k` show an allocation. -/
def State.shows (s : State) (k : Nat) (a : TopAlloc) : Prop :=
  s.f (F.YAR_S_ALLOC_INSERTED k) = a.n ∧ s.f (F.YAR_S_ALLOC_SHARE k) = a.share ∧ s.f (F.YAR_S_ALLOC_THRESH k) = a.thresh ∧
  s.f (F.YAR_S_ALLOC_DIR k) = a.dir ∧ s.on (F.YAR_S_ALLOC_NEG k) = a.neg ∧ s.on (F.YAR_S_SAT_SAT k) = a.sat

theorem State.shows.touches {s t : State} {k : Nat} {a : TopAlloc} (h : s.shows k a) {ps : List Part} {l : List Nat} (touched : Touches ps l s t)
    (alloc : A.YAR_S_ALLOC k ∉ l) (sat : A.YAR_S_SAT k ∉ l) : t.shows k a := by
  obtain ⟨inserted, share, thresh, dir, neg, saturated⟩ := h
  simp only [State.shows, State.on]
  rw [touched.f alloc, touched.f alloc, touched.f alloc, touched.f alloc, touched.f alloc, touched.f sat]
  exact ⟨inserted, share, thresh, dir, neg, saturated⟩

/-- The saturation of a string is counted, shown and raised. -/
def State.satShown (s : State) (k : Nat) (sat : Bool) : State :=
  ((s.when sat (fun s => s.bump (F.YAR_S_SAT_SAT_TICKS k))).setF (F.YAR_S_SAT_SAT k) (b2n sat)).raiseIf
    (sat && !s.on (F.YAR_S_SAT_SAT k)) FS.YAR_SATURATED

/-- The allocation of a string is shown. -/
def State.allocShown (s : State) (k : Nat) (a : TopAlloc) (token : Bool) : State := (s.setReg (A.YAR_S_ALLOC k) (allocWord a token)).satShown k a.sat

/-- In RUN the pointer of the string moves on. -/
def State.ptrMoved (s : State) (k ptr : Nat) : State := if s.st = ST.RUN then s.setF (F.YAR_S_PTR_PTR k) ptr else s

theorem ptrMoved_touch (s : State) (k ptr : Nat) : Touches [] [A.YAR_S_PTR k] s (s.ptrMoved k ptr) := by
  unfold State.ptrMoved
  split
  · exact touch_setF s _ _
  · exact Touches.refl _ _ _

/-- The allocation of a string gives its units their parts, and is shown. -/
theorem allocString_eq (s : State) (k : Nat) : ∃ (u : State) (token : Bool) (ptr : Nat), Touches [.units] [] s u ∧
    s.allocString k = (u.allocShown k (s.topAlloc k) token).ptrMoved k ptr :=
  ⟨_, _, _, Touches.each _ _ (fun u _ _ => touch_updUnit u _ _) s, by
    simp only [State.allocString, State.allocShown, State.satShown, State.ptrMoved, State.topAlloc, allocWord]
    rfl⟩

theorem satShown_moves (s : State) (k : Nat) (sat : Bool) : Moves [.hub] [A.YAR_S_SAT k] [FS.YAR_SATURATED] s (s.satShown k sat) :=
  ((Moves.when sat fun _ => .bump s (F.YAR_S_SAT_SAT_TICKS k) (by simp)).trans (.setF _ _ _ (by simp))).trans
    (.raisesIf _ _ (by simp) (by simp))

theorem allocShown_moves (s : State) (k : Nat) (a : TopAlloc) (token : Bool) :
    Moves [.hub] [A.YAR_S_ALLOC k, A.YAR_S_SAT k] [FS.YAR_SATURATED] s (s.allocShown k a token) :=
  (Moves.setReg s _ _ (by simp)).andThen (satShown_moves _ k a.sat) (by simp) (by simp) (by simp)

theorem allocString_moves (s : State) (k : Nat) : Moves [.units, .hub] (allocStringRegs k) [FS.YAR_SATURATED] s (s.allocString k) := by
  obtain ⟨u, token, ptr, given, eq⟩ := allocString_eq s k
  have units : Moves [.units, .hub] (allocStringRegs k) [FS.YAR_SATURATED] s u := .part given (by decide) (by simp)
  have shown := units.andThen (allocShown_moves u k (s.topAlloc k) token) (by simp) (by simp [allocStringRegs]) (by simp)
  have moved := Moves.of_touches (ptrMoved_touch (u.allocShown k (s.topAlloc k) token) k ptr) (by simp) []
  rw [eq]
  exact shown.andThen moved (by simp) (by simp [allocStringRegs]) (by simp)

theorem satShown_sat (s : State) (k : Nat) (sat : Bool) : (s.satShown k sat).on (F.YAR_S_SAT_SAT k) = sat := by
  have raised := touch_raiseIf ((s.when sat (fun s => s.bump (F.YAR_S_SAT_SAT_TICKS k))).setF (F.YAR_S_SAT_SAT k) (b2n sat))
    (sat && !s.on (F.YAR_S_SAT_SAT k)) FS.YAR_SATURATED
  rw [State.on, State.satShown, raised.f (by simp), State.f_setF_same _ _ _ (by simp)]
  cases sat <;> rfl

theorem allocShown_shows (s : State) (k : Nat) {a : TopAlloc} (token : Bool) (hn : a.n < 4096) (fits : a.fits) :
    (s.allocShown k a token).shows k a := by
  have reg : (s.allocShown k a token).reg (A.YAR_S_ALLOC k) = allocWord a token :=
    ((satShown_moves _ k a.sat).1.2 _ (by simp)).trans (s.reg_setReg_same _ _)
  have field {x : Fld} (at_alloc : x.addr = A.YAR_S_ALLOC k) : (s.allocShown k a token).f x = x.of (allocWord a token).toNat := by
    rw [State.f, at_alloc, reg]
  obtain ⟨inserted, share, thresh, dir, neg⟩ := allocWord_fields token hn fits (A.YAR_S_ALLOC k)
  refine ⟨(field rfl).trans inserted, (field rfl).trans share, (field rfl).trans thresh, (field rfl).trans dir, ?_, satShown_sat _ _ _⟩
  rw [State.on, field rfl]
  exact (congrArg (· == 1) neg).trans (b2n_beq_one _)

/-- The allocation of a string is shown in its registers. -/
theorem allocString_shows {s : State} {k : Nat} (h : (s.topAlloc k).n < 4096) : (s.allocString k).shows k (s.topAlloc k) := by
  obtain ⟨u, token, ptr, -, eq⟩ := allocString_eq s k
  rw [eq]
  exact (allocShown_shows u k token h (topAlloc_fits h)).touches (ptrMoved_touch _ k ptr) (by simp) (by simp)

/-! All strings. -/

/-- The registers that the allocation may write. -/
def allocRegs : List Nat := stringNumbers.map A.YAR_S_ALLOC ++ stringNumbers.map A.YAR_S_SAT ++ stringNumbers.map A.YAR_S_PTR

theorem allocStringRegs_sub {k : Nat} (hk : k ∈ stringNumbers) : ∀ a ∈ allocStringRegs k, a ∈ allocRegs := by
  have alloc := List.mem_map_of_mem (f := A.YAR_S_ALLOC) hk
  have sat := List.mem_map_of_mem (f := A.YAR_S_SAT) hk
  have ptr := List.mem_map_of_mem (f := A.YAR_S_PTR) hk
  intro a ha
  simp only [allocStringRegs, List.mem_cons, List.not_mem_nil, or_false] at ha
  simp only [allocRegs, List.mem_append]
  rcases ha with rfl | rfl | rfl
  · exact .inl (.inl alloc)
  · exact .inl (.inr sat)
  · exact .inr ptr

/-- A frame that leaves the strings' Tallies, settings and demands keeps the allocation of each. -/
theorem Touches.topAlloc {ps : List Part} {l : List Nat} {s t : State} (h : Touches ps l s t) (hy : .yar ∉ ps) {k : Nat}
    (cfg : A.YAR_S_CFG k ∉ l) (dem : A.YAR_S_DEM k ∉ l) (iarm : A.YAR_S_IARM k ∉ l) : t.topAlloc k = s.topAlloc k := by
  have enabled : t.on (F.YAR_S_CFG_EN k) = s.on (F.YAR_S_CFG_EN k) := by rw [State.on, State.on, h.f cfg]
  have fallback : t.on (F.YAR_S_CFG_FB k) = s.on (F.YAR_S_CFG_FB k) := by rw [State.on, State.on, h.f cfg]
  have demand : t.fi (F.YAR_S_DEM_DEM k) = s.fi (F.YAR_S_DEM_DEM k) := by rw [State.fi, State.fi, h.f dem]
  have current : t.fi (F.YAR_S_IARM_IARM k) = s.fi (F.YAR_S_IARM_IARM k) := by rw [State.fi, State.fi, h.f iarm]
  rw [State.topAlloc, State.topAlloc, enabled, fallback, demand, current, h.yar hy]

/-- No string's allocation is written where its settings and demands stand. -/
theorem inputs_notMem : ∀ k ∈ stringNumbers, A.YAR_S_CFG k ∉ allocRegs ∧ A.YAR_S_DEM k ∉ allocRegs ∧ A.YAR_S_IARM k ∉ allocRegs := by
  decide +kernel

/-- One string's allocation is not written where another's is shown. -/
theorem strings_apart : ∀ k ∈ stringNumbers, ∀ y ∈ stringNumbers, y ≠ k →
    A.YAR_S_ALLOC k ∉ allocStringRegs y ∧ A.YAR_S_SAT k ∉ allocStringRegs y := by
  decide +kernel

/-- The strings in turn. -/
def State.allocStrings (s : State) : State := s.each stringNumbers (fun s k => s.allocString k)

theorem allocString_allocRegs (s : State) {k : Nat} (hk : k ∈ stringNumbers) :
    Moves [.units, .hub] allocRegs [FS.YAR_SATURATED] s (s.allocString k) :=
  (allocString_moves s k).mono (by simp) (allocStringRegs_sub hk) (by simp)

theorem allocStrings_moves (s : State) : Moves [.units, .hub] allocRegs [FS.YAR_SATURATED] s s.allocStrings :=
  .each _ (fun u _ hk => allocString_allocRegs u hk) s

theorem allocStrings_shows {s : State} {k : Nat} (hk : k ∈ stringNumbers) (h : (s.topAlloc k).n < 4096) : s.allocStrings.shows k (s.topAlloc k) := by
  have inputs {u : State} (touched : Touches [.units, .hub] allocRegs s u) : u.topAlloc k = s.topAlloc k :=
    touched.topAlloc (by simp) (inputs_notMem k hk).1 (inputs_notMem k hk).2.1 (inputs_notMem k hk).2.2
  have shown (u : State) (touched : Touches [.units, .hub] allocRegs s u) : (u.allocString k).shows k (s.topAlloc k) := by
    rw [← inputs touched] at h ⊢
    exact allocString_shows h
  refine State.each_sets (Touches [.units, .hub] allocRegs s) (fun u => u.shows k (s.topAlloc k)) hk _
    (fun u y hy touched => touched.trans (allocString_allocRegs u hy).1) shown (fun u y hy touched showsK => ?_) s (Touches.refl _ _ _)
  by_cases e : y = k
  · subst e
    exact shown u touched
  · obtain ⟨alloc, sat⟩ := strings_apart k hk y hy e
    exact showsK.touches (allocString_moves u y).1 alloc sat

/-- The units of no string get zeros. -/
def State.unstrung (s : State) : State :=
  s.each (s.units.filter (fun n => decide (16 ≤ (s.unit n).string))) (fun s n => s.updUnit n (fun u =>
    { u with thresh := 0, dir := 0, frac := 0, iarm := 0, token := false, share := 0 }))

theorem unstrung_touch (s : State) : Touches [.units] [] s s.unstrung := Touches.each _ _ (fun u n _ => touch_updUnit u n _) s

/-- The allocation starts at an instant. -/
def State.allocStarted (s : State) (ps : Nat) : State := { s with clk.allocAt := some ps }

theorem allocStarted_touch (s : State) (ps : Nat) : Touches [.clk] [] s (s.allocStarted ps) := touch_clk s _
theorem allocStarted_allocAt (s : State) (ps : Nat) : (s.allocStarted ps).clk.allocAt = some ps := rfl

theorem topAllocation_eq (s : State) : s.topAllocation = s.unstrung.allocStrings.allocStarted s.unstrung.clk.nowPs := rfl

theorem topAllocation_moves (s : State) : Moves [.clk, .units, .hub] allocRegs [FS.YAR_SATURATED] s s.topAllocation := by
  rw [topAllocation_eq]
  exact (((Moves.of_touches (unstrung_touch s) (by simp) []).mono (by simp) (by simp) (by simp)).andThen (allocStrings_moves _) (by simp)
    (by simp) (by simp)).andThen (.of_touches (allocStarted_touch _ _) (by simp) []) (by simp) (by simp) (by simp)

theorem topAllocation_allocAt (s : State) : s.topAllocation.clk.allocAt = some s.clk.nowPs := by
  rw [topAllocation_eq, allocStarted_allocAt, (unstrung_touch s).clk (by simp)]

theorem topAllocation_shows {s : State} {k : Nat} (hk : k ∈ stringNumbers) (h : (s.topAlloc k).n < 4096) :
    s.topAllocation.shows k (s.topAlloc k) := by
  have inputs : s.unstrung.topAlloc k = s.topAlloc k := (unstrung_touch s).topAlloc (by simp) (by simp) (by simp) (by simp)
  rw [topAllocation_eq, ← inputs]
  exact (allocStrings_shows hk (by rw [inputs]; exact h)).touches (allocStarted_touch _ _) (by simp) (by simp)

end Sys2Proof.Machine
end

section
/-!
O23: from the allocation to a held tick and BLOCKED (02 R56, R58, R63 to R65, 05 R151, R152, R162).
-/
namespace Sys2Proof.Machine
open Sys2Proof

/-! LOOP_END (02 R58, R65). -/

/-- The loop window is closed at LOOP_END. -/
def State.windowClosed (s : State) : State := (s.atPhase s.clk.phLoopEnd 4).closeLoops

/-- A Meadow whose run is not done by then counts the tick overrun, and allocates. -/
def State.allocates (s : State) : State := (s.raiseIf (!s.loop.done) FS.TICK_OVERRUN).topAllocation

/-- The active Meadow issues a system trigger that a unit or the host asked for (09 R273). -/
def State.trigAsked (s : State) : State :=
  s.when (s.twinRole == ROLE.ACTIVE) (fun s =>
    s.issueTrig (s.units.any (fun n => (s.unit n).frame != [] && (parseUp (s.unit n).frame).trigReq)))

theorem windowClosed_keeps (s : State) : ∃ l, A.SYS_ID ∉ l ∧
    Moves [.clk, .disp, .loop, .hub] l (FS.DISP_TICK_MISS :: closeSources) s s.windowClosed := by
  obtain ⟨l, role, closed⟩ := closeLoops_moves (s.atPhase s.clk.phLoopEnd 4)
  exact ⟨A.DISP_CNT :: l, fun h => (List.mem_cons.mp h).elim (by decide) role,
    ((atPhase_moves s s.clk.phLoopEnd 4).mono (by simp) (by simp) (by simp)).andThen closed (by simp)
      (fun _ => List.mem_cons_of_mem _) (fun _ => List.mem_cons_of_mem _)⟩

theorem windowClosed_clk (s : State) : s.windowClosed.clk = (s.reachPhase s.clk.phLoopEnd).clk := by
  obtain ⟨l, -, closed⟩ := closeLoops_moves (s.atPhase s.clk.phLoopEnd 4)
  exact (closed.1.clk (by decide)).trans (atPhase_clk s _ _)

theorem windowClosed_slotsClosed (s : State) : s.windowClosed.slotsClosed = s.slotsClosed := by
  have allocated := reachTime_keeps Clk.allocated (fun _ _ _ _ _ => rfl) s (s.clk.tickStart + s.clk.phLoopEnd * 2000)
  have allocAt := reachTime_keeps Clk.allocAt (fun _ _ _ _ _ => rfl) s (s.clk.tickStart + s.clk.phLoopEnd * 2000)
  rw [State.slotsClosed, windowClosed_clk, State.slotsClosed, State.reachPhase, allocated, allocAt]

theorem atPhase_loop (s : State) (c phase : Nat) : (s.atPhase c phase).loop = s.loop := (atPhase_moves s c phase).1.loop (by decide)

theorem windowClosed_none {s : State} (h : s.loop.run = none) : s.windowClosed = s.atPhase s.clk.phLoopEnd 4 :=
  closeLoops_none (by rw [atPhase_loop, h])

section
variable {s : State} {r : LoopRun} (run : s.loop.run = some r)
include run

theorem windowClosed_commits (complete : r.opened + 2 * r.clks ≤ (s.reachPhase s.clk.phLoopEnd).now) :
    s.windowClosed = (s.atPhase s.clk.phLoopEnd 4).commitRun r :=
  closeLoops_commits (by rw [atPhase_loop, run]) (by rw [atPhase_now]; exact complete)

theorem windowClosed_abandons (late : (s.reachPhase s.clk.phLoopEnd).now < r.opened + 2 * r.clks) :
    s.windowClosed = (s.atPhase s.clk.phLoopEnd 4).abandonRun :=
  closeLoops_abandons (by rw [atPhase_loop, run]) (by rw [atPhase_now]; exact late)

end

/-- Once the window is closed, no run stands. -/
theorem windowClosed_run (s : State) : s.windowClosed.loop.run = none := by
  rcases run : s.loop.run with _ | r
  · rw [windowClosed_none run, atPhase_loop, run]
  · rcases Nat.lt_or_ge (s.reachPhase s.clk.phLoopEnd).now (r.opened + 2 * r.clks) with late | complete
    · rw [windowClosed_abandons run late, abandonRun_run]
    · rw [windowClosed_commits run complete, commitRun_run]

section
variable {s : State} (falls : s.phaseFalls s.clk.phLoopEnd = true)
include falls

theorem onLoopEnd_meadow (meadow : s.isMeadow = true) (opened : s.slotsClosed = false) :
    ∃ c, onLoopEnd s = s.windowClosed.allocates.trigAsked.clkOver c := by
  obtain ⟨l, listed, closed⟩ := windowClosed_keeps s
  have role := (closed.1.isMeadow listed).trans meadow
  have opened := (windowClosed_slotsClosed s).trans opened
  rw [State.windowClosed] at role opened
  refine ⟨s.windowClosed.allocates.clk.phLoopEnd, ?_⟩
  simp only [onLoopEnd, falls, atPhase_eq, role, opened, Bool.not_true, Bool.false_eq_true, or_self, if_false]
  rfl

theorem onLoopEnd_other (other : s.isMeadow = false ∨ s.slotsClosed = true) : onLoopEnd s = s.windowClosed := by
  obtain ⟨l, listed, closed⟩ := windowClosed_keeps s
  have role := closed.1.isMeadow listed
  have slots := windowClosed_slotsClosed s
  have other : (!s.isMeadow) = true ∨ s.slotsClosed = true := by rwa [Bool.not_eq_true']
  rw [← role, ← slots, State.windowClosed] at other
  simp only [onLoopEnd, falls, atPhase_eq, other, Bool.not_true, Bool.false_eq_true, if_false, if_true]
  rfl

end

/-! What the Meadow does once its window is closed. -/

theorem issueTrig_touch (s : State) (asked : Bool) : Touches [.recorder] [A.REC_STAT, A.REC_SYS] s (s.issueTrig asked) := by
  unfold State.issueTrig
  dsimp only
  split
  · exact Touches.refl _ _ _
  split
  · exact touch_field s _ _ (by simp)
  · exact ((touch_field s F.REC_SYS_LAST_ID _ (by simp)).trans (touch_field _ F.REC_SYS_REQ _ (by simp))).trans
      ((touch_recorder _ _).mono (by simp) (by simp))

theorem trigAsked_touch (s : State) : Touches [.recorder] [A.REC_STAT, A.REC_SYS] s s.trigAsked := by
  unfold State.trigAsked State.when
  split
  · exact issueTrig_touch s _
  · exact Touches.refl _ _ _

/-- The trigger and the passing of time leave the allocation. -/
theorem trigOver_touch (s : State) (c : Nat) : Touches [.clk, .recorder] [A.REC_STAT, A.REC_SYS] s (s.trigAsked.clkOver c) :=
  ((trigAsked_touch s).mono (by simp) (by simp)).then (clkOver_touch _ c) (by simp) (by simp)

theorem trigOver_allocAt (s : State) (c : Nat) : (s.trigAsked.clkOver c).clk.allocAt = s.clk.allocAt := by
  rw [State.clkOver, reachTime_keeps Clk.allocAt (fun _ _ _ _ _ => rfl), (trigAsked_touch s).clk (by decide)]

/-- The sources that the allocation may raise. -/
def allocSources : List Nat := [FS.TICK_OVERRUN, FS.YAR_SATURATED]

theorem allocates_moves (s : State) : Moves [.clk, .units, .hub] allocRegs allocSources s s.allocates :=
  (Moves.raisesIf s (!s.loop.done) (by simp) (by simp [allocSources])).andThen (topAllocation_moves _) (by simp) (by simp)
    (by simp [allocSources])

theorem allocates_allocAt (s : State) : s.allocates.clk.allocAt = some s.clk.nowPs := by
  rw [State.allocates, topAllocation_allocAt, (touch_raiseIf s _ _).clk (by decide)]

theorem allocates_shows {s : State} {k : Nat} (hk : k ∈ stringNumbers) (h : (s.topAlloc k).n < 4096) : s.allocates.shows k (s.topAlloc k) := by
  have inputs := (touch_raiseIf s (!s.loop.done) FS.TICK_OVERRUN).topAlloc (k := k) (by decide) (by simp) (by simp) (by simp)
  rw [← inputs] at h ⊢
  exact topAllocation_shows hk h

/-- A run that is not done overruns the tick. -/
theorem allocates_overrun {s : State} (h : s.loop.done = false) : FS.TICK_OVERRUN ∈ s.allocates.hub.raised := by
  rw [State.allocates, h]
  exact (topAllocation_moves _).raised (List.mem_append_right _ (List.mem_singleton.mpr rfl))

/-- A run that is done does not. -/
theorem allocates_done {s : State} (h : s.loop.done = true) (overrun : FS.TICK_OVERRUN ∈ s.allocates.hub.raised) :
    FS.TICK_OVERRUN ∈ s.hub.raised := by
  rw [State.allocates, h] at overrun
  exact (topAllocation_moves s).raised_before overrun (by decide)

/-- The tick operands are not counted where a string's settings and demands stand. -/
theorem inputs_apart : ∀ k ∈ stringNumbers, A.YAR_S_CFG k ∉ [A.DISP_CNT] ∧ A.YAR_S_DEM k ∉ [A.DISP_CNT] ∧ A.YAR_S_IARM k ∉ [A.DISP_CNT] := by
  decide

/-- The trigger is not shown where a string's allocation is. -/
theorem trigger_apart : ∀ k ∈ stringNumbers, A.YAR_S_ALLOC k ∉ [A.REC_STAT, A.REC_SYS] ∧ A.YAR_S_SAT k ∉ [A.REC_STAT, A.REC_SYS] := by
  decide

theorem loopEnd_allocates {s : State} (on : s.running = true) (meadow : s.isMeadow = true) (opened : s.slotsClosed = false)
    (falls : s.phaseFalls s.clk.phLoopEnd = true) :
    ∃ t : State, exec .loopEnd s = .next t.wrapUp ∧ t.clk.allocAt = some (s.reachPhase s.clk.phLoopEnd).clk.nowPs ∧ t.loop.run = none ∧
      (s.loop.run = none → s.loop.done = false → FS.TICK_OVERRUN ∈ t.hub.raised) ∧
      (∀ r, s.loop.run = some r →
        (r.opened + 2 * r.clks ≤ (s.reachPhase s.clk.phLoopEnd).now →
          t.loop.done = true ∧ (FS.TICK_OVERRUN ∈ t.hub.raised → FS.TICK_OVERRUN ∈ s.hub.raised)) ∧
        ((s.reachPhase s.clk.phLoopEnd).now < r.opened + 2 * r.clks → FS.TICK_OVERRUN ∈ t.hub.raised)) ∧
      (s.loop.run = none → Touches [.clk, .disp, .hub, .units, .recorder] ([A.DISP_CNT, A.REC_STAT, A.REC_SYS] ++ allocRegs) s t ∧
        ∀ k ∈ stringNumbers, (s.topAlloc k).n < 4096 → t.shows k (s.topAlloc k)) := by
  obtain ⟨c, eq⟩ := onLoopEnd_meadow falls meadow opened
  have later := trigOver_touch s.windowClosed.allocates c
  have hub := later.hub (by decide)
  have loop := (later.loop (by decide)).trans ((allocates_moves s.windowClosed).1.loop (by decide))
  refine ⟨_, runEvent_of_eq on eq, ?allocAt, ?run, ?none, ?some, ?idle⟩
  case allocAt => rw [trigOver_allocAt, allocates_allocAt, windowClosed_clk]
  case run => rw [loop, windowClosed_run]
  case none =>
    intro run undone
    rw [hub]
    exact allocates_overrun (by rw [windowClosed_none run, atPhase_loop, undone])
  case some =>
    intro r run
    refine ⟨fun complete => ?_, fun late => ?_⟩
    · have finished : s.windowClosed.loop.done = true := by rw [windowClosed_commits run complete, commitRun_done]
      refine ⟨by rw [loop, finished], fun overrun => ?_⟩
      rw [hub] at overrun
      obtain ⟨l, -, closed⟩ := windowClosed_keeps s
      exact closed.raised_before (allocates_done finished overrun) (by decide)
    · rw [hub]
      exact allocates_overrun (by rw [windowClosed_abandons run late, abandonRun_done])
  case idle =>
    intro run
    have reached : Touches [.clk, .disp, .hub] [A.DISP_CNT] s s.windowClosed := by
      rw [windowClosed_none run]
      exact (atPhase_moves s _ _).1
    refine ⟨?_, fun k hk h => ?_⟩
    · exact ((reached.mono (by decide) (by simp)).then (allocates_moves _).1 (by decide) (fun _ => List.mem_append_right _)).then later
        (by decide) (by simp)
    · obtain ⟨cfg, dem, iarm⟩ := inputs_apart k hk
      obtain ⟨alloc, sat⟩ := trigger_apart k hk
      have inputs := reached.topAlloc (by decide) cfg dem iarm
      rw [← inputs] at h ⊢
      exact (allocates_shows hk h).touches later alloc sat

theorem loopEnd_other {s : State} (on : s.running = true) (other : s.isMeadow = false ∨ s.slotsClosed = true)
    (falls : s.phaseFalls s.clk.phLoopEnd = true) (run : s.loop.run = none) :
    ∃ t : State, exec .loopEnd s = .next t.wrapUp ∧ t.clk = (s.reachPhase s.clk.phLoopEnd).clk ∧ Touches [.clk, .disp, .hub] [A.DISP_CNT] s t :=
  ⟨_, runEvent_of_eq on ((onLoopEnd_other falls other).trans (windowClosed_none run)), atPhase_clk s _ _, (atPhase_moves s _ _).1⟩

/-! The clauses of nodes whose part an instant is not. -/

theorem allocationComplete_idle {s : State} (on : s.running = true) (h : s.clk.allocAt = none) : exec .allocationComplete s = .next s.wrapUp :=
  runEvent_of_eq on (by simp only [onAllocationComplete, h])

theorem down_other {s : State} (on : s.running = true) (other : s.isUmbel = false ∨ s.child.closed = true)
    (falls : s.phaseFalls s.clk.phDown = true) :
    ∃ t : State, exec .down s = .next t.wrapUp ∧ t.clk = (s.reachPhase s.clk.phDown).clk ∧ Touches [.clk, .disp, .hub] [A.DISP_CNT] s t :=
  ⟨_, runEvent_of_eq on (onDown_other falls other), atPhase_clk s _ _, (atPhase_moves s _ _).1⟩

theorem apply_other {s : State} (on : s.running = true) (other : s.isFloret = false) (falls : s.phaseFalls (s.clk.tickLen - 100) = true) :
    ∃ t : State, exec .apply s = .next t.wrapUp ∧ t.clk = (s.reachPhase (s.clk.tickLen - 100)).clk ∧
      Touches ([.clk, .disp] ++ sampleParts) (A.DISP_CNT :: sampleRegs) s t :=
  ⟨_, runEvent_of_eq on (onApply_other falls other), atApply_clk s, (atApply_moves s).1⟩

/-- Settles O23: each event's operation is written as a row of steps, each with its frame (`Moves`) and what it sets; a clause reads off the row. -/
theorem allocationToHold : Obligations.AllocationToHold := by
  unfold Obligations.AllocationToHold
  intro s on
  refine ⟨?loopEnd, fun _ at_t => allocationComplete_sends on at_t, ?down, ?apply, fun other falls => apply_other on other falls,
    fun floret yar reached => holdLimitReached_blocks on floret yar reached, fun none => allocationComplete_idle on none,
    fun below => runEvent_of_eq on (onHoldLimitReached_below below), fun other falls => down_other on other falls,
    fun other falls run => loopEnd_other on other falls run⟩
  case loopEnd =>
    intro meadow opened falls
    obtain ⟨t, step, allocAt, run, undone, ended, idle⟩ := loopEnd_allocates on meadow opened falls
    refine ⟨t, step, allocAt, run, undone, ended, fun none => ?_⟩
    obtain ⟨frame, shows⟩ := idle none
    rw [allocRegs, ← List.append_assoc, ← List.append_assoc] at frame
    refine ⟨frame, fun k a value fits => ?_⟩
    subst value
    exact shows k (List.mem_range.mpr k.isLt) fits
  case down =>
    intro umbel opened falls
    exact ⟨down_holds on falls umbel opened, down_obeyed on falls umbel opened⟩
  case apply =>
    intro floret opened yar falls
    exact ⟨apply_holds on floret opened falls yar, fun _ => apply_obeys on floret opened falls⟩

end Sys2Proof.Machine
end

section
/-!
SUPPORT. What the part writes it reads back (03 R89 to R96, 04 R109, R120): a number, a flag and a slice read out of a chain of fields,
then each layout as such a chain.
-/
namespace Sys2Proof.Machine
open Sys2Proof

/-! Fields of a chain. -/

/-- A field at the front of a chain. -/
theorem numAt_front {n v : Nat} (c : List Byte) : numAt (leBytes n v ++ c) 0 n = v % 256 ^ n := numAt_between (a := []) rfl

/-- A field behind another. -/
theorem numAt_skip {n v o k : Nat} (c : List Byte) (h : n ≤ o) : numAt (leBytes n v ++ c) o k = numAt c (o - n) k := by
  rw [numAt_append_right _ _ _ _ (by simpa), leBytes_length]

theorem slice_skip {n v o k : Nat} (c : List Byte) (h : n ≤ o) : slice (leBytes n v ++ c) o k = slice c (o - n) k := by
  rw [slice, slice, List.drop_append, leBytes_length, List.drop_eq_nil_of_le (by simpa), List.nil_append]

theorem slice_front {a : List Byte} (c : List Byte) {n : Nat} (h : a.length = n) : slice (a ++ c) 0 n = a := by
  rw [slice, List.drop_zero, List.take_append_of_le_length h.ge, List.take_of_length_le h.le]

/-- Flags as a number, the first in bit 0. -/
def flagBits : List Bool → Nat
  | [] => 0
  | b :: l => b2n b + 2 * flagBits l

theorem flagBits_lt (l : List Bool) : flagBits l < 2 ^ l.length := by
  induction l with
  | nil => decide
  | cons b l ih =>
    have first := b2n_lt b
    rw [flagBits, List.length_cons, Nat.pow_succ]
    omega

theorem bit_flagBits (l : List Bool) (i : Nat) : bit (flagBits l) i = l.getD i false := by
  induction l generalizing i with
  | nil => simp [flagBits, bit]
  | cons b l ih =>
    have first := b2n_lt b
    cases i with
    | zero =>
      have low : (b2n b + 2 * flagBits l) / 2 ^ 0 % 2 = b2n b := by omega
      rw [bit, flagBits, low, b2n_beq_one]
      rfl
    | succ i =>
      have rest : (b2n b + 2 * flagBits l) / 2 = flagBits l := by omega
      rw [bit, flagBits, Nat.pow_succ', ← Nat.div_div_eq_div_mul, rest, List.getD_cons_succ, ← ih i, bit]

/-- Flags behind a number of two bits. -/
theorem bit_above_cls {c : Nat} (hc : c < 4) (l : List Bool) (i : Nat) : bit (c + 4 * flagBits l) (i + 2) = l.getD i false := by
  have rest : (c + 4 * flagBits l) / 2 ^ 2 = flagBits l := by omega
  rw [bit, Nat.add_comm i, Nat.pow_add, ← Nat.div_div_eq_div_mul, rest, ← bit_flagBits l i, bit]

/-! Command packets (04 R109). -/

theorem pktFlags_eq (p : Packet) : pktFlags p = p.cls.toNat + 4 * flagBits [p.auth, false, p.mcast, p.noReply] := by
  simp only [pktFlags, flagBits, b2n, Bool.false_eq_true, if_false]
  omega

theorem bit_pktFlags (p : Packet) (i : Nat) : bit (pktFlags p) (i + 2) = [p.auth, false, p.mcast, p.noReply].getD i false := by
  rw [pktFlags_eq, bit_above_cls p.cls.isLt]

theorem pktFlags_cls (p : Packet) : BitVec.ofNat 2 (pktFlags p) = p.cls := by
  apply BitVec.eq_of_toNat_eq
  have small := p.cls.isLt
  rw [BitVec.toNat_ofNat, pktFlags_eq]
  omega


theorem numAt_pktBytes_op (op : Nat) (p : Packet) : numAt (pktBytes op p) 0 2 = op % 65536 := by
  simp only [pktBytes_eq, numAt_front, Nat.reducePow]

theorem numAt_pktBytes_length (op : Nat) (p : Packet) : numAt (pktBytes op p) 3 3 = p.params.length % 16777216 := by
  simp only [pktBytes_eq, numAt_skip, numAt_front, Nat.reduceLeDiff, Nat.reduceSub, Nat.reducePow]

theorem numAt_pktBytes_handle (op : Nat) (p : Packet) : numAt (pktBytes op p) 12 4 = p.handle.toNat := by
  simp only [pktBytes_eq, pktRest, numAt_skip, numAt_front, Nat.reduceLeDiff, Nat.reduceSub]
  exact Nat.mod_eq_of_lt p.handle.isLt

/-- Behind the header stand the parameters and the trailer. -/
theorem pktBytes_drop (op : Nat) (p : Packet) :
    (pktBytes op p).drop 16 = p.params ++ (if p.auth then leBytes 4 p.counter.toNat ++ p.mac else []) := by
  rw [pktBytes, List.append_assoc]
  exact List.drop_left' (by simp [pktHeader])

theorem pktBytes_length (op : Nat) {p : Packet} (mac : p.mac.length = 8) :
    (pktBytes op p).length = 16 + p.params.length + (if p.auth then 12 else 0) := by
  cases h : p.auth <;> simp [pktBytes, pktHeader, h, mac] <;> omega

/-- The bytes behind an offset, read at it. -/
theorem slice_add (b : List Byte) (o k n : Nat) : slice b (o + k) n = slice (b.drop o) k n := by
  rw [slice, slice, List.drop_drop]

theorem slice_back {a b : List Byte} {o n : Nat} (ho : a.length = o) (hn : b.length = n) : slice (a ++ b) o n = b := by
  rw [slice, List.drop_left' ho, List.take_of_length_le hn.le]

/-- A command packet of a well-formed command reads back. -/
theorem parsePacket_pktBytes {op : Nat} {p : Packet} (hop : op < 65536) (wf : p.wf = true) (slot : p.slot = false) (lane : p.lane = none) :
    parsePacket (pktBytes op p) = some (op, p) := by
  simp only [Packet.wf, Bool.and_eq_true, decide_eq_true_eq, beq_iff_eq, List.isEmpty_iff, Bool.or_eq_true] at wf
  obtain ⟨⟨⟨⟨small, mac⟩, ks⟩, trailer⟩, -⟩ := wf
  have auth : bit (pktFlags p) 2 = p.auth := bit_pktFlags p 0
  have mcast : bit (pktFlags p) 4 = p.mcast := bit_pktFlags p 2
  have noReply : bit (pktFlags p) 5 = p.noReply := bit_pktFlags p 3
  have len : p.params.length % 16777216 = p.params.length := Nat.mod_eq_of_lt (by omega)
  have behind := pktBytes_drop op p
  have params : slice (pktBytes op p) 16 p.params.length = p.params := by
    rw [slice_add _ 16 0, behind, slice_front _ rfl]
  have counter : (if p.auth then numAt (pktBytes op p) (16 + p.params.length) 4 else 0) = p.counter.toNat := by
    rw [numAt, slice_add, behind]
    cases h : p.auth
    · simp_all
    · simp only [if_true]
      exact numAt_middle rfl p.counter.isLt
  have check : (if p.auth then slice (pktBytes op p) (20 + p.params.length) 8 else List.replicate 8 0) = p.mac := by
    rw [show 20 + p.params.length = 16 + (p.params.length + 4) by omega, slice_add, behind]
    cases h : p.auth
    · simp_all
    · simp only [if_true]
      rw [← List.append_assoc, slice_back (by simp) mac]
  have long := pktBytes_length op mac
  simp only [parsePacket, packetLength, numAt_pktBytes_flags, numAt_pktBytes_op, numAt_pktBytes_length, numAt_pktBytes_seq, numAt_pktBytes_target,
    numAt_pktBytes_source, numAt_pktBytes_handle, auth, mcast, noReply, len, params, counter, check, pktFlags_cls, BitVec.ofNat_toNat,
    BitVec.setWidth_eq, Nat.mod_eq_of_lt hop]
  rw [if_neg (by omega)]
  obtain ⟨⟩ := p
  simp_all

/-! Segments and messages (03 R96). -/

/-- The bytes of a segment before its CRC, as a chain of fields. -/
theorem segBody_eq (g : Segment) : segBody g = leBytes 1 0x13 ++ (leBytes 1 g.kind ++ (leBytes 1 g.ctl ++ (leBytes 1 g.frag ++
    (leBytes 2 g.payload.length ++ (leBytes 2 g.dest ++ g.payload))))) := by
  simp [segBody, leBytes]

theorem segBody_length (g : Segment) : (segBody g).length = 8 + g.payload.length := by
  simp [segBody]
  omega

theorem crc32_lt (b : List Byte) : crc32 b < 2 ^ 32 := (List.foldl crc32Byte 0xFFFFFFFF b ^^^ 0xFFFFFFFF).isLt

/-- A body with its CRC behind it. -/
def sealed (b : List Byte) : List Byte := b ++ leBytes 4 (crc32 b)

theorem sealed_length (b : List Byte) : (sealed b).length = b.length + 4 := by simp [sealed]

theorem sealed_take {b : List Byte} {n : Nat} (h : b.length = n) : (sealed b).take n = b := List.take_left' h

theorem sealed_crc {b : List Byte} {n : Nat} (h : b.length = n) : numAt (sealed b) n 4 = crc32 b := by
  have last := numAt_middle (a := b) (c := []) (n := 4) h (crc32_lt b)
  rwa [List.append_nil] at last

theorem numAt_sealed {b : List Byte} {o n : Nat} (h : o + n ≤ b.length) : numAt (sealed b) o n = numAt b o n := numAt_append_left _ _ _ _ h

theorem slice_sealed {b : List Byte} {o n : Nat} (h : o + n ≤ b.length) : slice (sealed b) o n = slice b o n := by
  rw [slice, slice, sealed, List.drop_append_of_le_length (by omega), List.take_append_of_le_length (by simp; omega)]

/-- A segment within its limits reads back. -/
theorem parseSeg_segBytes {g : Segment} (kind : g.kind < 256) (ctl : g.ctl < 32) (frag : g.frag < 256) (dest : g.dest < 8192)
    (len : g.payload.length ≤ 1024) : parseSeg (segBytes g) = some g := by
  have size := segBody_length g
  have fields (o n : Nat) (h : o + n ≤ 8) : numAt (segBytes g) o n = numAt (segBody g) o n := numAt_sealed (by omega)
  have length : numAt (segBytes g) 4 2 = g.payload.length := by
    rw [fields 4 2 (by omega), segBody_eq]
    simp [numAt_skip, numAt_front]
    omega
  have crc : numAt (segBytes g) (8 + g.payload.length) 4 = crc32 ((segBytes g).take (8 + g.payload.length)) := by
    rw [segBytes, ← sealed, sealed_crc size, sealed_take size]
  have payload : slice (segBytes g) 8 g.payload.length = g.payload := by
    rw [segBytes, ← sealed, slice_sealed (by omega), segBody_eq]
    simp only [slice_skip, Nat.reduceLeDiff, Nat.reduceSub]
    exact slice_back (a := []) rfl rfl
  rw [parseSeg, length, if_pos ⟨by rw [segBytes, ← sealed, sealed_length, size]; omega, rfl, len, crc⟩, payload, fields 1 1 (by omega), fields 2 1 (by omega),
    fields 3 1 (by omega), fields 6 2 (by omega), segBody_eq]
  simp [numAt_skip, numAt_front, Nat.mod_eq_of_lt kind, Nat.mod_eq_of_lt frag, Nat.mod_eq_of_lt dest, Nat.mod_eq_of_lt ctl,
    Nat.mod_eq_of_lt (Nat.lt_trans ctl (by decide : 32 < 256)), Nat.mod_eq_of_lt (Nat.lt_trans dest (by decide : 8192 < 65536))]

/-- Segments of one KIND and DEST, numbered from `n`, whose payloads are `data` in order. -/
def Carry (kind dest n : Nat) (data : List Byte) (gs : List Segment) : Prop :=
  gs.flatMap (·.payload) = data ∧ (∀ g ∈ gs, g.kind = kind ∧ g.dest = dest) ∧ gs.map (·.frag) = List.range' n gs.length ∧ 1 ≤ gs.length

/-- The segment that a message's next fragment is, `n` before it and `data` still to go. -/
def fragment (kind cls dest : Nat) (m : Bool) (n : Nat) (data : List Byte) : Segment :=
  { kind := kind, ctl := cls + (if n = 0 then 4 else 0) + (if decide (data.length ≤ 1024) then 8 else 0) + (if m then 16 else 0)
    frag := n, dest := dest, payload := data.take 1024 }

theorem fragments_last {kind cls dest : Nat} {m : Bool} {fuel n : Nat} {data : List Byte} (h : data.length ≤ 1024) :
    fragments kind cls dest m (fuel + 1) n data = [segBytes (fragment kind cls dest m n data)] := by
  simp only [fragments, fragment, h, decide_true, if_true]

theorem fragments_more {kind cls dest : Nat} {m : Bool} {fuel n : Nat} {data : List Byte} (h : ¬ data.length ≤ 1024) :
    fragments kind cls dest m (fuel + 1) n data =
      segBytes (fragment kind cls dest m n data) :: fragments kind cls dest m fuel (n + 1) (data.drop 1024) := by
  simp only [fragments, fragment, h, decide_false, Bool.false_eq_true, if_false]

theorem parseSeg_fragment {kind cls dest : Nat} (m : Bool) (hk : kind < 256) (hc : cls < 4) (hd : dest < 8192) {n : Nat} (hn : n < 256)
    (data : List Byte) : parseSeg (segBytes (fragment kind cls dest m n data)) = some (fragment kind cls dest m n data) := by
  refine parseSeg_segBytes hk ?_ hn hd (by simp [fragment])
  dsimp only [fragment]
  split <;> split <;> split <;> omega

theorem Carry.last {kind dest n : Nat} (cls : Nat) (m : Bool) {data : List Byte} (h : data.length ≤ 1024) :
    Carry kind dest n data [fragment kind cls dest m n data] := by
  simp [Carry, fragment, List.take_of_length_le h]

theorem Carry.more {kind dest n : Nat} (cls : Nat) (m : Bool) {data : List Byte} {gs : List Segment}
    (h : Carry kind dest (n + 1) (data.drop 1024) gs) : Carry kind dest n data (fragment kind cls dest m n data :: gs) := by
  obtain ⟨payload, same, frag, -⟩ := h
  refine ⟨?_, ?_, ?_, by simp⟩
  · rw [List.flatMap_cons, payload, fragment, List.take_append_drop]
  · exact List.forall_mem_cons.mpr ⟨⟨rfl, rfl⟩, same⟩
  · rw [List.map_cons, frag, List.length_cons, List.range'_succ]
    rfl

/-- The fragments of a message read back as segments that carry it. -/
theorem fragments_parse {kind cls dest : Nat} (m : Bool) (hk : kind < 256) (hc : cls < 4) (hd : dest < 8192) (fuel n : Nat)
    (data : List Byte) (enough : data.length < 1024 * fuel) (hn : n < 256) (few : 1024 * n + data.length ≤ 262144) :
    ∃ gs, (fragments kind cls dest m fuel n data).map parseSeg = gs.map some ∧ Carry kind dest n data gs := by
  induction fuel generalizing n data with
  | zero => omega
  | succ fuel ih =>
    have front := parseSeg_fragment m hk hc hd hn data
    by_cases last : data.length ≤ 1024
    · refine ⟨[fragment kind cls dest m n data], ?_, Carry.last cls m last⟩
      rw [fragments_last last, List.map_singleton, front, List.map_singleton]
    · obtain ⟨gs, parsed, carried⟩ := ih (n + 1) (data.drop 1024) (by simp; omega) (by omega) (by simp; omega)
      refine ⟨fragment kind cls dest m n data :: gs, ?_, carried.more cls m⟩
      rw [fragments_more last, List.map_cons, front, parsed, List.map_cons]

/-- A message reads back segment by segment. -/
theorem message_parse {kind cls dest : Nat} (m : Bool) {data : List Byte} (hk : kind < 256) (hc : cls < 4) (hd : dest < 8192)
    (few : data.length ≤ 262144) : ∃ gs, (message kind cls dest m data).map parseSeg = gs.map some ∧ Carry kind dest 0 data gs :=
  fragments_parse m hk hc hd _ 0 data (by omega) (by decide) (by omega)

/-! Tick frames (03 R89, R91, R93). -/

/-- The flags of a down tick frame, bit 0 first. -/
def DownFrame.flags (d : DownFrame) : List Bool := [d.active, d.block, d.hold, d.sgr, d.credit, d.slotOn, d.trig]

theorem DownFrame.body_eq (d : DownFrame) : d.body = leBytes 1 0x11 ++ (leBytes 1 (flagBits d.flags) ++ (leBytes 2 d.epoch ++
    (leBytes 2 d.harebell ++ (leBytes 2 (d.period % 2 ^ 15) ++ (leBytes 8 d.t1 ++ (leBytes 3 d.delay ++
    (leBytes 1 (d.tfrac % 8 + 8 * (d.trigId % 16)) ++ (leBytes 3 d.iarm ++ (leBytes 1 (d.thresh % 32 + 32 * (d.dir % 2) + 64 * b2n d.token) ++
    (leBytes 2 (d.share % 4096) ++ (leBytes 2 (d.frac % 4096) ++ d.slot))))))))))) := by
  have flags : flagBits d.flags = b2n d.active + 2 * b2n d.block + 4 * b2n d.hold + 8 * b2n d.sgr + 16 * b2n d.credit +
      32 * b2n d.slotOn + 64 * b2n d.trig := by
    simp only [flagBits, DownFrame.flags]
    omega
  simp only [DownFrame.body, flags, List.append_assoc]
  rfl

theorem DownFrame.body_length {d : DownFrame} (slot : d.slot.length = 32) : d.body.length = 60 := by simp [DownFrame.body_eq, slot]

/-- A body of 60 bytes sealed by its CRC, with the FTYPE of a down frame first, is a valid down frame. -/
theorem downValid_bytes {d : DownFrame} (slot : d.slot.length = 32) : downValid d.bytes = true := by
  have length := DownFrame.body_length slot
  rw [downValid, DownFrame.bytes, ← sealed, sealed_length, length, sealed_take length, sealed_crc length]
  simp [sealed, DownFrame.body]

theorem DownFrame.numAt_eq {d : DownFrame} (slot : d.slot.length = 32) {o n : Nat} (h : o + n ≤ 60) : numAt d.bytes o n = numAt d.body o n :=
  numAt_sealed (by rw [DownFrame.body_length slot]; exact h)

theorem DownFrame.slice_slot {d : DownFrame} (slot : d.slot.length = 32) : slice d.bytes 28 32 = d.slot := by
  rw [DownFrame.bytes, ← sealed, slice_sealed (DownFrame.body_length slot).ge, DownFrame.body_eq]
  simp only [slice_skip, Nat.reduceLeDiff, Nat.reduceSub]
  exact slice_back (a := []) rfl slot

/-- The flags in a byte read back. -/
theorem bit_flagBits_mod {l : List Bool} (h : l.length ≤ 8) (i : Nat) : bit (flagBits l % 256) i = l.getD i false := by
  have small : flagBits l < 256 := Nat.lt_of_lt_of_le (flagBits_lt l) (Nat.pow_le_pow_right (by decide) h)
  rw [Nat.mod_eq_of_lt small, bit_flagBits]

/-- A down tick frame whose fields fit reads back. -/
theorem parseDown_bytes {d : DownFrame} (epoch : d.epoch < 2 ^ 16) (harebell : d.harebell < 2 ^ 16) (period : d.period < 2 ^ 15)
    (t1 : d.t1 < 2 ^ 64) (delay : d.delay < 2 ^ 24) (tfrac : d.tfrac < 8) (trigId : d.trigId < 16) (iarm : d.iarm < 2 ^ 24)
    (thresh : d.thresh < 32) (dir : d.dir < 2) (share : d.share < 4096) (frac : d.frac < 4096) (slot : d.slot.length = 32) :
    parseDown d.bytes = d := by
  have fields {o n : Nat} (h : o + n ≤ 60) := DownFrame.numAt_eq slot h
  have flag (i : Nat) : bit (flagBits d.flags % 256) i = d.flags.getD i false := bit_flagBits_mod (by simp [DownFrame.flags]) i
  have token : bit ((d.thresh % 32 + 32 * (d.dir % 2) + 64 * b2n d.token) % 256) 6 = d.token := by
    have small := b2n_lt d.token
    rw [bit, show (d.thresh % 32 + 32 * (d.dir % 2) + 64 * b2n d.token) % 256 / 2 ^ 6 % 2 = b2n d.token by omega, b2n_beq_one]
  simp only [parseDown, fields, DownFrame.slice_slot slot, DownFrame.body_eq, numAt_skip, numAt_front, Nat.reduceLeDiff, Nat.reduceSub, Nat.reduceAdd, Nat.reducePow,
    flag, token]
  obtain ⟨⟩ := d
  simp only [DownFrame.mk.injEq]
  dsimp only [DownFrame.flags] at *
  simp only [List.getD_cons_zero, List.getD_cons_succ, and_true, true_and]
  omega

/-- The flags of an up tick frame, bit 0 first, and those of its byte 78. -/
def UpFrame.flags (u : UpFrame) : List Bool := [u.active, u.slotOn, u.creditReq, u.fault, u.trigReq, u.held]
def UpFrame.witFlags (u : UpFrame) : List Bool := [u.follow, u.witA, u.witB]

theorem UpFrame.body_eq (u : UpFrame) : u.body = leBytes 1 0x12 ++ (leBytes 1 (flagBits u.flags) ++ (leBytes 2 u.epoch ++
    (leBytes 2 (u.addr % 8192) ++ (leBytes 2 u.hbEcho ++ (u.tally.flatMap (leBytes 2) ++ (leBytes 2 u.avail ++ (leBytes 2 u.unavail ++
    (leBytes 2 u.stale ++ (leBytes 1 (flagBits u.witFlags) ++ (leBytes 1 (u.state % 16 + 16 * (u.sev % 4)) ++ (leBytes 3 u.turn ++
    (leBytes 2 u.asym ++ (leBytes 1 u.tmax ++ (leBytes 4 u.vsum ++ (leBytes 2 u.fcount ++ u.slot))))))))))))))) := by
  have flags : flagBits u.flags = b2n u.active + 2 * b2n u.slotOn + 4 * b2n u.creditReq + 8 * b2n u.fault + 16 * b2n u.trigReq +
      32 * b2n u.held := by
    simp only [flagBits, UpFrame.flags]
    omega
  have wit : flagBits u.witFlags = b2n u.follow + 2 * b2n u.witA + 4 * b2n u.witB := by
    simp only [flagBits, UpFrame.witFlags]
    omega
  simp only [UpFrame.body, flags, wit, List.append_assoc, List.flatMap_def]
  rfl

theorem pairs_length (l : List Nat) : (l.flatMap (leBytes 2)).length = 2 * l.length := by
  simp [List.length_flatMap]
  omega

/-- Numbers of two bytes in a row read back. -/
theorem numAt_pairs (l : List Nat) (c : List Byte) {i : Nat} (hi : i < l.length) :
    numAt (l.flatMap (leBytes 2) ++ c) (2 * i) 2 = l[i] % 65536 := by
  induction l generalizing i with
  | nil => simp at hi
  | cons x l ih =>
    rw [List.flatMap_cons, List.append_assoc]
    cases i with
    | zero => exact numAt_front _
    | succ i =>
      rw [numAt_skip _ (by omega), Nat.mul_succ, Nat.add_sub_cancel, ih (by simpa using hi)]
      rfl

theorem numAt_pairs_skip {l : List Nat} (hl : l.length = 32) {o k : Nat} (c : List Byte) (h : 64 ≤ o) :
    numAt (l.flatMap (leBytes 2) ++ c) o k = numAt c (o - 64) k := by
  have length := pairs_length l
  rw [numAt_append_right _ _ _ _ (by omega), length, hl]

theorem slice_pairs_skip {l : List Nat} (hl : l.length = 32) {o k : Nat} (c : List Byte) (h : 64 ≤ o) :
    slice (l.flatMap (leBytes 2) ++ c) o k = slice c (o - 64) k := by
  have length := pairs_length l
  rw [slice, slice, List.drop_append, List.drop_eq_nil_of_le (by omega), List.nil_append, length, hl]

theorem UpFrame.body_length {u : UpFrame} (tally : u.tally.length = 32) (slot : u.slot.length = 32) : u.body.length = 124 := by
  simp [UpFrame.body_eq, pairs_length, tally, slot, -List.length_flatMap]

theorem upValid_bytes {u : UpFrame} (tally : u.tally.length = 32) (slot : u.slot.length = 32) : upValid u.bytes = true := by
  have length := UpFrame.body_length tally slot
  rw [upValid, UpFrame.bytes, ← sealed, sealed_length, length, sealed_take length, sealed_crc length]
  simp [sealed, UpFrame.body]

/-- An up tick frame whose fields fit reads back. -/
theorem parseUp_bytes {u : UpFrame} (epoch : u.epoch < 2 ^ 16) (addr : u.addr < 8192) (hbEcho : u.hbEcho < 2 ^ 16)
    (tally : u.tally.length = 32) (bins : ∀ x ∈ u.tally, x < 2 ^ 16) (avail : u.avail < 2 ^ 16) (unavail : u.unavail < 2 ^ 16)
    (stale : u.stale < 2 ^ 16) (state : u.state < 16) (sev : u.sev < 4) (turn : u.turn < 2 ^ 24) (asym : u.asym < 2 ^ 16)
    (tmax : u.tmax < 256) (vsum : u.vsum < 2 ^ 32) (fcount : u.fcount < 2 ^ 16) (slot : u.slot.length = 32) : parseUp u.bytes = u := by
  have length := UpFrame.body_length tally slot
  have fields {o n : Nat} (h : o + n ≤ 124) : numAt u.bytes o n = numAt u.body o n := numAt_sealed (by rw [length]; exact h)
  have flag (i : Nat) : bit (flagBits u.flags % 256) i = u.flags.getD i false := bit_flagBits_mod (by simp [UpFrame.flags]) i
  have wit (i : Nat) : bit (flagBits u.witFlags % 256) i = u.witFlags.getD i false := bit_flagBits_mod (by simp [UpFrame.witFlags]) i
  have taken : slice u.bytes 92 32 = u.slot := by
    rw [UpFrame.bytes, ← sealed, slice_sealed length.ge, UpFrame.body_eq]
    simp only [slice_skip, slice_pairs_skip tally, Nat.reduceLeDiff, Nat.reduceSub]
    exact slice_back (a := []) rfl slot
  have counted : (List.range 32).map (fun i => numAt u.bytes (8 + 2 * i) 2) = u.tally := by
    refine List.ext_getElem (by simp [tally]) fun i _ hi => ?_
    have skip : 8 + 2 * i - 1 - 1 - 2 - 2 - 2 = 2 * i := by omega
    rw [List.getElem_map, List.getElem_range, fields (by omega), UpFrame.body_eq, numAt_skip _ (by omega), numAt_skip _ (by omega),
      numAt_skip _ (by omega), numAt_skip _ (by omega), numAt_skip _ (by omega), skip, numAt_pairs _ _ hi]
    exact Nat.mod_eq_of_lt (bins _ (List.getElem_mem hi))
  simp only [parseUp, counted, fields, taken, UpFrame.body_eq, numAt_skip, numAt_pairs_skip tally, numAt_front, Nat.reduceLeDiff, Nat.reduceSub,
    Nat.reduceAdd, Nat.reducePow, flag, wit]
  obtain ⟨⟩ := u
  simp only [UpFrame.mk.injEq]
  dsimp only [UpFrame.flags, UpFrame.witFlags] at *
  simp only [List.getD_cons_zero, List.getD_cons_succ, and_true, true_and]
  omega

/-! Handles and opcodes (04 R120, R136). -/

theorem handleWord_fields {ty i g : Nat} (hty : ty < 64) (hi : i < 16384) (hg : g < 4096) :
    hType (handleWord ty i g) = ty ∧ hIndex (handleWord ty i g) = i ∧ hGen (handleWord ty i g) = g := by
  simp only [hType, hIndex, hGen, handleWord, bits, BitVec.toNat_ofNat]
  omega

/-- Every opcode is found in the tables by its code. -/
theorem opRow_opcodeOf {i : Instr} {r : OpRow} {p : Packet} (h : opcodeOf i = some (r, p)) : opRow r.code = some r := by
  cases i <;> cases h <;> rfl

/-- Settles O59: each layout is a chain of fields, read back one by one; a message by induction over its fragments. -/
theorem encodingsRoundTrip : Obligations.EncodingsRoundTrip := by
  unfold Obligations.EncodingsRoundTrip
  refine ⟨fun op p hop wf slot lane => parsePacket_pktBytes hop wf slot lane, fun g kind ctl frag dest len => parseSeg_segBytes kind ctl frag dest len,
    fun kind cls dest m data hk hc hd few => ?_, fun d h1 h2 h3 h4 h5 h6 h7 h8 h9 h10 h11 h12 slot =>
      ⟨downValid_bytes slot, parseDown_bytes h1 h2 h3 h4 h5 h6 h7 h8 h9 h10 h11 h12 slot⟩,
    fun u h1 h2 h3 tally h4 h5 h6 h7 h8 h9 h10 h11 h12 h13 h14 slot =>
      ⟨upValid_bytes tally slot, parseUp_bytes h1 h2 h3 tally h4 h5 h6 h7 h8 h9 h10 h11 h12 h13 h14 slot⟩,
    fun ty i g hty hi hg => handleWord_fields hty hi hg, fun i r p h => opRow_opcodeOf h⟩
  obtain ⟨gs, parsed, payload, same, frag, some⟩ := message_parse m hk hc hd few
  exact ⟨gs, parsed, payload, same, frag.trans List.range_eq_range'.symm, some⟩

end Sys2Proof.Machine
end

section
/-!
SUPPORT. Lanes (03 R74 to R87): what the entry of a lane state leaves of the lane, and what each event of the bring-up does to it.
-/
namespace Sys2Proof.Machine
open Sys2Proof

/-! Fields read after a write. -/

theorem State.on_setF_one (s : State) (x : Fld) (h : x.ok = true) (width : x.hi = x.lo) : (s.setF x 1).on x = true := by
  rw [State.on, State.f_setF_same _ _ _ h, width]
  simp

theorem State.on_setF_zero (s : State) (x : Fld) (h : x.ok = true) : (s.setF x 0).on x = false := by
  rw [State.on, State.f_setF_same _ _ _ h, Nat.zero_mod]
  rfl

/-- A field written with a value that fits it. -/
theorem State.f_setF_of_lt (s : State) (x : Fld) {v : Nat} (h : x.ok = true) (fits : v < 2 ^ (x.hi + 1 - x.lo)) : (s.setF x v).f x = v := by
  rw [State.f_setF_same _ _ _ h, Nat.mod_eq_of_lt fits]

theorem State.on_setF_apart (s : State) (x y : Fld) (v : Nat) (hx : x.ok = true) (hy : y.ok = true) (h : x.apart y = true) :
    (s.setF x v).on y = s.on y := by
  rw [State.on, State.on, State.f_setF_apart _ _ _ _ hx hy h]

theorem Touches.on {ps : List Part} {l : List Nat} {s t : State} (h : Touches ps l s t) {x : Fld} (hx : x.addr ∉ l) : t.on x = s.on x := by
  rw [State.on, State.on, h.f hx]

theorem Touches.lane {ps : List Part} {l : List Nat} {s t : State} (h : Touches ps l s t) (hc : .lanes ∉ ps) (n : Nat) : t.lane n = s.lane n := by
  rw [State.lane, State.lane, h.lanes hc]

theorem Touches.now {ps : List Part} {l : List Nat} {s t : State} (h : Touches ps l s t) (hc : .clk ∉ ps) : t.now = s.now := by
  rw [State.now, State.now, h.clk hc]

/-- A lane's status register stands at an offset of its own in the 400h bytes of a lane. -/
theorem notMem_status {a : Nat} (n : Nat) (h : a % 1024 ≠ 4) : a ∉ [A.LANE_STATUS n] := by
  rw [List.mem_singleton, A.LANE_STATUS]
  omega

/-- Moving on to an instant sets the clocks alone. -/
theorem reachNow_eq (s : State) (t : Nat) : s.reachNow t = { s with clk := (s.reachNow t).clk } := by
  unfold State.reachNow
  split <;> rfl

theorem reachNow_laneSt (s : State) (t n : Nat) : (s.reachNow t).laneSt n = s.laneSt n := (reachNow_touch s t).f (by simp)

theorem reachNow_mayPower (s : State) (t n : Nat) : (s.reachNow t).mayPower n = s.mayPower n := by
  rw [reachNow_eq]
  rfl

theorem reachNow_f (s : State) (t : Nat) (x : Fld) : (s.reachNow t).f x = s.f x := (reachNow_touch s t).f (by simp)

theorem reachNow_rateBelow (s : State) (t n below : Nat) : (s.reachNow t).rateBelow n below = s.rateBelow n below := by
  rw [State.rateBelow, State.rateBelow, reachNow_f]

theorem reachNow_startRate (s : State) (t n : Nat) : (s.reachNow t).startRate n = s.startRate n := by
  rw [reachNow_eq]
  rfl

/-! A lane enters a state (`State.laneTo`). -/

/-- A lane stops, before what it holds is dropped. -/
def State.laneStopped (s : State) (n st : Nat) : State :=
  let s := s.when (s.laneSt n == 6) (fun s => s.endTest n)
  let s := s.when (s.laneSt n == 8) (fun s => s.setF (F.LANE_STATUS_AN_DONE n) 0)
  let s := (s.lane n).txq.foldl (fun s t => s.trendDropped t) s
  let s := (s.setF (F.LANE_STATUS_STATE n) st).setF (F.LANE_STATUS_ALIGNED n) 0
  s.when (st == 0 || st == 1 || st == 2) (fun s => s.setF (F.LANE_STATUS_SIGNAL n) 0)

theorem laneTo_eq (s : State) (n st : Nat) : s.laneTo n st = (s.laneStopped n st).updLane n
    (fun l => { l.quiet with since := (s.laneStopped n st).now, modRead := l.modRead && st != 0, survey := l.survey && st != 0 }) := rfl

theorem laneStopped_touch (s : State) (n st : Nat) : Touches [.recorder] (laneRegs n) s (s.laneStopped n st) := by
  have field (u : State) (x : Fld) (v : Nat) (h : x.addr = A.LANE_STATUS n) : Touches [.recorder] (laneRegs n) u (u.setF x v) :=
    touch_field u x v (by rw [h]; simp [laneRegs])
  refine ((((when_touch _ _ _ fun _ => ?test).trans (when_touch _ _ _ fun _ => field _ _ _ rfl)).trans
    ((trendsDropped_touch _ _).mono (by simp) (by simp))).trans ((field _ _ _ rfl).trans (field _ _ _ rfl))).trans
    (when_touch _ _ _ fun _ => field _ _ _ rfl)
  case test => exact (endTest_touch _ _).mono (by simp) (by simp [laneRegs])

/-- What a lane keeps as it enters a state. -/
theorem laneTo_lane (s : State) (n st : Nat) : (s.laneTo n st).lane n =
    { (s.lane n).quiet with since := s.now, modRead := (s.lane n).modRead && st != 0, survey := (s.lane n).survey && st != 0 } := by
  have stopped := laneStopped_touch s n st
  rw [laneTo_eq, State.lane_updLane_same, stopped.lane (by simp), stopped.now (by simp)]

/-! POWER_UP_SLOT (R75). -/

/-- A power-up slot is taken now. -/
def State.slotTaken (s : State) : State :=
  { s with node.pendAt := s.node.pendAt.filter (fun t => decide (s.now < t + 10000)) ++ [s.now] }

theorem slotTaken_touch (s : State) : Touches [.node] [] s s.slotTaken := touch_node s _

/-- The lane that takes a power-up slot enters PWR. -/
def State.poweredUp (s : State) (n : Nat) : State := s.slotTaken.enterPwr n (s.startRate n)

theorem poweredUp_lane (s : State) (n : Nat) : (s.poweredUp n).lane n = { (s.lane n).quiet with since := s.now } := by
  rw [State.poweredUp, enterPwr_lane, laneTo_lane, show ((2 : Nat) != 0) = true from rfl, Bool.and_true, Bool.and_true]
  rfl

section
variable {s : State} {n : Nat} (found : laneNumbers.find? (fun k => s.laneSt k == 1) = some n)
  (few : (s.node.pendAt.filter (fun t => decide (s.now < t + 10000))).length < 4)
include found

theorem found_pend : s.laneSt n = 1 := by simpa using List.find?_some found

include few in
theorem onPowerUpSlot_found (answer : Option (List Byte)) :
    onPowerUpSlot answer s = if ((s.poweredUp n).lane n).modRead then s.poweredUp n else (s.poweredUp n).identify n answer := by
  simp only [onPowerUpSlot, found, if_neg (Nat.not_le.mpr few)]
  rfl

theorem poweredUp_touch : Touches [.lanes, .recorder, .node] [A.LANE_STATUS n, A.LANE_EQ n] s (s.poweredUp n) := by
  have pend : s.slotTaken.laneSt n ≠ 6 := by
    have : s.slotTaken.laneSt n = s.laneSt n := rfl
    rw [this, found_pend found]
    decide
  exact ((slotTaken_touch s).mono (by simp) (by simp)).then (enterPwr_touch _ n _ pend) (by simp) (by simp)

end

/-- A lane whose commas are found. -/
def State.commaFound (s : State) (n : Nat) : State := s.setF (F.LANE_STATUS_ALIGNED n) 1

theorem commaFound_touch (s : State) (n : Nat) : Touches [] [A.LANE_STATUS n] s (s.commaFound n) := touch_setF _ _ _

theorem commaFound_laneSt (s : State) (n : Nat) : (s.commaFound n).laneSt n = s.laneSt n := s.f_setF_apart _ _ _ rfl rfl rfl

theorem commaFound_aligned (s : State) (n : Nat) : (s.commaFound n).on (F.LANE_STATUS_ALIGNED n) = true := s.on_setF_one _ rfl rfl

/-- A lane that is no host lane goes from comma alignment to HELLO. -/
def State.toHello (s : State) (n : Nat) : State :=
  ((s.setF (F.LANE_STATUS_STATE n) 4).setF (F.LANE_STATUS_MISWIRE n) 0).updLane n
    (fun l => { l with since := s.now, hellos := 0, helloAt := s.now - 10000 })

theorem hostUp_touch (s : State) (n : Nat) : Touches [.lanes] [A.LANE_STATUS n] s (s.hostUp n) :=
  Touches.then (touch_field _ _ _ (by simp)) (touch_updLane _ _ _) (by simp) (by simp)

theorem toHello_touch (s : State) (n : Nat) : Touches [.lanes] [A.LANE_STATUS n] s (s.toHello n) :=
  Touches.then (Touches.trans (touch_field _ _ _ (by simp)) (touch_field _ _ _ (by simp))) (touch_updLane _ _ _) (by simp) (by simp)

theorem toHello_aligned (s : State) (n : Nat) : (s.toHello n).on (F.LANE_STATUS_ALIGNED n) = s.on (F.LANE_STATUS_ALIGNED n) := by
  simp [State.toHello]

theorem hostUp_aligned (s : State) (n : Nat) : (s.hostUp n).on (F.LANE_STATUS_ALIGNED n) = s.on (F.LANE_STATUS_ALIGNED n) := by
  simp [State.hostUp]

theorem onCommaAlignment_eq {s : State} {n : Fin 32} (listening : s.laneSt n = 3) : onCommaAlignment n s =
    if (s.commaFound n).f (F.LANE_CFG_MODE n) = 1 then
      if (s.commaFound n).on (F.LANE_CFG_AN_EN n) then (s.commaFound n).updLane n (fun l => { l with anPage := basePage })
      else if (s.commaFound n).macOk then (s.commaFound n).hostUp n else s.commaFound n
    else (if (s.commaFound n).uplinks.contains n.val then
      (s.commaFound n).setF (F.LANE_CFG_RATE n) ((s.commaFound n).f (F.LANE_STATUS_RATE_NOW n)) else s.commaFound n).toHello n := by
  rw [onCommaAlignment, if_neg (not_not.mpr listening)]
  rfl

section
variable {s : State} {n : Fin 32} (listening : s.laneSt n = 3)
include listening

/-- A host lane has synchronisation: it negotiates, or its link comes up. -/
theorem onCommaAlignment_host (host : s.f (F.LANE_CFG_MODE n) = 1) {t : State} (ht : onCommaAlignment n s = t) :
    t.on (F.LANE_STATUS_ALIGNED n) = true ∧ t.laneSt n = (if !s.on (F.LANE_CFG_AN_EN n) && s.macOk then 8 else 3) ∧
      (s.on (F.LANE_CFG_AN_EN n) = true → (t.lane n).anPage = 0x0020) ∧ Touches [.lanes] [A.LANE_STATUS n] s t := by
  have found := commaFound_touch s n
  have mode : (s.commaFound n).f (F.LANE_CFG_MODE n) = 1 := (found.f (by simp)).trans host
  have an : (s.commaFound n).on (F.LANE_CFG_AN_EN n) = s.on (F.LANE_CFG_AN_EN n) := found.on (by simp)
  have mac : (s.commaFound n).macOk = s.macOk := by
    rw [State.macOk, State.macOk, State.hostMac, State.hostMac, found.f (notMem_status _ (by decide)), found.f (notMem_status _ (by decide))]
  have stays : (s.commaFound n).laneSt n = 3 := (commaFound_laneSt s n).trans listening
  have wide : Touches [.lanes] [A.LANE_STATUS n] s (s.commaFound n) := found.mono (by simp) (by simp)
  rw [onCommaAlignment_eq listening, if_pos mode, an, mac] at ht
  cases an : s.on (F.LANE_CFG_AN_EN n) <;> simp only [an, if_true, Bool.false_eq_true, if_false] at ht
  · cases mac : s.macOk <;> simp only [mac, if_true, Bool.false_eq_true, if_false] at ht <;> subst ht
    · exact ⟨commaFound_aligned s n, stays, by simp, wide⟩
    · exact ⟨(hostUp_aligned _ _).trans (commaFound_aligned s n), by simp [State.hostUp, State.laneSt], by simp, wide.trans (hostUp_touch _ _)⟩
  · subst ht
    refine ⟨commaFound_aligned s n, stays, fun _ => ?_, wide.then (touch_updLane _ _ _) (by simp) (by simp)⟩
    rw [State.lane_updLane_same]
    rfl

/-- Any other lane goes to HELLO; an uplink has found its rate. -/
theorem onCommaAlignment_tree (tree : s.f (F.LANE_CFG_MODE n) ≠ 1) {t : State} (ht : onCommaAlignment n s = t) :
    t.on (F.LANE_STATUS_ALIGNED n) = true ∧ t.laneSt n = 4 ∧ t.on (F.LANE_STATUS_MISWIRE n) = false ∧ (t.lane n).hellos = 0 ∧
      (t.lane n).since = s.now ∧
      (s.uplinks.contains n.val = true →
        t.f (F.LANE_CFG_RATE n) = s.f (F.LANE_STATUS_RATE_NOW n) ∧ Touches [.lanes] [A.LANE_STATUS n, A.LANE_CFG n] s t) ∧
      (s.uplinks.contains n.val = false → Touches [.lanes] [A.LANE_STATUS n] s t) := by
  have found := commaFound_touch s n
  have mode : (s.commaFound n).f (F.LANE_CFG_MODE n) ≠ 1 := fun h => tree ((found.f (by simp)).symm.trans h)
  have uplinks : (s.commaFound n).uplinks = s.uplinks := by
    rw [State.uplinks, State.uplinks, State.isMeadow, State.isMeadow, State.role, State.role, found.f (notMem_status _ (by decide))]
    rfl
  have rate : (s.commaFound n).f (F.LANE_STATUS_RATE_NOW n) = s.f (F.LANE_STATUS_RATE_NOW n) := s.f_setF_apart _ _ _ rfl rfl rfl
  rw [onCommaAlignment_eq listening, if_neg mode, uplinks, rate] at ht
  have wide : Touches [.lanes] [A.LANE_STATUS n] s (s.commaFound n) := found.mono (by simp) (by simp)
  have now : (s.commaFound n).now = s.now := found.now (by simp)
  have hello (u : State) : (u.toHello n).laneSt n = 4 ∧ (u.toHello n).on (F.LANE_STATUS_MISWIRE n) = false ∧ ((u.toHello n).lane n).hellos = 0 := by
    simp [State.toHello, State.laneSt]
  have since (u : State) : ((u.toHello n).lane n).since = u.now := by
    rw [State.toHello, State.lane_updLane_same]
  cases uplink : s.uplinks.contains n.val <;> simp only [uplink, if_true, Bool.false_eq_true, if_false] at ht <;> subst ht
  · obtain ⟨st, miswire, hellos⟩ := hello (s.commaFound n)
    exact ⟨(toHello_aligned _ _).trans (commaFound_aligned s n), st, miswire, hellos, (since _).trans now, by simp, fun _ => wide.trans (toHello_touch _ _)⟩
  · have kept := touch_setF (s.commaFound n) (F.LANE_CFG_RATE n) (s.f (F.LANE_STATUS_RATE_NOW n))
    have rate := f_lt s (F.LANE_STATUS_RATE_NOW n)
    obtain ⟨st, miswire, hellos⟩ := hello ((s.commaFound n).setF (F.LANE_CFG_RATE n) (s.f (F.LANE_STATUS_RATE_NOW n)))
    refine ⟨?_, st, miswire, hellos, (since _).trans now, fun _ => ⟨?_, ?_⟩, by simp⟩
    · exact (toHello_aligned _ _).trans ((kept.on (by simp)).trans (commaFound_aligned s n))
    · exact ((toHello_touch _ n).f (by simp)).trans (State.f_setF_of_lt _ _ rfl rate)
    · exact Touches.trans (.trans (wide.mono (by simp) (by simp)) (kept.mono (by simp) (by simp))) ((toHello_touch _ _).mono (by simp) (by simp))

end

/-! HELLO_TIMER (R74, R97). -/

/-- What queueing a segment leaves of its lane but for the segments that wait and the count of those discarded. -/
theorem queueTx_lane (s : State) (n : Nat) (x : TxItem) :
    ∃ q d, (s.queueTx n x).lane n = { s.lane n with txq := q, dropAt := d } := by
  rw [State.queueTx]
  split
  · exact ⟨_, _, State.lane_updLane_same _ _ _⟩
  · let l := slide 1000000000 s.now (s.lane n).dropAt
    refine ⟨(s.lane n).txq, if 16 ≤ l.length then [] else l, ?_⟩
    rw [State.dropSegment, (touch_raiseIf _ _ _).lane (by simp), State.lane_updLane_same, (touch_bump _ _).lane (by simp)]

/-- The instant of a HELLO, noted on its lane. -/
def State.helloDue (s : State) (n t : Nat) : State := (s.reachNow t).updLane n (fun l => { l with helloAt := (s.reachNow t).now })

theorem helloDue_touch (s : State) (n t : Nat) : Touches [.lanes, .clk] [] s (s.helloDue n t) :=
  Touches.then ((reachNow_touch s t).mono (by simp) (by simp)) (touch_updLane _ _ _) (by simp) (by simp)

theorem helloDue_lane (s : State) (n t : Nat) : (s.helloDue n t).lane n = { s.lane n with helloAt := (s.helloDue n t).now } := by
  rw [State.helloDue, State.lane_updLane_same, reachNow_lane]
  rfl

theorem reachNow_helloPayload (s : State) (t n : Nat) : (s.reachNow t).helloPayload n = s.helloPayload n := by
  rw [reachNow_eq]
  rfl

theorem queued_eq_sum (q : List TxItem) : queued q = (q.map TxItem.size).sum := List.sum_eq_foldl.symm

theorem queued_filter_le (q : List TxItem) (p : TxItem → Bool) : queued (q.filter p) ≤ queued q := by
  rw [queued_eq_sum, queued_eq_sum]
  exact (List.filter_sublist.map _).sum_le_sum fun _ _ => Nat.zero_le _

/-- A HELLO finds room in a buffer of no more than 14,000 bytes. -/
theorem roomFor_hello {q : List TxItem} {x : TxItem} (few : queued q ≤ 14000) (small : x.bytes.length ≤ 300) : roomFor q x = true := by
  have part := queued_filter_le q (fun x => x.prio != 2)
  rw [roomFor, Bool.and_eq_true, Bool.or_eq_true]
  have size : x.size = x.bytes.length := rfl
  exact ⟨decide_eq_true (by omega), .inr (decide_eq_true (by omega))⟩

section
variable {s : State} (on : s.running = true) (n : Fin 32)

theorem enterPwr_eq (s : State) (n r : Nat) : (s.enterPwr n r).reg (A.LANE_EQ n) = BitVec.ofNat 32 (Map.get 0x3820 ((s.laneTo n 2).lane n).eq r) := by
  simp only [State.enterPwr, State.reg_setReg_same, State.lane, State.setF_lanes]

include on

theorem powerUpSlot_known (answer : Option (List Byte)) (found : laneNumbers.find? (fun k => s.laneSt k == 1) = some n.val)
    (few : (s.node.pendAt.filter (fun t => decide (s.now < t + 10000))).length < 4) (known : (s.lane n).modRead = true) :
    ∃ t : State, exec (.powerUpSlot answer) s = .next t.wrapUp ∧ t.laneSt n = 2 ∧ t.f (F.LANE_STATUS_RATE_NOW n) = s.startRate n % 4 ∧
      t.reg (A.LANE_EQ n) = BitVec.ofNat 32 (Map.get 0x3820 (s.lane n).eq (s.startRate n)) ∧
      (t.lane n).since = s.now ∧ t.node.pendAt.getLast? = some s.now ∧
      Touches [.lanes, .recorder, .node] [A.LANE_STATUS n, A.LANE_EQ n] s t := by
  have powered : onPowerUpSlot answer s = s.poweredUp n := by
    rw [onPowerUpSlot_found found few, poweredUp_lane, if_pos (by exact known)]
  refine ⟨_, runEvent_of_eq on powered, enterPwr_st _ _ _, enterPwr_rate _ _ _, ?profile, by rw [poweredUp_lane], ?slot, poweredUp_touch found⟩
  case profile =>
    rw [State.poweredUp, enterPwr_eq, laneTo_lane]
    rfl
  case slot =>
    have node : (s.poweredUp n).node = s.slotTaken.node := (enterPwr_touch s.slotTaken n _ (by
      rw [show s.slotTaken.laneSt n = s.laneSt n from rfl, found_pend found]; decide)).1 .node (by simp)
    rw [node]
    exact List.getLast?_concat

theorem signalDetect_seen (pwr : s.laneSt n = 2) (inTime : s.now ≤ (s.lane n).since + 50000) :
    ∃ t : State, exec (.signalDetect n) s = .next t.wrapUp ∧ t.laneSt n = 3 ∧ t.on (F.LANE_STATUS_SIGNAL n) = true ∧
      (t.lane n).since = s.now ∧ Touches [.lanes] [A.LANE_STATUS n] s t := by
  refine ⟨_, runEvent_of_eq on (if_pos ⟨pwr, inTime⟩), by simp [State.laneSt], by simp, ?_, ?_⟩
  · rw [State.lane_updLane_same]
  · exact Touches.then (Touches.trans (touch_field _ _ _ (by simp)) (touch_field _ _ _ (by simp))) (touch_updLane _ _ _) (by simp) (by simp)

theorem pwrTimeout_down (pwr : s.laneSt n = 2) :
    ∃ t : State, exec (.pwrTimeout n) s = .next t.wrapUp ∧ t.laneSt n = 7 ∧ (s.lane n).since + 50000 ≤ t.now ∧ (t.lane n).since = t.now ∧
      Touches [.lanes, .recorder, .clk] [A.LANE_STATUS n] s t := by
  have reached := reachNow_touch s ((s.lane n).since + 50000)
  refine ⟨_, runEvent_of_eq on (if_pos pwr), laneTo_st _ _ _ (by decide), ?_, ?_, ?_⟩
  · rw [laneTo_now]
    exact reachNow_le _ _
  · rw [laneTo_now, laneTo_lane]
  · have untested : (s.reachNow ((s.lane n).since + 50000)).laneSt n ≠ 6 := by
      rw [State.laneSt, reached.f (by simp), ← State.laneSt, pwr]
      decide
    exact Touches.then (reached.mono (by simp) (by simp)) (laneTo_touch_status _ _ _ untested) (by simp) (by simp)

theorem downWaitEnd_leaves (down : s.laneSt n = 7) :
    ∃ t : State, exec (.downWaitEnd n) s = .next t.wrapUp ∧ t.laneSt n = (if s.mayPower n then 1 else 0) ∧
      (s.lane n).since + 1000000 ≤ t.now ∧ Touches [.lanes, .recorder, .clk] [A.LANE_STATUS n] s t := by
  have reached := reachNow_touch s ((s.lane n).since + 1000000)
  have left : onDownWaitEnd n s = (s.reachNow ((s.lane n).since + 1000000)).laneTo n (if s.mayPower n then 1 else 0) := by
    rw [apply_ite (State.laneTo _ _), ← reachNow_mayPower s ((s.lane n).since + 1000000)]
    exact if_pos down
  have untested : (s.reachNow ((s.lane n).since + 1000000)).laneSt n ≠ 6 := by
    rw [reachNow_laneSt, down]
    decide
  refine ⟨_, runEvent_of_eq on left, laneTo_st _ _ _ (by split <;> decide), ?_,
    Touches.then (reached.mono (by simp) (by simp)) (laneTo_touch_status _ _ _ untested) (by simp) (by simp)⟩
  rw [laneTo_now]
  exact reachNow_le _ _

theorem rateScan_next (listening : s.laneSt n = 3) (uplink : s.uplinks.contains n.val = true) :
    ∃ t : State, exec (.rateScan n) s = .next t.wrapUp ∧ t.laneSt n = 2 ∧
      t.f (F.LANE_STATUS_RATE_NOW n) = (s.rateBelow n (s.f (F.LANE_STATUS_RATE_NOW n))).getD (s.startRate n) % 4 ∧
      (s.lane n).since + 2000000 ≤ t.now ∧ Touches [.lanes, .recorder, .clk] [A.LANE_STATUS n, A.LANE_EQ n] s t := by
  have reached := reachNow_touch s ((s.lane n).since + 2000000)
  have untested : (s.reachNow ((s.lane n).since + 2000000)).laneSt n ≠ 6 := by
    rw [reachNow_laneSt, listening]
    decide
  have entered := enterPwr_touch (s.reachNow ((s.lane n).since + 2000000)) n
    ((s.rateBelow n (s.f (F.LANE_STATUS_RATE_NOW n))).getD (s.startRate n)) untested
  have next : onRateScan n s = (s.reachNow ((s.lane n).since + 2000000)).enterPwr n
      ((s.rateBelow n (s.f (F.LANE_STATUS_RATE_NOW n))).getD (s.startRate n)) := by
    have scanned : onRateScan n s = _ := if_pos ⟨listening, uplink⟩
    rw [scanned]
    dsimp only
    rw [reachNow_rateBelow, reachNow_f, reachNow_startRate]
  refine ⟨_, runEvent_of_eq on next, enterPwr_st _ _ _, enterPwr_rate _ _ _, ?_, Touches.then (reached.mono (by simp) (by simp)) entered (by simp) (by simp)⟩
  rw [entered.now (by simp)]
  exact reachNow_le _ _

theorem commaAlignment_aligned (listening : s.laneSt n = 3) :
    ∃ t : State, exec (.commaAlignment n) s = .next t.wrapUp ∧ t.on (F.LANE_STATUS_ALIGNED n) = true ∧
      (s.f (F.LANE_CFG_MODE n) = 1 → t.laneSt n = (if !s.on (F.LANE_CFG_AN_EN n) && s.macOk then 8 else 3) ∧
        (s.on (F.LANE_CFG_AN_EN n) = true → (t.lane n).anPage = 0x0020) ∧ Touches [.lanes] [A.LANE_STATUS n] s t) ∧
      (s.f (F.LANE_CFG_MODE n) ≠ 1 → t.laneSt n = 4 ∧ t.on (F.LANE_STATUS_MISWIRE n) = false ∧ (t.lane n).hellos = 0 ∧ (t.lane n).since = s.now ∧
        (s.uplinks.contains n.val = true →
          t.f (F.LANE_CFG_RATE n) = s.f (F.LANE_STATUS_RATE_NOW n) ∧ Touches [.lanes] [A.LANE_STATUS n, A.LANE_CFG n] s t) ∧
        (s.uplinks.contains n.val = false → Touches [.lanes] [A.LANE_STATUS n] s t)) := by
  refine ⟨_, runEvent_of_eq on rfl, ?_⟩
  by_cases host : s.f (F.LANE_CFG_MODE n) = 1
  · obtain ⟨aligned, up⟩ := onCommaAlignment_host listening host rfl
    exact ⟨aligned, fun _ => up, fun tree => absurd host tree⟩
  · obtain ⟨aligned, hello⟩ := onCommaAlignment_tree listening host rfl
    exact ⟨aligned, fun h => absurd h host, fun _ => hello⟩

theorem helloTimer_sends (hello : s.laneSt n = 4 ∨ s.laneSt n = 5) :
    ∃ t : State, exec (.helloTimer n) s = .next t.wrapUp ∧ (t.lane n).helloAt = t.now ∧
      (s.lane n).helloAt + (if s.laneSt n = 4 then 10000 else 1000000) ≤ t.now ∧
      (queued (s.lane n).txq ≤ 14000 →
        ∃ x, (t.lane n).txq = (s.lane n).txq ++ [x] ∧
          x.bytes = segBytes { kind := KIND.HELLO, ctl := 12, frag := 0, dest := 0, payload := s.helloPayload n }) ∧
      Touches [.lanes, .clk, .hub] [A.LANE_SEG n] s t := by
  let t := (s.lane n).helloAt + (if s.laneSt n = 4 then 10000 else 1000000)
  let seg : Segment := { kind := KIND.HELLO, ctl := 12, frag := 0, dest := 0, payload := s.helloPayload n }
  have due := helloDue_touch s n t
  have sent : onHelloTimer n s = (s.helloDue n t).queueTx n { prio := 1, bytes := segBytes seg } := by
    have sends : onHelloTimer n s = (s.helloDue n t).sendSeg n KIND.HELLO 0 0 ((s.reachNow t).helloPayload n) := if_pos hello
    rw [sends, reachNow_helloPayload]
    rfl
  have queue := queueTx_touch (s.helloDue n t) n { prio := 1, bytes := segBytes seg }
  obtain ⟨q, d, lane⟩ := queueTx_lane (s.helloDue n t) n { prio := 1, bytes := segBytes seg }
  refine ⟨_, runEvent_of_eq on sent, ?_, ?_, ?_, ?_⟩
  · rw [lane, queue.now (by simp), helloDue_lane]
  · rw [queue.now (by simp)]
    exact reachNow_le s t
  · intro few
    have waiting : ((s.helloDue n t).lane n).txq = (s.lane n).txq := by rw [helloDue_lane]
    have small : (segBytes seg).length ≤ 300 := by simp [segBytes, segBody_length, seg, State.helloPayload]
    refine ⟨_, (queueTx_room _ _ _ (roomFor_hello (by rw [waiting]; exact few) small)).trans (by rw [waiting]), rfl⟩
  · exact Touches.then (due.mono (by simp) (by simp)) queue (by simp) (by simp)

end

/-- Settles O1: each event's clause, over any lane in the state it names. -/
theorem laneBringUp : Obligations.LaneBringUp := by
  unfold Obligations.LaneBringUp
  intro n s on
  exact ⟨powerUpSlot_known on n, signalDetect_seen on n, pwrTimeout_down on n, commaAlignment_aligned on n, rateScan_next on n,
    downWaitEnd_leaves on n, helloTimer_sends on n⟩

end Sys2Proof.Machine
end

section
/-!
SUPPORT. Lanes that leave UP (03 R79, R80, R105): each step of `State.lowerLane` and `State.fallBack` by what it keeps, then the events
that take a lane to DOWN.
-/
namespace Sys2Proof.Machine
open Sys2Proof

/-! What a step keeps of a lane's status register. -/

theorem State.f_when {s : State} {c : Bool} {g : State → State} {x : Fld} (h : (g s).f x = s.f x) : (s.when c g).f x = s.f x := by
  cases c
  · rfl
  · exact h

/-- The registers of a lane stand at offsets of their own in its 400h bytes. -/
theorem laneReg_ne {a b : Nat} (n : Nat) (h : a % 1024 ≠ b % 1024) : a + 0x400 * n ≠ b + 0x400 * n := by omega

theorem endTest_f (s : State) {n : Nat} {x : Fld} (here : x.addr = A.LANE_STATUS n) : (s.endTest n).f x = s.f x :=
  (endTest_touch s n).f (by rw [here]; simp)

/-- A lane about to stop: its pattern test has ended, and the negotiation of a host link is undone. -/
def State.linkUndone (s : State) (n : Nat) : State :=
  let s := s.when (s.laneSt n == 6) (fun s => s.endTest n)
  s.when (s.laneSt n == 8) (fun s => s.setF (F.LANE_STATUS_AN_DONE n) 0)

theorem linkUndone_f (s : State) {n : Nat} {x : Fld} (ok : x.ok = true) (here : x.addr = A.LANE_STATUS n)
    (done : (F.LANE_STATUS_AN_DONE n).apart x = true) : (s.linkUndone n).f x = s.f x :=
  (State.f_when (State.f_setF_apart _ _ _ _ rfl ok done)).trans (State.f_when (endTest_f s here))

/-- The link of a host lane is undone. -/
theorem linkUndone_host {s : State} {n : Nat} (host : s.laneSt n = 8) : (s.linkUndone n).on (F.LANE_STATUS_AN_DONE n) = false := by
  have untested : s.when (s.laneSt n == 6) (fun s => s.endTest n) = s := if_neg (by simp [host])
  have undone : s.linkUndone n = s.setF (F.LANE_STATUS_AN_DONE n) 0 := by
    rw [State.linkUndone, untested]
    exact if_pos (by simp [host])
  rw [undone, State.on_setF_zero _ _ rfl]

/-- A lane that enters a state then writes STATE, ALIGNED and, for OFF, PEND and PWR, SIGNAL alone. -/
theorem laneTo_f_linkUndone (s : State) {n st : Nat} {x : Fld} (ok : x.ok = true)
    (state : (F.LANE_STATUS_STATE n).apart x = true) (aligned : (F.LANE_STATUS_ALIGNED n).apart x = true)
    (signal : 3 ≤ st ∨ (F.LANE_STATUS_SIGNAL n).apart x = true) : (s.laneTo n st).f x = (s.linkUndone n).f x := by
  have dropped (u : State) (q : List TxItem) : (q.foldl (fun s t => s.trendDropped t) u).f x = u.f x := (trendsDropped_touch q u).f (by simp)
  have last (u : State) : (u.when (st == 0 || st == 1 || st == 2) (fun s => s.setF (F.LANE_STATUS_SIGNAL n) 0)).f x = u.f x := by
    rcases signal with high | apart
    · have : (st == 0 || st == 1 || st == 2) = false := by simp; omega
      rw [this]
      rfl
    · exact State.f_when (State.f_setF_apart _ _ _ _ rfl ok apart)
  have entered (u : State) : ((u.setF (F.LANE_STATUS_STATE n) st).setF (F.LANE_STATUS_ALIGNED n) 0).f x = u.f x :=
    (State.f_setF_apart _ _ _ _ rfl ok aligned).trans (State.f_setF_apart _ _ _ _ rfl ok state)
  rw [laneTo_eq, (touch_updLane _ _ _).f (by simp), State.laneStopped]
  exact (last _).trans ((entered _).trans (dropped _ _))

/-- A lane that enters a state keeps the fields of its status beside STATE, ALIGNED, AN_DONE and, for OFF, PEND and PWR, SIGNAL. -/
theorem laneTo_f (s : State) {n st : Nat} {x : Fld} (ok : x.ok = true) (here : x.addr = A.LANE_STATUS n)
    (state : (F.LANE_STATUS_STATE n).apart x = true) (aligned : (F.LANE_STATUS_ALIGNED n).apart x = true)
    (done : (F.LANE_STATUS_AN_DONE n).apart x = true) (signal : 3 ≤ st ∨ (F.LANE_STATUS_SIGNAL n).apart x = true) :
    (s.laneTo n st).f x = s.f x :=
  (laneTo_f_linkUndone s ok state aligned signal).trans (linkUndone_f s ok here done)

/-- A fall-back writes RATE_NOW and DEGRADED alone. -/
theorem fallBack_f (s : State) {n : Nat} {x : Fld} (ok : x.ok = true) (rate : (F.LANE_STATUS_RATE_NOW n).apart x = true)
    (degraded : (F.LANE_STATUS_DEGRADED n).apart x = true) : (s.fallBack n).f x = s.f x := by
  unfold State.fallBack
  split
  · rfl
  · dsimp only
    split
    · rfl
    · rw [(touch_raise _ _).f (by simp), (touch_updLane _ _ _).f (by simp), State.f_setF_apart _ _ _ _ rfl ok degraded,
        State.f_setF_apart _ _ _ _ rfl ok rate]

theorem fallBack_lane (s : State) (n : Nat) : ∃ l, (s.fallBack n).lane n = { s.lane n with lossAt := l } := by
  unfold State.fallBack
  split
  · exact ⟨_, rfl⟩
  · dsimp only
    split
    · exact ⟨_, State.lane_updLane_same _ _ _⟩
    · refine ⟨[], ?_⟩
      rw [(touch_raise _ _).lane (by simp), State.lane_updLane_same, (touch_setF _ _ _).lane (by simp), (touch_setF _ _ _).lane (by simp)]

/-! A lane is taken down (`State.lowerLane`). -/

/-- A loss from UP to DOWN is counted. -/
def State.lossCounted (s : State) (n st : Nat) : State := if s.laneUp n ∧ st = 7 then s.bump (F.LANE_STATUS_LOSSES n) else s

/-- The child behind a lane, or the twin at the far end of a cross-link, is no longer reached through it. -/
def State.childLeft (s : State) (n : Nat) : State :=
  if 2 ≤ s.use n ∧ s.use n ≤ 4 then s.dropPresent n else if s.use n = USE.XLINK then s.setF (F.CMD_DL_PRESENT n) 0 else s

theorem lowerLane_eq (s : State) (n st : Nat) : s.lowerLane n st = ((s.lossCounted n st).laneTo n st).childLeft n := rfl

theorem lossCounted_touch (s : State) (n st : Nat) : Touches [] [A.LANE_STATUS n] s (s.lossCounted n st) := by
  unfold State.lossCounted
  split
  · exact touch_bump _ _
  · exact Touches.refl _ _ _

theorem lossCounted_laneSt (s : State) (n st : Nat) : (s.lossCounted n st).laneSt n = s.laneSt n := by
  unfold State.lossCounted
  split
  · exact State.f_setF_apart _ _ _ _ rfl rfl rfl
  · rfl

theorem childLeft_touch (s : State) (n : Nat) : Touches [.units] [A.CMD_DL n, A.CMD_CAP] s (s.childLeft n) := by
  unfold State.childLeft
  split
  · exact dropPresent_touch s n
  · split
    · exact touch_field _ _ _ (by simp)
    · exact Touches.refl _ _ _

/-- The register of a lane's status is none of those that say what is behind lanes. -/
theorem status_notMem_child {n : Nat} (hn : n < 32) : A.LANE_STATUS n ∉ [A.CMD_DL n, A.CMD_CAP] := by
  simp [A.LANE_STATUS, A.CMD_DL, A.CMD_CAP]
  omega

/-- A lane without a pattern test is taken down. -/
theorem lowerLane_touch_status (s : State) (n st : Nat) (untested : s.laneSt n ≠ 6) :
    Touches [.lanes, .recorder, .units] [A.LANE_STATUS n, A.CMD_DL n, A.CMD_CAP] s (s.lowerLane n st) := by
  have stopped := laneTo_touch_status (s.lossCounted n st) n st (by rwa [lossCounted_laneSt])
  exact Touches.then (.then ((lossCounted_touch s n st).mono (by simp) (by simp)) stopped (by simp) (by simp)) (childLeft_touch _ n)
    (by simp) (by simp)

theorem lowerLane_lane (s : State) (n st : Nat) : (s.lowerLane n st).lane n =
    { (s.lane n).quiet with since := s.now, modRead := (s.lane n).modRead && st != 0, survey := (s.lane n).survey && st != 0 } := by
  have counted := lossCounted_touch s n st
  rw [lowerLane_eq, (childLeft_touch _ n).lane (by simp), laneTo_lane, counted.lane (by simp), counted.now (by simp)]

/-- A lane taken down keeps the fields of its status that neither the loss nor the new state writes. -/
theorem lowerLane_f (s : State) {n st : Nat} (hn : n < 32) {x : Fld} (ok : x.ok = true) (here : x.addr = A.LANE_STATUS n)
    (state : (F.LANE_STATUS_STATE n).apart x = true) (aligned : (F.LANE_STATUS_ALIGNED n).apart x = true)
    (done : (F.LANE_STATUS_AN_DONE n).apart x = true) (signal : 3 ≤ st ∨ (F.LANE_STATUS_SIGNAL n).apart x = true) :
    (s.lowerLane n st).f x = (s.lossCounted n st).f x := by
  rw [lowerLane_eq, (childLeft_touch _ n).f (by rw [here]; exact status_notMem_child hn), laneTo_f _ ok here state aligned done signal]

theorem lossCounted_f (s : State) {n st : Nat} {x : Fld} (ok : x.ok = true) (apart : (F.LANE_STATUS_LOSSES n).apart x = true) :
    (s.lossCounted n st).f x = s.f x := by
  unfold State.lossCounted
  split
  · exact State.f_setF_apart _ _ _ _ rfl ok apart
  · rfl

/-! A lane in UP is lost (`State.loseLane`). -/

section
variable {s : State} {n : Nat} (up : s.laneUp n = true)
include up

theorem up_laneSt : s.laneSt n = 5 := by simpa [State.laneUp] using up

theorem loseLane_touch_status : Touches [.lanes, .recorder, .hub, .units] [A.LANE_STATUS n, A.CMD_DL n, A.CMD_CAP] s (s.loseLane n) := by
  have lowered := lowerLane_touch_status s n 7 (by rw [up_laneSt up]; decide)
  exact Touches.then (.then (lowered.mono (by simp) (by simp)) (fallBack_touch _ n) (by simp) (by simp)) (touch_raise _ _) (by simp) (by simp)

theorem lossCounted_losses : (s.lossCounted n 7).f (F.LANE_STATUS_LOSSES n) = min (s.f (F.LANE_STATUS_LOSSES n) + 1) 255 := by
  rw [State.lossCounted, if_pos ⟨up, rfl⟩]
  exact s.f_bump_byte rfl rfl

theorem loseLane_losses (hn : n < 32) : (s.loseLane n).f (F.LANE_STATUS_LOSSES n) = min (s.f (F.LANE_STATUS_LOSSES n) + 1) 255 := by
  rw [State.loseLane, (touch_raise _ _).f (by simp), fallBack_f _ rfl rfl rfl, lowerLane_f _ hn rfl rfl rfl rfl rfl (.inl (by decide)),
    lossCounted_losses up]

end

theorem loseLane_signal (s : State) {n : Nat} (hn : n < 32) : (s.loseLane n).f (F.LANE_STATUS_SIGNAL n) = s.f (F.LANE_STATUS_SIGNAL n) := by
  rw [State.loseLane, (touch_raise _ _).f (by simp), fallBack_f _ rfl rfl rfl, lowerLane_f _ hn rfl rfl rfl rfl rfl (.inl (by decide)),
    lossCounted_f _ rfl rfl]

theorem loseLane_lane (s : State) (n : Nat) : ((s.loseLane n).lane n).txq = [] ∧ ((s.loseLane n).lane n).since = s.now := by
  obtain ⟨l, lane⟩ := fallBack_lane (s.lowerLane n 7) n
  rw [State.loseLane, (touch_raise _ _).lane (by simp), lane, lowerLane_lane]
  exact ⟨rfl, rfl⟩

/-! The events that take a lane down. -/

/-- A counter counts up, to the largest value of its field. -/
theorem State.f_bumpBy (s : State) {x : Fld} (k : Nat) (ok : x.ok = true) :
    (s.bumpBy x k).f x = min (s.f x + k) (2 ^ (x.hi + 1 - x.lo) - 1) := by
  rw [State.bumpBy, State.f_setF_of_lt _ _ ok]
  have := Nat.two_pow_pos (x.hi + 1 - x.lo)
  omega

/-- A lane without signal. -/
def State.darkened (s : State) (n : Nat) : State := s.setF (F.LANE_STATUS_SIGNAL n) 0

theorem darkened_touch (s : State) (n : Nat) : Touches [] [A.LANE_STATUS n] s (s.darkened n) := touch_setF _ _ _

theorem darkened_laneSt (s : State) (n : Nat) : (s.darkened n).laneSt n = s.laneSt n := s.f_setF_apart _ _ _ rfl rfl rfl

theorem laneUp_congr {s t : State} {n : Nat} (h : t.laneSt n = s.laneSt n) : t.laneUp n = s.laneUp n := by rw [State.laneUp, State.laneUp, h]

section
variable {s : State} (on : s.running = true) (n : Fin 32)
include on

theorem signalLoss_up (up : s.laneUp n = true) :
    ∃ t : State, exec (.signalLoss n) s = .next t.wrapUp ∧ t.laneSt n = 7 ∧ t.on (F.LANE_STATUS_SIGNAL n) = false ∧
      t.f (F.LANE_STATUS_LOSSES n) = min (s.f (F.LANE_STATUS_LOSSES n) + 1) 255 ∧ FS.LANE_LOSS ∈ t.hub.raised ∧
      (t.lane n).txq = [] ∧ (t.lane n).since = s.now ∧
      Touches [.lanes, .recorder, .hub, .units] [A.LANE_STATUS n, A.CMD_DL n, A.CMD_CAP] s t := by
  have dark := darkened_touch s n
  have still : (s.darkened n).laneUp n = true := (laneUp_congr (darkened_laneSt s n)).trans up
  have losses : (s.darkened n).f (F.LANE_STATUS_LOSSES n) = s.f (F.LANE_STATUS_LOSSES n) := s.f_setF_apart _ _ _ rfl rfl rfl
  obtain ⟨empty, since⟩ := loseLane_lane (s.darkened n) n
  refine ⟨_, runEvent_of_eq on (if_pos still), loseLane_st _ _ n.isLt, ?_, ?_, loseLane_raised _ _, empty, since.trans (dark.now (by simp)), ?_⟩
  · rw [State.on, loseLane_signal _ n.isLt]
    exact s.on_setF_zero _ rfl
  · exact (loseLane_losses still n.isLt).trans (by rw [losses])
  · exact Touches.then (dark.mono (by simp) (by simp)) (loseLane_touch_status still) (by simp) (by simp)

theorem signalLoss_other (down : s.laneUp n = false) :
    ∃ t : State, exec (.signalLoss n) s = .next t.wrapUp ∧ t.laneSt n = s.laneSt n ∧ t.on (F.LANE_STATUS_SIGNAL n) = false ∧
      Touches [] [A.LANE_STATUS n] s t := by
  have still : (s.darkened n).laneUp n = false := (laneUp_congr (darkened_laneSt s n)).trans down
  exact ⟨_, runEvent_of_eq on (if_neg (ne_true_of_eq_false still)), darkened_laneSt s n, s.on_setF_zero _ rfl, darkened_touch s n⟩

theorem codeViolations_counted :
    ∃ t : State, exec (.codeViolations n) s = .next t.wrapUp ∧ t.f (F.LANE_ERR_CV n) = min (s.f (F.LANE_ERR_CV n) + 8) 65535 ∧
      t.laneSt n = (if s.laneUp n then 7 else s.laneSt n) ∧ (s.laneUp n = true → FS.LANE_LOSS ∈ t.hub.raised) ∧
      Touches [.lanes, .recorder, .hub, .units] [A.LANE_STATUS n, A.LANE_ERR n, A.CMD_DL n, A.CMD_CAP] s t := by
  have counted := touch_bumpBy s (F.LANE_ERR_CV n) 8
  have count : (s.bumpBy (F.LANE_ERR_CV n) 8).f (F.LANE_ERR_CV n) = min (s.f (F.LANE_ERR_CV n) + 8) 65535 := s.f_bumpBy 8 rfl
  have same : (s.bumpBy (F.LANE_ERR_CV n) 8).laneSt n = s.laneSt n := counted.f (by rw [List.mem_singleton]; exact laneReg_ne n (by decide))
  have upSame := laneUp_congr same
  cases up : s.laneUp n <;> rw [up] at upSame
  · exact ⟨_, runEvent_of_eq on (if_neg (ne_true_of_eq_false upSame)), count, by simpa using same, by simp, counted.mono (by simp) (by simp)⟩
  · have lost := loseLane_touch_status upSame
    refine ⟨_, runEvent_of_eq on (if_pos upSame), ?_, by simp [loseLane_st], fun _ => loseLane_raised _ _,
      Touches.then (counted.mono (by simp) (by simp)) lost (by simp) (by simp)⟩
    rw [lost.f (by simp [A.LANE_STATUS, A.CMD_DL, A.CMD_CAP]; omega), count]

theorem missingTickFrames_down (up : s.laneUp n = true) (carried : (s.lane n).carried = true) (silent : (s.lane n).got = false)
    (third : 3 ≤ (s.lane n).miss) :
    ∃ t : State, exec (.missingTickFrames n) s = .next t.wrapUp ∧ t.laneSt n = 7 ∧ FS.LANE_LOSS ∈ t.hub.raised ∧
      Touches [.lanes, .recorder, .hub, .units] [A.LANE_STATUS n, A.CMD_DL n, A.CMD_CAP] s t :=
  ⟨_, runEvent_of_eq on (if_pos ⟨up, carried, by simpa [silent] using third, by simp [silent]⟩), loseLane_st _ _ n.isLt, loseLane_raised _ _,
    loseLane_touch_status up⟩

theorem hostSyncLoss_down (host : s.laneSt n = 8) :
    ∃ t : State, exec (.hostSyncLoss n) s = .next t.wrapUp ∧ t.laneSt n = 7 ∧ t.on (F.LANE_STATUS_AN_DONE n) = false ∧
      t.hub.raised = s.hub.raised ++ [FS.HOST_LINK_LOSS] ∧ Touches [.lanes, .recorder, .hub] [A.LANE_STATUS n] s t := by
  have down := laneTo_touch_status s n 7 (by rw [host]; decide)
  refine ⟨_, runEvent_of_eq on (if_pos host), ?_, ?_, ?_, Touches.then (down.mono (by simp) (by simp)) (touch_raise _ _) (by simp) (by simp)⟩
  · rw [State.laneSt, (touch_raise _ _).f (by simp), ← State.laneSt, laneTo_st _ _ _ (by decide)]
  · rw [(touch_raise _ _).on (by simp), State.on, laneTo_f_linkUndone _ rfl rfl rfl (.inl (by decide)), ← State.on, linkUndone_host host]
  · simp [down.hub (by simp)]

end

/-! HELLO (R77). -/

/-- What the far end says of itself is noted. -/
def State.farNoted (s : State) (n : Nat) (g : Segment) : State :=
  let fl := numAt g.payload 1 1
  let s := ((s.setF (F.LANE_STATUS_FAR_ROLE n) (numAt g.payload 0 1)).setF (F.LANE_STATUS_FAR_SENIOR n) (fl % 2)).setF (F.LANE_STATUS_FAR_KIND n) (fl / 4 % 4)
  (s.setF (F.LANE_STATUS_FAR_STATE n) (numAt g.payload 2 1)).updLane n (fun l => { l with farAddr := numAt g.payload 4 2, rxOk := bit fl 1 })

theorem farNoted_touch (s : State) (n : Nat) (g : Segment) : Touches [.lanes] [A.LANE_STATUS n] s (s.farNoted n g) :=
  Touches.then (Touches.trans (.trans (.trans (touch_field _ _ _ (by simp)) (touch_field _ _ _ (by simp))) (touch_field _ _ _ (by simp)))
    (touch_field _ _ _ (by simp))) (touch_updLane _ _ _) (by simp) (by simp)

theorem farNoted_lane (s : State) (n : Nat) (g : Segment) :
    (s.farNoted n g).lane n = { s.lane n with farAddr := numAt g.payload 4 2, rxOk := bit (numAt g.payload 1 1) 1 } := by
  rw [State.farNoted, State.lane_updLane_same]
  simp only [State.lane, State.setF_lanes]

theorem farNoted_laneSt (s : State) (n : Nat) (g : Segment) : (s.farNoted n g).laneSt n = s.laneSt n := by
  simp [State.farNoted, State.laneSt]

theorem farNoted_role (s : State) (n : Nat) (g : Segment) : (s.farNoted n g).f (F.LANE_STATUS_FAR_ROLE n) = numAt g.payload 0 1 % 4 := by
  simp [State.farNoted]

/-- Who is behind an uplink is shown in CMD_DL. -/
def State.uplinkShown (s : State) (n : Nat) : State := if s.uplinks.contains n ∧ s.on F.CMD_NODE_ASSIGNED then s.showUplink n else s

/-- Who is behind an uplink or a cross-link is shown in CMD_DL. -/
def State.linkShown (s : State) (n : Nat) (g : Segment) : State :=
  if (s.uplinkShown n).isXlink n then (s.uplinkShown n).setF (F.CMD_DL_PRESENT n) (b2n (numAt g.payload 4 2 != 0xFFFF)) else s.uplinkShown n

/-- A write that leaves CMD_DL.USE of every lane alone. -/
def KeepsUse (s t : State) : Prop := ∀ m, t.use m = s.use m

theorem showUplink_touch (s : State) (n : Nat) : Touches [] [A.CMD_DL n] s (s.showUplink n) :=
  Touches.trans (touch_field _ _ _ (by simp)) (touch_field _ _ _ (by simp))

theorem uplinkShown_touch (s : State) (n : Nat) : Touches [] [A.CMD_DL n] s (s.uplinkShown n) := by
  rw [State.uplinkShown]
  split
  · exact showUplink_touch s n
  · exact Touches.refl _ _ _

theorem linkShown_touch (s : State) (n : Nat) (g : Segment) : Touches [] [A.CMD_DL n] s (s.linkShown n g) := by
  rw [State.linkShown]
  split
  · exact (uplinkShown_touch s n).trans (touch_setF _ _ _)
  · exact uplinkShown_touch s n

/-- A field of CMD_DL other than USE, of any lane, is not USE of lane `m`. -/
theorem use_setF (s : State) {x : Fld} (n v m : Nat) (ok : x.ok = true) (here : x.addr = A.CMD_DL n) (apart : x.apart (F.CMD_DL_USE m) = true) :
    (s.setF x v).use m = s.use m := by
  by_cases same : m = n
  · subst same
    exact State.f_setF_apart _ _ _ _ ok rfl apart
  · exact State.f_setF_ne _ _ _ _ (by rw [here]; simp [A.CMD_DL]; omega)

theorem uplinkShown_use (s : State) (n : Nat) : KeepsUse s (s.uplinkShown n) := by
  intro m
  rw [State.uplinkShown]
  split
  · exact (use_setF _ n _ m rfl rfl rfl).trans (use_setF _ n _ m rfl rfl rfl)
  · rfl

theorem linkShown_use (s : State) (n : Nat) (g : Segment) : KeepsUse s (s.linkShown n g) := by
  intro m
  rw [State.linkShown]
  split
  · exact (use_setF _ n _ m rfl rfl rfl).trans (uplinkShown_use s n m)
  · exact uplinkShown_use s n m

theorem farNoted_use (s : State) {n : Nat} (hn : n < 32) (g : Segment) : KeepsUse s (s.farNoted n g) := fun m =>
  (farNoted_touch s n g).f (by simp [A.LANE_STATUS]; omega)

theorem xlinks_congr {s t : State} (role : t.role = s.role) (uses : KeepsUse s t) : t.xlinks = s.xlinks := by
  rw [State.xlinks, State.xlinks, State.isMeadow, State.isMeadow, role, show t.use = s.use from funext uses]

theorem laneKind_congr {s t : State} (role : t.role = s.role) (uses : KeepsUse s t) (n : Nat) : t.laneKind n = s.laneKind n := by
  rw [State.laneKind, State.laneKind, State.isXlink, State.isXlink, xlinks_congr role uses, State.isMeadow, State.isMeadow, role]

/-- A HELLO heard, before it is counted. -/
def State.helloHeard (s : State) (n : Nat) (b : List Byte) (g : Segment) : State := ((s.heard n b).farNoted n g).linkShown n g

section
variable (s : State) (n : Fin 32) (b : List Byte) (g : Segment)

theorem helloHeard_touch : Touches [.lanes] [A.LANE_STATUS n, A.CMD_DL n] s (s.helloHeard n b g) :=
  Touches.then (Touches.then ((heard_touch s n b).mono (by simp) (by simp)) (farNoted_touch _ n g) (by simp) (by simp)) (linkShown_touch _ n g) (by simp) (by simp)

/-- The status register of a lane is not a CMD_DL. -/
theorem status_ne_dl : A.LANE_STATUS n ∉ [A.CMD_DL n] := by
  simp [A.LANE_STATUS, A.CMD_DL]
  omega

theorem helloHeard_status {x : Fld} (here : x.addr = A.LANE_STATUS n) : (s.helloHeard n b g).f x = ((s.heard n b).farNoted n g).f x :=
  (linkShown_touch _ n g).f (by rw [here]; exact status_ne_dl n)

theorem helloHeard_laneSt : (s.helloHeard n b g).laneSt n = s.laneSt n :=
  (helloHeard_status s n b g rfl).trans ((farNoted_laneSt _ n g).trans ((heard_touch s n b).f (by simp)))

theorem helloHeard_role : (s.helloHeard n b g).f (F.LANE_STATUS_FAR_ROLE n) = numAt g.payload 0 1 % 4 :=
  (helloHeard_status s n b g rfl).trans (farNoted_role _ n g)

theorem helloHeard_lane : ∃ log, (s.helloHeard n b g).lane n =
    { s.lane n with rxLog := log, farAddr := numAt g.payload 4 2, rxOk := bit (numAt g.payload 1 1) 1 } := by
  refine ⟨noteLoad s.now (b.length + 2) (s.lane n).rxLog, ?_⟩
  rw [State.helloHeard, (linkShown_touch _ n g).lane (by simp), farNoted_lane, State.heard, State.lane_updLane_same]

theorem helloHeard_laneKind : (s.helloHeard n b g).laneKind n = s.laneKind n := by
  refine laneKind_congr ((helloHeard_touch s n b g).f ?_) (fun m => ?_) n
  · simp [A.LANE_STATUS, A.CMD_DL]
    omega
  · exact (linkShown_use _ n g m).trans (farNoted_use _ n.isLt g m)

end

/-- A HELLO that does not let the lane come up: the count starts again. -/
def State.helloRestart (s : State) (n : Nat) : State := s.updLane n (fun l => { l with hellos := 0 })

/-- A good HELLO is counted. -/
def State.helloCounted (s : State) (n : Nat) : State :=
  (s.setF (F.LANE_STATUS_MISWIRE n) 0).updLane n (fun l => { l with hellos := l.hellos + 1 })

theorem onHello_eq {s : State} {n : Fin 32} {b : List Byte} {g : Segment} (hello : s.laneSt n = 4) (good : parseSeg b = some g)
    (kind : g.kind = KIND.HELLO) (whole : 8 ≤ g.payload.length) : onHello n b s =
      if !kindsMatch (s.laneKind n) (numAt g.payload 1 1 / 4 % 4) then ((s.helloHeard n b g).setF (F.LANE_STATUS_MISWIRE n) 1).helloRestart n
      else if !bit (numAt g.payload 1 1) 1 then (s.helloHeard n b g).helloRestart n
      else if 3 ≤ (((s.helloHeard n b g).helloCounted n).lane n).hellos then ((s.helloHeard n b g).helloCounted n).linkUp n
      else (s.helloHeard n b g).helloCounted n := by
  have taken : s.takeSegment n b = (s.heard n b, some g) := by
    simp [State.takeSegment, good, kind, State.heard, kindListed]
  have here : ¬(s.laneSt n ≠ 4 ∧ s.laneSt n ≠ 5) := fun h => h.1 hello
  have wanted : ¬(g.kind ≠ KIND.HELLO ∨ g.payload.length < 8) := by
    rintro (h | h)
    · exact h kind
    · omega
  have notUp : ¬(s.helloHeard n b g).laneSt n = 5 := by
    rw [helloHeard_laneSt, hello]
    decide
  rw [onHello, if_neg here, taken, ← helloHeard_laneKind s n b g]
  dsimp only
  rw [if_neg wanted]
  exact if_neg notUp

/-! A lane comes UP (R31, R78). -/

/-- A segment with room in the transmit buffer waits there. -/
theorem queueTx_fits {s : State} {n : Nat} {x : TxItem} (room : roomFor (s.lane n).txq x = true) :
    s.queueTx n x = s.updLane n (fun l => { l with txq := l.txq ++ [{ x with ready := s.clkNo }] }) := if_pos room

theorem fillAssign_touch (n : Nat) (l : List (List Byte)) (s : State) : Touches [.lanes] [] s (s.fillAssign n l) := by
  induction l generalizing s with
  | nil => exact touch_updLane _ _ _
  | cons b rest ih =>
    rw [State.fillAssign]
    split
    · next room =>
      rw [queueTx_fits room]
      exact (touch_updLane _ _ _).trans (ih _)
    · exact touch_updLane _ _ _

theorem fillAssign_farAddr (n : Nat) (l : List (List Byte)) (s : State) : ((s.fillAssign n l).lane n).farAddr = (s.lane n).farAddr := by
  induction l generalizing s with
  | nil => rw [State.fillAssign, State.lane_updLane_same]
  | cons b rest ih =>
    rw [State.fillAssign]
    split
    · next room => rw [queueTx_fits room, ih, State.lane_updLane_same]
    · rw [State.lane_updLane_same]

theorem sendAssign_touch (s : State) (n : Nat) : Touches [.lanes] [] s (s.sendAssign n) := by
  rw [State.sendAssign]
  split
  · exact (touch_updLane _ _ _).trans (fillAssign_touch _ _ _)
  · exact (touch_updLane _ _ _).trans (fillAssign_touch _ _ _)

theorem sendAssign_farAddr (s : State) (n : Nat) : ((s.sendAssign n).lane n).farAddr = (s.lane n).farAddr := by
  rw [State.sendAssign]
  split
  · rw [fillAssign_farAddr, State.lane_updLane_same]
  · rw [fillAssign_farAddr, State.lane_updLane_same]

/-- A lane in UP, before its child is assigned. -/
def State.laneUpNow (s : State) (n : Nat) : State :=
  (s.setF (F.LANE_STATUS_STATE n) 5).updLane n (fun l => { l with since := s.now, carried := false, miss := 0 })

theorem laneUpNow_touch (s : State) (n : Nat) : Touches [.lanes] [A.LANE_STATUS n] s (s.laneUpNow n) :=
  Touches.then (touch_field _ _ _ (by simp)) (touch_updLane _ _ _) (by simp) (by simp)

theorem linkUp_after (s : State) (n : Nat) : Touches [.lanes] [] (s.laneUpNow n) (s.linkUp n) := by
  rw [State.linkUp]
  split
  · exact sendAssign_touch _ n
  · exact Touches.refl _ _ _

theorem linkUp_touch (s : State) (n : Nat) : Touches [.lanes] [A.LANE_STATUS n] s (s.linkUp n) :=
  Touches.then (laneUpNow_touch s n) (linkUp_after s n) (by simp) (by simp)

theorem linkUp_st (s : State) (n : Nat) : (s.linkUp n).laneSt n = 5 :=
  ((linkUp_after s n).f (by simp)).trans (by simp [State.laneUpNow])

theorem linkUp_farAddr (s : State) (n : Nat) : ((s.linkUp n).lane n).farAddr = (s.lane n).farAddr := by
  have entered : ((s.laneUpNow n).lane n).farAddr = (s.lane n).farAddr := by
    rw [State.laneUpNow, State.lane_updLane_same, (touch_setF _ _ _).lane (by simp)]
  rw [State.linkUp]
  split
  · exact (sendAssign_farAddr _ n).trans entered
  · exact entered

/-- A lane that comes UP keeps the other fields of its status. -/
theorem linkUp_f (s : State) {n : Nat} {x : Fld} (ok : x.ok = true) (apart : (F.LANE_STATUS_STATE n).apart x = true) :
    (s.linkUp n).f x = s.f x := by
  rw [(linkUp_after s n).f (by simp), State.laneUpNow, (touch_updLane _ _ _).f (by simp), State.f_setF_apart _ _ _ _ rfl ok apart]

/-! The clauses of HELLO. -/

theorem helloRestart_touch (s : State) (n : Nat) : Touches [.lanes] [] s (s.helloRestart n) := touch_updLane _ _ _

theorem helloRestart_lane (s : State) (n : Nat) : (s.helloRestart n).lane n = { s.lane n with hellos := 0 } := State.lane_updLane_same _ _ _

theorem helloCounted_touch (s : State) (n : Nat) : Touches [.lanes] [A.LANE_STATUS n] s (s.helloCounted n) :=
  Touches.then (touch_field _ _ _ (by simp)) (touch_updLane _ _ _) (by simp) (by simp)

theorem helloCounted_lane (s : State) (n : Nat) : (s.helloCounted n).lane n = { s.lane n with hellos := (s.lane n).hellos + 1 } := by
  rw [State.helloCounted, State.lane_updLane_same, (touch_setF _ _ _).lane (by simp)]

/-- A good HELLO counted clears MISWIRE alone. -/
theorem helloCounted_f (s : State) {n : Nat} {x : Fld} (ok : x.ok = true) (apart : (F.LANE_STATUS_MISWIRE n).apart x = true) :
    (s.helloCounted n).f x = s.f x := by
  rw [State.helloCounted, (touch_updLane _ _ _).f (by simp), State.f_setF_apart _ _ _ _ rfl ok apart]

theorem helloCounted_miswire (s : State) (n : Nat) : (s.helloCounted n).on (F.LANE_STATUS_MISWIRE n) = false := by
  rw [State.helloCounted, (touch_updLane _ _ _).on (by simp), State.on_setF_zero _ _ rfl]


section
variable {s : State} (on : s.running = true) {n : Fin 32} {b : List Byte} {g : Segment} (hello : s.laneSt n = 4) (good : parseSeg b = some g)
  (kind : g.kind = KIND.HELLO) (whole : 8 ≤ g.payload.length)
include on hello good kind whole

theorem hello_good (matching : kindsMatch (s.laneKind n) (numAt g.payload 1 1 / 4 % 4) = true) (rxOk : bit (numAt g.payload 1 1) 1 = true) :
    ∃ t : State, exec (.hello n b) s = .next t.wrapUp ∧ t.laneSt n = (if 2 ≤ (s.lane n).hellos then 5 else 4) ∧
      (t.lane n).farAddr = numAt g.payload 4 2 ∧ t.f (F.LANE_STATUS_FAR_ROLE n) = numAt g.payload 0 1 % 4 ∧
      t.on (F.LANE_STATUS_MISWIRE n) = false ∧ Touches [.lanes] [A.LANE_STATUS n, A.CMD_DL n] s t := by
  obtain ⟨log, heard⟩ := helloHeard_lane s n b g
  have lane := helloCounted_lane (s.helloHeard n b g) n
  have touched : Touches [.lanes] [A.LANE_STATUS n, A.CMD_DL n] s ((s.helloHeard n b g).helloCounted n) :=
    Touches.then (helloHeard_touch s n b g) (helloCounted_touch _ n) (by simp) (by simp)
  have st : ((s.helloHeard n b g).helloCounted n).laneSt n = 4 :=
    (helloCounted_f _ rfl rfl).trans ((helloHeard_laneSt s n b g).trans hello)
  have role : ((s.helloHeard n b g).helloCounted n).f (F.LANE_STATUS_FAR_ROLE n) = numAt g.payload 0 1 % 4 :=
    (helloCounted_f _ rfl rfl).trans (helloHeard_role s n b g)
  have miswire := helloCounted_miswire (s.helloHeard n b g) n
  have next := onHello_eq hello good kind whole
  rw [matching, rxOk] at next
  rw [heard] at lane
  generalize (s.helloHeard n b g).helloCounted n = u at *
  have farAddr : (u.lane n).farAddr = numAt g.payload 4 2 := by rw [lane]
  have counts : 3 ≤ (u.lane n).hellos ↔ 2 ≤ (s.lane n).hellos := by
    rw [lane]
    exact Nat.succ_le_succ_iff
  replace next : onHello n b s = if 2 ≤ (s.lane n).hellos then u.linkUp n else u := by simpa [counts] using next
  refine ⟨_, runEvent_of_eq on next, ?_⟩
  split
  · exact ⟨linkUp_st u n, (linkUp_farAddr u n).trans farAddr, (linkUp_f u rfl rfl).trans role,
      by rw [State.on, linkUp_f u rfl rfl, ← State.on, miswire], touched.trans ((linkUp_touch u n).mono (by simp) (by simp))⟩
  · exact ⟨st, farAddr, role, miswire, touched⟩

theorem hello_unheard (matching : kindsMatch (s.laneKind n) (numAt g.payload 1 1 / 4 % 4) = true) (deaf : bit (numAt g.payload 1 1) 1 = false) :
    ∃ t : State, exec (.hello n b) s = .next t.wrapUp ∧ t.laneSt n = 4 ∧ (t.lane n).hellos = 0 ∧ (t.lane n).rxOk = false ∧
      Touches [.lanes] [A.LANE_STATUS n, A.CMD_DL n] s t := by
  obtain ⟨log, heard⟩ := helloHeard_lane s n b g
  have next : onHello n b s = (s.helloHeard n b g).helloRestart n := by
    rw [onHello_eq hello good kind whole, matching, deaf]
    rfl
  have lane := helloRestart_lane (s.helloHeard n b g) n
  have touched := helloRestart_touch (s.helloHeard n b g) n
  refine ⟨_, runEvent_of_eq on next, ?_, by rw [lane], by rw [lane, heard, deaf], ?_⟩
  · exact (touched.f (by simp)).trans ((helloHeard_laneSt s n b g).trans hello)
  · exact Touches.then (helloHeard_touch s n b g) touched (by simp) (by simp)

theorem hello_miswired (wrong : kindsMatch (s.laneKind n) (numAt g.payload 1 1 / 4 % 4) = false) :
    ∃ t : State, exec (.hello n b) s = .next t.wrapUp ∧ t.laneSt n = 4 ∧ t.on (F.LANE_STATUS_MISWIRE n) = true ∧ (t.lane n).hellos = 0 ∧
      Touches [.lanes] [A.LANE_STATUS n, A.CMD_DL n] s t := by
  have next : onHello n b s = ((s.helloHeard n b g).setF (F.LANE_STATUS_MISWIRE n) 1).helloRestart n := by
    rw [onHello_eq hello good kind whole, wrong]
    rfl
  have restart := helloRestart_touch ((s.helloHeard n b g).setF (F.LANE_STATUS_MISWIRE n) 1) n
  refine ⟨_, runEvent_of_eq on next, ?_, ?_, by rw [helloRestart_lane], ?_⟩
  · rw [State.laneSt, restart.f (by simp), State.f_setF_apart _ _ _ _ rfl rfl rfl]
    exact (helloHeard_laneSt s n b g).trans hello
  · rw [restart.on (by simp), State.on_setF_one _ _ rfl rfl]
  · exact Touches.then (.then (helloHeard_touch s n b g) (touch_setF _ _ _) (by simp) (by simp)) restart (by simp) (by simp)

end

/-! The checker of a pattern test (R83). -/

section
variable (pattern : Nat) (c : Checker) (b : Bool)

theorem take_locked (locked : c.locked = true) : c.take pattern b =
    let win := ((b != prbsNext pattern c.past) :: c.win).take 128
    let c := { c with past := prbsNext pattern c.past :: c.past.take 30, win := win, errors := c.errors + b2n (b != prbsNext pattern c.past) }
    if 32 < win.count true then { c with locked := false, good := 0, win := [], losses := c.losses + 1 } else c := by
  have count (l : List Bool) : (l.filter id).length = l.count true := by
    rw [List.count_eq_length_filter]
    congr 2
    funext x
    cases x <;> rfl
  simp only [Checker.take, locked, if_true, count]

theorem take_sixtyFourth (unlocked : c.locked = false) (good : c.good = 63) (long : (prbsTaps pattern).1 ≤ c.past.length) :
    (c.take pattern b).locked = (b == prbsNext pattern c.past) ∧ (c.take pattern b).errors = c.errors := by
  have seen : decide (c.past.length < (prbsTaps pattern).1) = false := decide_eq_false (by omega)
  simp only [Checker.take, unlocked, good, seen, Bool.or_false, Bool.false_eq_true, if_false, and_true]
  cases b <;> cases prbsNext pattern c.past <;> rfl

theorem take_counts (locked : c.locked = true) :
    (c.take pattern b).errors = c.errors + (if b = prbsNext pattern c.past then 0 else 1) ∧
      ((c.take pattern b).locked = false ↔ 32 < (((b != prbsNext pattern c.past) :: c.win).take 128).count true) ∧
      (c.take pattern b).losses = c.losses + (if (c.take pattern b).locked then 0 else 1) := by
  have errors : b2n (b != prbsNext pattern c.past) = if b = prbsNext pattern c.past then 0 else 1 := by
    cases b <;> cases prbsNext pattern c.past <;> rfl
  rw [take_locked pattern c b locked]
  dsimp only
  split
  · next many => exact ⟨by rw [errors], by simpa using many, rfl⟩
  · next few => exact ⟨by rw [errors], by simpa [locked] using few, by simp⟩

end

/-! Pattern tests (R83, R84). -/

/-- The checker of a lane as it stands, with no error counted yet. -/
def State.checker (s : State) (n : Nat) : Checker :=
  ⟨(s.lane n).prbsPast, (s.lane n).prbsGood, (s.lane n).prbsWin, s.on (F.LANE_PRBS_LOCKED n), 0, 0⟩

/-- What the received bits leave of the checker of a lane. -/
def State.checked (s : State) (n : Nat) (bits : List Bool) : Checker :=
  bits.foldl (Checker.take (s.f (F.LANE_PRBS_PATTERN n))) (s.checker n)

/-- The result of a checker is shown in the registers of its lane. -/
def State.checkShown (s : State) (n : Nat) (c : Checker) : State :=
  ((s.setF (F.LANE_PRBS_LOCKED n) (b2n c.locked)).bumpBy (F.LANE_PRBS_ERR_COUNT n) c.errors).bumpBy (F.LANE_PRBS_LOCK_LOSS n) c.losses

theorem checkShown_touch (s : State) (n : Nat) (c : Checker) : Touches [] [A.LANE_PRBS n, A.LANE_PRBS_ERR n] s (s.checkShown n c) :=
  Touches.trans (.trans (touch_field _ _ _ (by simp)) ((touch_bumpBy _ _ _).mono (by simp) (by simp)))
    ((touch_bumpBy _ _ _).mono (by simp) (by simp))

/-- The count of errors stands beside the control register of the test. -/
theorem prbs_ne_err (n : Nat) : A.LANE_PRBS n ≠ A.LANE_PRBS_ERR n := laneReg_ne n (by decide)

theorem checkShown_locked (s : State) (n : Nat) (c : Checker) : (s.checkShown n c).on (F.LANE_PRBS_LOCKED n) = c.locked := by
  have error (u : State) : (u.bumpBy (F.LANE_PRBS_ERR_COUNT n) c.errors).f (F.LANE_PRBS_LOCKED n) = u.f (F.LANE_PRBS_LOCKED n) :=
    State.f_setF_ne _ _ _ _ (prbs_ne_err n)
  rw [State.checkShown, State.bumpBy, State.on_setF_apart _ _ _ _ rfl rfl rfl, State.on, error, State.f_setF_of_lt _ _ rfl (b2n_lt _), b2n_beq_one]

theorem checkShown_errors (s : State) (n : Nat) (c : Checker) :
    (s.checkShown n c).f (F.LANE_PRBS_ERR_COUNT n) = min (s.f (F.LANE_PRBS_ERR_COUNT n) + c.errors) (2 ^ 32 - 1) := by
  have lock (u : State) (k : Nat) : (u.bumpBy (F.LANE_PRBS_LOCK_LOSS n) k).f (F.LANE_PRBS_ERR_COUNT n) = u.f (F.LANE_PRBS_ERR_COUNT n) :=
    State.f_setF_ne _ _ _ _ (prbs_ne_err n).symm
  have locked (u : State) (v : Nat) : (u.setF (F.LANE_PRBS_LOCKED n) v).f (F.LANE_PRBS_ERR_COUNT n) = u.f (F.LANE_PRBS_ERR_COUNT n) :=
    State.f_setF_ne _ _ _ _ (prbs_ne_err n).symm
  rw [State.checkShown, lock, State.f_bumpBy _ _ rfl, locked]
  rfl

theorem checkShown_losses (s : State) (n : Nat) (c : Checker) :
    (s.checkShown n c).f (F.LANE_PRBS_LOCK_LOSS n) = min (s.f (F.LANE_PRBS_LOCK_LOSS n) + c.losses) 65535 := by
  have error (u : State) : (u.bumpBy (F.LANE_PRBS_ERR_COUNT n) c.errors).f (F.LANE_PRBS_LOCK_LOSS n) = u.f (F.LANE_PRBS_LOCK_LOSS n) :=
    State.f_setF_ne _ _ _ _ (prbs_ne_err n)
  rw [State.checkShown, State.f_bumpBy _ _ rfl, error, State.f_setF_apart _ _ _ _ rfl rfl rfl]
  rfl

theorem checkBits_eq {s : State} {n : Nat} (test : s.laneSt n = 6) (checks : 2 ≤ s.f (F.LANE_PRBS_TMODE n)) (bits : List Bool) :
    s.checkBits n bits = (s.checkShown n (s.checked n bits)).updLane n (fun l => { l with
      prbsPast := (s.checked n bits).past, prbsGood := (s.checked n bits).good, prbsWin := (s.checked n bits).win }) := by
  rw [State.checkBits, if_neg (by omega)]
  rfl

section
variable {s : State} {n : Nat} (test : s.laneSt n = 6) (bits : List Bool)
include test

theorem checkBits_touch : Touches [.lanes] [A.LANE_PRBS n, A.LANE_PRBS_ERR n] s (s.checkBits n bits) := by
  by_cases checks : 2 ≤ s.f (F.LANE_PRBS_TMODE n)
  · rw [checkBits_eq test checks]
    exact Touches.then ((checkShown_touch s n _).mono (by simp) (by simp)) (touch_updLane _ _ _) (by simp) (by simp)
  · rw [State.checkBits, if_pos (by omega)]
    exact Touches.refl _ _ _

theorem checkBits_shown (checks : 2 ≤ s.f (F.LANE_PRBS_TMODE n)) :
    (s.checkBits n bits).on (F.LANE_PRBS_LOCKED n) = (s.checked n bits).locked ∧
      (s.checkBits n bits).f (F.LANE_PRBS_ERR_COUNT n) = min (s.f (F.LANE_PRBS_ERR_COUNT n) + (s.checked n bits).errors) (2 ^ 32 - 1) ∧
      (s.checkBits n bits).f (F.LANE_PRBS_LOCK_LOSS n) = min (s.f (F.LANE_PRBS_LOCK_LOSS n) + (s.checked n bits).losses) 65535 := by
  have noted := touch_updLane (s.checkShown n (s.checked n bits)) n (fun l => { l with
    prbsPast := (s.checked n bits).past, prbsGood := (s.checked n bits).good, prbsWin := (s.checked n bits).win })
  rw [← checkBits_eq test checks] at noted
  rw [noted.on (by simp), noted.f (by simp), noted.f (by simp)]
  exact ⟨checkShown_locked s n _, checkShown_errors s n _, checkShown_losses s n _⟩

end

/-- A lane under test that enters another state ends its test. -/
theorem laneTo_run (s : State) (n st : Nat) (test : s.laneSt n = 6) : (s.laneTo n st).on (F.LANE_PRBS_RUN n) = false := by
  have rest := laneTo_rest_touch (s.endTest n) (s.endTest n) n st [A.LANE_STATUS n] (Touches.refl _ _ _) (by simp)
  have ended : s.when (s.laneSt n == 6) (fun s => s.endTest n) = s.endTest n := if_pos (by simp [test])
  rw [laneTo_eq, (touch_updLane _ _ _).on (by simp), State.laneStopped, ended, rest.on (by rw [List.mem_singleton]; exact laneReg_ne n (by decide)), State.endTest,
    State.on_setF_zero _ _ rfl]

/-! The clauses of the pattern test. -/

theorem reachNow_checked (s : State) (t n : Nat) (bits : List Bool) : (s.reachNow t).checked n bits = s.checked n bits := by
  rw [reachNow_eq]
  rfl

section
variable {s : State} (on : s.running = true) {n : Fin 32} (bits : List Bool) (test : s.laneSt n = 6)
include on test

/-- The end of a test: the last bits are checked, and the lane goes to DOWN. -/
theorem prbsEnd_down :
    ∃ t : State, exec (.prbsEnd n bits) s = .next t.wrapUp ∧ t.laneSt n = 7 ∧ t.on (F.LANE_PRBS_RUN n) = false ∧
      (s.lane n).prbsEnd ≤ t.now ∧ Touches [.lanes, .recorder] (laneRegs n) ((s.reachNow (s.lane n).prbsEnd).checkBits n bits) t := by
  have reached := reachNow_touch s (s.lane n).prbsEnd
  have testing : (s.reachNow (s.lane n).prbsEnd).laneSt n = 6 := (reachNow_laneSt _ _ _).trans test
  have checked := checkBits_touch testing bits
  have still : ((s.reachNow (s.lane n).prbsEnd).checkBits n bits).laneSt n = 6 :=
    (checked.f (by simp [A.LANE_PRBS, A.LANE_PRBS_ERR])).trans testing
  refine ⟨_, runEvent_of_eq on (if_pos test), laneTo_st _ _ _ (by decide), laneTo_run _ _ _ still, ?_, laneTo_touch _ _ _⟩
  rw [laneTo_now, checked.now (by simp)]
  exact reachNow_le _ _

theorem prbsEnd_generator (generates : s.f (F.LANE_PRBS_TMODE n) < 2) :
    ∃ t : State, exec (.prbsEnd n bits) s = .next t.wrapUp ∧ t.laneSt n = 7 ∧ t.on (F.LANE_PRBS_RUN n) = false ∧
      (s.lane n).prbsEnd ≤ t.now ∧ Touches [.lanes, .recorder, .clk] [A.LANE_PRBS n, A.LANE_PRBS_TIME n, A.LANE_STATUS n] s t := by
  have unchecked : (s.reachNow (s.lane n).prbsEnd).checkBits n bits = s.reachNow (s.lane n).prbsEnd := by
    rw [State.checkBits, if_pos (.inr (by rwa [reachNow_f]))]
  obtain ⟨t, step, down, run, late, touched⟩ := prbsEnd_down on bits test
  rw [unchecked] at touched
  exact ⟨t, step, down, run, late,
    Touches.then ((reachNow_touch s _).mono (by simp) (by simp)) touched (by simp) (by simp [laneRegs])⟩

/-- The clauses of a test that checks. -/
theorem patternTest_checks (checks : 2 ≤ s.f (F.LANE_PRBS_TMODE n)) (c : Checker) (hc : c = s.checked n bits) :
    (∃ t : State, exec (.prbsCheckerLock n bits) s = .next t.wrapUp ∧ t.on (F.LANE_PRBS_LOCKED n) = c.locked ∧
      t.f (F.LANE_PRBS_ERR_COUNT n) = min (s.f (F.LANE_PRBS_ERR_COUNT n) + c.errors) (2 ^ 32 - 1) ∧
      Touches [.lanes] [A.LANE_PRBS n, A.LANE_PRBS_ERR n] s t) ∧
    (∃ t : State, exec (.prbsLockLoss n bits) s = .next t.wrapUp ∧ t.on (F.LANE_PRBS_LOCKED n) = c.locked ∧
      t.f (F.LANE_PRBS_ERR_COUNT n) = min (s.f (F.LANE_PRBS_ERR_COUNT n) + c.errors) (2 ^ 32 - 1) ∧
      t.f (F.LANE_PRBS_LOCK_LOSS n) = min (s.f (F.LANE_PRBS_LOCK_LOSS n) + c.losses) 65535 ∧
      Touches [.lanes] [A.LANE_PRBS n, A.LANE_PRBS_ERR n] s t) ∧
    (∃ t : State, exec (.prbsEnd n bits) s = .next t.wrapUp ∧ t.laneSt n = 7 ∧ t.on (F.LANE_PRBS_RUN n) = false ∧
      (s.lane n).prbsEnd ≤ t.now ∧ t.f (F.LANE_PRBS_ERR_COUNT n) = min (s.f (F.LANE_PRBS_ERR_COUNT n) + c.errors) (2 ^ 32 - 1) ∧
      Touches [.lanes, .recorder, .clk] [A.LANE_PRBS n, A.LANE_PRBS_ERR n, A.LANE_PRBS_TIME n, A.LANE_STATUS n] s t) := by
  subst hc
  obtain ⟨locked, errors, losses⟩ := checkBits_shown test bits checks
  have checked := checkBits_touch test bits
  refine ⟨⟨_, runEvent_of_eq on rfl, locked, errors, checked⟩, ⟨_, runEvent_of_eq on rfl, locked, errors, losses, checked⟩, ?_⟩
  have reached := reachNow_touch s (s.lane n).prbsEnd
  have testing : (s.reachNow (s.lane n).prbsEnd).laneSt n = 6 := (reachNow_laneSt _ _ _).trans test
  obtain ⟨-, lastErrors, -⟩ := checkBits_shown testing bits (by rwa [reachNow_f])
  rw [reachNow_f, reachNow_checked] at lastErrors
  obtain ⟨t, step, down, run, late, touched⟩ := prbsEnd_down on bits test
  refine ⟨t, step, down, run, late, ?_, ?_⟩
  · rw [touched.f (by simp [laneRegs, A.LANE_STATUS, A.LANE_PRBS, A.LANE_PRBS_TIME]), lastErrors]
  · exact Touches.then (.then (reached.mono (by simp) (by simp)) (checkBits_touch testing bits) (by simp) (by simp)) touched (by simp)
      (by simp [laneRegs])

end

/-- Settles O2: the losses, the HELLOs, the checker and the pattern test, each clause over any lane in the state it names. -/
theorem laneLossHelloAndPatterns : Obligations.LaneLossHelloAndPatterns := by
  unfold Obligations.LaneLossHelloAndPatterns
  refine ⟨⟨?losses, ?hellos⟩, ?checker, ?tests⟩
  case losses =>
    exact fun n s on => ⟨signalLoss_up on n, signalLoss_other on n, codeViolations_counted on n, missingTickFrames_down on n,
      hostSyncLoss_down on n⟩
  case hellos =>
    exact fun n b g s on hello good kind whole =>
      ⟨hello_good on hello good kind whole, hello_unheard on hello good kind whole, hello_miswired on hello good kind whole⟩
  case checker => exact fun pattern c b => ⟨take_sixtyFourth pattern c b, take_counts pattern c b⟩
  case tests => exact fun n bits s on test => ⟨fun checks c => patternTest_checks on bits test checks c, prbsEnd_generator on bits test⟩

end Sys2Proof.Machine
end

section
/-!
SUPPORT. Optical modules and host links (03 R86 to R88, R105): what the identification of a module and a poll write, then each clause.
-/
namespace Sys2Proof.Machine
open Sys2Proof

/-! A module is identified (`State.identify`). -/

theorem selectMux_touch (s : State) (n : Nat) : Touches [.node] [] s (s.selectMux n) := by
  unfold State.selectMux
  split
  · exact Touches.refl _ _ _
  · exact touch_node _ _

/-- The transfer that identifies a module, before its answer. -/
def State.identifying (s : State) (n : Nat) : State := (s.selectMux n).updLane n (fun l => { l with modRead := true, polledAt := s.now })

theorem identifying_touch (s : State) (n : Nat) : Touches [.lanes, .node] [] s (s.identifying n) :=
  Touches.then ((selectMux_touch s n).mono (by simp) (by simp)) (touch_updLane _ _ _) (by simp) (by simp)

/-- No answer. -/
def State.unanswered (s : State) (n : Nat) : State :=
  ((s.setF (F.LANE_MOD_NO_ANSWER n) 1).updLane n (fun l => { l with modFail := true })).raise FS.LANE_MOD_FAULT

theorem unanswered_touch (s : State) (n : Nat) : Touches [.lanes, .hub] [A.LANE_MOD n] s (s.unanswered n) :=
  Touches.then (.then (touch_field _ _ _ (by simp)) (touch_updLane _ _ _) (by simp) (by simp)) (touch_raise _ _) (by simp) (by simp)

theorem unanswered_said (s : State) (n : Nat) :
    (s.unanswered n).on (F.LANE_MOD_NO_ANSWER n) = true ∧ FS.LANE_MOD_FAULT ∈ (s.unanswered n).hub.raised := by
  simp [State.unanswered]

/-- A module whose kind the part knows. -/
def State.known (s : State) (n : Nat) (b : List Byte) : State :=
  (((s.setF (F.LANE_MOD_NO_ANSWER n) 0).setF (F.LANE_MOD_ID_OK n) 1).setF (F.LANE_MOD_EXT_CAL n)
    (b2n (bit (numAt b 1 1) 6 && !bit (numAt b 1 1) 5))).updLane n (fun l => { l with modFail := false })

theorem known_touch (s : State) (n : Nat) (b : List Byte) : Touches [.lanes] [A.LANE_MOD n] s (s.known n b) :=
  Touches.then (Touches.trans (.trans (touch_field _ _ _ (by simp)) (touch_field _ _ _ (by simp))) (touch_field _ _ _ (by simp)))
    (touch_updLane _ _ _) (by simp) (by simp)

theorem known_said (s : State) (n : Nat) (b : List Byte) :
    (s.known n b).on (F.LANE_MOD_ID_OK n) = true ∧ (s.known n b).on (F.LANE_MOD_NO_ANSWER n) = false := by
  simp [State.known]

theorem known_lane (s : State) (n : Nat) (b : List Byte) : (s.known n b).lane n = { s.lane n with modFail := false } := by
  rw [State.known, State.lane_updLane_same]
  simp only [State.lane, State.setF_lanes]

/-- A module whose kind the part does not know. -/
def State.unknown (s : State) (n : Nat) : State :=
  (((s.setF (F.LANE_MOD_NO_ANSWER n) 0).loseId n).updLane n (fun l => { l with modFail := true })).raise FS.LANE_MOD_FAULT

theorem loseId_touch (s : State) (n : Nat) : Touches [.lanes] [A.LANE_MOD n, A.LIFE_LANE n] s (s.loseId n) := by
  unfold State.loseId
  refine Touches.trans ?_ (touch_field _ _ _ (by simp))
  split
  · exact Touches.then ((touch_updLane s n _).mono (by simp) (by simp)) (touch_setReg _ _ _) (by simp) (by simp)
  · exact Touches.refl _ _ _

theorem loseId_id (s : State) (n : Nat) : (s.loseId n).on (F.LANE_MOD_ID_OK n) = false := State.on_setF_zero _ _ rfl

theorem unknown_touch (s : State) (n : Nat) : Touches [.lanes, .hub] [A.LANE_MOD n, A.LIFE_LANE n] s (s.unknown n) :=
  Touches.then (.then (Touches.trans (touch_field s _ _ (by simp)) ((loseId_touch _ n).mono (by simp) (by simp))) (touch_updLane _ _ _)
    (by simp) (by simp)) (touch_raise _ _) (by simp) (by simp)

theorem unknown_said (s : State) (n : Nat) :
    (s.unknown n).on (F.LANE_MOD_ID_OK n) = false ∧ FS.LANE_MOD_FAULT ∈ (s.unknown n).hub.raised := by
  refine ⟨?_, by simp [State.unknown]⟩
  rw [State.unknown, (touch_raise _ _).on (by simp), (touch_updLane _ _ _).on (by simp), loseId_id]

theorem identify_none (s : State) (n : Nat) : s.identify n none = (s.identifying n).unanswered n := rfl

theorem identify_known (s : State) (n : Nat) {b : List Byte} (kind : numAt b 0 1 = 2 ∨ numAt b 0 1 = 3) :
    s.identify n (some b) = (s.identifying n).known n b := if_pos kind

theorem identify_unknown (s : State) (n : Nat) {b : List Byte} (two : numAt b 0 1 ≠ 2) (three : numAt b 0 1 ≠ 3) :
    s.identify n (some b) = (s.identifying n).unknown n := if_neg (by rintro (h | h); exacts [two h, three h])

/-! The lane that takes a power-up slot identifies its module (R75, R87). -/

section
variable {s : State} (on : s.running = true) {n : Fin 32} (found : laneNumbers.find? (fun k => s.laneSt k == 1) = some n.val)
  (few : (s.node.pendAt.filter (fun t => decide (s.now < t + 10000))).length < 4) (first : (s.lane n).modRead = false)
include on found few first

/-- The state in which the lane's module is about to answer. -/
theorem powerUpSlot_identifies (answer : Option (List Byte)) :
    exec (.powerUpSlot answer) s = .next ((s.poweredUp n).identify n answer).wrapUp := by
  refine runEvent_of_eq on ?_
  rw [onPowerUpSlot_found found few, if_neg]
  rw [poweredUp_lane]
  exact ne_true_of_eq_false first

omit on few first in
/-- Power and the transfer leave what the lane's status and module registers and the parts below say. -/
theorem identifying_poweredUp_touch :
    Touches [.lanes, .recorder, .node] [A.LANE_STATUS n, A.LANE_EQ n] s ((s.poweredUp n).identifying n) :=
  Touches.then (poweredUp_touch found) (identifying_touch _ n) (by simp) (by simp)

end

/-- The module's registers are not the status of its lane. -/
theorem status_ne_module {n : Nat} (hn : n < 32) : A.LANE_STATUS n ∉ [A.LANE_MOD n, A.LIFE_LANE n] := by
  simp [A.LANE_STATUS, A.LANE_MOD, A.LIFE_LANE]
  omega

theorem identifying_pwr (s : State) (n : Nat) : ((s.poweredUp n).identifying n).laneSt n = 2 :=
  ((identifying_touch _ n).f (by simp)).trans (enterPwr_st _ _ _)

section
variable {s : State} (on : s.running = true) {n : Fin 32} (found : laneNumbers.find? (fun k => s.laneSt k == 1) = some n.val)
  (few : (s.node.pendAt.filter (fun t => decide (s.now < t + 10000))).length < 4) (first : (s.lane n).modRead = false)
include on found few first

theorem powerUpSlot_knownModule (b : List Byte) (kind : numAt b 0 1 = 2 ∨ numAt b 0 1 = 3) :
    ∃ t : State, exec (.powerUpSlot (some b)) s = .next t.wrapUp ∧ t.laneSt n = 2 ∧ t.on (F.LANE_MOD_ID_OK n) = true ∧
      t.on (F.LANE_MOD_NO_ANSWER n) = false ∧ (t.lane n).modRead = true ∧
      Touches [.lanes, .recorder, .node] [A.LANE_STATUS n, A.LANE_EQ n, A.LANE_MOD n] s t := by
  have step := powerUpSlot_identifies on found few first (some b)
  have known := known_touch ((s.poweredUp n).identifying n) n b
  obtain ⟨ok, answered⟩ := known_said ((s.poweredUp n).identifying n) n b
  rw [identify_known _ _ kind] at step
  refine ⟨_, step, ?_, ok, answered, ?_, ?_⟩
  · exact (known.f (by rw [List.mem_singleton]; exact laneReg_ne n (by decide))).trans (identifying_pwr s n)
  · rw [known_lane, State.identifying, State.lane_updLane_same]
  · exact Touches.trans ((identifying_poweredUp_touch found).mono (by simp) (by simp)) (known.mono (by simp) (by simp))

theorem powerUpSlot_noModule :
    ∃ t : State, exec (.powerUpSlot none) s = .next t.wrapUp ∧ t.laneSt n = 2 ∧ t.on (F.LANE_MOD_NO_ANSWER n) = true ∧
      FS.LANE_MOD_FAULT ∈ t.hub.raised ∧ Touches [.lanes, .recorder, .node, .hub] [A.LANE_STATUS n, A.LANE_EQ n, A.LANE_MOD n] s t := by
  have step := powerUpSlot_identifies on found few first none
  have silent := unanswered_touch ((s.poweredUp n).identifying n) n
  obtain ⟨noAnswer, fault⟩ := unanswered_said ((s.poweredUp n).identifying n) n
  rw [identify_none] at step
  refine ⟨_, step, ?_, noAnswer, fault, ?_⟩
  · exact (silent.f (by rw [List.mem_singleton]; exact laneReg_ne n (by decide))).trans (identifying_pwr s n)
  · exact Touches.trans ((identifying_poweredUp_touch found).mono (by simp) (by simp)) (silent.mono (by simp) (by simp))

theorem powerUpSlot_unknownModule (b : List Byte) (two : numAt b 0 1 ≠ 2) (three : numAt b 0 1 ≠ 3) :
    ∃ t : State, exec (.powerUpSlot (some b)) s = .next t.wrapUp ∧ t.laneSt n = 2 ∧ t.on (F.LANE_MOD_ID_OK n) = false ∧
      FS.LANE_MOD_FAULT ∈ t.hub.raised ∧
      Touches [.lanes, .recorder, .node, .hub] [A.LANE_STATUS n, A.LANE_EQ n, A.LANE_MOD n, A.LIFE_LANE n] s t := by
  have step := powerUpSlot_identifies on found few first (some b)
  have unknown := unknown_touch ((s.poweredUp n).identifying n) n
  obtain ⟨notOk, fault⟩ := unknown_said ((s.poweredUp n).identifying n) n
  rw [identify_unknown _ _ two three] at step
  refine ⟨_, step, (unknown.f (status_ne_module n.isLt)).trans (identifying_pwr s n), notOk, fault, ?_⟩
  exact Touches.trans ((identifying_poweredUp_touch found).mono (by simp) (by simp)) (unknown.mono (by simp) (by simp))

end

/-! A module is polled (R87). -/

/-- What a poll of a module reads into its registers, but for the power sent. -/
def State.ddmRead (s : State) (n : Nat) (b : List Byte) : State :=
  ((s.setF (F.LANE_DDM0_TEMP n) (beNat (slice b 0 2))).setF (F.LANE_DDM0_RX_POWER n) (beNat (slice b 8 2))).setF
    (F.LANE_DDM1_VCC n) (beNat (slice b 2 2))

/-- The powers of a poll are noted. -/
def State.powerNoted (s : State) (n : Nat) (b : List Byte) (warn : Nat) : State :=
  ((s.ddmRead n b).setF (F.LANE_DDM1_TX_POWER n) (beNat (slice b 6 2))).updLane n (fun l => { l with
    polledAt := (s.ddmRead n b).now, lowWarn := warn, powSum := l.powSum + beNat (slice b 8 2), powN := l.powN + 1 })

theorem ddmRead_touch (s : State) (n : Nat) (b : List Byte) : Touches [] [A.LANE_DDM0 n, A.LANE_DDM1 n] s (s.ddmRead n b) :=
  Touches.trans (.trans (touch_field _ _ _ (by simp)) (touch_field _ _ _ (by simp))) (touch_field _ _ _ (by simp))

theorem powerNoted_touch (s : State) (n : Nat) (b : List Byte) (warn : Nat) :
    Touches [.lanes] [A.LANE_DDM0 n, A.LANE_DDM1 n] s (s.powerNoted n b warn) :=
  Touches.then (.then ((ddmRead_touch s n b).mono (by simp) (by simp)) (touch_setF _ _ _) (by simp) (by simp)) (touch_updLane _ _ _)
    (by simp) (by simp)

theorem powerNoted_lowPolls (s : State) (n : Nat) (b : List Byte) (warn : Nat) :
    ((s.powerNoted n b warn).lane n).lowPolls = (s.lane n).lowPolls := by
  rw [State.powerNoted, State.lane_updLane_same, (touch_setF _ _ _).lane (by simp), (ddmRead_touch s n b).lane (by simp)]

theorem powerNoted_power (s : State) (n : Nat) (b : List Byte) (warn : Nat) :
    (s.powerNoted n b warn).f (F.LANE_DDM0_RX_POWER n) = beNat (slice b 8 2) % 65536 := by
  have other (u : State) (x : Fld) (v : Nat) (h : x.addr = A.LANE_DDM1 n) : (u.setF x v).f (F.LANE_DDM0_RX_POWER n) = u.f (F.LANE_DDM0_RX_POWER n) :=
    State.f_setF_ne _ _ _ _ (by rw [h]; exact laneReg_ne n (by decide))
  rw [State.powerNoted, (touch_updLane _ _ _).f (by simp), other _ _ _ rfl, State.ddmRead, other _ _ _ rfl, State.f_setF_same _ _ _ rfl]
  rfl

/-- The received power is found low once more. -/
def State.lowCounted (s : State) (n : Nat) : State := s.updLane n (fun l => { l with lowPolls := l.lowPolls + 1 })

theorem lowCounted_lowPolls (s : State) (n : Nat) : ((s.lowCounted n).lane n).lowPolls = (s.lane n).lowPolls + 1 := by
  rw [State.lowCounted, State.lane_updLane_same]

/-- The received power is low for the third time. -/
def State.lowReported (s : State) (n : Nat) : State := ((s.lowCounted n).setF (F.LANE_MOD_RX_LOW n) 1).raise FS.LANE_OPT_LOW

theorem lowReported_touch (s : State) (n : Nat) : Touches [.lanes, .hub] [A.LANE_MOD n] s (s.lowReported n) :=
  Touches.then (.then ((touch_updLane s n _).mono (by simp) (by simp)) (touch_setF _ _ _) (by simp) (by simp)) (touch_raise _ _)
    (by simp) (by simp)

theorem lowReported_said (s : State) (n : Nat) :
    (s.lowReported n).on (F.LANE_MOD_RX_LOW n) = true ∧ FS.LANE_OPT_LOW ∈ (s.lowReported n).hub.raised := by
  simp [State.lowReported]

/-- A poll begins: its instant is reached, and the multiplexer set. -/
def State.polling (s : State) (n : Nat) : State := (s.reachNow ((s.lane n).polledAt + 100000000)).selectMux n

theorem polling_touch (s : State) (n : Nat) : Touches [.clk, .node] [] s (s.polling n) :=
  Touches.trans ((reachNow_touch s _).mono (by simp) (by simp)) ((selectMux_touch _ n).mono (by simp) (by simp))

/-- The registers that a poll reads into are not the module's own. -/
theorem module_ne_ddm (n : Nat) : A.LANE_MOD n ∉ [A.LANE_DDM0 n, A.LANE_DDM1 n] := by
  simp [A.LANE_MOD, A.LANE_DDM0, A.LANE_DDM1]

section
variable {s : State} {n : Fin 32} {b : List Byte} (powered : s.laneSt n ≠ 0) (polls : s.on (F.LANE_MOD_POLL_EN n) = true)
  (identified : (s.lane n).modRead = true) (good : (s.lane n).modFail = false) (warned : (s.lane n).lowWarn ≠ 0)
include powered polls identified good warned

theorem onModulePoll_eq {u : State} (noted : u = (s.polling n).powerNoted n b (s.lane n).lowWarn) : onModulePoll n (some b) s =
    if u.on (F.LANE_MOD_EXT_CAL n) then u
    else if (s.lane n).lowWarn ≤ beNat (slice b 8 2) then (u.setF (F.LANE_MOD_RX_LOW n) 0).updLane n (fun l => { l with lowPolls := 0 })
    else if ((u.lowCounted n).lane n).lowPolls = 3 then u.lowReported n else u.lowCounted n := by
  have warn : (if (s.lane n).lowWarn = 0 then beNat (slice b 10 2) else (s.lane n).lowWarn) = (s.lane n).lowWarn := if_neg warned
  rw [onModulePoll, noted, State.polling, polls, identified, if_neg (by simpa using powered), good]
  simp only [Bool.false_eq_true, if_false]
  rw [warn]
  rfl

theorem onModulePoll_low (calibrated : s.on (F.LANE_MOD_EXT_CAL n) = false) (low : beNat (slice b 8 2) < (s.lane n).lowWarn)
    (third : (s.lane n).lowPolls = 2) :
    onModulePoll n (some b) s = ((s.polling n).powerNoted n b (s.lane n).lowWarn).lowReported n := by
  have internal : ¬((s.polling n).powerNoted n b (s.lane n).lowWarn).on (F.LANE_MOD_EXT_CAL n) = true := by
    rw [(powerNoted_touch _ n b _).on (module_ne_ddm n), (polling_touch s n).on (by simp), calibrated]
    decide
  have polled : ((((s.polling n).powerNoted n b (s.lane n).lowWarn).lowCounted n).lane n).lowPolls = 3 := by
    rw [lowCounted_lowPolls, powerNoted_lowPolls, (polling_touch s n).lane (by simp), third]
  rw [onModulePoll_eq powered polls identified good warned rfl, if_neg internal, if_neg (Nat.not_le.mpr low), if_pos polled]

theorem modulePoll_low (on : s.running = true) (calibrated : s.on (F.LANE_MOD_EXT_CAL n) = false)
    (low : beNat (slice b 8 2) < (s.lane n).lowWarn) (third : (s.lane n).lowPolls = 2) :
    ∃ t : State, exec (.modulePoll n (some b)) s = .next t.wrapUp ∧ t.on (F.LANE_MOD_RX_LOW n) = true ∧
      t.f (F.LANE_DDM0_RX_POWER n) = beNat (slice b 8 2) % 65536 ∧ FS.LANE_OPT_LOW ∈ t.hub.raised ∧
      Touches [.lanes, .clk, .hub, .node] [A.LANE_DDM0 n, A.LANE_DDM1 n, A.LANE_MOD n] s t := by
  have noted := powerNoted_touch (s.polling n) n b (s.lane n).lowWarn
  have reported := lowReported_touch ((s.polling n).powerNoted n b (s.lane n).lowWarn) n
  obtain ⟨isLow, fault⟩ := lowReported_said ((s.polling n).powerNoted n b (s.lane n).lowWarn) n
  refine ⟨_, runEvent_of_eq on (onModulePoll_low powered polls identified good warned calibrated low third), isLow, ?_, fault, ?_⟩
  · have apart : A.LANE_DDM0 n ∉ [A.LANE_MOD n] := by simp [A.LANE_DDM0, A.LANE_MOD]
    exact (reported.f apart).trans (powerNoted_power _ _ _ _)
  · exact Touches.then (.then ((polling_touch s n).mono (by simp) (by simp)) noted (by simp) (by simp)) reported (by simp) (by simp)

end

/-! A held transfer times out (R88). -/

/-- The held transfer of a lane is given up at an instant. -/
def State.transferDropped (s : State) (n t : Nat) : State := (s.reachNow t).updLane n (fun l => { l with i2c := none })

theorem transferDropped_touch (s : State) (n t : Nat) : Touches [.lanes, .clk] [] s (s.transferDropped n t) :=
  Touches.then ((reachNow_touch s _).mono (by simp) (by simp)) (touch_updLane _ _ _) (by simp) (by simp)

theorem transferDropped_busy (s : State) (n t : Nat) :
    ((s.reachNow t).updLane n (fun l => { l with i2c := none })).cmd.busy = s.cmd.busy :=
  congrArg Cmd.busy ((transferDropped_touch s n t).cmd (by simp))

theorem transferDropped_late (s : State) (n t : Nat) : t ≤ (s.transferDropped n t).now := by
  rw [State.transferDropped, (touch_updLane _ _ _).now (by simp)]
  exact reachNow_le s t

theorem transferDropped_lane (s : State) (n t : Nat) : ((s.transferDropped n t).lane n).i2c = none := by
  rw [State.transferDropped, State.lane_updLane_same]

theorem onSclTimeout_found {s : State} {n : Nat} {bus : Fin 2}
    (found : laneNumbers.find? (fun k => (s.lane k).i2c.isSome && s.moduleBus k == bus.val) = some n) {op : Nat} {p : Packet}
    (held : (s.lane n).i2c = some p) (busy : s.cmd.busy = some (op, p)) :
    onSclTimeout bus s = (s.transferDropped n ((s.lane n).i2cAt + 10000000)).release op p Stat.TIMEOUT [] := by
  -- the wait by a name: the kernel would count the literal down one by one
  obtain ⟨wait, named⟩ : ∃ wait : Nat, wait = 10000000 := ⟨_, rfl⟩
  rw [onSclTimeout, found, State.transferDropped, ← named]
  simp only [transferDropped_busy, busy, held, if_true]

theorem sclTimeout_releases {s : State} (on : s.running = true) {n : Fin 32} (bus : Fin 2) (op : Nat) (p : Packet)
    (found : laneNumbers.find? (fun k => (s.lane k).i2c.isSome && s.moduleBus k == bus.val) = some n.val)
    (held : (s.lane n).i2c = some p) (busy : s.cmd.busy = some (op, p)) :
    ∃ u : State, exec (.sclTimeout bus) s = .next (u.release op p Stat.TIMEOUT []).wrapUp ∧ (u.lane n).i2c = none ∧
      (s.lane n).i2cAt + 10000000 ≤ u.now ∧ Touches [.lanes, .clk] [] s u := by
  exact ⟨_, runEvent_of_eq on (onSclTimeout_found found held busy), transferDropped_lane s n _, transferDropped_late s n _,
    transferDropped_touch s n _⟩

/-! A host lane's negotiation ends (R105). -/

section
variable {s : State} (on : s.running = true) {n : Fin 32} (host : s.f (F.LANE_CFG_MODE n) = 1) (listening : s.laneSt n = 3)
  (aligned : s.on (F.LANE_STATUS_ALIGNED n) = true) (mac : s.macOk = true)
include on host listening aligned mac

theorem autonegComplete_up (fullDuplex : Bool) (agreed : fullDuplex = true ∨ s.on (F.LANE_CFG_AN_EN n) = false) :
    ∃ t : State, exec (.autonegComplete n fullDuplex) s = .next t.wrapUp ∧ t.laneSt n = 8 ∧
      t.on (F.LANE_STATUS_AN_DONE n) = s.on (F.LANE_CFG_AN_EN n) ∧ (t.lane n).since = s.now ∧ Touches [.lanes] [A.LANE_STATUS n] s t := by
  have links : onAutonegComplete n fullDuplex s = (s.setF (F.LANE_STATUS_AN_DONE n) (b2n (s.on (F.LANE_CFG_AN_EN n)))).hostUp n := by
    rw [onAutonegComplete, if_neg (by rw [host, listening, aligned, mac]; decide), if_neg]
    rcases agreed with full | off
    · simp [full]
    · rw [off]; exact fun h => Bool.noConfusion h.1
  refine ⟨_, runEvent_of_eq on links, by simp [State.hostUp, State.laneSt], ?_, ?_, Touches.trans (touch_field _ _ _ (by simp)) (hostUp_touch _ _)⟩
  · have negotiated : (s.setF (F.LANE_STATUS_AN_DONE n) (b2n (s.on (F.LANE_CFG_AN_EN n)))).f (F.LANE_STATUS_AN_DONE n) =
        b2n (s.on (F.LANE_CFG_AN_EN n)) := State.f_setF_of_lt _ _ rfl (b2n_lt _)
    rw [State.hostUp, (touch_updLane _ _ _).on (by simp), State.on_setF_apart _ _ _ _ rfl rfl rfl, State.on, negotiated, b2n_beq_one]
  · rw [State.hostUp, State.lane_updLane_same]
    rfl

theorem autonegComplete_halfDuplex (negotiates : s.on (F.LANE_CFG_AN_EN n) = true) :
    ∃ t : State, exec (.autonegComplete n false) s = .next t.wrapUp ∧ t.hub.raised = s.hub.raised ++ [FS.HOST_LINK_LOSS] ∧
      Touches [.hub] [] s t := by
  have refused : onAutonegComplete n false s = s.raise FS.HOST_LINK_LOSS := by
    rw [onAutonegComplete, if_neg (by rw [host, listening, aligned, mac]; decide), if_pos ⟨negotiates, rfl⟩]
  exact ⟨_, runEvent_of_eq on refused, rfl, touch_raise _ _⟩

end

/-- Settles O3: the identification of a module by its answer, a poll, a held transfer, and the end of a negotiation. -/
theorem modulesAndHostLinks : Obligations.ModulesAndHostLinks := by
  unfold Obligations.ModulesAndHostLinks
  intro n s on
  refine ⟨?known, ?none, ?unknown, ?poll, ?held, ?linked, ?halfDuplex⟩
  case known => exact fun b found few first kind => powerUpSlot_knownModule on found few first b kind
  case none => exact fun found few first => powerUpSlot_noModule on found few first
  case unknown => exact fun b found few first two three => powerUpSlot_unknownModule on found few first b two three
  case poll =>
    exact fun b powered polls identified good calibrated warned low third =>
      modulePoll_low powered polls identified good warned on calibrated low third
  case held => exact sclTimeout_releases on
  case linked => exact fun fullDuplex host listening aligned mac => autonegComplete_up on host listening aligned mac fullDuplex
  case halfDuplex => exact autonegComplete_halfDuplex on

end Sys2Proof.Machine
end

section
/-!
SUPPORT. The lane opcodes (03 R108): what a lane taken down keeps, then LANE_RESTART, LANE_RATE, EQ_LOAD and PRBS_START.
-/
namespace Sys2Proof.Machine
open Sys2Proof

/-! What a lane taken down keeps. -/

theorem KeepsUse.trans {s t u : State} (h : KeepsUse s t) (k : KeepsUse t u) : KeepsUse s u := fun m => (k m).trans (h m)

/-- A write that keeps off every CMD_DL keeps the use of every lane. -/
theorem Touches.keepsUse {ps : List Part} {l : List Nat} {s t : State} (h : Touches ps l s t) (off : ∀ m, A.CMD_DL m ∉ l) : KeepsUse s t :=
  fun m => h.f (off m)

theorem dropPresent_use (s : State) (n : Nat) : KeepsUse s (s.dropPresent n) := by
  have presence : KeepsUse s (s.setF (F.CMD_DL_PRESENT n) 0) := fun m => use_setF _ n _ m rfl rfl rfl
  have absent (u : State) : KeepsUse u u.showAbsent := fun m => State.f_setF_ne _ _ _ _ (by simp; omega)
  rw [State.dropPresent]
  split
  · exact (presence.trans ((touch_updUnit _ _ _).keepsUse (by simp))).trans (absent _)
  · exact presence.trans (absent _)

theorem childLeft_use (s : State) (n : Nat) : KeepsUse s (s.childLeft n) := by
  rw [State.childLeft]
  split
  · exact dropPresent_use s n
  · split
    · exact fun m => use_setF _ n _ m rfl rfl rfl
    · exact fun _ => rfl

section
variable (s : State) {n : Nat} (hn : n < 32) (st : Nat)
include hn

theorem lowerLane_use : KeepsUse s (s.lowerLane n st) := by
  have counted := (lossCounted_touch s n st).keepsUse (by simp [A.LANE_STATUS, A.CMD_DL]; omega)
  have stopped := (laneTo_touch (s.lossCounted n st) n st).keepsUse
    (by simp [laneRegs, A.LANE_STATUS, A.LANE_PRBS, A.LANE_PRBS_TIME, A.CMD_DL]; omega)
  exact (counted.trans stopped).trans (childLeft_use _ n)

/-- A register that a lane taken down keeps. -/
theorem lowerLane_cfg {x : Fld} (here : x.addr = A.LANE_CFG n) : (s.lowerLane n st).f x = s.f x :=
  (lowerLane_touch s n st).f (by rw [here]; simp [lowerRegs, laneRegs, A.LANE_STATUS, A.LANE_PRBS, A.LANE_PRBS_TIME, A.CMD_DL, A.CMD_CAP, A.LANE_CFG]; omega)

theorem lowerLane_role : (s.lowerLane n st).role = s.role :=
  (lowerLane_touch s n st).f (by simp [lowerRegs, laneRegs, A.LANE_STATUS, A.LANE_PRBS, A.LANE_PRBS_TIME, A.CMD_DL, A.CMD_CAP]; omega)

/-- The rate in use and the fall-back stay as they were. -/
theorem lowerLane_rate (low : 3 ≤ st) : (s.lowerLane n st).f (F.LANE_STATUS_RATE_NOW n) = s.f (F.LANE_STATUS_RATE_NOW n) := by
  rw [lowerLane_f _ hn rfl rfl rfl rfl rfl (.inl low), lossCounted_f _ rfl rfl]

theorem lowerLane_degraded (low : 3 ≤ st) : (s.lowerLane n st).f (F.LANE_STATUS_DEGRADED n) = s.f (F.LANE_STATUS_DEGRADED n) := by
  rw [lowerLane_f _ hn rfl rfl rfl rfl rfl (.inl low), lossCounted_f _ rfl rfl]

theorem lowerLane_laneKind : (s.lowerLane n st).laneKind n = s.laneKind n :=
  laneKind_congr (lowerLane_role s hn st) (lowerLane_use s hn st) n

theorem lowerLane_rateBelow (k : Nat) : (s.lowerLane n st).rateBelow n k = s.rateBelow n k := by
  rw [State.rateBelow, State.rateBelow, lowerLane_cfg s hn st rfl]

theorem lowerLane_startRate (low : 3 ≤ st) : (s.lowerLane n st).startRate n = s.startRate n := by
  rw [State.startRate, State.startRate, lowerLane_rateBelow s hn, lowerLane_cfg s hn st (x := F.LANE_CFG_MODE n) rfl,
    lowerLane_cfg s hn st (x := F.LANE_CFG_RATE n) rfl, lowerLane_rate s hn st low,
    State.isMeadow, State.isMeadow, lowerLane_role s hn, State.on, State.on, lowerLane_degraded s hn st low]

end

/-! RATE_FALLBACK (R80). -/

theorem fallBack_noted {s : State} {n : Nat} (kind : s.laneKind n = 2)
    (none : (if 3 ≤ (slide 10000000000 s.now (s.lane n).lossAt).length then s.rateBelow n (s.f (F.LANE_STATUS_RATE_NOW n)) else none) = none) :
    s.fallBack n = s.updLane n (fun x => { x with lossAt := slide 10000000000 s.now (s.lane n).lossAt }) := by
  rw [State.fallBack, if_neg (not_not.mpr kind)]
  dsimp only
  rw [none]

theorem fallBack_slower {s : State} {n r : Nat} (kind : s.laneKind n = 2) (many : 3 ≤ (slide 10000000000 s.now (s.lane n).lossAt).length)
    (slower : s.rateBelow n (s.f (F.LANE_STATUS_RATE_NOW n)) = some r) :
    s.fallBack n = (((s.setF (F.LANE_STATUS_RATE_NOW n) r).setF (F.LANE_STATUS_DEGRADED n) 1).updLane n
      (fun x => { x with lossAt := [] })).raise FS.LANE_DEGRADED := by
  rw [State.fallBack, if_neg (not_not.mpr kind)]
  dsimp only
  rw [if_pos many, slower]

/-! LANE_RESTART (R80, R108). -/

/-- A lane that has not fallen back. -/
def State.fullRate (s : State) (n : Nat) : State := s.setF (F.LANE_STATUS_DEGRADED n) 0

theorem fullRate_touch (s : State) (n : Nat) : Touches [] [A.LANE_STATUS n] s (s.fullRate n) := touch_setF _ _ _

theorem fullRate_f (s : State) {n : Nat} {x : Fld} (ok : x.ok = true) (apart : (F.LANE_STATUS_DEGRADED n).apart x = true) :
    (s.fullRate n).f x = s.f x := State.f_setF_apart _ _ _ _ rfl ok apart

theorem fullRate_degraded (s : State) (n : Nat) : (s.fullRate n).on (F.LANE_STATUS_DEGRADED n) = false := State.on_setF_zero _ _ rfl

theorem fullRate_laneKind (s : State) {n : Nat} (hn : n < 32) : (s.fullRate n).laneKind n = s.laneKind n :=
  laneKind_congr ((fullRate_touch s n).f (by simp [A.LANE_STATUS]; omega))
    ((fullRate_touch s n).keepsUse (by simp [A.LANE_STATUS, A.CMD_DL]; omega)) n

/-- A lane on its way down by command. -/
def State.restarting (s : State) (n : Nat) : State := (s.fullRate n).lowerLane n 7

/-- The rate that a lane starts at is in use, and its losses are forgotten. -/
def State.freshRate (s : State) (n rate : Nat) : State := (s.setF (F.LANE_STATUS_RATE_NOW n) rate).updLane n (fun l => { l with lossAt := [] })

theorem freshRate_touch (s : State) (n rate : Nat) : Touches [.lanes] [A.LANE_STATUS n] s (s.freshRate n rate) :=
  Touches.then (touch_field _ _ _ (by simp)) (touch_updLane _ _ _) (by simp) (by simp)

theorem freshRate_f (s : State) {n : Nat} (rate : Nat) {x : Fld} (ok : x.ok = true) (apart : (F.LANE_STATUS_RATE_NOW n).apart x = true) :
    (s.freshRate n rate).f x = s.f x := by
  rw [State.freshRate, (touch_updLane _ _ _).f (by simp), State.f_setF_apart _ _ _ _ rfl ok apart]

theorem freshRate_rate (s : State) (n : Nat) {rate : Nat} (fits : rate < 4) : (s.freshRate n rate).f (F.LANE_STATUS_RATE_NOW n) = rate := by
  rw [State.freshRate, (touch_updLane _ _ _).f (by simp), State.f_setF_of_lt _ _ rfl fits]

theorem freshRate_lane (s : State) (n rate : Nat) : (s.freshRate n rate).lane n = { s.lane n with lossAt := [] } := by
  rw [State.freshRate, State.lane_updLane_same, (touch_setF _ _ _).lane (by simp)]

section
variable (s : State) {n : Nat} (hn : n < 32)
include hn

theorem restarting_startRate : (s.restarting n).startRate n = (s.fullRate n).startRate n := lowerLane_startRate _ hn 7 (by decide)

theorem restarting_rate : (s.restarting n).f (F.LANE_STATUS_RATE_NOW n) = s.f (F.LANE_STATUS_RATE_NOW n) :=
  (lowerLane_rate _ hn 7 (by decide)).trans (fullRate_f s rfl rfl)

theorem restarting_degraded : (s.restarting n).on (F.LANE_STATUS_DEGRADED n) = false := by
  rw [State.on, State.restarting, lowerLane_degraded _ hn 7 (by decide), ← State.on, fullRate_degraded]

theorem restarting_laneKind : (s.restarting n).laneKind n = s.laneKind n :=
  (lowerLane_laneKind _ hn 7).trans (fullRate_laneKind s hn)

theorem restarting_rateBelow (k : Nat) : (s.restarting n).rateBelow n k = s.rateBelow n k := by
  rw [State.restarting, lowerLane_rateBelow _ hn, State.rateBelow, State.rateBelow,
    (fullRate_touch s n).f (by rw [List.mem_singleton]; exact laneReg_ne n (by decide))]

theorem restarting_laneSt : (s.restarting n).laneSt n = 7 := lowerLane_st _ _ _ (by decide) hn

omit hn in
theorem restarting_lane : (s.restarting n).lane n = { (s.lane n).quiet with since := s.now } := by
  rw [State.restarting, lowerLane_lane, (fullRate_touch s n).lane (by simp), (fullRate_touch s n).now (by simp),
    show ((7 : Nat) != 0) = true from rfl, Bool.and_true, Bool.and_true]
  rfl

omit hn in
theorem restarting_touch : Touches [.lanes, .recorder, .units] (lowerRegs n) s (s.restarting n) :=
  Touches.then ((fullRate_touch s n).mono (by simp) (by simp [lowerRegs, laneRegs])) (lowerLane_touch _ n 7) (by simp) (by simp)

omit hn in
theorem restarting_touch_up (up : s.laneUp n = true) :
    Touches [.lanes, .recorder, .units] [A.LANE_STATUS n, A.CMD_DL n, A.CMD_CAP] s (s.restarting n) := by
  have untested : (s.fullRate n).laneSt n ≠ 6 := by
    rw [State.laneSt, fullRate_f s rfl rfl, ← State.laneSt, up_laneSt up]
    decide
  exact Touches.then ((fullRate_touch s n).mono (by simp) (by simp)) (lowerLane_touch_status _ n 7 untested) (by simp) (by simp)

end

theorem restartLane_eq (s : State) {n : Nat} (hn : n < 32) : s.restartLane n =
    if s.laneUp n = true ∧ s.f (F.LANE_STATUS_RATE_NOW n) = (s.fullRate n).startRate n then (s.restarting n).fallBack n
    else (s.restarting n).freshRate n ((s.fullRate n).startRate n) := by
  rw [← restarting_startRate s hn]
  rfl

/-- The rate that a downlink starts at, when it has not fallen back, is the one it is set to. -/
theorem fullRate_startRate {s : State} {n : Nat} (down : (!s.isMeadow && decide (n < 2)) = false) (tree : s.f (F.LANE_CFG_MODE n) ≠ 1) :
    (s.fullRate n).startRate n = s.f (F.LANE_CFG_RATE n) := by
  have cfg {x : Fld} (h : x.addr = A.LANE_CFG n) : (s.fullRate n).f x = s.f x :=
    (fullRate_touch s n).f (by rw [h, List.mem_singleton]; exact laneReg_ne n (by decide))
  have role : (s.fullRate n).isMeadow = s.isMeadow := by
    rw [State.isMeadow, State.isMeadow, State.role, State.role, (fullRate_touch s n).f (notMem_status n (by decide))]
  have notUp : ¬(!s.isMeadow ∧ n < 2) := by simpa using down
  rw [State.startRate, cfg rfl, if_neg tree, role, if_neg notUp, fullRate_degraded, if_neg Bool.false_ne_true, cfg rfl]

theorem startRate_lt (s : State) (n : Nat) : s.startRate n < 4 := by
  have rate := f_lt s (F.LANE_CFG_RATE n)
  have now := f_lt s (F.LANE_STATUS_RATE_NOW n)
  unfold State.startRate
  split
  · decide
  · split
    · rcases h : s.rateBelow n 4 with _ | r
      · decide
      · have := List.mem_of_find?_eq_some h
        simpa using this
    · split
      · exact now
      · exact rate

section
variable {s : State} {n : Nat} (hn : n < 32)
include hn

/-- A lane that is not UP at the rate it starts at loses its fall-back. -/
theorem restartLane_fresh (other : s.laneUp n = false ∨ s.f (F.LANE_STATUS_RATE_NOW n) ≠ (s.fullRate n).startRate n) :
    s.restartLane n = (s.restarting n).freshRate n ((s.fullRate n).startRate n) := by
  rw [restartLane_eq s hn, if_neg]
  rintro ⟨up, same⟩
  rcases other with down | differs
  · exact Bool.false_ne_true (down.symm.trans up)
  · exact differs same

/-- A lane that is UP at the rate it starts at leaves UP. -/
theorem restartLane_loss (up : s.laneUp n = true) (same : s.f (F.LANE_STATUS_RATE_NOW n) = (s.fullRate n).startRate n) :
    s.restartLane n = (s.restarting n).fallBack n := by
  rw [restartLane_eq s hn, if_pos ⟨up, same⟩]

theorem restartLane_down : (s.restartLane n).laneSt n = 7 ∧ ((s.restartLane n).lane n).since = s.now := by
  rw [restartLane_eq s hn]
  split
  · obtain ⟨l, lane⟩ := fallBack_lane (s.restarting n) n
    rw [fallBack_st, restarting_laneSt s hn, lane, restarting_lane]
    exact ⟨rfl, rfl⟩
  · rw [State.laneSt, freshRate_f _ _ rfl rfl, ← State.laneSt, restarting_laneSt s hn, freshRate_lane, restarting_lane]
    exact ⟨rfl, rfl⟩

theorem freshRestart_said (rate : Nat) (fits : rate < 4) {u : State} (hu : u = (s.restarting n).freshRate n rate) :
    u.on (F.LANE_STATUS_DEGRADED n) = false ∧ (u.lane n).lossAt = [] ∧ u.f (F.LANE_STATUS_RATE_NOW n) = rate := by
  subst hu
  refine ⟨?_, by rw [freshRate_lane], freshRate_rate _ n fits⟩
  rw [State.on, freshRate_f _ _ rfl rfl, ← State.on, restarting_degraded s hn]

omit hn in
/-- The losses of the last 10 s, with the one now. -/
theorem restarting_losses : slide 10000000000 (s.restarting n).now ((s.restarting n).lane n).lossAt = slide 10000000000 s.now (s.lane n).lossAt := by
  rw [restarting_lane, (restarting_touch s).now (by simp)]
  rfl

/-- A leaving of UP that is not the third within 10 s. -/
theorem lossRestart_kept (kind : s.laneKind n = 2) (few : (slide 10000000000 s.now (s.lane n).lossAt).length < 3) {u : State}
    (hu : u = (s.restarting n).fallBack n) :
    u.on (F.LANE_STATUS_DEGRADED n) = false ∧ u.f (F.LANE_STATUS_RATE_NOW n) = s.f (F.LANE_STATUS_RATE_NOW n) ∧
      (u.lane n).lossAt = slide 10000000000 s.now (s.lane n).lossAt := by
  have noted := fallBack_noted ((restarting_laneKind s hn).trans kind) (if_neg (by rw [restarting_losses]; exact Nat.not_le.mpr few))
  rw [restarting_losses] at noted
  rw [hu, noted, (touch_updLane _ _ _).on (by simp), (touch_updLane _ _ _).f (by simp), State.lane_updLane_same]
  exact ⟨restarting_degraded s hn, restarting_rate s hn, rfl⟩

/-- The third within 10 s, with a slower rate enabled. -/
theorem lossRestart_slower {r : Nat} (kind : s.laneKind n = 2) (many : 3 ≤ (slide 10000000000 s.now (s.lane n).lossAt).length)
    (slower : s.rateBelow n (s.f (F.LANE_STATUS_RATE_NOW n)) = some r) {u : State} (hu : u = (s.restarting n).fallBack n) :
    u.on (F.LANE_STATUS_DEGRADED n) = true ∧ u.f (F.LANE_STATUS_RATE_NOW n) = r % 4 ∧ FS.LANE_DEGRADED ∈ u.hub.raised := by
  have falls := fallBack_slower ((restarting_laneKind s hn).trans kind) (by rw [restarting_losses]; exact many)
    (by rw [restarting_rate s hn, restarting_rateBelow s hn]; exact slower)
  rw [hu, falls]
  refine ⟨?_, ?_, by simp⟩
  · rw [(touch_raise _ _).on (by simp), (touch_updLane _ _ _).on (by simp), State.on_setF_one _ _ rfl rfl]
  · rw [(touch_raise _ _).f (by simp), (touch_updLane _ _ _).f (by simp), State.f_setF_apart _ _ _ _ rfl rfl rfl, State.f_setF_same _ _ _ rfl]
    rfl

theorem restartLane_touch_up (up : s.laneUp n = true) :
    Touches [.lanes, .recorder, .units, .hub] [A.LANE_STATUS n, A.CMD_DL n, A.CMD_CAP] s (s.restartLane n) := by
  have down := restarting_touch_up s up
  rw [restartLane_eq s hn]
  split
  · exact Touches.trans (down.mono (by simp) (by simp)) ((fallBack_touch _ n).mono (by simp) (by simp))
  · exact Touches.trans (down.mono (by simp) (by simp)) ((freshRate_touch _ n _).mono (by simp) (by simp))

end

/-- A loss that is not the third within 10 s writes no register and raises nothing. -/
theorem fallBack_few {s : State} {n : Nat} (few : (slide 10000000000 s.now (s.lane n).lossAt).length < 3) : Touches [.lanes] [] s (s.fallBack n) := by
  by_cases kind : s.laneKind n = 2
  · rw [fallBack_noted kind (if_neg (Nat.not_le.mpr few))]
    exact touch_updLane _ _ _
  · rw [State.fallBack, if_pos kind]
    exact Touches.refl _ _ _

/-- The lane that a command names. -/
theorem numAt_lane {n : Nat} (hn : n < 32) (rest : List Byte) : numAt (leBytes 1 n ++ rest) 0 1 = n := by
  rw [numAt_front]
  omega

section
variable {n : Fin 32} {p p1 : Packet} {s s1 : State}

theorem laneRestart_down (adm : Admitted rowLaneRestart p s s1 p1) (params : p.params = leBytes 1 n) (enabled : s1.laneEnabled n = true)
    (spare : s1.onlyLane n = false) (elsewhere : cameOn p n = false) :
    exec (.laneRestart p) s = .next ((s1.restartLane n).answers rowLaneRestart p1 Stat.OK []) := by
  have named : numAt p1.params 0 1 = n := by
    rw [adm.params, params, ← List.append_nil (leBytes 1 _), numAt_lane n.isLt]
  have length : p1.params.length = 1 := by rw [adm.params, params, leBytes_length]
  have away : cameOn p1 n = false := by
    obtain ⟨k, rfl⟩ := adm.packet
    exact elsewhere
  refine runCommand_ok adm (by decide) (?_ : opLaneRestart p1 s1 = ok (s1.restartLane n))
  have inRange : ¬31 < n.val := by omega
  rw [opLaneRestart, named, length]
  simp only [enabled, spare, away, inRange, Bool.not_true, Bool.false_eq_true, or_self, if_false, ne_eq, not_true_eq_false]

theorem laneRestart_clause (adm : Admitted rowLaneRestart p s s1 p1) (params : p.params = leBytes 1 n) (enabled : s1.laneEnabled n = true)
    (spare : s1.onlyLane n = false) (elsewhere : cameOn p n = false) :
    ∃ u : State, exec (.laneRestart p) s = .next (u.answers rowLaneRestart p1 Stat.OK []) ∧ u.laneSt n = 7 ∧ (u.lane n).since = s1.now ∧
      (s1.laneUp n = false ∨ s1.f (F.LANE_STATUS_RATE_NOW n) ≠ (s1.setF (F.LANE_STATUS_DEGRADED n) 0).startRate n →
        u.on (F.LANE_STATUS_DEGRADED n) = false ∧ (u.lane n).lossAt = [] ∧
        (2 ≤ n.val → s1.f (F.LANE_CFG_MODE n) ≠ 1 → u.f (F.LANE_STATUS_RATE_NOW n) = s1.f (F.LANE_CFG_RATE n)) ∧
        Touches [.lanes, .recorder, .units] (lowerRegs n) s1 u) ∧
      (s1.laneUp n = true → s1.f (F.LANE_STATUS_RATE_NOW n) = (s1.setF (F.LANE_STATUS_DEGRADED n) 0).startRate n →
        (s1.laneKind n = 2 → (slide 10000000000 s1.now (s1.lane n).lossAt).length < 3 →
          u.on (F.LANE_STATUS_DEGRADED n) = false ∧ u.f (F.LANE_STATUS_RATE_NOW n) = s1.f (F.LANE_STATUS_RATE_NOW n) ∧
          (u.lane n).lossAt = slide 10000000000 s1.now (s1.lane n).lossAt) ∧
        (∀ r, s1.laneKind n = 2 → 3 ≤ (slide 10000000000 s1.now (s1.lane n).lossAt).length →
          s1.rateBelow n (s1.f (F.LANE_STATUS_RATE_NOW n)) = some r →
          u.on (F.LANE_STATUS_DEGRADED n) = true ∧ u.f (F.LANE_STATUS_RATE_NOW n) = r % 4 ∧ FS.LANE_DEGRADED ∈ u.hub.raised) ∧
        Touches [.lanes, .recorder, .units, .hub] [A.LANE_STATUS n, A.CMD_DL n, A.CMD_CAP] s1 u) := by
  obtain ⟨down, since⟩ := restartLane_down (s := s1) n.isLt
  refine ⟨s1.restartLane n, laneRestart_down adm params enabled spare elsewhere, down, since, ?fresh, ?loss⟩
  case fresh =>
    intro other
    have fresh := restartLane_fresh n.isLt other
    obtain ⟨degraded, losses, rate⟩ := freshRestart_said n.isLt _ (startRate_lt (s1.fullRate n) n) fresh
    refine ⟨degraded, losses, fun downlink tree => ?_, ?_⟩
    · rw [rate, fullRate_startRate (by simp; omega) tree]
    · rw [fresh]
      exact Touches.then (restarting_touch s1) (freshRate_touch _ n _) (by simp) (by simp [lowerRegs, laneRegs])
  case loss =>
    intro up same
    have loss := restartLane_loss n.isLt up same
    exact ⟨fun kind few => lossRestart_kept n.isLt kind few loss, fun r kind many slower => lossRestart_slower n.isLt kind many slower loss,
      restartLane_touch_up n.isLt up⟩

end

/-! LANE_RATE (R80, R108). -/

/-- A lane whose rate is given anew. -/
def State.rateGiven (s : State) (n rate : Nat) : State := (s.setF (F.LANE_CFG_RATE n) rate).fullRate n

theorem rateGiven_touch (s : State) (n rate : Nat) : Touches [] [A.LANE_CFG n, A.LANE_STATUS n] s (s.rateGiven n rate) :=
  Touches.trans (touch_field _ _ _ (by simp)) ((fullRate_touch _ n).mono (by simp) (by simp))

/-- The configuration of a lane is not its status. -/
theorem cfg_ne_status (n : Nat) : A.LANE_CFG n ∉ [A.LANE_STATUS n] := by
  rw [List.mem_singleton]
  exact laneReg_ne n (by decide)

theorem status_ne_cfg (n : Nat) : A.LANE_STATUS n ∉ [A.LANE_CFG n] := by
  rw [List.mem_singleton]
  exact laneReg_ne n (by decide)

theorem rateGiven_status (s : State) {n : Nat} (rate : Nat) {x : Fld} (ok : x.ok = true) (here : x.addr = A.LANE_STATUS n)
    (apart : (F.LANE_STATUS_DEGRADED n).apart x = true) : (s.rateGiven n rate).f x = s.f x := by
  rw [State.rateGiven, fullRate_f _ ok apart, (touch_setF _ _ _).f (by rw [here]; exact status_ne_cfg n)]

section
variable (s : State) {n : Nat} {rate : Nat} (fits : rate ≤ 3) (free : s.rateFixed n = false)

include fits in
theorem rateGiven_rate : (s.rateGiven n rate).f (F.LANE_CFG_RATE n) = rate := by
  rw [State.rateGiven, (fullRate_touch _ n).f (cfg_ne_status n), State.f_setF_of_lt _ _ rfl (Nat.lt_succ_of_le fits)]

include fits free in
theorem rateGiven_startRate : ((s.rateGiven n rate).fullRate n).startRate n = rate := by
  have role : (s.rateGiven n rate).isMeadow = s.isMeadow := by
    rw [State.isMeadow, State.isMeadow, State.role, State.role, (rateGiven_touch s n rate).f (by simp [A.LANE_CFG, A.LANE_STATUS]; omega)]
  have mode : (s.rateGiven n rate).f (F.LANE_CFG_MODE n) = s.f (F.LANE_CFG_MODE n) := by
    rw [State.rateGiven, (fullRate_touch _ n).f (cfg_ne_status n), State.f_setF_apart _ _ _ _ rfl rfl rfl]
  rw [State.rateFixed, Bool.or_eq_false_iff] at free
  obtain ⟨downlink, tree⟩ := free
  rw [fullRate_startRate (by rw [role]; exact downlink) (by rw [mode]; simpa using tree), rateGiven_rate s fits]

end

theorem newRate_eq (s : State) (n rate : Nat) : s.newRate n rate =
    if (s.rateGiven n rate).laneUp n then (s.rateGiven n rate).restartLane n else (s.rateGiven n rate).freshRate n rate := rfl

section
variable {n : Fin 32} {p p1 : Packet} {s s1 : State} {rate : Nat} (adm : Admitted rowLaneRate p s s1 p1)
  (params : p.params = leBytes 1 n ++ leBytes 1 rate) (fits : rate ≤ 3) (free : s1.rateFixed n = false)
include adm params fits free

theorem laneRate_new (allowed : s1.laneUp n = true → s1.onlyLane n = false ∧ cameOn p n = false) :
    exec (.laneRate p) s = .next ((s1.newRate n rate).answers rowLaneRate p1 Stat.OK []) := by
  have named : numAt p1.params 0 1 = n := by rw [adm.params, params, numAt_lane n.isLt]
  have given : numAt p1.params 1 1 = rate := by
    rw [adm.params, params, numAt_skip _ (by decide), numAt_leBytes]
    omega
  have length : p1.params.length = 2 := by rw [adm.params, params, List.length_append, leBytes_length, leBytes_length]
  have away : cameOn p1 n = cameOn p n := by
    obtain ⟨k, rfl⟩ := adm.packet
    rfl
  refine runCommand_ok adm (by decide) (?_ : opLaneRate p1 s1 = ok (s1.newRate n rate))
  have good : ¬(p1.params.length ≠ 2 ∨ 31 < n.val ∨ s1.rateFixed n ∨ 3 < rate) := by
    rw [length, free]
    simp only [ne_eq, not_true_eq_false, Bool.false_eq_true, false_or, not_or]
    omega
  have allows : ¬(s1.laneUp n ∧ (s1.onlyLane n ∨ cameOn p1 n)) := by
    rintro ⟨up, only | came⟩
    · exact Bool.false_ne_true ((allowed up).1.symm.trans only)
    · rw [away] at came
      exact Bool.false_ne_true ((allowed up).2.symm.trans came)
  rw [opLaneRate, named, given, if_neg good, if_neg allows]

theorem laneRate_clause_idle (idle : s1.laneUp n = false) :
    ∃ u : State, exec (.laneRate p) s = .next (u.answers rowLaneRate p1 Stat.OK []) ∧ u.f (F.LANE_CFG_RATE n) = rate ∧
      u.f (F.LANE_STATUS_RATE_NOW n) = rate ∧ u.on (F.LANE_STATUS_DEGRADED n) = false ∧ u.laneSt n = s1.laneSt n ∧
      Touches [.lanes] [A.LANE_CFG n, A.LANE_STATUS n] s1 u := by
  have given := rateGiven_touch s1 n rate
  have st : (s1.rateGiven n rate).laneSt n = s1.laneSt n := rateGiven_status s1 rate rfl rfl rfl
  have fresh := freshRate_touch (s1.rateGiven n rate) n rate
  have new : s1.newRate n rate = (s1.rateGiven n rate).freshRate n rate := by
    rw [newRate_eq, laneUp_congr st, idle]
    exact if_neg Bool.false_ne_true
  have step := laneRate_new adm params fits free (fun up => absurd (idle.symm.trans up) Bool.false_ne_true)
  rw [new] at step
  refine ⟨_, step, ?_, freshRate_rate _ n (by omega), ?_, ?_, Touches.then (given.mono (by simp) (by simp)) fresh (by simp) (by simp)⟩
  · rw [fresh.f (cfg_ne_status n), rateGiven_rate s1 fits]
  · rw [State.on, freshRate_f _ _ rfl rfl, ← State.on, State.rateGiven, fullRate_degraded]
  · exact (freshRate_f _ _ rfl rfl).trans st

theorem laneRate_clause_up (up : s1.laneUp n = true) (spare : s1.onlyLane n = false) (elsewhere : cameOn p n = false) :
    ∃ u : State, exec (.laneRate p) s = .next (u.answers rowLaneRate p1 Stat.OK []) ∧ u.f (F.LANE_CFG_RATE n) = rate ∧ u.laneSt n = 7 ∧
      (s1.f (F.LANE_STATUS_RATE_NOW n) ≠ rate → u.f (F.LANE_STATUS_RATE_NOW n) = rate ∧ u.on (F.LANE_STATUS_DEGRADED n) = false ∧
        (u.lane n).lossAt = [] ∧ u.hub = s1.hub) ∧
      (s1.f (F.LANE_STATUS_RATE_NOW n) = rate → (slide 10000000000 s1.now (s1.lane n).lossAt).length < 3 →
        u.f (F.LANE_STATUS_RATE_NOW n) = rate ∧ u.on (F.LANE_STATUS_DEGRADED n) = false ∧ u.hub = s1.hub) ∧
      Touches [.lanes, .recorder, .units, .hub] [A.LANE_CFG n, A.LANE_STATUS n, A.CMD_DL n, A.CMD_CAP] s1 u := by
  have step := laneRate_new adm params fits free (fun _ => ⟨spare, elsewhere⟩)
  have given := rateGiven_touch s1 n rate
  have still : (s1.rateGiven n rate).laneUp n = true := (laneUp_congr (rateGiven_status s1 rate rfl rfl rfl)).trans up
  have now : (s1.rateGiven n rate).f (F.LANE_STATUS_RATE_NOW n) = s1.f (F.LANE_STATUS_RATE_NOW n) := rateGiven_status s1 rate rfl rfl rfl
  have start := rateGiven_startRate s1 fits free
  have cfg := rateGiven_rate s1 (n := n) fits
  have new : s1.newRate n rate = (s1.rateGiven n rate).restartLane n := by
    rw [newRate_eq, still]
    exact if_pos rfl
  rw [new] at step
  have few : slide 10000000000 s1.now (s1.lane n).lossAt =
      slide 10000000000 (s1.rateGiven n rate).now ((s1.rateGiven n rate).lane n).lossAt := by rw [given.lane (by simp), given.now (by simp)]
  have hub : (s1.rateGiven n rate).hub = s1.hub := given.hub (by simp)
  rw [few]
  generalize s1.rateGiven n rate = v at *
  have touched := restartLane_touch_up n.isLt still
  refine ⟨_, step, ?_, (restartLane_down n.isLt).1, ?faster, ?same, Touches.trans (given.mono (by simp) (by simp)) (touched.mono (by simp) (by simp))⟩
  · rw [touched.f (by simp [A.LANE_STATUS, A.CMD_DL, A.CMD_CAP]; omega), cfg]
  case faster =>
    intro other
    have fresh := restartLane_fresh n.isLt (.inr (by rw [now, start]; exact other))
    rw [start] at fresh
    obtain ⟨degraded, losses, used⟩ := freshRestart_said n.isLt _ (by omega) fresh
    exact ⟨used, degraded, losses, by rw [fresh, (freshRate_touch _ n _).hub (by simp), (restarting_touch v).hub (by simp), hub]⟩
  case same =>
    intro same few
    have loss := restartLane_loss n.isLt still (by rw [now, start]; exact same)
    have noted := fallBack_few (s := v.restarting n) (n := n) (by rw [restarting_losses]; exact few)
    rw [loss, noted.f (by simp), noted.on (by simp), noted.hub (by simp), restarting_rate v n.isLt, restarting_degraded v n.isLt,
      (restarting_touch v).hub (by simp)]
    exact ⟨now.trans same, rfl, hub⟩

end

/-! EQ_LOAD (R81, R82). -/

/-- A number read within a part of a chain. -/
theorem numAt_slice (b : List Byte) {o n k : Nat} (h : n ≤ k) : numAt (slice b o k) 0 n = numAt b o n := by
  rw [numAt, numAt, slice, slice, slice, List.drop_zero, List.take_take, Nat.min_eq_left h]

/-- The profile of a lane at a rate. -/
def State.profile (s : State) (m q : Nat) : Nat := Map.get 0x3820 (s.lane m).eq q

/-- The lane and the rate of an entry of a profile table. -/
def eqPlace (e : List Byte) : Nat × Nat := (numAt e 0 1 % 32, numAt e 0 1 / 64)

/-- Every profile is the default. -/
def State.eqCleared (s : State) : State := s.each laneNumbers (fun s l => s.updLane l (fun x => { x with eq := [] }))

/-- An entry of a profile table is taken. -/
def State.eqTaken (s : State) (e : List Byte) : State :=
  s.updLane (numAt e 0 1 % 32) (fun x => { x with eq := Map.set 0x3820 x.eq (numAt e 0 1 / 64) (eqWord e) })

theorem eqTaken_here (s : State) (e : List Byte) : (s.eqTaken e).profile (eqPlace e).1 (eqPlace e).2 = eqWord e := by
  rw [State.profile, State.eqTaken, eqPlace, State.lane_updLane_same, Map.get_set_same]

theorem eqTaken_elsewhere (s : State) (e : List Byte) {m q : Nat} (h : eqPlace e ≠ (m, q)) : (s.eqTaken e).profile m q = s.profile m q := by
  rw [State.profile, State.profile, State.eqTaken]
  by_cases lane : m = numAt e 0 1 % 32
  · subst lane
    have rate : q ≠ numAt e 0 1 / 64 := fun r => h (by rw [eqPlace, r])
    rw [State.lane_updLane_same, Map.get_set_ne _ _ _ _ rate]
  · rw [State.lane_updLane_ne _ _ lane]

theorem eqCleared_profile (s : State) {m : Nat} (hm : m < 32) (q : Nat) : s.eqCleared.profile m q = 0x3820 := by
  have empty : (s.eqCleared.lane m).eq = [] :=
    State.each_sets (fun _ => True) (fun t : State => (t.lane m).eq = []) (List.mem_range.mpr hm) _ (fun _ _ _ _ => trivial)
      (fun t _ => by rw [State.lane_updLane_same]) (fun t y _ _ h => by
        by_cases lane : m = y
        · subst lane
          rw [State.lane_updLane_same]
        · rw [State.lane_updLane_ne _ _ lane, h]) s trivial
  rw [State.profile, empty, Map.get_nil]

/-- An entry of a table whose entries name different places is in force. -/
theorem eqTaken_table {es : List (List Byte)} {e : List Byte} (he : e ∈ es) (alone : ∀ y ∈ es, eqPlace y = eqPlace e → y = e) (s : State) :
    (s.each es State.eqTaken).profile (eqPlace e).1 (eqPlace e).2 = eqWord e :=
  State.each_sets (fun _ => True) (fun t : State => t.profile (eqPlace e).1 (eqPlace e).2 = eqWord e) he _ (fun _ _ _ _ => trivial)
    (fun t _ => eqTaken_here t e) (fun t y hy _ h => by
      by_cases place : eqPlace y = eqPlace e
      · rw [alone y hy place, eqTaken_here]
      · exact (eqTaken_elsewhere _ _ place).trans h) s trivial

/-- A place that no entry names keeps its profile. -/
theorem eqTaken_omitted {es : List (List Byte)} {m q : Nat} (omitted : ∀ y ∈ es, eqPlace y ≠ (m, q)) (s : State) :
    (s.each es State.eqTaken).profile m q = s.profile m q :=
  State.each_keeps_mem (fun t : State => t.profile m q = s.profile m q) es _ (fun t y hy h => by rw [eqTaken_elsewhere _ _ (omitted y hy), h]) s rfl

/-- The entries of a profile table. -/
def eqEntries (b : List Byte) (k : Nat) : List (List Byte) := (List.range k).map (fun i => slice b (8 + 4 * i) 4)

/-- A profile table in force. -/
def State.eqLoaded (s : State) (b : List Byte) (k : Nat) : State :=
  { s.eqCleared.each (eqEntries b k) State.eqTaken with node.board := numAt b 2 2 }

theorem eqLoaded_touch (s : State) (b : List Byte) (k : Nat) : Touches [.lanes, .node] [] s (s.eqLoaded b k) := by
  have cleared : Touches [.lanes] [] s s.eqCleared := Touches.each _ _ (fun t l _ => touch_updLane t l _) s
  have taken : Touches [.lanes] [] s.eqCleared (s.eqCleared.each (eqEntries b k) State.eqTaken) :=
    Touches.each _ _ (fun t e _ => touch_updLane t _ _) _
  exact Touches.then ((cleared.trans taken).mono (by simp) (by simp)) (touch_node _ _) (by simp) (by simp)

section
variable {b : List Byte} {k : Nat} (good : ∀ i, i < k → eqEntryOk (slice b (8 + 4 * i) 4) = true)
  (distinct : ∀ i j, i < j → j < k → numAt b (8 + 4 * i) 1 ≠ numAt b (8 + 4 * j) 1)

include good in
/-- The byte that names an entry's place is its lane and its rate. -/
theorem eqEntry_byte {i : Nat} (hi : i < k) :
    numAt b (8 + 4 * i) 1 = numAt b (8 + 4 * i) 1 % 32 + 64 * (numAt b (8 + 4 * i) 1 / 64) := by
  have ok := good i hi
  rw [eqEntryOk, Bool.and_eq_true, Bool.and_eq_true, Bool.not_eq_true', numAt_slice b (by decide)] at ok
  have bit5 : numAt b (8 + 4 * i) 1 / 2 ^ 5 % 2 ≠ 1 := by simpa [bit] using ok.1.1
  omega

include distinct in
theorem eqEntry_apart {i j : Nat} (hi : i < k) (hj : j < k) (h : numAt b (8 + 4 * i) 1 = numAt b (8 + 4 * j) 1) : i = j := by
  rcases Nat.lt_trichotomy i j with lt | eq | gt
  · exact absurd h (distinct i j lt hj)
  · exact eq
  · exact absurd h.symm (distinct j i gt hi)

theorem eqPlace_entry (i : Nat) : eqPlace (slice b (8 + 4 * i) 4) = (numAt b (8 + 4 * i) 1 % 32, numAt b (8 + 4 * i) 1 / 64) := by
  rw [eqPlace, numAt_slice b (by decide)]

include good distinct in
theorem eqLoaded_entry (s : State) {i : Nat} (hi : i < k) :
    Map.get 0x3820 ((s.eqLoaded b k).lane (numAt b (8 + 4 * i) 1 % 32)).eq (numAt b (8 + 4 * i) 1 / 64) = eqWord (slice b (8 + 4 * i) 4) := by
  have here : slice b (8 + 4 * i) 4 ∈ eqEntries b k := List.mem_map.mpr ⟨i, List.mem_range.mpr hi, rfl⟩
  have alone : ∀ y ∈ eqEntries b k, eqPlace y = eqPlace (slice b (8 + 4 * i) 4) → y = slice b (8 + 4 * i) 4 := by
    intro y hy place
    obtain ⟨j, hj, rfl⟩ := List.mem_map.mp hy
    rw [eqPlace_entry, eqPlace_entry, Prod.mk.injEq] at place
    have bytes := eqEntry_byte good (List.mem_range.mp hj)
    rw [place.1, place.2, ← eqEntry_byte good hi] at bytes
    rw [eqEntry_apart distinct (List.mem_range.mp hj) hi bytes]
  have taken := eqTaken_table here alone s.eqCleared
  rw [eqPlace_entry] at taken
  exact taken

include good in
theorem eqLoaded_omitted (s : State) (m : Fin 32) (q : Fin 4) (omitted : ∀ i, i < k → numAt b (8 + 4 * i) 1 ≠ m + 64 * q) :
    Map.get 0x3820 ((s.eqLoaded b k).lane m).eq q = 0x3820 := by
  have away : ∀ y ∈ eqEntries b k, eqPlace y ≠ (m.val, q.val) := by
    intro y hy place
    obtain ⟨i, hi, rfl⟩ := List.mem_map.mp hy
    rw [eqPlace_entry, Prod.mk.injEq] at place
    refine omitted i (List.mem_range.mp hi) ?_
    rw [← place.1, ← place.2, ← eqEntry_byte good (List.mem_range.mp hi)]
  exact (eqTaken_omitted away s.eqCleared).trans (eqCleared_profile s m.isLt q)

include good distinct in
/-- No entry of the table is refused. -/
theorem eqEntries_pass : (List.range k).find? (fun i => !eqEntryOk ((eqEntries b k).getD i []) ||
    ((eqEntries b k).take i).any (fun e => e.take 1 == ((eqEntries b k).getD i []).take 1)) = none := by
  rw [List.find?_eq_none]
  intro i hi
  have hi := List.mem_range.mp hi
  have entry : (eqEntries b k).getD i [] = slice b (8 + 4 * i) 4 := by simp [eqEntries, List.getD, hi]
  rw [entry, good i hi, Bool.not_true, Bool.false_or, List.any_eq_true]
  rintro ⟨e, he, same⟩
  obtain ⟨j, hj, rfl⟩ : ∃ j, j < i ∧ slice b (8 + 4 * j) 4 = e := by
    rw [eqEntries, ← List.map_take, List.take_range, List.mem_map] at he
    obtain ⟨j, hj, rfl⟩ := he
    exact ⟨j, by have := List.mem_range.mp hj; omega, rfl⟩
  refine distinct j i hj hi ?_
  have first (o : Nat) : numAt b o 1 = leNat ((slice b o 4).take 1) := by
    rw [numAt, slice, slice, List.take_take]
    rfl
  rw [first, first, eq_of_beq same]

end

theorem eqLoad_clause {k : Nat} {p p1 : Packet} {s s1 : State} (adm : Admitted rowEqLoad p s s1 p1) (config : s1.st = ST.CONFIG)
    (length : p.params.length = 8 + 4 * k) (format : numAt p.params 0 1 = 1) (count : numAt p.params 1 1 = k) (some : 1 ≤ k) (few : k ≤ 128)
    (crc : crc32 (p.params.take 4 ++ p.params.drop 8) = numAt p.params 4 4)
    (good : ∀ i, i < k → eqEntryOk (slice p.params (8 + 4 * i) 4) = true)
    (distinct : ∀ i j, i < j → j < k → numAt p.params (8 + 4 * i) 1 ≠ numAt p.params (8 + 4 * j) 1) :
    ∃ u : State, exec (.eqLoad p) s = .next (u.answers rowEqLoad p1 Stat.OK []) ∧ u.node.board = numAt p.params 2 2 ∧
      (∀ i, i < k → Map.get 0x3820 (u.lane (numAt p.params (8 + 4 * i) 1 % 32)).eq (numAt p.params (8 + 4 * i) 1 / 64) =
        eqWord (slice p.params (8 + 4 * i) 4)) ∧
      (∀ (m : Fin 32) (q : Fin 4), (∀ i, i < k → numAt p.params (8 + 4 * i) 1 ≠ m + 64 * q) → Map.get 0x3820 (u.lane m).eq q = 0x3820) ∧
      Touches [.lanes, .node] [] s1 u := by
  have passes := eqEntries_pass good distinct
  have takes : opEqLoad p1 s1 = ok (s1.eqLoaded p.params k) := by
    have formed : ¬(p.params.length < 8 ∨ numAt p.params 0 1 ≠ 1 ∨ k = 0 ∨ 128 < k ∨ p.params.length ≠ 8 + 4 * k ∨
        crc32 (p.params.take 4 ++ p.params.drop 8) ≠ numAt p.params 4 4) := by
      rw [format, length, crc]
      omega
    rw [eqEntries] at passes
    simp only [opEqLoad, adm.params, count, config, ne_eq, not_true_eq_false, if_false]
    rw [if_neg formed, passes]
    rfl
  exact ⟨_, runCommand_ok adm (by decide) takes, rfl, fun i hi => eqLoaded_entry good distinct s1 hi, eqLoaded_omitted good s1,
    eqLoaded_touch s1 p.params k⟩

/-! PRBS_START (R84). -/

/-- The control and the count of errors of a test that begins. -/
def State.testSet (s : State) (n mode pat : Nat) : State :=
  (s.setReg (A.LANE_PRBS n) (BitVec.ofNat 32 (32 + 8 * mode + pat))).setReg (A.LANE_PRBS_ERR n) 0

theorem testSet_touch (s : State) (n mode pat : Nat) : Touches [] [A.LANE_PRBS n, A.LANE_PRBS_ERR n] s (s.testSet n mode pat) :=
  Touches.trans ((touch_setReg _ _ _).mono (by simp) (by simp)) ((touch_setReg _ _ _).mono (by simp) (by simp))

/-- A test begins on a lane. -/
def State.testStarted (s : State) (n mode pat ms seed : Nat) : State :=
  ((s.testSet n mode pat).setReg (A.LANE_PRBS_TIME n) 0).updLane n (fun l => { l with
    prbsStart := (s.testSet n mode pat).now, prbsEnd := (s.testSet n mode pat).now + ms * 1000000, prbsSeed := seed
    prbsPast := [], prbsGood := 0, prbsWin := [] })

section
variable (s : State) (n : Nat) {mode pat : Nat} (ms seed : Nat)

theorem testStarted_touch : Touches [.lanes] [A.LANE_PRBS n, A.LANE_PRBS_ERR n, A.LANE_PRBS_TIME n] s (s.testStarted n mode pat ms seed) :=
  Touches.then (.then ((testSet_touch s n mode pat).mono (by simp) (by simp)) (touch_setReg _ _ _) (by simp) (by simp)) (touch_updLane _ _ _)
    (by simp) (by simp)

theorem testStarted_lane : ((s.testStarted n mode pat ms seed).lane n).prbsStart = s.now ∧
    ((s.testStarted n mode pat ms seed).lane n).prbsEnd = s.now + ms * 1000000 ∧ ((s.testStarted n mode pat ms seed).lane n).prbsSeed = seed := by
  rw [State.testStarted, State.lane_updLane_same, (testSet_touch s n mode pat).now (by simp)]
  exact ⟨rfl, rfl, rfl⟩

theorem testStarted_reg (a : Nat) :
    (s.testStarted n mode pat ms seed).reg a = ((s.testSet n mode pat).setReg (A.LANE_PRBS_TIME n) 0).reg a :=
  (touch_updLane _ _ _).2 a (by simp)

theorem testStarted_control : (s.testStarted n mode pat ms seed).reg (A.LANE_PRBS n) = BitVec.ofNat 32 (32 + 8 * mode + pat) := by
  rw [testStarted_reg, State.testSet, State.reg_setReg_ne _ _ (laneReg_ne n (by decide)), State.reg_setReg_ne _ _ (laneReg_ne n (by decide)),
    State.reg_setReg_same]

theorem testStarted_fields (hm : mode ≤ 3) (hp : pat ≤ 3) {u : State} (hu : u = s.testStarted n mode pat ms seed) :
    u.f (F.LANE_PRBS_TMODE n) = mode ∧ u.f (F.LANE_PRBS_PATTERN n) = pat ∧ u.on (F.LANE_PRBS_RUN n) = true := by
  have word : (BitVec.ofNat 32 (32 + 8 * mode + pat)).toNat = 32 + 8 * mode + pat := Nat.mod_eq_of_lt (by omega)
  have control : (u.reg (A.LANE_PRBS n)).toNat = 32 + 8 * mode + pat := by rw [hu, testStarted_control, word]
  have tmode : (32 + 8 * mode + pat) / 2 ^ 3 % 2 ^ 2 = mode := by omega
  have pattern : (32 + 8 * mode + pat) / 2 ^ 0 % 2 ^ 2 = pat := by omega
  have run : (32 + 8 * mode + pat) / 2 ^ 5 % 2 ^ 1 = 1 := by omega
  rw [State.on, State.f, State.f, State.f, control]
  exact ⟨tmode, pattern, beq_iff_eq.mpr run⟩

theorem testStarted_cleared : (s.testStarted n mode pat ms seed).f (F.LANE_PRBS_ERR_COUNT n) = 0 ∧
    (s.testStarted n mode pat ms seed).f (F.LANE_PRBS_TIME_COUNT n) = 0 := by
  have errors : (s.testStarted n mode pat ms seed).reg (A.LANE_PRBS_ERR n) = 0 := by
    rw [testStarted_reg, State.reg_setReg_ne _ _ (laneReg_ne n (by decide)), State.testSet, State.reg_setReg_same]
  have time : (s.testStarted n mode pat ms seed).reg (A.LANE_PRBS_TIME n) = 0 := by rw [testStarted_reg, State.reg_setReg_same]
  rw [State.f, State.f, errors, time]
  simp [Fld.of]

end

section
variable {n : Fin 32} {pat mode ms : Nat} {p p1 : Packet} {s s1 : State} (adm : Admitted rowPrbsStart p s s1 p1)
  (params : p.params = leBytes 1 n ++ leBytes 1 pat ++ leBytes 1 mode ++ leBytes 4 ms) (patFits : pat ≤ 3) (modeFrom : 1 ≤ mode) (modeTo : mode ≤ 3)
  (msFrom : 1 ≤ ms) (msTo : ms ≤ 600000)
include adm params patFits modeFrom modeTo msFrom msTo

/-- The lane of a test that begins, taken down. -/
theorem prbsStart_starts (spare : s1.onlyLane n = false) (tree : s1.isXlink n = false) (mode1 : s1.f (F.LANE_CFG_MODE n) ≠ 1)
    (elsewhere : cameOn p n = false) (enabled : s1.laneEnabled n = true) (powered : s1.laneSt n ≠ 0) :
    opPrbsStart p1 s1 = ok ({ s1.lowerLane n 6 with freeCount := (s1.lowerLane n 6).freeCount + 1 }.testStarted n mode pat ms
      ((Config.openWord (s1.lowerLane n 6).freeCount).toNat ||| 1)) := by
  have named : numAt p1.params 0 1 = n := by rw [adm.params, params, List.append_assoc, List.append_assoc, numAt_lane n.isLt]
  have given : numAt p1.params 1 1 = pat := by
    rw [adm.params, params, List.append_assoc, List.append_assoc, numAt_skip _ (by decide), numAt_front]
    omega
  have how : numAt p1.params 2 1 = mode := by
    rw [adm.params, params, List.append_assoc, List.append_assoc, numAt_skip _ (by decide), numAt_skip _ (by decide), numAt_front]
    omega
  have long : numAt p1.params 3 4 = ms := by
    rw [adm.params, params, List.append_assoc, List.append_assoc, numAt_skip _ (by decide), numAt_skip _ (by decide), numAt_skip _ (by decide),
      numAt_leBytes]
    omega
  have length : p1.params.length = 7 := by simp [adm.params, params]
  have away : cameOn p1 n = false := by
    obtain ⟨k, rfl⟩ := adm.packet
    exact elsewhere
  have formed : ¬(p1.params.length ≠ 7 ∨ 31 < n.val ∨ 3 < pat ∨ mode = 0 ∨ 3 < mode ∨ ms = 0 ∨ 600000 < ms) := by omega
  rw [opPrbsStart, named, given, how, long, if_neg formed, spare, tree, away, enabled, if_neg (by simpa using mode1), if_neg (by simpa using powered)]
  rfl

theorem prbsStart_clause (spare : s1.onlyLane n = false) (tree : s1.isXlink n = false) (mode1 : s1.f (F.LANE_CFG_MODE n) ≠ 1)
    (elsewhere : cameOn p n = false) (enabled : s1.laneEnabled n = true) (powered : s1.laneSt n ≠ 0) :
    ∃ u : State, exec (.prbsStart p) s = .next (u.answers rowPrbsStart p1 Stat.OK []) ∧ u.laneSt n = 6 ∧
      u.f (F.LANE_PRBS_TMODE n) = mode ∧ u.f (F.LANE_PRBS_PATTERN n) = pat ∧ u.on (F.LANE_PRBS_RUN n) = true ∧
      u.f (F.LANE_PRBS_ERR_COUNT n) = 0 ∧ u.f (F.LANE_PRBS_TIME_COUNT n) = 0 ∧ (u.lane n).prbsStart = s1.now ∧
      (u.lane n).prbsEnd = s1.now + ms * 1000000 ∧ (u.lane n).prbsSeed % 2 = 1 ∧
      Touches [.lanes, .recorder, .units, .free]
        [A.LANE_STATUS n, A.CMD_DL n, A.CMD_CAP, A.LANE_PRBS n, A.LANE_PRBS_ERR n, A.LANE_PRBS_TIME n] s1 u := by
  have starts := prbsStart_starts adm params patFits modeFrom modeTo msFrom msTo spare tree mode1 elsewhere enabled powered
  have lowered := lowerLane_touch s1 n 6
  have down : (s1.lowerLane n 6).laneSt n = 6 := lowerLane_st _ _ _ (by decide) n.isLt
  have freed := Touches.trans (lowered.mono (qs := [.lanes, .recorder, .units, .free]) (by simp) (fun _ h => h))
    ((touch_freeCount (s1.lowerLane n 6) ((s1.lowerLane n 6).freeCount + 1)).mono (by simp) (by simp))
  have odd : ((Config.openWord (s1.lowerLane n 6).freeCount).toNat ||| 1) % 2 = 1 := by simp [Nat.or_mod_two_eq_one]
  have now : ({ s1.lowerLane n 6 with freeCount := (s1.lowerLane n 6).freeCount + 1 } : State).now = s1.now := lowered.now (by simp)
  replace down : ({ s1.lowerLane n 6 with freeCount := (s1.lowerLane n 6).freeCount + 1 } : State).laneSt n = 6 := down
  generalize ({ s1.lowerLane n 6 with freeCount := (s1.lowerLane n 6).freeCount + 1 } : State) = v at *
  generalize ((Config.openWord (s1.lowerLane n 6).freeCount).toNat ||| 1) = seed at *
  have touched := testStarted_touch v n (mode := mode) (pat := pat) ms seed
  obtain ⟨control, pattern, run⟩ := testStarted_fields v n ms seed modeTo patFits rfl
  obtain ⟨errors, time⟩ := testStarted_cleared v n (mode := mode) (pat := pat) ms seed
  obtain ⟨start, ends, drawn⟩ := testStarted_lane v n (mode := mode) (pat := pat) ms seed
  refine ⟨_, runCommand_ok adm (by decide) starts, ?_, control, pattern, run, errors, time, start.trans now, by rw [ends, now], by rw [drawn, odd], ?_⟩
  · exact (touched.f (by simp [A.LANE_PRBS, A.LANE_PRBS_ERR, A.LANE_PRBS_TIME])).trans down
  · exact Touches.trans (freed.mono (fun _ h => h) (by simp [lowerRegs, laneRegs])) (touched.mono (by simp) (by simp))

end

/-- Settles O12: each lane opcode by what it leaves of the lane it acts on. -/
theorem laneCommands : Obligations.LaneCommands := by
  unfold Obligations.LaneCommands
  intro n p p1 s s1
  refine ⟨laneRestart_clause, fun rate adm params fits free => ⟨laneRate_clause_idle adm params fits free, laneRate_clause_up adm params fits free⟩,
    fun k adm config length format count some few crc good distinct => eqLoad_clause adm config length format count some few crc good distinct, ?_⟩
  exact fun pat mode ms adm params patFits modeFrom modeTo msFrom msTo spare tree host elsewhere enabled powered =>
    prbsStart_clause adm params patFits modeFrom modeTo msFrom msTo spare tree host elsewhere enabled powered

end Sys2Proof.Machine
end

section
/-!
SUPPORT. The module, tree and time opcodes (03 R86, R88; 01 R29 to R40; 02 R70): a transfer by how it ends, the registers that a record
of the topology may change, a survey, and a time set.
-/
namespace Sys2Proof.Machine
open Sys2Proof

/-! Transfers with a module (03 R86, R88). -/

/-- The multiplexer in front of a lane's module is set, and the end of the transfer drawn. -/
def State.transferBegun (s : State) (n : Nat) : State := { s.selectMux n with freeCount := s.freeCount + 1 }

section
variable (s : State) (n : Nat) (p : Packet) (done : Nat → List Byte)

theorem transferWith_eq : s.transferWith n p done = match Config.i2cAnswer s.freeCount with
    | .ack => ok (s.transferBegun n) (done s.freeCount)
    | .noAck => refuse (s.transferBegun n) Stat.TIMEOUT
    | .held => holding ((s.transferBegun n).updLane n (fun l => { l with i2c := some p, i2cAt := (s.transferBegun n).now })) := by
  have drawn : (s.selectMux n).freeCount = s.freeCount := (selectMux_touch s n).1 .free (by simp)
  rw [State.transferWith, State.free, drawn]
  rfl

theorem transferBegun_now : (s.transferBegun n).now = s.now := (selectMux_touch s n).now (by simp)

theorem selectMux_direct (direct : s.moduleMux n = 0) : s.selectMux n = s := if_pos direct

theorem selectMux_set (behind : s.moduleMux n ≠ 0) :
    Map.get (0, 0) (s.selectMux n).node.mux (s.moduleBus n) = (s.moduleMux n, 2 ^ s.f (F.LANE_MOD_MUX_CH n)) := by
  rw [State.selectMux, if_neg behind]
  exact Map.get_set_same _ _ _ _

end

section
variable {r : OpRow} {p p1 : Packet} {s s1 : State} (adm : Admitted r p s s1 p1) (hr : r.code ≠ 0x0003) {n : Nat} {done : Nat → List Byte}
  (runs : r.run p1 s1 = s1.transferWith n p1 done)
include adm hr runs

theorem transfer_ack (ends : Config.i2cAnswer s1.freeCount = .ack) :
    runCommand r p s = (s1.transferBegun n).answers r p1 Stat.OK (done s1.freeCount) :=
  runCommand_answers adm hr (by rw [runs, transferWith_eq, ends]; rfl)

theorem transfer_noAck (ends : Config.i2cAnswer s1.freeCount = .noAck) :
    runCommand r p s = (s1.transferBegun n).answers r p1 Stat.TIMEOUT [] :=
  runCommand_answers adm hr (by rw [runs, transferWith_eq, ends]; rfl)

theorem transfer_held (ends : Config.i2cAnswer s1.freeCount = .held) :
    runCommand r p s = ((s1.transferBegun n).updLane n (fun l => { l with i2c := some p1, i2cAt := s1.now })).holds r p1 :=
  runCommand_holds adm hr (by rw [runs, transferWith_eq, ends, transferBegun_now]; rfl)

end

section
variable {n : Fin 32} {ofs len : Nat} {p p1 : Packet} {s s1 : State}

theorem modRead_transfers (adm : Admitted rowModRead p s s1 p1) {dev : Nat}
    (params : p.params = leBytes 1 n ++ leBytes 1 dev ++ leBytes 1 ofs ++ leBytes 1 len) (known : dev = 0xA0 ∨ dev = 0xA2) (any : 1 ≤ len)
    (few : len ≤ 64) (within : ofs + len ≤ 256) :
    opModRead p1 s1 = s1.transferWith n p1 (fun k => moduleBytes k (s1.modulePlace n) dev ofs len) := by
  have lane : numAt p1.params 0 1 = n := by rw [adm.params, params, List.append_assoc, List.append_assoc, numAt_lane n.isLt]
  have device : numAt p1.params 1 1 = dev := by
    rw [adm.params, params, List.append_assoc, List.append_assoc, numAt_skip _ (by decide), numAt_front]
    omega
  have start : numAt p1.params 2 1 = ofs := by
    rw [adm.params, params, List.append_assoc, List.append_assoc, numAt_skip _ (by decide), numAt_skip _ (by decide), numAt_front]
    omega
  have count : numAt p1.params 3 1 = len := by
    rw [adm.params, params, List.append_assoc, List.append_assoc, numAt_skip _ (by decide), numAt_skip _ (by decide), numAt_skip _ (by decide),
      numAt_leBytes]
    omega
  have length : p1.params.length = 4 := by simp [adm.params, params]
  have formed : ¬(p1.params.length ≠ 4 ∨ 31 < n.val ∨ (dev ≠ 0xA0 ∧ dev ≠ 0xA2) ∨ len = 0 ∨ 64 < len ∨ 256 < ofs + len) := by omega
  rw [opModRead, lane, device, start, count, if_neg formed]

theorem modWrite_transfers (adm : Admitted rowModWrite p s s1 p1) {d : List Byte}
    (params : p.params = leBytes 1 n ++ leBytes 1 ofs ++ leBytes 1 len ++ d) (bytes : d.length = len) (any : 1 ≤ len) (few : len ≤ 8)
    (user : 110 ≤ ofs) (within : ofs + len ≤ 128) : opModWrite p1 s1 = s1.transferWith n p1 (fun _ => []) := by
  have lane : numAt p1.params 0 1 = n := by rw [adm.params, params, List.append_assoc, List.append_assoc, numAt_lane n.isLt]
  have start : numAt p1.params 1 1 = ofs := by
    rw [adm.params, params, List.append_assoc, List.append_assoc, numAt_skip _ (by decide), numAt_front]
    omega
  have count : numAt p1.params 2 1 = len := by
    rw [adm.params, params, List.append_assoc, List.append_assoc, numAt_skip _ (by decide), numAt_skip _ (by decide), numAt_front]
    omega
  have length : p1.params.length = 3 + len := by
    simp [adm.params, params, bytes]
    omega
  have formed : ¬(p1.params.length < 3 ∨ 31 < n.val ∨ len = 0 ∨ 8 < len ∨ p1.params.length ≠ 3 + len) := by omega
  have allowed : ¬(ofs < 110 ∨ 128 < ofs + len) := by omega
  rw [opModWrite, lane, start, count, if_neg formed, if_neg allowed]

theorem modRead_clause (dev : Nat) (adm : Admitted rowModRead p s s1 p1)
    (params : p.params = leBytes 1 n ++ leBytes 1 dev ++ leBytes 1 ofs ++ leBytes 1 len) (known : dev = 0xA0 ∨ dev = 0xA2) (any : 1 ≤ len)
    (few : len ≤ 64) (within : ofs + len ≤ 256) :
    ∃ u : State, u = { s1.selectMux n with freeCount := s1.freeCount + 1 } ∧
      exec (.modRead p) s = .next (match Config.i2cAnswer s1.freeCount with
        | .ack => u.answers rowModRead p1 Stat.OK (moduleBytes s1.freeCount (s1.modulePlace n) dev ofs len)
        | .noAck => u.answers rowModRead p1 Stat.TIMEOUT []
        | .held => (u.updLane n (fun l => { l with i2c := some p1, i2cAt := s1.now })).holds rowModRead p1) := by
  have runs := modRead_transfers adm params known any few within
  have ack := transfer_ack adm (by decide) runs
  have noAck := transfer_noAck adm (by decide) runs
  have held := transfer_held adm (by decide) runs
  refine ⟨s1.transferBegun n, rfl, congrArg Host.Outcome.next ?_⟩
  split
  · next ends => exact ack ends
  · next ends => exact noAck ends
  · next ends => exact held ends

theorem modWrite_clause (d : List Byte) (adm : Admitted rowModWrite p s s1 p1)
    (params : p.params = leBytes 1 n ++ leBytes 1 ofs ++ leBytes 1 len ++ d) (bytes : d.length = len) (any : 1 ≤ len) (few : len ≤ 8)
    (user : 110 ≤ ofs) (within : ofs + len ≤ 128) :
    ∃ u : State, u = { s1.selectMux n with freeCount := s1.freeCount + 1 } ∧
      exec (.modWrite p) s = .next (match Config.i2cAnswer s1.freeCount with
        | .ack => u.answers rowModWrite p1 Stat.OK []
        | .noAck => u.answers rowModWrite p1 Stat.TIMEOUT []
        | .held => (u.updLane n (fun l => { l with i2c := some p1, i2cAt := s1.now })).holds rowModWrite p1) := by
  have runs := modWrite_transfers adm params bytes any few user within
  have ack := transfer_ack adm (by decide) runs
  have noAck := transfer_noAck adm (by decide) runs
  have held := transfer_held adm (by decide) runs
  refine ⟨s1.transferBegun n, rfl, congrArg Host.Outcome.next ?_⟩
  split
  · next ends => exact ack ends
  · next ends => exact noAck ends
  · next ends => exact held ends

end

/-! The child units named by a record (01 R39). -/

theorem touch_unitSts (s : State) (x : List (Nat × UnitSt)) : Touches [.units] [] s { s with unitSts := x } :=
  ⟨fun p hp => by cases p <;> simp_all [Part.same], fun _ _ => rfl⟩

theorem touch_tree (s : State) (x : Tree) : Touches [.tree] [] s { s with tree := x } :=
  ⟨fun p hp => by cases p <;> simp_all [Part.same], fun _ _ => rfl⟩

/-- The registers that the naming of a lane may write. -/
def namedRegs (n : Nat) : List Nat := [A.CMD_DL n, A.CMD_RANGE n] ++ laneRegs n

theorem nameLane_touch (s : State) (ds : List UnitDef) (n : Nat) : Touches [.lanes, .recorder] (namedRegs n) s (s.nameLane ds n) := by
  have field (u : State) (x : Fld) (v : Nat) (h : x.addr = A.CMD_DL n ∨ x.addr = A.CMD_RANGE n) :
      Touches [.lanes, .recorder] (namedRegs n) u (u.setF x v) := touch_field u x v (by rcases h with h | h <;> simp [h, namedRegs])
  have word (u : State) (a : Nat) (v : Word) (h : a = A.CMD_DL n ∨ a = A.CMD_RANGE n) :
      Touches [.lanes, .recorder] (namedRegs n) u (u.setReg a v) :=
    (touch_setReg u a v).mono (by simp) (by rcases h with h | h <;> simp [h, namedRegs])
  rw [State.nameLane]
  split
  · refine Touches.trans (Touches.trans ?_ (word _ _ _ (.inl rfl))) (word _ _ _ (.inr rfl))
    split
    · exact (laneTo_touch s n 0).mono (fun _ h => h) (fun _ h => List.mem_append_right _ h)
    · exact Touches.refl _ _ _
  · refine Touches.trans (Touches.trans (Touches.trans (Touches.trans (Touches.trans ?_ (field _ _ _ (.inl rfl))) (field _ _ _ (.inl rfl)))
      (field _ _ _ (.inl rfl))) (field _ _ _ (.inr rfl))) (field _ _ _ (.inr rfl))
    split
    · exact Touches.refl _ _ _
    · exact word _ _ _ (.inl rfl)

/-- The registers of the child units, but for the node's own address. -/
def childRegs : List Nat := [A.CMD_CAP] ++ laneNumbers.map A.CMD_DL ++ laneNumbers.map A.CMD_RANGE ++ laneNumbers.flatMap laneRegs

theorem namedRegs_mem {n : Nat} (hn : n ∈ laneNumbers) : ∀ a ∈ namedRegs n, a ∈ childRegs := by
  intro a ha
  have dl : A.CMD_DL n ∈ laneNumbers.map A.CMD_DL := List.mem_map_of_mem hn
  have range : A.CMD_RANGE n ∈ laneNumbers.map A.CMD_RANGE := List.mem_map_of_mem hn
  have lane (h : a ∈ laneRegs n) : a ∈ laneNumbers.flatMap laneRegs := List.mem_flatMap.mpr ⟨n, hn, h⟩
  rw [namedRegs, List.mem_append, List.mem_cons, List.mem_singleton] at ha
  rw [childRegs, List.mem_append, List.mem_append, List.mem_append]
  rcases ha with (rfl | rfl) | ha
  · exact .inl (.inl (.inr dl))
  · exact .inl (.inr range)
  · exact .inr (lane ha)

theorem nameUnits_touch (s : State) : Touches [.units, .lanes, .recorder] childRegs s s.nameUnits := by
  have cap (u : State) (x : Fld) (v : Nat) (h : x.addr = A.CMD_CAP) : Touches [.units, .lanes, .recorder] childRegs u (u.setF x v) :=
    touch_field u x v (by rw [h]; simp [childRegs])
  rw [State.nameUnits]
  refine Touches.trans (Touches.trans (Touches.trans (Touches.trans (t := s.each (laneNumbers.filter (fun n => decide (2 ≤ n) && s.use n != USE.XLINK && s.use n != USE.HOST))
    (fun u n => u.nameLane (s.unitDefs.filter (fun d => d.lanes != [])) n)) ?_ ?_) (cap _ _ _ rfl)) (cap _ _ _ rfl)) (cap _ _ _ rfl)
  · exact Touches.each _ _ (fun u n hn => (nameLane_touch u _ n).mono (by simp) (namedRegs_mem (List.mem_of_mem_filter hn))) s
  · exact (touch_unitSts _ _).mono (by simp) (by simp)

theorem sendExtensions_touch (s : State) : Touches [.lanes] [] s s.sendExtensions := by
  exact Touches.each _ _ (fun u n _ => sendAssign_touch u n) s

/-- A Meadow with a new record is assigned by it. -/
def State.recordTaken (s : State) (b : List Byte) : State :=
  { s with tree.strings := numAt b 1 1, tree.record := entriesOf (b.drop 16) }.setF F.CMD_NODE_ASSIGNED 1

theorem recordTaken_touch (s : State) (b : List Byte) : Touches [.tree] [A.CMD_NODE] s (s.recordTaken b) :=
  Touches.then ((touch_tree s _).mono (by simp) (by simp)) (touch_setF _ _ _) (by simp) (by simp)

/-- What follows the new record. -/
theorem recordNamed_touch (s : State) : Touches [.units, .lanes, .recorder] childRegs s s.nameUnits.sendExtensions :=
  Touches.then (nameUnits_touch s) (sendExtensions_touch _) (by simp) (by simp)

theorem node_notMem_childRegs : A.CMD_NODE ∉ childRegs := by decide +kernel

theorem treeLoad_clause {p p1 : Packet} {s s1 : State} (adm : Admitted rowTreeLoad p s s1 p1) (config : s1.st = ST.CONFIG)
    (size : p.params.length ≤ 131088) (passes : s1.recordRefused p.params = none) :
    ∃ u : State, exec (.treeLoad p) s = .next (u.answers rowTreeLoad p1 Stat.OK []) ∧ u.tree.strings = numAt p.params 1 1 ∧
      u.tree.record = entriesOf (p.params.drop 16) ∧ u.on F.CMD_NODE_ASSIGNED = true ∧ u.addr = s1.addr ∧
      Touches [.tree, .units, .lanes, .recorder] unitRegs s1 u := by
  have taken := recordTaken_touch s1 p.params
  have named := recordNamed_touch (s1.recordTaken p.params)
  have loads : opTreeLoad p1 s1 = ok (s1.recordTaken p.params).nameUnits.sendExtensions := by
    rw [opTreeLoad, adm.params, if_neg (not_not.mpr config), if_neg (Nat.not_lt.mpr size), passes]
    rfl
  have tree : (s1.recordTaken p.params).nameUnits.sendExtensions.tree = (s1.recordTaken p.params).tree := named.1 .tree (by simp)
  refine ⟨_, runCommand_ok adm (by decide) loads, by rw [tree]; rfl, by rw [tree]; rfl, ?_, ?_, ?_⟩
  · rw [named.on node_notMem_childRegs]
    exact State.on_setF_one _ _ rfl rfl
  · rw [named.addr node_notMem_childRegs]
    exact State.f_setF_apart _ _ _ _ rfl rfl rfl
  · exact Touches.trans (taken.mono (by simp) (by simp [unitRegs])) (named.mono (by simp) (fun _ h => List.mem_cons_of_mem _ h))

/-! TREE_SURVEY (01 R40). -/

/-- A lane without a use comes up for a survey. -/
def State.surveyLane (s : State) (n : Nat) : State :=
  if (s.raiseLane n).laneSt n = 0 then s.raiseLane n else (s.raiseLane n).updLane n (fun l => { l with survey := true })

theorem surveyLane_touch (s : State) (n : Nat) : Touches [.lanes] [A.LANE_STATUS n] s (s.surveyLane n) := by
  have raised : Touches [.lanes] [A.LANE_STATUS n] s (s.raiseLane n) := by
    rw [State.raiseLane]
    split
    · exact Touches.then (touch_field _ _ _ (by simp)) (touch_updLane _ _ _) (by simp) (by simp)
    · exact Touches.refl _ _ _
  rw [State.surveyLane]
  split
  · exact raised
  · exact Touches.then raised (touch_updLane _ _ _) (by simp) (by simp)

/-- The unnamed lanes of a mask come up. -/
def State.surveyed (s : State) (mask : Nat) : State :=
  { s with freeCount := s.freeCount + 1 }.each ((bitList 32 mask).filter (fun n => s.use n == 0)) State.surveyLane

theorem surveyed_touch (s : State) (mask : Nat) : Touches [.lanes, .free] ((bitList 32 mask).map A.LANE_STATUS) s (s.surveyed mask) :=
  Touches.trans ((touch_freeCount s _).mono (by simp) (by simp)) (Touches.each _ _ (fun t n hn => (surveyLane_touch t n).mono (by simp)
    (by simpa [A.LANE_STATUS] using List.mem_of_mem_filter hn)) _)

theorem surveyed_freeCount (s : State) (mask : Nat) : (s.surveyed mask).freeCount = s.freeCount + 1 :=
  (Touches.each (l := (bitList 32 mask).map A.LANE_STATUS) (ps := [.lanes]) _ _ (fun t n hn => (surveyLane_touch t n).mono (by simp)
    (by simpa [A.LANE_STATUS] using List.mem_of_mem_filter hn)) _).1 .free (by simp)

/-- A survey waits for its lanes. -/
def State.surveyWaits (s : State) (p : Packet) (mask time : Nat) : State :=
  { s.surveyed mask with tree.survey := some (p, mask, (s.surveyed mask).now + time) }

theorem treeSurvey_clause {p p1 : Packet} {s s1 : State} (adm : Admitted rowTreeSurvey p s s1 p1) (length : p.params.length = 4)
    (lanes : (bitList 32 (numAt p.params 0 4)).all (fun n => decide (2 ≤ n) && s1.use n != USE.XLINK && s1.f (F.LANE_CFG_MODE n) != 1) = true) :
    ∃ (u : State) (t : Nat), exec (.treeSurvey p) s = .next (u.holds rowTreeSurvey p1) ∧ u.tree.survey = some (p1, numAt p.params 0 4, t) ∧
      s1.now ≤ t ∧ u.freeCount = s1.freeCount + 1 ∧
      Touches [.lanes, .tree, .free] ((bitList 32 (numAt p.params 0 4)).map A.LANE_STATUS) s1 u := by
  have surveyed := surveyed_touch s1 (numAt p.params 0 4)
  have allowed : (bitList 32 (numAt p.params 0 4)).any (fun n => decide (n < 2) || s1.use n == USE.XLINK || s1.f (F.LANE_CFG_MODE n) == 1) = false := by
    rw [List.any_eq_false]
    intro n hn
    have lane := List.all_eq_true.mp lanes n hn
    simp only [Bool.and_eq_true, decide_eq_true_eq, bne_iff_ne] at lane
    obtain ⟨⟨tree, used⟩, host⟩ := lane
    simp only [Bool.or_eq_true, decide_eq_true_eq, beq_iff_eq, not_or]
    exact ⟨⟨Nat.not_lt.mpr tree, used⟩, host⟩
  have formed : ¬(p1.params.length ≠ 4 ∨ (bitList 32 (numAt p1.params 0 4)).any
      (fun n => decide (n < 2) || s1.use n == USE.XLINK || s1.f (F.LANE_CFG_MODE n) == 1) = true) := by
    rw [adm.params, length, allowed]
    decide
  refine ⟨s1.surveyWaits p1 (numAt p.params 0 4) (Config.openWord s1.freeCount).toNat, _, ?_, rfl, ?_, ?_, ?_⟩
  · refine congrArg _ (runCommand_holds adm (by decide) ?_)
    have surveys : opTreeSurvey p1 s1 = _ := if_neg formed
    refine Eq.trans surveys ?_
    rw [adm.params]
    rfl
  · rw [surveyed.now (by simp)]
    exact Nat.le_add_right _ _
  · exact surveyed_freeCount s1 _
  · exact Touches.trans (surveyed.mono (by simp) (by simp)) ((touch_tree _ _).mono (by simp) (by simp))

/-! TIME_SET (02 R70). -/

theorem timeSet_clause {p p1 : Packet} {s s1 : State} (v m : Nat) (adm : Admitted rowTimeSet p s s1 p1)
    (params : p.params = leBytes 8 v ++ leBytes 1 m) (mode : m ≤ 1) (fits : v < 2 ^ 64) (whole : v % (s1.clk.tickLen * 2) = 0) (idle : s1.st ≠ ST.RUN) :
    ∃ u : State, exec (.timeSet p) s = .next (u.holds rowTimeSet p1) ∧ u.clk.timeSet = some (p1, v, m, s1.clk.nowPs) ∧
      u.clk.timePs = s1.clk.timePs ∧ Touches [.clk] [] s1 u := by
  have value : numAt p1.params 0 8 = v := by
    rw [adm.params, params, numAt_front]
    exact Nat.mod_eq_of_lt (by omega)
  have how : numAt p1.params 8 1 = m := by
    rw [adm.params, params, numAt_skip _ (by decide), numAt_leBytes]
    omega
  have length : p1.params.length = 9 := by simp [adm.params, params]
  refine ⟨{ s1 with clk.timeSet := some (p1, v, m, s1.clk.nowPs) }, congrArg _ (runCommand_holds adm (by decide) ?_), rfl, rfl, touch_clk _ _⟩
  have waits : opTimeSet p1 s1 = holding { s1 with clk.timeSet := some (p1, v, m, s1.clk.nowPs) } := by
    have formed : ¬(p1.params.length ≠ 9 ∨ 1 < m ∨ v % (s1.clk.tickLen * 2) ≠ 0) := by
      rw [length, whole]
      omega
    rw [opTimeSet, value, how, if_neg idle, if_neg formed]
  exact waits

/-- Settles O13: a transfer by how it ends, the selection of the multiplexer, and what each tree and time opcode leaves. -/
theorem moduleTreeAndTimeCommands : Obligations.ModuleTreeAndTimeCommands := by
  unfold Obligations.ModuleTreeAndTimeCommands
  refine ⟨fun n ofs len p p1 s s1 => ⟨?read, ?write, ?direct, ?behind⟩, fun p p1 s s1 => ⟨?load, ?survey, ?time⟩⟩
  case read => exact modRead_clause
  case write => exact modWrite_clause
  case direct => exact selectMux_direct s1 n
  case behind => exact fun behind => ⟨selectMux_touch s1 n, selectMux_set s1 n behind⟩
  case load => exact treeLoad_clause
  case survey => exact treeSurvey_clause
  case time => exact timeSet_clause

end Sys2Proof.Machine
end

section
/-!
SUPPORT. Segments that are forwarded (03 R72, R96 to R102; 01 R36): code-groups received as they were sent, what routing reads of the
state, then each clause.
-/
namespace Sys2Proof.Machine
open Sys2Proof

/-! Code-groups (03 R72, R98). -/

theorem take_data (r : RxLine) (c d : List Byte) (opened : r.cur = some c) : (d.map Sym.data).foldl RxLine.take r = { r with cur := some (c ++ d) } := by
  induction d generalizing r c with
  | nil => rw [List.append_nil, ← opened]; rfl
  | cons x d ih =>
    have next : (r.take (.data x)).cur = some (c ++ [x]) := by simp [RxLine.take, opened]
    rw [List.map_cons, List.foldl_cons, ih _ _ next]
    simp [RxLine.take]

/-- A frame that begins while nothing is open is received whole. -/
theorem received_framed (bad : Bool) (b : List Byte) : received (framed bad b) = [(b, bad)] := by
  have opened : (RxLine.take {} .start).cur = some [] := rfl
  rw [received, framed, List.cons_append, List.foldl_cons, List.foldl_append, take_data _ _ _ opened]
  cases bad <;> rfl

/-- What follows the bytes of a tick frame that came inside a segment: the rest of the segment, `d`. -/
def resumedRest (d : List Byte) : List Sym := .term :: .idle :: .resume :: (d.map .data ++ [.term, .idle])

/-- A segment that is suspended for a tick frame after `k` code-groups goes on where it stood. -/
theorem received_suspended (b f : List Byte) (k : Nat) (begun : 1 ≤ k) (unended : k ≤ b.length + 1) :
    received ((framed false b).take k ++ framed false f ++ [.resume] ++ (framed false b).drop k) = [(f, false), (b, false)] := by
  obtain ⟨j, rfl⟩ : ∃ j, k = j + 1 := ⟨k - 1, by omega⟩
  have before : (framed false b).take (j + 1) = .start :: (b.take j).map .data := by
    rw [framed, List.cons_append, List.take_succ_cons, List.take_append_of_le_length (by simpa using unended), List.map_take]
  have after : (framed false b).drop (j + 1) = (b.drop j).map .data ++ [.term, .idle] := by
    rw [framed, List.cons_append, List.drop_succ_cons, List.drop_append_of_le_length (by simpa using unended), List.map_drop]
    rfl
  have first : (RxLine.take {} .start).cur = some [] := rfl
  have whole : (framed false b).take (j + 1) ++ framed false f ++ [.resume] ++ (framed false b).drop (j + 1) =
      Sym.start :: ((b.take j).map Sym.data ++ (Sym.start :: (f.map Sym.data ++ resumedRest (b.drop j)))) := by
    rw [before, after, framed]
    simp [resumedRest]
  have second (r : RxLine) : (r.take .start).cur = some [] := rfl
  rw [received, whole, List.foldl_cons, List.foldl_append, take_data _ _ _ first, List.foldl_cons, List.foldl_append, take_data _ _ _ (second _)]
  simp only [resumedRest, List.foldl_cons, List.foldl_append, RxLine.take, List.nil_append, Option.isSome_some, if_true, Option.map_some, Option.toList_some,
    List.foldl_nil]
  rw [take_data _ (b.take j) (b.drop j) rfl, List.take_append_drop]
  simp

/-! What routing reads (01 R36). -/

/-- Two states that differ in nothing that routing reads: in the segment counters of a lane, and in the lanes, but for what
their HELLOs said and whether they are barred. -/
structure RoutesAlike (s t : State) : Prop where
  touched : Touches [.lanes] (laneNumbers.map A.LANE_SEG) s t
  banned : ∀ m, (t.lane m).banned = (s.lane m).banned
  farAddr : ∀ m, (t.lane m).farAddr = (s.lane m).farAddr

namespace RoutesAlike

theorem refl (s : State) : RoutesAlike s s := ⟨Touches.refl _ _ _, fun _ => rfl, fun _ => rfl⟩

theorem trans {s t u : State} (h : RoutesAlike s t) (k : RoutesAlike t u) : RoutesAlike s u :=
  ⟨h.touched.trans k.touched, fun m => (k.banned m).trans (h.banned m), fun m => (k.farAddr m).trans (h.farAddr m)⟩

/-- A lane that keeps what its HELLO said, and whether it is barred. -/
theorem updLane (s : State) (n : Nat) (g : Lane → Lane) (banned : (g (s.lane n)).banned = (s.lane n).banned)
    (farAddr : (g (s.lane n)).farAddr = (s.lane n).farAddr) : RoutesAlike s (s.updLane n g) := by
  refine ⟨(touch_updLane s n g).mono (by simp) (by simp), fun m => ?_, fun m => ?_⟩ <;> by_cases same : m = n
  · rw [same, State.lane_updLane_same, banned]
  · rw [State.lane_updLane_ne _ _ same]
  · rw [same, State.lane_updLane_same, farAddr]
  · rw [State.lane_updLane_ne _ _ same]

/-- The counters of segments. -/
theorem counted (s : State) (n : Fin 32) {x : Fld} (here : x.addr = A.LANE_SEG n) : RoutesAlike s (s.bump x) :=
  ⟨(touch_bump s x).mono (by simp) (by rw [here]; simp [laneNumbers]),
    fun m => by rw [(touch_bump s x).lane (by simp)], fun m => by rw [(touch_bump s x).lane (by simp)]⟩

theorem heard (s : State) (n : Nat) (b : List Byte) : RoutesAlike s (s.heard n b) := updLane _ _ _ rfl rfl

section
variable {s t : State} (h : RoutesAlike s t)
include h

/-- A register that is no counter of segments. -/
theorem f {x : Fld} (other : x.addr % 1024 ≠ 12 ∨ x.addr < 0x20000 ∨ 0x28000 ≤ x.addr) : t.f x = s.f x :=
  h.touched.f (by simp [laneNumbers, A.LANE_SEG]; omega)

theorem on {x : Fld} (other : x.addr % 1024 ≠ 12 ∨ x.addr < 0x20000 ∨ 0x28000 ≤ x.addr) : t.on x = s.on x := by
  rw [State.on, State.on, h.f other]

theorem addr : t.addr = s.addr := h.f (by simp)

theorem isMeadow : t.isMeadow = s.isMeadow := by
  rw [State.isMeadow, State.isMeadow, State.role, State.role, h.f (by simp)]

theorem tree : t.tree = s.tree := h.touched.1 .tree (by simp)

theorem unit (m : Nat) : t.unit m = s.unit m := by
  have units : t.unitSts = s.unitSts := h.touched.1 .units (by simp)
  rw [State.unit, State.unit, units]

theorem use : t.use = s.use := funext fun m => h.f (.inr (.inr (by simp; omega)))

theorem partner (m : Nat) : t.f (F.CMD_DL_PARTNER m) = s.f (F.CMD_DL_PARTNER m) := h.f (.inr (.inr (by simp; omega)))

theorem farNode (m : Nat) : t.f (F.CMD_DL_FAR_ADDR m) = s.f (F.CMD_DL_FAR_ADDR m) := h.f (.inr (.inr (by simp; omega)))

theorem rangeLo (m : Nat) : t.f (F.CMD_RANGE_LO m) = s.f (F.CMD_RANGE_LO m) := h.f (.inr (.inr (by simp; omega)))

theorem rangeHi (m : Nat) : t.f (F.CMD_RANGE_HI m) = s.f (F.CMD_RANGE_HI m) := h.f (.inr (.inr (by simp; omega)))

theorem laneUp : t.laneUp = s.laneUp := funext fun m => laneUp_congr (h.f (.inl (by simp)))

theorem uplinks : t.uplinks = s.uplinks := by simp only [State.uplinks, h.isMeadow, h.banned]

theorem upLane : t.upLane = s.upLane := by
  have dual : t.dualHomed = s.dualHomed := by simp only [State.dualHomed, h.isMeadow, h.farAddr]
  have follow : t.f F.TWIN_CHILD_FOLLOW = s.f F.TWIN_CHILD_FOLLOW := h.f (by simp)
  simp only [State.upLane, dual, h.uplinks, h.laneUp, follow]

theorem xlinks : t.xlinks = s.xlinks := by simp only [State.xlinks, h.isMeadow, h.use]

theorem isXlink : t.isXlink = s.isXlink := funext fun n => by rw [State.isXlink, State.isXlink, h.xlinks]

theorem xLane : t.xLane = s.xLane := by rw [State.xLane, State.xLane, h.xlinks, h.laneUp]

theorem units : t.units = s.units := by simp only [State.units, h.use]

theorem unitLanes : t.unitLanes = s.unitLanes := funext fun n => by rw [State.unitLanes, State.unitLanes, h.use, h.partner]

theorem unitLane : t.unitLane = s.unitLane := funext fun n => by
  simp only [State.unitLane, h.unitLanes, h.unit, h.farNode, h.laneUp]

theorem ownHi : t.ownHi = s.ownHi := by rw [State.ownHi, State.ownHi, h.isMeadow, h.tree]

theorem twin : t.on F.CMD_NODE_TWIN = s.on F.CMD_NODE_TWIN := h.on (by simp)

theorem route (dest : Nat) : t.route dest = s.route dest := by
  simp only [State.route, h.addr, h.twin, h.xLane, h.use, h.farNode, h.laneUp, h.units, h.rangeLo, h.rangeHi, h.unitLane, h.isMeadow, h.ownHi, h.upLane]

theorem subtreeHi (dest : Nat) : t.subtreeHi dest = s.subtreeHi dest := by
  simp only [State.subtreeHi, h.addr, h.twin, h.ownHi, h.tree, h.units, h.rangeLo, h.rangeHi, h.unit]

theorem covered (n : Option (Fin 32)) (dest : Nat) : t.covered n dest = s.covered n dest := by
  simp only [State.covered, h.addr, h.subtreeHi, h.uplinks, h.isXlink]

theorem mateCopy (n : Option (Fin 32)) (dest : Nat) : t.mateCopy n dest = s.mateCopy n dest := by
  simp only [State.mateCopy, h.addr, h.isXlink]

theorem mateCovered (dest : Nat) : t.mateCovered dest = s.mateCovered dest := by simp only [State.mateCovered, h.twin, h.addr]

theorem mcastUnits (dest : Nat) : t.mcastUnits dest = s.mcastUnits dest := by
  simp only [State.mcastUnits, h.subtreeHi, h.units, h.rangeLo, h.rangeHi]

theorem multicastLanes (n : Fin 32) (dest : Nat) : t.multicastLanes n dest = s.multicastLanes n dest := by
  simp only [State.multicastLanes, h.mateCopy, h.mateCovered, h.xLane, h.mcastUnits, h.unitLanes, h.laneUp]

theorem activeMeadow : t.activeMeadow = s.activeMeadow := by
  rw [State.activeMeadow, State.activeMeadow, h.isMeadow, State.twinRole, State.twinRole, h.f (by simp)]

theorem reportLane : t.reportLane = s.reportLane := by rw [State.reportLane, State.reportLane, h.isMeadow, h.xLane, h.upLane]

theorem onward (n : Fin 32) (kind dest : Nat) : t.onward n kind dest = s.onward n kind dest := by
  simp only [State.onward, h.route, h.covered, h.multicastLanes, h.activeMeadow, h.uplinks, h.isXlink, h.reportLane]

theorem rateNow (m : Nat) : t.f (F.LANE_STATUS_RATE_NOW m) = s.f (F.LANE_STATUS_RATE_NOW m) := h.f (.inl (by simp))

end

end RoutesAlike

/-! A segment waits on the lane it goes on (03 R99, R100). -/

theorem numAt_first (x : Byte) (b : List Byte) : numAt (x :: b) 0 1 = x.toNat := by
  simp [numAt, slice, leNat]

/-- What the bytes of a good segment say. -/
theorem parseSeg_shape {b : List Byte} {g : Segment} (h : parseSeg b = some g) :
    12 ≤ b.length ∧ numAt b 0 1 = 0x13 ∧ segClass b = g.ctl % 4 := by
  unfold parseSeg at h
  dsimp only at h
  split at h
  · next good =>
    obtain ⟨length, kind, -, -⟩ := good
    have first : numAt b 0 1 = 0x13 := by
      cases b with
      | nil => simp at length
      | cons x b =>
        rw [numAt_first, show x = 0x13 from kind]
        rfl
    cases h
    exact ⟨by omega, first, (Nat.mod_mod_of_dvd _ (by decide)).symm⟩
  · cases h

/-- A segment that came in on lane `n`, as it waits. -/
def arrival (s : State) (n : Nat) (b : List Byte) (bad : Bool) : TxItem :=
  { prio := segPrio (segKind b) (segClass b), inLane := n, ready := s.clk.nowPs / 2000, bad := bad, bytes := b }

theorem passOn_waits {s : State} {n out : Nat} {b : List Byte} {bad : Bool} (room : roomFor (s.lane out).txq (arrival s n b bad) = true) :
    ((s.passOn n out b bad).lane out).txq = (s.lane out).txq ++ [arrival s n b bad] ∧ Touches [.lanes] [] s (s.passOn n out b bad) := by
  have waits : s.passOn n out b bad = s.updLane out (fun l => { l with txq := l.txq ++ [arrival s n b bad] }) := queueTx_fits room
  rw [waits, State.lane_updLane_same]
  exact ⟨rfl, touch_updLane _ _ _⟩

theorem RoutesAlike.arrival {s t : State} (h : RoutesAlike s t) : arrival t = arrival s := by
  have clk : t.clk = s.clk := h.touched.1 .clk (by simp)
  funext n b bad
  rw [Machine.arrival, Machine.arrival, clk]

theorem heard_txq (s : State) (n out : Nat) (b : List Byte) : ((s.heard n b).lane out).txq = (s.lane out).txq := by
  by_cases same : out = n
  · rw [same, State.heard, State.lane_updLane_same]
  · rw [State.heard, State.lane_updLane_ne _ _ same]

/-- A segment heard on lane `n` waits on the lane it goes on. -/
theorem heard_passOn {s : State} {n out : Nat} {b : List Byte} (room : roomFor (s.lane out).txq (arrival s n b false) = true) :
    (((s.heard n b).passOn n out b false).lane out).txq = (s.lane out).txq ++ [arrival s n b false] ∧
      Touches [.lanes] [] s ((s.heard n b).passOn n out b false) := by
  have alike := RoutesAlike.heard s n b
  obtain ⟨waits, touched⟩ := passOn_waits (s := s.heard n b) (n := n) (out := out) (b := b) (bad := false)
    (by rw [heard_txq, alike.arrival]; exact room)
  rw [heard_txq, alike.arrival] at waits
  exact ⟨waits, (heard_touch s n b).trans touched⟩

/-- How a good segment waits. -/
theorem arrival_good {s : State} {n : Nat} {b : List Byte} {g : Segment} (good : parseSeg b = some g) :
    arrival s n b false = { prio := segPrio g.kind (g.ctl % 4), inLane := n, ready := s.clk.nowPs / 2000, bytes := b } := by
  obtain ⟨-, -, cls⟩ := parseSeg_shape good
  rw [Machine.arrival, parseSeg_kind good, cls]

theorem routedKind_listed {k : Nat} (h : routedKind k = true) : kindListed k = true ∧ k ≠ KIND.MIRROR := by
  simp only [routedKind, Bool.or_eq_true, beq_iff_eq] at h
  rcases h with ((rfl | rfl) | rfl) | rfl <;> exact ⟨rfl, by decide⟩

section
variable {s : State} (on : s.running = true) {n out : Fin 32} {b : List Byte} {g : Segment} (up : s.laneUp n = true) (good : parseSeg b = some g)

/-- Code-groups in which one frame ends. -/
theorem onSegmentForward_one {line : List Sym} {x : List Byte × Bool} (one : received line = [x]) :
    onSegmentForward n line s = s.lineItem n x := by
  rw [onSegmentForward, one]
  rfl

section
variable (routed : s.route g.dest = .lane out)
  (room : roomFor (s.lane out).txq { prio := segPrio g.kind (g.ctl % 4), inLane := n, ready := s.clk.nowPs / 2000, bytes := b } = true)
include up good routed

theorem onSegmentForward_routed {line : List Sym} (kind : routedKind g.kind = true) (one : received line = [(b, false)]) :
    onSegmentForward n line s = (s.heard n b).passOn n out b false := by
  obtain ⟨-, first, -⟩ := parseSeg_shape good
  obtain ⟨listed, notMirror⟩ := routedKind_listed kind
  have here : (s.heard n b).route g.dest = .lane out := ((RoutesAlike.heard s n b).route _).trans routed
  rw [onSegmentForward_one one, State.lineItem, if_neg (not_not.mpr first), if_neg Bool.false_ne_true, parseSeg_kind good, if_pos (.inl kind),
    State.segment_good up good rfl listed notMirror, State.forward, here]

theorem onReply_routed (kind : g.kind = KIND.REPLY) : onReply n b s = (s.heard n b).passOn n out b false := by
  have here : (s.heard n b).route g.dest = .lane out := ((RoutesAlike.heard s n b).route _).trans routed
  rw [onReply, State.segment_good up good kind rfl (by decide), here]

theorem onCommand_routed (kind : g.kind = KIND.COMMAND) (single : bit g.ctl 4 = false) :
    onCommand (.lane n b) s = (s.heard n b).passOn n out b false := by
  have here : (s.heard n b).route g.dest = .lane out := ((RoutesAlike.heard s n b).route _).trans routed
  have taken : onCommand (.lane n b) s = (s.heard n b).commandSegment n g b := State.segment_good up good kind rfl (by decide) _
  rw [taken, State.commandSegment, single]
  simp only [Bool.false_and, Bool.false_eq_true, if_false, here]

end

include on up good in
/-- The clauses of a segment that is routed onward: by the code-groups received, as a reply and as a command. -/
theorem segments_onward (line : List Sym) (routed : s.route g.dest = .lane out)
    (room : roomFor (s.lane out).txq { prio := segPrio g.kind (g.ctl % 4), inLane := n, ready := s.clk.nowPs / 2000, bytes := b } = true) :
    (routedKind g.kind = true → received line = [(b, false)] →
      ∃ t : State, exec (.segmentForward n line) s = .next t.wrapUp ∧
        (t.lane out).txq = (s.lane out).txq ++ [{ prio := segPrio g.kind (g.ctl % 4), inLane := n, ready := s.clk.nowPs / 2000, bytes := b }] ∧
        Touches [.lanes] [] s t) ∧
    (g.kind = KIND.REPLY →
      ∃ t : State, exec (.reply n b) s = .next t.wrapUp ∧
        (t.lane out).txq = (s.lane out).txq ++ [{ prio := segPrio g.kind (g.ctl % 4), inLane := n, ready := s.clk.nowPs / 2000, bytes := b }] ∧
        Touches [.lanes] [] s t) ∧
    (g.kind = KIND.COMMAND → bit g.ctl 4 = false →
      ∃ t : State, exec (.command (.lane n b)) s = .next t.wrapUp ∧
        (t.lane out).txq = (s.lane out).txq ++ [{ prio := segPrio g.kind (g.ctl % 4), inLane := n, ready := s.clk.nowPs / 2000, bytes := b }] ∧
        Touches [.lanes] [] s t) := by
  rw [← arrival_good good] at room ⊢
  obtain ⟨waits, touched⟩ := heard_passOn room
  exact ⟨fun kind one => ⟨_, runEvent_of_eq on (onSegmentForward_routed up good routed kind one), waits, touched⟩,
    fun kind => ⟨_, runEvent_of_eq on (onReply_routed up good routed kind), waits, touched⟩,
    fun kind single => ⟨_, runEvent_of_eq on (onCommand_routed up good routed kind single), waits, touched⟩⟩

/-! Bad segments (03 R72, R102). -/

theorem badSegment_scrc (s : State) (n : Nat) : (s.badSegment n).f (F.LANE_SEG_SCRC n) = min (s.f (F.LANE_SEG_SCRC n) + 1) 65535 :=
  s.f_bumpBy 1 rfl

theorem badSegment_alike (s : State) (n : Fin 32) : RoutesAlike s (s.badSegment n) := RoutesAlike.counted s n rfl

/-- A segment too short to be one goes nowhere. -/
theorem badCopy_nowhere {s : State} {n : Fin 32} {b : List Byte} (nowhere : s.onward n (segKind b) (segDest b) = []) : s.badCopy n b = s := by
  rw [State.badCopy, nowhere]
  split <;> rfl

include on up in
theorem segmentForward_short {line : List Sym} (first : numAt b 0 1 = 0x13) (short : b.length < 12) (kind : routedKind (segKind b) = true)
    (nowhere : s.onward n (segKind b) (segDest b) = []) (one : received line = [(b, false)]) :
    ∃ t : State, exec (.segmentForward n line) s = .next t.wrapUp ∧
      t.f (F.LANE_SEG_SCRC n) = min (s.f (F.LANE_SEG_SCRC n) + 1) 65535 ∧ Touches [.lanes] [A.LANE_SEG n] s t := by
  have heard := heard_touch s n b
  have bad : parseSeg b = none := if_neg (by omega)
  have alike := (RoutesAlike.heard s n b).trans (badSegment_alike (s.heard n b) n)
  have taken : s.takeSegment n b = ((s.heard n b).badSegment n, none) := by
    rw [State.takeSegment, bad]
    rfl
  have counted : onSegmentForward n line s = (s.heard n b).badSegment n := by
    rw [onSegmentForward_one one, State.lineItem, if_neg (not_not.mpr first), if_neg Bool.false_ne_true, if_pos (.inl kind), State.segment,
      if_neg (by simp [up]), taken]
    exact badCopy_nowhere ((alike.onward _ _ _).trans nowhere)
  refine ⟨_, runEvent_of_eq on counted, ?_, Touches.then (heard.mono (by simp) (by simp)) (touch_bump _ _) (by simp) (by simp)⟩
  rw [badSegment_scrc, heard.f (by simp)]

/-- A segment that ended with /V/, and its one copy. -/
theorem lineItem_bad {s : State} {n out : Fin 32} {b : List Byte} (up : s.laneUp n = true) (first : numAt b 0 1 = 0x13) (long : 8 ≤ b.length)
    (one : s.onward n (segKind b) (segDest b) = [out.val]) : s.lineItem n (b, true) =
      if s.f (F.LANE_STATUS_RATE_NOW out) ≤ s.f (F.LANE_STATUS_RATE_NOW n) then (s.badSegment n).passOn n out b true else s.badSegment n := by
  have alike := badSegment_alike s n
  rw [State.lineItem, if_neg (not_not.mpr first), if_pos rfl, if_pos up, State.badCopy, if_pos ⟨first, long⟩, alike.onward, one, alike.rateNow]
  by_cases slower : s.f (F.LANE_STATUS_RATE_NOW out) ≤ s.f (F.LANE_STATUS_RATE_NOW n)
  · rw [if_pos slower, List.filter_cons_of_pos (by rw [alike.rateNow]; exact decide_eq_true slower)]
    rfl
  · rw [if_neg slower, List.filter_cons_of_neg (by rw [alike.rateNow]; simpa using slower)]
    rfl

include on up in
theorem segmentForward_bad {line : List Sym} (first : numAt b 0 1 = 0x13) (long : 8 ≤ b.length) (ended : received line = [(b, true)])
    (one : s.onward n (segKind b) (segDest b) = [out.val])
    (room : roomFor (s.lane out).txq { prio := segPrio (segKind b) (segClass b), inLane := n, bad := true, bytes := b } = true) :
    ∃ t : State, exec (.segmentForward n line) s = .next t.wrapUp ∧
      t.f (F.LANE_SEG_SCRC n) = min (s.f (F.LANE_SEG_SCRC n) + 1) 65535 ∧
      (t.lane out).txq = (s.lane out).txq ++ (if s.f (F.LANE_STATUS_RATE_NOW out) ≤ s.f (F.LANE_STATUS_RATE_NOW n) then
        [{ prio := segPrio (segKind b) (segClass b), inLane := n, ready := s.clk.nowPs / 2000, bad := true, bytes := b }] else []) ∧
      Touches [.lanes] [A.LANE_SEG n] s t := by
  have counted := touch_bump s (F.LANE_SEG_SCRC n)
  have lanes : (s.badSegment n).lane out = s.lane out := counted.lane (by simp) out
  have fate := (onSegmentForward_one ended).trans (lineItem_bad up first long one)
  refine ⟨_, runEvent_of_eq on fate, ?_⟩
  split
  · obtain ⟨waits, touched⟩ := passOn_waits (s := s.badSegment n) (n := n) (out := out) (b := b) (bad := true) (by rw [lanes]; exact room)
    rw [lanes, (badSegment_alike s n).arrival] at waits
    exact ⟨(touched.f (by simp)).trans (badSegment_scrc s n), waits, Touches.then (counted.mono (by simp) (fun _ h => h)) touched (by simp) (by simp)⟩
  · exact ⟨badSegment_scrc s n, by rw [lanes, List.append_nil], counted.mono (by simp) (fun _ h => h)⟩

end

/-! A segment leaves (03 R99). -/

/-- A waiting segment of a lane begins to leave. -/
def State.itemStarted (s : State) (n : Nat) (x : TxItem) : State :=
  (s.updLane n (fun l => { l with txq := l.txq.erase x, txLog := noteLoad s.now ((s.leaving x).length + 2) l.txLog })).startItem n
    { x with bytes := s.leaving x }

/-- No fragment of an ASSIGN waits to enter the buffer. -/
def State.itemLeft (s : State) (n : Nat) (x : TxItem) : State := (s.itemStarted n x).fillAssign n []

/-- A TREND segment of the node's own leaves room in its stream. -/
def State.trendNoted (s : State) (b : List Byte) : State :=
  if numAt b 1 1 = KIND.TREND then s.trendLeft ((b.drop 8).take (numAt b 4 2)) else s

/-- A MIRROR segment of the node's own: the image number it carries is noted, and the image is sent with its last. -/
def State.mirrorNoted (s : State) (n : Nat) (b : List Byte) : State :=
  if numAt b 1 1 ≠ KIND.MIRROR then s
  else
    let s := if bit (numAt b 2 1) 2 then s.updLane n (fun l => { l with mirrorNo := numAt b 8 4 }) else s
    if bit (numAt b 2 1) 3 ∧ s.twinRole = ROLE.ACTIVE then s.setF F.TWIN_IMG_IMG_SEQ (s.lane n).mirrorNo else s

/-- What the node notes of a segment of its own that leaves. -/
def State.itemNoted (s : State) (n : Nat) (x : TxItem) (b : List Byte) : State :=
  let seg := if x.eth then b.drop 14 else b
  if x.inLane ≠ 32 then s else (s.trendNoted seg).mirrorNoted n seg

section
variable (s : State) (n : Nat) (x : TxItem)

theorem itemStarted_lane : (s.itemStarted n x).lane n = { s.lane n with
    txq := (s.lane n).txq.erase x, txLog := noteLoad s.now ((s.leaving x).length + 2) (s.lane n).txLog, txNow := some { x with bytes := s.leaving x }
    txAt := s.clk.nowPs, line := framed x.bad (s.leaving x) } := by
  rw [State.itemStarted, State.startItem, State.lane_updLane_same, State.lane_updLane_same]
  rfl

theorem itemLeft_lane : ((s.itemLeft n x).lane n).txq = (s.lane n).txq.erase x ∧
    ((s.itemLeft n x).lane n).txNow = some { x with bytes := s.leaving x } ∧ ((s.itemLeft n x).lane n).line = framed x.bad (s.leaving x) := by
  rw [State.itemLeft, State.fillAssign, State.lane_updLane_same, itemStarted_lane]
  exact ⟨rfl, rfl, rfl⟩

theorem itemLeft_touch : Touches [.lanes] [] s (s.itemLeft n x) :=
  Touches.trans (.trans (touch_updLane _ _ _) (touch_updLane _ _ _)) (fillAssign_touch n [] _)

variable (b : List Byte)

theorem trendNoted_touch : Touches [.recorder] [] s (s.trendNoted b) := by
  rw [State.trendNoted]
  split
  · exact trendLeft_touch _ _
  · exact Touches.refl _ _ _

/-- Noting a MIRROR segment leaves what its lane sends. -/
theorem mirrorNoted_lane : ∃ k, (s.mirrorNoted n b).lane n = { s.lane n with mirrorNo := k } := by
  rw [State.mirrorNoted]
  split
  · exact ⟨_, rfl⟩
  · dsimp only
    split <;> split
    · exact ⟨_, ((touch_setF _ _ _).lane (by simp) n).trans (State.lane_updLane_same _ _ _)⟩
    · exact ⟨_, State.lane_updLane_same _ _ _⟩
    · exact ⟨_, (touch_setF _ _ _).lane (by simp) n⟩
    · exact ⟨_, rfl⟩

theorem mirrorNoted_touch : Touches [.lanes] [A.TWIN_IMG] s (s.mirrorNoted n b) := by
  have noted : Touches [.lanes] [A.TWIN_IMG] s (if bit (numAt b 2 1) 2 then s.updLane n (fun l => { l with mirrorNo := numAt b 8 4 }) else s) := by
    split
    · exact (touch_updLane _ _ _).mono (by simp) (by simp)
    · exact Touches.refl _ _ _
  rw [State.mirrorNoted]
  split
  · exact Touches.refl _ _ _
  · dsimp only
    generalize (if bit (numAt b 2 1) 2 = true then s.updLane n (fun l => { l with mirrorNo := numAt b 8 4 }) else s) = u at *
    split
    · exact Touches.then noted (touch_setF _ _ _) (by simp) (by simp)
    · exact noted

end

section
variable {s : State} {n : Fin 32} {x : TxItem} (up : s.laneUp n = true) (only : (s.lane n).txq = [x]) (tree : x.eth = false)
  (filled : (s.lane n).assignRest = [])
include up only tree filled

theorem onSegmentTxStart_one : onSegmentTxStart n s =
    if x.inLane ≠ 32 then s.itemLeft n x else ((s.itemLeft n x).trendNoted (s.leaving x)).mirrorNoted n (s.leaving x) := by
  have next : nextItem ((s.lane n).txq.filter (fun t => if t.eth then s.laneSt n == 8 else s.laneUp n || (s.laneSt n == 4 && t.prio == 1))) =
      some x := by
    rw [only, List.filter_cons_of_pos (by rw [tree, up]; rfl)]
    rfl
  have rest : ((s.itemStarted n x).lane n).assignRest = [] := by rw [itemStarted_lane, filled]
  have starts : onSegmentTxStart n s = ((s.itemStarted n x).fillAssign n ((s.itemStarted n x).lane n).assignRest).itemNoted n x (s.leaving x) := by
    rw [onSegmentTxStart]
    dsimp only
    rw [next]
    rfl
  rw [starts, rest, State.itemNoted, tree]
  rfl

theorem segmentTxStart_one (on : s.running = true) :
    ∃ t : State, exec (.segmentTxStart n) s = .next t.wrapUp ∧ (t.lane n).txq = [] ∧
      (x.inLane ≠ 32 → (t.lane n).txNow = some x ∧ (t.lane n).line = framed x.bad x.bytes ∧ Touches [.lanes] [] s t) ∧
      (x.inLane = 32 → (t.lane n).txNow = some { x with bytes := s.stampReply x.bytes } ∧
        (t.lane n).line = framed x.bad (s.stampReply x.bytes) ∧ Touches [.lanes, .recorder] [A.TWIN_IMG] s t) := by
  obtain ⟨txq, txNow, line⟩ := itemLeft_lane s n x
  have left := itemLeft_touch s n x
  rw [only, List.erase_cons_head] at txq
  have starts := onSegmentTxStart_one up only tree filled
  by_cases own : x.inLane = 32
  · have bytes : s.leaving x = s.stampReply x.bytes := by rw [State.leaving, if_neg (not_not.mpr own), if_neg (by rw [tree]; decide)]
    rw [if_neg (not_not.mpr own)] at starts
    obtain ⟨k, lane⟩ := mirrorNoted_lane ((s.itemLeft n x).trendNoted (s.leaving x)) n (s.leaving x)
    have trend := trendNoted_touch (s.itemLeft n x) (s.leaving x)
    rw [trend.lane (by simp)] at lane
    refine ⟨_, runEvent_of_eq on starts, by rw [lane, txq], fun other => absurd own other, fun _ => ⟨?_, ?_, ?_⟩⟩
    · rw [lane, txNow, bytes]
    · rw [lane, line, bytes]
    · exact Touches.trans (.trans (left.mono (by simp) (by simp)) (trend.mono (by simp) (by simp)))
        ((mirrorNoted_touch _ n _).mono (by simp) (by simp))
  · have bytes : s.leaving x = x.bytes := if_pos own
    rw [if_pos own] at starts
    rw [bytes] at txNow line
    exact ⟨_, runEvent_of_eq on starts, txq, fun _ => ⟨txNow, line, left⟩, fun h => absurd h own⟩

end

/-- Settles O14: code-groups, a segment routed onward, bad segments, and the start of a transmission. -/
theorem segmentsForwarded : Obligations.SegmentsForwarded := by
  unfold Obligations.SegmentsForwarded
  refine ⟨received_framed, received_suspended, fun n out line b g s on => ⟨?onward, ?short, ?bad, ?start⟩⟩
  case onward => exact fun up good routed room => segments_onward on up good line routed room
  case short => exact fun up first short kind nowhere one => segmentForward_short on up first short kind nowhere one
  case bad => exact fun up first long ended one room => segmentForward_bad on up first long ended one room
  case start => exact fun x up only tree filled => segmentTxStart_one up only tree filled on

end Sys2Proof.Machine
end

section
/-!
SUPPORT. Reports and images (03 R101, 12 R341, 14 R382, R383, 15 R407, 17 R441): MULTICAST, MIRROR, EVENT and LIFE segments.
-/
namespace Sys2Proof.Machine
open Sys2Proof

/-! A report goes upward, or is delivered (12 R341, 15 R407). -/

/-- A report as it waits to go upward. -/
theorem arrival_prio {s : State} {n k prio : Nat} {b : List Byte} {g : Segment} (good : parseSeg b = some g) (kind : g.kind = k)
    (fixed : segPrio k (g.ctl % 4) = prio) :
    arrival s n b false = { prio := prio, inLane := n, ready := s.clk.nowPs / 2000, bytes := b } := by
  rw [arrival_good good, kind, fixed]

theorem reportSegment_up {u : State} {n out : Fin 32} {b : List Byte} {g : Segment} (standby : u.activeMeadow = false)
    (fromChild : u.uplinks.contains n.val = false) (tree : u.isXlink n = false) (way : u.reportLane = some out.val) : u.reportSegment n g b = u.passOn n out b false := by
  rw [State.reportSegment, if_neg (ne_true_of_eq_false standby), fromChild, tree, way]
  rfl

/-- A subscriber at a core of this node gets a report. -/
theorem deliverTo_core {u : State} {x : Subscriber} (here : x.source.toNat = u.addr) (kind : Nat) (payload : List Byte) :
    u.deliverTo kind x payload = u.toCore x.mac payload := by
  have own := f_lt u F.CMD_NODE_ADDR
  have small : x.source.toNat < 8192 := by rw [here]; exact own
  have dest : x.source.toNat % 8192 = u.addr := by rw [Nat.mod_eq_of_lt small, here]
  have port : x.source.toNat / 8192 = 0 := Nat.div_eq_of_lt small
  rw [State.deliverTo]
  dsimp only
  rw [if_pos dest, port]
  rfl

section
variable {s : State} {n out : Fin 32} {b : List Byte} {g : Segment} (up : s.laneUp n = true) (good : parseSeg b = some g)
include up good

/-- A child's report goes upward. -/
theorem report_up {k : Nat} (kind : g.kind = k) (report : k = KIND.EVENT ∨ k = KIND.LIFE) (standby : s.activeMeadow = false)
    (fromChild : s.uplinks.contains n.val = false) (tree : s.isXlink n = false) (way : s.reportLane = some out.val)
    (room : roomFor (s.lane out).txq { prio := 6, inLane := n, ready := s.clk.nowPs / 2000, bytes := b } = true) :
    ∃ t : State, s.segment n k b (fun s g => s.reportSegment n g b) = t ∧
      (t.lane out).txq = (s.lane out).txq ++ [{ prio := 6, inLane := n, ready := s.clk.nowPs / 2000, bytes := b }] ∧ Touches [.lanes] [] s t := by
  have alike := RoutesAlike.heard s n b
  have listed : kindListed k = true ∧ k ≠ KIND.MIRROR := by rcases report with rfl | rfl <;> exact ⟨rfl, by decide⟩
  have waits : arrival s n b false = { prio := 6, inLane := n, ready := s.clk.nowPs / 2000, bytes := b } :=
    arrival_prio good kind (by rcases report with rfl | rfl <;> rfl)
  rw [← waits] at room ⊢
  refine ⟨(s.heard n b).passOn n out b false, ?_, heard_passOn room⟩
  rw [State.segment_good up good kind listed.1 listed.2]
  exact reportSegment_up (alike.activeMeadow.trans standby) (by rw [alike.uplinks, fromChild]) (by rw [alike.isXlink, tree]) (alike.reportLane.trans way)

/-- The active Meadow delivers a report. -/
theorem report_delivered {k : Nat} (kind : g.kind = k) (report : k = KIND.EVENT ∨ k = KIND.LIFE) (active : s.activeMeadow = true) (u : Subscriber)
    (only : s.subscribers k = [u]) (here : u.source.toNat = s.addr) :
    ∃ t : State, s.segment n k b (fun s g => s.reportSegment n g b) = t ∧ t.cmd.coreReplies = s.cmd.coreReplies ++ [(u.mac, g.payload)] ∧
      Touches [.lanes, .cmd] [] s t := by
  have alike := RoutesAlike.heard s n b
  have heard := heard_touch s n b
  have listed : kindListed k = true ∧ k ≠ KIND.MIRROR := by rcases report with rfl | rfl <;> exact ⟨rfl, by decide⟩
  have subscribers : (s.heard n b).subscribers g.kind = [u] := by
    rw [State.subscribers, heard.hub (by simp), heard.1 .life (by simp), kind, ← only, State.subscribers]
  refine ⟨(s.heard n b).toCore u.mac g.payload, ?_, rfl, Touches.then (heard.mono (by simp) (by simp)) (touch_cmd _ _) (by simp) (by simp)⟩
  rw [State.segment_good up good kind listed.1 listed.2, State.reportSegment, if_pos (alike.activeMeadow.trans active), subscribers]
  exact deliverTo_core (here.trans alike.addr.symm) _ _

end

/-! Images (17 R441). -/

/-- The registers as the first block of an image leaves them: all its blocks awaited, its pages taken. -/
def State.blocksAwaited (s : State) (len : Nat) : State :=
  ((s.setF F.REC_POOL_FREE (s.f F.REC_POOL_FREE - (len + 65535) / 65536)).setF F.SYS_LOAD_TOTAL (blockCount len)).setF F.SYS_LOAD_MISSING
    (blockCount len)

/-- The first block of an image fixes its number and length and takes its pages. -/
def State.stagingBegun (s : State) (id len : Nat) : State :=
  { s.blocksAwaited len with
    node.imgId := some id, node.imgLen := len, node.imgBlocks := [], node.imgPages := s.freePages.take ((len + 65535) / 65536),
    node.imgLast := (s.blocksAwaited len).now }

theorem startStaging_begins {s : State} {len : Nat} (id : Nat) (positive : 1 ≤ len) (fits : len ≤ 4194304)
    (room : (len + 65535) / 65536 ≤ s.freePages.length) : s.startStaging id len = s.stagingBegun id len := by
  have taken : (s.freePages.take ((len + 65535) / 65536)).length = (len + 65535) / 65536 := by rw [List.length_take, Nat.min_eq_left room]
  have begins : ¬(len = 0 ∨ 4194304 < len ∨ (s.freePages.take ((len + 65535) / 65536)).length < (len + 65535) / 65536) := by
    rw [taken]
    omega
  rw [State.startStaging]
  exact if_neg begins

theorem stagingBegun_touch (s : State) (id len : Nat) : Touches [.node] [A.SYS_LOAD, A.REC_POOL] s (s.stagingBegun id len) :=
  Touches.then (Touches.trans (.trans (touch_field _ _ _ (by simp)) (touch_field _ _ _ (by simp))) (touch_field _ _ _ (by simp)))
    (touch_node _ _) (by simp) (by simp)

theorem stagingBegun_total (s : State) (id : Nat) {len : Nat} (fits : len ≤ 4194304) :
    (s.stagingBegun id len).f F.SYS_LOAD_TOTAL = blockCount len := by
  have small : blockCount len < 2 ^ 16 := by
    rw [blockCount]
    omega
  rw [State.stagingBegun, (touch_node _ _).f (by simp), State.blocksAwaited, State.f_setF_apart _ _ _ _ rfl rfl rfl, State.f_setF_of_lt _ _ rfl small]

/-- What writing the bytes of a block does not change. -/
structure KeepsImage (s t : State) : Prop where
  id : t.node.imgId = s.node.imgId
  len : t.node.imgLen = s.node.imgLen
  total : t.f F.SYS_LOAD_TOTAL = s.f F.SYS_LOAD_TOTAL
  touch : Touches [.node, .bytes, .guard] [A.SYS_LOAD] s t

theorem KeepsImage.trans {s t u : State} (h : KeepsImage s t) (k : KeepsImage t u) : KeepsImage s u :=
  ⟨k.id.trans h.id, k.len.trans h.len, k.total.trans h.total, h.touch.trans k.touch⟩

theorem KeepsImage.node {s : State} {x : Node} (id : x.imgId = s.node.imgId) (len : x.imgLen = s.node.imgLen) :
    KeepsImage s { s with node := x } :=
  ⟨id, len, (touch_node s x).f (by simp), (touch_node s x).mono (by simp) (by simp)⟩

theorem KeepsImage.bytes {s t : State} (h : Touches [.bytes, .guard] [] s t) : KeepsImage s t := by
  have node : t.node = s.node := h.1 .node (by simp)
  exact ⟨by rw [node], by rw [node], h.f (by simp), h.mono (by simp) (by simp)⟩

theorem KeepsImage.missing (s : State) (v : Nat) : KeepsImage s (s.setF F.SYS_LOAD_MISSING v) := by
  have touch : Touches [] [A.SYS_LOAD] s (s.setF F.SYS_LOAD_MISSING v) := touch_setF s _ v
  have node : (s.setF F.SYS_LOAD_MISSING v).node = s.node := touch.1 .node (by simp)
  exact ⟨by rw [node], by rw [node], State.f_setF_apart _ _ _ _ rfl rfl rfl, touch.mono (by simp) (by simp)⟩

/-- The bytes of a block laid into the pages of the image. -/
def State.blockLaid (s : State) (blk : Nat) (data : List Byte) : State :=
  let at0 := 1008 * blk
  s.each (List.range ((at0 % 65536 + data.length + 65535) / 65536)) (fun s i =>
    let page := s.node.imgPages.getD (at0 / 65536 + i) 0
    let o := if i = 0 then at0 % 65536 else 0
    let k := if i = 0 then 0 else 65536 - at0 % 65536
    s.guardWrite true (0x20000000 + page * 65536 + o) ((data.drop k).take (65536 - o)))

/-- A block kept among those that have come. -/
def State.blockKept (s : State) (blocks : List (Nat × List Byte)) (total : Nat) : State :=
  let s := { s with node.imgBlocks := blocks }.setF F.SYS_LOAD_MISSING (total - blocks.length)
  if blocks.length = total then { s with node.imgPend := some ((blocks.map (·.2)).flatten, 1) } else s

theorem stageBlock_eq (s : State) (blk : Nat) (data : List Byte) : s.stageBlock blk data =
    (let s := { s with node.imgLast := s.now }
     let total := blockCount s.node.imgLen
     let want := if blk + 1 = total then s.node.imgLen - 1008 * blk else 1008
     if total ≤ blk ∨ data.length ≠ want ∨ s.node.imgBlocks.any (fun x => x.1 == blk) then s
     else (s.blockLaid blk data).blockKept (Map.set [] (s.blockLaid blk data).node.imgBlocks blk data) total) := rfl

theorem blockLaid_touch (s : State) (blk : Nat) (data : List Byte) : Touches [.bytes, .guard] [] s (s.blockLaid blk data) :=
  Touches.each _ _ (fun t _ _ => guardWrite_touch t _ _ _) s

theorem blockKept_keeps (s : State) (blocks : List (Nat × List Byte)) (total : Nat) : KeepsImage s (s.blockKept blocks total) := by
  have kept : KeepsImage s ({ s with node.imgBlocks := blocks }.setF F.SYS_LOAD_MISSING (total - blocks.length)) :=
    .trans (t := { s with node.imgBlocks := blocks }) (.node rfl rfl) (.missing _ _)
  rw [State.blockKept]
  generalize State.setF _ _ _ = t at kept ⊢
  extract_lets
  split
  · exact kept.trans (.node rfl rfl)
  · exact kept

theorem stageBlock_keeps (s : State) (blk : Nat) (data : List Byte) : KeepsImage s (s.stageBlock blk data) := by
  have stamped : KeepsImage s { s with node.imgLast := s.now } := .node rfl rfl
  rw [stageBlock_eq]
  extract_lets u total want
  split
  · exact stamped
  · exact (stamped.trans (.bytes (blockLaid_touch _ _ _))).trans (blockKept_keeps _ _ _)

section
variable {s : State} {p : List Byte} (stages : s.stagesImage = true) (member : s.tree.taken ≠ []) (bare : s.on F.SYS_STATE_IMG_OK = false)
  (pend : s.node.imgPend = none) (idle : s.node.imgId = none) (long : 16 ≤ p.length) (positive : 1 ≤ numAt p 4 4) (fits : numAt p 4 4 ≤ 4194304)
  (room : (numAt p 4 4 + 65535) / 65536 ≤ s.freePages.length)
include stages member bare pend idle long positive fits room

/-- The first block of an image starts its staging and is its first block. -/
theorem takeBlock_begins : s.takeBlock p =
    (s.stagingBegun (numAt p 0 4) (numAt p 4 4)).stageBlock (numAt p 8 2) ((p.drop 16).take (numAt p 10 2)) := by
  have takes : ¬((!s.stagesImage) = true ∨ s.tree.taken = [] ∨ s.on F.SYS_STATE_IMG_OK = true ∨ s.node.imgPend.isSome = true ∨ p.length < 16) := by
    rw [stages, bare, pend, or_iff_right (by simp), or_iff_right member, or_iff_right (by simp), or_iff_right (by simp)]
    exact Nat.not_lt.mpr long
  obtain ⟨old, stale⟩ : ∃ old : Nat, old = 1000000000 := ⟨_, rfl⟩
  rw [State.takeBlock, if_neg takes, ← stale, idle]
  dsimp only
  rw [startStaging_begins _ positive fits room]
  exact if_pos rfl

theorem takeBlock_first : (s.takeBlock p).node.imgId = some (numAt p 0 4) ∧ (s.takeBlock p).node.imgLen = numAt p 4 4 ∧
    (s.takeBlock p).f F.SYS_LOAD_TOTAL = blockCount (numAt p 4 4) ∧
    Touches [.node, .bytes, .guard] [A.SYS_LOAD, A.REC_POOL] s (s.takeBlock p) := by
  rw [takeBlock_begins stages member bare pend idle long positive fits room]
  have kept := stageBlock_keeps (s.stagingBegun (numAt p 0 4) (numAt p 4 4)) (numAt p 8 2) ((p.drop 16).take (numAt p 10 2))
  exact ⟨kept.id, kept.len, kept.total.trans (stagingBegun_total _ _ fits),
    ((stagingBegun_touch s _ _).mono (by simp) (by simp)).trans (kept.touch.mono (by simp) (by simp))⟩

end

/-! A MULTICAST segment (03 R101). -/

/-- With no child unit and no twin mate in the subtree, a MULTICAST message that is taken goes no further. -/
theorem multicastLanes_none {s : State} {n : Fin 32} {dest : Nat} (alone : s.units = []) (own : s.mateCopy (some n) dest = false)
    (mate : s.mateCovered dest = false) : s.multicastLanes n dest = [] := by
  rw [State.multicastLanes, own, mate, State.mcastUnits, alone]
  rfl

theorem onward_multicast (s : State) (n : Fin 32) (dest : Nat) : s.onward n KIND.MULTICAST dest =
    if s.covered (some n) dest then s.multicastLanes n dest else match s.route dest with
      | .lane out => [out]
      | _ => [] := rfl

section
variable {s : State} {n out : Fin 32} {b : List Byte} {g : Segment} (up : s.laneUp n = true) (good : parseSeg b = some g)
  (kind : g.kind = KIND.MULTICAST)
include up good kind

theorem onMulticast_good : onMulticast n b s = (s.heard n b).multicastSegment n g b := State.segment_good up good kind rfl (by decide) _

/-- A MULTICAST segment for another subtree waits on the lane towards it. -/
theorem multicast_onward (apart : s.covered (some n) g.dest = false) (routed : s.route g.dest = .lane out)
    (room : roomFor (s.lane out).txq { prio := 5, inLane := n, ready := s.clk.nowPs / 2000, bytes := b } = true) :
    ((onMulticast n b s).lane out).txq = (s.lane out).txq ++ [{ prio := 5, inLane := n, ready := s.clk.nowPs / 2000, bytes := b }] ∧
      Touches [.lanes] [] s (onMulticast n b s) := by
  have alike := RoutesAlike.heard s n b
  have outward : (s.heard n b).onward n KIND.MULTICAST g.dest = [out.val] := by
    rw [alike.onward, onward_multicast, apart, routed]
    rfl
  have passed : onMulticast n b s = (s.heard n b).passOn n out b false := by
    rw [onMulticast_good up good kind, State.multicastSegment, outward, alike.covered, apart]
    rfl
  rw [passed]
  rw [← arrival_prio (prio := 5) good kind rfl] at room ⊢
  exact heard_passOn room

/-- A MULTICAST segment that goes no further is taken here. -/
theorem multicast_here (covered : s.covered (some n) g.dest = true) (alone : s.units = []) (own : s.mateCopy (some n) g.dest = false)
    (mate : s.mateCovered g.dest = false) : onMulticast n b s = (s.heard n b).takeBlock g.payload := by
  have alike := RoutesAlike.heard s n b
  have outward : (s.heard n b).onward n KIND.MULTICAST g.dest = [] := by
    rw [alike.onward, onward_multicast, covered, if_pos rfl, multicastLanes_none alone own mate]
  rw [onMulticast_good up good kind, State.multicastSegment, outward, alike.covered, covered]
  rfl

end

/-! A MIRROR segment (14 R382, R383). -/

/-- The record of a MIRROR message that holds word `o` of the loop memory alone. -/
def mirrorRecord (o : Nat) (w : Word) : List Byte := leBytes 1 1 ++ (leBytes 1 1 ++ (leBytes 2 o ++ leBytes 4 w.toNat))

/-- A MIRROR message on base 0 with that record alone. -/
def mirrorWord (q o : Nat) (w : Word) : List Byte := leBytes 4 q ++ (leBytes 4 0 ++ mirrorRecord o w)

theorem mirrorWord_eq (q o : Nat) (w : Word) : leBytes 4 q ++ leBytes 4 0 ++ [1, 1] ++ leBytes 2 o ++ leBytes 4 w.toNat = mirrorWord q o w := by
  simp only [mirrorWord, List.append_assoc]
  rfl

theorem mirrorRecord_word (o : Nat) (w : Word) : numAt (mirrorRecord o w) 4 4 = w.toNat := by
  rw [mirrorRecord, numAt_skip _ (by decide), numAt_skip _ (by decide), numAt_skip _ (by decide), numAt_leBytes]
  exact Nat.mod_eq_of_lt w.isLt

theorem unpackWords_one (fuel : Nat) {o : Nat} (w : Word) (fits : o < 65536) :
    unpackWords (fuel + 2) (mirrorRecord o w) = [{ space := 1, ofs := o, w := w }] := by
  have space : numAt (mirrorRecord o w) 0 1 = 1 := numAt_front _
  have count : numAt (mirrorRecord o w) 1 1 = 1 := by
    rw [mirrorRecord, numAt_skip _ (by decide), numAt_front]
    rfl
  have first : numAt (mirrorRecord o w) 2 2 = o := by
    rw [mirrorRecord, numAt_skip _ (by decide), numAt_skip _ (by decide), numAt_front]
    exact Nat.mod_eq_of_lt fits
  have ended : unpackWords (fuel + 1) ((mirrorRecord o w).drop 8) = [] := if_pos (by simp [mirrorRecord])
  rw [unpackWords, if_neg (by simp [mirrorRecord]), count, first, space]
  dsimp only
  rw [Nat.mul_one, ended]
  simp [mirrorRecord_word]

/-- A standby notes the number of the image that it holds. -/
def State.imageNoted (s : State) (q : Nat) : State := (s.setReg A.TWIN_IMG (BitVec.ofNat 32 q)).setF F.TWIN_AGE_IMG_AGE 0

/-- A standby with word `o` of image `q` loaded. -/
def State.wordMirrored (s : State) (q o : Nat) (w : Word) : State :=
  { (s.loadWord { space := 1, ofs := o, w := w }).imageNoted q with twin.lagSaid := false }

theorem imageNoted_touch (s : State) (q : Nat) : Touches [] [A.TWIN_IMG, A.TWIN_AGE] s (s.imageNoted q) :=
  Touches.trans ((touch_setReg _ _ _).mono (by simp) (by simp)) (touch_field _ _ _ (by simp))

theorem imageNoted_seq (s : State) {q : Nat} (seq : q < 2 ^ 32) : (s.imageNoted q).f F.TWIN_IMG_IMG_SEQ = q := by
  rw [State.imageNoted, State.f_setF_ne _ _ _ _ (by decide), State.f, State.reg_setReg_same]
  rw [BitVec.toNat_ofNat, Nat.mod_eq_of_lt seq, Fld.of, Nat.pow_zero, Nat.div_one]
  exact Nat.mod_eq_of_lt seq

theorem wordMirrored_touch (s : State) (q o : Nat) (w : Word) :
    Touches [.loop, .twin] [A.TWIN_IMG, A.TWIN_AGE] s (s.wordMirrored q o w) :=
  Touches.trans (((touch_loop s _).mono (by simp) (by simp)).trans ((imageNoted_touch _ q).mono (by simp) (by simp)))
    ((touch_twin _ _).mono (by simp) (by simp))

theorem wordMirrored_partner (s : State) (q o : Nat) (w : Word) : (s.wordMirrored q o w).twin.partner = s.twin.partner := by
  have twin : ((s.loadWord { space := 1, ofs := o, w := w }).imageNoted q).twin = (s.loadWord { space := 1, ofs := o, w := w }).twin :=
    (imageNoted_touch _ q).1 .twin (by simp)
  rw [State.wordMirrored]
  dsimp only
  rw [twin]
  rfl

theorem wordMirrored_word (s : State) (q o : Nat) (w : Word) :
    (s.wordMirrored q o w).word o = w ∧ ∀ i, i ≠ o → (s.wordMirrored q o w).word i = s.word i := by
  have noted : ((s.loadWord { space := 1, ofs := o, w := w }).imageNoted q).loop = (s.loadWord { space := 1, ofs := o, w := w }).loop :=
    (imageNoted_touch _ q).1 .loop (by simp)
  have loop : (s.wordMirrored q o w).loop = (s.loadWord { space := 1, ofs := o, w := w }).loop := by rw [State.wordMirrored, ← noted]
  refine ⟨?_, fun i other => ?_⟩
  · rw [State.word, loop]
    exact Map.get_set_same _ _ _ _
  · rw [State.word, loop]
    exact Map.get_set_ne _ _ _ _ other

theorem wordMirrored_image (s : State) {q : Nat} (o : Nat) (w : Word) (seq : q < 2 ^ 32) :
    (s.wordMirrored q o w).f F.TWIN_IMG_IMG_SEQ = q ∧ (s.wordMirrored q o w).f F.TWIN_AGE_IMG_AGE = 0 :=
  ⟨((touch_twin _ _).f (by simp)).trans (imageNoted_seq _ seq), ((touch_twin _ _).f (by simp)).trans (State.f_setF_same _ _ _ rfl)⟩

theorem loadMirror_word {s : State} {q o : Nat} {w : Word} (twin : s.isTwin = true) (standby : s.twinRole = ROLE.READY ∨ s.twinRole = ROLE.SYNC)
    (unseen : s.twin.partner.seen = false) (place : o < 65536) (seq : q < 2 ^ 32) : s.loadMirror (mirrorWord q o w) = s.wordMirrored q o w := by
  have base : numAt (mirrorWord q o w) 4 4 = 0 := by
    rw [mirrorWord, numAt_skip _ (by decide), numAt_front]
    rfl
  have number : numAt (mirrorWord q o w) 0 4 = q := by
    rw [mirrorWord, numAt_front]
    exact Nat.mod_eq_of_lt seq
  have length : (mirrorWord q o w).length = 14 + 2 := by simp [mirrorWord, mirrorRecord]
  have words : unpackWords (mirrorWord q o w).length ((mirrorWord q o w).drop 8) = [{ space := 1, ofs := o, w := w }] := by
    have records : (mirrorWord q o w).drop 8 = mirrorRecord o w := by
      rw [mirrorWord, ← List.append_assoc, List.drop_left' (by simp)]
    rw [length, records, unpackWords_one 14 w place]
  have loads : ¬((!s.isTwin) = true ∨ (s.twinRole ≠ ROLE.READY ∧ s.twinRole ≠ ROLE.SYNC) ∨ (mirrorWord q o w).length < 8 ∨
      ((0 : Nat) ≠ 0 ∧ (0 : Nat) ≠ s.f F.TWIN_IMG_IMG_SEQ)) := by
    rw [twin, length]
    rcases standby with role | role <;> simp [role]
  rw [State.loadMirror, base, number, words]
  refine (if_neg loads).trans ?_
  have unseen : (!(s.wordMirrored q o w).twin.partner.seen) = true := by
    rw [wordMirrored_partner, unseen]
    rfl
  exact if_pos (.inr unseen)

theorem onMirror_good {s : State} {n : Fin 32} {b : List Byte} {g : Segment} (up : s.laneUp n = true) (good : parseSeg b = some g)
    (kind : g.kind = KIND.MIRROR) (tree : s.isXlink n = true) (first : bit g.ctl 2 = true) (last : bit g.ctl 3 = true) (single : g.frag = 0) :
    onMirror n b s = ((s.heard n b).gathered n g).loadMirror g.payload := by
  have alike := RoutesAlike.heard s n b
  have taken : s.takeSegment n b = (s.heard n b, some g) := by
    have accepted : ¬((!kindListed g.kind) = true ∨ (g.kind = KIND.MIRROR ∧ (!(s.heard n b).isXlink n) = true)) := by
      rw [kind, alike.isXlink, tree]
      decide
    rw [State.takeSegment, good]
    exact if_neg accepted
  have runs : ¬((!s.laneUp n) = true ∨ (segKind b ≠ KIND.MIRROR ∧ kindListed (segKind b) = true)) := by
    rw [up, parseSeg_kind good, kind]
    decide
  rw [onMirror, State.segment, if_neg runs, taken]
  dsimp only
  rw [State.assemble_single _ _ first last single]

theorem mirror_loads {s : State} {n : Fin 32} {b : List Byte} {g : Segment} {o q : Nat} {w : Word} (up : s.laneUp n = true)
    (good : parseSeg b = some g) (kind : g.kind = KIND.MIRROR) (tree : s.isXlink n = true) (first : bit g.ctl 2 = true)
    (last : bit g.ctl 3 = true) (single : g.frag = 0) (twin : s.isTwin = true) (standby : s.twinRole = ROLE.READY ∨ s.twinRole = ROLE.SYNC)
    (unseen : s.twin.partner.seen = false) (place : o < 65536) (seq : q < 2 ^ 32) (whole : g.payload = mirrorWord q o w) :
    onMirror n b s = ((s.heard n b).gathered n g).wordMirrored q o w := by
  have touched : Touches [.lanes] [] s ((s.heard n b).gathered n g) := (heard_touch s n b).trans (gathered_touch _ n g)
  have same : ((s.heard n b).gathered n g).isTwin = s.isTwin := touched.isTwin
  have role : ((s.heard n b).gathered n g).twinRole = s.twinRole := touched.f (by simp)
  have partner : ((s.heard n b).gathered n g).twin = s.twin := touched.1 .twin (by simp)
  rw [onMirror_good up good kind tree first last single, whole,
    loadMirror_word (same.trans twin) (by rw [role]; exact standby) (by rw [partner]; exact unseen) place seq]

/-- Settles O16: MULTICAST, MIRROR, EVENT and LIFE segments, each kind by what a node does with a good segment of it. -/
theorem reportsAndImages : Obligations.ReportsAndImages := by
  unfold Obligations.ReportsAndImages
  intro n out b g s on up good
  refine ⟨fun kind apart routed room => ?_, fun kind covered alone own mate stages member bare pend idle long positive fits room => ?_,
    fun o w q kind tree first last single twin standby unseen place seq whole => ?_, fun kind standby fromChild tree way room => ?_,
    fun u kind active only here => ?_, fun kind standby fromChild tree way room => ?_, fun u kind active only here => ?_⟩
  · exact ⟨_, runEvent_of_eq on rfl, multicast_onward up good kind apart routed room⟩
  · have heard := heard_touch s n b
    obtain ⟨id, len, total, touched⟩ := takeBlock_first (s := s.heard n b) stages member bare pend idle long positive fits room
    exact ⟨_, runEvent_of_eq on (multicast_here up good kind covered alone own mate), id, len, total,
      (heard.mono (by simp) (by simp)).trans (touched.mono (by simp) (by simp))⟩
  · rw [mirrorWord_eq] at whole
    obtain ⟨same, others⟩ := wordMirrored_word ((s.heard n b).gathered n g) q o w
    obtain ⟨number, age⟩ := wordMirrored_image ((s.heard n b).gathered n g) o w seq
    exact ⟨_, runEvent_of_eq on (mirror_loads up good kind tree first last single twin standby unseen (by omega) seq whole), same, others, number, age,
      (((heard_touch s n b).trans (gathered_touch _ n g)).mono (by simp) (by simp)).trans ((wordMirrored_touch _ q o w).mono (by simp) (by simp))⟩
  · obtain ⟨t, h, rest⟩ := report_up up good kind (.inl rfl) standby fromChild tree way room
    exact ⟨t, runEvent_of_eq on h, rest⟩
  · obtain ⟨t, h, rest⟩ := report_delivered up good kind (.inl rfl) active u only here
    exact ⟨t, runEvent_of_eq on h, rest⟩
  · obtain ⟨t, h, rest⟩ := report_up up good kind (.inr rfl) standby fromChild tree way room
    exact ⟨t, runEvent_of_eq on h, rest⟩
  · obtain ⟨t, h, rest⟩ := report_delivered up good kind (.inr rfl) active u only here
    exact ⟨t, runEvent_of_eq on h, rest⟩

end Sys2Proof.Machine
end

section
/-!
SUPPORT. What the QSPI port gives out (04 R132, R133): nothing that ends an event or a command writes it but a warm reset, which clears it.
One lemma per operation.
-/
namespace Sys2Proof.Machine
open Sys2Proof

@[simp] theorem ite_qspiOut (c : Prop) [Decidable c] (s t : State) :
    (if c then s else t).cmd.qspiOut = if c then s.cmd.qspiOut else t.cmd.qspiOut := apply_ite (fun u : State => u.cmd.qspiOut) _ _ _

@[simp] theorem ite_s_qspiOut (c : Prop) [Decidable c] (o q : Out) :
    (if c then o else q).s.cmd.qspiOut = if c then o.s.cmd.qspiOut else q.s.cmd.qspiOut := apply_ite (fun u : Out => u.s.cmd.qspiOut) _ _ _

@[simp] theorem State.each_qspiOut {α : Type} (s : State) (l : List α) (g : State → α → State)
    (keeps : ∀ s x, (g s x).cmd.qspiOut = s.cmd.qspiOut) : (s.each l g).cmd.qspiOut = s.cmd.qspiOut :=
  State.each_keeps (fun t => t.cmd.qspiOut = s.cmd.qspiOut) l g (fun t x h => (keeps t x).trans h) s rfl

@[simp] theorem foldl_qspiOut {α : Type} (s : State) (l : List α) (g : State → α → State)
    (keeps : ∀ s x, (g s x).cmd.qspiOut = s.cmd.qspiOut) : (l.foldl g s).cmd.qspiOut = s.cmd.qspiOut := s.each_qspiOut l g keeps

@[simp] theorem State.when_qspiOut (s : State) (c : Bool) (g : State → State) (keeps : ∀ s, (g s).cmd.qspiOut = s.cmd.qspiOut) :
    (s.when c g).cmd.qspiOut = s.cmd.qspiOut := by
  unfold State.when
  split
  · exact keeps s
  · rfl

@[simp] theorem ok_qspiOut (s : State) (b : List Byte) : (ok s b).s.cmd.qspiOut = s.cmd.qspiOut := rfl
@[simp] theorem refuse_qspiOut (s : State) (n : Nat) (b : List Byte) : (refuse s n b).s.cmd.qspiOut = s.cmd.qspiOut := rfl
@[simp] theorem holding_qspiOut (s : State) : (holding s).s.cmd.qspiOut = s.cmd.qspiOut := rfl
@[simp] theorem accepted_qspiOut (s : State) : (accepted s).s.cmd.qspiOut = s.cmd.qspiOut := rfl
@[simp] theorem acceptedDone_qspiOut (s : State) : (acceptedDone s).s.cmd.qspiOut = s.cmd.qspiOut := rfl

@[simp] theorem withHandle_qspiOut (ty : Nat) (g : Nat → Packet → State → Out) (p : Packet) (s : State)
    (keeps : ∀ n p s, (g n p s).s.cmd.qspiOut = s.cmd.qspiOut) : (withHandle ty g p s).s.cmd.qspiOut = s.cmd.qspiOut := by
  unfold withHandle
  split
  · exact keeps _ _ _
  · rfl

/-- The QSPI port gives out in one state what it does in another. -/
def QspiKept (s t : State) : Prop := t.cmd.qspiOut = s.cmd.qspiOut

namespace QspiKept
variable {s t u : State}

theorem refl (s : State) : QspiKept s s := rfl
theorem of_eq (h : QspiKept s t) (e : u.cmd.qspiOut = t.cmd.qspiOut) : QspiKept s u := e.trans h

theorem ite {c : Prop} [Decidable c] (h : QspiKept s t) (k : QspiKept s u) : QspiKept s (if c then t else u) := by
  split
  · exact h
  · exact k

theorem update (h : QspiKept s t) {node safe} : QspiKept s { t with node := node, safe := safe } := h
theorem setF (h : QspiKept s t) (x : Fld) (v : Nat) : QspiKept s (t.setF x v) := h.of_eq (by simp)

theorem when (h : QspiKept s t) (c : Bool) {g : State → State} (hg : ∀ t, QspiKept s t → QspiKept s (g t)) :
    QspiKept s (t.when c g) := ite (hg t h) h

end QspiKept

/-! Lanes, trend streams and replies. -/

@[simp] theorem State.watchTrends_qspiOut (s : State) : s.watchTrends.cmd.qspiOut = s.cmd.qspiOut := by simp [State.watchTrends, State.watchTrend]
@[simp] theorem State.noteError_qspiOut (s : State) (c m line outcome : Nat) :
    (s.noteError c m line outcome).cmd.qspiOut = s.cmd.qspiOut := by simp [State.noteError]

@[simp] theorem State.readRecorder_qspiOut (s : State) (a n : Nat) : (s.readRecorder a n).1.cmd.qspiOut = s.cmd.qspiOut := by
  simp [State.readRecorder]
  split <;> simp

@[simp] theorem State.toCore_qspiOut (s : State) (core : Nat) (bytes : List Byte) :
    (s.toCore core bytes).cmd.qspiOut = s.cmd.qspiOut := by simp [State.toCore]
@[simp] theorem State.raiseIf_qspiOut (s : State) (c : Bool) (src : Nat) : (s.raiseIf c src).cmd.qspiOut = s.cmd.qspiOut := by simp [State.raiseIf]
@[simp] theorem State.queueTx_qspiOut (s : State) (n : Nat) (t : TxItem) :
    (s.queueTx n t).cmd.qspiOut = s.cmd.qspiOut := by simp [State.queueTx, State.dropSegment]

@[simp] theorem State.sendHost_qspiOut (s : State) (port mac : Nat) (prio : Nat) (segs : List (List Byte)) (bad : Bool) :
    (s.sendHost port mac prio segs bad).cmd.qspiOut = s.cmd.qspiOut := by
  simp [State.sendHost]
  split <;> simp

@[simp] theorem State.sendMessage_qspiOut (s : State) (n kind cls dest : Nat) (mcast : Bool) (data : List Byte) (bad : Bool) :
    (s.sendMessage n kind cls dest mcast data bad).cmd.qspiOut = s.cmd.qspiOut := by simp [State.sendMessage]

@[simp] theorem State.deliverTo_qspiOut (s : State) (kind : Nat) (sub : Subscriber) (payload : List Byte) (bad : Bool) :
    (s.deliverTo kind sub payload bad).cmd.qspiOut = s.cmd.qspiOut := by
  unfold State.deliverTo
  dsimp only
  repeat' split
  all_goals simp

@[simp] theorem State.sendBlocks_qspiOut (s : State) (fuel : Nat) (n : Nat) : (s.sendBlocks fuel n).cmd.qspiOut = s.cmd.qspiOut := by
  induction fuel generalizing s with
  | zero => rfl
  | succ fuel ih =>
    unfold State.sendBlocks
    dsimp only
    split
    · rfl
    · repeat' split
      all_goals simp [ih]

@[simp] theorem State.trendPump_qspiOut (s : State) : s.trendPump.cmd.qspiOut = s.cmd.qspiOut := by simp [State.trendPump]

@[simp] theorem State.deliver_qspiOut (s : State) (source : BitVec 16) (key cls : Nat) (bytes : List Byte) :
    (s.deliver source key cls bytes).cmd.qspiOut = s.cmd.qspiOut := by
  simp [State.deliver]
  split <;> simp

@[simp] theorem State.routeReply_qspiOut (s : State) (p : Packet) (bytes : List Byte) : (s.routeReply p bytes).cmd.qspiOut = s.cmd.qspiOut := by
  simp [State.routeReply]
  split <;> simp

@[simp] theorem State.reply_qspiOut (s : State) (op : Nat) (p : Packet) (final : Bool) (status : Nat) (payload : List Byte) :
    (s.reply op p final status payload).cmd.qspiOut = s.cmd.qspiOut := by simp [State.reply]
@[simp] theorem State.release_qspiOut (s : State) (op : Nat) (p : Packet) (status : Nat) (payload : List Byte) :
    (s.release op p status payload).cmd.qspiOut = s.cmd.qspiOut := by simp [State.release]

@[simp] theorem State.trendLeft_qspiOut (s : State) (payload : List Byte) : (s.trendLeft payload).cmd.qspiOut = s.cmd.qspiOut := by
  simp [State.trendLeft]
  split <;> simp

@[simp] theorem State.laneTo_qspiOut (s : State) (n st : Nat) :
    (s.laneTo n st).cmd.qspiOut = s.cmd.qspiOut := by simp [State.laneTo, State.trendDropped, State.endTest]

@[simp] theorem State.endSurvey_qspiOut (s : State) : s.endSurvey.cmd.qspiOut = s.cmd.qspiOut := by
  simp [State.endSurvey]
  split <;> simp

/-! Reports of the fault hub. -/

@[simp] theorem State.addToSet_qspiOut (s : State) (base : Nat → Nat) (n : Nat) :
    (s.addToSet base n).cmd.qspiOut = s.cmd.qspiOut := by simp [State.addToSet]
@[simp] theorem State.reachSev_qspiOut (s : State) (v : Nat) : (s.reachSev v).cmd.qspiOut = s.cmd.qspiOut := by simp [State.reachSev]
@[simp] theorem State.setFlow_qspiOut (s : State) (f : Nat) (l : List Operand) :
    (s.setFlow f l).cmd.qspiOut = s.cmd.qspiOut := by simp [State.setFlow]

@[simp] theorem State.postFlow_qspiOut (s : State) (f : Nat) (v : Word) : (s.postFlow f v).1.cmd.qspiOut = s.cmd.qspiOut := by
  simp [State.postFlow]
  split <;> simp

@[simp] theorem State.flowDrop_qspiOut (s : State) (f : Nat) : (s.flowDrop f).cmd.qspiOut = s.cmd.qspiOut := by simp [State.flowDrop]

@[simp] theorem State.postFlowIndex_qspiOut (s : State) (f : Nat) (v : Word) : (s.postFlowIndex f v).1.cmd.qspiOut = s.cmd.qspiOut := by
  have kept := State.postFlow_qspiOut s f v
  unfold State.postFlowIndex
  split
  · rfl
  · split <;> simp_all

@[simp] theorem State.eventDrop_qspiOut (s : State) : s.eventDrop.cmd.qspiOut = s.cmd.qspiOut := by simp [State.eventDrop]
@[simp] theorem State.sendSeg_qspiOut (s : State) (n kind cls dest : Nat) (payload : List Byte) :
    (s.sendSeg n kind cls dest payload).cmd.qspiOut = s.cmd.qspiOut := by simp [State.sendSeg]

@[simp] theorem State.report_qspiOut (s : State) (kind : Nat) (payload : List Byte) : (s.report kind payload).cmd.qspiOut = s.cmd.qspiOut := by
  simp [State.report]
  split <;> simp

@[simp] theorem State.event_qspiOut (s : State) (src flags rec mcnt : Nat) :
    (s.event src flags rec mcnt).cmd.qspiOut = s.cmd.qspiOut := by simp [State.event]

/-! Channels, node states and causes of demand. -/

@[simp] theorem State.checkSafeStopEnd_qspiOut (s : State) : s.checkSafeStopEnd.cmd.qspiOut = s.cmd.qspiOut := by simp [State.checkSafeStopEnd]
@[simp] theorem State.endSafeStop_qspiOut (s : State) : s.endSafeStop.cmd.qspiOut = s.cmd.qspiOut := by simp [State.endSafeStop]
@[simp] theorem State.pairOff_qspiOut (s : State) (p : Nat) : (s.pairOff p).cmd.qspiOut = s.cmd.qspiOut := by simp [State.pairOff]
@[simp] theorem State.haltChan_qspiOut (s : State) (p : Nat) : (s.haltChan p).cmd.qspiOut = s.cmd.qspiOut := by simp [State.haltChan]
@[simp] theorem State.finalReply_qspiOut (s : State) (op : Nat) (p : Packet) (status : Nat) (payload : List Byte) :
    (s.finalReply op p status payload).cmd.qspiOut = s.cmd.qspiOut := by simp [State.finalReply]

@[simp] theorem State.dropChan_qspiOut (s : State) (p : Nat) : (s.dropChan p).cmd.qspiOut = s.cmd.qspiOut := by
  simp [State.dropChan]
  split <;> simp

@[simp] theorem State.applyForces_qspiOut (s : State) :
    s.applyForces.cmd.qspiOut = s.cmd.qspiOut := by simp [State.applyForces, State.failedFlags, State.dropPair]
@[simp] theorem State.go_qspiOut (s : State) (st : Nat) :
    (s.go st).cmd.qspiOut = s.cmd.qspiOut := by simp [State.go, State.yarrowSafe, State.discardCarry, State.setAcc, State.loadTick]
theorem QspiKept.go {s t : State} (h : QspiKept s t) (c : Nat) : QspiKept s (t.go c) := h.of_eq (State.go_qspiOut t c)
theorem QspiKept.applyForces {s t : State} (h : QspiKept s t) : QspiKept s t.applyForces := h.of_eq (State.applyForces_qspiOut t)

theorem QspiKept.obeyLevel (s : State) : QspiKept s s.obeyLevel := by
  have shown (l g : Nat) : QspiKept s ((s.checkSafeStopEnd.setF F.SAFE_CAUSE_LEVEL l).setF F.SAFE_STAT_SGR g) :=
    QspiKept.setF (QspiKept.setF (State.checkSafeStopEnd_qspiOut s) _ _) _ _
  have stopped {c : Prop} [Decidable c] (l g : Nat) (b : Bool) :=
    QspiKept.ite (c := c) ((shown l g).when b fun _ h => h.of_eq (State.endSafeStop_qspiOut _)) (shown l g)
  exact ((QspiKept.ite (stopped _ _ _).update (stopped _ _ _).update).when _ fun _ h => h.go _).applyForces

@[simp] theorem State.obeyLevel_qspiOut (s : State) : s.obeyLevel.cmd.qspiOut = s.cmd.qspiOut := QspiKept.obeyLevel s
@[simp] theorem State.setCause_qspiOut (s : State) (c lvl : Nat) : (s.setCause c lvl).cmd.qspiOut = s.cmd.qspiOut := by simp [State.setCause]
theorem QspiKept.setCause {s t : State} (h : QspiKept s t) (c k : Nat) : QspiKept s (t.setCause c k) := h.of_eq (State.setCause_qspiOut t c k)

theorem QspiKept.s3Action (s : State) (act : Nat) : QspiKept s (s.s3Action act) := by
  have acted {c : Prop} [Decidable c] {safe} :
      QspiKept s (if c then { s.setF F.FHUB_REC_S3_ACTED 1 with safe := safe } else s.setF F.FHUB_REC_S3_ACTED 1) :=
    QspiKept.ite ((QspiKept.refl s).setF _ _).update ((QspiKept.refl s).setF _ _)
  exact QspiKept.ite (QspiKept.ite ((acted.setCause _ _).go _) (acted.setCause _ _).update) (QspiKept.ite (acted.setCause _ _) acted)

@[simp] theorem State.s3Action_qspiOut (s : State) (act : Nat) : (s.s3Action act).cmd.qspiOut = s.cmd.qspiOut :=
  QspiKept.s3Action s act
@[simp] theorem State.evalRaises_qspiOut (s : State) :
    s.evalRaises.cmd.qspiOut = s.cmd.qspiOut := by simp [State.evalRaises, State.reportRaise, State.mergeRaise, State.openRecord, State.clearSet]

@[simp] theorem State.settle_qspiOut (n : Nat) (s : State) : (State.settle n s).cmd.qspiOut = s.cmd.qspiOut := by
  induction n generalizing s with
  | zero => rfl
  | succ n ih =>
    rw [State.settle]
    split
    · rfl
    · exact (ih _).trans (State.evalRaises_qspiOut s)

@[simp] theorem State.closeRecord_qspiOut (s : State) (warm : Bool) : (s.closeRecord warm).cmd.qspiOut = s.cmd.qspiOut := by simp [State.closeRecord]
@[simp] theorem State.resolveRecord_qspiOut (s : State) :
    s.resolveRecord.cmd.qspiOut = s.cmd.qspiOut := by simp [State.resolveRecord, State.releaseOut]
@[simp] theorem State.goWaitCredit_qspiOut (s : State) : s.goWaitCredit.cmd.qspiOut = s.cmd.qspiOut := by simp [State.goWaitCredit]
@[simp] theorem State.finish_qspiOut (s : State) :
    s.finish.cmd.qspiOut = s.cmd.qspiOut := by simp [State.finish, State.driveOutputs, State.lockOut, State.leaveBlocked]

/-! Handles, sessions and a warm reset. -/

theorem State.nextCmd_qspiOut (s : State) {u : (Nat × Packet) × State} (h : s.nextCmd = some u) : u.2.cmd.qspiOut = s.cmd.qspiOut := by
  unfold State.nextCmd at h
  split at h <;> cases h <;> rfl

@[simp] theorem State.setPool_qspiOut (s : State) (ty : Nat) (p : Pool) : (s.setPool ty p).cmd.qspiOut = s.cmd.qspiOut := by simp [State.setPool]
@[simp] theorem State.freeIndex_qspiOut (s : State) (ty i : Nat) : (s.freeIndex ty i).cmd.qspiOut = s.cmd.qspiOut := by simp [State.freeIndex]
@[simp] theorem State.dropIndex_qspiOut (s : State) (ty i : Nat) : (s.dropIndex ty i).cmd.qspiOut = s.cmd.qspiOut := by simp [State.dropIndex]

@[simp] theorem State.dropObjects_qspiOut (s : State) : s.dropObjects.cmd.qspiOut = s.cmd.qspiOut := by
  unfold State.dropObjects
  refine State.each_qspiOut _ _ _ fun s ty => State.each_qspiOut _ _ _ fun s i => ?_
  split
  · split <;> simp
  · rfl

@[simp] theorem State.showFree_qspiOut (s : State) : s.showFree.cmd.qspiOut = s.cmd.qspiOut := by simp [State.showFree]
@[simp] theorem State.finAct_qspiOut (s : State) : s.finAct.cmd.qspiOut = s.cmd.qspiOut := by simp [State.finAct]
@[simp] theorem State.goSelftest_qspiOut (s : State) : s.goSelftest.cmd.qspiOut = s.cmd.qspiOut := by simp [State.goSelftest, State.xlinkCfg]
@[simp] theorem State.showRecord_qspiOut (s : State) : s.showRecord.cmd.qspiOut = s.cmd.qspiOut := by simp [State.showRecord]
@[simp] theorem State.warmReset_qspiOut (s : State) : s.warmReset.cmd.qspiOut = [] := by simp [State.warmReset]
@[simp] theorem State.setIdent_qspiOut (s : State) (v : Nat) : (s.setIdent v).cmd.qspiOut = s.cmd.qspiOut := by simp [State.setIdent]
@[simp] theorem State.endSession_qspiOut (s : State) (i : Nat) : (s.endSession i).cmd.qspiOut = s.cmd.qspiOut := by simp [State.endSession]

theorem State.takeIndex_qspiOut (s : State) (ty : Nat) (source : BitVec 16) {u : Nat × State} (h : s.takeIndex ty source = some u) :
    u.2.cmd.qspiOut = s.cmd.qspiOut := by
  unfold State.takeIndex at h
  split at h <;> cases h
  simp

@[simp] theorem State.free_qspiOut (s : State) : s.free.2.cmd.qspiOut = s.cmd.qspiOut := by simp [State.free]

@[simp] theorem opSessionOpen_qspiOut (p : Packet) (s : State) : (opSessionOpen p s).s.cmd.qspiOut = s.cmd.qspiOut := by
  unfold opSessionOpen
  dsimp only
  split
  · rfl
  · split
    · rfl
    · split
      · rfl
      · split
        · split <;> simp
        · rename_i taken
          exact (State.takeIndex_qspiOut _ _ _ taken).trans (by split <;> simp)

/-! Lines of memory. -/

@[simp] theorem State.setValid_qspiOut (s : State) (k : Nat) (v : Bool) : (s.setValid k v).cmd.qspiOut = s.cmd.qspiOut := by simp [State.setValid]

@[simp] theorem State.memWrite_qspiOut (s : State) (a : Nat) (bs : List Byte) : (s.memWrite a bs).cmd.qspiOut = s.cmd.qspiOut := by
  induction bs generalizing s a with
  | nil => rfl
  | cons b bs ih => exact (ih _ _).trans (by simp)

@[simp] theorem State.putLine_qspiOut (s : State) (k : Nat) (data : List Byte) :
    (s.putLine k data).cmd.qspiOut = s.cmd.qspiOut := by simp [State.putLine]

theorem State.remapLine_qspiOut (s : State) (c m line : Nat) (data : List Byte) {u : Nat × State} (h : s.remapLine c m line data = some u) :
    u.2.cmd.qspiOut = s.cmd.qspiOut := by
  unfold State.remapLine at h
  dsimp only at h
  split at h
  · cases h
  · cases h
    split <;> simp

@[simp] theorem opMgrdRemapSet_qspiOut (p : Packet) (s : State) : (opMgrdRemapSet p s).s.cmd.qspiOut = s.cmd.qspiOut := by
  unfold opMgrdRemapSet
  dsimp only
  generalize s.remapOf _ _ _ = had
  split
  · rfl
  split
  · rfl
  split
  · split <;> simp
  split
  · rfl
  split
  · rfl
  rename_i i u remapped
  have kept := State.remapLine_qspiOut _ _ _ _ _ remapped
  split <;> simpa using kept

@[simp] theorem opHandleInfo_qspiOut (p : Packet) (s : State) : (opHandleInfo p s).s.cmd.qspiOut = s.cmd.qspiOut := by
  unfold opHandleInfo
  dsimp only
  repeat' split
  all_goals simp

/-! Objects that are freed. -/

@[simp] theorem State.leaveOut_qspiOut (s : State) (n : Nat) : (s.leaveOut n).cmd.qspiOut = s.cmd.qspiOut := by simp [State.leaveOut]
@[simp] theorem State.loopRegs_qspiOut (s : State) : s.loopRegs.cmd.qspiOut = s.cmd.qspiOut := by simp [State.loopRegs]
@[simp] theorem State.loopUse_qspiOut (s : State) : s.loopUse.cmd.qspiOut = s.cmd.qspiOut := by simp [State.loopUse]
@[simp] theorem State.freeLoop_qspiOut (s : State) (n : Nat) : (s.freeLoop n).cmd.qspiOut = s.cmd.qspiOut := by simp [State.freeLoop]
@[simp] theorem State.freeChan_qspiOut (s : State) (c : Nat) : (s.freeChan c).cmd.qspiOut = s.cmd.qspiOut := by simp [State.freeChan]
@[simp] theorem State.freeSeq_qspiOut (s : State) (q : Nat) : (s.freeSeq q).cmd.qspiOut = s.cmd.qspiOut := by simp [State.freeSeq]
@[simp] theorem State.freeCapture_qspiOut (s : State) (n : Nat) : (s.freeCapture n).cmd.qspiOut = s.cmd.qspiOut := by simp [State.freeCapture]
@[simp] theorem State.freeTrend_qspiOut (s : State) (n : Nat) : (s.freeTrend n).cmd.qspiOut = s.cmd.qspiOut := by simp [State.freeTrend]
@[simp] theorem State.freeThread_qspiOut (s : State) (n : Nat) : (s.freeThread n).cmd.qspiOut = s.cmd.qspiOut := by simp [State.freeThread]
@[simp] theorem State.freeFlow_qspiOut (s : State) (f : Nat) : (s.freeFlow f).cmd.qspiOut = s.cmd.qspiOut := by simp [State.freeFlow]
@[simp] theorem State.freeBox_qspiOut (s : State) (m : Nat) : (s.freeBox m).cmd.qspiOut = s.cmd.qspiOut := by simp [State.freeBox]

@[simp] theorem State.freeObject_qspiOut (s : State) (ty i : Nat) : (s.freeObject ty i).cmd.qspiOut = s.cmd.qspiOut := by
  simp [State.freeObject]
  split <;> simp

/-! Registers. -/

@[simp] theorem State.afterRead_qspiOut (s : State) (a : Nat) : (s.afterRead a).cmd.qspiOut = s.cmd.qspiOut := by
  unfold State.afterRead
  dsimp only
  repeat' split
  all_goals simp

@[simp] theorem State.readReg_qspiOut (s : State) (a : Nat) : (s.readReg a).2.cmd.qspiOut = s.cmd.qspiOut := by simp [State.readReg]

@[simp] theorem State.readRegs_qspiOut (s : State) (a : Nat) (n : Nat) : (s.readRegs a n).2.cmd.qspiOut = s.cmd.qspiOut := by
  induction n generalizing s a with
  | zero => rfl
  | succ n ih =>
    unfold State.readRegs
    simp [ih]

@[simp] theorem State.shadowWrite_qspiOut (s : State) (p : Nat) (period duty : Option Nat) :
    (s.shadowWrite p period duty).cmd.qspiOut = s.cmd.qspiOut := by
  unfold State.shadowWrite
  dsimp only
  repeat' split
  all_goals simp

@[simp] theorem State.allocAnswer_qspiOut (s : State) (port : Fin 6) (h : Word) :
    (s.allocAnswer port h).cmd.qspiOut = s.cmd.qspiOut := by simp [State.allocAnswer]

@[simp] theorem State.allocAt_qspiOut (s : State) (port : Fin 6) (ty : BitVec 6) : (s.allocAt port ty).cmd.qspiOut = s.cmd.qspiOut := by
  unfold State.allocAt
  dsimp only
  split
  · rfl
  · split
    · simp
    · rename_i taken
      have kept := State.takeIndex_qspiOut _ _ _ taken
      simpa using kept

@[simp] theorem onCmdAllocReq_qspiOut (requests : List (Fin 6 × BitVec 6)) (s : State) :
    (onCmdAllocReq requests s).cmd.qspiOut = s.cmd.qspiOut := by simp [onCmdAllocReq]
@[simp] theorem State.commitPair_qspiOut (s : State) (p : Nat) : (s.commitPair p).cmd.qspiOut = s.cmd.qspiOut := by simp [State.commitPair]
@[simp] theorem onSeqEn_qspiOut (en : Bool) (s : State) : (onSeqEn en s).cmd.qspiOut = s.cmd.qspiOut := by simp [onSeqEn]
@[simp] theorem State.setAvs_qspiOut (s : State) (en : Bool) : (s.setAvs en).cmd.qspiOut = s.cmd.qspiOut := by simp [State.setAvs]
@[simp] theorem State.switchFlags_qspiOut (s : State) (n : Nat) : (s.switchFlags n).cmd.qspiOut = s.cmd.qspiOut := by simp [State.switchFlags]
@[simp] theorem State.showAbsent_qspiOut (s : State) : s.showAbsent.cmd.qspiOut = s.cmd.qspiOut := by simp [State.showAbsent]
@[simp] theorem State.lowerLane_qspiOut (s : State) (n st : Nat) :
    (s.lowerLane n st).cmd.qspiOut = s.cmd.qspiOut := by simp [State.lowerLane, State.dropPresent]
@[simp] theorem State.newMac_qspiOut (s : State) : s.newMac.cmd.qspiOut = s.cmd.qspiOut := by simp [State.newMac, State.hostUp]
@[simp] theorem State.raiseLane_qspiOut (s : State) (n : Nat) : (s.raiseLane n).cmd.qspiOut = s.cmd.qspiOut := by simp [State.raiseLane]
@[simp] theorem State.newMode_qspiOut (s : State) (n old : Nat) : (s.newMode n old).cmd.qspiOut = s.cmd.qspiOut := by simp [State.newMode]

@[simp] theorem State.fallBack_qspiOut (s : State) (n : Nat) : (s.fallBack n).cmd.qspiOut = s.cmd.qspiOut := by
  simp [State.fallBack]
  split <;> simp

@[simp] theorem State.restartLane_qspiOut (s : State) (n : Nat) : (s.restartLane n).cmd.qspiOut = s.cmd.qspiOut := by simp [State.restartLane]
@[simp] theorem State.newRate_qspiOut (s : State) (n rate : Nat) : (s.newRate n rate).cmd.qspiOut = s.cmd.qspiOut := by simp [State.newRate]

@[simp] theorem State.boxSend_qspiOut (s : State) (m len : Nat) : (s.boxSend m len).1.cmd.qspiOut = s.cmd.qspiOut := by
  unfold State.boxSend
  dsimp only
  repeat' split
  all_goals simp

@[simp] theorem State.afterWrite_qspiOut (s : State) (a old new v mask : Nat) : (s.afterWrite a old new v mask).cmd.qspiOut = s.cmd.qspiOut := by
  have kept {t : State} (e : t.cmd.qspiOut = s.cmd.qspiOut) : QspiKept s t := e
  have lane : QspiKept s (match idxOf a (A.LANE_CFG 0) 0x400 32 with
      | some n => if old % 4 ≠ new % 4 then s.newMode n (old % 4) else if bits old 5 4 ≠ bits new 5 4 then s.newRate n (bits new 5 4) else s
      | none => match idxOf a (A.FBUS_M_STAT 0) 0x80 64 with
        | some m => if bit v 14 then (s.boxSend m (new % 128)).1 else s
        | none => s) := by
    split
    · exact kept (by simp)
    split
    · exact kept (by simp)
    · exact kept rfl
  exact QspiKept.ite (.ite (.refl s) (kept (by simp))) (.ite (kept (by simp)) (.ite (kept (by simp)) (.ite (kept (by simp))
    (.ite (.ite (.refl s) (kept (by simp))) (.ite (.ite (kept rfl) (kept (by simp))) (.ite (kept rfl) (.ite (kept (by simp))
      (.ite (kept (by simp)) (.ite (kept (by simp)) (.ite (kept (by simp)) (.ite (kept (by simp)) lane)))))))))))

@[simp] theorem State.writeReg_qspiOut (s : State) (interp : Bool) (a mask value : Nat) :
    (s.writeReg interp a mask value).1.cmd.qspiOut = s.cmd.qspiOut := by
  unfold State.writeReg
  dsimp only
  repeat' split
  all_goals simp

@[simp] theorem State.writeRegs_qspiOut (s : State) (interp : Bool) (a : Nat) (vs : List Nat) (k : Nat) :
    (s.writeRegs interp a vs k).1.cmd.qspiOut = s.cmd.qspiOut := by
  induction vs generalizing s a k with
  | nil => rfl
  | cons v vs ih =>
    unfold State.writeRegs
    dsimp only
    split <;> simp [ih]

/-! Reads and writes of memory. -/

@[simp] theorem State.sayCorrected_qspiOut (s : State) : s.sayCorrected.cmd.qspiOut = s.cmd.qspiOut := by
  simp [State.sayCorrected]
  split <;> simp

@[simp] theorem State.remapFull_qspiOut (s : State) (c : Nat) : (s.remapFull c).cmd.qspiOut = s.cmd.qspiOut := by simp [State.remapFull]

@[simp] theorem State.settleLine_qspiOut (s : State) (c m line outcome : Nat) (data : List Byte) :
    (s.settleLine c m line outcome data).cmd.qspiOut = s.cmd.qspiOut := by
  unfold State.settleLine
  extract_lets a b
  have counted : b.cmd.qspiOut = s.cmd.qspiOut := by simp [b, a]
  dsimp only
  split
  · simpa using counted
  · split
    · rename_i h
      exact (State.remapLine_qspiOut _ _ _ _ _ h).trans (by simpa using counted)
    · simpa using counted

@[simp] theorem State.uncorrectable_qspiOut (s : State) (c m line : Nat) :
    (s.uncorrectable c m line).cmd.qspiOut = s.cmd.qspiOut := by simp [State.uncorrectable]

@[simp] theorem State.checkedLine_qspiOut (s : State) (c m line : Nat) : (s.checkedLine c m line).1.cmd.qspiOut = s.cmd.qspiOut := by
  unfold State.checkedLine
  dsimp only
  repeat' split
  all_goals simp

@[simp] theorem State.pend_qspiOut (s : State) (line : Nat) (scrub : Bool) : (s.pend line scrub).cmd.qspiOut = s.cmd.qspiOut := by simp [State.pend]

@[simp] theorem State.readLines_qspiOut (s : State) (c : Nat) (l : List Nat) : (s.readLines c l).1.cmd.qspiOut = s.cmd.qspiOut := by
  induction l generalizing s with
  | nil => rfl
  | cons line rest ih =>
    have kept := State.checkedLine_qspiOut s c 0 line
    unfold State.readLines
    split
    · rfl
    · split <;> rename_i h <;> rw [h] at kept
      · have kept' := ih ‹_›
        split
        · rename_i g
          rw [g] at kept'
          exact kept'.trans kept
        · exact kept'.trans kept
      · exact kept
      · simpa using kept

@[simp] theorem State.waitLine_qspiOut (s : State) (line op : Nat) (p : Packet) :
    (s.waitLine line op p).cmd.qspiOut = s.cmd.qspiOut := by simp [State.waitLine]

@[simp] theorem opMemRead_qspiOut (p : Packet) (s : State) : (opMemRead p s).s.cmd.qspiOut = s.cmd.qspiOut := by
  unfold opMemRead
  dsimp only
  split
  · rfl
  split
  · split <;> simp
  · have kept := State.readLines_qspiOut s ((classOf (numAt p.params 0 4)).getD 0)
      (linesOf ((classOf (numAt p.params 0 4)).getD 0) (numAt p.params 0 4) (numAt p.params 4 2))
    split <;> rename_i read <;> rw [read] at kept <;> simpa using kept

@[simp] theorem State.putBytes_qspiOut (s : State) (k o : Nat) (bs : List Byte) :
    (s.putBytes k o bs).cmd.qspiOut = s.cmd.qspiOut := by simp [State.putBytes]

@[simp] theorem State.guardWrite_qspiOut (s : State) (loader : Bool) (a : Nat) (bs : List Byte) :
    (s.guardWrite loader a bs).cmd.qspiOut = s.cmd.qspiOut := by
  simp [State.guardWrite]
  split <;> simp

@[simp] theorem opMemWrite_qspiOut (p : Packet) (s : State) : (opMemWrite p s).s.cmd.qspiOut = s.cmd.qspiOut := by
  simp [opMemWrite]
  split <;> simp

/-! Objects that are created, measurement and the recorder. -/

@[simp] theorem createObj_qspiOut (ty : Nat) (valid : Bool) (fits : State → Bool) (place : Nat → State → State) (p : Packet) (s : State)
    (h : ∀ i s, (place i s).cmd.qspiOut = s.cmd.qspiOut) : (createObj ty valid fits place p s).s.cmd.qspiOut = s.cmd.qspiOut := by
  unfold createObj
  split
  · rfl
  · split
    · rfl
    · rename_i taken
      split
      · exact (h _ _).trans (State.takeIndex_qspiOut _ _ _ taken)
      · rfl

@[simp] theorem State.dispatchOn_qspiOut (s : State) (n t : Nat) (work : MeasWork) : (s.dispatchOn n t work).cmd.qspiOut = s.cmd.qspiOut := by
  simp [State.dispatchOn]
  split <;> simp

@[simp] theorem State.dispatch_qspiOut (s : State) (t : Nat) : (s.dispatch t).cmd.qspiOut = s.cmd.qspiOut := by
  refine State.each_qspiOut _ _ _ fun s n => ?_
  split <;> simp

@[simp] theorem State.measAt_qspiOut (s : State) (t : Nat) : (s.measAt t).cmd.qspiOut = s.cmd.qspiOut := by simp [State.measAt, State.measSettle]
@[simp] theorem State.startRun_qspiOut (s : State) (q : Nat) (cmd : Option Packet) :
    (s.startRun q cmd).cmd.qspiOut = s.cmd.qspiOut := by simp [State.startRun]

@[simp] theorem opMeasSeqStart_qspiOut (q : Nat) (p : Packet) (s : State) : (opMeasSeqStart q p s).s.cmd.qspiOut = s.cmd.qspiOut := by
  simp [opMeasSeqStart]
  split <;> simp

@[simp] theorem State.reachTime_qspiOut (s : State) (t : Nat) : (s.reachTime t).cmd.qspiOut = s.cmd.qspiOut := by simp [State.reachTime]
@[simp] theorem State.reachPhase_qspiOut (s : State) (c : Nat) : (s.reachPhase c).cmd.qspiOut = s.cmd.qspiOut := by simp [State.reachPhase]
@[simp] theorem State.reachPclk_qspiOut (s : State) (t : Nat) : (s.reachPclk t).cmd.qspiOut = s.cmd.qspiOut := by simp [State.reachPclk]

@[simp] theorem State.takeTrigger_qspiOut (s : State) (q : Nat) : (s.takeTrigger q).cmd.qspiOut = s.cmd.qspiOut := by
  unfold State.takeTrigger
  dsimp only
  repeat' split
  all_goals simp

theorem State.inject_qspiOut (s : State) (x : Inject) {u : State} (h : s.inject x = some u) : u.cmd.qspiOut = s.cmd.qspiOut := by
  unfold State.inject at h
  dsimp only at h
  split at h <;> cases h
  simp

@[simp] theorem opMeasInject_qspiOut (p : Packet) (s : State) : (opMeasInject p s).s.cmd.qspiOut = s.cmd.qspiOut := by
  unfold opMeasInject
  dsimp only
  split
  · rfl
  · split
    · rename_i h
      exact State.inject_qspiOut _ _ h
    · rfl

@[simp] theorem opCaptureCreate_qspiOut (p : Packet) (s : State) : (opCaptureCreate p s).s.cmd.qspiOut = s.cmd.qspiOut := by
  simp [opCaptureCreate]
  split <;> simp

@[simp] theorem State.showCap_qspiOut (s : State) (n : Nat) : (s.showCap n).cmd.qspiOut = s.cmd.qspiOut := by simp [State.showCap]
@[simp] theorem State.capHeader_qspiOut (s : State) (n : Nat) (pg : RecPage) (no total : Nat) :
    (s.capHeader n pg no total).1.cmd.qspiOut = s.cmd.qspiOut := by simp [State.capHeader]

@[simp] theorem State.writeHeader_qspiOut (s : State) (n i : Nat) : (s.writeHeader n i).cmd.qspiOut = s.cmd.qspiOut := by
  simp [State.writeHeader]
  split <;> simp

@[simp] theorem State.endCapture_qspiOut (s : State) (n st : Nat) : (s.endCapture n st).cmd.qspiOut = s.cmd.qspiOut := by simp [State.endCapture]

@[simp] theorem State.triggerCap_qspiOut (s : State) (n cause trigId time tsub : Nat) :
    (s.triggerCap n cause trigId time tsub).cmd.qspiOut = s.cmd.qspiOut := by
  simp [State.triggerCap]
  split <;> simp

@[simp] theorem opTrendCreate_qspiOut (p : Packet) (s : State) : (opTrendCreate p s).s.cmd.qspiOut = s.cmd.qspiOut := by
  simp [opTrendCreate]
  split <;> simp

@[simp] theorem State.loseBlock_qspiOut (s : State) (n : Nat) : (s.loseBlock n).cmd.qspiOut = s.cmd.qspiOut := by
  simp [State.loseBlock]
  split <;> simp

/-! Faults, safety outputs and lifetime. -/

@[simp] theorem State.softResolve_qspiOut (s : State) (id : Nat) : (s.softResolve id).1.cmd.qspiOut = s.cmd.qspiOut := by
  unfold State.softResolve
  repeat' split
  all_goals simp

@[simp] theorem State.startSafeStop_qspiOut (s : State) (mask : Nat) :
    (s.startSafeStop mask).cmd.qspiOut = s.cmd.qspiOut := by simp [State.startSafeStop, State.stringSgr]
@[simp] theorem State.inputDemand_qspiOut (s : State) (n : Nat) : (s.inputDemand n).cmd.qspiOut = s.cmd.qspiOut := by simp [State.inputDemand]
@[simp] theorem State.evalInput_qspiOut (s : State) (n : Nat) :
    (s.evalInput n).cmd.qspiOut = s.cmd.qspiOut := by simp [State.evalInput, State.inputFlags]

@[simp] theorem opSafeCfgLoad_qspiOut (p : Packet) (s : State) : (opSafeCfgLoad p s).s.cmd.qspiOut = s.cmd.qspiOut := by
  simp [opSafeCfgLoad]
  split <;> simp

@[simp] theorem State.ownReset_qspiOut (s : State) (id : Nat) :
    (s.ownReset id).s.cmd.qspiOut = s.cmd.qspiOut := by simp [State.ownReset, State.acceptReset, State.clearCauses, State.closeWindow]

@[simp] theorem opSafeReset_qspiOut (p : Packet) (s : State) : (opSafeReset p s).s.cmd.qspiOut = s.cmd.qspiOut := by
  unfold opSafeReset
  dsimp only
  repeat' split
  all_goals simp

@[simp] theorem State.startFire_qspiOut (s : State) (n : Nat) (cmd : Option Packet) :
    (s.startFire n cmd).cmd.qspiOut = s.cmd.qspiOut := by simp [State.startFire]

@[simp] theorem opSafeBypass_qspiOut (p : Packet) (s : State) : (opSafeBypass p s).s.cmd.qspiOut = s.cmd.qspiOut := by
  simp [opSafeBypass]
  split <;> simp

@[simp] theorem State.updSwitchLife_qspiOut (s : State) (n : Nat) (g : SwitchLife → SwitchLife) :
    (s.updSwitchLife n g).cmd.qspiOut = s.cmd.qspiOut := by simp [State.updSwitchLife]
@[simp] theorem State.updCellLife_qspiOut (s : State) (c : Nat) (g : CellLife → CellLife) :
    (s.updCellLife c g).cmd.qspiOut = s.cmd.qspiOut := by simp [State.updCellLife]

@[simp] theorem opLifeBaseline_qspiOut (p : Packet) (s : State) : (opLifeBaseline p s).s.cmd.qspiOut = s.cmd.qspiOut := by
  unfold opLifeBaseline
  extract_lets mask fl a b _
  split
  · rfl
  have erased : a.cmd.qspiOut = s.cmd.qspiOut := by
    exact State.each_qspiOut _ _ _ fun s n => (State.switchFlags_qspiOut _ _).trans ((State.when_qspiOut _ _ _ fun s => by simp).trans (by simp))
  exact (State.when_qspiOut _ _ _ fun s => State.each_qspiOut _ _ _ fun s c => by simp).trans erased

/-! Lanes, modules and the tree. -/

@[simp] theorem opEqLoad_qspiOut (p : Packet) (s : State) : (opEqLoad p s).s.cmd.qspiOut = s.cmd.qspiOut := by
  simp [opEqLoad]
  split <;> simp

@[simp] theorem State.selectMux_qspiOut (s : State) (n : Nat) : (s.selectMux n).cmd.qspiOut = s.cmd.qspiOut := by simp [State.selectMux]

@[simp] theorem State.transferWith_qspiOut (s : State) (n : Nat) (p : Packet) (done : Nat → List Byte) :
    (s.transferWith n p done).s.cmd.qspiOut = s.cmd.qspiOut := by
  simp [State.transferWith]
  split <;> simp

@[simp] theorem State.fillAssign_qspiOut (s : State) (n : Nat) (l : List (List Byte)) : (s.fillAssign n l).cmd.qspiOut = s.cmd.qspiOut := by
  induction l generalizing s with
  | nil => simp [State.fillAssign]
  | cons b bs ih =>
    unfold State.fillAssign
    dsimp only
    split <;> simp [ih]

@[simp] theorem State.sendExtensions_qspiOut (s : State) :
    s.sendExtensions.cmd.qspiOut = s.cmd.qspiOut := by simp [State.sendExtensions, State.sendAssign]

@[simp] theorem State.nameLane_qspiOut (s : State) (ds : List UnitDef) (n : Nat) : (s.nameLane ds n).cmd.qspiOut = s.cmd.qspiOut := by
  simp [State.nameLane]
  split <;> simp

@[simp] theorem State.nameUnits_qspiOut (s : State) : s.nameUnits.cmd.qspiOut = s.cmd.qspiOut := by simp [State.nameUnits]

@[simp] theorem opTreeLoad_qspiOut (p : Packet) (s : State) : (opTreeLoad p s).s.cmd.qspiOut = s.cmd.qspiOut := by
  simp [opTreeLoad]
  split <;> simp

/-! Threads and flows. -/

@[simp] theorem State.unready_qspiOut (s : State) (n : Nat) : (s.unready n).cmd.qspiOut = s.cmd.qspiOut := by simp [State.unready]
@[simp] theorem State.discardHeld_qspiOut (s : State) (n : Nat) : (s.discardHeld n).1.cmd.qspiOut = s.cmd.qspiOut := by simp [State.discardHeld]
@[simp] theorem State.setPort_qspiOut (s : State) (n p : Nat) (l : List Operand) :
    (s.setPort n p l).cmd.qspiOut = s.cmd.qspiOut := by simp [State.setPort]

@[simp] theorem State.postPort_qspiOut (s : State) (n p : Nat) (v : Word) : (s.postPort n p v).1.cmd.qspiOut = s.cmd.qspiOut := by
  unfold State.postPort
  repeat' split
  all_goals simp

@[simp] theorem opOperandPost_qspiOut (p : Packet) (s : State) : (opOperandPost p s).s.cmd.qspiOut = s.cmd.qspiOut := by
  have flow := State.postFlow_qspiOut s (hIndex p.handle) (BitVec.ofNat 32 (numAt p.params 1 4))
  have thread := State.postPort_qspiOut s (hIndex p.handle) (numAt p.params 0 1) (BitVec.ofNat 32 (numAt p.params 1 4))
  unfold opOperandPost
  dsimp only
  repeat' split
  all_goals simp_all

@[simp] theorem State.flashPut_qspiOut (s : State) (a : Nat) (v : Byte) : (s.flashPut a v).cmd.qspiOut = s.cmd.qspiOut := by simp [State.flashPut]

@[simp] theorem State.flashPutAll_qspiOut (s : State) (a : Nat) (bs : List Byte) : (s.flashPutAll a bs).cmd.qspiOut = s.cmd.qspiOut := by
  induction bs generalizing s a with
  | nil => rfl
  | cons b bs ih => exact (ih _ _).trans (by simp)

/-! Copies of commands, class-0 slots and sessions. -/

theorem State.placeC0_qspiOut (s : State) (b : List Byte) {u : State × Nat} (h : s.placeC0 b = some u) : u.1.cmd.qspiOut = s.cmd.qspiOut := by
  unfold State.placeC0 at h
  dsimp only at h
  split at h
  · cases h
  · split at h
    · cases h
      rfl
    · split at h <;> cases h
      rfl

@[simp] theorem State.noteSlot_qspiOut (s : State) (b : List Byte) (tick : Nat) :
    (s.noteSlot b tick).cmd.qspiOut = s.cmd.qspiOut := by simp [State.noteSlot]

theorem State.originateC0_qspiOut (s : State) (b : List Byte) {u : State} (h : s.originateC0 b = some u) : u.cmd.qspiOut = s.cmd.qspiOut := by
  unfold State.originateC0 at h
  dsimp only at h
  split at h
  · split at h <;> cases h
    rfl
  · split at h
    · rename_i placed
      cases h
      simpa using State.placeC0_qspiOut _ _ placed
    · split at h <;> cases h
      rfl

/-- A copy of an MCAST command goes out on a lane, where there is one. -/
def State.copyOn (s : State) (op : Nat) (p : Packet) (n : Option Nat) : State :=
  match n with
  | some n => s.sendMessage n KIND.COMMAND (max 1 p.cls.toNat) p.target.toNat true (pktBytes op p)
  | none => s

theorem fanOut_eq (s : State) (op : Nat) (p : Packet) : s.fanOut op p =
    if !p.mcast || s.mateCopy p.lane p.target.toNat then s
    else if p.slot then { s with cmd.slots := putSlots s.cmd.slots (s.mcastUnits p.target.toNat) (pktBytes op p) }
    else
      let s := if s.mateCovered p.target.toNat then s.copyOn op p s.xLane else s
      if p.cls = 0 ∧ s.activeMeadow then (s.originateC0 (pktBytes op p)).getD s
      else s.each (s.mcastUnits p.target.toNat) (fun s u => s.copyOn op p (s.unitLane u)) := rfl

@[simp] theorem State.copyOn_qspiOut (s : State) (op : Nat) (p : Packet) (n : Option Nat) : (s.copyOn op p n).cmd.qspiOut = s.cmd.qspiOut := by
  unfold State.copyOn
  split <;> simp

@[simp] theorem State.fanOut_qspiOut (s : State) (op : Nat) (p : Packet) : (s.fanOut op p).cmd.qspiOut = s.cmd.qspiOut := by
  have mate : (if s.mateCovered p.target.toNat then s.copyOn op p s.xLane else s).cmd.qspiOut = s.cmd.qspiOut := by simp
  rw [fanOut_eq]
  dsimp only
  generalize (if s.mateCovered p.target.toNat then s.copyOn op p s.xLane else s) = u at mate ⊢
  split
  · rfl
  split
  · rfl
  split
  · cases placed : u.originateC0 (pktBytes op p) with
    | none => exact mate
    | some v => exact (State.originateC0_qspiOut _ _ placed).trans mate
  · exact (State.each_qspiOut _ _ _ fun s n => by simp).trans mate

@[simp] theorem State.copiesAfter_qspiOut (s : State) (r : OpRow) (p : Packet) :
    (s.copiesAfter r p).cmd.qspiOut = s.cmd.qspiOut := by simp [State.copiesAfter]
@[simp] theorem State.authRefused_qspiOut (s : State) : s.authRefused.cmd.qspiOut = s.cmd.qspiOut := by simp [State.authRefused]
@[simp] theorem State.noteAccepted_qspiOut (s : State) (i : Nat) (p : Packet) :
    (s.noteAccepted i p).cmd.qspiOut = s.cmd.qspiOut := by simp [State.noteAccepted]

@[simp] theorem State.vet_qspiOut (s : State) (r : OpRow) (p : Packet) : (s.vet r p).1.cmd.qspiOut = s.cmd.qspiOut := by
  unfold State.vet
  dsimp only
  repeat' split
  all_goals simp

@[simp] theorem State.copiesBefore_qspiOut (s : State) (r : OpRow) (p : Packet) :
    (s.copiesBefore r p).cmd.qspiOut = s.cmd.qspiOut := by simp [State.copiesBefore]

/-! The opcodes, and what ends an event. -/

/-- Of the opcodes, WARM_RESET alone may change what the QSPI port gives out. -/
def OpRow.Quiet (r : OpRow) : Prop := r = rowWarmReset ∨ ∀ p s, (r.run p s).s.cmd.qspiOut = s.cmd.qspiOut

theorem nop_to_sessionOpen_quiet :
    ∀ r ∈ [rowNop, rowSysInfo, rowStateReq, rowWarmReset, rowSysIdent, rowSessionOpen], r.Quiet := by
  simp [OpRow.Quiet, rowNop, opNop, rowSysInfo, opSysInfo, rowStateReq, opStateReq, rowSysIdent, opSysIdent, rowSessionOpen]

theorem sessionClose_to_mgrdRemapSet_quiet :
    ∀ r ∈ [rowSessionClose, rowKeyLoad, rowTimeSet, rowTimeRead, rowMgrdRead, rowMgrdRemapSet], r.Quiet := by
  simp [OpRow.Quiet, rowSessionClose, opSessionClose, rowKeyLoad, opKeyLoad, rowTimeSet, opTimeSet, rowTimeRead, opTimeRead, rowMgrdRead,
    opMgrdRead, rowMgrdRemapSet]

theorem mgrdInject_to_regRead_quiet :
    ∀ r ∈ [rowMgrdInject, rowHandleInfo, rowHandleDestroy, rowHandleList, rowHandlePool, rowRegRead], r.Quiet := by
  simp [OpRow.Quiet, rowMgrdInject, opMgrdInject, rowHandleInfo, rowHandleDestroy, opHandleDestroy, State.startDestroy, rowHandleList,
    opHandleList, rowHandlePool, opHandlePool, rowRegRead, opRegRead]

theorem regWrite_to_yarUnitRead_quiet :
    ∀ r ∈ [rowRegWrite, rowRegRmw, rowMemRead, rowMemWrite, rowYarTallyRead, rowYarUnitRead], r.Quiet := by
  simp [OpRow.Quiet, rowRegWrite, opRegWrite, rowRegRmw, opRegRmw, rowMemRead, rowMemWrite, rowYarTallyRead, opYarTallyRead, rowYarUnitRead,
    opYarUnitRead]

theorem yarCellExclude_to_swuCommit_quiet :
    ∀ r ∈ [rowYarCellExclude, rowYarCellRead, rowYarDemandSet, rowSwuCreate, rowSwuSet, rowSwuCommit], r.Quiet := by
  simp [OpRow.Quiet, rowYarCellExclude, opYarCellExclude, rowYarCellRead, opYarCellRead, rowYarDemandSet, opYarDemandSet, rowSwuCreate,
    opSwuCreate, State.placeChan, rowSwuSet, opSwuSet, rowSwuCommit, opSwuCommit]

theorem swuStart_to_swuForce_quiet :
    ∀ r ∈ [rowSwuStart, rowSwuStop, rowSwuStatusRead, rowSwuChanRead, rowSwuFaultClear, rowSwuForce], r.Quiet := by
  simp [OpRow.Quiet, rowSwuStart, opSwuStart, rowSwuStop, opSwuStop, rowSwuStatusRead, opSwuStatusRead, rowSwuChanRead, opSwuChanRead,
    rowSwuFaultClear, opSwuFaultClear, rowSwuForce, opSwuForce]

theorem loopCreate_to_loopInfo_quiet :
    ∀ r ∈ [rowLoopCreate, rowLoopEnable, rowLoopCoefSet, rowLoopParamSet, rowLoopSigRead, rowLoopInfo], r.Quiet := by
  simp [OpRow.Quiet, rowLoopCreate, opLoopCreate, State.placeLoop, rowLoopEnable, opLoopEnable, rowLoopCoefSet, opLoopCoefSet, rowLoopParamSet,
    opLoopParamSet, rowLoopSigRead, opLoopSigRead, rowLoopInfo, opLoopInfo]

theorem loopBudgetRead_to_measInject_quiet :
    ∀ r ∈ [rowLoopBudgetRead, rowMeasSeqCreate, rowMeasSeqStart, rowMeasSeqStop, rowMeasResultRead, rowMeasInject], r.Quiet := by
  simp [OpRow.Quiet, rowLoopBudgetRead, opLoopBudgetRead, rowMeasSeqCreate, opMeasSeqCreate, State.placeSeq, rowMeasSeqStart, rowMeasSeqStop,
    opMeasSeqStop, rowMeasResultRead, opMeasResultRead, rowMeasInject]

theorem measSliceRead_to_captureRelease_quiet :
    ∀ r ∈ [rowMeasSliceRead, rowCaptureCreate, rowCaptureArm, rowCaptureTrigger, rowCaptureStop, rowCaptureRelease], r.Quiet := by
  simp [OpRow.Quiet, rowMeasSliceRead, opMeasSliceRead, rowCaptureCreate, rowCaptureArm, opCaptureArm, rowCaptureTrigger, opCaptureTrigger,
    rowCaptureStop, opCaptureStop, rowCaptureRelease, opCaptureRelease]

theorem captureRead_to_trendInfo_quiet :
    ∀ r ∈ [rowCaptureRead, rowCaptureInfo, rowTrendCreate, rowTrendStart, rowTrendStop, rowTrendInfo], r.Quiet := by
  simp [OpRow.Quiet, rowCaptureRead, opCaptureRead, rowCaptureInfo, opCaptureInfo, rowTrendCreate, rowTrendStart, opTrendStart, rowTrendStop,
    opTrendStop, State.closeBlock, rowTrendInfo, opTrendInfo]

theorem sysTrigger_to_faultSrcSet_quiet :
    ∀ r ∈ [rowSysTrigger, rowRecPoolRead, rowFaultRead, rowFaultResolve, rowFaultLatchClear, rowFaultSrcSet], r.Quiet := by
  simp [OpRow.Quiet, rowSysTrigger, opSysTrigger, State.requestTrig, rowRecPoolRead, opRecPoolRead, rowFaultRead, opFaultRead, rowFaultResolve,
    opFaultResolve, rowFaultLatchClear, opFaultLatchClear, rowFaultSrcSet, opFaultSrcSet]

theorem faultRaise_to_safeCfgRead_quiet :
    ∀ r ∈ [rowFaultRaise, rowFaultHistory, rowFaultSubscribe, rowSafeStatusRead, rowSafeCfgLoad, rowSafeCfgRead], r.Quiet := by
  simp [OpRow.Quiet, rowFaultRaise, opFaultRaise, rowFaultHistory, opFaultHistory, rowFaultSubscribe, opFaultSubscribe, rowSafeStatusRead,
    opSafeStatusRead, rowSafeCfgLoad, rowSafeCfgRead, opSafeCfgRead]

theorem safeDemand_to_duplexSwap_quiet :
    ∀ r ∈ [rowSafeDemand, rowSafeReset, rowSafeBypass, rowSafeOutRead, rowTwinRead, rowDuplexSwap], r.Quiet := by
  simp [OpRow.Quiet, rowSafeDemand, opSafeDemand, rowSafeReset, rowSafeBypass, rowSafeOutRead, opSafeOutRead, rowTwinRead, opTwinRead,
    rowDuplexSwap, opDuplexSwap, State.startSwap]

theorem twinResync_to_lifeStateRead_quiet :
    ∀ r ∈ [rowTwinResync, rowLifeRead, rowLifePlanSet, rowLifeBaseline, rowLifeRfRead, rowLifeStateRead], r.Quiet := by
  simp [OpRow.Quiet, rowTwinResync, opTwinResync, State.goStandbySync, State.setRole, rowLifeRead, opLifeRead, rowLifePlanSet, opLifePlanSet,
    rowLifeBaseline, rowLifeRfRead, opLifeRfRead, rowLifeStateRead, opLifeStateRead]

theorem lifeRestore_to_canMbCancel_quiet :
    ∀ r ∈ [rowLifeRestore, rowLifeSubscribe, rowCanMode, rowCanMbCreate, rowCanMbSend, rowCanMbCancel], r.Quiet := by
  simp [OpRow.Quiet, rowLifeRestore, opLifeRestore, rowLifeSubscribe, opLifeSubscribe, rowCanMode, opCanMode, rowCanMbCreate, opCanMbCreate,
    rowCanMbSend, opCanMbSend, State.boxData, rowCanMbCancel, opCanMbCancel, State.withdraw]

theorem canMbRead_to_laneRate_quiet :
    ∀ r ∈ [rowCanMbRead, rowCanStatusRead, rowCanRecover, rowLaneRead, rowLaneRestart, rowLaneRate], r.Quiet := by
  simp [OpRow.Quiet, rowCanMbRead, opCanMbRead, rowCanStatusRead, opCanStatusRead, rowCanRecover, opCanRecover, rowLaneRead, opLaneRead,
    rowLaneRestart, opLaneRestart, rowLaneRate, opLaneRate]

theorem eqLoad_to_treeLoad_quiet :
    ∀ r ∈ [rowEqLoad, rowPrbsStart, rowPrbsRead, rowModRead, rowModWrite, rowTreeLoad], r.Quiet := by
  simp [OpRow.Quiet, rowEqLoad, rowPrbsStart, opPrbsStart, rowPrbsRead, opPrbsRead, rowModRead, opModRead, rowModWrite, opModWrite, rowTreeLoad]

theorem treeSurvey_to_threadCancel_quiet :
    ∀ r ∈ [rowTreeSurvey, rowTreeRead, rowThreadCreate, rowThreadStart, rowThreadStop, rowThreadCancel], r.Quiet := by
  simp [OpRow.Quiet, rowTreeSurvey, opTreeSurvey, rowTreeRead, opTreeRead, rowThreadCreate, opThreadCreate, State.placeThread, rowThreadStart,
    opThreadStart, State.makeReady, rowThreadStop, opThreadStop, rowThreadCancel, opThreadCancel]

theorem operandPost_to_dispRead_quiet :
    ∀ r ∈ [rowOperandPost, rowThreadInfo, rowFlowCreate, rowFlowInfo, rowLockCreate, rowDispRead], r.Quiet := by
  simp [OpRow.Quiet, rowOperandPost, rowThreadInfo, opThreadInfo, rowFlowCreate, opFlowCreate, rowFlowInfo, opFlowInfo, rowLockCreate,
    opLockCreate, rowDispRead, opDispRead]

theorem fwStatusRead_to_fwFlashCheck_quiet :
    ∀ r ∈ [rowFwStatusRead, rowFwFlashErase, rowFwFlashWrite, rowFwFlashRead, rowFwFlashCheck], r.Quiet := by
  simp [OpRow.Quiet, rowFwStatusRead, opFwStatusRead, rowFwFlashErase, opFwFlashErase, rowFwFlashWrite, opFwFlashWrite, rowFwFlashRead,
    opFwFlashRead, rowFwFlashCheck, opFwFlashCheck]

theorem quiet_append {l m : List OpRow} (h : ∀ r ∈ l, r.Quiet) (k : ∀ r ∈ m, r.Quiet) : ∀ r ∈ l ++ m, r.Quiet :=
  List.forall_mem_append.mpr ⟨h, k⟩

theorem rows_quiet : ∀ r ∈ opRows, r.Quiet :=
  quiet_append (quiet_append (quiet_append (quiet_append (quiet_append (quiet_append (quiet_append (quiet_append (quiet_append (quiet_append
    (quiet_append (quiet_append (quiet_append (quiet_append (quiet_append (quiet_append (quiet_append (quiet_append (quiet_append
    nop_to_sessionOpen_quiet sessionClose_to_mgrdRemapSet_quiet) mgrdInject_to_regRead_quiet) regWrite_to_yarUnitRead_quiet)
    yarCellExclude_to_swuCommit_quiet) swuStart_to_swuForce_quiet) loopCreate_to_loopInfo_quiet) loopBudgetRead_to_measInject_quiet)
    measSliceRead_to_captureRelease_quiet) captureRead_to_trendInfo_quiet) sysTrigger_to_faultSrcSet_quiet) faultRaise_to_safeCfgRead_quiet)
    safeDemand_to_duplexSwap_quiet) twinResync_to_lifeStateRead_quiet) lifeRestore_to_canMbCancel_quiet) canMbRead_to_laneRate_quiet)
    eqLoad_to_treeLoad_quiet) treeSurvey_to_threadCancel_quiet) operandPost_to_dispRead_quiet) fwStatusRead_to_fwFlashCheck_quiet

@[simp] theorem State.runOp_qspiOut (s : State) (r : OpRow) (p : Packet) : (s.runOp r p).cmd.qspiOut = (r.run p s).s.cmd.qspiOut := by
  unfold State.runOp
  dsimp only
  split
  · rfl
  split
  · split <;> rfl
  · split <;> simp

/-- The QSPI port gives out in one state what it does in another, or a warm reset has come in between. -/
def QspiSettled (s t : State) : Prop := t.cmd.qspiOut = s.cmd.qspiOut ∨ t.cmd.qspiOut = []

namespace QspiSettled
variable {s t u : State}

theorem of_eq (h : QspiSettled s t) (e : u.cmd.qspiOut = t.cmd.qspiOut) : QspiSettled s u := by
  rw [QspiSettled, e]
  exact h

theorem trans (h : QspiSettled s t) (k : QspiSettled t u) : QspiSettled s u := by
  rcases k with k | k
  · exact h.of_eq k
  · exact .inr k

end QspiSettled

theorem run_settled {r : OpRow} (row : r ∈ opRows) (p : Packet) (s : State) : QspiSettled s (r.run p s).s := by
  rcases rows_quiet r row with warm | quiet
  · subst warm
    change QspiSettled s (opWarmReset p s).s
    unfold opWarmReset
    split
    · exact .inl rfl
    split
    · exact .inl rfl
    · exact .inr (State.warmReset_qspiOut _)
  · exact .inl (quiet p s)

theorem execute_settled {r : OpRow} (row : r ∈ opRows) (p : Packet) (s : State) : QspiSettled s (s.execute r p) := by
  have vetted := s.vet_qspiOut r p
  unfold State.execute
  split
  rename_i t q st vet
  rw [vet] at vetted
  have settled : QspiSettled s t := .inl vetted
  split
  · exact (settled.trans (run_settled row q t)).of_eq (State.runOp_qspiOut t r q)
  · exact settled.of_eq (by simp)

theorem perform_settled {r : OpRow} (row : r ∈ opRows) (p : Packet) (s : State) : QspiSettled s (s.perform r p) := by
  have copied : QspiSettled s (s.copiesBefore r p) := .inl (by simp)
  exact (copied.trans (execute_settled row p _)).of_eq (State.copiesAfter_qspiOut _ r p)

theorem opRow_mem {op : Nat} {r : OpRow} (h : opRow op = some r) : r ∈ opRows := List.mem_of_find?_eq_some h

theorem pump_settled (n : Nat) (s : State) : QspiSettled s (State.pump n s) := by
  induction n generalizing s with
  | zero => exact .inl rfl
  | succ n ih =>
    rw [State.pump]
    split
    · exact .inl rfl
    split
    · exact .inl rfl
    rename_i op p t next
    have popped : QspiSettled s t := .inl (State.nextCmd_qspiOut s next)
    split
    · exact popped.trans (ih t)
    · rename_i r row
      exact ((popped.trans (perform_settled (opRow_mem row) p t)).of_eq (State.finish_qspiOut _)).trans (ih _)

/-- What ends an event leaves what the QSPI port gives out, unless a warm reset clears it. -/
theorem wrapUp_settled (s : State) : QspiSettled s s.wrapUp := by
  have begun : QspiSettled s s.finish.endSurvey.trendPump.watchTrends := .inl (by simp)
  exact (begun.trans (pump_settled _ _)).of_eq (State.finish_qspiOut _)

end Sys2Proof.Machine
end

section
/-!
SUPPORT. The QSPI port at FHUB_RESOLVE (04 R133, 12 FHUB_RESOLVE): that register is for the cores and the safety pair, so on this port its
offset holds no register (01 R8) and a read gives data that the spec leaves open.
-/
namespace Sys2Proof.Machine
open Sys2Proof

/-- With no survey, no waiting command and no trend stream, the end of an event leaves what the QSPI port gives out alone. -/
theorem wrapUp_qspiOut_of_idle {s : State} (survey : s.tree.survey = none) (h1 : s.cmd.q1 = []) (h2 : s.cmd.q2 = []) (h3 : s.cmd.q3 = [])
    (trends : s.recorder.trends = []) : s.wrapUp.cmd.qspiOut = s.cmd.qspiOut := by
  have aside : Aside.Of ⟨s.tree, [], [], [], []⟩ s := ⟨rfl, h1, h2, h3, trends⟩
  obtain ⟨tree, q1, q2, q3, trends⟩ := aside.finish
  have wraps : s.wrapUp = s.finish.finish := by
    rw [State.wrapUp, State.endSurvey_of_none (by rw [tree]; exact survey), State.trendPump_of_nil trends, State.watchTrends_of_nil trends,
      q1, q2, q3]
    rfl
  rw [wraps]
  simp

/-- REG_RD of FHUB_RESOLVE gives an open value. -/
theorem onRegRd_resolve {s : State} (enabled : s.on F.CMD_QSPI_RD_EN = true) :
    onRegRd (BitVec.ofNat 32 A.FHUB_RESOLVE) 1 s =
      { s with freeCount := s.freeCount + 1, cmd.qspiOut := leBytes 4 (Config.openWord s.freeCount).toNat } := by
  rw [onRegRd, if_pos enabled]
  rfl

theorem view_resolve (s : State) : s.view A.FHUB_RESOLVE = s.reg A.FHUB_RESOLVE := rfl

/-- A part at rest whose QSPI port may read, with a value in FHUB_RESOLVE that is not the next open one. -/
def resolveHeld : State :=
  (({ clk := { por := false } } : State).setF F.CMD_QSPI_RD_EN 1).setReg A.FHUB_RESOLVE (Config.openWord 0 + 1)

theorem resolveHeld_enabled : resolveHeld.on F.CMD_QSPI_RD_EN = true := by
  rw [resolveHeld, (touch_setReg _ _ _).on (by simp)]
  exact State.on_setF_one _ _ rfl rfl

/-- What a read of FHUB_RESOLVE leaves on the port of that part. -/
theorem resolveHeld_read : (onRegRd (BitVec.ofNat 32 A.FHUB_RESOLVE) 1 resolveHeld).wrapUp.cmd.qspiOut = leBytes 4 (Config.openWord 0).toNat := by
  rw [onRegRd_resolve resolveHeld_enabled]
  exact wrapUp_qspiOut_of_idle rfl rfl rfl rfl rfl

theorem leBytes_word_inj {v w : Word} (h : leBytes 4 v.toNat = leBytes 4 w.toNat) : v = w := by
  have same := congrArg leNat h
  rw [leNat_leBytes, leNat_leBytes] at same
  exact BitVec.eq_of_toNat_eq (by omega)

/-- Refutes O18: at FHUB_RESOLVE, which stands in the register map, a read over QSPI does not give the register: it is for the cores and the
safety pair, any other path finds no register there (01 R8), and the port gives an open value. -/
theorem not_ports : ¬ Obligations.Ports := by
  unfold Obligations.Ports
  intro h
  have on : resolveHeld.running = true := rfl
  obtain ⟨-, -, -, -, -, -, read, -⟩ := h 0 [] resolveHeld on
  obtain ⟨t, ran, shown, -⟩ := read (BitVec.ofNat 32 A.FHUB_RESOLVE) resolveHeld_enabled (by decide) (by decide)
  have reads : exec (.regRd (BitVec.ofNat 32 A.FHUB_RESOLVE) 1) resolveHeld =
      .next (onRegRd (BitVec.ofNat 32 A.FHUB_RESOLVE) 1 resolveHeld).wrapUp := runEvent_of_eq on rfl
  rw [reads, Host.Outcome.next.injEq] at ran
  have given := resolveHeld_read
  rw [ran] at given
  have viewed : resolveHeld.view (BitVec.ofNat 32 A.FHUB_RESOLVE).toNat = Config.openWord 0 + 1 := by
    rw [show (BitVec.ofNat 32 A.FHUB_RESOLVE).toNat = A.FHUB_RESOLVE from rfl, view_resolve, resolveHeld, State.reg_setReg_same]
  rcases wrapUp_settled t with kept | cleared
  · rw [given, shown, viewed] at kept
    have same := leBytes_word_inj kept
    bv_omega
  · rw [given] at cleared
    exact absurd (congrArg List.length cleared) (by simp)

end Sys2Proof.Machine
end

section
/-!
SUPPORT. One step of the block (log entries 1 and 2): the command at the front of its queue, or one clk on an empty queue.
-/
namespace Sys2Proof.Machine
open Sys2Proof

theorem step_cons (c : Instr) (s : State) (rest : List Instr) :
    step { s with pending := c :: rest } = exec c { s with pending := rest } := rfl

theorem step_nil {s : State} (h : s.pending = []) : step s = .next s.idle := by rw [step, h]

theorem idle_running {s : State} (h : s.running = true) : s.idle = s.pass 2000 := by rw [State.idle, if_pos h]

theorem idle_stopped {s : State} (h : s.running = false) : s.idle = s := by rw [State.idle, h]; rfl

theorem withFetchWord_unchanged (s : State) (nbits w : Nat) : s.withFetchWord nbits w = s := rfl

/-- Settles O55: a step by what stands at the front of the queue. -/
theorem stepRuns : Obligations.StepRuns := by
  unfold Obligations.StepRuns
  refine ⟨step_cons, fun s empty => ⟨fun on => ⟨s.pass 2000, ?runs, s.pass_nowPs 2000, touch_pass s 2000⟩, fun off => ?stands⟩,
    fun s nbits w => ⟨rfl, withFetchWord_unchanged s nbits w⟩⟩
  case runs => rw [step_nil empty, idle_running on]
  case stands => rw [step_nil empty, idle_stopped off]

end Sys2Proof.Machine
end

section
/-!
SUPPORT. What keeps an opcode from executing (04 R113, R114, R118, R125, R127): the refusals of the checks, of a handle and of a full
queue, each for any row of the opcode tables.
-/
namespace Sys2Proof.Machine
open Sys2Proof

/-- Every opcode command runs its row of the tables on its packet. -/
theorem exec_opcode {i : Instr} {r : OpRow} {p : Packet} (h : opcodeOf i = some (r, p)) (s : State) : exec i s = .next (runCommand r p s) := by
  cases i <;> cases h <;> rfl

/-- On a part that runs, a command is submitted, and what ends every command follows. -/
theorem exec_submit {i : Instr} {r : OpRow} {p : Packet} (h : opcodeOf i = some (r, p)) {s : State} (on : s.running = true) :
    exec i s = .next (s.submit r p).wrapUp := by
  rw [exec_opcode h, runCommand, runEvent_running _ on]

/-! Handles (R125). -/

/-- A row that asks for a handle of a type runs only behind the check of that handle. -/
theorem run_withHandle {i : Instr} {r : OpRow} {p : Packet} (h : opcodeOf i = some (r, p)) {ty : Nat} (takes : handleTypeOf r.code = some ty) :
    ∃ g, r.run = withHandle ty g := by
  cases i <;> cases h <;> cases takes <;> exact ⟨_, rfl⟩

theorem withHandle_refuses {ty : Nat} {p : Packet} {s : State} (g : Nat → Packet → State → Out) (h : s.handleStatus ty p.handle ≠ Stat.OK) :
    withHandle ty g p s = refuse s (s.handleStatus ty p.handle) := by
  rw [withHandle, if_neg h]

/-- WARM_RESET takes no handle. -/
theorem code_ne_warmReset {r : OpRow} {ty : Nat} (takes : handleTypeOf r.code = some ty) : r.code ≠ 0x0003 := by
  intro code
  rw [code] at takes
  cases takes

/-! The checks in turn (R113, R127, R114). -/

theorem vet_role {s : State} {r : OpRow} (p : Packet) (h : s.hasRole r.roles = false) : s.vet r p = (s, p, Stat.BAD_OPCODE) := by
  rw [State.vet, h]
  rfl

theorem vet_unauthenticated {s : State} {r : OpRow} {p : Packet} (role : s.hasRole r.roles = true) (asked : (p.auth || s.needsSession r) = true)
    (shown : s.authSession r.code p = none) : s.vet r p = (s.authRefused, p, Stat.DENIED) := by
  simp only [State.vet, role, asked, shown, Bool.not_true, Bool.false_eq_true, if_false, if_true]

theorem vet_class0 {s : State} {r : OpRow} {p : Packet} (role : s.hasRole r.roles = true) (plain : p.auth = false)
    (free : s.needsSession r = false) (large : s.class0Ok r p = false) : s.vet r p = (s, p, Stat.BAD_PARAM) := by
  simp only [State.vet, role, plain, free, large, Bool.not_true, Bool.or_self, Bool.false_eq_true, if_false]

theorem submit_performs {s : State} (r : OpRow) {p : Packet} (h : (p.slot || s.interpIdle) = true) : s.submit r p = s.perform r p := by
  rw [State.submit, if_pos h]

/-- A command that its checks refuse is answered, and nothing of it runs. -/
theorem perform_refused {s u : State} {r : OpRow} {p : Packet} {status : Nat} (h : (s.copiesBefore r p).vet r p = (u, p, status))
    (bad : status ≠ Stat.OK) : s.perform r p =
      (u.reply r.code p false status (if status = Stat.BAD_OPCODE then [] else refusalPayload r.code)).copiesAfter r p := by
  simp only [State.perform, State.execute, h, if_neg bad]

theorem authRefused_denied (s : State) : s.authRefused.f F.CMD_STAT_AUTH_DENIED = min (s.f F.CMD_STAT_AUTH_DENIED + 1) 255 := by
  have counted (t : State) (c : Bool) (n : Nat) (x : Fld) : (t.raiseIf c n).f x = t.f x := (touch_raiseIf t c n).f (by simp)
  have fits : min (s.f F.CMD_STAT_AUTH_DENIED + 1) 255 % 256 = min (s.f F.CMD_STAT_AUTH_DENIED + 1) 255 := by omega
  exact (counted _ _ _ _).trans ((State.f_setF_same _ _ _ rfl).trans fits)

theorem mem_raiseIf {s : State} {c : Bool} {x n : Nat} : x ∈ (s.raiseIf c n).hub.raised ↔ x ∈ s.hub.raised ∨ (c = true ∧ x = n) := by
  cases c <;> simp [State.raiseIf]

theorem authRefused_raised (s : State) : FS.CMD_AUTH_FAIL ∈ s.authRefused.hub.raised ↔
    FS.CMD_AUTH_FAIL ∈ s.hub.raised ∨ 16 ≤ (slide 1000000000 s.now s.cmd.denyAt).length := by
  rw [State.authRefused, mem_raiseIf]
  simp

theorem authRefused_touch (s : State) : Touches [.cmd, .hub] [A.CMD_STAT] s s.authRefused :=
  (((touch_cmd s _).mono (by simp) (by simp)).trans ((touch_bump _ _).mono (by simp) (by simp))).trans
    ((touch_raiseIf _ _ _).mono (by simp) (by simp))

/-! Queues (R118). -/

theorem submit_full {s : State} (r : OpRow) {p : Packet} (slot : p.slot = false) (others : s.interpIdle = false)
    (full : 32 ≤ (s.cmdQueue (queueClass p)).length) : s.submit r p =
      ((s.raise FS.CMD_QUEUE_FULL).reply r.code p false Stat.BUSY (refusalPayload r.code)).fanOut r.code p := by
  simp only [State.submit, slot, others, Bool.or_self, Bool.false_eq_true, if_false, if_pos full]

/-- A command waits in the queue of a class. -/
def State.queued (s : State) (c : Nat) (x : Nat × Packet) : State :=
  match c with
  | 1 => { s with cmd.q1 := s.cmd.q1 ++ [x] }
  | 2 => { s with cmd.q2 := s.cmd.q2 ++ [x] }
  | _ => { s with cmd.q3 := s.cmd.q3 ++ [x] }

theorem queueClass_cases (p : Packet) : queueClass p = 1 ∨ queueClass p = 2 ∨ queueClass p = 3 := by
  have := p.cls.isLt
  unfold queueClass
  omega

theorem submit_waits {s : State} (r : OpRow) {p : Packet} (slot : p.slot = false) (others : s.interpIdle = false)
    (room : (s.cmdQueue (queueClass p)).length < 32) : s.submit r p = s.queued (queueClass p) (r.code, p) := by
  simp only [State.submit, slot, others, Bool.or_self, Bool.false_eq_true, if_false, if_neg (Nat.not_le.mpr room)]
  rfl

theorem queued_busy (s : State) (c : Nat) (x : Nat × Packet) : (s.queued c x).cmd.busy = s.cmd.busy := by
  unfold State.queued
  split <;> rfl

theorem queued_touch (s : State) (c : Nat) (x : Nat × Packet) : Touches [.cmd] [] s (s.queued c x) := by
  unfold State.queued
  split <;> exact touch_cmd s _

theorem queued_cmdQueue (s : State) {c d : Nat} (x : Nat × Packet) (hc : c = 1 ∨ c = 2 ∨ c = 3) (hd : d = 1 ∨ d = 2 ∨ d = 3) :
    (s.queued c x).cmdQueue d = if d = c then s.cmdQueue c ++ [x] else s.cmdQueue d := by
  rcases hc with rfl | rfl | rfl <;> rcases hd with rfl | rfl | rfl <;> rfl

/-! The clauses, and the statement. -/

section
variable {i : Instr} {r : OpRow} {p : Packet} {s : State}

theorem refused_stopped (h : opcodeOf i = some (r, p)) (off : s.running = false) : exec i s = .next s := by
  rw [exec_opcode h, runCommand, runEvent_stopped _ off]

theorem refused_handle (h : opcodeOf i = some (r, p)) {ty : Nat} {s1 : State} {p1 : Packet} (takes : handleTypeOf r.code = some ty)
    (adm : Admitted r p s s1 p1) (bad : s1.handleStatus ty p.handle ≠ Stat.OK) :
    exec i s = .next (s1.answers r p1 (s1.handleStatus ty p.handle) []) := by
  obtain ⟨g, run⟩ := run_withHandle h takes
  rw [← adm.handle] at bad ⊢
  rw [exec_opcode h]
  refine congrArg _ (runCommand_answers adm (code_ne_warmReset takes) ?_)
  rw [run, withHandle_refuses g bad]
  rfl

/-- A command whose checks refuse it, on a part that runs with the interpreter free or in a slot. -/
theorem refused_vet (h : opcodeOf i = some (r, p)) (on : s.running = true) (free : (p.slot || s.interpIdle) = true) {u : State} {status : Nat}
    (vetted : (s.copiesBefore r p).vet r p = (u, p, status)) (bad : status ≠ Stat.OK) : exec i s =
      .next ((u.reply r.code p false status (if status = Stat.BAD_OPCODE then [] else refusalPayload r.code)).copiesAfter r p).wrapUp := by
  rw [exec_submit h on, submit_performs r free, perform_refused vetted bad]

theorem refused_waiting (h : opcodeOf i = some (r, p)) (on : s.running = true) (slot : p.slot = false) (others : s.interpIdle = false)
    (room : (s.cmdQueue (queueClass p)).length < 32) :
    ∃ u : State, exec i s = .next u.wrapUp ∧ u.cmdQueue (queueClass p) = s.cmdQueue (queueClass p) ++ [(r.code, p)] ∧
      (∀ c, c = 1 ∨ c = 2 ∨ c = 3 → c ≠ queueClass p → u.cmdQueue c = s.cmdQueue c) ∧ u.cmd.busy = s.cmd.busy ∧ Touches [.cmd] [] s u := by
  have known := queueClass_cases p
  refine ⟨s.queued (queueClass p) (r.code, p), ?_, ?_, fun c hc other => ?_, queued_busy _ _ _, queued_touch _ _ _⟩
  · rw [exec_submit h on, submit_waits r slot others room]
  · rw [queued_cmdQueue s _ known known, if_pos rfl]
  · rw [queued_cmdQueue s _ known hc, if_neg other]

end

/-- Settles O58: each refusal by the check that makes it, for any row of the opcode tables. -/
theorem refusedCommands : Obligations.RefusedCommands := by
  unfold Obligations.RefusedCommands
  intro i r p s h
  refine ⟨refused_stopped h, fun ty s1 p1 takes adm bad => refused_handle h takes adm bad, ?checks,
    fun on slot others => ⟨fun full => ?full, refused_waiting h on slot others⟩⟩
  case full => rw [exec_submit h on, submit_full r slot others full]
  case checks =>
    rintro on free v rfl
    refine ⟨fun role => ?_, fun role asked shown => ?_, fun role plain unasked large => ?_⟩
    · exact refused_vet h on free (vet_role p role) (by decide)
    · exact ⟨_, refused_vet h on free (vet_unauthenticated role asked shown) (by decide), authRefused_denied _, authRefused_raised _,
        authRefused_touch _⟩
    · exact refused_vet h on free (vet_class0 role plain unasked large) (by decide)

end Sys2Proof.Machine
end

section
/-!
SUPPORT. Opcodes that only answer (04 R136, 02 R70, 01 R40, 03 R108): what each gives back on parameters within its table.
-/
namespace Sys2Proof.Machine
open Sys2Proof

/-- A command that is admitted and whose opcode answers at once. -/
theorem exec_answers {i : Instr} {r : OpRow} {p p1 : Packet} {s s1 u : State} {status : Nat} {payload : List Byte}
    (h : opcodeOf i = some (r, p)) (adm : Admitted r p s s1 p1) (code : r.code ≠ 0x0003)
    (run : r.run p1 s1 = { s := u, status := status, payload := payload }) : exec i s = .next (u.answers r p1 status payload) := by
  rw [exec_opcode h, runCommand_answers adm code run]

/-- A command that is admitted and whose opcode answers later. -/
theorem exec_holds {i : Instr} {r : OpRow} {p p1 : Packet} {s s1 u : State} (h : opcodeOf i = some (r, p)) (adm : Admitted r p s s1 p1)
    (code : r.code ≠ 0x0003) (run : r.run p1 s1 = holding u) : exec i s = .next (u.holds r p1) := by
  rw [exec_opcode h, runCommand_holds adm code run]

theorem leBytes_one (v : Nat) : leBytes 1 v = [BitVec.ofNat 8 v] := rfl

/-- A byte is the number it was written as, within 8 bits. -/
theorem numAt_byte {v : Nat} (h : v < 256) : numAt [BitVec.ofNat 8 v] 0 1 = v := by
  rw [← leBytes_one]
  exact (numAt_leBytes 1 v).trans (Nat.mod_eq_of_lt h)

theorem ofNat_b2n (c : Bool) : BitVec.ofNat 8 (b2n c) = if c then 1 else 0 := by cases c <;> rfl

section
variable {p : Packet} {s : State}

theorem opNop_ok (h : p.params.length ≤ 64) : opNop p s = ok s p.params := if_neg (Nat.not_lt.mpr h)

theorem opSysInfo_ok (h : p.params = []) : opSysInfo p s = ok s (s.view4 A.SYS_ID ++ s.view4 A.CMD_NODE ++
    leBytes 1 s.st ++ leBytes 1 s.standing ++ leBytes 2 s.fcount ++ s.view4 A.CMD_TMO) := by
  rw [opSysInfo, if_neg (not_not.mpr h), leBytes_one, leBytes_one, List.append_assoc _ [_] [_]]
  rfl

theorem opHandleList_ok {ty : Nat} (h : p.params = [BitVec.ofNat 8 ty]) (low : 1 ≤ ty) (high : ty ≤ 10) :
    opHandleList p s = ok s ((s.liveHandles ty).map (fun h => leBytes 4 h.toNat)).flatten := by
  have formed : ¬([BitVec.ofNat 8 ty].length ≠ 1 ∨ ty < 1 ∨ 10 < ty) := by
    rw [List.length_singleton]
    omega
  rw [opHandleList, h, numAt_byte (by omega)]
  exact if_neg formed

theorem opHandlePool_ok (h : p.params = []) :
    opHandlePool p s = ok s ((List.range 10).map (fun i => BitVec.ofNat 8 (s.pool (i + 1)).free.length)) := if_neg (not_not.mpr h)

/-- What HANDLE_INFO answers of an object, its state byte given. -/
def State.infoBytes (s : State) (h : Word) (o : Handle) (st : Nat) : List Byte :=
  leBytes 4 h.toNat ++ leBytes 2 o.source.toNat ++ [BitVec.ofNat 8 st, if s.bound (hType h) (hIndex h) then 1 else 0] ++ leBytes 8 o.created

theorem opHandleInfo_live {o : Handle} (h : p.params = []) (live : s.anyHandleStatus p.handle = Stat.OK)
    (object : (s.pool (hType p.handle)).object (hIndex p.handle) = some o) : opHandleInfo p s = ok s (s.infoBytes p.handle o 0) := by
  simp only [opHandleInfo, h, live, object, ne_eq, not_true_eq_false, if_false, if_true, ofNat_b2n, State.infoBytes]

theorem opHandleInfo_dying {o : Handle} (h : p.params = []) (stale : s.anyHandleStatus p.handle ≠ Stat.OK)
    (object : s.dyingObject p.handle = some o) : opHandleInfo p s = ok s (s.infoBytes p.handle o 1) := by
  simp only [opHandleInfo, h, stale, object, ne_eq, not_true_eq_false, if_false, ofNat_b2n, State.infoBytes]

theorem opTimeRead_ok (h : p.params = []) : opTimeRead p s =
    ok (if p.ks = [] then s else { s with cmd.stampKeys := Map.set [] s.cmd.stampKeys (srcKey p) p.ks })
      (leBytes 8 s.time ++ s.view4 A.TICK_STATUS ++ s.view4 A.TICK_OFFSET ++ s.reg4 A.TICK_DELAY_A ++ s.reg4 A.TICK_DELAY_B ++
        leBytes 8 s.tickNo) := by
  rw [opTimeRead, if_neg (not_not.mpr h)]
  by_cases key : p.ks = []
  · simp only [key, State.when, bne_self_eq_false, Bool.false_eq_true, if_false, if_true]
  · simp only [State.when, bne_iff_ne, ne_eq, key, not_false_eq_true, if_true, if_false]
    rfl

theorem opTreeRead_ok {first n : Nat} (length : p.params.length = 3) (start : numAt p.params 0 2 = first) (count : numAt p.params 2 1 = n)
    (least : 1 ≤ n) (few : n ≤ 64) (held : first + n ≤ s.tree.record.length) :
    opTreeRead p s = ok s ((s.tree.record.drop first).take n).flatten := by
  rw [opTreeRead, length, start, count]
  exact if_neg (by omega)

theorem opLaneRead_ok (h : p.params.length = 4) : opLaneRead p s = ok s ((bitList 32 (numAt p.params 0 4)).map (fun n =>
    s.view4 (A.LANE_CFG n) ++ s.view4 (A.LANE_STATUS n) ++ s.view4 (A.LANE_LOAD n) ++ s.view4 (A.LANE_ERR n) ++
      s.view4 (A.LANE_SEG n))).flatten := if_neg (not_not.mpr h)

theorem opPrbsRead_ok (length : p.params.length = 1) (lane : numAt p.params 0 1 ≤ 31) : opPrbsRead p s =
    ok s (s.reg4 (A.LANE_PRBS (numAt p.params 0 1)) ++ s.reg4 (A.LANE_PRBS_ERR (numAt p.params 0 1)) ++
      s.view4 (A.LANE_PRBS_TIME (numAt p.params 0 1))) := by
  rw [opPrbsRead, length]
  exact if_neg (by omega)

end

/-- Settles O4: each opcode by what it answers, on the state and packet that the checks leave. -/
theorem systemAndLinkReads : Obligations.SystemAndLinkReads := by
  unfold Obligations.SystemAndLinkReads
  intro p p1 s s1
  refine ⟨fun adm few => ?nop, fun adm bare => ?info, fun ty adm byte low high => ?list, fun adm bare => ?pool,
    fun o adm bare => ⟨fun live object => ?live, fun stale object => ?dying⟩, fun adm bare => ?time,
    fun first n adm length start count least few held => ?tree, fun adm length => ?lane, fun adm length lane => ?prbs⟩
  all_goals rw [← adm.params] at *
  case nop => exact exec_answers rfl adm (by decide) (opNop_ok few)
  case info => exact exec_answers rfl adm (by decide) (opSysInfo_ok bare)
  case list => exact exec_answers rfl adm (by decide) (opHandleList_ok byte low high)
  case pool => exact exec_answers rfl adm (by decide) (opHandlePool_ok bare)
  case live =>
    rw [← adm.handle] at *
    exact exec_answers rfl adm (by decide) (opHandleInfo_live bare live object)
  case dying =>
    rw [← adm.handle] at *
    exact exec_answers rfl adm (by decide) (opHandleInfo_dying bare stale object)
  case time => exact exec_answers rfl adm (by decide) (opTimeRead_ok bare)
  case tree => exact exec_answers rfl adm (by decide) (opTreeRead_ok length start count least few held)
  case lane => exact exec_answers rfl adm (by decide) (opLaneRead_ok length)
  case prbs => exact exec_answers rfl adm (by decide) (opPrbsRead_ok length lane)

end Sys2Proof.Machine
end

section
/-!
SUPPORT. Sessions and keys (04 R127 to R129, R136, R467): what the opening and the end of a session do to those held, to its handle and to
the pool, and what KEY_LOAD does to the key slots.
-/
namespace Sys2Proof.Machine
open Sys2Proof

/-! Handles of a pool (R122, R124, R125). -/

theorem Pool.object_dropped (q : Pool) (i : Nat) (free : List Nat) (gens : List (Nat × Nat)) :
    Pool.object { free := free, gens := gens, live := q.live.filter (fun x => x.1 != i) } i = none := by
  have gone : (q.live.filter (fun x => x.1 != i)).find? (fun x => x.1 == i && x.2.dying.isNone) = none := by
    simp +contextual [List.find?_eq_none]
  rw [Pool.object, gone]
  rfl

theorem handleStatus_ok_iff {s : State} {ty : Nat} {h : Word} : s.handleStatus ty h = Stat.OK ↔
    hType h = ty ∧ hIndex h < poolSize ty ∧ ((s.pool ty).object (hIndex h)).isSome = true ∧ (s.pool ty).gen (hIndex h) = hGen h := by
  unfold State.handleStatus
  split
  · simp [*]
  split
  · simp; omega
  split
  · next gone =>
    simp only [Option.isNone_iff_eq_none] at gone
    refine iff_of_false (by decide) fun ⟨_, _, object, gen⟩ => ?_
    rcases gone with none | other
    · simp [none] at object
    · exact other gen
  · next live =>
    rw [not_or, not_not] at live
    obtain ⟨object, gen⟩ := live
    refine iff_of_true rfl ⟨not_not.mp ‹_›, by omega, ?_, gen⟩
    cases h : (s.pool ty).object (hIndex h) <;> simp_all

theorem handleStatus_of_no_object {s : State} {ty : Nat} {h : Word} (type : hType h = ty) (index : hIndex h < poolSize ty)
    (gone : (s.pool ty).object (hIndex h) = none) : s.handleStatus ty h = Stat.STALE_HANDLE := by
  rw [State.handleStatus, if_neg (not_not.mpr type), if_neg (Nat.not_le.mpr index), if_pos (Or.inl (by rw [gone]; rfl))]

theorem dropIndex_touch (s : State) (ty i : Nat) : Touches [.cmd] [] s (s.dropIndex ty i) := touch_setPool _ _ _

theorem dropIndex_free (s : State) (ty i : Nat) : ((s.dropIndex ty i).pool ty).free = (s.pool ty).free ++ [i] := by
  rw [State.dropIndex, State.pool_setPool_same]

theorem dropIndex_gen (s : State) (ty i : Nat) : ((s.dropIndex ty i).pool ty).gen i = nextGen ((s.pool ty).gen i) := by
  rw [State.dropIndex, State.pool_setPool_same]
  exact Map.get_set_same _ _ _ _

theorem dropIndex_object (s : State) (ty i : Nat) : ((s.dropIndex ty i).pool ty).object i = none := by
  rw [State.dropIndex, State.pool_setPool_same]
  exact Pool.object_dropped _ _ _ _

theorem dropIndex_sessions (s : State) (ty i : Nat) : (s.dropIndex ty i).cmd.sessions = s.cmd.sessions := rfl

/-- The pool with its longest free index taken. -/
def State.takenIndex (s : State) (ty i : Nat) (rest : List Nat) (source : BitVec 16) : State :=
  s.setPool ty { s.pool ty with free := rest, live := (s.pool ty).live ++ [(i, { source := source, created := s.time })] }

theorem takeIndex_none {s : State} {ty : Nat} (source : BitVec 16) (h : (s.pool ty).free = []) : s.takeIndex ty source = none := by
  rw [State.takeIndex, h]

theorem takeIndex_some {s : State} {ty i : Nat} {rest : List Nat} (source : BitVec 16) (h : (s.pool ty).free = i :: rest) :
    s.takeIndex ty source = some (i, s.takenIndex ty i rest source) := by
  rw [State.takeIndex, h]
  rfl

theorem takenIndex_touch (s : State) (ty i : Nat) (rest : List Nat) (source : BitVec 16) : Touches [.cmd] [] s (s.takenIndex ty i rest source) :=
  touch_setPool _ _ _

theorem takenIndex_sessions (s : State) (ty i : Nat) (rest : List Nat) (source : BitVec 16) :
    (s.takenIndex ty i rest source).cmd.sessions = s.cmd.sessions := rfl

theorem takenIndex_gen (s : State) (ty i j : Nat) (rest : List Nat) (source : BitVec 16) :
    ((s.takenIndex ty i rest source).pool ty).gen j = (s.pool ty).gen j := by
  rw [State.takenIndex, State.pool_setPool_same]
  rfl

/-! The end of a session (R129). -/

theorem endSession_touch (s : State) (i : Nat) : Touches [.cmd] [] s (s.endSession i) := (dropIndex_touch s _ _).trans (touch_cmd _ _)

theorem mem_endSession {s : State} {i : Nat} {x : Nat × Session} :
    x ∈ (s.endSession i).cmd.sessions ↔ x ∈ s.cmd.sessions ∧ x.1 ≠ i := by
  have filtered : (s.endSession i).cmd.sessions = s.cmd.sessions.filter (fun x => x.1 != i) := rfl
  rw [filtered, List.mem_filter, bne_iff_ne]

theorem endSession_pool (s : State) (i ty : Nat) : (s.endSession i).pool ty = (s.dropIndex TY.SESSION i).pool ty := rfl

theorem endSession_gen (s : State) (i : Nat) : ((s.endSession i).pool TY.SESSION).gen i = nextGen ((s.pool TY.SESSION).gen i) := by
  rw [endSession_pool, dropIndex_gen]

theorem endSession_free (s : State) (i : Nat) : ((s.endSession i).pool TY.SESSION).free = (s.pool TY.SESSION).free ++ [i] := by
  rw [endSession_pool, dropIndex_free]

/-- The handle of an ended session is stale. -/
theorem endSession_stale {s : State} {h : Word} (live : s.handleStatus TY.SESSION h = Stat.OK) :
    (s.endSession (hIndex h)).handleStatus TY.SESSION h = Stat.STALE_HANDLE := by
  obtain ⟨type, index, -, -⟩ := handleStatus_ok_iff.mp live
  refine handleStatus_of_no_object type index ?_
  rw [endSession_pool, dropIndex_object]

/-! SESSION_OPEN (R128). -/

/-- The nonce that the node draws next. -/
def State.nextNonce (s : State) : List Byte := leBytes 8 (Config.nonce s.freeCount).toNat

/-- The session that a right proof opens at time `now`, with the key slot's key `k` and the node's nonce `nd`. -/
def openedSession (p : Packet) (k nd : List Byte) (now : Nat) : Session :=
  { source := p.source, target := p.target, slot := numAt p.params 0 1, key := sessionKey k (slice p.params 1 8) nd p, counter := 0, last := now }

theorem openedSession_key (p : Packet) (k nd : List Byte) (now : Nat) :
    (openedSession p k nd now).key = sessionKey k (slice p.params 1 8) nd p := by rw [openedSession]

/-- The state once a session is open at index `i`, `rest` the indices still free. -/
def State.opened (s : State) (p : Packet) (k : List Byte) (i : Nat) (rest : List Nat) : State :=
  { s.takenIndex TY.SESSION i rest p.source with
    freeCount := s.freeCount + 1, cmd.sessions := s.cmd.sessions ++ [(i, openedSession p k s.nextNonce s.now)] }

theorem opened_sessions (s : State) (p : Packet) (k : List Byte) (i : Nat) (rest : List Nat) :
    (s.opened p k i rest).cmd.sessions = s.cmd.sessions ++ [(i, openedSession p k s.nextNonce s.now)] := rfl

theorem opened_gen (s : State) (p : Packet) (k : List Byte) (i j : Nat) (rest : List Nat) :
    ((s.opened p k i rest).pool TY.SESSION).gen j = (s.pool TY.SESSION).gen j := takenIndex_gen s _ _ _ _ _

theorem opened_touch (s : State) (p : Packet) (k : List Byte) (i : Nat) (rest : List Nat) : Touches [.cmd, .free] [] s (s.opened p k i rest) :=
  (((takenIndex_touch s TY.SESSION i rest p.source).trans (touch_cmd _ _)).mono (by simp) (by simp)).trans
    ((touch_freeCount { s.takenIndex TY.SESSION i rest p.source with
      cmd.sessions := s.cmd.sessions ++ [(i, openedSession p k s.nextNonce s.now)] } (s.freeCount + 1)).mono (by simp) (by simp))

/-- What SESSION_OPEN answers: the handle, and the node's nonce. -/
def State.openedBytes (s : State) (p : Packet) (k : List Byte) (i : Nat) (rest : List Nat) : List Byte :=
  leBytes 4 ((s.opened p k i rest).handleAt TY.SESSION i).toNat ++ s.nextNonce

theorem openedBytes_length (s : State) (p : Packet) (k : List Byte) (i : Nat) (rest : List Nat) : (s.openedBytes p k i rest).length = 12 := by
  simp [State.openedBytes, State.nextNonce]

theorem openedBytes_take (s : State) (p : Packet) (k : List Byte) (i : Nat) (rest : List Nat) :
    (s.openedBytes p k i rest).take 4 = leBytes 4 ((s.opened p k i rest).handleAt TY.SESSION i).toNat :=
  List.take_left' (leBytes_length 4 _)

theorem openedBytes_drop (s : State) (p : Packet) (k : List Byte) (i : Nat) (rest : List Nat) : (s.openedBytes p k i rest).drop 4 = s.nextNonce :=
  List.drop_left' (leBytes_length 4 _)

/-- The requester's former session has ended. -/
def State.withoutFormer (s : State) (source : BitVec 16) : State :=
  match s.sessionOf source with
  | some (i, _) => s.endSession i
  | none => s

section
variable {p : Packet} {s : State} {k : List Byte}

theorem opSessionOpen_malformed (h : p.params.length ≠ 17 ∨ 3 < numAt p.params 0 1) : opSessionOpen p s = refuse s Stat.BAD_PARAM := if_pos h

theorem opSessionOpen_empty (length : p.params.length = 17) (slot : numAt p.params 0 1 ≤ 3) (key : s.keySlot (numAt p.params 0 1) = none) :
    opSessionOpen p s = refuse s Stat.DENIED := by
  rw [opSessionOpen, if_neg (by omega), key]

theorem opSessionOpen_wrong (length : p.params.length = 17) (slot : numAt p.params 0 1 ≤ 3) (key : s.keySlot (numAt p.params 0 1) = some k)
    (proof : sessionProof k (slice p.params 1 8) p ≠ slice p.params 9 8) : opSessionOpen p s = refuse s Stat.DENIED := by
  rw [opSessionOpen, if_neg (by omega), key]
  exact if_pos proof

/-- With a right proof, what follows is as the pool says once the former session has ended. -/
theorem opSessionOpen_proved (length : p.params.length = 17) (slot : numAt p.params 0 1 ≤ 3) (key : s.keySlot (numAt p.params 0 1) = some k)
    (proof : sessionProof k (slice p.params 1 8) p = slice p.params 9 8) : opSessionOpen p s =
      match (s.withoutFormer p.source).takeIndex TY.SESSION p.source with
      | none => refuse ((s.withoutFormer p.source).raise FS.HANDLE_EXHAUSTED) Stat.NO_RESOURCE
      | some (i, t) => ok { t with
          freeCount := t.freeCount + 1, cmd.sessions := t.cmd.sessions ++ [(i, openedSession p k t.nextNonce t.now)] }
            (leBytes 4 (t.handleAt TY.SESSION i).toNat ++ t.nextNonce) := by
  rw [opSessionOpen, if_neg (by omega), key]
  exact if_neg (not_not.mpr proof)

theorem opSessionOpen_exhausted (length : p.params.length = 17) (slot : numAt p.params 0 1 ≤ 3) (key : s.keySlot (numAt p.params 0 1) = some k)
    (proof : sessionProof k (slice p.params 1 8) p = slice p.params 9 8) (full : ((s.withoutFormer p.source).pool TY.SESSION).free = []) :
    opSessionOpen p s = refuse ((s.withoutFormer p.source).raise FS.HANDLE_EXHAUSTED) Stat.NO_RESOURCE := by
  rw [opSessionOpen_proved length slot key proof, takeIndex_none _ full]

theorem opSessionOpen_opens {i : Nat} {rest : List Nat} (length : p.params.length = 17) (slot : numAt p.params 0 1 ≤ 3)
    (key : s.keySlot (numAt p.params 0 1) = some k) (proof : sessionProof k (slice p.params 1 8) p = slice p.params 9 8)
    (free : ((s.withoutFormer p.source).pool TY.SESSION).free = i :: rest) : opSessionOpen p s =
      ok ((s.withoutFormer p.source).opened p k i rest) ((s.withoutFormer p.source).openedBytes p k i rest) := by
  rw [opSessionOpen_proved length slot key proof, takeIndex_some _ free]
  rfl

theorem withoutFormer_none (h : s.sessionOf p.source = none) : s.withoutFormer p.source = s := by rw [State.withoutFormer, h]

theorem withoutFormer_some {j : Nat} {old : Session} (h : s.sessionOf p.source = some (j, old)) :
    s.withoutFormer p.source = s.endSession j := by rw [State.withoutFormer, h]

/-- A requester without a session has the one just opened. -/
theorem opened_sessionOf {i : Nat} {rest : List Nat} (h : s.sessionOf p.source = none) :
    (s.opened p k i rest).sessionOf p.source = some (i, openedSession p k s.nextNonce s.now) := by
  rw [State.sessionOf] at h
  rw [State.sessionOf, opened_sessions, List.find?_append, h]
  simp [openedSession]

end

/-! KEY_LOAD (R136, R467). -/

section
variable {α : Type}

theorem find?_erase_ne {k n : Nat} (h : n ≠ k) (m : List (Nat × α)) :
    (Map.erase m k).find? (fun x => x.1 == n) = m.find? (fun x => x.1 == n) := by
  induction m with
  | nil => rfl
  | cons y m ih =>
    simp only [Map.erase, List.find?_cons]
    split
    · next here => rw [ih, here, beq_eq_false_iff_ne.mpr (Ne.symm h)]
    · rw [List.find?_cons, ih]

theorem find?_insert_ne {k n : Nat} (h : n ≠ k) (v : α) (m : List (Nat × α)) :
    (Map.insert m k v).find? (fun x => x.1 == n) = m.find? (fun x => x.1 == n) := by
  have other : (k == n) = false := beq_eq_false_iff_ne.mpr (Ne.symm h)
  induction m with
  | nil => rw [Map.insert, List.find?_cons, other]
  | cons y m ih =>
    simp only [Map.insert]
    split
    · rw [List.find?_cons, other]
    · rw [List.find?_cons, List.find?_cons, ih]

theorem find?_insert_fresh {k : Nat} (v : α) (m : List (Nat × α)) (fresh : ∀ y ∈ m, y.1 ≠ k) :
    (Map.insert m k v).find? (fun x => x.1 == k) = some (k, v) := by
  induction m with
  | nil => simp [Map.insert]
  | cons y m ih =>
    obtain ⟨first, others⟩ := List.forall_mem_cons.mp fresh
    simp only [Map.insert]
    split
    · simp
    · rw [List.find?_cons, beq_eq_false_iff_ne.mpr first]
      exact ih others

end

/-- A key slot filled. -/
def State.withKey (s : State) (n : Nat) (k : List Byte) : State := { s with node.keys := Map.set [] s.node.keys n k }

theorem withKey_touch (s : State) (n : Nat) (k : List Byte) : Touches [.node] [] s (s.withKey n k) := touch_node s _

theorem withKey_keys (s : State) (n : Nat) {k : List Byte} (h : k ≠ []) : (s.withKey n k).node.keys = Map.insert (Map.erase s.node.keys n) n k :=
  if_neg h

theorem keySlot_withKey_same (s : State) (n : Nat) {k : List Byte} (h : k ≠ []) : (s.withKey n k).keySlot n = some k := by
  rw [State.keySlot, withKey_keys s n h, find?_insert_fresh _ _ (Map.erase_fresh _ _)]
  rfl

theorem keySlot_withKey_ne (s : State) {n m : Nat} {k : List Byte} (h : k ≠ []) (other : m ≠ n) : (s.withKey n k).keySlot m = s.keySlot m := by
  rw [State.keySlot, State.keySlot, withKey_keys s n h, find?_insert_ne other, find?_erase_ne other]

section
variable {p : Packet} {s : State}

theorem opKeyLoad_malformed (h : p.params.length ≠ 17 ∨ 3 < numAt p.params 0 1) : opKeyLoad p s = refuse s Stat.BAD_PARAM := if_pos h

theorem opKeyLoad_denied (length : p.params.length = 17) (slot : numAt p.params 0 1 ≤ 3)
    (barred : s.st ≠ ST.CONFIG ∨ (s.sessionOf p.source).any (fun x => x.2.slot == 0) = false) : opKeyLoad p s = refuse s Stat.DENIED := by
  rw [opKeyLoad, if_neg (by omega)]
  exact if_pos (barred.imp_right (by rintro h; rw [h]; rfl))

theorem opKeyLoad_ok (length : p.params.length = 17) (slot : numAt p.params 0 1 ≤ 3) (config : s.st = ST.CONFIG)
    (master : (s.sessionOf p.source).any (fun x => x.2.slot == 0) = true) :
    opKeyLoad p s = ok (s.withKey (numAt p.params 0 1) (slice p.params 1 16)) := by
  rw [opKeyLoad, if_neg (by omega)]
  exact if_neg (by rw [config, master]; decide)

end

theorem slice_ne_nil {b : List Byte} {o n : Nat} (h : o < b.length) (some : 0 < n) : slice b o n ≠ [] := by
  apply List.ne_nil_of_length_pos
  rw [slice, List.length_take, List.length_drop]
  omega

/-! SESSION_CLOSE (R129). -/

theorem withHandle_runs {ty : Nat} {p : Packet} {s : State} (g : Nat → Packet → State → Out) (h : s.handleStatus ty p.handle = Stat.OK) :
    withHandle ty g p s = g (hIndex p.handle) p s := by
  rw [withHandle, if_pos h]

/-- SESSION_CLOSE behind the check of its handle. -/
theorem run_sessionClose {p : Packet} {s : State} (live : s.handleStatus TY.SESSION p.handle = Stat.OK) :
    rowSessionClose.run p s = if p.params ≠ [] then refuse s Stat.BAD_PARAM else ok (s.endSession (hIndex p.handle)) :=
  withHandle_runs opSessionClose live

/-! The clauses of SESSION_OPEN, and the statement. -/

section
variable {p p1 : Packet} {s s1 : State} {k : List Byte}

theorem Admitted.target {r : OpRow} (h : Admitted r p s s1 p1) : p1.target = p.target := by
  obtain ⟨k, rfl⟩ := h.packet; rfl

theorem sessionProof_admitted {r : OpRow} (h : Admitted r p s s1 p1) (nr : List Byte) : sessionProof k nr p1 = sessionProof k nr p := by
  simp only [sessionProof, sessionAddrs, h.source, h.target]

theorem sessionKey_admitted {r : OpRow} (h : Admitted r p s s1 p1) (nr nd : List Byte) : sessionKey k nr nd p1 = sessionKey k nr nd p := by
  simp only [sessionKey, sessionAddrs, h.source, h.target]

theorem sessionOpen_first {i : Nat} {rest : List Nat} (adm : Admitted rowSessionOpen p s s1 p1) (length : p.params.length = 17)
    (slot : numAt p.params 0 1 ≤ 3) (key : s1.keySlot (numAt p.params 0 1) = some k)
    (proof : sessionProof k (slice p.params 1 8) p = slice p.params 9 8) (former : s1.sessionOf p.source = none)
    (free : (s1.pool TY.SESSION).free = i :: rest) :
    ∃ (u : State) (b : List Byte), exec (.sessionOpen p) s = .next (u.answers rowSessionOpen p1 Stat.OK b) ∧ b.length = 12 ∧
      b.take 4 = leBytes 4 (u.handleAt TY.SESSION i).toNat ∧
      ∃ x, u.sessionOf p.source = some (i, x) ∧ x.source = p.source ∧ x.target = p.target ∧ x.slot = numAt p.params 0 1 ∧ x.counter = 0 ∧
        x.last = s1.now ∧ x.key = sessionKey k (slice p.params 1 8) (b.drop 4) p ∧ (∀ y ∈ s1.cmd.sessions, y ∈ u.cmd.sessions) ∧
        Touches [.cmd, .free] [] s1 u := by
  rw [← adm.params, ← adm.source] at *
  have proof := (sessionProof_admitted adm _).trans proof
  have alone := withoutFormer_none former
  have opens := opSessionOpen_opens length slot key proof (by rw [alone]; exact free)
  rw [alone] at opens
  refine ⟨_, _, exec_answers rfl adm (by decide) opens, openedBytes_length _ _ _ _ _, openedBytes_take _ _ _ _ _, _,
    opened_sessionOf former, rfl, adm.target, rfl, rfl, rfl, ?_, fun y hy => ?_, opened_touch _ _ _ _ _⟩
  · rw [openedBytes_drop]
    exact (openedSession_key _ _ _ _).trans (sessionKey_admitted adm _ _)
  · exact List.mem_append_left _ hy

theorem sessionOpen_again {i j : Nat} {rest : List Nat} {old : Session} (adm : Admitted rowSessionOpen p s s1 p1)
    (length : p.params.length = 17) (slot : numAt p.params 0 1 ≤ 3) (key : s1.keySlot (numAt p.params 0 1) = some k)
    (proof : sessionProof k (slice p.params 1 8) p = slice p.params 9 8) (former : s1.sessionOf p.source = some (j, old))
    (free : (s1.pool TY.SESSION).free ++ [j] = i :: rest) :
    ∃ (u : State) (b : List Byte) (x : Nat × Session), exec (.sessionOpen p) s = .next (u.answers rowSessionOpen p1 Stat.OK b) ∧
      x ∈ u.cmd.sessions ∧ x.1 = i ∧ b.length = 12 ∧ b.take 4 = leBytes 4 (u.handleAt TY.SESSION i).toNat ∧ x.2.source = p.source ∧
      x.2.target = p.target ∧ x.2.counter = 0 ∧ x.2.last = s1.now ∧ x.2.slot = numAt p.params 0 1 ∧
      x.2.key = sessionKey k (slice p.params 1 8) (b.drop 4) p ∧ (∀ y ∈ s1.cmd.sessions, y.1 ≠ j → y ∈ u.cmd.sessions) ∧
      (u.pool TY.SESSION).gen j = nextGen ((s1.pool TY.SESSION).gen j) ∧ Touches [.cmd, .free] [] s1 u := by
  rw [← adm.params, ← adm.source] at *
  have proof := (sessionProof_admitted adm _).trans proof
  have ended := withoutFormer_some former
  have opens := opSessionOpen_opens length slot key proof (by rw [ended, endSession_free]; exact free)
  rw [ended] at opens
  refine ⟨_, _, _, exec_answers rfl adm (by decide) opens, List.mem_append_right _ List.mem_cons_self, rfl, openedBytes_length _ _ _ _ _,
    openedBytes_take _ _ _ _ _, rfl, adm.target, rfl, rfl, rfl, ?_, fun y hy other => ?_, ?_, ?_⟩
  · rw [openedBytes_drop]
    exact (openedSession_key _ _ _ _).trans (sessionKey_admitted adm _ _)
  · exact List.mem_append_left _ (mem_endSession.mpr ⟨hy, other⟩)
  · rw [opened_gen, endSession_gen]
  · exact ((endSession_touch s1 j).mono (by simp) (by simp)).trans (opened_touch _ _ _ _ _)

theorem sessionClose_clause (adm : Admitted rowSessionClose p s s1 p1) (live : s1.handleStatus TY.SESSION p.handle = Stat.OK)
    (bare : p.params = []) :
    ∃ u : State, exec (.sessionClose p) s = .next (u.answers rowSessionClose p1 Stat.OK []) ∧
      u.handleStatus TY.SESSION p.handle = Stat.STALE_HANDLE ∧ (∀ x ∈ u.cmd.sessions, x.1 ≠ hIndex p.handle) ∧
      (∀ y ∈ s1.cmd.sessions, y.1 ≠ hIndex p.handle → y ∈ u.cmd.sessions) ∧ Touches [.cmd] [] s1 u := by
  rw [← adm.params, ← adm.handle] at *
  exact ⟨_, exec_answers rfl adm (by decide) ((run_sessionClose live).trans (if_neg (not_not.mpr bare))), endSession_stale live,
    fun x hx => (mem_endSession.mp hx).2, fun y hy other => mem_endSession.mpr ⟨hy, other⟩, endSession_touch _ _⟩

theorem keyLoad_clause (adm : Admitted rowKeyLoad p s s1 p1) (length : p.params.length = 17) (slot : numAt p.params 0 1 ≤ 3)
    (config : s1.st = ST.CONFIG) (master : (s1.sessionOf p.source).any (fun x => x.2.slot == 0) = true) :
    ∃ u : State, exec (.keyLoad p) s = .next (u.answers rowKeyLoad p1 Stat.OK []) ∧
      u.keySlot (numAt p.params 0 1) = some (slice p.params 1 16) ∧
      (∀ n, n ≠ numAt p.params 0 1 → u.keySlot n = s1.keySlot n) ∧ Touches [.node] [] s1 u := by
  rw [← adm.params, ← adm.source] at *
  have key : slice p1.params 1 16 ≠ [] := slice_ne_nil (by omega) (by decide)
  exact ⟨_, exec_answers rfl adm (by decide) (opKeyLoad_ok length slot config master), keySlot_withKey_same _ _ key,
    fun n other => keySlot_withKey_ne _ key other, withKey_touch _ _ _⟩

end

/-- Settles O8: SESSION_OPEN by its checks in turn and by the former session, SESSION_CLOSE and KEY_LOAD by theirs. -/
theorem sessionsAndKeys : Obligations.SessionsAndKeys := by
  unfold Obligations.SessionsAndKeys
  intro p p1 s s1
  refine ⟨fun adm bad => ?malformed, fun adm length slot empty => ?empty,
    fun k adm length slot key => ⟨fun wrong => ?wrong, fun proof former full => ?exhausted⟩,
    fun k i rest adm length slot key proof former free => sessionOpen_first adm length slot key proof former free,
    fun k i j rest old adm length slot key proof former free => sessionOpen_again adm length slot key proof former free,
    fun adm live bad => ?close, fun adm live bare => sessionClose_clause adm live bare, fun adm bad => ?load,
    fun adm length slot barred => ?barred, fun adm length slot config master => keyLoad_clause adm length slot config master⟩
  all_goals rw [← adm.params] at *
  case malformed => exact exec_answers rfl adm (by decide) (opSessionOpen_malformed bad)
  case empty => exact exec_answers rfl adm (by decide) (opSessionOpen_empty length slot empty)
  case wrong => exact exec_answers rfl adm (by decide) (opSessionOpen_wrong length slot key ((sessionProof_admitted adm _).trans_ne wrong))
  case exhausted =>
    rw [← adm.source] at former
    have alone := withoutFormer_none former
    have refuses := opSessionOpen_exhausted length slot key ((sessionProof_admitted adm _).trans proof) (by rw [alone]; exact full)
    rw [alone] at refuses
    exact exec_answers rfl adm (by decide) refuses
  case close =>
    rw [← adm.handle] at live
    exact exec_answers rfl adm (by decide) ((run_sessionClose live).trans (if_pos bad))
  case load => exact exec_answers rfl adm (by decide) (opKeyLoad_malformed bad)
  case barred =>
    rw [← adm.source] at barred
    exact exec_answers rfl adm (by decide) (opKeyLoad_denied length slot barred)

end Sys2Proof.Machine
end

section
/-!
SUPPORT. The end of an object (04 R124 to R126): what each owner gives back, the destroy that begins and ends, and the end of an idle
session.
-/
namespace Sys2Proof.Machine
open Sys2Proof

/-! Registers put to 0. -/

theorem reg_setReg_zero {s : State} {a b : Nat} (h : s.reg a = 0) : (s.setReg b 0).reg a = 0 := by
  by_cases same : a = b
  · rw [same, State.reg_setReg_same]
  · rw [State.reg_setReg_ne s 0 same, h]

/-- Every register of `l` is put to 0. -/
def State.zero (s : State) (l : List Nat) : State := s.each l (fun s a => s.setReg a 0)

theorem zero_keeps {s : State} {a : Nat} (l : List Nat) (h : s.reg a = 0) : (s.zero l).reg a = 0 :=
  State.each_keeps (fun s => s.reg a = 0) l _ (fun _ _ => reg_setReg_zero) s h

theorem reg_zero {l : List Nat} {a : Nat} (h : a ∈ l) (s : State) : (s.zero l).reg a = 0 := by
  induction l generalizing s with
  | nil => cases h
  | cons b l ih =>
    rcases List.mem_cons.mp h with rfl | later
    · exact zero_keeps l (State.reg_setReg_same s a 0)
    · exact ih later _

theorem zero_touch (s : State) (l : List Nat) : Touches [] l s (s.zero l) :=
  Touches.each l _ (fun s a h => (touch_setReg s a 0).mono (by simp) (by simpa)) s

/-- What one element of a pass brings about, and the others keep, holds after it. -/
theorem each_reaches {α : Type} {P Q : State → Prop} {l : List α} {g : State → α → State} {x : α} (hx : x ∈ l)
    (stays : ∀ s, ∀ y ∈ l, Q s → Q (g s y)) (sets : ∀ s, Q s → P (g s x))
    (keeps : ∀ s, ∀ y ∈ l, y ≠ x → Q s → P s → P (g s y)) {s : State} (start : Q s) : P (s.each l g) := by
  induction l generalizing s with
  | nil => cases hx
  | cons y l ih =>
    have staysLater (s : State) (z : α) (hz : z ∈ l) : Q s → Q (g s z) := stays s z (List.mem_cons_of_mem _ hz)
    have keepsLater (s : State) (z : α) (hz : z ∈ l) : z ≠ x → Q s → P s → P (g s z) := keeps s z (List.mem_cons_of_mem _ hz)
    have started : Q (g s y) := stays s y List.mem_cons_self start
    by_cases same : y = x
    · subst same
      refine (State.each_keeps_mem (fun u => Q u ∧ P u) l g (fun u z hz => ?_) _ ⟨started, sets s start⟩).2
      rintro ⟨hq, hp⟩
      refine ⟨staysLater u z hz hq, ?_⟩
      by_cases again : z = y
      · exact again ▸ sets u hq
      · exact keepsLater u z hz again hq hp
    · exact ih ((List.mem_cons.mp hx).resolve_left (Ne.symm same)) staysLater keepsLater started

theorem each_zero {α : Type} (g : α → List Nat) {x : α} {a : Nat} (ha : a ∈ g x) {l : List α} (h : x ∈ l) (s : State) :
    (s.each l (fun s x => s.zero (g x))).reg a = 0 :=
  each_reaches (P := fun u => u.reg a = 0) (Q := fun _ => True) h (fun _ _ _ _ => trivial) (fun u _ => reg_zero ha u)
    (fun _ y _ _ _ => zero_keeps (g y)) trivial

/-! A loop (R233). -/

theorem leaveOut_touch (s : State) (n : Nat) : Touches [.loop] [] s (s.leaveOut n) := touch_loop s _

theorem loopUse_touch (s : State) : Touches [] [A.LOOP_USE] s s.loopUse := by
  rw [State.loopUse]
  exact (touch_field s _ _ (by simp)).trans (touch_field _ _ _ (by simp))

theorem loopRegs_touch (s : State) : Touches [] [A.LOOP_WIN, A.LOOP_PROG] s s.loopRegs := by
  rw [State.loopRegs]
  exact ((touch_field s _ _ (by simp)).trans (touch_field _ _ _ (by simp))).then (touch_setReg _ _ _) (by simp) (by simp)

/-- The loop's registers are 0 and its part of the engine is as new, before LOOP_USE and its like follow. -/
def State.loopGone (s : State) (n : Nat) : State :=
  ((s.leaveOut n).setLoopSt n {}).zero [A.LOOP_L_CFG n, A.LOOP_L_TIM n, A.LOOP_L_SCHED n, A.LOOP_L_RUNS n]

theorem freeLoop_eq (s : State) (n : Nat) : s.freeLoop n = (s.loopGone n).loopUse.loopRegs := rfl

theorem loopUse_loopRegs_touch (s : State) : Touches [] [A.LOOP_USE, A.LOOP_WIN, A.LOOP_PROG] s s.loopUse.loopRegs :=
  ((loopUse_touch s).mono (by simp) (by simp)).then (loopRegs_touch _) (by simp) (by simp)

theorem freeLoop_touch (s : State) (n : Nat) : Touches [.loop] (s.freedRegs TY.LOOP n) s (s.freeLoop n) := by
  rw [freeLoop_eq]
  have gone : Touches [.loop] [A.LOOP_L_CFG n, A.LOOP_L_TIM n, A.LOOP_L_SCHED n, A.LOOP_L_RUNS n] s (s.loopGone n) :=
    (((leaveOut_touch s n).trans (touch_setLoopSt _ n {})).mono (by simp) (by simp)).then (zero_touch _ _) (by simp) (by simp)
  exact (gone.mono (by simp) (by simp [State.freedRegs])).then (loopUse_loopRegs_touch _) (by simp) (by simp [State.freedRegs])

theorem State.loopSt_setLoopSt_same (s : State) (n : Nat) (x : LoopSt) : (s.setLoopSt n x).loopSt n = x := Map.get_set_same _ _ _ _

theorem freeLoop_loopSt (s : State) (n : Nat) : (s.freeLoop n).loopSt n = {} := by
  have kept : (s.freeLoop n).loop = ((s.leaveOut n).setLoopSt n {}).loop :=
    ((zero_touch _ _).mono (qs := []) (by simp) (fun _ h => List.mem_append_left _ h)).then (loopUse_loopRegs_touch _) (by simp)
      (fun _ h => List.mem_append_right _ h) |>.loop (by simp)
  rw [State.loopSt, kept, ← State.loopSt, State.loopSt_setLoopSt_same]

theorem freeLoop_cfg (s : State) (n : Nat) : (s.freeLoop n).reg (A.LOOP_L_CFG n) = 0 := by
  rw [freeLoop_eq]
  refine ((loopUse_loopRegs_touch _).2 _ ?_).trans (reg_zero (by simp) _)
  simp only [A.LOOP_L_CFG, A.LOOP_USE, A.LOOP_WIN, A.LOOP_PROG, List.mem_cons, List.not_mem_nil, or_false]
  omega

/-! A channel (06 R186). -/

theorem freeChan_touch (s : State) (c : Nat) : Touches [.swu] (s.freedRegs TY.CHANNEL c) s (s.freeChan c) := by
  rw [State.freeChan]
  have field (t : State) (x : Fld) (h : x.addr = A.SWU_P_CFG (s.chanPair c)) :
      Touches [.swu] (s.freedRegs TY.CHANNEL c) t (t.setF x 0) := touch_field t x 0 (List.mem_singleton.mpr h)
  exact ((((field s _ rfl).trans (field _ _ rfl)).trans (field _ _ rfl)).trans (field _ _ rfl)).then (touch_updPair _ _ _) (by simp) (by simp)

theorem freeChan_mode (s : State) (c : Nat) : (s.freeChan c).f (F.SWU_P_CFG_MODE (s.chanPair c)) = 0 := by
  unfold State.freeChan
  dsimp only
  generalize s.chanPair c = n
  rw [(touch_updPair _ _ _).f (by simp), State.f_setF_apart _ _ _ _ (by rfl) (by rfl) (by simp [Fld.apart]),
    State.f_setF_apart _ _ _ _ (by rfl) (by rfl) (by simp [Fld.apart]),
    State.f_setF_apart _ _ _ _ (by rfl) (by rfl) (by simp [Fld.apart]), State.f_setF_same _ _ _ (by rfl)]
  rfl

/-! A sequence (08 R241). -/

/-- The registers of a sequence's entry `e`. -/
def seqEntryRegs (q e : Nat) : List Nat := [A.MEAS_RES q e, A.MEAS_Q_E q e]

theorem freeSeq_eq (s : State) (q : Nat) : s.freeSeq q =
    ((s.zero [A.MEAS_Q_CFG q, A.MEAS_Q_OFS q, A.MEAS_Q_T0 q, A.MEAS_Q_STAT q]).each (List.range 32)
      (fun s e => s.zero (seqEntryRegs q e))).setSeq q {} := rfl

theorem freeSeq_touch (s : State) (q : Nat) : Touches [.meas] (s.freedRegs TY.SEQUENCE q) s (s.freeSeq q) := by
  rw [freeSeq_eq]
  refine (((zero_touch s _).mono (by simp) (by simp [State.freedRegs])).trans (Touches.each _ _ (fun s e he => ?_) _)).then
    (touch_setSeq _ _ _) (by simp) (by simp)
  exact (zero_touch s _).mono (by simp) (fun a ha => List.mem_append_right _ (List.mem_flatMap.mpr ⟨e, he, ha⟩))

theorem freeSeq_seq (s : State) (q : Nat) : (s.freeSeq q).seq q = {} := by
  rw [freeSeq_eq, State.seq_setSeq_same]

theorem freeSeq_cfg (s : State) (q : Nat) : (s.freeSeq q).reg (A.MEAS_Q_CFG q) = 0 := by
  rw [freeSeq_eq, (touch_setSeq _ _ _).2 _ (by simp)]
  exact State.each_keeps (fun s => s.reg (A.MEAS_Q_CFG q) = 0) (List.range 32) _ (fun _ _ => zero_keeps _) _ (reg_zero (by simp) s)

theorem freeSeq_result (s : State) (q : Nat) {e : Nat} (h : e < 32) : (s.freeSeq q).reg (A.MEAS_RES q e) = 0 := by
  rw [freeSeq_eq, (touch_setSeq _ _ _).2 _ (by simp)]
  exact each_zero (seqEntryRegs q) List.mem_cons_self (List.mem_range.mpr h) _

/-! A capture and a trend (09 R256, R260). -/

theorem showFree_touch (s : State) : Touches [] [A.REC_POOL] s s.showFree := by
  rw [State.showFree]
  exact touch_field s _ _ (by simp)

/-- The registers that show a capture, then those that count the free pages. -/
theorem captureRegs_touch (s : State) (n : Nat) : Touches [] (s.freedRegs TY.CAPTURE n) s
    (s.zero [A.REC_CAP_STAT n, A.REC_CAP_PRE n, A.REC_CAP_POST n]).showFree :=
  ((zero_touch s _).mono (by simp) (by simp [State.freedRegs])).then (showFree_touch _) (by simp) (by simp [State.freedRegs])

theorem freeCapture_eq (s : State) (n : Nat) :
    s.freeCapture n = ((s.setCap n {}).zero [A.REC_CAP_STAT n, A.REC_CAP_PRE n, A.REC_CAP_POST n]).showFree := rfl

theorem freeCapture_touch (s : State) (n : Nat) : Touches [.recorder] (s.freedRegs TY.CAPTURE n) s (s.freeCapture n) := by
  rw [freeCapture_eq]
  exact ((touch_setCap s n {}).mono (by simp) (by simp)).then (captureRegs_touch _ n) (by simp) (fun _ h => h)

theorem freeCapture_cap (s : State) (n : Nat) : (s.freeCapture n).cap n = {} := by
  have kept : (s.freeCapture n).recorder = (s.setCap n {}).recorder := by
    rw [freeCapture_eq]
    exact (captureRegs_touch _ n).1 .recorder (by simp)
  rw [State.cap, kept, ← State.cap, State.cap_setCap_same]

theorem trendRegs_touch (s : State) (n : Nat) : Touches [] (s.freedRegs TY.TREND n) s
    (s.zero [A.REC_TR_STAT n, A.REC_TR_BLOCKS n, A.REC_TR_LOST n]).showFree :=
  ((zero_touch s _).mono (by simp) (by simp [State.freedRegs])).then (showFree_touch _) (by simp) (by simp [State.freedRegs])

theorem freeTrend_eq (s : State) (n : Nat) :
    s.freeTrend n = ((s.setTrend n {}).zero [A.REC_TR_STAT n, A.REC_TR_BLOCKS n, A.REC_TR_LOST n]).showFree := rfl

theorem freeTrend_touch (s : State) (n : Nat) : Touches [.recorder] (s.freedRegs TY.TREND n) s (s.freeTrend n) := by
  rw [freeTrend_eq]
  exact ((touch_setTrend s n {}).mono (by simp) (by simp)).then (trendRegs_touch _ n) (by simp) (fun _ h => h)

theorem freeTrend_trend (s : State) (n : Nat) : (s.freeTrend n).trend n = {} := by
  have kept : (s.freeTrend n).recorder = (s.setTrend n {}).recorder := by
    rw [freeTrend_eq]
    exact (trendRegs_touch _ n).1 .recorder (by simp)
  rw [State.trend, kept, ← State.trend, State.trend_setTrend_same]

/-! A thread, a flow, a mailbox (R306, 16 R416). -/

/-- The flow at port `p` of thread `n`, if the port takes one, stands detached. -/
def State.detachPort (s : State) (n p : Nat) : State :=
  if s.portKind n p = 2 then
    ((s.setF (F.DISP_F_CFG_ATTACHED (s.portArg n p)) 0).setF (F.DISP_F_CFG_THREAD (s.portArg n p)) 0).setF (F.DISP_F_CFG_PORT (s.portArg n p)) 0
  else s

theorem detachPort_touch (s : State) (n p : Nat) : Touches [] [A.DISP_F_CFG (s.portArg n p)] s (s.detachPort n p) := by
  unfold State.detachPort
  split
  · exact ((touch_field s _ _ (by simp)).trans (touch_field _ _ _ (by simp))).trans (touch_field _ _ _ (by simp))
  · exact Touches.refl _ _ _

theorem freeThread_eq (s : State) (n : Nat) : s.freeThread n =
    ((s.each (List.range 4) (fun s p => s.detachPort n p)).zero
      [A.DISP_T_CFG n, A.DISP_T_PORTS n, A.DISP_T_STAT n, A.DISP_T_TRAP n]).setThread n {} := rfl

/-- Detaching the flows of a thread leaves its ports as they are, so each pass reads the port as it stood. -/
theorem detachPorts_touch (s : State) (n : Nat) : Touches [] ((List.range 4).map (fun p => A.DISP_F_CFG (s.portArg n p))) s
    (s.each (List.range 4) (fun s p => s.detachPort n p)) := by
  refine State.each_keeps_mem (fun u => Touches [] _ s u) (List.range 4) _ (fun u p hp kept => ?_) s (Touches.refl _ _ _)
  have ports : u.reg (A.DISP_T_PORTS n) = s.reg (A.DISP_T_PORTS n) := by
    refine kept.2 _ fun h => ?_
    obtain ⟨p, -, same⟩ := List.mem_map.mp h
    simp only [A.DISP_F_CFG, A.DISP_T_PORTS] at same
    omega
  have arg : u.portArg n p = s.portArg n p := by rw [State.portArg, State.portArg, State.portByte, State.portByte, ports]
  refine kept.then (detachPort_touch u n p) (by simp) fun a ha => ?_
  rw [List.mem_singleton.mp ha, arg]
  exact List.mem_map.mpr ⟨p, hp, rfl⟩

theorem freeThread_touch (s : State) (n : Nat) : Touches [.disp] (s.freedRegs TY.THREAD n) s (s.freeThread n) := by
  rw [freeThread_eq]
  exact (((detachPorts_touch s n).mono (by simp) (fun _ h => List.mem_append_right _ h)).then (zero_touch _ _) (by simp)
    (fun _ h => List.mem_append_left _ h)).then (touch_setThread _ _ _) (by simp) (by simp)

theorem freeThread_cfg (s : State) (n : Nat) : (s.freeThread n).reg (A.DISP_T_CFG n) = 0 := by
  rw [freeThread_eq, (touch_setThread _ _ _).2 _ (by simp)]
  exact reg_zero (by simp) _

theorem touch_disp (s : State) (x : Disp) : Touches [.disp] [] s { s with disp := x } :=
  ⟨fun p hp => by cases p <;> simp_all [Part.same], fun _ _ => rfl⟩

theorem setFlow_touch (s : State) (n : Nat) (l : List Operand) : Touches [.disp] [A.DISP_F_STAT n] s (s.setFlow n l) := by
  rw [State.setFlow]
  exact ((touch_disp s _).mono (by simp) (by simp)).trans (touch_field _ _ _ (by simp))

theorem freeFlow_eq (s : State) (n : Nat) : s.freeFlow n = (s.setFlow n []).zero [A.DISP_F_CFG n, A.DISP_F_STAT n] := rfl

theorem freeFlow_touch (s : State) (n : Nat) : Touches [.disp] (s.freedRegs TY.FLOW n) s (s.freeFlow n) := by
  rw [freeFlow_eq]
  exact ((setFlow_touch s n []).mono (by simp) (by simp [State.freedRegs])).then (zero_touch _ _) (by simp) (by simp [State.freedRegs])

theorem freeFlow_cfg (s : State) (n : Nat) : (s.freeFlow n).reg (A.DISP_F_CFG n) = 0 := by
  rw [freeFlow_eq]
  exact reg_zero (by simp) _

theorem freeBox_eq (s : State) (m : Nat) : s.freeBox m =
    (s.each (List.range 32) (fun s w => s.zero [A.FBUS_M_CFG m + 4 * w])).updBox m (fun _ => {}) := rfl

theorem freeBox_touch (s : State) (m : Nat) : Touches [.fbus] (s.freedRegs TY.MAILBOX m) s (s.freeBox m) := by
  rw [freeBox_eq]
  refine (Touches.each _ _ (fun s w hw => ?_) s).then (touch_updBox _ _ _) (by simp) (by simp)
  exact (zero_touch s _).mono (by simp) (fun a ha => List.mem_map.mpr ⟨w, hw, (List.mem_singleton.mp ha).symm⟩)

theorem freeBox_cfg (s : State) (m : Nat) : (s.freeBox m).reg (A.FBUS_M_CFG m) = 0 := by
  rw [freeBox_eq, (touch_updBox _ _ _).2 _ (by simp)]
  exact each_zero (x := 0) (fun w => [A.FBUS_M_CFG m + 4 * w]) List.mem_cons_self (by decide) s

/-! An object of any type. -/

theorem freeObject_touch (s : State) (ty i : Nat) : Touches (freedParts ty) (s.freedRegs ty i) s (s.freeObject ty i) := by
  unfold State.freeObject
  split
  case h_1 => exact freeLoop_touch s i
  case h_2 => exact freeChan_touch s i
  case h_3 => exact freeSeq_touch s i
  case h_4 => exact freeCapture_touch s i
  case h_5 => exact freeTrend_touch s i
  case h_6 => exact freeThread_touch s i
  case h_7 => exact freeFlow_touch s i
  case h_8 => exact freeBox_touch s i
  case h_9 => exact touch_setReg s _ 0
  case h_10 => exact Touches.refl _ _ _

theorem cmd_not_freed (ty : Nat) : Part.cmd ∉ freedParts ty := by
  unfold freedParts
  split <;> simp

theorem freeObject_cmd (s : State) (ty i : Nat) : (s.freeObject ty i).cmd = s.cmd := (freeObject_touch s ty i).cmd (cmd_not_freed ty)

/-! The destroy of an object begins, and ends (R126). -/

theorem anyHandleStatus_ok {s : State} {h : Word} (ok : s.anyHandleStatus h = Stat.OK) :
    (1 ≤ hType h ∧ hType h ≤ 10) ∧ s.handleStatus (hType h) h = Stat.OK := by
  unfold State.anyHandleStatus at ok
  split at ok
  · cases ok
  · exact ⟨by omega, ok⟩

theorem anyHandleStatus_of_type {s : State} {h : Word} (type : 1 ≤ hType h ∧ hType h ≤ 10) :
    s.anyHandleStatus h = s.handleStatus (hType h) h := if_neg (by omega)

/-- An entry of a pool, its object being destroyed for command `p` when it stands at index `i`. -/
def dyingAt (i : Nat) (p : Packet) (x : Nat × Handle) : Nat × Handle := if x.1 = i then (i, { x.2 with dying := some p }) else x

theorem dyingAt_index {i : Nat} {p : Packet} {x : Nat × Handle} (h : (dyingAt i p x).1 = i) : (dyingAt i p x).2.dying = some p := by
  by_cases same : x.1 = i
  · rw [dyingAt, if_pos same]
  · rw [dyingAt, if_neg same] at h
    exact absurd h same

theorem dyingAt_same {i : Nat} {p : Packet} {x : Nat × Handle} (h : x.1 = i) : (dyingAt i p x).1 = i := by
  rw [dyingAt, if_pos h]

theorem startDestroy_pool (s : State) (ty i : Nat) (p : Packet) : (s.startDestroy ty i p).pool ty =
    { s.pool ty with gens := Map.set 1 (s.pool ty).gens i (nextGen ((s.pool ty).gen i)), live := (s.pool ty).live.map (dyingAt i p) } :=
  State.pool_setPool_same _ _ _

theorem startDestroy_touch (s : State) (ty i : Nat) (p : Packet) : Touches [.cmd] [] s (s.startDestroy ty i p) := touch_setPool _ _ _

theorem startDestroy_gen (s : State) (ty i : Nat) (p : Packet) :
    ((s.startDestroy ty i p).pool ty).gen i = nextGen ((s.pool ty).gen i) := by
  rw [startDestroy_pool]
  exact Map.get_set_same _ _ _ _

theorem startDestroy_object (s : State) (ty i : Nat) (p : Packet) : ((s.startDestroy ty i p).pool ty).object i = none := by
  rw [startDestroy_pool, Pool.object, List.find?_eq_none.mpr]
  · rfl
  · simp only [List.mem_map, Bool.and_eq_true, beq_iff_eq, not_and]
    rintro y ⟨x, -, rfl⟩ here
    rw [dyingAt_index here]
    simp

/-- The first entry of the index, which an object of it gives, is being destroyed for the command. -/
theorem find?_dyingAt {l : List (Nat × Handle)} {i : Nat} (p : Packet) (h : ∃ x ∈ l, x.1 = i) :
    ((l.map (dyingAt i p)).find? (fun x => x.1 == i && x.2.dying.isSome && true)).map (fun x => x.2.dying) = some (some p) := by
  cases found : (l.map (dyingAt i p)).find? (fun x => x.1 == i && x.2.dying.isSome && true) with
  | none =>
    obtain ⟨x, hx, here⟩ := h
    have index := dyingAt_same (p := p) here
    exact absurd (List.find?_eq_none.mp found _ (List.mem_map_of_mem hx)) (by simp [index, dyingAt_index index])
  | some y =>
    obtain ⟨x, -, rfl⟩ := List.mem_map.mp (List.mem_of_find?_eq_some found)
    have here := List.find?_some found
    simp only [Bool.and_true, Bool.and_eq_true, beq_iff_eq] at here
    rw [Option.map_some, dyingAt_index here.1]

theorem live_of_object {q : Pool} {i : Nat} (h : (q.object i).isSome = true) : ∃ x ∈ q.live, x.1 = i := by
  rw [Pool.object, Option.isSome_map, List.find?_isSome] at h
  obtain ⟨x, hx, here⟩ := h
  exact ⟨x, hx, beq_iff_eq.mp (Bool.and_eq_true_iff.mp here).1⟩

/-- The old handle names the object while it is being destroyed. -/
theorem startDestroy_dyingObject {s : State} {h : Word} (p : Packet) (live : s.handleStatus (hType h) h = Stat.OK) :
    ((s.startDestroy (hType h) (hIndex h) p).dyingObject h).map (·.dying) = some (some p) := by
  obtain ⟨-, -, object, gen⟩ := handleStatus_ok_iff.mp live
  have aged : (nextGen (hGen h) == ((s.startDestroy (hType h) (hIndex h) p).pool (hType h)).gen (hIndex h)) = true := by
    rw [startDestroy_gen, gen, beq_self_eq_true]
  rw [State.dyingObject, aged, startDestroy_pool, Option.map_map]
  exact find?_dyingAt p (live_of_object object)

/-- What HANDLE_DESTROY leaves: the owner has its memory back, the destroy has begun, and a session is held no longer. -/
def State.destroyed (s : State) (ty i : Nat) (p : Packet) : State :=
  let s := (s.freeObject ty i).startDestroy ty i p
  if ty = TY.SESSION then { s with cmd.sessions := s.cmd.sessions.filter (fun x => x.1 != i) } else s

theorem destroyed_pool (s : State) (ty i : Nat) (p : Packet) (k : Nat) :
    (s.destroyed ty i p).pool k = ((s.freeObject ty i).startDestroy ty i p).pool k := by
  unfold State.destroyed
  dsimp only
  split <;> rfl

theorem destroyed_freed (s : State) (ty i : Nat) (p : Packet) : Touches [.cmd] [] (s.freeObject ty i) (s.destroyed ty i p) := by
  unfold State.destroyed
  dsimp only
  split
  · exact (startDestroy_touch _ _ _ _).trans (touch_cmd _ _)
  · exact startDestroy_touch _ _ _ _

theorem destroyed_touch (s : State) (ty i : Nat) (p : Packet) : Touches (.cmd :: freedParts ty) (s.freedRegs ty i) s (s.destroyed ty i p) :=
  ((freeObject_touch s ty i).mono (by simp +contextual) (fun _ h => h)).then (destroyed_freed s ty i p) (by simp) (by simp)

theorem freeObject_handleStatus (s : State) (ty i k : Nat) (h : Word) : (s.freeObject ty i).handleStatus k h = s.handleStatus k h := by
  unfold State.handleStatus State.pool
  rw [freeObject_cmd]

theorem destroyed_stale {s : State} {h : Word} (p : Packet) (ok : s.anyHandleStatus h = Stat.OK) :
    (s.destroyed (hType h) (hIndex h) p).anyHandleStatus h = Stat.STALE_HANDLE := by
  obtain ⟨type, live⟩ := anyHandleStatus_ok ok
  obtain ⟨-, index, -, -⟩ := handleStatus_ok_iff.mp live
  rw [anyHandleStatus_of_type type]
  refine handleStatus_of_no_object rfl index ?_
  rw [destroyed_pool, startDestroy_object]

theorem destroyed_dyingObject {s : State} {h : Word} (p : Packet) (ok : s.anyHandleStatus h = Stat.OK) :
    ((s.destroyed (hType h) (hIndex h) p).dyingObject h).map (·.dying) = some (some p) := by
  obtain ⟨-, live⟩ := anyHandleStatus_ok ok
  rw [State.dyingObject, destroyed_pool]
  exact startDestroy_dyingObject p ((freeObject_handleStatus s _ _ _ h).trans live)

theorem destroyed_sessions (s : State) (i : Nat) (p : Packet) : ∀ x ∈ (s.destroyed TY.SESSION i p).cmd.sessions, x.1 ≠ i := by
  intro x hx
  rw [State.destroyed, if_pos rfl] at hx
  exact bne_iff_ne.mp (List.mem_filter.mp hx).2

section
variable {p : Packet} {s : State}

theorem opHandleDestroy_malformed (h : p.params ≠ []) : opHandleDestroy p s = refuse s Stat.BAD_PARAM := if_pos h

theorem opHandleDestroy_stale (bare : p.params = []) (h : s.anyHandleStatus p.handle ≠ Stat.OK) :
    opHandleDestroy p s = refuse s (s.anyHandleStatus p.handle) := by
  rw [opHandleDestroy, if_neg (not_not.mpr bare), if_pos h]

theorem opHandleDestroy_bound (bare : p.params = []) (ok : s.anyHandleStatus p.handle = Stat.OK)
    (h : s.bound (hType p.handle) (hIndex p.handle) = true ∨ (hType p.handle = TY.SESSION ∧ s.carriedBy p = some (hIndex p.handle))) :
    opHandleDestroy p s = refuse s Stat.DENIED := by
  rw [opHandleDestroy, if_neg (not_not.mpr bare), if_neg (not_not.mpr ok), if_pos h]

theorem opHandleDestroy_accepted (bare : p.params = []) (ok : s.anyHandleStatus p.handle = Stat.OK)
    (unbound : s.bound (hType p.handle) (hIndex p.handle) = false)
    (other : hType p.handle = TY.SESSION → s.carriedBy p ≠ some (hIndex p.handle)) :
    opHandleDestroy p s = accepted (s.destroyed (hType p.handle) (hIndex p.handle) p) := by
  rw [opHandleDestroy, if_neg (not_not.mpr bare), if_neg (not_not.mpr ok),
    if_neg (not_or.mpr ⟨by simp [unbound], fun ⟨type, carried⟩ => other type carried⟩)]
  rfl

end

/-! HANDLE_DESTROY_DONE (R126) and SESSION_IDLE (R129). -/

theorem freeIndex_pool (s : State) (ty i : Nat) : (s.freeIndex ty i).pool ty =
    { s.pool ty with free := (s.pool ty).free ++ [i], live := (s.pool ty).live.filter (fun x => x.1 != i) } :=
  State.pool_setPool_same _ _ _

theorem freeIndex_free (s : State) (ty i : Nat) : ((s.freeIndex ty i).pool ty).free = (s.pool ty).free ++ [i] := by rw [freeIndex_pool]

theorem freeIndex_dyingObject (s : State) (h : Word) : (s.freeIndex (hType h) (hIndex h)).dyingObject h = none := by
  rw [State.dyingObject, freeIndex_pool, List.find?_eq_none.mpr]
  · rfl
  · simp +contextual

theorem freeIndex_touch (s : State) (ty i : Nat) : Touches [.cmd] [] s (s.freeIndex ty i) := touch_setPool _ _ _

theorem onHandleDestroyDone_none {s : State} {h : Word} (gone : s.dyingObject h = none) : onHandleDestroyDone h s = s := by
  rw [onHandleDestroyDone, gone]

theorem onHandleDestroyDone_some {s : State} {h : Word} {o : Handle} {p : Packet} (object : s.dyingObject h = some o)
    (dying : o.dying = some p) : onHandleDestroyDone h s = (s.freeIndex (hType h) (hIndex h)).finalReply 0x0101 p Stat.OK [] := by
  rw [onHandleDestroyDone, object]
  dsimp only
  rw [dying]

theorem exec_handleDestroyDone {s : State} (h : Word) (on : s.running = true) :
    exec (.handleDestroyDone h) s = .next (onHandleDestroyDone h s).wrapUp := congrArg _ (runEvent_running _ on)

theorem exec_sessionIdle {s : State} (n : Fin 8) (on : s.running = true) :
    exec (.sessionIdle n) s = .next (onSessionIdle n s).wrapUp := congrArg _ (runEvent_running _ on)

theorem onSessionIdle_none {s : State} {n : Fin 8} (h : s.cmd.sessions.find? (fun x => x.1 == n.val) = none) : onSessionIdle n s = s := by
  rw [onSessionIdle, h]

/-- The state at the end of the idle time of session `x`, at index `i`. -/
def State.idleEnd (s : State) (i : Nat) (x : Session) : State := (s.reachNow (x.last + s.f F.CMD_AUTH_IDLE * 1000000000)).endSession i

theorem onSessionIdle_some {s : State} {n : Fin 8} {i : Nat} {x : Session} (h : s.cmd.sessions.find? (fun x => x.1 == n.val) = some (i, x)) :
    onSessionIdle n s = s.idleEnd i x := by
  rw [onSessionIdle, h]
  rfl

theorem mem_idleEnd {s : State} {i : Nat} {x : Session} {y : Nat × Session} :
    y ∈ (s.idleEnd i x).cmd.sessions ↔ y ∈ s.cmd.sessions ∧ y.1 ≠ i := by
  rw [State.idleEnd, mem_endSession, reachNow_cmd]

theorem idleEnd_gen (s : State) (i : Nat) (x : Session) : ((s.idleEnd i x).pool TY.SESSION).gen i = nextGen ((s.pool TY.SESSION).gen i) := by
  rw [State.idleEnd, endSession_gen, State.pool, reachNow_cmd, State.pool]

theorem idleEnd_now (s : State) (i : Nat) (x : Session) : x.last + s.f F.CMD_AUTH_IDLE * 1000000000 ≤ (s.idleEnd i x).now := by
  rw [State.idleEnd, (endSession_touch _ i).now (by simp)]
  exact reachNow_le s _

theorem idleEnd_touch (s : State) (i : Nat) (x : Session) : Touches [.cmd, .clk] [] s (s.idleEnd i x) :=
  ((reachNow_touch s _).mono (by simp) (by simp)).then (endSession_touch _ i) (by simp) (by simp)

/-! The clauses of HANDLE_DESTROY, and the statement. -/

/-- What a live handle's object leaves when it is destroyed, by its type. -/
theorem destroyed_object (s : State) (ty i : Nat) (p : Packet) :
    (ty = TY.LOOP → (s.destroyed ty i p).loopSt i = {} ∧ (s.destroyed ty i p).reg (A.LOOP_L_CFG i) = 0) ∧
    (ty = TY.CHANNEL → (s.destroyed ty i p).f (F.SWU_P_CFG_MODE (s.chanPair i)) = 0) ∧
    (ty = TY.SEQUENCE → (s.destroyed ty i p).seq i = {} ∧ (s.destroyed ty i p).reg (A.MEAS_Q_CFG i) = 0 ∧
      ∀ e < 32, (s.destroyed ty i p).reg (A.MEAS_RES i e) = 0) ∧
    (ty = TY.CAPTURE → (s.destroyed ty i p).cap i = {}) ∧ (ty = TY.TREND → (s.destroyed ty i p).trend i = {}) ∧
    (ty = TY.THREAD → (s.destroyed ty i p).reg (A.DISP_T_CFG i) = 0) ∧
    (ty = TY.FLOW → (s.destroyed ty i p).reg (A.DISP_F_CFG i) = 0) ∧
    (ty = TY.MAILBOX → (s.destroyed ty i p).reg (A.FBUS_M_CFG i) = 0) ∧
    (ty = TY.LOCK → (s.destroyed ty i p).reg (A.DISP_L i) = 0) ∧
    (ty = TY.SESSION → ∀ x ∈ (s.destroyed ty i p).cmd.sessions, x.1 ≠ i) := by
  have freed := destroyed_freed s ty i p
  have reg (a : Nat) : (s.destroyed ty i p).reg a = (s.freeObject ty i).reg a := freed.2 a (by simp)
  have loop : (s.destroyed ty i p).loop = (s.freeObject ty i).loop := freed.1 .loop (by simp)
  have meas : (s.destroyed ty i p).meas = (s.freeObject ty i).meas := freed.1 .meas (by simp)
  have recorder : (s.destroyed ty i p).recorder = (s.freeObject ty i).recorder := freed.1 .recorder (by simp)
  simp only [reg, freed.f (List.not_mem_nil), State.loopSt, State.seq, State.cap, State.trend, loop, meas, recorder]
  refine ⟨?_, ?_, ?_, ?_, ?_, ?_, ?_, ?_, ?_, ?_⟩
  all_goals rintro rfl
  · exact ⟨freeLoop_loopSt s i, freeLoop_cfg s i⟩
  · exact freeChan_mode s i
  · exact ⟨freeSeq_seq s i, freeSeq_cfg s i, fun e => freeSeq_result s i⟩
  · exact freeCapture_cap s i
  · exact freeTrend_trend s i
  · exact freeThread_cfg s i
  · exact freeFlow_cfg s i
  · exact freeBox_cfg s i
  · exact State.reg_setReg_same s _ 0
  · exact destroyed_sessions s i p

/-- Settles O9: HANDLE_DESTROY by its checks in turn and by what each type's owner gives back; its end and a session's by theirs. -/
theorem handleDestroyStale : Obligations.HandleDestroyStale := by
  unfold Obligations.HandleDestroyStale
  refine ⟨fun p p1 s s1 adm bad => ?malformed, fun p p1 s s1 adm bare stale => ?stale, fun p p1 s s1 adm bare ok bound => ?bound,
    fun p p1 s s1 adm bare ok unbound other => ?destroyed, fun h s on gone => ?gone, fun h s o p on object dying => ?done,
    fun n s on none => ?none, fun n x s on found => ?idle⟩
  case malformed =>
    rw [← adm.params] at bad
    exact exec_answers rfl adm (by decide) (opHandleDestroy_malformed bad)
  case stale =>
    rw [← adm.params, ← adm.handle] at *
    exact exec_answers rfl adm (by decide) (opHandleDestroy_stale bare stale)
  case bound =>
    rw [← adm.params, ← adm.handle] at *
    exact exec_answers rfl adm (by decide) (opHandleDestroy_bound bare ok bound)
  case destroyed =>
    rw [← adm.params, ← adm.handle] at *
    obtain ⟨loop, channel, sequence, capture, trend, thread, flow, mailbox, lock, session⟩ :=
      destroyed_object s1 (hType p1.handle) (hIndex p1.handle) p1
    exact ⟨_, exec_answers rfl adm (by decide) (opHandleDestroy_accepted bare ok unbound other), destroyed_stale p1 ok,
      destroyed_dyingObject p1 ok, loop, channel, sequence, capture, trend, thread, flow, mailbox, lock, session,
      destroyed_touch s1 _ _ p1⟩
  case gone => rw [exec_handleDestroyDone h on, onHandleDestroyDone_none gone]
  case done =>
    exact ⟨_, by rw [exec_handleDestroyDone h on, onHandleDestroyDone_some object dying], freeIndex_free s _ _, freeIndex_dyingObject s h,
      freeIndex_touch s _ _⟩
  case none => rw [exec_sessionIdle n on, onSessionIdle_none none]
  case idle =>
    exact ⟨_, by rw [exec_sessionIdle n on, onSessionIdle_some found], fun y hy => (mem_idleEnd.mp hy).2,
      fun y hy other => mem_idleEnd.mpr ⟨hy, other⟩, idleEnd_gen s n x, idleEnd_now s n x, idleEnd_touch s n x⟩

end Sys2Proof.Machine
end

section
/-!
SUPPORT. Registers by command (00 R8 to R10, 04 R131, R136): what a read leaves behind, reads and writes of consecutive registers, and
what REG_READ, REG_WRITE and REG_RMW answer.
-/
namespace Sys2Proof.Machine
open Sys2Proof

/-! Reading (R9, R131). -/

/-- Fields that a read clears are cleared. -/
def State.readCleared (s : State) (a : Nat) : State :=
  match regFamilyAt a with
  | some f => if accBits f (· == .rc) = 0 then s else s.setReg a (s.reg a &&& ~~~ BitVec.ofNat 32 (accBits f (· == .rc)))
  | none => s

theorem readCleared_touch (s : State) (a : Nat) : Touches [] [a] s (s.readCleared a) := by
  unfold State.readCleared
  split
  · split
    · exact Touches.refl _ _ _
    · exact touch_setReg _ _ _
  · exact Touches.refl _ _ _

/-- The parts of the state that a read may reach beside its register: latches of upper halves, and the note that a frame is unread. -/
def readParts : List Part := [.clk, .hub, .twin, .fbus]

theorem touch_hub (s : State) (x : Hub) : Touches [.hub] [] s { s with hub := x } :=
  ⟨fun p hp => by cases p <;> simp_all [Part.same], fun _ _ => rfl⟩

/-- What a read does to the mailbox that its register belongs to. -/
def State.boxRead (s : State) (m a : Nat) : State :=
  let s := if a = A.FBUS_M_STAMP_LO m then s.updBox m (fun x => { x with hi := (s.reg (A.FBUS_M_STAMP_HI m)).toNat }) else s
  if A.FBUS_M_FRAME m ≤ a then s.updBox m (fun x => { x with unread := false }) else s

theorem boxRead_touch (s : State) (m a : Nat) : Touches [.fbus] [] s (s.boxRead m a) := by
  have latched : Touches [.fbus] [] s
      (if a = A.FBUS_M_STAMP_LO m then s.updBox m (fun x => { x with hi := (s.reg (A.FBUS_M_STAMP_HI m)).toNat }) else s) := by
    split
    · exact touch_updBox _ _ _
    · exact Touches.refl _ _ _
  unfold State.boxRead
  dsimp only
  split
  · exact latched.trans (touch_updBox _ _ _)
  · exact latched

theorem afterRead_eq (s : State) (a : Nat) : s.afterRead a =
    if a = A.TICK_TIME_LO then { s.readCleared a with clk.timeLatch := (s.readCleared a).time / 2 ^ 32 }
    else if a = A.FHUB_REC_TIME_LO then { s.readCleared a with hub.timeLatch := ((s.readCleared a).reg A.FHUB_REC_TIME_HI).toNat }
    else if a = A.TWIN_LAST_LO then { s.readCleared a with twin.lastLatch := ((s.readCleared a).reg A.TWIN_LAST_HI).toNat }
    else if 0xF2000 ≤ a then
      match boxNumbers.find? (fun m => A.FBUS_M_CFG m ≤ a && decide (a < A.FBUS_M_CFG (m + 1))) with
      | some m => (s.readCleared a).boxRead m a
      | none => s.readCleared a
    else s.readCleared a := rfl

theorem afterRead_touch (s : State) (a : Nat) : Touches readParts [a] s (s.afterRead a) := by
  have cleared : Touches readParts [a] s (s.readCleared a) := (readCleared_touch s a).mono (by simp) (fun _ h => h)
  rw [afterRead_eq]
  split
  · exact cleared.then (touch_clk _ _) (by decide) (by simp)
  split
  · exact cleared.then (touch_hub _ _) (by decide) (by simp)
  split
  · exact cleared.then (touch_twin _ _) (by decide) (by simp)
  split
  · split
    · exact cleared.then (boxRead_touch _ _ _) (by decide) (by simp)
    · exact cleared
  · exact cleared

theorem readRegs_one (s : State) (a : Nat) : s.readRegs a 1 = (leBytes 4 (s.view a).toNat, s.afterRead a) := by
  rw [State.readRegs, State.readReg]
  dsimp only
  rw [State.readRegs, List.append_nil]

/-- Registers whose read leaves nothing behind are read one after the other on the same state. -/
theorem readRegs_inert {s : State} {a n : Nat} (inert : ∀ k, k < n → (s.readReg (a + 4 * k)).2 = s) :
    s.readRegs a n = ((List.range n).flatMap (fun k => leBytes 4 (s.view (a + 4 * k)).toNat), s) := by
  induction n generalizing a with
  | zero => rfl
  | succ n ih =>
    have first : s.readReg a = (s.view a, s) := Prod.ext rfl (inert 0 (by omega))
    have rest := ih (a := a + 4) fun k hk => by
      rw [show a + 4 + 4 * k = a + 4 * (k + 1) by omega]
      exact inert (k + 1) (by omega)
    rw [State.readRegs, first]
    dsimp only
    rw [rest, List.range_succ_eq_map, List.flatMap_cons, List.flatMap_map]
    simp only [Nat.mul_add, Nat.succ_eq_add_one, Nat.mul_zero, Nat.add_zero, Nat.add_assoc, Nat.add_comm 4, Nat.mul_one]

section
variable {p : Packet} {s : State} {a n : Nat}

theorem opRegRead_malformed (h : p.params.length ≠ 5 ∨ rangeOk (numAt p.params 0 4) (numAt p.params 4 1) = false) :
    opRegRead p s = refuse s Stat.BAD_PARAM := by
  rw [opRegRead]
  exact if_pos (by simpa using h)

theorem regRead_params (h : p.params = leBytes 4 a ++ leBytes 1 n) (word : a < 2 ^ 32) (byte : n < 256) :
    p.params.length = 5 ∧ numAt p.params 0 4 = a ∧ numAt p.params 4 1 = n := by
  have last : numAt (leBytes 1 n) 0 1 = n := (numAt_leBytes 1 n).trans (Nat.mod_eq_of_lt byte)
  rw [h, numAt_front, numAt_skip _ (by decide), last]
  exact ⟨by simp, Nat.mod_eq_of_lt word, rfl⟩

theorem opRegRead_reads (h : p.params = leBytes 4 a ++ leBytes 1 n) (word : a < 2 ^ 32) (byte : n < 256) (range : rangeOk a n = true) :
    opRegRead p s = ok (s.readRegs a n).2 (s.readRegs a n).1 := by
  obtain ⟨length, address, count⟩ := regRead_params h word byte
  rw [opRegRead]
  dsimp only
  rw [address, count, if_neg (by simp [length, range])]

end

/-! Writing (R9, R131, R136). -/

/-- When none is refused, as many registers are written as values are given. -/
theorem writeRegs_count {interp : Bool} {vs : List Nat} {s : State} {a k : Nat} (h : (s.writeRegs interp a vs k).2.1 = Stat.OK) :
    (s.writeRegs interp a vs k).2.2 = k + vs.length := by
  induction vs generalizing s a k with
  | nil => rfl
  | cons v vs ih =>
    rw [State.writeRegs] at h ⊢
    dsimp only at h ⊢
    split at h
    · next written =>
      rw [if_pos written, ih h, List.length_cons]
      omega
    · next refused => exact absurd h refused

section
variable {p : Packet} {s : State}

theorem opRegWrite_malformed (h : p.params.length % 4 ≠ 0 ∨ rangeOk (numAt p.params 0 4) (writeValues p).length = false) :
    opRegWrite p s = refuse s Stat.BAD_PARAM [0, 0] := by
  rw [opRegWrite]
  exact if_pos (by simpa using h)

theorem opRegWrite_writes (whole : p.params.length % 4 = 0) (range : rangeOk (numAt p.params 0 4) (writeValues p).length = true)
    {x : State × Nat × Nat} (h : x = s.writeRegs true (numAt p.params 0 4) (writeValues p) 0) :
    opRegWrite p s = { s := x.1, status := x.2.1, payload := if x.2.1 = Stat.OK then [] else leBytes 2 x.2.2 } := by
  rw [opRegWrite]
  dsimp only
  rw [if_neg (by simp [whole, range]), ← h]
  by_cases written : x.2.1 = Stat.OK
  · rw [if_pos written, if_pos written, written]
    rfl
  · rw [if_neg written, if_neg written]
    rfl

theorem opRegRmw_malformed (h : p.params.length ≠ 12 ∨ rangeOk (numAt p.params 0 4) 1 = false) : opRegRmw p s = refuse s Stat.BAD_PARAM := by
  rw [opRegRmw]
  exact if_pos (by simpa using h)

theorem opRegRmw_ok (length : p.params.length = 12) (range : rangeOk (numAt p.params 0 4) 1 = true)
    {x : State × Nat} (h : x = s.writeReg true (numAt p.params 0 4) (numAt p.params 4 4) (numAt p.params 8 4)) (written : x.2 = Stat.OK) :
    opRegRmw p s = ok x.1 (leBytes 4 (s.view (numAt p.params 0 4)).toNat) := by
  rw [opRegRmw]
  dsimp only
  rw [if_neg (by simp [length, range]), ← h, if_pos written]

theorem opRegRmw_refuses (length : p.params.length = 12) (range : rangeOk (numAt p.params 0 4) 1 = true)
    {x : State × Nat} (h : x = s.writeReg true (numAt p.params 0 4) (numAt p.params 4 4) (numAt p.params 8 4)) (refused : x.2 ≠ Stat.OK) :
    opRegRmw p s = refuse s x.2 := by
  rw [opRegRmw]
  dsimp only
  rw [if_neg (by simp [length, range]), ← h, if_neg refused]

end

/-! Two registers: TICK_ASYM_A, all of whose 16 bits are RW, and TICK_HOLD, whose limit is LK (02 R51, R64). -/

/-- What a register keeps of a masked write that reaches its low 16 bits only. -/
def maskedHalf (old m v : Word) : Word := (old &&& ~~~(0xFFFF#32 &&& m)) ||| (v &&& m &&& (0xFFFF#32 &&& m))

theorem bit_eq_testBit (v i : Nat) : bit v i = v.testBit i := by
  rw [bit, Nat.testBit, Nat.shiftRight_eq_div_pow, Nat.and_comm, Nat.and_one_is_mod]
  rcases Nat.mod_two_eq_zero_or_one (v / 2 ^ i) with h | h <;> rw [h] <;> rfl

theorem bit_mod_half (v : Nat) {i : Nat} (h : i < 16) : bit (v % 65536) i = bit v i := by
  rw [bit_eq_testBit, bit_eq_testBit, show 65536 = 2 ^ 16 from rfl, Nat.testBit_mod_two_pow]
  simp [h]

theorem bit_toNat (w : Word) (i : Nat) : bit w.toNat i = w.getLsbD i := bit_eq_testBit _ _

theorem bit_ofNat (v : Nat) {i : Nat} (h : i < 16) : (BitVec.ofNat 32 v).getLsbD i = bit v i := by
  rw [BitVec.getLsbD_ofNat, bit_eq_testBit]
  simp [show i < 32 by omega]

theorem bit_maskedHalf (old : Word) (m v : Nat) {i : Nat} (h : i < 16) :
    bit (maskedHalf old (BitVec.ofNat 32 m) (BitVec.ofNat 32 v)).toNat i = if bit m i then bit v i else bit old.toNat i := by
  have word : i < 32 := by omega
  have kept : (0xFFFF#32).getLsbD i = true := by
    rw [bit_ofNat _ h, bit_eq_testBit, show 0xFFFF = 2 ^ 16 - 1 from rfl, Nat.testBit_two_pow_sub_one]
    simp [h]
  rw [bit_toNat, bit_toNat, ← bit_ofNat m h, ← bit_ofNat v h, maskedHalf]
  simp only [BitVec.getLsbD_or, BitVec.getLsbD_and, BitVec.getLsbD_not, kept, word]
  cases (BitVec.ofNat 32 m).getLsbD i <;> simp

theorem writeReg_asym_masked (s : State) (m v : Nat) : s.writeReg true A.TICK_ASYM_A m v =
    (s.setReg A.TICK_ASYM_A (maskedHalf (s.reg A.TICK_ASYM_A) (BitVec.ofNat 32 m) (BitVec.ofNat 32 v)), Stat.OK) := by
  have all : ~~~(BitVec.ofNat 32 0) = BitVec.allOnes 32 := by decide
  have unlocked : ((0#32 : Word) != 0) = false := by decide
  have set : accBits ⟨0x10020, [], 0x0, .warm, [(15, 0, .rw)]⟩ (fun x => x == .rw || x == .lk) = 0xFFFF := by decide
  have clear : accBits ⟨0x10020, [], 0x0, .warm, [(15, 0, .rw)]⟩ (· == .w1c) = 0 := by decide
  have lock : accBits ⟨0x10020, [], 0x0, .warm, [(15, 0, .rw)]⟩ (· == .lk) = 0 := by decide
  have here : (A.TICK_ASYM_A = A.FHUB_RESOLVE) = False := by decide
  have own : otherPort true A.TICK_ASYM_A = false := by decide
  have period : pairNumbers.find? (fun p => A.TICK_ASYM_A == A.SWU_P_PERIOD p) = none := by decide
  have duty : pairNumbers.find? (fun p => A.TICK_ASYM_A == A.SWU_P_DUTY p) = none := by decide
  have plain : (A.TICK_ASYM_A = A.CMD_ALLOC_REQ 0) = False := by decide
  simp only [State.writeReg, regFamilyAt_asym, hiddenReg_asym, ignoredBits_asym, writeDenied_asym, badValue_asym, afterWrite_asym,
    all, unlocked, set, clear, lock, here, own, period, duty, plain, BitVec.and_allOnes, BitVec.zero_and, BitVec.and_zero,
    Bool.and_false, Bool.or_false, Bool.false_eq_true, if_false]
  rfl

/-- TICK_ASYM_A after a masked write. -/
def State.asymMasked (s : State) (m v : Nat) : State :=
  s.setReg A.TICK_ASYM_A (maskedHalf (s.reg A.TICK_ASYM_A) (BitVec.ofNat 32 m) (BitVec.ofNat 32 v))

theorem asymMasked_touch (s : State) (m v : Nat) : Touches [] [A.TICK_ASYM_A] s (s.asymMasked m v) := touch_setReg _ _ _

theorem bit_asymMasked (s : State) (m v : Nat) {i : Nat} (h : i < 16) :
    bit ((s.asymMasked m v).f F.TICK_ASYM_A_ASYM) i = if bit m i then bit v i else bit (s.f F.TICK_ASYM_A_ASYM) i := by
  have whole (w : Nat) : F.TICK_ASYM_A_ASYM.of w = w % 65536 := by simp [Fld.of]
  rw [State.f, whole, State.asymMasked, State.reg_setReg_same, bit_mod_half _ h, bit_maskedHalf _ _ _ h, State.f, whole, bit_mod_half _ h]

theorem regFamilyAt_hold : regFamilyAt A.TICK_HOLD = some ⟨0x10060, [], 0x10, .warm, [(22, 16, .ro), (6, 0, .lk)]⟩ := by decide

theorem hiddenReg_hold (s : State) : s.hiddenReg A.TICK_HOLD = false := rfl

theorem ignoredBits_hold (s : State) : s.ignoredBits A.TICK_HOLD = 0 := rfl

/-- A write that changes one of the low seven bits shows in them. -/
theorem lowSeven_changes {old v : Word} (h : v.toNat % 128 ≠ old.toNat % 128) :
    ((old ^^^ ((old &&& ~~~0x7F#32) ||| (v &&& 0x7F#32))) &&& 0x7F#32 != 0) = true := by
  rw [bne_iff_ne]
  intro same
  refine h ?_
  have low : v.setWidth 7 = old.setWidth 7 := by
    ext i hi
    have kept : (0x7F#7)[i] = true := BitVec.getElem_allOnes i hi
    have bitSame := congrArg (fun w => (BitVec.setWidth 7 w)[i]) same
    simp [kept] at bitSame
    simpa using bitSame.symm
  simpa using congrArg BitVec.toNat low

theorem writeReg_hold_denied {s : State} {v : Nat} (config : s.st ≠ ST.CONFIG) (sealOk : s.on F.SAFE_PANEL_SEAL_OK = true)
    (other : v % 128 ≠ s.f F.TICK_HOLD_HOLD_LIMIT) : s.writeReg true A.TICK_HOLD (2 ^ 32 - 1) v = (s, Stat.DENIED) := by
  have mask : BitVec.ofNat 32 (2 ^ 32 - 1) = BitVec.allOnes 32 := by decide
  have set : accBits ⟨0x10060, [], 0x10, .warm, [(22, 16, .ro), (6, 0, .lk)]⟩ (fun x => x == .rw || x == .lk) = 0x7F := by decide
  have clear : accBits ⟨0x10060, [], 0x10, .warm, [(22, 16, .ro), (6, 0, .lk)]⟩ (· == .w1c) = 0 := by decide
  have lock : accBits ⟨0x10060, [], 0x10, .warm, [(22, 16, .ro), (6, 0, .lk)]⟩ (· == .lk) = 0x7F := by decide
  have here : (A.TICK_HOLD = A.FHUB_RESOLVE) = False := by decide
  have own : otherPort true A.TICK_HOLD = false := by decide
  have locked : s.unlocked = false := by rw [State.unlocked, sealOk, beq_eq_false_iff_ne.mpr config]; rfl
  have limit : s.f F.TICK_HOLD_HOLD_LIMIT = (s.reg A.TICK_HOLD).toNat % 128 := by simp [State.f, Fld.of]
  have changes := lowSeven_changes (old := s.reg A.TICK_HOLD) (v := BitVec.ofNat 32 v)
    (by rw [← limit, BitVec.toNat_ofNat]; omega)
  simp only [State.writeReg, regFamilyAt_hold, hiddenReg_hold, ignoredBits_hold, mask, set, clear, lock, here, own, locked, changes,
    BitVec.and_allOnes, BitVec.zero_and, BitVec.not_zero, Bool.not_false, Bool.true_and, Bool.true_or, Bool.or_false,
    Bool.false_eq_true, if_false, if_true]

end Sys2Proof.Machine
end

section
/-!
SUPPORT. The memories behind the guard (04 R131; 11 R309, R310, R316): where the lines of a class stand, what a write of bytes leaves in
each, and what MEM_WRITE and MEM_READ answer.
-/
namespace Sys2Proof.Machine
open Sys2Proof

/-! Where lines stand (R307, R316). -/

/-- Two lines at `k` and `j` share no byte. -/
def LinesApart (k j : Nat) : Prop := k + 64 ≤ j ∨ j + 64 ≤ k

theorem remapOf_some {s : State} {c m line i : Nat} (h : s.remapOf c m line = some i) :
    s.f (F.MGRD_REMAP_LINE c i) = line ∧ s.f (F.MGRD_REMAP_MIRROR c i) = m := by
  have entry := List.find?_some h
  simp only [Bool.and_eq_true, beq_iff_eq] at entry
  exact ⟨entry.1.2, entry.2⟩

theorem class_fits {c line : Nat} (h : line < classLines c) : classBase c + line * 64 < 0x100000000 := by
  unfold classLines at h
  unfold classBase
  split_ifs at h ⊢ <;> omega

theorem spareKey_apart {c i j : Nat} (h : i ≠ j) : LinesApart (spareKey c i) (spareKey c j) := by
  unfold LinesApart spareKey
  omega

theorem spareKey_placeKey_apart {c i m line : Nat} (hl : line < classLines c) (hm : m < 2) : LinesApart (placeKey c m line) (spareKey c i) := by
  have fits := class_fits hl
  unfold LinesApart placeKey spareKey
  obtain rfl | rfl : m = 0 ∨ m = 1 := by omega
  · omega
  · have aligned : classBase c % 64 = 0 := by unfold classBase; split_ifs <;> rfl
    omega

theorem placeKey_apart {c m n line row : Nat} (hl : line < classLines c) (hr : row < classLines c) (hm : m < 2) (hn : n < 2)
    (other : line ≠ row ∨ m ≠ n) : LinesApart (placeKey c m line) (placeKey c n row) := by
  have lines : classLines c ≤ 524288 := by unfold classLines; split_ifs <;> decide
  unfold LinesApart placeKey
  obtain rfl | rfl : m = 0 ∨ m = 1 := by omega
  all_goals obtain rfl | rfl : n = 0 ∨ n = 1 := by omega
  all_goals omega

theorem LinesApart.symm {k j : Nat} (h : LinesApart k j) : LinesApart j k := Or.symm h

/-- No two lines of a class, or mirrors of a line, stand at one place. -/
theorem lineKey_apart {s : State} {c m n line row : Nat} (hl : line < classLines c) (hr : row < classLines c) (hm : m < 2) (hn : n < 2)
    (other : line ≠ row ∨ m ≠ n) : LinesApart (s.lineKey c m line) (s.lineKey c n row) := by
  unfold State.lineKey
  split
  · next i first =>
    split
    · next j second =>
      refine spareKey_apart fun same => ?_
      obtain ⟨line1, mirror1⟩ := remapOf_some first
      obtain ⟨line2, mirror2⟩ := remapOf_some (same ▸ second)
      rcases other with h | h
      · exact h (line1.symm.trans line2)
      · exact h (mirror1.symm.trans mirror2)
    · exact (spareKey_placeKey_apart hr hn).symm
  · split
    · exact spareKey_placeKey_apart hl hm
    · exact placeKey_apart hl hr hm hn other

theorem lineKey_of_touches {s u : State} {ps : List Part} (h : Touches ps [] s u) (c m line : Nat) : u.lineKey c m line = s.lineKey c m line := by
  have entry (x : Fld) : u.f x = s.f x := h.f (by simp)
  simp only [State.lineKey, State.remapOf, State.on, entry]

/-! Bytes put into a line (R309, R310). -/

theorem putLine_mem_outside (s : State) {k j : Nat} {data : List Byte} (length : data.length = 64) (h : j < k ∨ k + 64 ≤ j) :
    (s.putLine k data).mem j = s.mem j := by
  have stored : (s.putLine k data).mem j = (s.memWrite k data).mem j := rfl
  rw [stored, State.mem_memWrite, if_neg (by omega)]

/-- A line as bytes put into it find it: zeros when it was not valid. -/
def State.lineOpened (s : State) (k : Nat) : State := if s.lineValid k then s else s.putLine k (List.replicate 64 0)

theorem putBytes_mem (s : State) (k o j : Nat) (bs : List Byte) :
    (s.putBytes k o bs).mem j = if k + o ≤ j ∧ j < k + o + bs.length then bs.getD (j - (k + o)) 0 else (s.lineOpened k).mem j := by
  have stored : (s.putBytes k o bs).mem j = ((s.lineOpened k).memWrite (k + o) bs).mem j := rfl
  rw [stored, State.mem_memWrite]

theorem putBytes_mem_inside (s : State) {k o j : Nat} {bs : List Byte} (low : k + o ≤ j) (high : j < k + o + bs.length) :
    (s.putBytes k o bs).mem j = bs.getD (j - (k + o)) 0 := by
  rw [putBytes_mem, if_pos ⟨low, high⟩]

theorem putBytes_mem_outside (s : State) {k o j : Nat} {bs : List Byte} (fits : o + bs.length ≤ 64) (h : j < k ∨ k + 64 ≤ j) :
    (s.putBytes k o bs).mem j = s.mem j := by
  rw [putBytes_mem, if_neg (by omega), State.lineOpened]
  split
  · rfl
  · exact putLine_mem_outside s (List.length_replicate ..) h

/-! A write over the lines of a class (R309, R312). -/

/-- The mirrors that a class has. -/
def mirrorsOf (c : Nat) : List Nat := if c = 1 then [0, 1] else [0]

theorem mem_mirrorsOf {c m : Nat} : m ∈ mirrorsOf c ↔ m < (if c = 1 then 2 else 1) := by
  unfold mirrorsOf
  split
  · simp only [List.mem_cons, List.not_mem_nil, or_false]
    omega
  · simp

theorem mirror_lt {c m : Nat} (h : m ∈ mirrorsOf c) : m < 2 := by
  have := mem_mirrorsOf.mp h
  split at this <;> omega

/-- The bytes of `bs`, written from `a` on, that a line from address `la` on takes. -/
def partOf (a la : Nat) (bs : List Byte) : List Byte := if la < a then bs.take (64 - (a - la)) else slice bs (la - a) 64

theorem partOf_fits {a la : Nat} (bs : List Byte) (h : a < la + 64) : (a - la) + (partOf a la bs).length ≤ 64 := by
  unfold partOf slice
  split <;> simp only [List.length_take, List.length_drop] <;> omega

theorem slice_getD {b : List Byte} {o n i : Nat} (h : i < n) : (slice b o n).getD i 0 = b.getD (o + i) 0 := by
  rw [List.getD_eq_getElem?_getD, List.getD_eq_getElem?_getD, slice, List.getElem?_take_of_lt h, List.getElem?_drop]

/-- A byte of the line is the byte written to its address. -/
theorem partOf_byte {a la r : Nat} {bs : List Byte} (line : r < 64) (low : a ≤ la + r) (high : la + r < a + bs.length) :
    a - la ≤ r ∧ r < a - la + (partOf a la bs).length ∧ (partOf a la bs).getD (r - (a - la)) 0 = bs.getD (la + r - a) 0 := by
  unfold partOf
  split
  · refine ⟨by omega, by rw [List.length_take]; omega, ?_⟩
    rw [List.getD_eq_getElem?_getD, List.getD_eq_getElem?_getD, List.getElem?_take_of_lt (by omega), show r - (a - la) = la + r - a by omega]
  · refine ⟨by omega, by rw [slice, List.length_take, List.length_drop]; omega, ?_⟩
    rw [slice_getD (by omega), show la - a + (r - (a - la)) = la + r - a by omega]

/-- The bytes of one line, in each of its mirrors. -/
def State.writeMirrors (s : State) (c a : Nat) (bs : List Byte) (line : Nat) : State :=
  s.each (mirrorsOf c) (fun s m => s.putBytes (s.lineKey c m line) (a - (classBase c + line * 64)) (partOf a (classBase c + line * 64) bs))

/-- A line of core SRAM written by command is no longer as the loader left it. -/
def State.unimaged (s : State) (c line : Nat) : State :=
  if c = 0 then { s with guard.img := Map.set false s.guard.img (classBase c + line * 64) false } else s

theorem unimaged_mem (s : State) (c line j : Nat) : (s.unimaged c line).mem j = s.mem j := by
  unfold State.unimaged
  split <;> rfl

theorem guardWrite_eq {s : State} {a c : Nat} {bs : List Byte} (h : classOf a = some c) :
    s.guardWrite false a bs = s.each (linesOf c a bs.length) (fun s line => (s.writeMirrors c a bs line).unimaged c line) := by
  rw [State.guardWrite, h]
  rfl

theorem unimaged_touch (s : State) (c line : Nat) : Touches [.bytes, .guard] [] s (s.unimaged c line) := by
  unfold State.unimaged
  split
  · exact (touch_guard s _).mono (by simp) (by simp)
  · exact Touches.refl _ _ _

theorem writeMirrors_touch (s : State) (c a : Nat) (bs : List Byte) (line : Nat) : Touches [.bytes, .guard] [] s (s.writeMirrors c a bs line) :=
  Touches.each _ _ (fun s _ _ => putBytes_touch s _ _ _) s

section
variable {s : State} {c a : Nat} {bs : List Byte}

/-- Bytes outside the line, in each mirror the class has, stay. -/
theorem writeMirrors_mem_outside {line j : Nat} (begun : a < classBase c + line * 64 + 64)
    (h : ∀ m ∈ mirrorsOf c, j < s.lineKey c m line ∨ s.lineKey c m line + 64 ≤ j) : (s.writeMirrors c a bs line).mem j = s.mem j := by
  refine (State.each_keeps_mem (fun u => u.mem j = s.mem j ∧ Touches [.bytes, .guard] [] s u) (mirrorsOf c) _ (fun u m hm kept => ?_) s
    ⟨rfl, Touches.refl _ _ _⟩).1
  obtain ⟨same, touched⟩ := kept
  refine ⟨?_, touched.trans (putBytes_touch _ _ _ _)⟩
  rw [putBytes_mem_outside u (partOf_fits bs begun), same]
  rw [lineKey_of_touches touched]
  exact h m hm

/-- Each mirror of the line holds the bytes written to it. -/
theorem writeMirrors_mem_inside {line m r : Nat} (hl : line < classLines c) (hm : m ∈ mirrorsOf c) (hr : r < 64)
    (low : a ≤ classBase c + line * 64 + r) (high : classBase c + line * 64 + r < a + bs.length) :
    (s.writeMirrors c a bs line).mem (s.lineKey c m line + r) = bs.getD (classBase c + line * 64 + r - a) 0 := by
  obtain ⟨first, last, byte⟩ := partOf_byte hr low high
  refine each_reaches (P := fun u => u.mem (s.lineKey c m line + r) = bs.getD (classBase c + line * 64 + r - a) 0)
    (Q := fun u => Touches [.bytes, .guard] [] s u) hm (fun u n _ touched => touched.trans (putBytes_touch _ _ _ _))
    (fun u touched => ?_) (fun u n hn other touched kept => ?_) (Touches.refl _ _ _)
  · rw [lineKey_of_touches touched, putBytes_mem_inside u (by omega) (by omega), ← byte, Nat.add_sub_add_left]
  · have apart := lineKey_apart (s := s) hl hl (mirror_lt hm) (mirror_lt hn) (Or.inr other.symm)
    rw [lineKey_of_touches touched, putBytes_mem_outside u (partOf_fits bs (by omega)) (by unfold LinesApart at apart; omega), kept]

theorem classOf_bounds (h : classOf a = some c) : classBase c ≤ a ∧ a < classBase c + 64 * classLines c := by
  simpa using List.find?_some h

theorem classBase_aligned (c : Nat) : classBase c % 64 = 0 := by unfold classBase; split_ifs <;> rfl

/-- The lines of a range of one class: each begins before the range's end and ends behind its start. -/
theorem mem_linesOf {n line : Nat} (h : classOf a = some c) (hn : 1 ≤ n) :
    line ∈ linesOf c a n ↔ a < classBase c + line * 64 + 64 ∧ classBase c + line * 64 < a + n := by
  obtain ⟨low, -⟩ := classOf_bounds h
  have aligned := classBase_aligned c
  simp only [linesOf, List.mem_map, List.mem_range]
  constructor
  · rintro ⟨i, hi, rfl⟩
    omega
  · rintro ⟨hlow, hhigh⟩
    exact ⟨line - (a - classBase c) / 64, by omega, by omega⟩

theorem line_of_class {n line : Nat} (last : classOf (a + n - 1) = some c) (h : classBase c + line * 64 < a + n) : line < classLines c := by
  obtain ⟨-, high⟩ := classOf_bounds last
  omega

/-- What a range of R131 gives: one class from its first byte to its last. -/
theorem memRange_class {n : Nat} (range : memRangeOk a n = true) (h : classOf a = some c) : 4 ≤ n ∧ n ≤ 1024 ∧ classOf (a + n - 1) = some c := by
  simp only [memRangeOk, Bool.and_eq_true, decide_eq_true_eq, beq_iff_eq] at range
  obtain ⟨⟨⟨⟨-, few⟩, many⟩, -⟩, same⟩ := range
  exact ⟨few, many, same.trans h⟩

/-- Bytes outside every line of the range, in the mirrors the class has, stay. -/
theorem guardWrite_mem_outside {j : Nat} (h : classOf a = some c) (some : 1 ≤ bs.length)
    (outside : ∀ line ∈ linesOf c a bs.length, ∀ m ∈ mirrorsOf c, j < s.lineKey c m line ∨ s.lineKey c m line + 64 ≤ j) :
    (s.guardWrite false a bs).mem j = s.mem j := by
  rw [guardWrite_eq h]
  refine (State.each_keeps_mem (fun u => u.mem j = s.mem j ∧ Touches [.bytes, .guard] [] s u) (linesOf c a bs.length) _
    (fun u line hline kept => ?_) s ⟨rfl, Touches.refl _ _ _⟩).1
  obtain ⟨same, touched⟩ := kept
  refine ⟨?_, (touched.trans (writeMirrors_touch _ _ _ _ _)).trans (unimaged_touch _ _ _)⟩
  rw [unimaged_mem, writeMirrors_mem_outside ((mem_linesOf h some).mp hline).1 (fun m hm => ?_), same]
  rw [lineKey_of_touches touched]
  exact outside line hline m hm

/-- Each byte written stands at the place of its line, in each mirror the class has. -/
theorem guardWrite_mem_inside {k m : Nat} (h : classOf a = some c) (last : classOf (a + bs.length - 1) = some c) (low : a ≤ k)
    (high : k < a + bs.length) (hm : m ∈ mirrorsOf c) :
    (s.guardWrite false a bs).mem (s.lineKey c m ((k - classBase c) / 64) + (k - classBase c) % 64) = bs.getD (k - a) 0 := by
  have some : 1 ≤ bs.length := by omega
  obtain ⟨base, -⟩ := classOf_bounds h
  have place : classBase c + (k - classBase c) / 64 * 64 + (k - classBase c) % 64 = k := by omega
  generalize (k - classBase c) / 64 = line at place ⊢
  have hr : (k - classBase c) % 64 < 64 := Nat.mod_lt _ (by decide)
  generalize (k - classBase c) % 64 = r at place hr ⊢
  subst place
  have hline : line ∈ linesOf c a bs.length := (mem_linesOf h some).mpr (by omega)
  have hl := line_of_class (line := line) last (by omega)
  rw [guardWrite_eq h]
  refine each_reaches (P := fun u => u.mem (s.lineKey c m line + r) = bs.getD (classBase c + line * 64 + r - a) 0)
    (Q := fun u => Touches [.bytes, .guard] [] s u) hline
    (fun u row _ touched => (touched.trans (writeMirrors_touch _ _ _ _ _)).trans (unimaged_touch _ _ _))
    (fun u touched => ?_) (fun u row hrow other touched kept => ?_) (Touches.refl _ _ _)
  · rw [unimaged_mem, ← lineKey_of_touches touched, writeMirrors_mem_inside hl hm hr low high]
  · obtain ⟨begun, ends⟩ := (mem_linesOf h some).mp hrow
    rw [unimaged_mem, writeMirrors_mem_outside begun (fun n hn => ?_), kept]
    have apart := lineKey_apart (s := s) hl (line_of_class last ends) (mirror_lt hm) (mirror_lt hn) (Or.inl other.symm)
    rw [lineKey_of_touches touched]
    unfold LinesApart at apart
    omega

end

/-- A line of a class without remap entries for it stands at its own place. -/
theorem lineKey_unmapped {s : State} {c line : Nat} (h : s.remapOf c 0 line = none) : s.lineKey c 0 line = classBase c + line * 64 := by
  rw [State.lineKey, h, placeKey, Nat.zero_mul, Nat.add_zero]

/-! MEM_WRITE (04 R131, 11 R315). -/

section
variable {p : Packet} {s : State} {a c : Nat} {d : List Byte}

theorem opMemWrite_malformed (h : p.params.length < 8 ∨ memRangeOk (numAt p.params 0 4) (p.params.length - 4) = false) :
    opMemWrite p s = refuse s Stat.BAD_PARAM := by
  rw [opMemWrite]
  exact if_pos (by simpa using h)

/-- What the role of a class's memory allows a command to write: not the recorder's, table memory in CONFIG, core SRAM below its top. -/
def State.writeBarred (s : State) (c last : Nat) : Bool := c == 2 || (c == 1 && s.st != ST.CONFIG) || (c == 0 && decide (0x10380000 < last))

/-- What MEM_WRITE answers when it is allowed: it waits for a PENDING line, and writes without one. -/
def writeAnswer (p : Packet) (s : State) (a : Nat) (d : List Byte) : Option Nat → Out
  | some l => holding (s.waitLine l 0x0211 p)
  | none => ok (s.guardWrite false a d)

/-- MEM_WRITE with its address and bytes read out of its parameters. -/
theorem opMemWrite_eq (h : p.params = leBytes 4 a ++ d) (word : a < 2 ^ 32) (range : memRangeOk a d.length = true) (cls : classOf a = some c) :
    opMemWrite p s = if s.writeBarred c (a + d.length) = true then refuse s Stat.DENIED
      else writeAnswer p s a d (if c = 0 then s.firstPending (linesOf c a d.length) else none) := by
  obtain ⟨few, -, -⟩ := memRange_class range cls
  have address : numAt p.params 0 4 = a := by rw [h, numAt_front]; exact Nat.mod_eq_of_lt word
  have bytes : p.params.drop 4 = d := by rw [h]; exact List.drop_left' (leBytes_length 4 a)
  have length : ¬ (p.params.length < 8 ∨ (!memRangeOk a d.length) = true) := by
    rw [h, List.length_append, leBytes_length, range]
    simp
    omega
  have barred : (c = 2 ∨ (c = 1 ∧ s.st ≠ ST.CONFIG) ∨ (c = 0 ∧ 0x10380000 < a + d.length)) ↔ s.writeBarred c (a + d.length) = true := by
    simp [State.writeBarred, or_assoc]
  rw [opMemWrite]
  dsimp only
  rw [address, bytes, if_neg length, cls, Option.getD_some]
  by_cases bar : s.writeBarred c (a + d.length) = true
  · rw [if_pos bar, if_pos (barred.mpr bar)]
  · rw [if_neg bar, if_neg (barred.not.mpr bar)]
    rfl

theorem opMemWrite_barred (h : p.params = leBytes 4 a ++ d) (word : a < 2 ^ 32) (range : memRangeOk a d.length = true) (cls : classOf a = some c)
    (bar : s.writeBarred c (a + d.length) = true) : opMemWrite p s = refuse s Stat.DENIED := by
  rw [opMemWrite_eq h word range cls, if_pos bar]

theorem opMemWrite_waits {l : Nat} (h : p.params = leBytes 4 a ++ d) (word : a < 2 ^ 32) (range : memRangeOk a d.length = true)
    (cls : classOf a = some 0) (allowed : s.writeBarred 0 (a + d.length) = false) (pending : s.firstPending (linesOf 0 a d.length) = some l) :
    opMemWrite p s = holding (s.waitLine l 0x0211 p) := by
  rw [opMemWrite_eq h word range cls, if_neg (by simp [allowed]), if_pos rfl, pending, writeAnswer]

theorem opMemWrite_writes (h : p.params = leBytes 4 a ++ d) (word : a < 2 ^ 32) (range : memRangeOk a d.length = true) (cls : classOf a = some c)
    (allowed : s.writeBarred c (a + d.length) = false) (settled : c = 1 ∨ s.firstPending (linesOf 0 a d.length) = none) :
    opMemWrite p s = ok (s.guardWrite false a d) := by
  have nothing : (if c = 0 then s.firstPending (linesOf c a d.length) else none) = none := by
    split
    · next zero =>
      subst zero
      exact settled.resolve_left (by decide)
    · rfl
  rw [opMemWrite_eq h word range cls, if_neg (by simp [allowed]), nothing, writeAnswer]

end

/-! MEM_READ (04 R131, 11 R314, R317). -/

section
variable {p : Packet} {s : State} {a c n : Nat}

theorem opMemRead_malformed (h : p.params.length ≠ 6 ∨ memRangeOk (numAt p.params 0 4) (numAt p.params 4 2) = false) :
    opMemRead p s = refuse s Stat.BAD_PARAM := by
  rw [opMemRead]
  exact if_pos (by simpa using h)

/-- What MEM_READ answers over recorder memory, by the bytes and the parity errors found. -/
def recorderAnswer (x : State × List Byte × Nat) : Out :=
  if 0 < x.2.2 then refuse x.1 Stat.FAULTED [BitVec.ofNat 8 FS.MGRD_PARITY] else ok x.1 x.2.1

/-- What MEM_READ answers over lines of core SRAM and table memory, as the read through their checks gives it. -/
def readAnswer (p : Packet) (c a n : Nat) : State × Checked × Nat → Out
  | (s, .data d, _) => ok s (slice d (a % 64) n)
  | (s, .bad, _) => refuse s Stat.FAULTED [BitVec.ofNat 8 (if c = 0 then FS.MGRD_SRAM_UE else FS.MGRD_TABLE_UE)]
  | (s, .pending, l) => holding (s.waitLine l 0x0210 p)

/-- MEM_READ with its address and length read out of its parameters. -/
theorem opMemRead_eq (h : p.params = leBytes 4 a ++ leBytes 2 n) (word : a < 2 ^ 32) (range : memRangeOk a n = true) (cls : classOf a = some c) :
    opMemRead p s = if c = 2 then recorderAnswer (s.readRecorder a n) else readAnswer p c a n (s.readLines c (linesOf c a n)) := by
  obtain ⟨-, many, -⟩ := memRange_class range cls
  have address : numAt p.params 0 4 = a := by rw [h, numAt_front]; exact Nat.mod_eq_of_lt word
  have last : numAt (leBytes 2 n) 0 2 = n := (numAt_leBytes 2 n).trans (Nat.mod_eq_of_lt (by omega))
  have count : numAt p.params 4 2 = n := by rw [h, numAt_skip _ (by decide), last]
  have length : ¬ (p.params.length ≠ 6 ∨ (!memRangeOk a n) = true) := by simp [h, range]
  rw [opMemRead]
  dsimp only
  rw [address, count, if_neg length, cls, Option.getD_some]
  rfl

theorem opMemRead_recorder (h : p.params = leBytes 4 a ++ leBytes 2 n) (word : a < 2 ^ 32) (range : memRangeOk a n = true)
    (cls : classOf a = some 2) : opMemRead p s = recorderAnswer (s.readRecorder a n) := by
  rw [opMemRead_eq h word range cls, if_pos rfl]

theorem opMemRead_lines (h : p.params = leBytes 4 a ++ leBytes 2 n) (word : a < 2 ^ 32) (range : memRangeOk a n = true)
    (cls : classOf a = some c) (other : c ≠ 2) : opMemRead p s = readAnswer p c a n (s.readLines c (linesOf c a n)) := by
  rw [opMemRead_eq h word range cls, if_neg other]

end

theorem memRead_eq_map (s : State) (a n : Nat) : s.memRead a n = (List.range n).map (fun i => s.mem (a + i)) := by
  induction n generalizing a with
  | zero => rfl
  | succ n ih =>
    rw [State.memRead, ih, List.range_succ_eq_map, List.map_cons, List.map_map]
    simp [Function.comp_def, Nat.add_assoc, Nat.add_comm 1]

/-- Where the recorder's byte at `a` stands: its line's place, its offset there, and the line. -/
def State.recorderKey (s : State) (a : Nat) : Nat × Nat × Nat := (s.lineKey 2 0 ((a - classBase 2) / 64), a % 64, (a - classBase 2) / 64)

theorem recorderKey_unmapped {s : State} {a : Nat} (base : classBase 2 ≤ a) (unmapped : ∀ line, s.remapOf 2 0 line = none) :
    (s.recorderKey a).1 = a / 64 * 64 ∧ (s.recorderKey a).1 + (s.recorderKey a).2.1 = a := by
  have place : s.lineKey 2 0 ((a - classBase 2) / 64) = a / 64 * 64 := by
    have aligned := classBase_aligned 2
    rw [lineKey_unmapped (unmapped _)]
    omega
  refine ⟨place, ?_⟩
  rw [State.recorderKey, place]
  dsimp only
  omega

/-- The recorder's bytes from `a` on, as stored. -/
def State.recorderBytes (s : State) (a n : Nat) : List Byte :=
  ((List.range n).map (fun i => s.recorderKey (a + i))).map (fun x => if s.lineValid x.1 then s.mem (x.1 + x.2.1) else 0)

/-- The bytes among them whose parity is wrong. -/
def State.parityErrors (s : State) (a n : Nat) : List (Nat × Nat × Nat) :=
  ((List.range n).map (fun i => s.recorderKey (a + i))).filter (fun x => s.lineValid x.1 && Map.get false s.guard.parity (x.1 + x.2.1))

/-- Parity errors are counted and raised, the last of them noted (11 R317). -/
def State.parityNoted (s : State) (errs : List (Nat × Nat × Nat)) : State :=
  match errs.getLast? with
  | some x => ((s.bumpBy F.MGRD_CNT_REC_PERR errs.length).noteError 2 0 x.2.2 4).raise FS.MGRD_PARITY
  | none => s

theorem readRecorder_eq (s : State) (a n : Nat) :
    s.readRecorder a n = (s.parityNoted (s.parityErrors a n), s.recorderBytes a n, (s.parityErrors a n).length) := rfl

section
variable {s : State} {a n : Nat} (base : classBase 2 ≤ a) (unmapped : ∀ line, s.remapOf 2 0 line = none)
  (clean : ∀ k, a ≤ k → k < a + n → s.lineValid (k / 64 * 64) = true ∧ Map.get false s.guard.parity k = false)
include base unmapped clean

theorem recorderBytes_clean : s.recorderBytes a n = s.memRead a n := by
  rw [memRead_eq_map, State.recorderBytes, List.map_map]
  refine List.map_congr_left fun i hi => ?_
  obtain ⟨line, byte⟩ := recorderKey_unmapped (s := s) (a := a + i) (by omega) unmapped
  obtain ⟨valid, -⟩ := clean (a + i) (by omega) (by have := List.mem_range.mp hi; omega)
  rw [Function.comp_apply, byte, line, if_pos valid]

theorem parityErrors_clean : s.parityErrors a n = [] := by
  rw [State.parityErrors, List.filter_eq_nil_iff]
  intro x hx
  obtain ⟨i, hi, rfl⟩ := List.mem_map.mp hx
  obtain ⟨-, byte⟩ := recorderKey_unmapped (s := s) (a := a + i) (by omega) unmapped
  obtain ⟨-, right⟩ := clean (a + i) (by omega) (by have := List.mem_range.mp hi; omega)
  rw [byte, right, Bool.and_false]
  decide

/-- A read of recorder memory at its own place, whose lines are valid and without a parity error. -/
theorem readRecorder_clean : s.readRecorder a n = (s, s.memRead a n, 0) := by
  rw [readRecorder_eq, parityErrors_clean base unmapped clean, recorderBytes_clean base unmapped clean]
  rfl

end

end Sys2Proof.Machine
end

section
/-!
O11: the clauses of REG_READ, REG_WRITE, REG_RMW, MEM_WRITE and MEM_READ (04 R131, R136), and the statement.
-/
namespace Sys2Proof.Machine
open Sys2Proof

section
variable {p p1 : Packet} {s s1 : State} {a m n v : Nat}

theorem writeValues_admitted {r : OpRow} (h : Admitted r p s s1 p1) : writeValues p1 = writeValues p := by
  rw [writeValues, writeValues, h.params]

theorem regRead_one (adm : Admitted rowRegRead p s s1 p1) (h : p.params = leBytes 4 a ++ [1]) (word : a < 2 ^ 32) (range : rangeOk a 1 = true) :
    ∃ u : State, exec (.regRead p) s = .next (u.answers rowRegRead p1 Stat.OK (leBytes 4 (s1.view a).toNat)) ∧
      Touches [.clk, .hub, .twin, .fbus] [a] s1 u := by
  have reads := opRegRead_reads (s := s1) (adm.params.trans h) word (by decide) range
  rw [readRegs_one] at reads
  exact ⟨_, exec_answers rfl adm (by decide) reads, afterRead_touch s1 a⟩

theorem regRead_inert (adm : Admitted rowRegRead p s s1 p1) (h : p.params = leBytes 4 a ++ leBytes 1 n) (word : a < 2 ^ 32) (byte : n < 256)
    (range : rangeOk a n = true) (inert : ∀ k, k < n → (s1.readReg (a + 4 * k)).2 = s1) : exec (.regRead p) s =
      .next (s1.answers rowRegRead p1 Stat.OK ((List.range n).flatMap (fun k => leBytes 4 (s1.view (a + 4 * k)).toNat))) := by
  have reads := opRegRead_reads (s := s1) (adm.params.trans h) word byte range
  rw [readRegs_inert inert] at reads
  exact exec_answers rfl adm (by decide) reads

theorem regWrite_malformed (adm : Admitted rowRegWrite p s s1 p1)
    (bad : p.params.length % 4 ≠ 0 ∨ rangeOk (numAt p.params 0 4) (writeValues p).length = false) :
    exec (.regWrite p) s = .next (s1.answers rowRegWrite p1 Stat.BAD_PARAM [0, 0]) := by
  rw [← adm.params, ← writeValues_admitted adm] at bad
  exact exec_answers rfl adm (by decide) (opRegWrite_malformed bad)

theorem regWrite_writes {x : State × Nat × Nat} (writes : x = s1.writeRegs true (numAt p.params 0 4) (writeValues p) 0)
    (adm : Admitted rowRegWrite p s s1 p1) (whole : p.params.length % 4 = 0)
    (range : rangeOk (numAt p.params 0 4) (writeValues p).length = true) :
    exec (.regWrite p) s = .next (x.1.answers rowRegWrite p1 x.2.1 (if x.2.1 = Stat.OK then [] else leBytes 2 x.2.2)) ∧
      (x.2.1 = Stat.OK → x.2.2 = (writeValues p).length) := by
  refine ⟨?_, fun written => ?_⟩
  · rw [← adm.params, ← writeValues_admitted adm] at *
    exact exec_answers rfl adm (by decide) (opRegWrite_writes whole range writes)
  · subst writes
    rw [writeRegs_count written, Nat.zero_add]

/-- A REG_WRITE of one word to a register. -/
theorem regWrite_one (h : p.params = leBytes 4 a ++ leBytes 4 v) (word : a < 2 ^ 32) :
    p.params.length % 4 = 0 ∧ numAt p.params 0 4 = a ∧ writeValues p = [v % 2 ^ 32] := by
  have length : p.params.length = 8 := by rw [h]; simp
  refine ⟨by rw [length], ?_, ?_⟩
  · rw [h, numAt_front]
    exact Nat.mod_eq_of_lt word
  · have all : (writeValues p).take 1 = writeValues p := List.take_of_length_le (by simp [writeValues, length])
    rw [← all, writeValues_take_one length.ge, h, numAt_skip _ (by decide), numAt_leBytes]
    rfl

theorem rangeOk_asym : rangeOk A.TICK_ASYM_A 1 = true := by decide

theorem rangeOk_hold : rangeOk A.TICK_HOLD 1 = true := by decide

theorem regWrite_asym (adm : Admitted rowRegWrite p s s1 p1) (h : p.params = leBytes 4 A.TICK_ASYM_A ++ leBytes 4 v) :
    ∃ u : State, exec (.regWrite p) s = .next (u.answers rowRegWrite p1 Stat.OK []) ∧ u.f F.TICK_ASYM_A_ASYM = v % 65536 ∧
      Touches [] [A.TICK_ASYM_A] s1 u := by
  obtain ⟨whole, address, values⟩ := regWrite_one (adm.params.trans h) (by decide)
  have written : (s1.asymWritten v, Stat.OK, 1) = s1.writeRegs true (numAt p1.params 0 4) (writeValues p1) 0 := by
    rw [address, values, State.writeRegs, State.writeReg_asym, State.asymWritten]
    rfl
  exact ⟨_, exec_answers rfl adm (by decide) (opRegWrite_writes whole (by rw [address, values]; exact rangeOk_asym) written),
    asymWritten_asym s1 v, asymWritten_touch s1 v⟩

theorem regWrite_hold (adm : Admitted rowRegWrite p s s1 p1) (h : p.params = leBytes 4 A.TICK_HOLD ++ leBytes 4 v) (config : s1.st ≠ ST.CONFIG)
    (sealOk : s1.on F.SAFE_PANEL_SEAL_OK = true) (other : v % 128 ≠ s1.f F.TICK_HOLD_HOLD_LIMIT) :
    exec (.regWrite p) s = .next (s1.answers rowRegWrite p1 Stat.DENIED [0, 0]) := by
  obtain ⟨whole, address, values⟩ := regWrite_one (adm.params.trans h) (by decide)
  have denied : (s1, Stat.DENIED, 0) = s1.writeRegs true (numAt p1.params 0 4) (writeValues p1) 0 := by
    rw [address, values, State.writeRegs, writeReg_hold_denied config sealOk (by omega)]
    rfl
  have none : leBytes 2 0 = [0, 0] := by decide
  have refuses : opRegWrite p1 s1 = refuse s1 Stat.DENIED (leBytes 2 0) :=
    opRegWrite_writes whole (by rw [address, values]; exact rangeOk_hold) denied
  rw [none] at refuses
  exact exec_answers rfl adm (by decide) refuses

theorem regRmw_asym (adm : Admitted rowRegRmw p s s1 p1) (h : p.params = leBytes 4 A.TICK_ASYM_A ++ leBytes 4 m ++ leBytes 4 v) :
    ∃ u : State, exec (.regRmw p) s = .next (u.answers rowRegRmw p1 Stat.OK (leBytes 4 (s1.view A.TICK_ASYM_A).toNat)) ∧
      (∀ i, i < 16 → bit (u.f F.TICK_ASYM_A_ASYM) i = (if bit m i then bit v i else bit (s1.f F.TICK_ASYM_A_ASYM) i)) ∧
      Touches [] [A.TICK_ASYM_A] s1 u := by
  have params := adm.params.trans h
  have address : numAt p1.params 0 4 = A.TICK_ASYM_A := by
    rw [params, List.append_assoc, numAt_front]
    rfl
  have mask : numAt p1.params 4 4 = m % 2 ^ 32 := by
    rw [params, List.append_assoc, numAt_skip _ (by decide), numAt_front]
    rfl
  have value : numAt p1.params 8 4 = v % 2 ^ 32 := by
    rw [params, List.append_assoc, numAt_skip _ (by decide), numAt_skip _ (by decide), numAt_leBytes]
    rfl
  have written : (s1.asymMasked (m % 2 ^ 32) (v % 2 ^ 32), Stat.OK) =
      s1.writeReg true (numAt p1.params 0 4) (numAt p1.params 4 4) (numAt p1.params 8 4) := by
    rw [address, mask, value, writeReg_asym_masked, State.asymMasked]
  have answers := opRegRmw_ok (by rw [params]; simp) (by rw [address]; exact rangeOk_asym) written rfl
  rw [address] at answers
  refine ⟨_, exec_answers rfl adm (by decide) answers, fun i hi => ?_, asymMasked_touch s1 _ _⟩
  have low (w : Nat) : bit (w % 2 ^ 32) i = bit w i := by
    rw [bit_eq_testBit, bit_eq_testBit, Nat.testBit_mod_two_pow]
    simp [show i < 32 by omega]
  rw [bit_asymMasked s1 _ _ hi, low, low]

end

section
variable {p p1 : Packet} {s s1 : State} {a c n : Nat} {d : List Byte}

theorem memWrite_clause (adm : Admitted rowMemWrite p s s1 p1) (h : p.params = leBytes 4 a ++ d) (word : a < 2 ^ 32)
    (range : memRangeOk a d.length = true) (cls : classOf a = some c) (allowed : s1.writeBarred c (a + d.length) = false)
    (settled : c = 1 ∨ s1.firstPending (linesOf 0 a d.length) = none) :
    exec (.memWrite p) s = .next ((s1.guardWrite false a d).answers rowMemWrite p1 Stat.OK []) :=
  exec_answers rfl adm (by decide) (opMemWrite_writes (adm.params.trans h) word range cls allowed settled)

/-- What MEM_WRITE leaves in memory, for any class. -/
theorem memWrite_memory (range : memRangeOk a d.length = true) (cls : classOf a = some c) :
    (∀ k m, a ≤ k → k < a + d.length → m < (if c = 1 then 2 else 1) →
      (s1.guardWrite false a d).mem (s1.lineKey c m ((k - classBase c) / 64) + (k - classBase c) % 64) = d.getD (k - a) 0) ∧
    (∀ k, (∀ line, line ∈ linesOf c a d.length → ∀ m, m < 2 → k < s1.lineKey c m line ∨ s1.lineKey c m line + 64 ≤ k) →
      (s1.guardWrite false a d).mem k = s1.mem k) := by
  obtain ⟨few, -, last⟩ := memRange_class range cls
  exact ⟨fun k m low high hm => guardWrite_mem_inside cls last low high (mem_mirrorsOf.mpr hm),
    fun k outside => guardWrite_mem_outside cls (by omega) fun line hline m hm => outside line hline m (mirror_lt hm)⟩

/-- Core SRAM without remapped lines: the bytes stand at their own addresses, and other lines stay. -/
theorem memWrite_unmapped (range : memRangeOk a d.length = true) (cls : classOf a = some 0) (unmapped : ∀ line, s1.remapOf 0 0 line = none) :
    (∀ k, a ≤ k → k < a + d.length → (s1.guardWrite false a d).mem k = d.getD (k - a) 0) ∧
    (∀ k, (k < a / 64 * 64 ∨ (a + d.length + 63) / 64 * 64 ≤ k) → (s1.guardWrite false a d).mem k = s1.mem k) := by
  obtain ⟨few, -, last⟩ := memRange_class range cls
  obtain ⟨base, -⟩ := classOf_bounds cls
  have aligned := classBase_aligned 0
  refine ⟨fun k low high => ?_, fun k outside => guardWrite_mem_outside cls (by omega) fun line hline m hm => ?_⟩
  · have byte := guardWrite_mem_inside (s := s1) cls last low high (m := 0) (by simp [mirrorsOf])
    rw [lineKey_unmapped (unmapped _), show classBase 0 + (k - classBase 0) / 64 * 64 + (k - classBase 0) % 64 = k by omega] at byte
    exact byte
  · obtain ⟨begun, ends⟩ := (mem_linesOf cls (by omega)).mp hline
    obtain rfl : m = 0 := by simpa [mirrorsOf] using hm
    rw [lineKey_unmapped (unmapped _)]
    omega

theorem memRead_clean (adm : Admitted rowMemRead p s s1 p1) (h : p.params = leBytes 4 a ++ leBytes 2 n) (word : a < 2 ^ 32)
    (range : memRangeOk a n = true) (cls : classOf a = some 2) (unmapped : ∀ line, s1.remapOf 2 0 line = none)
    (clean : ∀ k, a ≤ k → k < a + n → s1.lineValid (k / 64 * 64) = true ∧ Map.get false s1.guard.parity k = false) :
    exec (.memRead p) s = .next (s1.answers rowMemRead p1 Stat.OK (s1.memRead a n)) := by
  have reads := opMemRead_recorder (s := s1) (adm.params.trans h) word range cls
  rw [readRecorder_clean (classOf_bounds cls).1 unmapped clean] at reads
  exact exec_answers rfl adm (by decide) reads

theorem memRead_recorder (adm : Admitted rowMemRead p s s1 p1) (h : p.params = leBytes 4 a ++ leBytes 2 n) (word : a < 2 ^ 32)
    (range : memRangeOk a n = true) (cls : classOf a = some 2) {x : State × List Byte × Nat} (read : x = s1.readRecorder a n) :
    (x.2.2 = 0 → exec (.memRead p) s = .next (x.1.answers rowMemRead p1 Stat.OK x.2.1)) ∧
    (0 < x.2.2 → exec (.memRead p) s = .next (x.1.answers rowMemRead p1 Stat.FAULTED [BitVec.ofNat 8 FS.MGRD_PARITY])) := by
  have reads := opMemRead_recorder (s := s1) (adm.params.trans h) word range cls
  rw [← read, recorderAnswer] at reads
  refine ⟨fun none => ?_, fun some => ?_⟩
  · rw [if_neg (by omega)] at reads
    exact exec_answers rfl adm (by decide) reads
  · rw [if_pos some] at reads
    exact exec_answers rfl adm (by decide) reads

theorem memRead_lines (adm : Admitted rowMemRead p s s1 p1) (h : p.params = leBytes 4 a ++ leBytes 2 n) (word : a < 2 ^ 32)
    (range : memRangeOk a n = true) (cls : classOf a = some c) (other : c ≠ 2) {x : State × Checked × Nat}
    (read : x = s1.readLines c (linesOf c a n)) :
    (∀ d : List Byte, x.2.1 = .data d → exec (.memRead p) s = .next (x.1.answers rowMemRead p1 Stat.OK (slice d (a % 64) n))) ∧
    (x.2.1 = .bad →
      exec (.memRead p) s = .next (x.1.answers rowMemRead p1 Stat.FAULTED [BitVec.ofNat 8 (if c = 0 then FS.MGRD_SRAM_UE else FS.MGRD_TABLE_UE)])) ∧
    (x.2.1 = .pending → exec (.memRead p) s = .next ((x.1.waitLine x.2.2 0x0210 p1).holds rowMemRead p1)) := by
  have reads := opMemRead_lines (s := s1) (adm.params.trans h) word range cls other
  rw [← read] at reads
  obtain ⟨t, found, l⟩ := x
  refine ⟨fun d data => ?_, fun bad => ?_, fun pending => ?_⟩
  · cases data
    exact exec_answers rfl adm (by decide) reads
  · cases bad
    exact exec_answers rfl adm (by decide) reads
  · cases pending
    exact exec_holds rfl adm (by decide) reads

end

/-- Settles O11: the registers by what each opcode answers and by two registers' own write, memory by where its lines stand. -/
theorem registerAndMemoryAccess : Obligations.RegisterAndMemoryAccess := by
  unfold Obligations.RegisterAndMemoryAccess
  refine ⟨fun p p1 s s1 a v m => ⟨fun adm h word range => regRead_one adm h word range, fun n count adm bad => ?malformedRead,
    fun n adm h word byte range inert => regRead_inert adm h word byte range inert, fun adm bad => regWrite_malformed adm bad,
    fun x writes adm whole range => regWrite_writes writes adm whole range,
    fun adm bad => ?malformedRmw, fun x hx adm length range => ⟨fun written => ?rmw, fun refused => ?refusedRmw⟩,
    fun adm h => regWrite_asym adm h, fun adm h config sealOk other => regWrite_hold adm h config sealOk other,
    fun adm h => regRmw_asym adm h⟩, fun p p1 s s1 a => ⟨fun adm bad => ?malformedWrite, fun d c adm h word range cls barred bar => ?write,
    fun d adm h word range cls low unmapped settled => ?unmapped, fun adm bad => ?malformedMemRead,
    fun n c adm h word _ range cls => ?read, fun n adm h word range cls unmapped clean => memRead_clean adm h word range cls unmapped clean⟩⟩
  case malformedRead =>
    subst count
    rw [← adm.params] at bad
    exact exec_answers rfl adm (by decide) (opRegRead_malformed bad)
  case malformedRmw =>
    rw [← adm.params] at bad
    exact exec_answers rfl adm (by decide) (opRegRmw_malformed bad)
  case rmw =>
    rw [← adm.params] at *
    exact exec_answers rfl adm (by decide) (opRegRmw_ok length range hx written)
  case refusedRmw =>
    rw [← adm.params] at *
    exact exec_answers rfl adm (by decide) (opRegRmw_refuses length range hx refused)
  case malformedWrite =>
    rw [← adm.params] at bad
    exact exec_answers rfl adm (by decide) (opMemWrite_malformed bad)
  case write =>
    change barred = s1.writeBarred c (a + d.length) at bar
    subst bar
    refine ⟨fun bar => exec_answers rfl adm (by decide) (opMemWrite_barred (adm.params.trans h) word range cls bar),
      fun l allowed zero pending => ?_, fun allowed settled => ?_⟩
    · subst zero
      exact exec_holds rfl adm (by decide) (opMemWrite_waits (adm.params.trans h) word range cls allowed pending)
    · obtain ⟨inside, outside⟩ := memWrite_memory (s1 := s1) range cls
      exact ⟨_, memWrite_clause adm h word range cls allowed settled, inside, outside, guardWrite_touch s1 false a d⟩
  case unmapped =>
    obtain ⟨inside, outside⟩ := memWrite_unmapped range cls unmapped
    have allowed : s1.writeBarred 0 (a + d.length) = false := by simp [State.writeBarred, low]
    exact ⟨_, memWrite_clause adm h word range cls allowed (Or.inr settled), inside, outside, guardWrite_touch s1 false a d⟩
  case malformedMemRead =>
    rw [← adm.params] at bad
    exact exec_answers rfl adm (by decide) (opMemRead_malformed bad)
  case read =>
    exact ⟨fun two x read => memRead_recorder adm h word range (two ▸ cls) read, fun other x read => memRead_lines adm h word range cls other read⟩

end Sys2Proof.Machine
end
